-- ==== Sys2Proof/Word.lean ====
section
/-! DEFINITION. The word types of the model: an octet, and the list of octets that a payload or a
key is. Widths follow 00_scope.md R6 to R8. -/

namespace Sys2Proof

/-- One octet. -/
abbrev Byte := BitVec 8

/-- A string of octets in the order in which the manual lists them. -/
abbrev Bytes := List Byte

/-- The vector whose element `i` is `f i`. -/
def tab {α : Type} {n : Nat} (f : Fin n → α) : Vector α n := ⟨⟨List.ofFn f⟩, by simp⟩

@[simp] theorem get_tab {α : Type} {n : Nat} (f : Fin n → α) (i : Nat) (h : i < n) :
    (tab f)[i] = f ⟨i, h⟩ := by simp [tab]

/-- `v` with `f` applied to element `i`. -/
def upd {α : Type} {n : Nat} (v : Vector α n) (i : Fin n) (f : α → α) : Vector α n :=
  v.set i (f v[i])

theorem get_upd {α : Type} {n : Nat} (v : Vector α n) (i : Fin n) (f : α → α) (j : Nat)
    (h : j < n) : (upd v i f)[j] = if i.val = j then f v[i] else v[j] := by
  simp [upd, Vector.getElem_set]

/-- `v` with `f` applied to every element and its index. -/
def vmap {α β : Type} {n : Nat} (f : Fin n → α → β) (v : Vector α n) : Vector β n :=
  tab fun i => f i v[i]

@[simp] theorem get_vmap {α β : Type} {n : Nat} (f : Fin n → α → β) (v : Vector α n) (i : Nat)
    (h : i < n) : (vmap f v)[i] = f ⟨i, h⟩ v[i] := by simp [vmap]

end Sys2Proof
end

