-- ==== Sys2Proof/Syntax.lean ====
section
/-! DEFINITION. The commands of the block: one constructor of `Instr` for each row of the operation
and event table, with the operands the row takes, and the plain data types the operands use.
What the spec gives no formula for (a physical measurement, what a frame carries, what host memory
held, a filter's result) is an operand of the row that brings it about. -/

namespace Sys2Proof

/-- The mailbox, port or task a command comes from (14 R386, R387). -/
inductive Source where
  | mailbox (m : Fin 16)
  | emergency
  | task (t : Fin 4)
deriving DecidableEq, Repr

/-- The port that reaches the emergency mailbox (14 R388). -/
inductive Port where
  | pcie
  | spi
deriving DecidableEq, Repr

/-- A request as Scribe takes it: where it comes from, and the length in bytes of its body as
sent (14 R383, R384). Opcode, SEQUENCE and FLAGS stand in the source's own mailbox. -/
structure Req where
  src : Source
  len : Nat
deriving DecidableEq, Repr

/-- The body of a configure command (15 R409): INDEX, MASK, and one list of raw values for each
selected field, in table order (a scalar field is a list of one). -/
structure GReq where
  index  : Nat
  mask   : Nat
  fields : List (List Nat)
deriving DecidableEq, Repr

/-- A ZT128 as supplied (00 R10); its reserved field is ignored (R12). -/
structure ZT128 where
  seconds     : Nat := 0
  nanoseconds : Nat := 0
  fraction    : Nat := 0
deriving DecidableEq, Repr

/-- An entry of the leap table (07 R218). -/
structure LeapEntry where
  effective : Nat
  offset    : Int
deriving DecidableEq, Repr

/-- An item of a drift-model export or import (04 R130, 15 R418). -/
structure ModelItem where
  index      : Nat
  atomic     : Nat
  driftState : Nat
  y          : Int
  d          : Int
  sigmaY     : Nat
  sigmaD     : Nat
  exportTime : ZT128
deriving DecidableEq, Repr

/-- A VLAN-list entry (09 R262): the outer VID and the inner VID, `none` for ANY. -/
structure VlanEntry where
  outer : Nat
  inner : Option Nat
deriving DecidableEq, Repr

/-- A steering rule (09 R263, 15 R422), in the codes of the command body. -/
structure SteerRule where
  macMask   : Nat
  etherType : Nat
  vlan      : Nat
  ipProto   : Nat
  portLo    : Nat
  portHi    : Nat
  ring      : Nat
deriving DecidableEq, Repr

/-- An entry of a gate control list (10 R286). -/
structure GateEntry where
  gates    : Nat
  interval : Nat
deriving DecidableEq, Repr

/-- A satellite: constellation code and number (03 R100). -/
structure Sat where
  constellation : Nat
  number        : Nat
deriving DecidableEq, Repr

/-- An item of orbit data (03 R108): its octets, what it is (0 an ephemeris, 1 an almanac, 2 other parameters),
the time it was made, and whether its own CRC holds. -/
structure OrbitItem where
  octets : List Nat
  kind   : Nat
  epoch  : Nat
  crcOk  : Bool
deriving DecidableEq, Repr

/-! ### Frames -/

/-- One VLAN tag of a frame (09 R262). -/
structure Tag where
  tpid : Nat
  vid  : Nat
  pcp  : Nat := 0
  dei  : Nat := 0
deriving DecidableEq, Repr

/-- The IP header of a frame, as far as the checks of 09 R261 and 11 R297 read it. An address is the 16
octets of ADDRESS in 11 R296, read as a number with the first octet lowest. -/
structure IpHdr where
  v6       : Bool
  src      : Nat
  dst      : Nat
  options  : Bool    -- IPv4 options, or an IPv6 extension header
  headerOk : Bool    -- checksum, version, header length and total length agree
  fragment : Bool
  proto    : Nat
deriving DecidableEq, Repr

/-- What the UDP checksum of a frame shows. -/
inductive Csum where
  | ok
  | bad
  | zero
deriving DecidableEq, Repr

/-- The UDP header of a frame. -/
structure UdpHdr where
  srcPort : Nat
  dstPort : Nat
  csum    : Csum
deriving DecidableEq, Repr

/-- One extension field of an NTP message (11 R294, R297): its declared length in bytes, header
included, and its body. -/
inductive ExtField where
  | uid         (len : Nat) (body : List Nat)
  | cookie      (len : Nat) (body : Bytes)
  | placeholder (len : Nat) (bodyLen : Nat)
  | auth        (len : Nat) (nonce : Bytes) (ct : Bytes) (lengthsOk : Bool)
  | other       (len : Nat)
deriving DecidableEq, Repr

/-- An NTP message (11 R294 to R297). `badField` says that a field is shorter than 4 B, not a
multiple of 4 B or runs past the message, or that bytes follow the last field. -/
structure NtpMsg where
  length   : Nat
  version  : Nat
  mode     : Nat
  poll     : Int
  transmit : Nat
  fields   : List ExtField
  badField : Bool
  octets   : Bytes         -- the octets before the authenticator field: its associated data
deriving DecidableEq, Repr

/-- A unicast-negotiation TLV of a Signaling message (12 R323 to R326). -/
inductive NegTlv where
  | request (msgType : Nat) (log : Int) (duration : Nat)
  | cancel  (msgType : Nat)
  | ackCancel (msgType : Nat)
  | grant   (msgType : Nat) (log : Int) (duration : Nat)
deriving DecidableEq, Repr

/-- The authentication TLV of a PTP message (12 R331). -/
structure AuthTlv where
  spp      : Nat
  secParam : Nat
  keyId    : Nat
  res      : Bytes
  icv      : Bytes
deriving DecidableEq, Repr

/-- The dataset fields of a received Announce (12 R335, R337). -/
structure AnnounceData where
  clockClass    : Nat
  clockAccuracy : Nat
  variance      : Nat
  priority2     : Nat
  steps         : Nat
  grandmaster   : Nat
  bound         : Option Nat     -- DELIVERY_BOUND of a bound TLV under ORGANIZATION_ID
deriving DecidableEq, Repr

/-- A PTP message (12 R321). Codes of `msgType`: 0 Sync, 1 Delay_Req, 8 Follow_Up, 9 Delay_Resp,
0xB Announce, 0xC Signaling. An identity is read as a number with its first octet lowest. -/
structure PtpMsg where
  msgType    : Nat
  lengthOk   : Bool
  version    : Nat
  minor      : Nat
  domain     : Nat
  srcClock   : Nat
  srcPort    : Nat
  seqId      : Nat
  twoStep    : Bool
  correction : Int
  origin     : ZT128
  reqClock   : Nat
  reqPort    : Nat
  logInterval : Int
  announce   : AnnounceData
  neg        : List NegTlv
  unknownTlv : Nat
  auth       : List AuthTlv
  authLast   : Bool
  octets     : Bytes
deriving DecidableEq, Repr

/-- What a frame carries above its headers. -/
inductive Payload where
  | ntp   (m : NtpMsg)
  | ptp   (m : PtpMsg)
  | other (octets : Nat)
deriving DecidableEq, Repr

/-- A received Ethernet frame (09 R261). `sub` is the fraction of the tick at which its stamp point
crossed the raw plane, in units of 2^-40 ns; `length` counts from destination address to FCS; an address
is read as a number with its first octet lowest. -/
structure Frame where
  mac       : Fin 16
  sub       : Nat
  pcsError  : Bool
  fcsOk     : Bool
  length    : Nat
  da        : Nat
  sa        : Nat
  etherType : Nat
  tags      : List Tag
  ip        : Option IpHdr
  udp       : Option UdpHdr
  payload   : Payload
deriving DecidableEq, Repr

/-- A received pause frame (09 R266, R267): opcode 0x0001 with one time, or 0x0101 with an enable
bit and a time for each class. -/
structure PauseFrame where
  pcsError : Bool
  fcsOk    : Bool
  length   : Nat
  da       : Nat
  opcode   : Nat
  time     : Nat
  enables  : Nat
  times    : List Nat
deriving DecidableEq, Repr

/-- A transmit descriptor as fetched (14 R395). `octets` names the frame the buffer held. -/
structure TxDesc where
  buffer      : Nat
  length      : Nat
  mac         : Nat
  stampInsert : Nat
  flags       : Nat
  stampOffset : Nat
  launchAt    : ZT128
  octets      : Nat
deriving DecidableEq, Repr

/-! ### Measurements -/

/-- What the ensemble filter, run by Scribe, gives at an update (04 R126, R131 to R137): the
estimates for which the manual states a model and no formula over registers. -/
structure FilterResult where
  ensembleMinusDevice : Int     -- E minus device time, 2^-16 ns
  deviceMinusAnchor   : Int     -- device offset relative to the anchor
  frequency           : Int     -- ZF64, relative to the anchor
  prediction          : Int     -- R137, where no reference is SELECTED
  predictionRate      : Int     -- ZF64, at which the predicted offset moves while the ensemble carries time
  sigmaX              : Nat     -- standard deviation of E's phase, 2^-60 s
  estimates           : List (Nat × Int × Int × Nat × Nat)   -- member, y, d, sigma_y, sigma_d
deriving DecidableEq, Repr

/-- A satellite as an epoch's solution finds it (03 R100, R116 to R118). -/
structure SatMeas where
  sat        : Sat
  unhealthy  : Bool           -- its own message says so
  cn0        : Nat            -- 0.1 dB-Hz
  distortion : Nat            -- metric of the peak's shape, 1/1,000
  multipath  : Nat            -- delay estimate, ps
  slantIon   : Nat            -- modelled slant ionosphere delay, ps
  slantTrop  : Nat            -- modelled slant troposphere delay, ps
  residual   : Nat            -- of the satellite against the solution without it, ps
  orbitJump  : Nat            -- new ephemeris against the orbit of the previous one, mm
  weekJump   : Bool           -- its time of week jumps
deriving DecidableEq, Repr

/-- What a port's channels and its solution give at an epoch (03 R115 to R120). -/
structure GnssEpoch where
  port          : Fin 2
  offset        : Option Int         -- the solution, 2^-16 ns
  frequency     : Int
  sats          : List SatMeas
  tdop          : Nat                -- 0.01
  rms           : Nat                -- RMS of the residuals, ps
  noise         : Nat                -- tracking-noise estimate from C/N0, ps
  cn0           : Nat                -- median, 0.01 dB-Hz
  refPick       : Nat                -- the reference constellation where none has four satellites
  atomicPhase   : Int                -- device time minus the time of the atomic-only ensemble (04 R138), 2^-16 ns
  coherent      : Bool               -- an EXTERNAL front-end's LO is coherent with its sample clock
  noiseTap      : Int                -- noise-tap level, 0.1 dB
  position      : Option (Int × Int × Int) -- background position solution in HOLD, mm
  separate      : List (Nat × Int)   -- constellation and its separate solution less the bias, 2^-16 ns
  leapCounts    : List (Nat × Int)
deriving DecidableEq, Repr

/-- The header and payload of a stack-link frame as received (16 R436), after its CRC. -/
structure StackHdr where
  link    : Fin 2
  crcOk   : Bool
  version : Nat
  typeOk  : Bool          -- TYPE known, KEY that of R437
  src     : Fin 8
  dst     : Nat
  hops    : Nat
  key     : Nat
  term    : Nat
  seq     : Nat
  tagOk   : Bool          -- the GCM tag opens under the named key
deriving DecidableEq, Repr

/-- A pairing offer (16 R443). -/
structure HelloMsg where
  position  : Nat
  lifecycle : Nat
  intent    : Nat
  deviceId  : Nat
  peerId    : Nat
  fwSecVersion : Nat
  tamperEvents : Nat
  bootCount : Nat
  term      : Nat
  members   : Nat
  chainOk   : Bool        -- the certificate chain verifies to the Nelrath root
  formOk    : Bool        -- fits R436 and the table of R443
  adjacent  : Bool        -- position adjacent to the member it is heard on (R432)
  octets    : Bytes
deriving DecidableEq, Repr

/-- One replicated key record (16 R437). -/
structure KeyRecord where
  slot     : Nat
  keyType  : Nat
  state    : Nat
  gen      : Nat
  keyId    : Nat
  retireAt : Nat
  material : Bytes
  bases    : List Nat
deriving DecidableEq, Repr

/-- A nonce base reported in an ACK (16 R437). -/
structure BaseReport where
  slot   : Nat
  engine : Nat
  keyId  : Nat
  base   : Nat
deriving DecidableEq, Repr

/-- An entry of the PTP session table (12 R322). STATE: 0 FREE, 1 ACTIVE, 2 CANCELLING. -/
structure Session where
  state         : Nat := 0
  service       : Nat := 0
  mac           : Nat := 0
  flags         : Nat := 0
  peerIp        : Nat := 0
  eventPort     : Nat := 0
  generalPort   : Nat := 0
  clockId       : Nat := 0
  portNumber    : Nat := 0
  vlanEntry     : Nat := 0xFF
  pcpIn         : Nat := 0
  syncLog       : Int := 0x7F
  announceLog   : Int := 0x7F
  delayLog      : Int := 0x7F
  syncExpiry    : Nat := 0
  announceExpiry : Nat := 0
  delayExpiry   : Nat := 0
  phase         : Nat := 0
  syncSeq       : Nat := 0
  announceSeq   : Nat := 0
  saIndex       : Nat := 0xFFFF
  delayCount    : Nat := 0
deriving DecidableEq, Repr

/-- A replicated configuration record (16 R447). -/
structure ConfigRecord where
  opcode : Nat
  body   : GReq
deriving DecidableEq, Repr

/-- What the boot sequence finds in the world at the rising edge of RESET_N (18 R487, R493, R495,
13 R372): straps, bank voltages in millivolts, and the judgement of each image slot in the codes
of 15 R415; `drbgFails` when the start-up health tests fail. -/
structure BootInputs where
  straps      : Fin 8
  vddo        : List Nat
  slot0Result : Nat
  slot1Result : Nat
  rootOk      : Bool        -- the live root cell's check value holds
  damaged     : List Nat    -- key slots whose record fails CHECK or CHECK12
  drbgFails   : Bool
deriving DecidableEq, Repr

/-- The answer of a selection hook (14 R407). -/
structure HookAnswer where
  evalSeq   : Nat
  action    : Nat
  preferred : Nat
  veto      : Nat
deriving DecidableEq, Repr

/-- A message from a PTP master taken by the client role (12 R335, R336), with its ingress stamp. -/
structure ClientMsg where
  entry : Fin 16
  msg   : PtpMsg
  stamp : Nat
deriving DecidableEq, Repr

/-- The transaction whose data an uncorrectable SRAM error hit (17 R473): a reservation by its name,
or a request that waits for an engine, by its place. -/
inductive Victim where
  | reservation (id : Nat)
  | ntsRequest (place : Nat)
  | ptpRequest (place : Nat)
deriving DecidableEq, Repr

/-- The commands of the block: one constructor for each row of the table. -/
inductive Instr where
  -- Commands of the system and speed-mode area (15 R414)
  | speedMode (r : Req) (mode : Nat)
  | timeSet (r : Req) (t0 : ZT128) (setAt : Nat)
  | timeStep (r : Req) (amount : Int)
  | timeRestart (r : Req)
  | leapTable (r : Req) (base : Int) (expiry : Nat) (entries : List LeapEntry)
  | bootReport (r : Req)
  | scribeRestart (r : Req)
  | deviceReset (r : Req) (deviceId : Nat)
  | mailboxReset (r : Req)
  | firmwareWrite (r : Req) (slot slotOffset length : Nat)
  | firmwareStage (r : Req) (slot : Nat)
  | firmwareConfirm (r : Req)
  | userLoad (r : Req) (length header : Nat)
  | userUnload (r : Req)
  -- References (15 R416)
  | referenceConfigure (r : Req) (g : GReq)
  | monitorConfigure (r : Req) (g : GReq)
  | selectionConfigure (r : Req) (g : GReq)
  | referenceEnable (r : Req) (index enable : Nat)
  | referenceRelease (r : Req) (index action : Nat)
  | referenceReject (r : Req) (index : Nat)
  | forceSelect (r : Req) (index : Nat)
  | temperatureReport (r : Req) (index : Nat) (temp : Int)
  | selectionHook (r : Req) (action : Nat)
  | referenceStatus (r : Req) (first count : Nat)
  -- Ductus and Margin (15 R418)
  | ductusConfigure (r : Req) (g : GReq)
  | clockModel (r : Req) (g : GReq)
  | dpllConfigure (r : Req) (g : GReq)
  | dpllEnable (r : Req) (channel enable : Nat)
  | modelExport (r : Req)
  | modelImport (r : Req) (items : List ModelItem)
  | marginConfigure (r : Req) (g : GReq)
  | ductusStatus (r : Req)
  | marginStatus (r : Req)
  -- Outputs and events (15 R421)
  | apllConfigure (r : Req) (g : GReq)
  | outputConfigure (r : Req) (g : GReq)
  | realign (r : Req) (channelMask evoutMask frameMask rate : Nat)
  | evoutProgram (r : Req) (g : GReq)
  | evinConfigure (r : Req) (g : GReq)
  | loopbackCheck (r : Req) (source count : Nat) (tolerance : Int)
  | outputStatus (r : Req)
  -- Ports and egress (15 R422)
  | portMode (r : Req) (mode : Nat)
  | portConfigure (r : Req) (g : GReq)
  | vlanList (r : Req) (mac : Nat) (entries : List VlanEntry)
  | steeringTable (r : Req) (rules : List SteerRule)
  | queueConfigure (r : Req) (g : GReq)
  | egressConfigure (r : Req) (g : GReq)
  | gateList (r : Req) (mac : Nat) (cycle : Nat) (base : ZT128) (entries : List GateEntry)
  | portStatus (r : Req) (mac : Nat)
  | egressStatus (r : Req) (mac : Nat)
  -- NTS (15 R423)
  | serviceAddressConfigure (r : Req) (g : GReq)
  | rotationConfigure (r : Req) (g : GReq)
  | rotateNow (r : Req)
  | invalidateKey (r : Req) (keyId : Nat)
  | cookieMint (r : Req) (entries : Nat)
  | policingProfile (r : Req) (g : GReq)
  | ntsStatus (r : Req) (address : Nat)
  -- PTP (15 R424)
  | ptpServiceConfigure (r : Req) (g : GReq)
  | ptpGlobalConfigure (r : Req) (g : GReq)
  | sessionRead (r : Req) (first count : Nat)
  | saConfigure (r : Req) (g : GReq)
  | keyReplace (r : Req) (sa which keyId handle : Nat)
  | saInvalidate (r : Req) (sa : Nat)
  | clientEntry (r : Req) (g : GReq)
  | clientConfigure (r : Req) (g : GReq)
  | ptpStatus (r : Req) (address : Nat)
  -- Keys and life cycle (15 R425)
  | lifeCycle (r : Req) (fromState target deviceId : Nat)
  | zeroise (r : Req) (deviceId : Nat)
  | tamperConfigure (r : Req) (g : GReq)
  | attestation (r : Req) (nonce : Bytes) (sigAlg : Nat)
  | identityRead (r : Req)
  | attestRotate (r : Req)
  | importRotate (r : Req)
  | keyImport (r : Req) (sa which algorithm keyId : Nat)
  | saKeyDerive (r : Req) (sa which keyId : Nat) (context : Bytes)
  | saKeyExport (r : Req) (sa : Nat)
  | seal (r : Req) (length : Nat) (label : Bytes)
  | unseal (r : Req) (length : Nat)
  | entropySample (r : Req) (count : Nat)
  | keyStatus (r : Req) (first count : Nat)
  -- GNSS (15 R426)
  | gnssPortConfigure (r : Req) (g : GReq)
  | trackingConfigure (r : Req) (g : GReq)
  | consistencyConfigure (r : Req) (g : GReq)
  | exclusionList (r : Req) (entries : List Sat)
  | positionSet (r : Req) (port : Nat) (x y z : Int) (unc : Nat)
  | fixConfigure (r : Req) (g : GReq)
  | orbitExport (r : Req)
  | orbitImport (r : Req) (items : List OrbitItem)
  | groupDelayMeasure (r : Req) (port duration : Nat)
  | snapshot (r : Req) (trigger evin duration overwrite : Nat) (start : ZT128)
  | snapshotRelease (r : Req)
  | snapshotExport (r : Req) (hostAddr length : Nat)
  | gnssStatus (r : Req) (port : Nat)
  | groupDelayResult (r : Req) (port : Nat)
  -- Nib (15 R427)
  | channelAllocate (r : Req)
  | channelRelease (r : Req) (channel : Nat)
  | channelConfigure (r : Req) (g : GReq)
  | streamConfigure (r : Req) (g : GReq)
  | channelStatus (r : Req) (first count : Nat)
  -- Stack (15 R428)
  | stackConfigure (r : Req) (g : GReq)
  | pair (r : Req) (link peerDeviceId : Nat)
  | detach (r : Req)
  | witness (r : Req) (verdict term : Nat)
  | stackStatus (r : Req)
  -- Counters, wear and calibration (15 R429)
  | calibrationRead (r : Req) (offset length : Nat)
  | calibrationWrite (r : Req) (generation offset : Nat) (data : Bytes)
  | calibrationDigest (r : Req)
  | counterRead (r : Req) (first count : Nat)
  | filterConfigure (r : Req) (g : GReq)
  | wearLedgerRead (r : Req) (first count : Nat)
  | persistentLog (r : Req) (first count : Nat)
  -- Read-backs (15 R411)
  | referenceConfigureReadBack (r : Req) (index : Nat)
  | monitorConfigureReadBack (r : Req) (index : Nat)
  | selectionConfigureReadBack (r : Req) (index : Nat)
  | ductusConfigureReadBack (r : Req) (index : Nat)
  | clockModelReadBack (r : Req) (index : Nat)
  | dpllConfigureReadBack (r : Req) (index : Nat)
  | marginConfigureReadBack (r : Req) (index : Nat)
  | apllConfigureReadBack (r : Req) (index : Nat)
  | outputConfigureReadBack (r : Req) (index : Nat)
  | evoutProgramReadBack (r : Req) (index : Nat)
  | evinConfigureReadBack (r : Req) (index : Nat)
  | portConfigureReadBack (r : Req) (index : Nat)
  | queueConfigureReadBack (r : Req) (index : Nat)
  | egressConfigureReadBack (r : Req) (index : Nat)
  | serviceAddressConfigReadBack (r : Req) (index : Nat)
  | rotationConfigureReadBack (r : Req) (index : Nat)
  | policingProfileReadBack (r : Req) (index : Nat)
  | ptpServiceConfigureReadBack (r : Req) (index : Nat)
  | ptpGlobalConfigureReadBack (r : Req) (index : Nat)
  | saConfigureReadBack (r : Req) (index : Nat)
  | clientEntryReadBack (r : Req) (index : Nat)
  | clientConfigureReadBack (r : Req) (index : Nat)
  | tamperConfigureReadBack (r : Req) (index : Nat)
  | gnssPortConfigureReadBack (r : Req) (index : Nat)
  | trackingConfigureReadBack (r : Req) (index : Nat)
  | consistencyConfigureReadBack (r : Req) (index : Nat)
  | fixConfigureReadBack (r : Req) (index : Nat)
  | channelConfigureReadBack (r : Req) (index : Nat)
  | streamConfigureReadBack (r : Req) (index : Nat)
  | stackConfigureReadBack (r : Req) (index : Nat)
  | filterConfigureReadBack (r : Req) (index : Nat)
  -- System calls of user tasks (14 R406); `block` is the user-area offset of the parameter block
  | commandCall (t : Fin 4) (block opcode sequence length flags : Nat)
  | eventWait (t : Fin 4) (block areaMask timeout : Nat)
  | timeCall (t : Fin 4) (block : Nat)
  | sleep (t : Fin 4) (block microseconds : Nat)
  | hookWait (t : Fin 4) (block : Nat)
  | hookAnswer (t : Fin 4) (block : Nat) (answer : HookAnswer)
  | signalSet (t : Fin 4) (block handler : Nat)
  | signalReturn (t : Fin 4)
  | exit (t : Fin 4)
  | unknownSystemCall (t : Fin 4) (number : Nat)
  | taskReturn (t : Fin 4)
  | userTaskFault (t : Fin 4) (instruction : Bool)
  | sleepExpiry (t : Fin 4)
  | eventWaitTimeout (t : Fin 4)
  | hookTimeout (t : Fin 4)
  -- Host interface (14)
  | mailboxDoorbell (m : Fin 16)
  | emergencyDoorbell (p : Port)
  | emClaim (p : Port)
  | emRelease (p : Port)
  | emOwnershipTimeout
  | adminLock
  | cwLatch
  | dpDataRead
  | dpDataWrite (value : Nat)
  | bar2Access (addr size : Nat) (write : Option Nat)
  | dpDmaGo (value : Nat)
  | dpDmaComplete (hostData : Bytes)
  | dpInject (slot : Fin 64)
  | ringEnable (tx : Bool) (ring : Fin 64) (value : Nat)
  | ringDisable (tx : Bool) (ring : Fin 64) (value : Nat)
  | ringTailWrite (tx : Bool) (ring : Fin 64) (tail : Nat)
  | pqFlush (q : Fin 5)
  | pqConsumerWrite (q : Fin 5) (value : Nat)
  | panQueuePop (q : Fin 5)
  | lowHalfRead (addr : Nat)
  | registerWrite (addr size value : Nat)
  | spiRead (addr words : Nat)
  | spiWrite (addr : Nat) (words : List Nat)
  | interruptHoldoffEnd (v : Fin 64)
  | watchdogExpiry
  | hostSideReset
  | d3hotEntry
  | resetAssert
  | resetRelease (b : BootInputs)
  | supervisorStart
  | scribeRestartComplete (regions : Nat)
  | tamperDetected (detector : Nat) (onBattery : Bool)
  | lifeCycleComplete
  -- Power, speed modes and wear (01, 17, 18)
  | thermtrip
  | thermalGuard
  | temperatureSample (sensors : List Int)
  | modeReservationsDrained
  | supplySetPointReached
  | paceWithinGoverningRatio
  | governingWaitTimeout
  | regulatorTimeout
  | paceUpdate (nts ptp sched host device : Nat)
  | paceMirrorUpdate (largest : List Nat)
  | wearRatioUpdate (means : List Nat) (junctionMean : Int)
  | bistFailure (cls unit : Nat)
  | wornUnitRetired (cls unit : Nat)
  | scribeCoreTakeover (core : Nat)
  | eccError (subarray : Fin 256) (row column : Nat) (uncorrectable : Bool)
      (unit : Option (Nat × Nat)) (victim : Option Victim)
  | sramRepairComplete (subarray : Fin 256)
  | filteredCounterWrap (n : Fin 32)
  | counterOverflowSignal (n : Fin 32) (resume : Nat)
  -- Ethernet ports and egress (09, 10)
  | frameReceived (f : Frame)
  | pauseFrame (mac : Fin 16) (p : PauseFrame)
  | pauseWindowOpen (mac : Fin 16) (cls : Fin 8)
  | pauseWindowClose (mac : Fin 16) (cls : Fin 8)
  | pauseBudgetExhausted (mac : Fin 16)
  | pauseBudgetRestore (mac : Fin 16)
  | linkUp (mac : Fin 16)
  | linkDown (mac : Fin 16) (reason : Nat)
  | laneSkewChange (mac : Fin 16) (lane : Nat) (skew : Int)
  | lpiEntry (mac : Fin 16)
  | lpiWake (mac : Fin 16)
  -- Services (11, 12)
  | ntsTransaction (engine : Fin 26)
  | ptpTransaction (engine : Nat)
  | negotiation
  | grantExpirySweep
  | cancellingTimeout (address : Fin 16)
  | scheduledMessage (client : Bool) (index msgType : Nat)
  | ptpClientMessage (m : ClientMsg)
  | grantRenewal (entry : Fin 16) (msgType : Nat)
  | announceTimeout (entry : Fin 16)
  | followUpTimeout (entry : Fin 16)
  | measIntervalEnd (ptpu : Fin 4)
  | pathStableExpiry (ptpu : Fin 4)
  | policingBankSwap
  | sealDeadlineMissed (mac : Fin 16) (id : Nat)
  | strokeLaunch (mac : Fin 16) (id : Nat)
  | hostTimedReserve (ring : Fin 64)
  | transmitDescriptor (ring : Fin 64) (d : TxDesc)
  | untimedFrameStart (mac : Fin 16)
  | frameTransmitted (mac : Fin 16)
  | gateListStart (mac : Fin 16)
  | gateEntryBoundary (mac : Fin 16)
  | panQueueItemCommit (q : Fin 5)
  | panQueueDelivery (q : Fin 5)
  -- Time counter (07)
  | handover
  | timeStepApply
  | recoveryStart
  | clockRestart (xoEdges : Nat) (xoLost : Bool)
  | leapTableExpiry
  | evinEdge (evin : Fin 8) (rising : Bool) (sub : Nat)
  | evoutPulse (evout : Fin 8)
  -- Nib (08)
  | nibEdge (channel : Fin 24) (falling : Bool) (sub : Nat)
  | nibLockUpdate (channel : Fin 24) (lineB : Bool) (held endOfTrim : Bool)
  | nibLineSwap (channel : Fin 24) (worn : Option (Nat × Bool))
  | nibPairTimeout (channel : Fin 24)
  | nibGateEnd (channel : Fin 24)
  -- References (02)
  | referenceEvaluation
  | activityDeadline (ref : Fin 20)
  | frequencyGateEnd (ref : Fin 20) (ensemble : Int)
  | phaseAverageEnd (ref : Fin 20)
  | qualTimeExpiry (ref : Fin 20)
  | wtrExpiry (ref : Fin 20)
  | switchMeasureEnd
  | switchComplete
  | disagreementCheck (first second : Option Int)
  -- GNSS (03)
  | gnssEpoch (e : GnssEpoch)
  | satelliteExclusionEnd (port : Fin 2) (sat : Sat)
  | checkClear (port : Fin 2) (check : Fin 8)
  | gnssClockFault (port : Fin 2)
  | gnssClockRestored (port : Fin 2)
  | correlatorDump (channel : Fin 200) (codeWord carrierWord : Nat) (next : Nat) (cn0 : Nat)
      (assign : Option (Fin 2 × Sat × Nat))
  | channelTimeout (channel : Fin 200)
  | gnssHistogram (port : Fin 2) (inPhase quadrature : List Nat)
  | surveyComplete (port : Fin 2) (x y z : Int) (unc horizontal vertical : Nat)
  | snapshotArmedStart
  | snapshotComplete (samplesA samplesB : Nat) (periodA periodB : Int) (octets : Nat)
  | snapshotExportComplete
  | groupDelayMeasureEnd (port : Fin 2) (means : List Int) (errors : List Nat)
  -- Ductus and Margin (04, 05)
  | ductusUpdate (f : FilterResult)
  | lockDwellExpiry
  | xoLostClear
  | updateTimeout
  | dpllTracking (channel : Fin 6)
  | dpllPulling (channel : Fin 6)
  | marginEvaluation (freezeGap : Nat)
  | statementSigned
  | boundStale
  | boundStaleSaturation
  | classHoldExpiry (mac : Fin 16)
  -- Synthesis (06)
  | apllLock (apll : Fin 8)
  | apllSlip (apll : Fin 8)
  | apllReengageTimeout (apll : Fin 8)
  | limiterGate (apll : Fin 8) (excursion : Nat)
  | outputAlignedStart (ckout : Fin 16)
  | realignSlewEnd (channel : Fin 6)
  | frameStep (evout : Bool) (index : Nat)
  | loopbackComplete (source : Nat) (mean std : Int)
  -- Cookie master keys, key store, firmware (11, 13)
  | rotationCheck
  | keyActivation
  | keyRetire
  | mintComplete
  | keyWriteCommit (slot : Nat)
  | compactionComplete
  | drbgReseed
  | healthTestFailure (adaptive : Bool)
  | attestationReady
  | entropySampleComplete (samples : Bytes)
  | firmwareWriteComplete
  | firmwareStageComplete (result : Nat)
  -- Stack (16)
  | stackLinkUp (link : Fin 2)
  | stackLinkDown (link : Fin 2)
  | markerSend (link : Fin 2) (sub : Nat)
  | markerReceived (link : Fin 2) (number : Nat) (checkOk : Bool) (sub : Nat)
  | stackTransferInterval (link : Fin 2)
  | hello (h : StackHdr) (m : HelloMsg)
  | confirm (h : StackHdr) (sigOk : Bool)
  | admission (h : StackHdr) (verdict : Nat)
  | heartbeat (h : StackHdr) (role position ductusState flags members deviceId : Nat)
  | tt (h : StackHdr) (txMarker rxMarker : Nat) (tTx tRx : Nat) (coreBound growth : Nat)
      (horizon : Nat) (recordSeq bootCount anchorKind chain : Nat)
  | state (h : StackHdr) (octets : Bytes)
  | config (h : StackHdr) (records : List ConfigRecord)
  | session (h : StackHdr) (entries : List Session)
  | key (h : StackHdr) (k : KeyRecord)
  | ack (h : StackHdr) (ackedType ackedSeq : Nat) (bases : List BaseReport)
  | activate (h : StackHdr) (keyId oldKeyId : Nat) (a : ZT128) (retireAt : Nat)
  | resign (h : StackHdr) (newTerm : Nat)
  | leave (h : StackHdr) (position : Fin 8)
  | stackFrameRelay (h : StackHdr)
  | heartbeatSend
  | heartbeatMiss (link : Fin 2)
  | replicationRetransmit (id : Nat)
  | stateSend
  | pairingStepTimeout
  | witnessTimeout
  | stackKeySwitch
  | stackOldKeyExpiry
  | detachAckTimeout
  -- Power and link
  | powerFailure
  | pcieLinkReturn
  | aliveIncrement
deriving DecidableEq, Repr

end Sys2Proof
end

