-- ==== Sys2Proof/Decode.lean ====
section
/-! DEFINITION. No row of the operation and event table gives bits: the block takes its commands through
mailboxes, registers, pins and links, whose values are operands of the rows. So no word spells a
command. -/

namespace Sys2Proof

/-- The command that a word of the table's bits spells: none, since no row gives bits. -/
def decodeTableWord (_nbits _w : Nat) : Option Instr := none

end Sys2Proof
end

