-- ==== Sys2Proof/Config.lean ====
section
/-! DEFINITION. What one part fixes and what the manual leaves open: uninterpreted constants with no
body, so that no proof can lean on a value. Fresh values are taken at a counter held in State.
The cryptographic primitives of the outside standards (00_scope.md R23) stand here as functions
of their inputs and nothing more. -/

namespace Sys2Proof.Config

/-- The fused DEVICE_ID, 16 octets read as a number, octet 0 lowest (13 R346, 14 ID_DEVICE). -/
opaque deviceId : Nat

/-- The fused EUI-64, the default CLOCK_IDENTITY (12 R320). -/
opaque eui64 : Nat

/-- The fused identity seed (13 R346). -/
opaque identitySeed : Bytes

/-- FREE VALUE: octet `i` of the `n`-th random draw of the DRBG (13 R368). -/
opaque freeByte : Nat → Nat → Byte

/-- FREE VALUE: octets of the descriptors of the slots that hold identity and ladder keys, which 13 R357
assigns to ranges of slots only. -/
opaque ladderByte : Nat → Nat → Byte

/-- FREE VALUE: which port wins two claims at one instant (14 R388), and other open choices. -/
opaque freeChoice : Nat → Bool

/-- FREE VALUE: octet `a` of the calibration record in the sections that the factory measures
(08 R235, 09 R259, 16 R440, 17 R476). -/
opaque factoryByte : Nat → Byte

/-- FREE VALUE: a number that the manual leaves open or does not state, at a counter. -/
opaque freeNat : Nat → Nat

/-- FREE VALUE: a signed number that the manual leaves open or does not state, at a counter. -/
opaque freeInt : Nat → Int

/-- FREE VALUE: BUFFER_SIZE of a receive descriptor in host memory, by ring, index and the frames that the
ring has taken (14 R396). -/
opaque rxBufferSize : Nat → Nat → Nat → BitVec 16

/-- t_DEAD of a Nib channel, of which 08 R238 gives a typical and a maximum value, in units of
2^-40 tick. -/
opaque nibDeadTime : Nat

/-- FREE VALUE: where the alignment markers and FEC overhead of a port lie (10 R275), of which the manual gives no
instant: for the phase since its link came up, PORT_MODE and calendar instants `a` and `b`, how far beyond `a` the
occupancy ends that meets [a, b), less one; none where none does. -/
opaque markerMeets : Nat → Nat → Nat → Nat → Option Nat

/-- The keyed hash of the policing sketch (11 R313): source and row to a counter of that row. -/
opaque sketchHash : Nat → Nat → Nat

/-- AEAD_AES_SIV_CMAC (RFC 5297): key, associated data, nonce, plaintext to SIV and ciphertext. -/
opaque sivSeal : Bytes → List Bytes → Bytes → Bytes → Bytes

/-- AEAD_AES_SIV_CMAC opened: `none` when the SIV check fails. -/
opaque sivOpen : Bytes → List Bytes → Bytes → Bytes → Option Bytes

/-- The KDF of SP 800-108 with HMAC-SHA-256 (13 R348): key, label, context, bits. -/
opaque kdf : Bytes → String → Bytes → Nat → Bytes

/-- SHA-384 and SHA-256. -/
opaque sha384 : Bytes → Bytes
opaque sha256 : Bytes → Bytes

/-- ICV of an authentication TLV (12 R331): algorithm, key, IV, message. -/
opaque icv : Nat → Bytes → Bytes → Bytes → Bytes

/-- A signature (05 R172, 13 R347): algorithm, private key, message. -/
opaque sign : Nat → Bytes → Bytes → Bytes

/-- The public key of a private key: algorithm, private key. -/
opaque publicKey : Nat → Bytes → Bytes

/-- The certificates of IDK_P384 in the boot flash: CHAIN_COUNT and CHAIN of a HELLO (16 R443). -/
opaque certificateChain : Bytes

/-- The ECDH shared point of a private key and a public key, `none` for an invalid point. -/
opaque ecdh : Bytes → Bytes → Option Bytes

/-- AES-256 key wrap and unwrap (SP 800-38F). -/
opaque keyWrap : Bytes → Bytes → Bytes
opaque keyUnwrap : Bytes → Bytes → Option Bytes

/-- FREE VALUE: octet `a` of what the boot flash holds in image slot `i` at manufacture (13 R371). -/
opaque imageByte : Nat → Nat → Byte

/-- The anti-rollback fuse count at manufacture (13 R372). -/
opaque rollbackFuses : Nat

/-- The smallest Tw_sys_tx that IEEE 802.3 gives for a PORT_MODE and SPLIT (09 R254). -/
opaque twMin : Nat → Bool → Nat

/-- The reduction d = (c mod (n - 1)) + 1 of a 448-bit output to a P-384 private key (13 R349). -/
opaque reduceP384 : Bytes → Bytes

end Sys2Proof.Config
end

