-- ==== Sys2Proof/Machine/StateKey.lean ====
section
/-! DEFINITION. State of the keys and the life cycle (13), of the boot flash's images, of the twin and
stack operation (16) and of wear, counters and calibration (17). Each field's default is its reset
value; a value that a reset keeps stands at the value the part is shipped with. -/

namespace Sys2Proof.Machine

/-- A piece of memory by byte: address and byte, in canonical form (see Machine/Ops.lean). -/
structure Memory where
  cells : List Host.Cell := []
deriving DecidableEq, Repr

/-! ### Key store -/

/-- A root cell of the brine store (13 R339). `present` is false once it is zeroised. -/
structure RootCell where
  present : Bool := false
  root    : Bytes := []
  epoch   : Nat := 0
  check   : Bytes := []
deriving DecidableEq, Repr

/-- A key slot (13 R357, R358). `state`: 0 EMPTY, 1 ACTIVE, 2 DAMAGED. -/
structure KeySlot where
  copyA   : Bytes := []
  copyB   : Bytes := []
  keyType : Nat := 0
  domain  : Nat := 0
  state   : Nat := 0
  activeB : Bool := false
  persist : Bool := false
  gen     : Nat := 0
  alloc   : Nat := 0
  classes : Nat := 0
deriving DecidableEq, Repr

/-- A journal word of MRAM (13 R359). -/
structure JournalWord where
  record  : Nat := 0
  copyB   : Bool := false
  valid   : Bool := false
  gen     : Nat := 0
  check12 : Nat := 0
deriving DecidableEq, Repr

/-- A record of the key-store area of the boot flash (13 R359); `dead` once programmed to 0x00. -/
structure FlashRecord where
  bank    : Bool
  number  : Nat
  slot    : Nat
  keyType : Nat
  copyB   : Bool
  gen     : Nat
  epoch   : Nat
  sealed  : Bytes          -- SIV and ciphertext
  dead    : Bool := false
deriving DecidableEq, Repr

/-- What the commit of a key write brings about beside the slot (13 R360). -/
inductive KeyUse where
  | saKey (sa which algorithm keyId : Nat) (derived : Bool)
  | cookie (generation : Fin 8)
  | stack (q : Fin 8)
  | replicated (record : KeyRecord) (link : Fin 2) (seq : Nat)
deriving DecidableEq, Repr

/-- A write of key material that has begun and not yet committed (13 R360). -/
structure KeyWrite where
  slot     : Nat
  keyType  : Nat
  material : Bytes
  use      : KeyUse
  source   : Option Source
deriving DecidableEq, Repr

/-- A tamper record (13 R345). -/
structure TamperRecord where
  seconds   : Nat
  bootCount : Nat
  detector  : Nat
  lifecycle : Nat
  flags     : Nat
deriving DecidableEq, Repr

/-- An image slot of the boot flash (13 R371, R373): its octets, 8 MiB from the header on (18 R494). `result` is the judgement in the codes of
15 R415; `written` says that firmware-write has filled it since the last stage. -/
structure FwSlot where
  image       : Memory := {}
  trial       : Bool := false
  trialFailed : Bool := false
  written     : Bool := false
  result      : Nat := 0
deriving DecidableEq, Repr

/-- A firmware write or stage that runs (13 R373). -/
structure FwJob where
  slot   : Fin 2
  stage  : Bool
  offset : Nat
  length : Nat
  source : Source
  seq    : Nat
deriving DecidableEq, Repr

/-- A life-cycle change that runs (13 R353, R355): by a command, or by a tamper. -/
structure LifeChange where
  target : Fin 4
  tamper : Bool
  source : Option (Source × Nat)
deriving DecidableEq, Repr

/-- An attestation report that is being signed (13 R347). -/
structure AttestJob where
  nonce  : Bytes
  sigAlg : Nat
  source : Source
  seq    : Nat
deriving DecidableEq, Repr

/-- 13 R339 to R373. -/
structure Keys where
  roots       : Vector RootCell 3 := Vector.replicate 3 {}
  tamperLatch : BitVec 16 := 0                 -- bit d for detector code d
  onBattery   : BitVec 16 := 0                 -- the latched bits that came on VBAT alone
  tamperIn    : Vector (Nat × Nat) 2 := Vector.replicate 2 (0, 0)     -- ENABLE, ACTIVE_LEVEL
  life        : Fin 4 := 1                     -- MRAM life-cycle word: STATE
  rootEpoch   : Nat := 1
  wipePending : Bool := false
  rootPending : Bool := false
  change      : Option LifeChange := none
  attestGen   : Nat := 1
  importGen   : Nat := 1
  bootCount   : Nat := 0
  tamperEvents : Nat := 0
  firstTampers : List TamperRecord := []
  lastTampers : List TamperRecord := []
  slots       : List (Nat × KeySlot) := []
  journal     : List (Nat × JournalWord) := []
  flash       : List FlashRecord := []
  bank        : Bool := false
  position    : Nat := 0
  compacting  : Bool := false
  writes      : List KeyWrite := []
  ladder      : Bool := false                  -- ladder keys are held in slots 2 to 31
  drbgReady   : Bool := false
  drbgCount   : Nat := 0
  failTicks   : List Nat := []                 -- device ticks of recent health-test failures
  entropyFail : Bool := false
  entropyJobs : List (Nat × Source × Nat) := []
  attests     : List AttestJob := []
  fw          : Vector FwSlot 2 := Vector.replicate 2 {}
  running     : Option (Fin 2) := none
  onTrial     : Bool := false
  fwJob       : Option FwJob := none
  fuseCount   : Nat := Config.rollbackFuses
  wipeFound   : Bool := false                  -- WIPE_PENDING found at boot (15 R415)
  userHash    : Option Bytes := none           -- SHA-384 of the loaded task image
deriving DecidableEq, Repr

/-! ### Stack -/

/-- 15 R428. -/
structure StackCfg where
  position : Nat := 0
  linkE    : Nat := 0
  linkW    : Nat := 0
  miss     : Nat := 20
  witness  : Nat := 1000
deriving DecidableEq, Repr

/-- A member as position `p` is known (16 R460). STATE 0 ABSENT, 1 JOINING, 2 MEMBER, 3 SUSPECT. -/
structure StackMember where
  deviceId  : Nat := 0
  bootCount : Nat := 0
  state     : Nat := 0
  linkUnc   : Nat := 2 ^ 48 - 1
deriving DecidableEq, Repr

/-- The 13 counters of 16 R461 per link; HEARTBEAT_LOST and PRIMARY_CONFLICT among them. -/
structure StackCounters where
  fcs : Nat := 0
  format : Nat := 0
  auth : Nat := 0
  replay : Nat := 0
  termStale : Nat := 0
  hops : Nat := 0
  pairFail : Nat := 0
  replTimeout : Nat := 0
  replReject : Nat := 0
  rttOutlier : Nat := 0
  heartbeatLost : Nat := 0
  primaryConflict : Nat := 0
  sessionFull : Nat := 0
deriving DecidableEq, Repr

/-- One exchange of two-way time transfer (16 R438): θ and round trip, 2^-16 ns. -/
structure Exchange where
  theta : Int
  trip  : Int
deriving DecidableEq, Repr

/-- What a neighbour's latest TT frame says of its bound (16 R438, R441). -/
structure PeerBound where
  core      : Nat := 2 ^ 48 - 1
  growth    : Nat := 0
  horizon   : Nat := 0
  recordSeq : Nat := 0
  bootCount : Nat := 0
  anchorKind : Nat := 0
  chain     : Nat := 0
deriving DecidableEq, Repr

/-- What a replication frame carries (16 R446). -/
inductive ReplBody where
  | key (k : KeyRecord)
  | config (opcode index : Nat)
  | session (es : List Session)
  | activate (keyId oldKeyId : Nat) (a retireAt : Nat)
  | resign (term : Nat)
  | leave (position : Nat)
deriving DecidableEq, Repr

/-- A frame as it left on a stack link (16 R436), before its payload is encrypted: header, IV, and the
payload's octets or, for a replication frame, its body. A relayed frame is not opened. -/
structure StackFrame where
  type    : Nat
  src     : Nat
  dst     : Nat
  hops    : Nat
  key     : Nat
  term    : Nat
  seq     : Nat
  iv      : Bytes := []
  payload : Bytes := []
  repl    : Option ReplBody := none
  relayed : Bool := false
deriving DecidableEq, Repr

/-- A stack link (16 R435 to R441); stamps in 2^-16 ns. `lastOut` is the frame sent last, `partner` the
payload of the neighbour's latest STATE frame. -/
structure StackLink where
  up        : Bool := false
  missed    : Nat := 0
  suspect   : Bool := false
  fresh     : Bool := false              -- a valid HEARTBEAT in the present interval
  marker    : Nat := 0                   -- number of the marker to send next
  sent      : List (Nat × Nat) := []     -- recent markers sent with the transmit stamp
  received  : List (Nat × Nat) := []     -- recent markers received with the receive stamp
  exchanges : List Exchange := []
  peer      : PeerBound := {}
  peerPos   : Option (Fin 8) := none
  counters  : StackCounters := {}
  channels  : Option (Fin 24 × Fin 24) := none
  lastOut   : Option StackFrame := none
  partner   : Bytes := []
deriving DecidableEq, Repr

/-- The stages of the pairing ceremony of 16 R442. -/
inductive PairStep where
  | hello
  | confirm
  | admission
  | replicate
deriving DecidableEq, Repr

/-- A pairing ceremony in progress. `source` is the pair command to complete. -/
structure Pairing where
  step    : PairStep
  link    : Fin 2
  peerId  : Nat
  intent  : Nat
  source  : Option (Source × Nat)
  nonce   : Nat                       -- the draw of this side's nonce and ephemeral key
  own     : Bytes := []               -- this side's HELLO payload
  peer    : Option HelloMsg := none
deriving DecidableEq, Repr

/-- A replication frame that is not yet acknowledged, with the SEQUENCE of each of its sends. -/
structure ReplFrame where
  id   : Nat
  dst  : Fin 8
  body : ReplBody
  seqs : List Nat := []
deriving DecidableEq, Repr

/-- 16 R432 to R461. Role 0 NONE, 1 PRIMARY, 2 TWIN, 3 FOLLOWER. -/
structure Stack where
  cfg      : StackCfg := {}
  paired   : Bool := false
  role     : Nat := 0
  position : Nat := 0xFF
  term     : Nat := 0
  fenced   : Bool := false
  witnessWait : Bool := false
  members  : Vector StackMember 8 := Vector.replicate 8 {}
  links    : Vector StackLink 2 := Vector.replicate 2 {}
  seqOut   : Vector Nat 10 := Vector.replicate 10 1      -- KEY 0, the stack key, the pair key of each peer
  seqIn    : List ((Nat × Nat) × Nat) := []              -- (sender, KEY), last accepted
  pairing  : Option Pairing := none
  frames   : List ReplFrame := []
  nextId   : Nat := 0
  bases    : List BaseReport := []                       -- nonce bases held by position 0
  drawn    : List BaseReport := []                       -- bases drawn here since the last ACK
  newKeyAt : Option Nat := none                          -- device second of the stack key switch
  newKey   : Option Bytes := none
  oldKey   : Option Bytes := none
  detaching : Option (Source × Nat) := none
  upstream : Option (Fin 2) := none                      -- the link of the STACK reference
deriving DecidableEq, Repr

/-! ### Counters, wear and calibration -/

/-- 17 R464. -/
structure FilterCfg where
  enable   : Nat := 0
  event    : Nat := 0x0D
  priv     : Nat := 0xF
  master   : Nat := 0x0003FFFF
  addrLo   : Nat := 0
  addrHi   : Nat := 0xFFFFFFFF
  cls      : Nat := 0x3F
  ovfIrq   : Nat := 0
  userRead : Nat := 0
  preset   : Nat := 0
deriving DecidableEq, Repr

/-- A filtered counter (17 R464, R467). `owed` says that a delivery is outstanding. -/
structure Filtered where
  cfg   : FilterCfg := {}
  count : Nat := 0
  ovf   : Bool := false
  owed  : Bool := false
deriving DecidableEq, Repr

/-- Where a unit stands (17 R471): a worn unit finishes the transactions it holds. -/
inductive UnitState where
  | service
  | worn
  | retired
  | spare
  | unavailable
deriving DecidableEq, Repr

/-- A unit with its consecutive counts of R470 and its corrected ECC errors. -/
structure WearUnit where
  state  : UnitState := .service
  w      : Nat := 0
  pMean  : Nat := 0
  n130   : Nat := 0
  n150   : Nat := 0
  warnedAgo : Nat := 0
  warned : Bool := false
  spareOf : Option Nat := none
  cause   : Nat := 0                -- why it left service
  ecc     : List Nat := []          -- device seconds of corrected errors in its own state memory
deriving DecidableEq, Repr

/-- An entry of the wear ledger's history (17 R475). -/
structure LedgerEntry where
  sequence  : Nat
  bootCount : Nat
  seconds   : Nat
  kind      : Nat
  cls       : Nat
  unit      : Nat
  spare     : Nat
  left      : Nat
  w         : Nat
  temp      : Int
  cause     : Nat
deriving DecidableEq, Repr

/-- A repair of a sub-array (17 R473): a row or a column and the spare it goes to; `running` while
its lines are copied. -/
structure SramRepair where
  column  : Bool
  line    : Nat
  spare   : Nat
  cause   : Nat
  running : Bool
deriving DecidableEq, Repr

/-- A 256 KiB sub-array (17 R473). `corrected` holds the errors of the last 86,400 s: row, column
and device second. -/
structure SubArray where
  corrected : List (Nat × Nat × Nat) := []
  repairs   : List SramRepair := []
deriving DecidableEq, Repr

/-- 17 R462 to R479. Units by class: 26 AES-SIV, 9 HMAC, 9 GMAC, 200 GNSS channels, 3 cores. -/
structure Wear where
  filters  : Vector Filtered 32 := Vector.replicate 32 {}
  siv      : Vector WearUnit 26 :=
    tab fun i => if i.val < 24 then {} else { state := .spare }
  hmac     : Vector WearUnit 9 :=
    tab fun i => if i.val < 8 then {} else { state := .spare }
  gmac     : Vector WearUnit 9 :=
    tab fun i => if i.val < 8 then {} else { state := .spare }
  channels : Vector WearUnit 200 :=
    tab fun i => if i.val < 192 then {} else { state := .spare }
  cores    : Vector WearUnit 3 :=
    tab fun i => if i.val < 2 then {} else { state := .spare }
  arrays   : List (Nat × SubArray) := []
  ledger   : List LedgerEntry := []
  sequence : Nat := 0
  calRecord : Memory := {}
  calGeneration : Nat := 1
  modeTouched : Bool := false                   -- the speed mode changed within the present second
deriving DecidableEq, Repr

end Sys2Proof.Machine
end

