-- ==== Sys2Proof/Machine/StateNet.lean ====
section
/-! DEFINITION. State of the Ethernet ports (09), of egress and Stroke (10), of the NTS service (11) and of
the PTP service (12). Each field's default is its reset value. Calendar instants are in units of
2^-40/25 ns (`calUnit` of them to a nanosecond), so that every launch grid of 10 R275 is whole. -/

namespace Sys2Proof.Machine

/-! ### Ethernet ports -/

/-- 09 R254, values as coded. -/
structure MacCfg where
  enable      : Nat := 0
  split       : Nat := 0
  fec         : Nat := 1
  an          : Nat := 0
  laneMap     : Nat := 0
  txPolarity  : Nat := 0
  rxPolarity  : Nat := 0
  macAddr     : List Nat := []
  mcast       : List Nat := []
  maxFrame    : Nat := 2000
  outerTpid   : Nat := 1
  untaggedOk  : Nat := 1
  pauseMode   : Nat := 0
  pauseBudget : Nat := 100
  lpiTx       : Nat := 0
  twTx        : Nat := 0
  lpiIdle     : Nat := 10000
  defaultRing : Nat := 0
deriving DecidableEq, Repr

/-- 09 R255: coded 0 to 2. -/
inductive MacState where
  | off
  | down
  | up
deriving DecidableEq, Repr

/-- 09 R270. -/
inductive LpiState where
  | active
  | asleep
  | waking
deriving DecidableEq, Repr

/-- A pause window (09 R267): its class, the queues it applies to by bit, its opening and its close as
physical instants (ticks of the system time clock in calendar units), which no step of device time
moves. -/
structure PauseWin where
  cls     : Nat
  queues  : Nat
  opening : Nat
  closing : Nat
  opened  : Bool := false
deriving DecidableEq, Repr

/-- A gate control list (10 R286, R287) with its start in 2^-16 ns; no entries: every gate open. -/
structure GateList where
  start   : Nat := 0
  cycle   : Nat := 0
  entries : List GateEntry := []
deriving DecidableEq, Repr

/-- 10 R273. -/
structure QueueCfg where
  cls      : Nat := 2
  quantum  : Nat := 2048
  rate     : Nat := 10000000
  burst    : Nat := 16384
  pfcClass : Nat := 0xFF
deriving DecidableEq, Repr

/-- What a frame on its way out is, as far as its end needs it: for an NTS answer the master keys by
KEY_ID that its transaction has read. -/
inductive Origin where
  | nts     (address : Fin 64) (keyIds : List Nat)
  | ptp     (address : Fin 16) (session : Nat)
  | sched   (session : Nat) (msgType : Nat)
  | clientReq (entry : Fin 16)
  | general (address : Fin 16)
  | ring    (r : Fin 64) (index : Nat)
  | inject  (slot : Fin 64)
deriving DecidableEq, Repr

/-- The addresses, ports, tags and marks with which a frame of the device leaves (09 R262, 11 R308). -/
structure Wire where
  da      : Nat := 0
  sa      : Nat := 0
  tags    : List Tag := []
  v6      : Bool := false
  src     : Nat := 0
  dst     : Nat := 0
  srcPort : Nat := 0
  dstPort : Nat := 0
  dscp    : Nat := 0
  hop     : Nat := 64
deriving DecidableEq, Repr

/-- How a PTP message is authenticated (12 R331): the SA's values, its key and the engine. -/
structure AuthSeal where
  spp       : Nat
  algorithm : Nat
  keyId     : Nat
  slot      : Nat
  key       : Bytes
deriving DecidableEq, Repr

/-- A frame that the device builds: what does not depend on its launch, and the message octets with
the committed time placed and sealed (10 R280, R281). -/
structure Reply where
  kind       : Nat := 8      -- 0 response, 1 NAK, 2 RATE, 3 plain, 4 Delay_Resp, 5 Sync, 6 Announce, 7 Delay_Req, 8 host frame
  wire       : Wire := {}
  li         : Nat := 0
  stratum    : Nat := 0
  poll       : Int := 0
  precision  : Nat := 0
  rootDisp   : Nat := 0
  refId      : Bytes := []
  refTai     : Nat := 0            -- device time of the reference timestamp, 0 none; 2^-16 ns
  origin     : Nat := 0
  ingress    : Nat := 0            -- reported ingress stamp, 2^-16 ns
  smear      : Bool := false
  uid        : Bytes := []         -- body of the Unique Identifier field
  cookies    : List Bytes := []
  s2c        : Bytes := []
  keySlot    : Nat := 0            -- the key whose nonce base the seal uses
  keyId      : Nat := 0
  domain     : Nat := 0
  portNumber : Nat := 0
  seqId      : Nat := 0
  correction : Int := 0
  logInterval : Int := 0
  reqClock   : Nat := 0
  reqPort    : Nat := 0
  flags      : Nat := 0            -- PTP flagField beside unicastFlag
  body       : Bytes := []         -- the Announce fields after originTimestamp
  tlvs       : Bytes := []
  auth       : Option AuthSeal := none
  bound      : Nat := 2 ^ 48 - 1   -- delivery bound read at reservation
  asked      : Nat := 0            -- the instant the host asked for, 2^-16 ns
  stamp      : Nat := 0            -- the committed instant as reported, 2^-16 ns
  octets     : Bytes := []
deriving DecidableEq, Repr

/-- A reservation on a launch calendar (10 R276). -/
structure Reservation where
  id        : Nat
  queue     : Fin 32
  requester : Nat
  tReq      : Nat
  t         : Nat                  -- the committed instant
  start     : Nat
  stop      : Nat
  length    : Nat
  recommitted : Bool := false
  origin    : Origin
  reply     : Reply := {}
  data      : Nat := 0             -- names the octets of a host frame
deriving DecidableEq, Repr

/-- An untimed frame that waits in a queue; `wire` and `octets` are those of a frame of the device. -/
structure QFrame where
  length : Nat
  origin : Origin
  data   : Nat := 0
  wire   : Wire := {}
  octets : Bytes := []
deriving DecidableEq, Repr

/-- An egress queue (10 R272 to R293); `tokens` in 2^-16 B, accrued up to tick `tokensAt`. -/
structure EgressQueue where
  cfg       : QueueCfg := {}
  deficit   : Nat := 0
  tokens    : Int := 16384 * 65536
  tokensAt  : Nat := 0
  frames    : List QFrame := []
  emptyAt   : Nat := 0              -- the tick at which the last frame left the queue (09 R270)
  framesSent : Nat := 0
  bytesSent : Nat := 0
  pausedTime : Nat := 0
  gateOversize : Nat := 0
deriving DecidableEq, Repr

/-- The stamp of a frame as latched when its stamp point passed (07 R225, R226, R217); 2^-16 ns. -/
structure Latched where
  stamp : Nat
  flags : Nat
  epoch : BitVec 8
deriving DecidableEq, Repr

/-- A frame in transmission: its reservation, or an untimed frame with its start. -/
inductive TxFrame where
  | timed (r : Reservation) (l : Latched)
  | untimed (queue : Fin 32) (f : QFrame) (start : Nat) (l : Latched)
deriving DecidableEq, Repr

/-- The round of a class (10 R283): the queue in turn, and whether it has had its QUANTUM. While its head
does not fit, gaps go to the queues that follow it. -/
structure Drr where
  turn   : Nat
  gained : Bool := false
  gap    : Option (Nat × Bool) := none   -- the following queue that gaps are offered to, and whether it gained
deriving DecidableEq, Repr

/-- A MAC with its launch calendar (09, 10). `counters`: the 13 of R261, then PFC_IGNORED,
PAUSE_OVER_BUDGET, LINK_FAULT, SKEW_CHANGE and link-drop, as 15 R422 orders them. -/
structure Mac where
  cfg        : MacCfg := {}
  state      : MacState := .off
  downReason : Nat := 0
  vlans      : List VlanEntry := []
  counters   : Vector Nat 18 := Vector.replicate 18 0
  windows    : List PauseWin := []
  pausedSec  : Nat := 0             -- the device second that pausedIn counts
  pausedIn   : Nat := 0             -- paused time of that second, physical units
  pausedFrom : Option Nat := none   -- since when some window has been open
  budgetOut  : Bool := false
  skew       : List (Nat × Int) := []
  lpi        : LpiState := .active
  lpiReady   : Nat := 0             -- calendar instant at which the wake in progress completes
  queues     : Vector EgressQueue 32 := Vector.replicate 32 {}
  paced      : Drr := { turn := 3 }
  bulk       : Drr := { turn := 4 }
  overhead   : Nat := 20
  calendar   : List Reservation := []
  gridPhase  : Nat := 0
  markers    : Option Nat := none   -- the phase of the alignment markers since the link came up
  gate       : GateList := {}
  nextGates  : List GateList := []  -- pending, by start
  tx         : Option TxFrame := none
  recommit   : Nat := 0
  lateDrop   : Nat := 0
  gateOverride : Nat := 0
  displaced  : Nat := 0
  lateIn     : Nat × Nat := (0, 0)  -- re-commits and late drops of the present second
deriving DecidableEq, Repr

/-! ### NTS -/

/-- 11 R296, values as coded. -/
structure NtsCfg where
  enable     : Nat := 0
  family     : Nat := 4
  address    : Nat := 0
  udpPort    : Nat := 123
  macMask    : Nat := 0xFFFF
  vlan       : Nat := 0xFF
  pcp        : Nat := 6
  dei        : Nat := 0
  dscp       : Nat := 46
  hopLimit   : Nat := 64
  leapMode   : Nat := 0
  auth       : Nat := 0
  stratum    : Nat := 1
  precision  : Nat := 0xE1
  refid      : Nat := 0
  minPoll    : Nat := 4
  maxPoll    : Nat := 10
  profile    : Nat := 0
  cookiesMax : Nat := 8
deriving DecidableEq, Repr

/-- An NTS service address. `counters` in the order of 15 R423: 13 of R297, 5 of R298,
RETIRING_OPENS, KOD_CAPPED, NAK_CAPPED. `standby` while it is a replica (16 R450). -/
structure NtsAddress where
  cfg      : NtsCfg := {}
  counters : Vector Nat 21 := Vector.replicate 21 0
  standby  : Bool := false
deriving DecidableEq, Repr

/-- A request that has been admitted and waits for an engine (11 R297). -/
structure NtsRequest where
  address  : Fin 64
  frame    : Frame
  stamp    : Nat               -- reported ingress stamp, 2^-16 ns
  rate     : Bool              -- policed: a RATE answer
  plain    : Bool
  cfg      : NtsCfg
deriving DecidableEq, Repr

/-- A cookie master key generation (11 R302). State 0 EMPTY, 1 PENDING, 2 CURRENT, 3 RETIRING; RETIRE_AT
in 2^-16 ns. `acked` holds the positions that have acknowledged it; while `committed` is false its
key slot is being written, and it counts as EMPTY. -/
structure Generation where
  state    : Nat := 0
  keyId    : Nat := 0
  retireAt : Nat := 0
  acked    : List Nat := []
  committed : Bool := true
deriving DecidableEq, Repr

/-- 11 R303. -/
structure RotationCfg where
  interval : Nat := 86400
  phase    : Nat := 0
  grace    : Nat := 172800
  lead     : Nat := 60
deriving DecidableEq, Repr

/-- 11 R312. -/
structure ProfileCfg where
  prefixV4 : Nat := 32
  prefixV6 : Nat := 64
  limit    : Nat := 1024
  action   : Nat := 0
  kodPoll  : Nat := 10
  kodMax   : Nat := 100000
  nakMax   : Nat := 1000000
deriving DecidableEq, Repr

/-- A policing profile with its answers of the present second. -/
structure Profile where
  cfg  : ProfileCfg := {}
  kods : Nat := 0
  naks : Nat := 0
deriving DecidableEq, Repr

/-- A nonce base that an engine has drawn for a key (11 R300, R301) and its count; `live` while the
engine uses it. Engines by requester number, 0xFF key management. -/
structure NonceBase where
  engine : Nat
  slot   : Nat
  keyId  : Nat
  base   : Nat
  count  : Nat := 0
  live   : Bool := true
deriving DecidableEq, Repr

/-- An activation that is to commit at A (11 R304); A and RETIRE_AT in 2^-16 ns. -/
structure Activation where
  keyId    : Nat
  oldKeyId : Nat
  a        : Nat
  retireAt : Nat
deriving DecidableEq, Repr

/-- The rotation schedule (11 R303, R304): the next rotation instant in device seconds, the instant R that
has come and waits for its activation, whether 0x0605 has told of it, the latest acknowledgement of
the PENDING key, and the rotate-now commands with their R. -/
structure Rotation where
  cfg      : RotationCfg := {}
  next     : Option RotationCfg := none
  instant  : Option Nat := none
  due      : Option Nat := none
  told     : Bool := false
  ackAt    : Nat := 0
  commit   : Option Activation := none
  asked    : List (Nat × Source × Nat) := []
deriving DecidableEq, Repr

/-- 11 R296 to R316. The buckets are in units of 10^-9 transaction or block, settled at
tick `bucketAt`. -/
structure Nts where
  addresses : Vector NtsAddress 64 := Vector.replicate 64 {}
  gens      : Vector Generation 8 := Vector.replicate 8 {}
  lastKeyId : Nat := 0
  rotation  : Rotation := {}
  noCurrentTold : Bool := false
  profiles  : Vector Profile 8 := Vector.replicate 8 {}
  sketch    : List (Nat × Nat) := []        -- present bank: row × 131,072 + counter, count
  sketchOld : List (Nat × Nat) := []
  requests  : List NtsRequest := []
  txBucket  : Nat := 1536 * 10 ^ 9
  blkBucket : Nat := 122880 * 10 ^ 9
  bucketAt  : Nat := 0
  bases     : List NonceBase := []
  mint      : Option (Nat × Source × Nat) := none
  inflightDropped : Nat := 0                -- INVALIDATED_INFLIGHT
  noCookie  : Nat := 0                      -- NO_COOKIE
  admissionDrop : Nat := 0
deriving DecidableEq, Repr

/-! ### PTP -/

/-- 12 R319, values as coded. -/
structure PtpCfg where
  enable      : Nat := 0
  family      : Nat := 4
  address     : Nat := 0
  macMask     : Nat := 0xFFFF
  vlan        : Nat := 0xFF
  pcp         : Nat := 7
  dei         : Nat := 0
  dscp        : Nat := 46
  hopLimit    : Nat := 64
  profile     : Nat := 1
  domain      : Nat := 44
  portBase    : Nat := 1
  priority1   : Nat := 128
  priority2   : Nat := 128
  oslv        : Nat := 0x4E5D
  syncLogMin  : Nat := 0xF9
  delayLogMin : Nat := 0xF9
  annLogMin   : Nat := 0xFD
  durationMax : Nat := 300
  maxSessions : Nat := 262144
  reduce      : Nat := 1
  authMode    : Nat := 1
  boundMsgs   : Nat := 7
  slack       : Nat := 2
deriving DecidableEq, Repr

/-- A PTP service address. `counters` in the order of 15 R424: 13 of R321, TLV_UNKNOWN, NEG_BACKLOG,
6 of R325, 2 of R332, then CANCEL_UNKNOWN, PARENT_LOST, FOLLOW_UP_MISSING, DELAY_RESP_MISMATCH. -/
structure PtpAddress where
  cfg      : PtpCfg := {}
  counters : Vector Nat 27 := Vector.replicate 27 0
  standby  : Bool := false
deriving DecidableEq, Repr

/-- A PTP message that was admitted and waits for its engine. -/
structure PtpRequest where
  address : Fin 16
  frame   : Frame
  stamp   : Nat
deriving DecidableEq, Repr

/-- A key of a security association: keyID and key-slot handle (12 R330). -/
structure SaKey where
  keyId  : Nat := 0
  handle : Nat := 0
deriving DecidableEq, Repr

/-- A security association (12 R330, R332). -/
structure Sa where
  spp      : Nat := 0
  algorithm : Nat := 0
  current  : SaKey := {}
  previous : SaKey := {}
  next     : SaKey := {}
  overlap  : Nat := 60
  policy   : Nat := 0
  bind     : Nat := 0
  overlapEnd : Nat := 0        -- device seconds
  dropping : Bool := false
  derived  : Bool := false     -- CURRENT is of source DERIVED
deriving DecidableEq, Repr

/-- 12 R334. -/
structure ClientCfg where
  enable   : Nat := 0
  service  : Nat := 0
  mac      : Nat := 0
  masterIp : Nat := 0
  priority : Nat := 128
  sa       : Nat := 0xFFFF
  syncLog  : Nat := 0xFC
  delayLog : Nat := 0xFC
  annLog   : Nat := 0xFD
  duration : Nat := 300
  rank     : Nat := 8
  asymUnc  : Nat := 2 ^ 48 - 1
deriving DecidableEq, Repr

/-- A Sync that the client role holds: t1 when known, else the correction that a Follow_Up adds to;
t2; in 2^-16 ns. -/
structure HeldSync where
  seqId : Nat
  t1    : Option Int
  corr  : Int := 0
  t2    : Int
deriving DecidableEq, Repr

/-- A client entry (12 R334 to R337). Grants are device seconds of expiry. `syncs` are those that an
exchange may still pair with, newest first; t3 and t4 those of the Delay_Req last sent; `peerMac` the
Ethernet address that the master's last message came from. -/
structure ClientEntry where
  cfg       : ClientCfg := {}
  announce  : Option AnnounceData := none
  srcClock  : Nat := 0              -- sourcePortIdentity of the latest Announce
  srcPort   : Nat := 0
  authBad   : Bool := false
  denied    : Bool := false
  annGrant  : Nat := 0
  syncGrant : Nat := 0
  delayGrant : Nat := 0
  annDur    : Nat := 0              -- the durations granted, seconds
  syncDur   : Nat := 0
  delayDur  : Nat := 0
  ptpu      : Option (Fin 4) := none
  delayGrantLog : Int := 0x7F
  peerMac   : Option Nat := none
  syncs     : List HeldSync := []
  delaySeq  : Nat := 0
  t3        : Option Int := none
  t4        : Option Int := none
  lost      : Nat := 0
  followMissing : Nat := 0
  respMismatch  : Nat := 0
deriving DecidableEq, Repr

/-- A PTPU with the exchanges of the present MEAS_INTERVAL: offset and mean path delay of each, and
its last delivered offsets, newest first (12 R336, R337); 2^-16 ns. -/
structure Ptpu where
  entry     : Option (Fin 16) := none
  exchanges : List (Int × Int) := []
  offsets   : List Int := []
deriving DecidableEq, Repr

/-- 12 R334, device-wide. -/
structure ClientGlobal where
  maxParents   : Nat := 2
  announceTimeout : Nat := 3
  measInterval : Nat := 1000
  filter       : Nat := 1
deriving DecidableEq, Repr

/-- A Signaling message in the negotiation queue (12 R321). -/
structure NegItem where
  address : Fin 16
  frame   : Frame
deriving DecidableEq, Repr

/-- 12 R319 to R337. The identity rows stand in MRAM. `inbox` holds the messages for the client role;
`peers` by session index the Ethernet addresses of its peer and of its port; `countSec` the second
that DELAY_REQ_COUNT counts. -/
structure Ptp where
  addresses : Vector PtpAddress 16 := Vector.replicate 16 {}
  clockId   : Nat := Config.eui64
  orgId     : Nat := 0
  schedLead : Nat := 2
  sessions  : List (Nat × Session) := []
  requests  : List PtpRequest := []
  negotiation : List NegItem := []
  inbox     : List ClientMsg := []
  peers     : List (Nat × Nat × Nat) := []
  signalSeq : Nat := 0
  countSec  : Nat := 0
  sas       : List (Nat × Sa) := []
  entries   : Vector ClientEntry 16 := Vector.replicate 16 {}
  client    : ClientGlobal := {}
  ptpus     : Vector Ptpu 4 := Vector.replicate 4 {}
  admissionDrop : Nat := 0
deriving DecidableEq, Repr

/-- 09 R251, R263; 10 R274; 10 R293; 01 R35. -/
structure Net where
  portMode  : Nat := 0
  macs      : Vector Mac 16 := Vector.replicate 16 {}
  steering  : List SteerRule := []
  guardNs   : Nat := 20
  nextRes   : Nat := 0            -- names reservations
  hostDrop  : Nat := 0            -- admission-drop counter of the host activity
  nts       : Nts := {}
  ptp       : Ptp := {}
deriving DecidableEq, Repr

end Sys2Proof.Machine
end

