-- ==== Sys2Proof/Machine/StateTime.lean ====
section
/-! DEFINITION. State of the timing side: speed modes and power, the time counter, the references
and their selection, Ductus and Margin. Each field's default is its reset value. -/

namespace Sys2Proof.Machine

/-- 01 R45: coded 0, 1, 2. -/
inductive SpeedMode where
  | sprint
  | balanced
  | quiet
deriving DecidableEq, Repr

/-- 02 R73: coded 0 to 5. -/
inductive RefState where
  | off
  | monitor
  | qualified
  | selected
  | rejected
  | held
deriving DecidableEq, Repr

/-- 04 R140: coded 0 to 4. -/
inductive DuctusState where
  | free
  | acquire
  | locked
  | coast
  | rejoin
deriving DecidableEq, Repr

/-- 04 R148: coded 0 to 3. -/
inductive DpllState where
  | off
  | pulling
  | tracking
  | frozen
deriving DecidableEq, Repr

/-- 07 R208: the form in which device time is held; `stopped` while the system time clock stands. -/
inductive Form where
  | virtual
  | counter
  | stopped
deriving DecidableEq, Repr

/-- 02 R84: where a staged switch stands. -/
inductive SwitchStage where
  | idle
  | measure
  | slew
deriving DecidableEq, Repr

/-- 13 R351: coded 0 to 3. -/
inductive LifeCycle where
  | factory
  | provision
  | service
  | retired
deriving DecidableEq, Repr

/-! ### Power, temperature and speed modes -/

/-- The steps of a speed-mode change (01 R47) that are still to come. -/
inductive ModeStage where
  | drain        -- slower: reservations under the old floor are still standing
  | rampDown     -- slower: the supply ramps to the new target
  | rampUp       -- faster: the supply ramps to the new target
  | governing    -- faster: waits for P, at most 4 ms
deriving DecidableEq, Repr

/-- A change of speed mode in progress (01 R47). `source` is the command to complete, none for the
thermal guard; `firstNew` names the first reservation under the new floor. -/
structure ModeChange where
  target   : SpeedMode
  stage    : ModeStage
  guard    : Bool
  source   : Option (Source × Nat)
  firstNew : Nat
deriving DecidableEq, Repr

/-- 01 R42 to R49, 18 R487 to R500. Pace ratios are in units of 1/4,096. -/
structure Power where
  mode         : SpeedMode := .balanced
  change       : Option ModeChange := none
  lastGuard    : Bool := false
  paceNts      : Nat := 0x1000
  pacePtp      : Nat := 0x1000
  paceSched    : Nat := 0x1000
  paceHost     : Nat := 0x1000
  paceDevice   : Nat := 0x1000
  leadNts      : Bool := false      -- the pace-lead excess holds on the NTS path (R44)
  leadPtp      : Bool := false
  leadSched    : Bool := false
  mirror       : Vector Nat 11 := Vector.replicate 11 0x1000
  setPointMv   : Nat := 720
  regulatorDead : Bool := false
  regulatorFaults : Nat := 0
  junction     : Int := 7680
  temps        : List (Nat × Int) := []     -- changes of it since the boot: tick and value, newest first
  thermtripLow : Bool := false
  vddo         : Vector Nat 9 := Vector.replicate 9 0   -- millivolts read at RESET_N, 0 absent
  straps       : Nat := 5
  inReset      : Bool := true       -- RESET_N is low
  powered      : Bool := true       -- the main supplies are present
deriving DecidableEq, Repr

/-! ### Time counter -/

/-- A parameter set of the virtual form (07 R207): T0 in 2^-16 ns, V0 in ticks, RATE in ZF64. -/
structure VirtualSet where
  t0   : Nat := 0
  v0   : Nat := 0
  rate : Int := 0
deriving DecidableEq, Repr

/-- A host step held pending (07 R214): S in 2^-16 ns, the second at whose boundary it applies, and
the command to complete. -/
structure PendingStep where
  amount   : Int
  boundary : Nat
  source   : Source
  sequence : Nat
deriving DecidableEq, Repr

/-- A re-base ordered and not yet applied (04 R153): the reference and its averaged offset O. -/
structure Rebase where
  ref    : Fin 20
  offset : Int
deriving DecidableEq, Repr

/-- A recovery in progress (07 R211): whether time-restart began it, and R_last in 2^-40 ns. -/
structure Recovery where
  byCommand : Bool
  rLast     : Nat
deriving DecidableEq, Repr

/-- The leap table (07 R218). -/
structure LeapTable where
  base    : Int := 0
  expiry  : Nat := 2 ^ 64 - 1
  entries : List LeapEntry := []
  unset   : Bool := true
  expired : Bool := false
deriving DecidableEq, Repr

/-- The counter-window snapshot (07 R223); the three times in 2^-16 ns. -/
structure Snapshot where
  tai       : Nat := 0
  utc       : Int := 0
  smeared   : Int := 0
  taiUtc    : Int := 0
  epoch     : BitVec 8 := 0
  latchSeq  : BitVec 8 := 0
  flags     : BitVec 16 := 0
  increment : Nat := 0
  tick      : Nat := 0
deriving DecidableEq, Repr

/-- An EVIN (07 R227): configuration as coded, its Nib channel, the place of the last latched edge in
2^-40 tick, the edges latched. -/
structure Evin where
  enable   : Nat := 0
  edge     : Nat := 0
  path     : Nat := 0
  deadTime : Nat := 8
  channel  : Option (Fin 24) := none
  lastEdge : Option Nat := none
  lost     : Nat := 0
  count    : Nat := 0
deriving DecidableEq, Repr

/-- 07 R205 to R224. `reg` is the register of the counter form, in units of 2^-40 ns from the TAI
epoch; while the clock is stopped it holds R_last. -/
structure Clock where
  ticks      : BitVec 64 := 0
  form       : Form := .stopped
  reg        : Nat := 0
  increment  : Nat := 2 ^ 40
  vset       : VirtualSet := {}
  vprev      : VirtualSet := {}
  epoch      : BitVec 8 := 0
  handedOver : Bool := false
  handoverAsked : Bool := false
  setOnEvin  : Option (Fin 8 × Nat) := none
  step       : Option PendingStep := none
  rebase     : Option Rebase := none
  recovery   : Option Recovery := none
  restarts   : List (Source × Nat) := []    -- time-restart commands to complete at the handover
  estimatePoor : Bool := false
  leap       : LeapTable := {}
  window     : Snapshot := {}
  evins      : Vector Evin 8 := Vector.replicate 8 {}
deriving DecidableEq, Repr

/-! ### References -/

/-- 02 R53: the configuration of a REFIN (and of the XO, R60), values as coded; ZF64 and ZI64
fields hold their 64-bit patterns. -/
structure RefinCfg where
  format      : Nat := 0
  term        : Nat := 1
  kind        : Nat := 0
  nominal     : Nat := 10000000000
  edge        : Nat := 0
  divider     : Nat := 1
  pulseOffset : Nat := 0
  atomic      : Nat := 0
  companion   : Nat := 0xFF
  timeUnc     : Nat := 2 ^ 48 - 1
  freqUnc     : Nat := 1152921504607
deriving DecidableEq, Repr

/-- 02 R71: the monitor parameters of a reference, as coded; a row that the host has not set
follows the kind and class of the reference. -/
structure MonCfg where
  actLoss     : Nat := 4
  actRestore  : Nat := 16
  freqGate    : Nat := 1000
  freqAccept  : Nat := 2305843009214      -- 2 x 10^-6
  freqReject  : Nat := 4611686018427      -- 4 x 10^-6
  qualTime    : Nat := 10
  phaseAvg    : Nat := 1000
  phaseWindow : Nat := 6553600
  phaseStep   : Nat := 3276800
  pathStep    : Nat := 6553600
  pathStable  : Nat := 60
  rank        : Nat := 8
deriving DecidableEq, Repr

/-- What the latest frequency gate said (02 R67). -/
inductive FreqVerdict where
  | none
  | accept
  | between
  | reject
deriving DecidableEq, Repr

/-- One of the twenty references (02 R50). `reasons` has bit c set while reason code c of R79 holds. -/
structure Ref where
  state       : RefState := .off
  reasons     : BitVec 16 := 0
  cfg         : RefinCfg := {}
  mon         : MonCfg := {}
  cfgSet      : Nat := 0               -- the rows of cfg that the host has set, by bit
  monSet      : Nat := 0               -- the monitor rows that the host has set, by bit
  qualTimer   : Nat := 0
  qualDone    : Bool := false
  active      : Bool := false          -- activity present (R65)
  missing     : Nat := 0
  arrivals    : Nat := 0
  freq        : Option Int := none     -- ZF64 of the latest gate
  verdict     : FreqVerdict := .none
  measured    : Option Int := none     -- device offset, 2^-16 ns
  offsets     : List (Nat × Int) := [] -- measured offsets with their device times, newest first
  predicted   : Option Int := none
  uncertainty : Nat := 2 ^ 48 - 1
  lastAvg     : Option Int := none     -- earlier PHASE_AVG average
  hostLatch   : Bool := false
  disagree    : Bool := false
  companion   : Bool := false          -- serves as a companion (R56)
  contributing : Bool := false
  channel     : Option (Fin 24) := none
  compChannel : Option (Fin 24) := none
  rival       : Option (Fin 20) := none  -- the reference it was found to disagree with
  pathOlder   : List (Int × Int) := [] -- mean path delays kept with their times, newest first (R70)
  pathMax     : Nat := 0               -- largest delay change since the first detection (R92)
  pathSince   : Bool := false          -- PATH_STABLE is running
  pathSmall   : Nat := 0               -- largest delay change at or below PATH_STEP since it qualified
deriving DecidableEq, Repr

/-- 02 R72. -/
structure SelCfg where
  revertive  : Nat := 1
  wtr        : Nat := 300
  switchMeas : Nat := 1000
  switchSlew : Nat := 655360
deriving DecidableEq, Repr

/-- A command that waits for the next reference evaluation (02 R78). -/
inductive RefAct where
  | enable  (ref : Fin 20) (on : Bool)
  | release (ref : Fin 20) (action : Nat)
  | reject  (ref : Fin 20)
  | force   (ref : Option (Fin 20))
  | ptpu    (ref : Fin 20) (on : Bool)      -- a PTPU or STACK reference comes into being or goes
deriving DecidableEq, Repr

/-- An act and the command to complete when it is applied; none for the client role's own. -/
structure WaitingAct where
  act    : RefAct
  source : Option Source
deriving DecidableEq, Repr

/-- A disagreement alarm (02 R89). -/
structure Disagreement where
  a : Fin 20
  b : Fin 20
  third : Option Nat      -- 0xFE the ensemble, otherwise a reference index
  since : Nat             -- device time at which it was raised, 2^-16 ns
deriving DecidableEq, Repr

/-- A change of state within an evaluation: reference, old state, new state, reason (02 R78). -/
structure RefChange where
  ref    : Fin 20
  old    : RefState
  new    : RefState
  reason : Nat
deriving DecidableEq, Repr

/-- 02 R78 to R92. `waiting` holds the changes of an evaluation that waits for the hook's answer. -/
structure Selection where
  cfg      : SelCfg := {}
  stage    : SwitchStage := .idle
  target   : Option (Fin 20) := none
  forced   : Option (Fin 20) := none
  acts     : List WaitingAct := []
  alarm    : Option Disagreement := none
  evalSeq  : Nat := 0
  waiting  : Option (List RefChange) := none
  hookTask : Option (Fin 4) := none
  hookAnswer : Option HookAnswer := none
  hookOverruns : Nat := 0
  hookMissed : Nat := 0
  hookIgnored : Nat := 0
deriving DecidableEq, Repr

/-! ### Ductus -/

/-- 04 R139. -/
structure DuctusCfg where
  mode       : Nat := 0
  tauEns     : Nat := 1000
  anchorTau  : Nat := 1000
  weightMax  : Nat := 26214
  lockPhase  : Nat := 1310720
  lockFreq   : Nat := 1152921505
  lockDwell  : Nat := 60
  rejoinSlew : Nat := 655360
  acqBw      : Nat := 9
  freeFreq   : Nat := 0
  guardSpan  : Nat := 86400
deriving DecidableEq, Repr

/-- 04 R127, as the host has set it; a row it has not set follows the member's class. q1 and q2 as binary64 patterns, drifts as ZF64 per day. -/
structure ClockModel where
  set         : Nat := 0                       -- the rows that the host has set, by bit
  q1          : Nat := 0x3bc79ca10c924223      -- 1e-20
  q2          : Nat := 0x3a88c240c4aecb14      -- 1e-26
  driftPrior  : Nat := 1152921505
  driftTarget : Nat := 11529215
  learnMin    : Nat := 86400
deriving DecidableEq, Repr

/-- A member of the ensemble (04 R125 to R131); drift state 0 UNLEARNED, 1 LEARNING, 2 LEARNED. -/
structure Member where
  weight     : Nat := 0
  y          : Int := 0
  d          : Int := 0
  sigmaY     : Nat := 0
  sigmaD     : Nat := 0
  drift      : Nat := 0
  learned    : Nat := 0        -- LEARN_MIN seconds counted since the last entry to LEARNING
  contributed : Nat := 0       -- seconds of contribution, for the first TAU_ENS
  moved      : List (Nat × Int) := []   -- device second and d of the estimates of the last day
deriving DecidableEq, Repr

/-- 04 R147. -/
structure DpllCfg where
  input     : Nat := 1
  refIndex  : Nat := 0
  apllMask  : Nat := 0
  bw        : Nat := 18
  damping   : Nat := 1
  histAvg   : Nat := 60
  histGuard : Nat := 1000
  timeout   : Nat := 3
deriving DecidableEq, Repr

/-- A REALIGN of a channel in progress (06 R192), phases in 2^-16 ns: what is still to be slewed from
tick `begun` on. `stepping` once the slew has ended and FRAME outputs are still to be stepped. -/
structure Realign where
  rate      : Nat
  remaining : Int
  moved     : Int
  begun     : Nat
  stepping  : Bool := false
deriving DecidableEq, Repr

/-- A DPLL channel (04 R145 to R150, 06 R191, R192). The loop filter has no formula in the manual, so
`control` is a free value wherever the loop has acted. -/
structure Dpll where
  cfg      : DpllCfg := {}
  state    : DpllState := .off
  control  : Int := 0
  buildOut : Int := 0
  misalign : Int := 0
  realign  : Option Realign := none
deriving DecidableEq, Repr

/-- 04 R134 to R153. B, K, H and the loop error in 2^-16 ns. -/
structure Ductus where
  state     : DuctusState := .free
  cfg       : DuctusCfg := {}
  next      : Option DuctusCfg := none      -- takes effect at the next update
  mode      : Nat := 0
  anchor    : Option (Fin 20) := none
  lastAnchor : Option (Fin 20) := none
  b         : Int := 0
  k         : Int := 0
  h         : Int := 0
  loopError : Int := 0
  frequency : Int := 0
  ensemble  : Int := 0                      -- E minus device time
  target    : Int := 0                      -- T_d minus device time
  prediction : Int := 0
  predictionRate : Int := 0                 -- ZF64
  sigmaX    : Nat := 0                      -- of E's phase at the last update with an anchor, 2^-60 s
  varY      : Nat := 0                      -- weighted variances of frequency and drift there (04 R131)
  varD      : Nat := 0
  anchorMeas : Nat := 0                     -- device time of the anchor's last measurement
  xoLost    : Bool := false
  seconds   : Nat := 0
  silent    : Bool := false                 -- no update within UPDATE_TIMEOUT
  changed   : Bool := false                 -- a state change since the last evaluation of Margin
  measuring : Bool := false                 -- MEASURE stage with no reference SELECTED
  refTime   : Nat := 0                      -- device time of the last update with an anchor
  updated   : Nat := 0                      -- device time of the last update
  settled   : Bool := false                 -- the residual after the handover is in B (04 R143)
  members   : Vector Member 20 := Vector.replicate 20 {}
  models    : Vector ClockModel 13 := Vector.replicate 13 {}
  dplls     : Vector Dpll 6 := Vector.replicate 6 {}
deriving DecidableEq, Repr

/-! ### Margin -/

/-- 05 R169, device-wide rows. -/
structure MarginCfg where
  servoWindow : Nat := 60
  boundHold   : Nat := 10
  pathTempco  : Nat := 50
  tCal        : Nat := 7680
  tempSpan    : Nat := 1280
  liSet       : Nat := 10000000
  liClear     : Nat := 5000000
  classHold   : Nat := 60
  period      : Nat := 60
  onChange    : Nat := 1
  alg         : Nat := 0
deriving DecidableEq, Repr

/-- A row of the clockClass table (05 R177). -/
structure ClassRow where
  states : Nat
  limit  : Nat
  cls    : Nat
deriving DecidableEq, Repr

/-- A bound record or statement (05 R170); `signature` is absent in a record. -/
structure BoundRecord where
  sequence    : Nat
  bootCount   : Nat
  lifecycle   : Nat
  position    : Nat
  ductusState : Nat
  mode        : Nat
  evalTime    : Nat
  horizon     : Nat
  core        : Nat
  growth      : Nat
  anchorIndex : Nat
  anchorKind  : Nat
  flags       : Nat
  tamperEvents : Nat
  sourceId    : List Nat
  terms       : List Nat
  calGeneration : Nat
  keyId       : Nat
  sigAlg      : Nat
  signature   : Option Bytes
deriving DecidableEq, Repr

/-- A clockClass in force at a MAC and the earlier row that is waiting for CLASS_HOLD (05 R177). -/
structure ClassState where
  row     : Nat := 8           -- 8 stands for no row: 248
  waiting : Option Nat := none
deriving DecidableEq, Repr

/-- 05 R156 to R177. Bounds in ps. -/
structure Margin where
  cfg        : MarginCfg := {}
  next       : Option MarginCfg := none
  tempco     : Vector Nat 13 := Vector.replicate 13 0
  tempSource : Vector Nat 13 := Vector.replicate 13 0
  asymUnc    : Vector Nat 4 := Vector.replicate 4 (2 ^ 48 - 1)
  classTable : List ClassRow :=
    [⟨0b00100, 100000, 6⟩, ⟨0b11000, 100000, 7⟩, ⟨0b11100, 1000000, 140⟩,
     ⟨0b11100, 10000000, 150⟩, ⟨0b11100, 100000000, 160⟩]
  terms      : List Nat := List.replicate 11 0
  core       : Nat := 2 ^ 48 - 1
  window     : List (Nat × Nat) := []       -- evaluations of the last BOUND_HOLD: device time and C
  refWin     : List (Nat × Nat) := []       -- the anchor's measurements: device time, uncertainty
  servoWin   : List (Nat × Nat) := []       -- device time and |loop error|
  asymFrozen : Nat := 0                     -- ASYM of the anchor without PATH_WIDEN
  evalTime   : Nat := 0                     -- device time of the last evaluation
  published  : Nat := 2 ^ 48 - 1
  growth     : Nat := 0
  horizon    : Nat := 0                     -- 2^-16 ns
  recordSeq  : Nat := 0                     -- SEQUENCE of the last evaluation's record
  stale      : Bool := false
  pathWiden  : Nat := 0                     -- the largest delay change, 2^-16 ns; 0 without PATH_WIDEN
  lockedFor  : Nat := 0                     -- seconds LOCKED with B = 0 since the last path step
  hostTemps  : Vector (List (Nat × Int)) 13 := Vector.replicate 13 []  -- reports: tick and temperature
  lossAt     : Option Nat := none           -- tick at which the anchor was lost
  lossMembers : List (Fin 20) := []         -- the clock members then
  alarms     : Vector Bool 16 := Vector.replicate 16 true
  classes    : Vector ClassState 16 := Vector.replicate 16 {}
  sequence   : Nat := 0
  skipped    : Nat := 0
  signing    : List BoundRecord := []
deriving DecidableEq, Repr

end Sys2Proof.Machine
end

