-- ==== Sys2Proof/Machine/StateHost.lean ====
section
/-! DEFINITION. State of the host attachment (14): windows, interrupts, mailboxes, the data port, rings,
pan queues and user tasks. Each field's default is its reset value. -/

namespace Sys2Proof.Machine

/-! ### Pan-queue items -/

/-- An event-log payload (14 R399); `time` in 2^-16 ns. -/
structure EventItem where
  code  : Nat
  epoch : BitVec 8
  flags : Nat
  argA  : Nat
  argB  : Nat
  time  : Nat
deriving DecidableEq, Repr

/-- An egress report (07 R229). -/
structure EgressReport where
  stamp     : Nat
  committed : Nat
  tag       : Nat
  flags     : Nat
  length    : Nat
  mac       : Nat
  outcome   : Nat
  epoch     : BitVec 8
  slot      : Nat          -- the injection slot; not part of the payload
deriving DecidableEq, Repr

/-- An item of the Nib stamp queue (08 R245): the common 16 bytes and the body of its type. -/
inductive NibBody where
  | stamp (t : Nat)
  | interval (start : Nat) (interval : Int) (stopChannel stopSource : Nat)
  | frequency (first : Nat) (f : Int) (stdError : Nat) (count missing gate : Nat)
  | latch (t : Nat)
deriving DecidableEq, Repr

structure NibItem where
  channel : Nat
  source  : Nat
  epoch   : BitVec 8
  stampFlags : Nat
  nibFlags : Nat
  ordinal : Nat
  body    : NibBody
deriving DecidableEq, Repr

/-- An item of the GNSS measurement queue (03 R115). -/
structure GnssItem where
  epoch       : Nat
  offset      : Option Int
  uncertainty : Nat
  frequency   : Option Int
  port        : Nat
  fixMode     : Nat
  satsUsed    : Nat
  satsTracked : Nat
  tdop        : Nat
  cn0         : Nat
  failed      : Nat
  unavailable : Nat
  flags       : Nat
deriving DecidableEq, Repr

/-- A payload by queue (14 R398). -/
inductive QPayload where
  | event (e : EventItem)
  | nib (i : NibItem)
  | egress (r : EgressReport)
  | margin (r : BoundRecord)
  | gnss (g : GnssItem)
deriving DecidableEq, Repr

/-- A committed item. -/
structure QItem where
  sequence : Nat
  lossBefore : Bool := false
  payload  : QPayload
deriving DecidableEq, Repr

/-- A pan queue (14 R398 to R402). `building` holds the items whose last word has not committed;
`lossNext` says that an overwrite has happened since the previous delivered item. -/
structure PanQueue where
  dma        : Bool := false
  sizeLog2   : Nat := 0
  threshold  : Nat := 64
  base       : Nat := 0
  dmaBase    : Nat := 0
  producerWb : Nat := 0
  producer   : Nat := 0
  consumer   : Nat := 0
  underrun   : Bool := false
  badConsumer : Bool := false
  lost       : Nat := 0
  sequence   : Nat := 0
  items      : List QItem := []
  building   : List QPayload := []
  lossNext   : Bool := false
  window     : Option QItem := none
  lastSlot   : Option (Nat × QItem) := none     -- the host slot written last
deriving DecidableEq, Repr

/-! ### Mailboxes -/

/-- A request that Scribe holds in hand (14 R383 to R386). `screened` once the checks 1 to 3 of R384
have passed; `taken` while its effect waits for a later evaluation; `length` is that of the body,
and `badHeader` says that its header breaks check 2. -/
structure Pend where
  opcode   : Nat
  sequence : Nat
  length   : Nat
  badHeader : Bool := false
  bulk     : Bool
  rspOffset : Nat
  rspCapacity : Nat
  screened : Bool := false
  taken    : Bool := false
  discard  : Bool := false     -- its response is not to be written (14 R376, R389)
deriving DecidableEq, Repr

/-- A mailbox's registers (14 R383), the request in hand and those submitted behind it: a host-side reset
clears BUSY while an older command still runs. -/
structure Mailbox where
  busy     : Bool := false
  done     : Bool := false
  overrun  : Bool := false
  request  : Bytes := List.replicate 64 0
  response : Bytes := List.replicate 64 0
  inHand   : Option Pend := none
  behind   : List Pend := []
deriving DecidableEq, Repr

/-- The emergency mailbox (14 R388, R389); owner 0 none, 1 PCIe, 2 SPI. -/
structure Emergency where
  mb      : Mailbox := {}
  owner   : Nat := 0
  waiting : Bool := false
  stage   : Nat := 0
  cause   : Nat := 0
deriving DecidableEq, Repr

/-! ### Rings -/

/-- A transmit write-back (14 R395); `stamp` in 2^-16 ns. -/
structure TxWriteBack where
  index   : Nat
  stamp   : Nat
  flags   : Nat
  outcome : Nat
  epoch   : BitVec 8
  length  : Nat
  mac     : Nat
deriving DecidableEq, Repr

/-- A receive write-back (14 R396). -/
structure RxWriteBack where
  index  : Nat
  stamp  : Nat
  flags  : Nat
  epoch  : BitVec 8
  mac    : Nat
  length : Nat
  csum   : Nat
  truncated : Bool
  rule   : Nat
deriving DecidableEq, Repr

/-- A descriptor ring (14 R394 to R397). `fetched` is the index of the next descriptor to take;
`open_` holds those taken and not yet passed by HEAD, with whether each is written back; `held` is
the timed descriptor that holds those behind it. -/
structure Ring where
  enabled  : Bool := false
  sizeLog2 : Nat := 0
  size     : Nat := 0            -- SIZE_LOG2 as read when ENABLE was set
  base     : Nat := 0
  useBase  : Nat := 0
  vector   : Nat := 8
  wbIrq    : Bool := true
  queue    : Nat := 4
  useQueue : Nat := 4
  tail     : Nat := 0
  head     : Nat := 0
  headWb   : Nat := 0
  fetched  : Nat := 0
  open_    : List (Nat × Bool) := []
  held     : Option (Nat × TxDesc) := none
  lastTx   : Option TxWriteBack := none
  lastRx   : Option RxWriteBack := none
deriving DecidableEq, Repr

/-! ### User tasks -/

/-- What a user task does (14 R403 to R407). -/
inductive TaskState where
  | absent
  | ready
  | waitEvent (block mask : Nat)
  | sleeping (block : Nat)
  | waitHook (block : Nat)
  | inHook
  | stopped (cause : Nat)
deriving DecidableEq, Repr

/-- The result of a system call as the task receives it, and the bytes written at its block. -/
structure CallResult where
  status : Nat
  offset : Nat
  data   : Bytes
deriving DecidableEq, Repr

/-- The signal frame of 14 R407 that a task's handler was called with. -/
structure SignalFrame where
  counter : Nat
  count   : Nat
  resume  : Nat
deriving DecidableEq, Repr

/-- A user task. `position` is the SEQUENCE it reads next; `issuing` the block of its COMMAND. -/
structure Task where
  state    : TaskState := .absent
  inHand   : Option Pend := none
  block    : Nat := 0
  position : Nat := 0
  skipped  : Bool := false
  handler  : Nat := 0
  frames   : List SignalFrame := []
  result   : Option CallResult := none
deriving DecidableEq, Repr

/-- The loaded image (14 R405): header offset, and its regions in the user area; `work` is the zero-filled
memory and the stacks. -/
structure TaskImage where
  header  : Nat
  codeAt  : Nat
  codeLen : Nat
  dataAt  : Nat
  dataLen : Nat
  workAt  : Nat
  workLen : Nat
  tasks   : Nat
deriving DecidableEq, Repr

/-! ### The rest of the register window -/

/-- Which mask event of a second is still to be raised, and which was raised in this second. -/
structure Summaries where
  second : Nat := 0
  masks  : List (Nat × Nat × Nat) := []    -- code, ARG_B, mask
  once   : List (Nat × Nat) := []          -- code, instance
deriving DecidableEq, Repr

/-- The data port's registers (14 R391 to R393). -/
structure DataPort where
  addr    : Nat := 0
  autoInc : Bool := true
  error   : Bool := false
  dmaHost : Nat := 0
  dmaDev  : Nat := 0
  length  : Nat := 0
  toHost  : Bool := false
  busy    : Bool := false
  failed  : Bool := false
  injectBusy : BitVec 64 := 0
  waiting  : List (Fin 64) := []    -- timed injections that wait for the horizon or for a place
  sentToHost : Bytes := []          -- what the last copy to the host carried
deriving DecidableEq, Repr

/-- 14 R374 to R407. -/
structure HostIf where
  linkUp    : Bool := false
  d3hot     : Bool := false
  cause     : BitVec 64 := 0              -- INT_CAUSE bits 1 to 10; bit 0 is computed
  mask      : BitVec 64 := 0
  mbDone    : BitVec 16 := 0
  holdoff   : Vector Nat 64 := Vector.replicate 64 0
  running   : Vector Bool 64 := Vector.replicate 64 false   -- the holdoff of the vector runs
  owed      : Vector Bool 64 := Vector.replicate 64 false   -- a message is owed at its end
  messages  : Vector Nat 64 := Vector.replicate 64 0        -- messages sent
  wdt       : Nat := 500
  adminLock : Bool := false
  alive     : BitVec 32 := 0
  stalled   : Bool := false
  restarting : Bool := false
  halted    : Bool := false
  supervisor : Bool := false              -- Scribe's supervisor runs
  latchAddr : Option (Nat × Nat) := none  -- a latched high half: its address and value
  readData  : List Nat := []              -- the words that the last read row returned
  boxes     : Vector Mailbox 16 := Vector.replicate 16 {}
  em        : Emergency := {}
  dp        : DataPort := {}
  memory    : Memory := {}                -- the data-port areas
  msix      : Memory := {}                -- the MSI-X table
  tx        : Vector Ring 64 := Vector.replicate 64 {}
  rx        : Vector Ring 64 := Vector.replicate 64 {}
  queues    : Vector PanQueue 5 := Vector.replicate 5 {}
  persistent : List EventItem := []
  eventLog  : List QItem := []            -- committed events that user tasks may still read
  tasks     : Vector Task 4 := Vector.replicate 4 {}
  image     : Option TaskImage := none
  loadTime  : Nat := 0
  refused   : Nat := 0                    -- refusals of user tasks (14 R403, 17 R466)
  unknownCalls : Nat := 0
  nibRate   : Nat × Nat := (0, 0)         -- a microsecond of ticks and the stamps queued in it
  signalsDropped : Nat := 0
  summaries : Summaries := {}
  deferred  : List (Nat × Nat × Source) := []   -- commands ended by a restart: opcode, SEQUENCE
  resetAsked : Bool := false              -- device-reset was accepted
  freeCount : Nat := 0                    -- the model's own: counts free values drawn
deriving DecidableEq, Repr

end Sys2Proof.Machine
end

