-- ==== Sys2Proof/Machine/StateIo.lean ====
section
/-! DEFINITION. State of the synthesis and the outputs (06), of Nib (08) and of the GNSS baseband (03). Each
field's default is its reset value. Configuration fields hold values as coded on the wire. -/

namespace Sys2Proof.Machine

/-! ### Synthesis and outputs -/

/-- 06 R181: coded 0 to 2. -/
inductive ApllState where
  | unlocked
  | locked
  | frozen
deriving DecidableEq, Repr

/-- 06 R179. -/
structure ApllCfg where
  vcoFreq : Nat := 10000000000000
  ceiling : Nat := 50
deriving DecidableEq, Repr

/-- An APLL (06 R178 to R184); `applied` is the control value in force, ZF64. -/
structure Apll where
  cfg        : ApllCfg := {}
  state      : ApllState := .unlocked
  causeDpll  : Bool := false
  causeXo    : Bool := false
  causeSlip  : Bool := false
  clamped    : Bool := false
  engaging   : Bool := false        -- the analogue loop re-engages after a hold
  limited    : Bool := false        -- its outputs are stopped by the limiter
  applied    : Int := 0
  holdTemp   : Int := 0             -- junction temperature at entry to analogue hold
deriving DecidableEq, Repr

/-- 06 R188: coded 0 to 3. -/
inductive CkoutState where
  | off
  | waitAlign
  | running
  | stopped
deriving DecidableEq, Repr

/-- 06 R185. -/
structure CkoutCfg where
  enable  : Nat := 0
  format  : Nat := 0
  nBall   : Nat := 1
  hsDiv   : Nat := 8
  lsDiv   : Nat := 8
  role    : Nat := 0
  width   : Nat := 6553600
  phase   : Nat := 0
  polarity : Nat := 0
  loopDiv : Nat := 1
deriving DecidableEq, Repr

/-- A CKOUT (06 R185 to R193); `c` is its frame correction, `stepBy` a step that waits for its
period boundary. -/
structure Ckout where
  cfg     : CkoutCfg := {}
  state   : CkoutState := .off
  c       : Int := 0
  stepBy  : Option Int := none
  omitted : Nat := 0
deriving DecidableEq, Repr

/-- A program slot of an EVOUT (06 R196), times in 2^-16 ns. -/
structure EvProgram where
  enable : Nat := 0
  start  : Nat := 0
  period : Nat := 0
  width  : Nat := 0
  count  : Nat := 0
deriving DecidableEq, Repr

/-- A slot: its program, the index of its next edge, the pulses fired, and a program that takes over
at its own first edge (06 R197). -/
structure EvSlot where
  program : EvProgram := {}
  edge    : Nat := 0
  fired   : Nat := 0
  next    : Option (EvProgram × Nat) := none
deriving DecidableEq, Repr

/-- An EVOUT (06 R196 to R199). `until_` is the device time at which the pulse in progress ends. -/
structure Evout where
  oneShot  : EvSlot := {}
  periodic : EvSlot := {}
  polarity : Nat := 0
  pending  : Int := 0
  stepBy   : Option Int := none
  until_   : Nat := 0
  pulses   : Nat := 0
  omitted  : Nat := 0
deriving DecidableEq, Repr

/-- A REALIGN command whose items are not all complete (06 R192): kind 0 a channel, 1 a CKOUT, 2 an
EVOUT, with its number. -/
structure RealignJob where
  source : Source
  seq    : Nat
  items  : List (Nat × Nat)
deriving DecidableEq, Repr

/-- A loopback check in progress (06 R201). -/
structure Loopback where
  source    : Nat
  channel   : Fin 24
  tolerance : Int
  from_     : Source
  seq       : Nat
deriving DecidableEq, Repr

/-- 06. -/
structure Synth where
  aplls  : Vector Apll 8 := Vector.replicate 8 {}
  ckouts : Vector Ckout 16 := Vector.replicate 16 {}
  evouts : Vector Evout 8 := Vector.replicate 8 {}
  checks : List Loopback := []
  lastCheck : Option (Nat × Int × Int × Bool) := none   -- source, mean, deviation, pass
  jobs   : List RealignJob := []
deriving DecidableEq, Repr

/-! ### Nib -/

/-- 08 R241. -/
structure NibCfg where
  source  : Nat := 0xFF
  edge    : Nat := 0
  mode    : Nat := 0
  stop    : Nat := 0
  timeout : Nat := 65536000000000
  nominal : Nat := 65536000000000
  gate    : Nat := 1000
  stream  : Nat := 2
  decimate : Nat := 1
deriving DecidableEq, Repr

/-- A pair that is not yet reported (08 R246): the two stamps in 2^-16 ns, what was lost, the sum of
device-time steps since the first edge, and whether a recovery fell in. -/
structure NibPair where
  n         : Nat
  start     : Option Nat := none
  stop      : Option Nat := none
  startLost : Bool := false
  stopLost  : Bool := false
  step      : Int := 0
  recovered : Bool := false
  stopEpoch : BitVec 8 := 0
deriving DecidableEq, Repr

/-- A channel of Nib (08 R231 to R250). `owner` as coded in R240; `gateStamps` holds ordinal and
stamp of the gate in progress, newest first; stamps in 2^-16 ns. -/
structure NibChannel where
  owner     : Nat := 0
  index     : Nat := 0              -- what it serves: a reference, an EVIN, a link
  cfg       : NibCfg := {}
  degraded  : Bool := false
  liveB     : Bool := false
  lockedA   : Bool := true
  lockedB   : Bool := true
  failA     : Nat := 0
  failB     : Nat := 0
  sparesA   : Nat := 32
  sparesB   : Nat := 32
  goneA     : Bool := false         -- the line is retired
  goneB     : Bool := false
  frozenCal : Bool := false
  bypassed  : List (Bool × Nat) := []   -- taps bypassed: line B, tap
  ordinal   : BitVec 64 := 0
  falling   : BitVec 64 := 0
  lastEdge  : Option Nat := none    -- ticks x 2^40 of the latest edge
  buffered  : Nat := 0
  gap       : Bool := false         -- ordinals skipped since the last stamp
  deadTime  : BitVec 32 := 0
  overflow  : BitVec 32 := 0
  orphan    : BitVec 32 := 0
  streamDrop : BitVec 32 := 0
  pairs     : List NibPair := []
  reported  : List Nat := []        -- pairs reported without a value, whose partner may come
  stopBase  : Nat := 0              -- edges of STOP_CHANNEL before this channel was armed
  ended     : Bool := false         -- pairing has ended (R247)
  gateStamps : List (Nat × Nat) := []
  gateFirst : Nat := 0
  gateEdges : Nat := 0              -- edges counted in the gate, lost ones included
  gateOpen  : Bool := false
  gateStep  : Bool := false
  gateLost  : Bool := false         -- a recovery fell in
  gateUnlocked : Bool := false
deriving DecidableEq, Repr

/-! ### GNSS -/

/-- 03 R93. -/
structure GnssCfg where
  band    : Nat := 0
  fSample : Nat := 100000000
  fIf     : Nat := 0
  spectrum : Nat := 0
  code    : Nat := 0
  feRef   : Nat := 0xFF
  loFreq  : Nat := 1575420000000
  antenna : Nat := 0
  consts  : Nat := 7
  ion     : Nat := 1
deriving DecidableEq, Repr

/-- 15 R426: D in hundredths of a chip, four multipath offsets, then the rows of 03 R105. -/
structure TrackCfg where
  d     : Nat := 10
  mp1   : Nat := 0xFFF0
  mp2   : Nat := 16
  mp3   : Nat := 32
  mp4   : Nat := 48
  pll   : Nat := 1000
  fll   : Nat := 400
  dll   : Nat := 100
  tCoh  : Nat := 20
  mpMode : Nat := 2
  cn0   : Nat := 200
deriving DecidableEq, Repr

/-- 03 R116, R118, R119; 15 R426. -/
structure ConsistCfg where
  guardLimit : Nat := 3276800
  driftLimit : Nat := 115292150
  noiseRise  : Nat := 30
  cn0High    : Nat := 550
  shapeLimit : Nat := 150
  posLimit   : Nat := 50
  crossLimit : Nat := 1966080
  constLimit : Nat := 1310720
  clearTime  : Nat := 600
  snap       : Nat := 1
  sysUnc     : List Nat := [10000, 10000, 10000]
deriving DecidableEq, Repr

/-- An epoch as the atomic guard counts it (04 R138): OFFSET minus the phase of the atomic-only ensemble, and whether
every available check passed. -/
structure GuardPoint where
  tick   : Nat
  align  : Int
  passed : Bool
deriving DecidableEq, Repr

/-- 03 R109, R111, R115. -/
structure FixCfg where
  mode     : Nat := 1
  target   : Nat := 500
  surveyMin : Nat := 7200
  scale    : Nat := 1
  interval : Nat := 1000
deriving DecidableEq, Repr

/-- A held position in millimetres and its one-sigma uncertainty (03 R109). -/
structure HeldPosition where
  x : Int
  y : Int
  z : Int
  unc : Nat
deriving DecidableEq, Repr

/-- A group-delay measurement in progress (15 R426). -/
structure GroupJob where
  duration : Nat
  begun    : Nat                    -- tick
  source   : Source
  seq      : Nat
deriving DecidableEq, Repr

/-- A GNSS port (03). `failed` and `unavail` are the bits of R118; `clearing` the failed checks that
pass now and whose CLEAR_TIME runs. -/
structure GnssPort where
  cfg      : GnssCfg := {}
  cfgSet   : Nat := 0               -- the rows of cfg that the host has set, by bit
  track    : Vector TrackCfg 6 := Vector.replicate 6 {}
  consist  : ConsistCfg := {}
  fix      : FixCfg := {}
  position : Option HeldPosition := none
  clockFault : Bool := false
  failed   : BitVec 8 := 0
  unavail  : BitVec 8 := 0
  clearing : BitVec 8 := 0
  rejecting : BitVec 8 := 0         -- failed checks that were answered by a rejection
  crossAlarm : Bool := false        -- CROSS_PORT fails with no atomic guard
  badConsts : Nat := 0              -- constellations excluded under R120
  excluded : List (Sat × Nat) := []  -- with the tick of the exclusion
  leaps    : List (Nat × Int) := [] -- distinct broadcast counts seen to differ
  leapBad  : Bool := false
  histI    : List Nat := List.replicate 16 0
  histQ    : List Nat := List.replicate 16 0
  last     : Option Int := none     -- the last OFFSET
  posSince   : Option Nat := none   -- tick since which the conditions of POSITION, CROSS_PORT and
  crossSince : Option Nat := none   -- CONSTELLATION hold
  constSince : Option Nat := none
  passSince  : Vector Nat 8 := Vector.replicate 8 0   -- tick since which a failed check passes
  guardDist  : Option Nat := none   -- |OFFSET − atomic guard prediction| of the last epoch
  guardHist  : List GuardPoint := []     -- newest first
  noiseHist  : List (Nat × Int) := []    -- noise-tap levels of the last hour with their ticks
  surveyFrom : Nat := 0             -- tick at which the survey began
  acquire  : Nat := 2               -- method chosen at the last start: 0 AIDED, 1 WARM, 2 COLD
  refConst : Nat := 0
  satsUsed : Nat := 0
  group    : Option GroupJob := none
  groupMean : List Int := List.replicate 6 0
  groupErr : List Nat := List.replicate 6 0
deriving DecidableEq, Repr

/-- A hardware channel of the baseband (03 R102, R104). States 0 to 5 as coded. -/
structure GnssChannel where
  state   : Nat := 0
  port    : Nat := 0
  sat     : Sat := ⟨0, 0⟩
  signal  : Nat := 0
  cn0     : Nat := 0
  code    : Nat := 0
  carrier : Nat := 0
  nextCode : Option (Nat × Nat) := none
  tries   : Nat := 0
  track   : TrackCfg := {}
deriving DecidableEq, Repr

/-- What a capture waits for or was started by (03 R121). -/
structure Capture where
  trigger  : Nat
  evin     : Nat
  duration : Nat
  overwrite : Nat
  start    : Nat
  begun    : Nat := 0           -- device time of the trigger, 2^-16 ns
  lost     : Nat := 0           -- the ports, by bit, whose part a clock fault discarded
  temp     : Int := 0
deriving DecidableEq, Repr

/-- A header of a capture set (03 R123). -/
structure CaptureHeader where
  start   : Nat
  period  : Int
  samples : Nat
  offset  : Nat
  port    : Nat
  band    : Nat
  code    : Nat
  trigger : Nat
  temp    : Int
deriving DecidableEq, Repr

/-- The GNSS snapshot store (03 R121 to R124). `octets` names the samples held. -/
structure Snapshots where
  armed     : Option Capture := none
  capturing : Option Capture := none
  held      : Option (CaptureHeader × CaptureHeader × Nat) := none
  overwrite : Bool := false
  exporting : Option (Nat × Source × Nat) := none
  releases  : List (Source × Nat) := []
deriving DecidableEq, Repr

/-- 03. -/
structure Gnss where
  ports     : Vector GnssPort 2 := Vector.replicate 2 {}
  channels  : Vector GnssChannel 200 := Vector.replicate 200 {}
  exclusion : List Sat := []
  orbit     : List OrbitItem := []
  snap      : Snapshots := {}
  snapTaken : Bool := false           -- a capture was taken since the last epoch
deriving DecidableEq, Repr

end Sys2Proof.Machine
end

