-- ==== Sys2Proof/Machine/State.lean ====
section
/-! DEFINITION. The state of the block as plain data, its faults and refusals, and the state after reset:
RESET_N is low, what a reset loses stands at its reset value and what it keeps stands at the
value the part ships with (18 R492). -/

namespace Sys2Proof.Machine

/-- The whole state. `pending` is the queue of commands that wait, first in, first out. -/
structure State where
  pending : List Instr := []
  power   : Power := {}
  clock   : Clock := {}
  refs    : Vector Ref 20 := Vector.replicate 20 {}
  sel     : Selection := {}
  ductus  : Ductus := {}
  margin  : Margin := {}
  synth   : Synth := {}
  nib     : Vector NibChannel 24 := Vector.replicate 24 {}
  gnss    : Gnss := {}
  net     : Net := {}
  keys    : Keys := {}
  stack   : Stack := {}
  wear    : Wear := {}
  host    : HostIf := {}
deriving DecidableEq, Repr

/-- No command of the block stops the machine: nothing raises a fault (the spec gives every row
an effect). Safe. -/
inductive Fault where
deriving DecidableEq, Repr

/-- Refusals. -/
inductive Refusal where
  /-- A row whose meaning is not written: raised by its arm of `exec` only. Safe: the model stops. -/
  | notModelled (mnemonic : String)
deriving DecidableEq, Repr

/-- The kind of a reference by its index (02 R50). -/
inductive RefKind where
  | refin
  | xo
  | gnss
  | ptpu
  | stack
deriving DecidableEq, Repr

def refKind (i : Fin 20) : RefKind :=
  if i.val < 12 then .refin
  else if i.val = 12 then .xo
  else if i.val < 15 then .gnss
  else if i.val < 19 then .ptpu
  else .stack

/-- 09 R254: the defaults of MAC `m` in PORT_MODE 0. -/
def macDefault (m : Fin 16) : Mac :=
  { cfg := { laneMap := m.val, defaultRing := m.val, twTx := Config.twMin 0 false },
    queues := tab fun q =>
      if q.val < 3 then { cfg := { cls := 0 } }
      else if q.val = 3 then { cfg := { cls := 1, rate := 1000000 } }
      else { cfg := { pfcClass := (q.val - 4) % 8 } } }

/-- 03 R93, R103: the defaults of a GNSS port and its six signals in R99 order. -/
def gnssDefault (p : Fin 2) : GnssPort :=
  { cfg := if p.val = 0 then {} else { band := 1, loFreq := 1176450000000, antenna := 1 },
    track := tab fun k =>
      { d := if k.val < 3 then 10 else 50,
        cn0 := if k.val = 0 then 250 else 200 } }

/-- 14 R394: the reset values of ring `r`. -/
def ringDefault (r : Fin 64) : Ring :=
  { vector := 8 + r.val % 56, queue := 4 + r.val % 28, useQueue := 4 + r.val % 28 }

/-- 08 R241: STOP_CHANNEL starts at the channel itself; 08 R240: the XO holds one channel. -/
def nibDefault (c : Fin 24) : NibChannel :=
  if c.val = 0 then { owner := 3, index := 12, cfg := { source := 0x50, stop := 0 }, gateOpen := true }
  else { cfg := { stop := c.val } }

/-- 02 R60: the XO is enabled from reset. -/
def refDefault (i : Fin 20) : Ref :=
  if refKind i = .xo then
    { state := .monitor, channel := some 0, cfg := { nominal := 50000000000 } }
  else {}

/-- The root the part ships with: 32 octets of the factory's draw, a free value (13 R339, R351). -/
def shippedRoot : RootCell :=
  { present := true, root := (List.range 32).map (Config.freeByte 0), epoch := 1,
    check := (Config.sha256 ((List.range 32).map (Config.freeByte 0))).take 8 }

/-- The machine right after reset: RESET_N is low and the part is as it ships. -/
def State.reset : State :=
  { refs := tab refDefault,
    nib := tab nibDefault,
    gnss := { ports := tab gnssDefault },
    net := { macs := tab macDefault },
    keys := { roots := (Vector.replicate 3 {}).set 1 shippedRoot },
    ductus := { dplls := tab fun i =>
      if i.val = 0 then { cfg := { input := 0, apllMask := 1, bw := 6 }, state := .frozen }
      else { cfg := { apllMask := [0x01, 0x02, 0x04, 0x08, 0x10, 0xE0][i.val]! } } },
    host := { rx := tab ringDefault, tx := tab ringDefault, freeCount := 1 } }

end Sys2Proof.Machine
end

