-- ==== Sys2Proof/Machine/Ops.lean ====
section
/-! DEFINITION. The named operations over the parts of the state, over device time, memory and the
items of the pan queues. -/

namespace Sys2Proof.Machine

abbrev Out := Host.Outcome State Fault Refusal

/-! ### Updates of one part of the state -/

def State.modPower (s : State) (f : Power → Power) : State := { s with power := f s.power }
def State.modClock (s : State) (f : Clock → Clock) : State := { s with clock := f s.clock }
def State.modSel (s : State) (f : Selection → Selection) : State := { s with sel := f s.sel }
def State.modDuctus (s : State) (f : Ductus → Ductus) : State := { s with ductus := f s.ductus }
def State.modMargin (s : State) (f : Margin → Margin) : State := { s with margin := f s.margin }
def State.modSynth (s : State) (f : Synth → Synth) : State := { s with synth := f s.synth }
def State.modGnss (s : State) (f : Gnss → Gnss) : State := { s with gnss := f s.gnss }
def State.modNet (s : State) (f : Net → Net) : State := { s with net := f s.net }
def State.modKeys (s : State) (f : Keys → Keys) : State := { s with keys := f s.keys }
def State.modStack (s : State) (f : Stack → Stack) : State := { s with stack := f s.stack }
def State.modWear (s : State) (f : Wear → Wear) : State := { s with wear := f s.wear }
def State.modHost (s : State) (f : HostIf → HostIf) : State := { s with host := f s.host }
def State.modRef (s : State) (i : Fin 20) (f : Ref → Ref) : State :=
  { s with refs := upd s.refs i f }
def State.modNib (s : State) (c : Fin 24) (f : NibChannel → NibChannel) : State :=
  { s with nib := upd s.nib c f }
def State.modNts (s : State) (f : Nts → Nts) : State :=
  s.modNet fun n => { n with nts := f n.nts }
def State.modPtp (s : State) (f : Ptp → Ptp) : State :=
  s.modNet fun n => { n with ptp := f n.ptp }
def State.modMac (s : State) (m : Fin 16) (f : Mac → Mac) : State :=
  s.modNet fun n => { n with macs := upd n.macs m f }
def State.modApll (s : State) (i : Fin 8) (f : Apll → Apll) : State :=
  s.modSynth fun y => { y with aplls := upd y.aplls i f }
def State.modCkout (s : State) (i : Fin 16) (f : Ckout → Ckout) : State :=
  s.modSynth fun y => { y with ckouts := upd y.ckouts i f }
def State.modEvout (s : State) (i : Fin 8) (f : Evout → Evout) : State :=
  s.modSynth fun y => { y with evouts := upd y.evouts i f }
def State.modDpll (s : State) (i : Fin 6) (f : Dpll → Dpll) : State :=
  s.modDuctus fun d => { d with dplls := upd d.dplls i f }
def State.modPort (s : State) (p : Fin 2) (f : GnssPort → GnssPort) : State :=
  s.modGnss fun g => { g with ports := upd g.ports p f }
def State.modLink (s : State) (l : Fin 2) (f : StackLink → StackLink) : State :=
  s.modStack fun t => { t with links := upd t.links l f }
def State.modMember (s : State) (p : Fin 8) (f : StackMember → StackMember) : State :=
  s.modStack fun t => { t with members := upd t.members p f }
def State.modQueue (s : State) (q : Fin 5) (f : PanQueue → PanQueue) : State :=
  s.modHost fun h => { h with queues := upd h.queues q f }
def State.modTask (s : State) (t : Fin 4) (f : Task → Task) : State :=
  s.modHost fun h => { h with tasks := upd h.tasks t f }
def State.modTx (s : State) (r : Fin 64) (f : Ring → Ring) : State :=
  s.modHost fun h => { h with tx := upd h.tx r f }
def State.modRx (s : State) (r : Fin 64) (f : Ring → Ring) : State :=
  s.modHost fun h => { h with rx := upd h.rx r f }

/-- `f` applied for each element of a list in turn. -/
def forAll {α : Type} (l : List α) (f : α → State → State) (s : State) : State :=
  l.foldl (fun t a => f a t) s

/-- `f` where `c` holds. -/
def onlyIf (c : Bool) (f : State → State) (s : State) : State := if c then f s else s

/-- All indices below `n`. -/
def fins (n : Nat) : List (Fin n) := List.ofFn id

/-- `x` as an index below `n`, where it is one. -/
def asFin (n x : Nat) : Option (Fin n) := if h : x < n then some ⟨x, h⟩ else none

/-! ### Numbers -/

/-- The unbounded value of a bound word (00 R16). -/
abbrev unbounded : Nat := 2 ^ 48 - 1

/-- A bound word saturates (00 R17). -/
def satBound (n : Nat) : Nat := min n unbounded

/-- A quotient rounded to the nearest unit, ties away from zero (00 R15). -/
def rdiv (a : Int) (b : Nat) : Int :=
  if 0 ≤ a then (2 * a + b) / (2 * b) else -((2 * (-a) + b) / (2 * b))

/-- A ZI64 saturates at the ends of its range; the lowest code is kept for "not available"
(00 R13, R14). -/
def satZi (a : Int) : Int :=
  if a < -(2 ^ 63 - 1) then -(2 ^ 63 - 1) else if 2 ^ 63 - 1 < a then 2 ^ 63 - 1 else a

/-- A signed value as its `bits`-bit code, and back. -/
def toCode (bits : Nat) (i : Int) : Nat := (i % (2 ^ bits : Int)).toNat
def ofCode (bits n : Nat) : Int :=
  if n % 2 ^ bits < 2 ^ (bits - 1) then (n % 2 ^ bits : Nat) else (n % 2 ^ bits : Nat) - 2 ^ bits

/-- A ZI64 or ZF64 that may be "not available" (00 R13, R15). -/
def optCode (o : Option Int) : Nat := match o with
  | some i => toCode 64 i
  | none => 2 ^ 63

/-- `n` octets of a number, lowest first and highest first (00 R7). -/
def le : Nat → Nat → Bytes
  | 0, _ => []
  | n + 1, v => BitVec.ofNat 8 (v % 256) :: le n (v / 256)

def be (n v : Nat) : Bytes := (le n v).reverse

/-- The number that octets spell, lowest first. -/
def ofLe : Bytes → Nat
  | [] => 0
  | b :: bs => b.toNat + 256 * ofLe bs

/-- Units of 2^-16 ns in a second. -/
abbrev secUnit : Nat := 65536 * 10 ^ 9

/-- A ZT128 in units of 2^-16 ns, and its 16 octets, little-endian (00 R8, R10). -/
def ztUnits (t : ZT128) : Nat := t.seconds * secUnit + t.nanoseconds * 65536 + t.fraction

/-- 00 R12: NANOSECONDS is at most 999,999,999. -/
def ztValid (t : ZT128) : Bool := decide (t.nanoseconds < 10 ^ 9)

def ztBytes (u : Nat) : Bytes :=
  le 2 0 ++ le 2 (u % 65536) ++ le 4 (u / 65536 % 10 ^ 9) ++ le 8 (u / secUnit)

/-- The ZT128 of a count of units. -/
def ztOf (u : Nat) : ZT128 :=
  ⟨u / secUnit, u / 65536 % 10 ^ 9, u % 65536⟩

/-- Nanoseconds and milliseconds in units of 2^-16 ns. -/
abbrev ns16 (n : Nat) : Nat := n * 65536
abbrev ms16 (n : Nat) : Nat := n * 65536000000

/-! ### Memory -/

/-- What a memory reads at `a`, where an unlisted address reads as `d a`. -/
def readCells (d : Nat → Byte) (l : List Host.Cell) (a : Nat) : Byte :=
  match l with
  | [] => d a
  | c :: cs => if c.1 = a then c.2 else readCells d cs a

/-- The cells with `a` holding `b`: addresses strictly rising, nothing listed that equals what an
unlisted address reads as. -/
def writeCells (d : Nat → Byte) (l : List Host.Cell) (a : Nat) (b : Byte) : List Host.Cell :=
  match l with
  | [] => if b = d a then [] else [(a, b)]
  | c :: cs =>
    if c.1 < a then c :: writeCells d cs a b
    else if c.1 = a then (if b = d a then cs else (a, b) :: cs)
    else if b = d a then c :: cs else (a, b) :: c :: cs

/-- The canonical form. -/
def cellsWf (d : Nat → Byte) : List Host.Cell → Bool
  | [] => true
  | [c] => decide (c.2 ≠ d c.1)
  | c :: c' :: cs => decide (c.2 ≠ d c.1) && decide (c.1 < c'.1) && cellsWf d (c' :: cs)

/-- An unlisted byte of the data-port areas reads 0 (DESIGN CHOICE). -/
def zeroByte (_ : Nat) : Byte := 0

/-- One octet of a number at octet `k`. -/
def octet (v k : Nat) : Byte := BitVec.ofNat 8 (v / 256 ^ k % 256)

/-- What the factory wrote into the calibration record (17 R476; 08 R235, 09 R259, 03 R113,
16 R440): the stated values, and a free value where the factory measures. -/
def calByte (a : Nat) : Byte :=
  if a < 4 then octet 0x3152435A a
  else if a < 6 then octet 1 (a - 4)
  else if a < 8 then octet 32752 (a - 6)
  else if a < 24 then octet Config.deviceId (a - 8)
  else if a < 32 then Config.factoryByte a
  else if a < 64 then 0
  else if 22736 ≤ a ∧ a < 23480 then      -- plane delays 0, TS_UNC 400 ps
    (if (a - 22736) % 24 < 16 then 0 else octet 400 ((a - 22736) % 24 - 16))
  else if 25160 ≤ a ∧ a < 25256 then 0    -- SIGNAL_DELAY
  else if 25256 ≤ a ∧ a < 25352 then octet unbounded ((a - 25256) % 8)
  else if 25368 ≤ a ∧ a < 25376 then 0    -- LINK_ASYM of LINK_E
  else if 25384 ≤ a ∧ a < 25392 then octet unbounded (a - 25384)
  else if 25408 ≤ a ∧ a < 25416 then 0    -- LINK_ASYM of LINK_W
  else if 25424 ≤ a ∧ a < 25432 then octet unbounded (a - 25424)
  else if 25464 ≤ a ∧ a < 28152 ∧ (a - 25464) / 2 % 12 = 5 then octet 0x1000 ((a - 25464) % 2)
  else if 28152 ≤ a then 0
  else Config.factoryByte a

def Memory.read (d : Nat → Byte) (m : Memory) (a : Nat) : Byte := readCells d m.cells a
def Memory.write (d : Nat → Byte) (m : Memory) (a : Nat) (b : Byte) : Memory :=
  ⟨writeCells d m.cells a b⟩
def Memory.wf (d : Nat → Byte) (m : Memory) : Bool := cellsWf d m.cells

def Memory.writeBytes (d : Nat → Byte) (m : Memory) (a : Nat) : Bytes → Memory
  | [] => m
  | b :: bs => Memory.writeBytes d (m.write d a b) (a + 1) bs

def Memory.readBytes (d : Nat → Byte) (m : Memory) (a n : Nat) : Bytes :=
  (List.range n).map fun i => m.read d (a + i)

/-- The data-port areas: read and write. -/
def dpRead (s : State) (a n : Nat) : Bytes := s.host.memory.readBytes zeroByte a n
def dpWrite (a : Nat) (bs : Bytes) (s : State) : State :=
  s.modHost fun h => { h with memory := h.memory.writeBytes zeroByte a bs }

/-- A field of the calibration record, as an unsigned number and as a signed one. -/
def calNat (s : State) (a n : Nat) : Nat := ofLe (s.wear.calRecord.readBytes calByte a n)

/-- A delay of the record: `none` where the entry marks it absent (17 R476). -/
def calDelay (s : State) (a : Nat) : Option Int :=
  let n := calNat s a 8
  if n = 2 ^ 63 then none else some (ofCode 64 n)

/-! ### Device time -/

/-- 07 R207: T of a parameter set at tick `v` and `sub` × 2^-40 of a tick, in 2^-16 ns. -/
def VirtualSet.time (p : VirtualSet) (v sub : Nat) : Nat :=
  (p.t0 + rdiv (((v - p.v0 : Int) * 2 ^ 40 + sub) * (2 ^ 60 + p.rate)) (2 ^ 84)).toNat

/-- The set that converts a stamp of tick `v`: the one whose V0 is at or before it (07 R207). -/
def Clock.setFor (c : Clock) (v : Nat) : VirtualSet := if c.vset.v0 ≤ v then c.vset else c.vprev

/-- The device time of an instant `sub` × 2^-40 of a tick after the present tick, in 2^-16 ns: the
upper 16 bits of the register's fraction in the counter form (07 R206). -/
def stampAt (s : State) (sub : Nat) : Nat :=
  match s.clock.form with
  | .counter => (s.clock.reg + sub * s.clock.increment / 2 ^ 40) / 2 ^ 24
  | .virtual => (s.clock.setFor s.clock.ticks.toNat).time s.clock.ticks.toNat sub
  | .stopped => s.clock.reg / 2 ^ 24

/-- The present device time in 2^-16 ns, and its SECONDS. -/
def now (s : State) : Nat := stampAt s 0
def nowSec (s : State) : Nat := now s / secUnit

def counterForm (s : State) : Bool := decide (s.clock.form = .counter)
def clockRuns (s : State) : Bool := decide (s.clock.form ≠ .stopped)

/-- Calendar units in a nanosecond and in 2^-16 ns (see Machine/StateNet.lean). -/
abbrev calNs : Nat := 25 * 2 ^ 40
abbrev calZt : Nat := 25 * 2 ^ 24

/-- The present device time in calendar units. -/
def calNow (s : State) : Nat :=
  match s.clock.form with
  | .virtual => now s * calZt
  | _ => s.clock.reg * 25

/-! ### Free values -/

/-- A fresh random string of `n` octets, one generate request of the DRBG (13 R368): a free value at the
counter. -/
def freshBytes (n : Nat) (s : State) : Bytes × State :=
  ((List.range n).map (Config.freeByte s.host.freeCount),
   (s.modHost fun h => { h with freeCount := h.freeCount + 1 }).modKeys fun k =>
     { k with drbgCount := k.drbgCount + 1 })

/-- A fresh free choice. -/
def freshChoice (s : State) : Bool × State :=
  (Config.freeChoice s.host.freeCount,
   s.modHost fun h => { h with freeCount := h.freeCount + 1 })

/-- A fresh free number. -/
def freshNat (s : State) : Nat × State :=
  (Config.freeNat s.host.freeCount,
   s.modHost fun h => { h with freeCount := h.freeCount + 1 })

/-- A fresh free signed number. -/
def freshInt (s : State) : Int × State :=
  (Config.freeInt s.host.freeCount,
   s.modHost fun h => { h with freeCount := h.freeCount + 1 })

/-! ### Pan-queue items -/

/-- An item begins to be built (14 R400); it becomes visible at its commit. -/
def enqueue (q : Fin 5) (p : QPayload) (s : State) : State :=
  s.modQueue q fun pq => { pq with building := pq.building ++ [p] }

/-- The codes that 15 R431 marks P. -/
def persistentCodes : List Nat :=
  [0x0102, 0x0104, 0x0105, 0x0106, 0x0107, 0x0108, 0x0301, 0x0303, 0x0604, 0x0801, 0x0802, 0x0803,
   0x0806, 0x0809, 0x0A01, 0x0A03, 0x0B01, 0x0B04, 0x0B05, 0x0B06, 0x0C01, 0x0C03]

/-- The codes whose ARG_A is a mask (15 R431). -/
def maskCodes : List Nat := [0x0510, 0x0610, 0x0611, 0x0612, 0x0710, 0x0711, 0x0B10]

/-- The event-log payload of a code at device time `t` (14 R399). -/
def eventItem (s : State) (code argA argB t : Nat) : EventItem :=
  { code := code, epoch := s.clock.epoch,
    flags := (if s.clock.form = .virtual then 1 else 0) +
      (if code ∈ persistentCodes then 2 else 0) + (if code ∈ maskCodes then 4 else 0),
    argA := argA % 2 ^ 32, argB := argB % 2 ^ 64, time := t }

/-- An event is raised: its item begins to be built on the event log. -/
def raiseAt (code argA argB t : Nat) (s : State) : State :=
  enqueue 0 (.event (eventItem s code argA argB t)) s

def raise (code argA argB : Nat) (s : State) : State := raiseAt code argA argB (now s) s

/-! ### The queue of commands -/

/-- The number that names a source in a command-complete event (14 R386). -/
def sourceCode : Source → Nat
  | .mailbox m => m.val
  | .emergency => 16
  | .task t => 0x20 + t.val

/-- The command-complete event of an ACCEPTED command (14 R386). -/
def completeCmd (opcode seq status : Nat) (src : Source) (s : State) : State :=
  raise (opcode / 256 * 256 + 0xFF) (opcode + seq * 65536) (status + sourceCode src * 65536) s

/-! ### Lists keyed by a number -/

def assoc {α : Type} (l : List (Nat × α)) (k : Nat) : Option α :=
  match l with
  | [] => none
  | p :: ps => if p.1 = k then some p.2 else assoc ps k

/-- The list with `k` mapped to `v`, keys rising. -/
def assocSet {α : Type} (l : List (Nat × α)) (k : Nat) (v : α) : List (Nat × α) :=
  match l with
  | [] => [(k, v)]
  | p :: ps =>
    if p.1 < k then p :: assocSet ps k v
    else if p.1 = k then (k, v) :: ps
    else (k, v) :: p :: ps

def assocErase {α : Type} (l : List (Nat × α)) (k : Nat) : List (Nat × α) :=
  l.filter fun p => p.1 ≠ k

end Sys2Proof.Machine
end

