-- ==== Sys2Proof/Machine/Flags.lean ====
section
/-! DEFINITION. Status flags: interrupt causes and vectors, the flag words of stamps and of the counter
window, and the summary events that are raised at most once per device-time second. -/

namespace Sys2Proof.Machine

/-- The host reaches the device (14 R376). -/
def hostReachable (s : State) : Bool := s.host.linkUp && !s.host.d3hot

/-! ### Interrupts (14 R380, R381) -/

/-- A vector message is due: sent unless the vector's holdoff runs; then owed at its end. -/
def signalVector (v : Fin 64) (s : State) : State :=
  if s.host.running[v] then
    s.modHost fun h => { h with owed := h.owed.set v true }
  else
    s.modHost fun h => { h with messages := upd h.messages v (· + 1),
                                running := h.running.set v (decide (h.holdoff[v] ≠ 0)) }

/-- The vector of an INT_CAUSE bit (14 R380). -/
def causeVector (b : Nat) : Fin 64 :=
  match b with
  | 0 => 0 | 1 => 1 | 2 => 2 | 3 => 3 | 4 => 4 | 5 => 5 | 6 => 6 | 7 => 7 | 8 => 7 | 9 => 2 | _ => 3

/-- INT_CAUSE as it reads: bit 0 says that a bit of INT_MB_DONE is set. -/
def intCause (s : State) : BitVec 64 :=
  s.host.cause ||| (if s.host.mbDone = 0 then 0 else 1)

/-- A cause happens: its bit sets, and its vector is signalled unless it is masked. -/
def setCause (b : Nat) (s : State) : State :=
  let s := s.modHost fun h =>
    if b = 0 then h else { h with cause := h.cause ||| BitVec.ofNat 64 (2 ^ b) }
  if s.host.mask.getLsbD b then s else signalVector (causeVector b) s

/-- Mailbox `m` completes. -/
def setMbDone (m : Fin 16) (s : State) : State :=
  setCause 0 (s.modHost fun h => { h with mbDone := h.mbDone ||| BitVec.ofNat 16 (2 ^ m.val) })

/-- A fatal error (14 R380). -/
def fatal (s : State) : State := setCause 10 s

/-! ### Leap table and the counter window (07 R218 to R224) -/

/-- The entry in force at TAI second `t`, with the offset before it. -/
def leapAt (tab : LeapTable) (t : Nat) : Option LeapEntry :=
  (tab.entries.filter fun e => decide (e.effective ≤ t)).getLast?

def offsetAt (tab : LeapTable) (t : Nat) : Int :=
  match leapAt tab t with
  | some e => e.offset
  | none => tab.base

/-- The entries with the offset before each, and Δ. -/
def leapSteps (base : Int) : List LeapEntry → List (Nat × Int × Int)
  | [] => []
  | e :: es => (e.effective, base, e.offset - base) :: leapSteps e.offset es

/-- 07 R220: the TAI second before a positive leap, in which 23:59:59 repeats. -/
def inLeap (tab : LeapTable) (t : Nat) : Bool :=
  (leapSteps tab.base tab.entries).any fun (l, _, d) => decide (d = 1) && decide (t + 1 = l)

/-- 07 R220: UTC of a TAI instant, both in 2^-16 ns. -/
def utcOf (tab : LeapTable) (u : Nat) : Int :=
  (u : Int) - (offsetAt tab (u / secUnit) + (if inLeap tab (u / secUnit) then 1 else 0)) * secUnit

/-- 07 R221: the smear window that holds a TAI instant: L, the offset before, Δ. -/
def smearWindow (tab : LeapTable) (u : Nat) : Option (Nat × Int × Int) :=
  (leapSteps tab.base tab.entries).find? fun (l, _, d) =>
    decide (((l : Int) - 43200 - d) * secUnit ≤ u) && decide (u < (l + 43200) * secUnit)

/-- 07 R221: smeared UTC. -/
def smearedOf (tab : LeapTable) (u : Nat) : Int :=
  match smearWindow tab u with
  | some (l, o, d) =>
    (u : Int) - o * secUnit - rdiv (d * ((u : Int) - ((l : Int) - 43200 - d) * secUnit)) (86400 + d).toNat
  | none => utcOf tab u

/-- 07 R222: LEAP_PENDING with the sign of Δ. -/
def leapPending (tab : LeapTable) (t : Nat) : Int :=
  match (leapSteps tab.base tab.entries).find? fun (l, _, d) =>
      decide ((l : Int) - 86400 - d ≤ t) && decide (t < l) with
  | some (_, _, d) => d
  | none => 0

/-- TABLE_EXPIRED applies only to a table that the host has written (07 R218, R222). -/
def tableExpired (s : State) : Bool :=
  !s.clock.leap.unset && (s.clock.leap.expired || decide (s.clock.leap.expiry * secUnit < now s))

/-- FLAGS of the counter window at device time `u` (07 R223). -/
def windowFlags (s : State) (u : Nat) : Nat :=
  let tab := s.clock.leap
  let p := leapPending tab (u / secUnit)
  (if s.clock.form = .virtual then 1 else 0) + (if inLeap tab (u / secUnit) then 2 else 0) +
  (if (smearWindow tab u).isSome then 4 else 0) + (if 0 < p then 8 else 0) +
  (if p < 0 then 16 else 0) + (if tab.unset then 32 else 0) + (if tableExpired s then 64 else 0) +
  (if s.clock.estimatePoor then 128 else 0)

/-! ### STAMP_FLAGS (07 R226) -/

/-- VALID, VIRTUAL, UNCALIBRATED and RECOMMITTED. -/
def stampFlags (s : State) (valid calibrated recommitted : Bool) : Nat :=
  (if valid && clockRuns s then 1 else 0) + (if s.clock.form = .virtual then 2 else 0) +
  (if calibrated then 0 else 4) + (if recommitted then 8 else 0)

/-! ### Summaries: at most one event per device-time second -/

/-- The late summary of a MAC (10 R281): re-commits and late drops of the second that has ended. -/
def flushLate (m : Fin 16) (s : State) : State :=
  let n := s.net.macs[m].lateIn
  if n = (0, 0) then s
  else raise 0x0520 m.val (n.1 % 2 ^ 32 + n.2 % 2 ^ 32 * 2 ^ 32)
    (s.modMac m fun c => { c with lateIn := (0, 0) })

/-- The masks of the second that has ended are raised as events. -/
def flushSummaries (s : State) : State :=
  if s.host.summaries.second = nowSec s then s
  else
    let s' := forAll s.host.summaries.masks (fun x => raise x.1 x.2.2 x.2.1) s
    (forAll (fins 16) flushLate s').modHost fun h => { h with summaries := ⟨nowSec s, [], []⟩ }

/-- The masks with the bits of `m` added to that of an event and instance. -/
def addMask (l : List (Nat × Nat × Nat)) (code inst m : Nat) : List (Nat × Nat × Nat) :=
  match l with
  | [] => [(code, inst, m)]
  | x :: xs =>
    if x.1 = code ∧ x.2.1 = inst then (code, inst, x.2.2 ||| m) :: xs
    else x :: addMask xs code inst m

/-- The bits of `m` are carried by the event of this second. -/
def markMask (code inst m : Nat) (s : State) : State :=
  (flushSummaries s).modHost fun h =>
    { h with summaries := { h.summaries with masks := addMask h.summaries.masks code inst m } }

/-- Row `bit` of a summary changed. -/
def markSummary (code inst bit : Nat) (s : State) : State := markMask code inst (2 ^ bit) s

/-- An event that is raised at most once per device-time second for an instance. -/
def raiseOnce (code inst argA argB : Nat) (s : State) : State :=
  let s := flushSummaries s
  if (code, inst) ∈ s.host.summaries.once then s
  else raise code argA argB (s.modHost fun h =>
    { h with summaries := { h.summaries with once := (code, inst) :: h.summaries.once } })

end Sys2Proof.Machine
end

