-- ==== Sys2Proof/Machine/SealOps.lean ====
section
/-! DEFINITION. Nonces (11 R300, R301), NTP timestamps (11 R310) and the octets of the messages that the
device builds: how a committed time is placed in a frame and the frame sealed (11 R308, R311; 12 R328
to R333). -/

namespace Sys2Proof.Machine

/-! ### Nonces (11 R300, R301) -/

/-- The stack position, or 0 when the device is not paired. -/
def noncePosition (s : State) : Nat := if s.stack.paired then s.stack.position else 0

/-- The bases that the device holds for a key. -/
def heldBases (s : State) (slot keyId : Nat) : List Nat :=
  ((s.net.nts.bases.filter fun b => decide (b.slot = slot) && decide (b.keyId = keyId)).map (·.base)) ++
  ((s.stack.bases.filter fun b => decide (b.slot = slot) && decide (b.keyId = keyId)).map (·.base))

/-- The first value from `b` on that is not held. -/
def avoid (held : List Nat) : Nat → Nat → Nat
  | 0, b => b
  | n + 1, b => if b ∈ held then avoid held n ((b + 1) % 2 ^ 48) else b

/-- An engine draws a base for a key: a free value other than every base held (R301). A paired
device reports it in its next ACK. -/
def drawBase (engine slot keyId : Nat) (s : State) : Nat × State :=
  let (f, s) := freshNat s
  let held := heldBases s slot keyId
  let b := avoid held (held.length + 1) (f % 2 ^ 48)
  let off := fun (x : NonceBase) =>
    if x.engine = engine ∧ x.slot = slot ∧ x.keyId = keyId then { x with live := false } else x
  let s := s.modNts fun n =>
    { n with bases := { engine := engine, slot := slot, keyId := keyId, base := b } ::
               n.bases.map off }
  (b, if s.stack.paired then s.modStack fun t => { t with drawn := t.drawn ++ [⟨slot, engine, keyId, b⟩] }
      else s)

def liveBase (s : State) (engine slot keyId : Nat) : Option NonceBase :=
  s.net.nts.bases.find? fun b => b.live && decide (b.engine = engine) && decide (b.slot = slot) &&
    decide (b.keyId = keyId)

/-- The base and the count of the next nonce; `gcm` where only the low 32 bits of the count are
carried, so that the engine draws again before they wrap. -/
def takeCount (engine slot keyId : Nat) (gcm : Bool) (s : State) : Nat × Nat × State :=
  let (b, c, s) := match liveBase s engine slot keyId with
    | some x =>
      if gcm && decide (2 ^ 32 ≤ x.count) then
        let (b, s) := drawBase engine slot keyId s
        (b, 0, s)
      else (x.base, x.count, s)
    | none =>
      let (b, s) := drawBase engine slot keyId s
      (b, 0, s)
  let step := fun (x : NonceBase) =>
    if x.live ∧ x.engine = engine ∧ x.slot = slot ∧ x.keyId = keyId then { x with count := c + 1 } else x
  (b, c, s.modNts fun n => { n with bases := n.bases.map step })

/-- A 16 B NONCE. -/
def takeNonce (engine slot keyId : Nat) (s : State) : Bytes × State :=
  let (b, c, s') := takeCount engine slot keyId false s
  (le 1 (noncePosition s) ++ le 1 engine ++ be 6 b ++ be 8 c, s')

/-- A 12 B IV (12 R331). -/
def takeIv (engine slot keyId : Nat) (s : State) : Bytes × State :=
  let (b, c, s') := takeCount engine slot keyId true s
  (le 1 (noncePosition s) ++ le 1 engine ++ be 6 b ++ be 4 (c % 2 ^ 32), s')

/-- A key is gone: its bases with it. -/
def dropBases (slot keyId : Nat) (s : State) : State :=
  (s.modNts fun n =>
    { n with bases := n.bases.filter fun b => decide (b.slot ≠ slot) || decide (b.keyId ≠ keyId) }).modStack
    fun t => { t with bases := t.bases.filter fun b => decide (b.slot ≠ slot) || decide (b.keyId ≠ keyId) }

/-! ### NTP timestamps (11 R310) -/

/-- The difference between the scale of step 1 and TAI at a TAI instant, 2^-16 ns. -/
def scaleShift (s : State) (smear : Bool) (u : Nat) : Int :=
  (if smear then smearedOf s.clock.leap u else utcOf s.clock.leap u) - u

/-- A UTC instant as an NTP timestamp. -/
def ntpOf (x : Int) : Nat :=
  let f := (rdiv (x % secUnit * 2 ^ 32) secUnit).toNat
  let sec := x / secUnit + 2208988800 + (if f = 2 ^ 32 then 1 else 0)
  (sec % 2 ^ 32).toNat * 2 ^ 32 + f % 2 ^ 32

/-! ### NTP messages (11 R308, R311) -/

/-- LI of an answer: 3 where it says so, else what the leap table says at the committed instant, which a
smeared address does not show (R309). -/
def leapBits (s : State) (r : Reply) : Nat :=
  let p := leapPending s.clock.leap (r.stamp / secUnit)
  if r.li = 3 then 3 else if r.smear ∨ p = 0 then 0 else if 0 < p then 1 else 2

/-- The 48 octets of the header: VN 4, mode 4, root delay 0. -/
def ntpHeader (li : Nat) (r : Reply) (refT rx tx : Nat) : Bytes :=
  le 1 (li * 64 + 4 * 8 + 4) ++ le 1 r.stratum ++ le 1 (toCode 8 r.poll) ++ le 1 r.precision ++
  be 4 0 ++ be 4 r.rootDisp ++ r.refId ++ be 8 refT ++ be 8 r.origin ++ be 8 rx ++ be 8 tx

/-- An extension field: its body padded to a multiple of 4 octets. -/
def efField (type : Nat) (body : Bytes) : Bytes :=
  let pad := (4 - body.length % 4) % 4
  be 2 type ++ be 2 (4 + body.length + pad) ++ body ++ le pad 0

def cookieFields (l : List Bytes) : Bytes := l.flatMap (efField 0x0204)

/-- The message of an NTS answer with its times placed: header, Unique Identifier, and the sealed
authenticator of a response or a RATE answer. -/
def ntpOctets (engine : Nat) (r : Reply) (s : State) : Bytes × State :=
  let d := scaleShift s r.smear r.stamp
  let conv := fun (u : Nat) => if u = 0 then 0 else ntpOf (u + d)
  let head := if r.kind = 1 then ntpHeader 3 r 0 0 0
    else ntpHeader (leapBits s r) r (conv r.refTai) (ntpOf (r.ingress + d)) (ntpOf (r.stamp + d))
  match r.kind with
  | 3 => (head, s)
  | 1 => (head ++ efField 0x0104 r.uid, s)
  | _ =>
    let ad := head ++ efField 0x0104 r.uid
    let (nonce, s) := takeNonce engine r.keySlot r.keyId s
    let ct := Config.sivSeal r.s2c [ad] nonce (cookieFields r.cookies)
    (ad ++ efField 0x0404 (be 2 16 ++ be 2 ct.length ++ nonce ++ ct), s)

/-- The length of the message in octets: the seal adds 16 (R311). -/
def ntpLength (r : Reply) : Nat :=
  match r.kind with
  | 3 => 48
  | 1 => 48 + 4 + r.uid.length
  | _ => 48 + 4 + r.uid.length + 24 + 16 + 108 * r.cookies.length

/-! ### PTP messages (12 R328 to R333) -/

/-- The PTP message type of a kind of frame, and its controlField. -/
def ptpType : Nat → Nat × Nat
  | 4 => (9, 3)
  | 5 => (0, 0)
  | 6 => (0xB, 5)
  | _ => (1, 1)

/-- SECONDS mod 2^48 and NANOSECONDS, big-endian. -/
def ptpTime (u : Nat) : Bytes := be 6 (u / secUnit % 2 ^ 48) ++ be 4 (u / 65536 % 10 ^ 9)

def authLength : Option AuthSeal → Nat
  | none => 0
  | some a => if a.algorithm = 0 then 26 else 38

/-- The octets between the header and the TLVs of a PTP message. -/
def ptpBody (r : Reply) : Bytes :=
  match r.kind with
  | 4 => ptpTime r.ingress ++ le 8 r.reqClock ++ be 2 r.reqPort
  | 6 => ptpTime r.stamp ++ r.body
  | _ => ptpTime r.stamp

/-- The correctionField with the fraction of the stamp placed (R328, R329). -/
def ptpCorrection (r : Reply) : Int :=
  match r.kind with
  | 4 => r.correction - (r.ingress % 65536 : Nat)
  | 6 => 0
  | _ => (r.stamp % 65536 : Nat)

def ptpLength (r : Reply) : Nat := 34 + (ptpBody r).length + r.tlvs.length + authLength r.auth

/-- The common header: versionPTP 2, minorVersionPTP 1, unicastFlag 1. -/
def ptpHeader (s : State) (r : Reply) : Bytes :=
  be 1 (ptpType r.kind).1 ++ be 1 0x12 ++ be 2 (ptpLength r) ++ be 1 r.domain ++ be 1 0 ++
  be 2 (0x0400 + r.flags) ++ be 8 (toCode 64 (ptpCorrection r)) ++ be 4 0 ++
  (le 8 s.net.ptp.clockId) ++ be 2 r.portNumber ++ be 2 r.seqId ++ be 1 (ptpType r.kind).2 ++
  be 1 (toCode 8 r.logInterval)

/-- A message with its authentication TLV (R331). -/
def withAuth (engine : Nat) (auth : Option AuthSeal) (m : Bytes) (s : State) : Bytes × State :=
  match auth with
  | none => (m, s)
  | some a =>
    let (iv, s) := if a.algorithm = 0 then ([], s) else takeIv engine a.slot a.keyId s
    let m := m ++ be 2 0x8009 ++ be 2 (authLength (some a) - 4) ++ be 1 a.spp ++
      be 1 (if a.algorithm = 0 then 0 else 4) ++ be 4 a.keyId ++ iv
    (m ++ (Config.icv a.algorithm a.key iv m).take 16, s)

def ptpOctets (engine : Nat) (r : Reply) (s : State) : Bytes × State :=
  withAuth engine r.auth (ptpHeader s r ++ ptpBody r ++ r.tlvs) s

/-- The committed instant is placed in a frame and the frame sealed; a host frame reports it only. -/
def placeTime (engine stamp : Nat) (r : Reply) (s : State) : Reply × State :=
  let r := { r with stamp := stamp }
  if r.kind ≤ 3 then
    let (o, s) := ntpOctets engine r s
    ({ r with octets := o }, s)
  else if r.kind ≤ 7 then
    let (o, s) := ptpOctets engine r s
    ({ r with octets := o }, s)
  else (r, s)

/-- LENGTH of a frame of the device: from destination address to FCS, at least 64 octets. -/
def frameLength (w : Wire) (payload : Nat) : Nat :=
  max 64 (14 + 4 * w.tags.length + (if w.v6 then 40 else 20) + 8 + payload + 4)

end Sys2Proof.Machine
end

