-- ==== Sys2Proof/Machine/Calendar.lean ====
section
/-! DEFINITION. Stamp planes, launch leads, the launch calendar and how a frame's life ends (01 R32 to R48,
09 R251, R257 to R260, 10 R275 to R281). -/

namespace Sys2Proof.Machine

/-! ### Ports -/

/-- 09 R251: a MAC index that the present mode uses. -/
def macPresentIn (mode : Nat) (split : Fin 16 → Bool) (m : Fin 16) : Bool :=
  match mode with
  | 0 => true
  | 1 => decide (m.val % 4 = 0)
  | 2 => decide (m.val < 8) &&
      (decide (m.val % 2 = 0) || split ⟨m.val - 1, by omega⟩)
  | 3 => decide (m.val = 0) || decide (m.val = 4)
  | _ => decide (m.val = 0)

def macSplit (s : State) (m : Fin 16) : Bool := decide (s.net.macs[m].cfg.split = 1)

def macPresent (s : State) (m : Fin 16) : Bool := macPresentIn s.net.portMode (macSplit s) m

/-- Whether the port of `m` runs at 50 Gb/s: split, in PORT_MODE 2. -/
def isSplit (s : State) (m : Fin 16) : Bool :=
  decide (s.net.portMode = 2) && macSplit s ⟨m.val / 2 * 2, by omega⟩

/-- The launch grid of a port in calendar units: 64 bit times (10 R275). -/
def grid (s : State) (m : Fin 16) : Nat :=
  (match s.net.portMode with
   | 0 => 64
   | 1 => 16
   | 2 => if isSplit s m then 32 else 16
   | 3 => 8
   | _ => 4) * 2 ^ 40

/-- The cost of a frame and the calendar time it occupies (10 R275). -/
def cost (s : State) (m : Fin 16) (length : Nat) : Nat := length + s.net.macs[m].overhead
def occupancy (s : State) (m : Fin 16) (length : Nat) : Nat :=
  (cost s m length + 7) / 8 * grid s m

/-! ### Stamp planes (09 R259, R260; 17 R476) -/

/-- The entry of a MAC in PORT_PLANE for the present mode. -/
def planeAt (s : State) (m : Fin 16) : Nat :=
  22736 + 24 * (match s.net.portMode with
    | 0 => m.val
    | 1 => 16 + m.val / 4
    | 2 => 20 + m.val
    | 3 => 28 + m.val / 4
    | _ => 30)

/-- The entry of a MAC's logical lane 0 in BALL_DELAY. -/
def ballAt (s : State) (m : Fin 16) : Nat :=
  22224 + (2 * (s.net.macs[m].cfg.laneMap % 16) + (if s.net.portMode < 2 then 0 else 1)) * 16

def txBall (s : State) (m : Fin 16) : Option Int := calDelay s (ballAt s m)
def rxBall (s : State) (m : Fin 16) : Option Int := calDelay s (ballAt s m + 8)

/-- A port stamps at its raw plane while its ball delays are absent. -/
def portCalibrated (s : State) (m : Fin 16) : Bool := (txBall s m).isSome && (rxBall s m).isSome

/-- TS_UNC, the port term of the delivery bound; unbounded at an uncalibrated port (09 R260). -/
def tsUnc (s : State) (m : Fin 16) : Nat :=
  if portCalibrated s m then satBound (calNat s (planeAt s m + 16) 8) else unbounded

/-- The stamp reported for a frame whose egress stamp point crosses the ball at calendar instant
`t` (09 R260, 10 R280), in 2^-16 ns. -/
def egressStamp (s : State) (m : Fin 16) (t : Nat) : Nat :=
  if portCalibrated s m then
    ((t / calZt : Nat) + (calDelay s (planeAt s m)).getD 0 : Int).toNat
  else t / calZt

/-- The stamp reported for a frame that crossed the raw ingress plane at `raw` (09 R260). -/
def ingressStamp (s : State) (m : Fin 16) (raw : Nat) : Nat :=
  match txBall s m, rxBall s m with
  | some _, some d => ((raw : Int) - d - (calDelay s (planeAt s m + 8)).getD 0).toNat
  | _, _ => raw

/-! ### Speed mode and launch lead (01 R32, R33, R45 to R48; 10 R279) -/

def floorOf : SpeedMode → Nat
  | .sprint => 180
  | .balanced => 240
  | .quiet => 420

/-- The mode whose floor and admission rate are in force: the slower of the two during a change
(01 R48). -/
def ruleMode (s : State) : SpeedMode :=
  match s.power.change with
  | none => s.power.mode
  | some c =>
    if floorOf s.power.mode < floorOf c.target then c.target else s.power.mode

/-- The path a lead is for: C and F of 01 R32. -/
inductive Path where
  | nts
  | ptp
  | sched
deriving DecidableEq, Repr

def pathC : Path → Nat
  | .sched => 14
  | _ => 34

def pathF : Path → Nat
  | .nts => 126
  | .ptp => 96
  | .sched => 76

def pathP (s : State) : Path → Nat
  | .nts => s.power.paceNts
  | .ptp => s.power.pacePtp
  | .sched => s.power.paceSched

/-- C + F × P + GUARD in nanoseconds, rounded up (01 R32, R33). -/
def paceLead (s : State) (p : Path) : Nat :=
  pathC p + s.net.guardNs + (pathF p * pathP s p + 4095) / 4096

/-- The launch lead of a response (10 R279). -/
def launchLead (s : State) (p : Path) : Nat := max (floorOf (ruleMode s)) (paceLead s p)

/-- `c` + `f` × P + GUARD, exact, in calendar units: the earliest t_req from now of a frame that
does not answer a request, and of a re-commit (10 R279, R281). -/
def earliest (s : State) (c f p : Nat) : Nat :=
  calNow s + (c + s.net.guardNs) * calNs + f * p * calNs / 4096

/-! ### Gates (10 R286 to R290) -/

/-- The interval of a list's cycle that holds position `p` (ns in cal units): the gates and the end
of the interval within the cycle. The last entry lasts to the cycle's end; the cycle cuts the list. -/
def gateEntryAt (cycle : Nat) : List GateEntry → Nat → Nat → Nat × Nat
  | [], _, _ => (2 ^ 32 - 1, cycle)
  | [e], _, _ => (e.gates, cycle)
  | e :: e' :: es, begun, p =>
    if p < begun + e.interval * calNs then (e.gates, min cycle (begun + e.interval * calNs))
    else gateEntryAt cycle (e' :: es) (begun + e.interval * calNs) p

/-- The gates of a list at calendar instant `t` and the instant to which they last; none: for good. -/
def gatesOf (l : GateList) (t : Nat) : Nat × Option Nat :=
  match l.entries with
  | [] => (2 ^ 32 - 1, none)
  | es =>
    let c := l.cycle * calNs
    let p := (t - l.start * calZt) % c
    let (g, e) := gateEntryAt c es 0 p
    (g, some (t - p + e))

/-- The list that governs at `t` and the start of the one after it: a pending list governs from its
start (10 R287). -/
def governing (g : GateList) (t : Nat) : List GateList → GateList × Option Nat
  | [] => (g, none)
  | n :: ns => if n.start * calZt ≤ t then governing n t ns else (g, some (n.start * calZt))

/-- The gates of a MAC at `t` and the instant to which they last. -/
def macGates (mac : Mac) (t : Nat) : Nat × Option Nat :=
  let (l, after) := governing mac.gate t mac.nextGates
  let (g, e) := gatesOf l t
  (g, match e, after with
    | some a, some b => some (min a b)
    | some a, none => some a
    | none, b => b)

def gateOpen (mac : Mac) (q t : Nat) : Bool := decide ((macGates mac t).1 / 2 ^ q % 2 = 1)

/-- The gate of `q` is open over the whole of [a, b). -/
def openOver (mac : Mac) (q b : Nat) : Nat → Nat → Bool
  | 0, _ => false
  | n + 1, a =>
    if b ≤ a then true
    else if gateOpen mac q a then
      match (macGates mac a).2 with
      | some e => openOver mac q b n e
      | none => true
    else false

/-- Intervals that a search looks at. (A bound that stands on the state keeps a proof from unrolling the
search.) -/
def gateFuel (mac : Mac) : Nat := 70000 + mac.gate.entries.length

def gateFits (mac : Mac) (q a d : Nat) : Bool := openOver mac q (a + d) (gateFuel mac) a

/-- The first instant from `a` at which the gate of `q` is open over `d`: an interval's start. -/
def nextFitting (mac : Mac) (q d : Nat) : Nat → Nat → Option Nat
  | 0, _ => none
  | n + 1, a =>
    if gateFits mac q a d then some a
    else match (macGates mac a).2 with
      | some e => nextFitting mac q d n e
      | none => none

/-! ### Pause windows (09 R266 to R268) -/

/-- A physical instant (ticks × `calNs`) as a calendar instant. -/
def physToCal (s : State) (p : Nat) : Nat :=
  ((calNow s : Int) + ((p : Int) - s.clock.ticks.toNat * calNs) * s.clock.increment / 2 ^ 40).toNat

def physNow (s : State) : Nat := s.clock.ticks.toNat * calNs

/-- The pause windows that apply to a queue: in PAUSE mode every queue, in PFC mode its class, as they
stood when the pause frame ended (10 R291, R292). -/
def queueWindows (mac : Mac) (q : Fin 32) : List PauseWin :=
  mac.windows.filter fun w => decide (w.queues / 2 ^ q.val % 2 = 1)

/-- The window of `q` that covers calendar instant `a`: its close. -/
def pausedAt (s : State) (mac : Mac) (q : Fin 32) (a : Nat) : Option Nat :=
  ((queueWindows mac q).find? fun w =>
    decide (physToCal s w.opening ≤ a) && decide (a < physToCal s w.closing)).map
      fun w => physToCal s w.closing

/-! ### The calendar (10 R276 to R278) -/

/-- The first grid instant at or after `t`. -/
def gridCeil (g phase t : Nat) : Nat :=
  if t ≤ phase then phase else phase + (t - phase + g - 1) / g * g

/-- The occupancy of alignment markers and FEC overhead that meets [a, b): its end (10 R275). -/
def markerEnd (s : State) (m : Fin 16) (a b : Nat) : Option Nat :=
  match s.net.macs[m].markers with
  | some p => (Config.markerMeets p s.net.portMode a b).map fun n => a + 1 + n
  | none => none

/-- The occupancy of the calendar that meets [a, b): its end. -/
def meets (s : State) (m : Fin 16) (a b : Nat) : Option Nat :=
  let mac := s.net.macs[m]
  match mac.calendar.find? fun r => decide (a < r.stop) && decide (r.start < b) with
  | some r => some r.stop
  | none => match mac.tx with
    | some (.timed r _) => if a < r.stop ∧ r.start < b then some r.stop else markerEnd s m a b
    | some (.untimed _ f st _) =>
      if a < st + occupancy s m f.length ∧ st < b then some (st + occupancy s m f.length)
      else markerEnd s m a b
    | none => markerEnd s m a b

/-- The instant at which a wake from LPI begun now would complete (09 R270). -/
def lpiReadyAt (s : State) (m : Fin 16) : Nat :=
  let mac := s.net.macs[m]
  match mac.lpi with
  | .active => 0
  | .asleep => calNow s + mac.cfg.twTx * calNs
  | .waking => mac.lpiReady

/-- The search of 10 R276: the granted instant, none where it lies beyond the horizon of 1 ms. -/
def findSlot (s : State) (m : Fin 16) (q : Fin 32) (d : Nat) : Nat → Nat → Option Nat
  | 0, _ => none
  | n + 1, t =>
    let mac := s.net.macs[m]
    let g := grid s m
    if calNow s + 1000000 * calNs < t then none
    else
      let a := t - g
      match meets s m a (a + d) with
      | some e => findSlot s m q d n (gridCeil g mac.gridPhase (e + g))
      | none =>
        if gateFits mac q.val a d then
          match pausedAt s mac q a with
          | some close => findSlot s m q d n (gridCeil g mac.gridPhase (close + g))
          | none => some t
        else match nextFitting mac q.val d (gateFuel mac) a with
          | some o => findSlot s m q d n (gridCeil g mac.gridPhase (o + g))
          | none => none

/-- Steps of a search: no slot is looked at twice. -/
def slotFuel (s : State) (m : Fin 16) : Nat := 100000 + s.net.macs[m].calendar.length

/-- The slot that a request at `tReq` would be granted. -/
def slotFor (s : State) (m : Fin 16) (q : Fin 32) (tReq length : Nat) : Option Nat :=
  let g := grid s m
  findSlot s m q (occupancy s m length) (slotFuel s m)
    (gridCeil g s.net.macs[m].gridPhase (max (max tReq g) (lpiReadyAt s m)))

/-- What is asked of the calendar beside the instant. -/
structure Ask where
  mac       : Fin 16
  queue     : Fin 32
  requester : Nat
  tReq      : Nat
  length    : Nat
  origin    : Origin
  reply     : Reply := {}
  data      : Nat := 0
  recommitted : Bool := false

/-- 10 R276: a reservation is granted at the committed instant, or none within the horizon; the
committed time is placed in the frame and the frame sealed (R280). The grant counts on
SLOT_DISPLACED where it is later than a slot free of conflicts would have been (R293): later than
the first grid instant from t_req. -/
def reserve (a : Ask) (s : State) : Option (Nat × State) :=
  match slotFor s a.mac a.queue a.tReq a.length with
  | none => none
  | some t =>
    let mac := s.net.macs[a.mac]
    let g := grid s a.mac
    let free := gridCeil g mac.gridPhase (max (max a.tReq g) (lpiReadyAt s a.mac))
    let (reply, s) := placeTime a.requester (egressStamp s a.mac t) a.reply s
    let r : Reservation :=
      { id := s.net.nextRes, queue := a.queue, requester := a.requester, tReq := a.tReq, t := t,
        start := t - g, stop := t - g + occupancy s a.mac a.length, length := a.length,
        recommitted := a.recommitted, origin := a.origin, reply := reply, data := a.data }
    some (t, (s.modMac a.mac fun c =>
        { c with calendar := c.calendar ++ [r],
                 displaced := (c.displaced + (if free < t then 1 else 0)) % 2 ^ 64 }).modNet
      fun n => { n with nextRes := n.nextRes + 1 })

/-- Reservations in flight of an activity, over every MAC (01 R35). -/
def inFlight (s : State) (p : Origin → Bool) : Nat :=
  s.net.macs.toList.foldl (fun n c => n + (c.calendar.filter fun r => p r.origin).length +
    (match c.tx with
     | some (.timed r _) => if p r.origin then 1 else 0
     | _ => 0)) 0

def isNts : Origin → Bool
  | .nts .. => true
  | _ => false

def isPtp : Origin → Bool
  | .ptp .. => true
  | .sched .. => true
  | .clientReq _ => true
  | _ => false

def isHost : Origin → Bool
  | .ring .. => true
  | .inject _ => true
  | _ => false

/-! ### The end of a frame -/

/-- OUTCOME codes (07 R229). -/
abbrev ocSent : Nat := 0
abbrev ocRecommitted : Nat := 1
abbrev ocLate : Nat := 2
abbrev ocPause : Nat := 3
abbrev ocLifecycle : Nat := 4
abbrev ocLinkDown : Nat := 5
abbrev ocNotCounter : Nat := 6
abbrev ocRecovery : Nat := 7
abbrev ocDescriptor : Nat := 8

/-- HEAD passes the descriptors that are written back, in index order (14 R397). -/
def passHead : List (Nat × Bool) → Nat → List (Nat × Bool) × Nat
  | (i, true) :: rest, _ => passHead rest (i + 1)
  | l, h => (l, h)

/-- The write-back of a transmit descriptor of ring `r` (14 R395, R397): HEAD advances after it, and the
ring's vector is signalled where WB_IRQ asks for it. The write-back of a descriptor that a host-side
reset has forgotten is discarded (14 R376). -/
def txWriteBack (r : Fin 64) (wb : TxWriteBack) (s : State) : State :=
  let ring := s.host.tx[r]
  if !ring.open_.any (fun x => decide (x.1 = wb.index)) then s else
  let opened := ring.open_.map fun (i, d) => if i = wb.index then (i, true) else (i, d)
  let (rest, h) := passHead opened ring.head
  let s := s.modTx r fun k => { k with open_ := rest, head := h % 2 ^ ring.size, lastTx := some wb }
  if ring.wbIrq then match asFin 64 ring.vector with
    | some v => signalVector v s
    | none => s
  else s

/-- The header of an injection slot (14 R393). -/
structure InjHeader where
  tag      : Nat
  length   : Nat
  mac      : Nat
  queue    : Nat
  flags    : Nat
  launchAt : ZT128

abbrev injArea : Nat := 0x00C00000

def injHeader (s : State) (slot : Fin 64) : InjHeader :=
  let n := fun (o w : Nat) => ofLe (dpRead s (injArea + slot.val * 16384 + o) w)
  { tag := n 0 8, length := n 8 2, mac := n 10 1, queue := n 11 1, flags := n 12 2,
    launchAt := { fraction := n 18 2, nanoseconds := n 20 4, seconds := n 24 8 } }

/-- A frame of the host ends with the stamp latched: its write-back, or its egress report. -/
def hostReport (o : Origin) (m : Nat) (length committed outcome : Nat) (l : Latched) (s : State) : State :=
  match o with
  | .ring r i =>
    txWriteBack r { index := i, stamp := l.stamp, flags := l.flags, outcome := outcome,
                    epoch := l.epoch, length := if outcome ≤ 1 then length else 0, mac := m } s
  | .inject slot =>
    enqueue 2 (.egress { stamp := l.stamp, committed := committed,
                         tag := (injHeader s slot).tag, flags := l.flags,
                         length := length, mac := m, outcome := outcome, epoch := l.epoch,
                         slot := slot.val }) s
  | _ => s

/-- The stamp of a frame that crosses the ball of `m` now, as the host is given it. -/
def latched (s : State) (m : Fin 16) (stamp : Nat) (recommitted : Bool) : Latched :=
  ⟨stamp, stampFlags s true (portCalibrated s m) recommitted, s.clock.epoch⟩

/-- A frame of the host that was not sent ends. -/
def hostDrop (o : Origin) (m : Nat) (length committed outcome : Nat) (s : State) : State :=
  let cal := match asFin 16 m with
    | some mm => portCalibrated s mm
    | none => true
  hostReport o m length committed outcome ⟨0, stampFlags s false cal false, s.clock.epoch⟩ s

/-- The committed instant that a report carries: the instant the host asked for (10 R280). -/
def askedOf (r : Reservation) : Nat := r.reply.asked

/-- A reservation is withdrawn and its frame never sent. -/
def dropReservation (m : Fin 16) (r : Reservation) (outcome : Nat) (s : State) : State :=
  hostDrop r.origin m.val r.length (askedOf r) outcome
    (s.modMac m fun c => { c with calendar := c.calendar.filter fun x => x.id ≠ r.id })

/-- A late drop is counted with the second's late summary (10 R281). -/
def countLate (m : Fin 16) (s : State) : State :=
  (flushSummaries s).modMac m fun c =>
    { c with lateDrop := (c.lateDrop + 1) % 2 ^ 64, lateIn := (c.lateIn.1, c.lateIn.2 + 1) }

/-- Every reservation of a MAC is dropped. -/
def dropAllOf (m : Fin 16) (outcome : Nat) (late : Bool) (s : State) : State :=
  forAll s.net.macs[m].calendar
    (fun r t => onlyIf late (countLate m) (dropReservation m r outcome t)) s

/-- Every reservation on every calendar is dropped. -/
def dropAll (outcome : Nat) (late : Bool) (s : State) : State :=
  forAll (fins 16) (fun m => dropAllOf m outcome late) s

/-- The re-seal work of a frame (10 R281). -/
def reseal : Origin → Nat
  | .nts .. => 42
  | .ptp .. => 38
  | .sched .. => 38
  | .clientReq _ => 38
  | _ => 8

/-- The pace ratio of the path of a frame. -/
def originP (s : State) : Origin → Nat
  | .nts .. => s.power.paceNts
  | .ptp .. => s.power.pacePtp
  | .sched .. => s.power.paceSched
  | .clientReq _ => s.power.paceSched
  | _ => s.power.paceHost

/-- The delay of the late-summary event to the end of its second. -/
def markLate (m : Fin 16) (re : Bool) (s : State) : State :=
  (flushSummaries s).modMac m fun c => { c with lateIn := (c.lateIn.1 + (if re then 1 else 0), c.lateIn.2) }

/-- 10 R281: a frame that misses its slot is re-committed once, no earlier than `after`; a second
time, or with no slot within the horizon, it is dropped. `pause`: the miss comes of a pause. -/
def missSlot (m : Fin 16) (r : Reservation) (after : Nat) (pause : Bool) (s : State) : State :=
  let drop := fun (t : State) =>
    countLate m (dropReservation m r (if pause then ocPause else ocLate) t)
  if r.recommitted then drop s
  else
    let s0 := s.modMac m fun c => { c with calendar := c.calendar.filter fun x => x.id ≠ r.id }
    let tReq := max after (earliest s 14 (reseal r.origin) (originP s r.origin))
    match reserve { mac := m, queue := r.queue, requester := r.requester, tReq := tReq,
                    length := r.length, origin := r.origin, reply := r.reply, data := r.data,
                    recommitted := true } s0 with
    | some (_, s1) =>
      markLate m true (s1.modMac m fun c => { c with recommit := (c.recommit + 1) % 2 ^ 64 })
    | none => drop s

end Sys2Proof.Machine
end

