-- ==== Sys2Proof/Machine/Operands.lean ====
section
/-! DEFINITION. The operand forms: the bodies of configure commands (15 R408 to R410), their merging and
their encoding. A configuration is a list of rows in the order of its field table; a row is the list
of its values as coded (a scalar is a list of one). -/

namespace Sys2Proof.Machine

/-- A row of a field table: `widths` are the bytes of the values of one entry, `pad` the reserved
bytes after each entry; `lo` to `hi` entries; a list carries a count byte and three reserved. -/
structure Fld where
  widths : List Nat
  pad    : Nat := 0
  lo     : Nat := 1
  hi     : Nat := 1
  isList : Bool := false
deriving DecidableEq, Repr

abbrev Rows := List (List Nat)

/-- A scalar of `w` bytes, and `n` scalars of `w` bytes. -/
def one (w : Nat) : Fld := { widths := [w] }
def many (n w : Nat) : Fld := { widths := [w], lo := n, hi := n }
def listOf (max w : Nat) : Fld := { widths := [w], lo := 0, hi := max, isList := true }

/-- The entries of a row. -/
def Fld.entries (f : Fld) (row : List Nat) : Nat := row.length / f.widths.length

/-- Each value fits the width of its place. -/
def fits (widths all : List Nat) : List Nat → Bool
  | [] => true
  | v :: vs => match widths with
    | [] => match all with
      | [] => false
      | w :: ws => decide (v < 256 ^ w) && fits ws all vs
    | w :: ws => decide (v < 256 ^ w) && fits ws all vs

/-- The row has the shape of the field: a list carries its own count, of one byte. -/
def Fld.shape (f : Fld) (row : List Nat) : Bool :=
  decide (row.length % f.widths.length = 0) && fits f.widths f.widths row &&
  (if f.isList then decide (f.entries row ≤ 255)
   else decide (f.lo ≤ f.entries row) && decide (f.entries row ≤ f.hi))

/-- Each list holds at most as many entries as its row of the table allows. -/
def countsOk : List Fld → Rows → Bool
  | f :: fs, r :: rs => (!f.isList || decide (f.entries r ≤ f.hi)) && countsOk fs rs
  | _, _ => true

/-- The bytes the row takes in a body. -/
def Fld.size (f : Fld) (row : List Nat) : Nat :=
  (if f.isList then 4 else 0) + f.entries row * (f.widths.foldl (· + ·) 0 + f.pad)

/-- The octets of a row. -/
def encodeVals (f : Fld) (ws : List Nat) : List Nat → Bytes
  | [] => []
  | v :: vs => match ws with
    | [] => match f.widths with
      | [] => []
      | w :: ws' => le w v ++ (if ws' = [] then le f.pad 0 else []) ++ encodeVals f ws' vs
    | w :: ws' => le w v ++ (if ws' = [] then le f.pad 0 else []) ++ encodeVals f ws' vs

def Fld.encode (f : Fld) (row : List Nat) : Bytes :=
  (if f.isList then le 1 (f.entries row) ++ le 3 0 else []) ++ encodeVals f f.widths row

/-- The fields selected by MASK, matched with the values sent: the merged rows and the bytes they
take, where the values have the shapes of the fields. -/
def merge : List Fld → Rows → Nat → Rows → Option (Rows × Nat)
  | [], [], _, [] => some ([], 0)
  | f :: fs, r :: rs, mask, vals =>
    if mask % 2 = 1 then
      match vals with
      | v :: vs =>
        if f.shape v then (merge fs rs (mask / 2) vs).map fun (m, n) => (v :: m, n + f.size v)
        else none
      | [] => none
    else (merge fs rs (mask / 2) vals).map fun (m, n) => (r :: m, n)
  | _, _, _, _ => none

/-- The body of a read-back: INDEX, MASK with every bit, every field (15 R411). -/
def encodeRows : List Fld → Rows → Bytes
  | f :: fs, r :: rs => f.encode r ++ encodeRows fs rs
  | _, _ => []

def readBackBody (flds : List Fld) (index : Nat) (rows : Rows) : Bytes :=
  le 2 index ++ le 2 0 ++ le 4 (2 ^ flds.length - 1) ++ encodeRows flds rows

/-- Row `n` of a configuration, and its only value. -/
def row (rs : Rows) (n : Nat) : List Nat := rs.getD n []
def val (rs : Rows) (n : Nat) : Nat := (row rs n).headD 0

/-- Whether MASK selects row `n`. -/
def selects (g : GReq) (n : Nat) : Bool := decide (g.mask / 2 ^ n % 2 = 1)

/-- `lo ≤ x ≤ hi`. -/
def within (lo hi x : Nat) : Bool := decide (lo ≤ x) && decide (x ≤ hi)
def withinInt (lo hi x : Int) : Bool := decide (lo ≤ x) && decide (x ≤ hi)

/-- A configuration in rows, and back. -/
structure Table (α : Type) where
  flds : List Fld
  rows : α → Rows
  ofRows : Rows → α

end Sys2Proof.Machine
end

