-- ==== Sys2Proof/Machine/Command.lean ====
section
/-! DEFINITION. How Scribe takes a command and answers it: mailboxes, groups, the checks of 14 R384, the
response, and the shared shapes of configure commands and read-backs (15 R408 to R412). -/

namespace Sys2Proof.Machine

/-! ### Status codes (14 R501) -/

abbrev stOk : Nat := 0x0000
abbrev stAccepted : Nat := 0x0001
abbrev eOpcode : Nat := 0x0100
abbrev eLength : Nat := 0x0101
abbrev eRange : Nat := 0x0102
abbrev eState : Nat := 0x0103
abbrev ePriv : Nat := 0x0104
abbrev eNoSpace : Nat := 0x0105
abbrev eKey : Nat := 0x0106
abbrev eStack : Nat := 0x0107
abbrev eTimeout : Nat := 0x0108
abbrev eHw : Nat := 0x0109

/-! ### Opcodes and groups (14 R387, 15 R414 to R429) -/

/-- The configure commands (15 R409), with the group of each: 0 user, 1 operator, 2 admin. -/
def configOps : List (Nat × Nat) :=
  [(0x0201, 1), (0x0202, 1), (0x0203, 1), (0x0301, 1), (0x0302, 1), (0x0303, 1), (0x0307, 1),
   (0x0401, 1), (0x0402, 1), (0x0404, 1), (0x0405, 1), (0x0502, 1), (0x0505, 1), (0x0506, 1),
   (0x0601, 1), (0x0602, 2), (0x0606, 1), (0x0701, 1), (0x0702, 2), (0x0704, 2), (0x0707, 1),
   (0x0708, 1), (0x0803, 2), (0x0901, 1), (0x0902, 1), (0x0903, 1), (0x0906, 1), (0x0A03, 1),
   (0x0A04, 1), (0x0B01, 2), (0x0C05, 1)]

/-- The other commands with their groups. -/
def plainOps : List (Nat × Nat) :=
  [(0x0101, 2), (0x0102, 2), (0x0103, 2), (0x0104, 2), (0x0105, 2), (0x0106, 1), (0x0107, 2),
   (0x0108, 2), (0x010A, 2), (0x010B, 2), (0x010C, 2), (0x010D, 2), (0x010E, 2), (0x0204, 1),
   (0x0205, 1), (0x0206, 1), (0x0207, 1), (0x0208, 0), (0x0209, 0), (0x0210, 0), (0x0304, 1),
   (0x0305, 0), (0x0306, 1), (0x0310, 0), (0x0311, 0), (0x0403, 1), (0x0406, 1), (0x0410, 0),
   (0x0501, 2), (0x0503, 1), (0x0504, 1), (0x0507, 1), (0x0510, 0), (0x0511, 0), (0x0603, 2),
   (0x0604, 2), (0x0605, 1), (0x0610, 0), (0x0703, 0), (0x0705, 2), (0x0706, 2), (0x0710, 0),
   (0x0801, 2), (0x0802, 2), (0x0804, 1), (0x0805, 1), (0x0806, 2), (0x0807, 2), (0x0808, 2),
   (0x0809, 2), (0x080A, 2), (0x080B, 1), (0x080C, 1), (0x080D, 2), (0x0810, 1), (0x0904, 1),
   (0x0905, 1), (0x0907, 0), (0x0908, 1), (0x0909, 1), (0x090A, 1), (0x090B, 1), (0x090C, 1),
   (0x0910, 0), (0x0911, 0), (0x0A01, 1), (0x0A02, 1), (0x0A10, 0), (0x0B02, 2), (0x0B03, 2),
   (0x0B04, 2), (0x0B10, 0), (0x0C01, 1), (0x0C02, 2), (0x0C03, 0), (0x0C04, 0), (0x0C06, 0),
   (0x0C07, 0)]

/-- The lowest group that may send an opcode; none for an unknown opcode. A read-back is of the
user group (15 R411). -/
def opGroup (op : Nat) : Option Nat :=
  match assoc configOps op with
  | some g => some g
  | none => match assoc plainOps op with
    | some g => some g
    | none => if 0x80 ≤ op ∧ (assoc configOps (op - 0x80)).isSome then some 0 else none

/-- What the emergency mailbox accepts (14 R389). -/
def emergencyOps : List Nat :=
  [0x0106, 0x0805, 0x0802, 0x0107, 0x0108, 0x010A, 0x010B, 0x0109]

/-- The group of a source (14 R387). -/
def sourceGroup : Source → Nat
  | .mailbox m => if m.val < 4 then 2 else 1
  | .emergency => 2
  | .task _ => 0

/-! ### The request in hand -/

def hand (src : Source) (s : State) : Option Pend :=
  match src with
  | .mailbox m => s.host.boxes[m].inHand
  | .emergency => s.host.em.mb.inHand
  | .task t => s.host.tasks[t].inHand

def modBox (m : Fin 16) (f : Mailbox → Mailbox) (s : State) : State :=
  s.modHost fun h => { h with boxes := upd h.boxes m f }

def modEm (f : Mailbox → Mailbox) (s : State) : State :=
  s.modHost fun h => { h with em := { h.em with mb := f h.em.mb } }

def setHand (src : Source) (p : Option Pend) (s : State) : State :=
  match src with
  | .mailbox m => modBox m (fun b => { b with inHand := p }) s
  | .emergency => modEm (fun b => { b with inHand := p }) s
  | .task t => s.modTask t fun k => { k with inHand := p }

/-- The 64 octets of a response: header of R383, body, and 0 after it. -/
def responseOctets (p : Pend) (status : Nat) (body : Bytes) : Bytes :=
  let b := body.take 56
  le 2 p.opcode ++ le 2 p.sequence ++ le 2 b.length ++ le 2 status ++ b ++ le (56 - b.length) 0

/-- The bulk region of a mailbox (14 R378). -/
def bulkBase (m : Fin 16) : Nat := 0x06000000 + m.val * 0x4000

/-- Status and body that reach the payload, with the octets that go to the bulk region: a body
above 56 B needs BULK and must fit RSP_CAPACITY, else E_LENGTH with the length needed
(14 R384, 15 R412). -/
def place (p : Pend) (status : Nat) (body : Bytes) : Nat × Bytes × Bytes :=
  if body.length ≤ 56 then (status, body, [])
  else if p.bulk && decide (body.length ≤ p.rspCapacity) then (status, [], body)
  else if p.bulk then (eLength, le 4 body.length, [])
  else (eLength, [], [])

/-- A status code to the issuing task, with the response at its block (14 R406). -/
def taskAnswer (t : Fin 4) (status : Nat) (at_ : Nat) (data : Bytes) (s : State) : State :=
  s.modTask t fun k => { k with state := .ready, result := some ⟨status, at_, data⟩ }

/-- A response is written for a request: in the mailbox with its completion cause, or at the task's block
(14 R383, R406). A response whose writing was called off is discarded. -/
def respond (src : Source) (p : Pend) (status : Nat) (body : Bytes) (s : State) : State :=
  let (st, b, bulk) := place p status body
  if p.discard then s
  else match src with
  | .mailbox m =>
    let s := if bulk = [] then s else dpWrite (bulkBase m + p.rspOffset) bulk s
    setMbDone m (modBox m (fun x =>
      { x with busy := false, done := true, response := responseOctets p st b }) s)
  | .emergency =>
    setCause 1 (modEm (fun x =>
      { x with busy := false, done := true, response := responseOctets p st b }) s)
  | .task t =>
    let at_ := s.host.tasks[t].block
    let o := responseOctets p st b
    taskAnswer t st (at_ + 64) o (dpWrite (0x04000000 + at_ + 64) o s)

/-- Checks 1 to 3 of 14 R384: the status of the first that fails. Once the admin lock is set, mailboxes 0
to 3 answer E_PRIV. The emergency mailbox and a task have no bulk region; mailbox-reset is served
on the emergency mailbox only. -/
def screenStatus (src : Source) (p : Pend) (s : State) : Option Nat :=
  let group := match opGroup p.opcode with
    | some g => g
    | none => 0
  let locked : Bool := match src with
    | .mailbox m => s.host.adminLock && decide (m.val < 4)
    | _ => false
  let noBulk : Bool := match src with
    | .mailbox _ => false
    | _ => true
  let known : Bool := match src with
    | .emergency => decide (p.opcode ∈ emergencyOps)
    | _ => (opGroup p.opcode).isSome
  if locked ∨ sourceGroup src < group then some ePriv
  else if p.badHeader ∨ (p.bulk ∧ noBulk) then some eLength
  else if !known then some eOpcode
  else none

/-- A refusal of a task for its group is counted (14 R387, R403). -/
def countRefusal (src : Source) (status : Nat) (s : State) : State :=
  match src with
  | .task _ => if status = ePriv then s.modHost fun h => { h with refused := h.refused + 1 } else s
  | _ => s

def behindOf (src : Source) (s : State) : List Pend :=
  match src with
  | .mailbox m => s.host.boxes[m].behind
  | .emergency => s.host.em.mb.behind
  | .task _ => []

def setBehind (src : Source) (l : List Pend) (s : State) : State :=
  match src with
  | .mailbox m => modBox m (fun b => { b with behind := l }) s
  | .emergency => modEm (fun b => { b with behind := l }) s
  | .task _ => s

/-- Scribe takes up the requests of a source in the order of their doorbells: those that fail a check of
R384 are answered, the first that passes stays in hand. -/
def takeUp (src : Source) : List Pend → State → State
  | [], s => setBehind src [] (setHand src none s)
  | p :: ps, s =>
    match screenStatus src p s with
    | none => setBehind src ps (setHand src (some { p with screened := true }) s)
    | some e => takeUp src ps (respond src p e [] (countRefusal src e s))

/-- Scribe answers the request in hand and takes up the next of that source. -/
def finish (src : Source) (status : Nat) (body : Bytes) (s : State) : State :=
  match hand src s with
  | none => s
  | some p =>
    let s := respond src p status body (setHand src none s)
    match behindOf src s with
    | [] => s
    | l => takeUp src l s

/-- What a command's own rules answer. `hold` leaves the command taken, to be answered when its
effect is applied. -/
inductive Ans where
  | ok (body : Bytes)
  | err (status : Nat)
  | accepted
  | hold
deriving DecidableEq, Repr

def answer (src : Source) (a : Ans) (s : State) : State :=
  match a with
  | .ok b => finish src stOk b s
  | .err e => finish src e [] s
  | .accepted => finish src stAccepted [] s
  | .hold => setHand src ((hand src s).map fun p => { p with taken := true }) s

/-- Whether Scribe can take the request in hand of a source now: the boot ROM serves the emergency
mailbox at all times out of reset, the supervisor serves the rest (14 R389, 18 R495). -/
def served (src : Source) (s : State) : Bool :=
  match src with
  | .emergency => !s.power.inReset
  | _ => s.host.supervisor

/-- The request in hand of `src` when it is opcode `op` with a body of `len` bytes, screened and
not yet taken. -/
def ready (op : Nat) (r : Req) (s : State) : Option Pend :=
  match hand r.src s with
  | some p =>
    if p.opcode = op ∧ p.length = r.len ∧ p.screened ∧ !p.taken ∧ served r.src s then some p
    else none
  | none => none

/-- Scribe runs a command: the body's length, then what its rules say. With no such request in hand
nothing happens. -/
def runCommand (op : Nat) (lenOk : Bool) (r : Req) (f : Pend → State → State × Ans) (s : State) :
    Out :=
  match ready op r s with
  | none => .next s
  | some p =>
    if lenOk then
      let (s', a) := f p s
      .next (answer r.src a s')
    else .next (answer r.src (.err eLength) s)

/-- A command that changes nothing and returns `body`. -/
def runRead (op : Nat) (lenOk : Bool) (r : Req) (body : State → Except Nat Bytes) (s : State) : Out :=
  runCommand op lenOk r (fun _ s => match body s with
    | .ok b => (s, .ok b)
    | .error e => (s, .err e)) s

/-- The two answers of a command without an accepted form. -/
def reply (s : State) : Except Nat State → State × Ans
  | .ok s' => (s', .ok [])
  | .error e => (s, .err e)

/-- A condition that must hold, else the status. -/
def need (c : Bool) (e : Nat) : Except Nat Unit := if c then .ok () else .error e

/-- 15 R409: a configure command. `get` gives the rows of the object, none where INDEX names no
object (E_RANGE); `put` judges and applies the configuration the object would hold. -/
def runConfig (op : Nat) (flds : List Fld) (r : Req) (g : GReq) (get : State → Option Rows)
    (put : Rows → State → Except Nat State) (s : State) : Out :=
  match ready op r s with
  | none => .next s
  | some _ =>
    if 2 ^ flds.length ≤ g.mask then .next (answer r.src (.err eRange) s)
    else
      match get s with
      | none => .next (answer r.src (.err eRange) s)
      | some rows =>
        match merge flds rows g.mask g.fields with
        | none => .next (answer r.src (.err eLength) s)
        | some (rows', n) =>
          if r.len ≠ 8 + n then .next (answer r.src (.err eLength) s)
          else if !countsOk flds rows' then .next (answer r.src (.err eRange) s)
          else
            let (s', a) := reply s (put rows' s)
            .next (answer r.src a s')

/-- 15 R411: the read-back of a configure command: INDEX and two reserved bytes. -/
def runReadBack (op : Nat) (flds : List Fld) (r : Req) (index : Nat) (get : State → Option Rows)
    (s : State) : Out :=
  runRead op (r.len = 4) r (fun s => match get s with
    | some rows => .ok (readBackBody flds index rows)
    | none => .error eRange) s

/-- A command that is judged whole and completes at once with no body. -/
def runSimple (op len : Nat) (r : Req) (f : State → Except Nat State) (s : State) : Out :=
  runCommand op (r.len = len) r (fun _ s => reply s (f s)) s

/-- A command that is judged whole and completes with ACCEPTED; `f` is given its SEQUENCE. -/
def runAccepted (op len : Nat) (r : Req) (f : Nat → State → Except Nat State) (s : State) : Out :=
  runCommand op (r.len = len) r (fun p s => match f p.sequence s with
    | .ok s' => (s', .accepted)
    | .error e => (s, .err e)) s

end Sys2Proof.Machine
end

