-- ==== Sys2Proof/Machine/WearOps.lean ====
section
/-! DEFINITION. Wear and counters as other areas use them (17): the wear ledger, units and spares, the
filtered counters and what one overflow brings about. -/

namespace Sys2Proof.Machine

/-! ### Units and spares (17 R471, R472) -/

def unitsOf (s : State) (cls : Nat) : List WearUnit :=
  match cls with
  | 1 => s.wear.siv.toList
  | 2 => s.wear.hmac.toList
  | 3 => s.wear.gmac.toList
  | 4 => s.wear.channels.toList
  | 5 => s.wear.cores.toList
  | _ => []

def unitAt (s : State) (cls n : Nat) : Option WearUnit := (unitsOf s cls)[n]?

/-- One element of a vector, where the index is one of its. -/
def updAt {α : Type} {n : Nat} (v : Vector α n) (i : Nat) (f : α → α) : Vector α n :=
  match asFin n i with
  | some k => upd v k f
  | none => v

def modUnit (cls n : Nat) (f : WearUnit → WearUnit) (s : State) : State :=
  s.modWear fun w => match cls with
    | 1 => { w with siv := updAt w.siv n f }
    | 2 => { w with hmac := updAt w.hmac n f }
    | 3 => { w with gmac := updAt w.gmac n f }
    | 4 => { w with channels := updAt w.channels n f }
    | 5 => { w with cores := updAt w.cores n f }
    | _ => w

def setUnit (cls n : Nat) (st : UnitState) : State → State :=
  modUnit cls n fun u => { u with state := st }

/-- The lowest-numbered available spare of a class, and how many are left. -/
def spareUnit (s : State) (cls : Nat) : Option Nat :=
  (unitsOf s cls).findIdx? fun u => decide (u.state = .spare)

def sparesLeft (s : State) (cls : Nat) : Nat :=
  ((unitsOf s cls).filter fun u => decide (u.state = .spare)).length

def ratedUnits : Nat → Nat
  | 1 => 24
  | 2 => 8
  | 3 => 8
  | 4 => 192
  | _ => 2

/-- Units in service: the figure of a class scales by them once fewer than rated remain (R472). -/
def inService (s : State) (cls : Nat) : Nat :=
  min (ratedUnits cls) ((unitsOf s cls).filter fun u => decide (u.state = .service)).length

/-! ### The wear ledger (17 R475) -/

def ledger (kind cls unit spare left w cause : Nat) (s : State) : State :=
  s.modWear fun x =>
    let e : LedgerEntry :=
      { sequence := x.sequence, bootCount := s.keys.bootCount,
        seconds := if s.clock.handedOver then nowSec s else 0, kind := kind, cls := cls,
        unit := unit, spare := spare, left := left, w := w, temp := s.power.junction,
        cause := cause }
    { x with ledger := (if x.ledger.length < 1024 then x.ledger else x.ledger.drop 1) ++ [e],
             sequence := (x.sequence + 1) % 2 ^ 32 }

/-- Event 0x0C01 or 0x0C02. -/
def wearEvent (code cls unit spare argB : Nat) : State → State :=
  raise code (cls + unit % 256 * 256 + spare % 256 * 65536) argB

/-- A GNSS spare starts with the code and carrier state of the channel that it replaces, which is
retired (03 R101, R102). -/
def moveChannel (unit spare : Nat) (s : State) : State :=
  match asFin 200 unit with
  | none => s
  | some u => s.modGnss fun g =>
      let old := g.channels[u]
      { g with channels := upd (updAt g.channels spare (fun _ => old)) u (fun _ => { state := 5 }) }

/-- 17 R471, R472: a spare takes over from a unit in service. With none, a unit at its wear limit
stays in service and one that failed is retired. -/
def bringIn (cls unit cause w : Nat) (s : State) : State :=
  match unitAt s cls unit with
  | none => s
  | some u =>
    if u.state ≠ .service then s
    else match spareUnit s cls with
      | some p =>
        if cls = 5 then modUnit cls unit (fun x => { x with state := .worn, w := w, cause := cause }) s
        else
          let s := modUnit cls p (fun x => { x with state := .service, spareOf := some unit }) s
          let s := if cls = 4 then moveChannel unit p (setUnit cls unit .retired s)
            else setUnit cls unit .worn s
          wearEvent 0x0C01 cls unit p 0 (ledger 0 cls unit p (sparesLeft s cls) w cause s)
      | none =>
        if cause = 1 then
          let s := setUnit cls unit .retired s
          let s := if cls = 4 then s.modGnss (fun g =>
              { g with channels := updAt g.channels unit (fun _ => { state := 5 }) }) else s
          wearEvent 0x0C01 cls unit 0xFF 0 (ledger 1 cls unit 0xFFFF 0 w cause s)
        else s

/-! ### Filtered counters (17 R464 to R468) -/

/-- The task that a counter-overflow signal goes to: the lowest-numbered one that runs (DESIGN
CHOICE: the manual names an owning task and no field that says which). -/
def owningTask (s : State) : Option (Fin 4) :=
  (fins 4).find? fun t => match s.host.tasks[t].state with
    | .absent => false
    | .stopped _ => false
    | _ => true

/-- A filtered counter wraps (17 R467). -/
def wrapCounter (n : Fin 32) (s : State) : State :=
  let f := s.wear.filters[n]
  let s := s.modWear fun w =>
    { w with filters := upd w.filters n fun x =>
        { x with count := 0, ovf := true, owed := x.owed || decide (x.cfg.ovfIrq = 2) } }
  if f.cfg.ovfIrq = 1 then raise 0x0C04 (0x0D000000 + n.val * 256) 0 (setCause 9 s) else s

/-- One occurrence of an event that filtered counter `n` admits. -/
def countOne (n : Fin 32) (s : State) : State :=
  if s.wear.filters[n].count + 1 < 2 ^ 48 then
    s.modWear fun w => { w with filters := upd w.filters n fun x => { x with count := x.count + 1 } }
  else wrapCounter n s

/-- One occurrence of event `code`, for every enabled counter whose filters let it pass. -/
def countEvent (code : Nat) (admits : FilterCfg → Bool) (s : State) : State :=
  forAll ((fins 32).filter fun n =>
    decide (s.wear.filters[n].cfg.enable = 1) && decide (s.wear.filters[n].cfg.event = code) &&
    admits s.wear.filters[n].cfg) countOne s

def bitOf (n k : Nat) : Bool := decide (n / 2 ^ k % 2 = 1)

/-- A transaction of an activity is admitted (event 0x0C): 3 NTS, 4 PTP, 5 host, the bits of CLASS. -/
def countAdmitted (activity : Nat) : State → State := countEvent 0x0C fun c => bitOf c.cls activity

/-- Octets that the manual does not state: a free value at the counter. -/
def freeOctets (n : Nat) (s : State) : Bytes × State :=
  ((List.range n).map (Config.freeByte s.host.freeCount),
   s.modHost fun h => { h with freeCount := h.freeCount + 1 })

end Sys2Proof.Machine
end

