-- ==== Sys2Proof/Machine/NibOps.lean ====
section
/-! DEFINITION. Nib as other areas use it (08): the pool of channels, stamps, pairs and gates. -/

namespace Sys2Proof.Machine

/-! ### Owners and the pool (08 R240) -/

abbrev ownFree : Nat := 0
abbrev ownReference : Nat := 1
abbrev ownCompanion : Nat := 2
abbrev ownXo : Nat := 3
abbrev ownLoopback : Nat := 4
abbrev ownEvin : Nat := 5
abbrev ownStack : Nat := 6
abbrev ownHost : Nat := 7
abbrev ownRetired : Nat := 8

/-- The code of R239 names a source. -/
def nibSourceOk (c : Nat) : Bool :=
  decide (c ≤ 0x0B) || within 0x10 0x17 c || within 0x20 0x27 c || within 0x30 0x43 c ||
  decide (c = 0x50) || decide (c = 0x60) || decide (c = 0xFF)

/-- The edges of a channel that count as STOP edges of another: the rising ones, or the falling ones
where it stamps no others. -/
def stopOrdinal (ch : NibChannel) : Nat :=
  if ch.cfg.edge = 1 then ch.falling.toNat else ch.ordinal.toNat

/-- Arming (08 R241): ordinals restart and any pair or gate in progress is discarded. -/
def armed (ch : NibChannel) (base : Nat) : NibChannel :=
  { ch with ordinal := 0, falling := 0, gap := false, pairs := [], reported := [],
            stopBase := base, ended := false, gateStamps := [], gateFirst := 0, gateEdges := 0,
            gateOpen := false, gateStep := false, gateLost := false, gateUnlocked := false }

def flag (b : Bool) (k : Nat) : Nat := if b then 2 ^ k else 0

abbrev ziNone : Int := -2 ^ 63

/-- Whether the live line of a channel is LOCKED. -/
def liveLocked (ch : NibChannel) : Bool := if ch.liveB then ch.lockedB else ch.lockedA

/-- SOURCE_DELAY and CHANNEL_DELAY (08 R235, 17 R476). -/
def sourceIndex (c : Nat) : Nat :=
  if c ≤ 0x0B then c
  else if c ≤ 0x17 then 12 + (c - 0x10)
  else if c ≤ 0x27 then 20 + (c - 0x20)
  else if c ≤ 0x3F then 28 + (c - 0x30)
  else if c ≤ 0x43 then 44 + (c - 0x40)
  else if c = 0x50 then 48
  else 49

def sourceDelay (s : State) (c : Nat) : Option Int := calDelay s (21568 + 8 * sourceIndex c)
def channelDelay (s : State) (c : Fin 24) : Option Int := calDelay s (21968 + 8 * c.val)

def nibCalibrated (s : State) (c : Fin 24) : Bool :=
  (sourceDelay s s.nib[c].cfg.source).isSome && (channelDelay s c).isSome

/-- A stamp as delivered: corrected by SOURCE_DELAY + CHANNEL_DELAY (08 R235). -/
def nibStamp (s : State) (c : Fin 24) (sub : Nat) : Nat :=
  match sourceDelay s s.nib[c].cfg.source, channelDelay s c with
  | some a, some b => ((stampAt s sub : Int) - a - b).toNat
  | _, _ => stampAt s sub

/-! ### Results -/

/-- A result enters the queue where STREAM asks for results (08 R241). -/
def nibResult (c : Fin 24) (flags ordinal : Nat) (epoch : BitVec 8) (valid : Bool) (b : NibBody)
    (s : State) : State :=
  let ch := s.nib[c]
  if ch.cfg.stream < 2 then s
  else enqueue 1 (.nib
    { channel := c.val, source := ch.cfg.source, epoch := epoch,
      stampFlags := stampFlags s valid (nibCalibrated s c) false,
      nibFlags := flags + flag ch.frozenCal 8, ordinal := ordinal, body := b }) s

/-- The report of a pair (08 R246, R247): `timeout` says that its time is up. -/
def reportPair (c : Fin 24) (p : NibPair) (timeout : Bool) (s : State) : State :=
  let ch := s.nib[c]
  let stop := ch.cfg.stop
  let src := match asFin 24 stop with
    | some k => s.nib[k].cfg.source
    | none => 0xFF
  let body := fun (i : Int) => NibBody.interval (p.start.getD 0) i stop src
  match p.start, p.stop with
  | some a, some b =>
    if p.recovered then nibResult c (flag true 5) p.n p.stopEpoch true (body ziNone) s
    else
      let d : Int := (b : Int) - a
      if d.natAbs ≤ 163 then     -- one bin of 2.5 ps is 163.84 units
        nibResult c (flag true 0 + flag (decide (p.step ≠ 0)) 6) p.n p.stopEpoch true (body 0) s
      else
        nibResult c (flag (decide (satZi d ≠ d)) 4 + flag (decide (p.step ≠ 0)) 6) p.n
          p.stopEpoch true (body (satZi d)) s
  | _, _ =>
    nibResult c (flag (p.startLost || p.stopLost) 1 + flag timeout 2 + flag p.recovered 5) p.n
      s.clock.epoch true (body ziNone) s

/-- One edge of a pair of channel `c`: stamped at `t`, or lost. -/
def pairEdge (c : Fin 24) (isStart : Bool) (n : Nat) (t : Option Nat) (s : State) : State :=
  let ch := s.nib[c]
  if ch.ended then s
  else if n ∈ ch.reported then
    s.modNib c fun x => { x with reported := x.reported.erase n,
                                 orphan := if t.isSome then x.orphan + 1 else x.orphan }
  else
    let p := (ch.pairs.find? fun q => decide (q.n = n)).getD { n := n }
    let rest := ch.pairs.filter fun q => decide (q.n ≠ n)
    let t' := t.map fun x => ((x : Int) - p.step).toNat     -- a step is removed from the later stamp
    let p := if isStart then { p with start := t', startLost := t.isNone }
      else { p with stop := t', stopLost := t.isNone, stopEpoch := s.clock.epoch }
    if (p.start.isSome || p.startLost) && (p.stop.isSome || p.stopLost) then
      reportPair c p false (s.modNib c fun x => { x with pairs := rest })
    else s.modNib c fun x => { x with pairs := rest ++ [p] }

/-- STOP_CHANNEL `k` is released or re-armed: pairing with it ends (08 R247). -/
def endPairing (k : Fin 24) (s : State) : State :=
  forAll ((fins 24).filter fun c => decide (c ≠ k) && decide (s.nib[c].owner = ownHost) &&
      decide (s.nib[c].cfg.mode = 1) && decide (s.nib[c].cfg.stop = k.val) && !s.nib[c].ended)
    (fun c t =>
      let t := forAll t.nib[c].pairs (fun p u => reportPair c p true u) t
      raise 0x0A02 c.val 0 (t.modNib c fun x => { x with pairs := [], ended := true })) s

/-- The channels that a frequency monitor of a REFIN or the XO reads (02 R67). -/
def gateMonitor (ch : NibChannel) : Bool := decide (ch.owner = ownReference) || decide (ch.owner = ownXo)

/-- The lowest-numbered free channel that is not DEGRADED goes to an owner (08 R240). A monitor's gate is open
from the start. -/
def takeChannel (owner index source edge : Nat) (s : State) : Option (Fin 24 × State) :=
  match (fins 24).find? fun c => decide (s.nib[c].owner = ownFree) && !s.nib[c].degraded with
  | some c => some (c, s.modNib c fun x =>
      { armed { x with owner := owner, index := index,
                       cfg := { source := source, edge := edge, stop := c.val } } 0 with
        gateOpen := decide (owner = ownReference) || decide (owner = ownXo) })
  | none => none

/-- A channel goes back to the pool; a DEGRADED one leaves it for good (08 R237). -/
def releaseChannel (c : Fin 24) (s : State) : State :=
  endPairing c (s.modNib c fun x =>
    armed { x with owner := if x.degraded then ownRetired else ownFree, index := 0,
                   cfg := { stop := c.val } } 0)

def releaseOpt (c : Option (Fin 24)) (s : State) : State :=
  match c with
  | some k => releaseChannel k s
  | none => s

/-! ### Steps and recoveries (08 R247, R249) -/

/-- A step of device time by `a`: pairs keep it, and the stamps of open gates move by it. -/
def nibStep (a : Int) (s : State) : State :=
  { s with nib := vmap (fun _ ch =>
      { ch with pairs := ch.pairs.map fun p => { p with step := p.step + a },
                gateStamps := ch.gateStamps.map fun (k, t) => (k, ((t : Int) + a).toNat),
                gateStep := ch.gateStep || ch.gateOpen }) s.nib }

def nibRecovery (s : State) : State :=
  { s with nib := vmap (fun _ ch =>
      { ch with pairs := ch.pairs.map fun p => { p with recovered := true },
                gateLost := ch.gateLost || ch.gateOpen, lastEdge := none, buffered := 0 }) s.nib }

/-- The stamps of the monitors' open gates, restated on a device time that has moved by `a`. -/
def monitorStep (a : Int) (s : State) : State :=
  { s with nib := vmap (fun _ ch =>
      if gateMonitor ch then
        { ch with gateStamps := ch.gateStamps.map fun (k, t) => (k, ((t : Int) + a).toNat) }
      else ch) s.nib }

/-! ### Regression (08 R248) -/

/-- The integer square root, by its bits from bit `n` down. -/
def isqrtFrom : Nat → Nat → Nat → Nat
  | 0, _, r => r
  | n + 1, x, r => if (r + 2 ^ n) * (r + 2 ^ n) ≤ x then isqrtFrom n x (r + 2 ^ n)
      else isqrtFrom n x r

def isqrt (x : Nat) : Nat := isqrtFrom (Nat.log2 x / 2 + 1) x 0

/-- √(a ÷ b) rounded to the nearest whole. -/
def sqrtRound (a b : Nat) : Nat := (isqrt (4 * a / b) + 1) / 2

/-- The smallest whole number whose square is at least `n`. -/
def ceilSqrt (n : Nat) : Nat := if isqrt n * isqrt n = n then isqrt n else isqrt n + 1

structure Fit where
  first    : Nat
  freq     : Int
  stdError : Nat
deriving DecidableEq, Repr

/-- The least-squares line through (ordinal, stamp): its value at ordinal `k0`, FREQUENCY against
`nominal` and STD_ERROR in ZF64. -/
def regress (l : List (Nat × Nat)) (k0 nominal : Nat) : Fit :=
  let n : Int := l.length
  let sk : Int := l.foldl (fun a p => a + p.1) 0
  let st : Int := l.foldl (fun a p => a + p.2) 0
  let skk : Int := l.foldl (fun a p => a + p.1 * p.1) 0
  let skt : Int := l.foldl (fun a p => a + p.1 * p.2) 0
  let stt : Int := l.foldl (fun a p => a + p.2 * p.2) 0
  let d := n * skk - sk * sk
  let m := n * skt - sk * st
  let e := n * stt - st * st
  { first := (rdiv (st * d + m * (n * k0 - sk)) (n * d).toNat).toNat
    freq := satZi (rdiv ((m - d * nominal) * 2 ^ 60) (d * nominal).toNat)
    stdError := sqrtRound ((e * d - m * m).toNat * 2 ^ 120)
      ((d * d).toNat * (l.length - 2) * nominal * nominal) }

/-- FREQUENCY of stamps against a nominal period of `num` ÷ `den` in 2^-16 ns (R248). -/
def slopeAgainst (l : List (Nat × Nat)) (num den : Nat) : Int :=
  let n : Int := l.length
  let sk : Int := l.foldl (fun a p => a + p.1) 0
  let st : Int := l.foldl (fun a p => a + p.2) 0
  let skk : Int := l.foldl (fun a p => a + p.1 * p.1) 0
  let skt : Int := l.foldl (fun a p => a + p.1 * p.2) 0
  let d := n * skk - sk * sk
  let m := n * skt - sk * st
  satZi (rdiv ((m * den - d * num) * 2 ^ 60) (d * num).toNat)

/-- The slope of offsets against their times, in ZF64: what R248 gives for measurements in place of edges. -/
def slopeOf (l : List (Nat × Int)) : Int :=
  let n : Int := l.length
  let st : Int := l.foldl (fun a p => a + p.1) 0
  let so : Int := l.foldl (fun a p => a + p.2) 0
  let stt : Int := l.foldl (fun a p => a + p.1 * p.1) 0
  let sto : Int := l.foldl (fun a p => a + p.1 * p.2) 0
  satZi (rdiv ((n * sto - st * so) * 2 ^ 60) (n * stt - st * st).toNat)

end Sys2Proof.Machine
end

