-- ==== Sys2Proof/Machine/SteerOps.lean ====
section
/-! DEFINITION. What the timing areas share: APLL states and the limiter (06 R181 to R184), DPLL freezes and
returns (04 R148 to R150), Ductus states and the target offsets (04 R136, R141). -/

namespace Sys2Proof.Machine

/-! ### References and members -/

def timeBearing (s : State) (i : Fin 20) : Bool :=
  match refKind i with
  | .refin => decide (s.refs[i].cfg.kind = 1)
  | .xo => false
  | _ => true

def atomicClass (s : State) (i : Fin 20) : Bool :=
  decide (refKind i = .refin) && decide (s.refs[i].cfg.kind = 0) &&
  decide (s.refs[i].cfg.atomic ≠ 0)

def qualified (r : Ref) : Bool := decide (r.state = .qualified) || decide (r.state = .selected)

/-- The SELECTED reference (02 R52). -/
def selected (s : State) : Option (Fin 20) :=
  (fins 20).find? fun i => decide (s.refs[i].state = .selected)

abbrev xoRef : Fin 20 := 12

/-! ### Outputs -/

/-- The APLL that drives a CKOUT, and the DPLL channel that drives an APLL (06 R178, 04 R147). -/
def apllOf (k : Fin 16) : Fin 8 := ⟨k.val / 2, by omega⟩

def dpllOf (s : State) (a : Fin 8) : Option (Fin 6) :=
  (fins 6).find? fun c => bitOf s.ductus.dplls[c].cfg.apllMask a.val

def ckoutsOf (a : Fin 8) : List (Fin 16) := (fins 16).filter fun k => decide (apllOf k = a)

def setCkout (k : Fin 16) (st : CkoutState) : State → State :=
  fun s => s.modCkout k fun x => { x with state := st }

/-- The outputs of an APLL stop: RUNNING enters STOPPED (06 R188). -/
def stopOutputs (a : Fin 8) (s : State) : State :=
  forAll (ckoutsOf a) (fun k t =>
    if t.synth.ckouts[k].state = .running then raise 0x0403 k.val 0 (setCkout k .stopped t) else t) s

/-- The limiter permits edges again: STOPPED goes back to RUNNING, or to WAIT_ALIGN after UNLOCKED. -/
def restartOutputs (a : Fin 8) (dest : CkoutState) (s : State) : State :=
  forAll (ckoutsOf a) (fun k t =>
    if t.synth.ckouts[k].state = .stopped then raise 0x0404 k.val 0 (setCkout k dest t) else t) s

/-! ### APLLs (06 R181) -/

def apllCode : ApllState → Nat
  | .unlocked => 0
  | .locked => 1
  | .frozen => 2

def apllCauses (a : Apll) : Nat := flag a.causeDpll 0 + flag a.causeXo 1 + flag a.causeSlip 2

/-- An APLL takes a state; a change raises 0x0401. Entering UNLOCKED stops its outputs, leaving it
sends them to wait for alignment. -/
def setApll (i : Fin 8) (st : ApllState) (s : State) : State :=
  let old := s.synth.aplls[i].state
  let s := s.modApll i fun a => { a with state := st }
  if old = st then s
  else
    let s := raise 0x0401 (i.val + apllCode old * 16 + apllCode st * 64 +
      apllCauses s.synth.aplls[i] * 256) 0 s
    if st = .unlocked then stopOutputs i s
    else if old = .unlocked then restartOutputs i .waitAlign s
    else s

/-- Whether any cause of FROZEN holds. -/
def apllHeld (a : Apll) : Bool := a.causeDpll || a.causeXo || a.causeSlip

/-- A cause of FROZEN begins: a LOCKED APLL becomes FROZEN. At entry to analogue hold the junction
temperature is taken (06 R184). -/
def holdApll (i : Fin 8) (f : Apll → Apll) (s : State) : State :=
  let a := s.synth.aplls[i]
  let analog := fun (x : Apll) => x.causeXo || x.causeSlip
  let s := s.modApll i fun x =>
    let y := f x
    if analog y && !analog x then { y with holdTemp := s.power.junction } else y
  if a.state = .locked then setApll i .frozen s else s

/-! ### DPLL channels (04 R148 to R150) -/

def apllsOf (s : State) (c : Fin 6) : List (Fin 8) :=
  (fins 8).filter fun a => bitOf s.ductus.dplls[c].cfg.apllMask a.val

/-- The control value of a channel reaches one of its APLLs, clamped to CEILING less 0.1 ppm (06 R183). -/
def applyOne (c : Fin 6) (a : Fin 8) (s : State) : State :=
  let v := s.ductus.dplls[c].control
  let lim : Int := ((10 * s.synth.aplls[a].cfg.ceiling - 1) * 2 ^ 60 / 10 ^ 7 : Nat)
  let beyond := decide (lim < v.natAbs)
  let was := s.synth.aplls[a].clamped
  let s := s.modApll a fun x => { x with applied := max (-lim) (min lim v), clamped := beyond }
  if beyond = was then s else raise 0x0402 (a.val + flag beyond 8) 0 s

def applyControl (c : Fin 6) (s : State) : State := forAll (apllsOf s c) (applyOne c) s

/-- The channel's loop acts: its control value has no formula, so it is free. -/
def freeControl (c : Fin 6) (s : State) : State :=
  let (v, s) := freshInt s
  applyControl c (s.modDpll c fun d => { d with control := v })

/-! ### Misalignment and REALIGN (06 R191 to R194) -/

/-- Units of 2^-16 ns × mHz in a period: a period is this over the frequency in mHz. -/
abbrev perMhz : Nat := 65536 * 10 ^ 12

/-- The enabled CKOUTs of a channel with a ROLE. -/
def outputsOf (s : State) (c : Fin 6) (role : Nat) : List (Fin 16) :=
  (fins 16).filter fun k => bitOf s.ductus.dplls[c].cfg.apllMask (apllOf k).val &&
    decide (s.synth.ckouts[k].cfg.enable = 1) && decide (s.synth.ckouts[k].cfg.role = role)

def dividers (c : Ckout) : Nat := c.cfg.hsDiv * c.cfg.lsDiv

/-- The alignment unit U as a fraction of 2^-16 ns (R192): one over the greatest common divisor of the
CLOCK frequencies, or the VCO period of the lowest APLL. -/
def alignUnit (s : State) (c : Fin 6) : Nat × Nat :=
  match outputsOf s c 0 with
  | [] => match apllsOf s c with
    | a :: _ => (perMhz, s.synth.aplls[a].cfg.vcoFreq)
    | [] => (perMhz, 1)
  | ks =>
    let l := ks.foldl (fun n k => Nat.lcm n (dividers s.synth.ckouts[k])) 1
    let g := ks.foldl (fun n k => Nat.gcd n
      (s.synth.aplls[apllOf k].cfg.vcoFreq * (l / dividers s.synth.ckouts[k]))) 0
    (perMhz * l, g)

/-- m less whole units, within (−U ÷ 2, +U ÷ 2] (R192). -/
def reduced (s : State) (c : Fin 6) (m : Int) : Int :=
  let (n, d) := alignUnit s c
  let k : Int := -((n - 2 * m * d) / (2 * n))      -- m ÷ U rounded, ties down
  m - rdiv (k * n) d

/-- What a slew has moved since it began or was last brought to account. -/
def partMoved (s : State) (r : Realign) : Int :=
  if r.stepping then 0
  else
    let n := min r.remaining.natAbs (r.rate * (s.clock.ticks.toNat - r.begun) / 10 ^ 9)
    if 0 ≤ r.remaining then n else -n

/-- The misalignment of a channel now. -/
def misalignOf (s : State) (c : Fin 6) : Int :=
  let d := s.ductus.dplls[c]
  match d.realign with
  | some r => d.misalign - partMoved s r
  | none => d.misalign

/-- The misalignment of an output (R191): reduced for a CLOCK, less the correction for a FRAME. -/
def outputMisalign (s : State) (k : Fin 16) : Int :=
  match dpllOf s (apllOf k) with
  | some c =>
    if s.synth.ckouts[k].cfg.role = 1 then misalignOf s c - s.synth.ckouts[k].c
    else reduced s c (misalignOf s c)
  | none => 0

/-- While DPLL0 slews, the counter's increment changes by the inverse of the slew of APLL0 (R192). -/
def slewIncrement (c : Fin 6) (s : State) : State :=
  if c.val ≠ 0 then s
  else
    let d : Int := match s.ductus.dplls[c].realign with
      | some r => if r.stepping ∨ r.remaining = 0 then 0
          else (if 0 < r.remaining then 1 else -1) * rdiv (2 ^ 40 * r.rate) secUnit
      | none => 0
    if counterForm s then s.modClock fun k => { k with increment := (2 ^ 40 + d).toNat } else s

/-- A slew in progress is brought to account. -/
def settleSlew (c : Fin 6) (s : State) : State :=
  match s.ductus.dplls[c].realign with
  | some r =>
    let p := partMoved s r
    s.modDpll c fun d =>
      { d with misalign := d.misalign - p,
               realign := some { r with remaining := r.remaining - p, moved := r.moved + p,
                                        begun := s.clock.ticks.toNat } }
  | none => s

/-- An item of REALIGN is finished; a command with no more items completes. -/
def dropItem (kind n : Nat) (s : State) : State :=
  let jobs := s.synth.jobs.map fun j => { j with items := j.items.filter fun i => i ≠ (kind, n) }
  let s := s.modSynth fun y => { y with jobs := jobs.filter fun j => decide (j.items ≠ []) }
  forAll (jobs.filter fun j => decide (j.items = []))
    (fun j => completeCmd 0x0403 j.seq stOk j.source) s

def itemDone (kind n : Nat) (movement : Int) (s : State) : State :=
  dropItem kind n (raise 0x0405 (n + kind * 256) (toCode 64 movement) s)

/-- A REALIGN slew ends before its time: what is not moved stays in m (R194). -/
def abortRealign (c : Fin 6) (s : State) : State :=
  let s := settleSlew c s
  match s.ductus.dplls[c].realign with
  | none => s
  | some r =>
    if r.stepping then s
    else
      let s := slewIncrement c (s.modDpll c fun d => { d with realign := none })
      dropItem 0 c.val (raise 0x0406 c.val (toCode 64 r.moved) s)

/-- One channel that is PULLING or TRACKING enters FROZEN with the mean of its control values, a free
value, and its APLLs freeze with cause DPLL. -/
def freezeOne (c : Fin 6) (s : State) : State :=
  let d := s.ductus.dplls[c]
  if d.state = .pulling ∨ d.state = .tracking then
    let s := freeControl c (s.modDpll c fun x => { x with state := .frozen })
    let s := abortRealign c s
    forAll (apllsOf s c) (fun a => holdApll a fun x => { x with causeDpll := true }) s
  else s

/-- The SYSTEM channels. -/
def systemChannels (s : State) : List (Fin 6) :=
  (fins 6).filter fun c => decide (c.val ≠ 0) && decide (s.ductus.dplls[c].cfg.input = 1)

/-- Every SYSTEM channel freezes once APLL0 has left LOCKED (04 R148). -/
def freezeSystem (s : State) : State :=
  if s.synth.aplls[0].state = .locked then s else forAll (systemChannels s) freezeOne s

def freezeDpll (c : Fin 6) (s : State) : State := freezeSystem (freezeOne c s)

/-- The input of a FROZEN channel returns (04 R148, R150): PULLING; the phase build-out, a free
measurement, enters m of a SYSTEM or REFERENCE channel (06 R191). Its APLLs lose cause DPLL. -/
def thawOne (c : Fin 6) (s : State) : State :=
  let d := s.ductus.dplls[c]
  if d.state ≠ .frozen then s
  else
    let s := s.modDpll c fun x => { x with state := .pulling }
    let s := if c.val = 0 then s else
      let (v, s) := freshInt s
      s.modDpll c fun x => { x with buildOut := v, misalign := x.misalign + v }
    forAll (apllsOf s c) (fun a t =>
      let t := t.modApll a fun x => { x with causeDpll := false }
      if t.synth.aplls[a].state = .frozen ∧ !apllHeld t.synth.aplls[a] then setApll a .locked t
      else t) s

/-- SYSTEM channels return once APLL0 is LOCKED. -/
def thawSystem (s : State) : State :=
  if s.synth.aplls[0].state = .locked then forAll (systemChannels s) thawOne s else s

def thawDpll (c : Fin 6) (s : State) : State := thawSystem (thawOne c s)

/-- The REFERENCE channels that follow REFIN `i`. -/
def channelsOn (s : State) (i : Fin 20) : List (Fin 6) :=
  (fins 6).filter fun c => decide (s.ductus.dplls[c].cfg.input = 2) &&
    decide (s.ductus.dplls[c].cfg.refIndex = i.val)

/-! ### Ductus (04 R136, R141) -/

def ductusCode : DuctusState → Nat
  | .free => 0
  | .acquire => 1
  | .locked => 2
  | .coast => 3
  | .rejoin => 4

def anchorCode (s : State) : Nat :=
  match s.ductus.anchor with
  | some a => a.val
  | none => 0xFF

/-- K takes device time minus E (R136). -/
def loadK (s : State) : State := s.modDuctus fun d => { d with k := -d.ensemble }

/-- Ductus makes a transition and raises 0x0301. Entering COAST in SELECT mode loads K; entering FREE
freezes DPLL0 at FREE_FREQ; entering ACQUIRE lets it pull. -/
def setDuctus (st : DuctusState) (s : State) : State :=
  let old := s.ductus.state
  let s := s.modDuctus fun d =>
    { d with state := st, seconds := 0, changed := true,
             settled := d.settled && decide (st ≠ .free) && decide (st ≠ .acquire) }
  let s := raise 0x0301 (ductusCode old + ductusCode st * 8 + anchorCode s * 256)
    (toCode 64 s.ductus.loopError) s
  match st with
  | .free =>
    let s := if s.ductus.dplls[0].state = .frozen then s else freezeDpll 0 s
    applyControl 0 (s.modDpll 0 fun d => { d with control := ofCode 64 s.ductus.cfg.freeFreq })
  | .acquire => thawDpll 0 s
  | .coast => if s.ductus.mode = 1 ∧ old ≠ .coast then loadK s else s
  | _ => s

/-- Whether the handover has happened since the last boot or recovery. -/
def afterHandover (s : State) : Bool := s.clock.handedOver

/-- XO activity is lost (04 R151, 06 R195): every APLL goes into analogue hold, Ductus sets XO_LOST and
coasts after the handover. -/
def loseXo (s : State) : State :=
  let s := forAll (fins 8) (fun a => holdApll a fun x => { x with causeXo := true }) s
  let s := freezeSystem s
  let s := s.modDuctus fun d => { d with xoLost := true }
  match s.ductus.state with
  | .acquire => if afterHandover s then setDuctus .coast s else s
  | .locked => setDuctus .coast s
  | .rejoin => setDuctus .coast s
  | _ => s

end Sys2Proof.Machine
end

