-- ==== Sys2Proof/Machine/RefOps.lean ====
section
/-! DEFINITION. References as other areas use them (02): monitor parameters, reasons, states, activity,
candidates and the staged switch. -/

namespace Sys2Proof.Machine

/-! ### Configuration (02 R53) -/

/-- The configuration in force: DIVIDER and FREQ_UNC follow NOMINAL and ATOMIC until the host has set
them. -/
def refinOf (r : Ref) : RefinCfg :=
  { r.cfg with
    divider := if bitOf r.cfgSet 5 then r.cfg.divider
      else max 1 ((r.cfg.nominal + 9999999999) / 10000000000)
    freqUnc := if bitOf r.cfgSet 10 then r.cfg.freqUnc
      else match r.cfg.atomic with
        | 0 => 1152921504607
        | 1 => 11529215
        | _ => 1152922 }

/-! ### Monitor parameters (02 R71) -/

/-- Kinds that lose activity after 2 and regain it after 4: PULSE, GNSS and PTPU. -/
def briefActivity (s : State) (i : Fin 20) : Bool :=
  match refKind i with
  | .refin => decide (s.refs[i].cfg.kind = 1)
  | .gnss => true
  | .ptpu => true
  | _ => false

/-- The parameters in force: a row that the host has not set follows the kind and class. -/
def monOf (s : State) (i : Fin 20) : MonCfg :=
  let m := s.refs[i].mon
  let own := fun k => bitOf s.refs[i].monSet k
  let xo := decide (refKind i = .xo)
  let tb := timeBearing s i
  let at_ := atomicClass s i
  { m with
    actLoss := if own 0 then m.actLoss else if briefActivity s i then 2 else 4
    actRestore := if own 1 then m.actRestore else if briefActivity s i then 4 else 16
    freqGate := if own 2 then m.freqGate
      else if xo || (decide (refKind i = .refin) && !tb) then 1000 else 16000
    freqAccept := if own 3 then m.freqAccept
      else if at_ then 5764607523 else if xo then 4611686018427
      else if tb then 115292150461 else 2305843009214
    freqReject := if own 4 then m.freqReject
      else if at_ then 11529215046 else if xo then 11529215046068
      else if tb then 230584300921 else 4611686018427
    qualTime := if own 5 then m.qualTime else if at_ then 600 else 10 }

/-! ### Members (04 R125, R135) -/

/-- The XO and every FREQUENCY REFIN. -/
def clockMember (s : State) (i : Fin 20) : Bool :=
  decide (refKind i = .xo) || (decide (refKind i = .refin) && decide (s.refs[i].cfg.kind = 0))

def isMember (s : State) (i : Fin 20) : Bool := qualified s.refs[i]

/-- The clock members, as 04 R130 exports them. -/
def clockMembers (s : State) : List (Fin 20) :=
  (fins 20).filter fun i => clockMember s i && isMember s i

/-- 04 R135: SELECT mode needs a clock member other than the XO for its guard. -/
def guardAbsent (s : State) : Bool :=
  decide (s.ductus.mode = 1) &&
  !(fins 20).any fun i => clockMember s i && decide (i ≠ xoRef) && isMember s i

/-! ### States and reasons (02 R73 to R80) -/

def refCode : RefState → Nat
  | .off => 0
  | .monitor => 1
  | .qualified => 2
  | .selected => 3
  | .rejected => 4
  | .held => 5

/-- The lowest reason that holds, by code from `c` up. -/
def lowestReason (b : BitVec 16) : Nat → Nat → Nat
  | 0, _ => 0
  | n + 1, c => if b.getLsbD c then c else lowestReason b n (c + 1)

/-- 02 R79: the reason that a reference reports. -/
def reasonOf (r : Ref) : Nat :=
  if r.state = .rejected then (let c := lowestReason r.reasons 9 1; if c = 0 then 4 else c)
  else if r.state = .held then (let c := lowestReason r.reasons 9 1; if c = 0 then 9 else c)
  else 0

/-- A reference stops contributing, and a DPLL channel that follows it freezes (R66, R75). -/
def stopContribution (i : Fin 20) (s : State) : State :=
  if s.refs[i].contributing then
    forAll (channelsOn s i) freezeDpll (s.modRef i fun r => { r with contributing := false })
  else s

def startContribution (i : Fin 20) (s : State) : State :=
  if s.refs[i].contributing then s
  else forAll (channelsOn s i) thawDpll (s.modRef i fun r => { r with contributing := true })

/-- A reject condition is detected: the reason holds and contribution stops at once (R74, R75). -/
def addReason (i : Fin 20) (c : Nat) (s : State) : State :=
  if s.refs[i].state = .off then s
  else stopContribution i (s.modRef i fun r => { r with reasons := r.reasons ||| BitVec.ofNat 16 (2 ^ c) })

def clearReason (i : Fin 20) (c : Nat) (s : State) : State :=
  s.modRef i fun r => { r with reasons := r.reasons &&& ~~~(BitVec.ofNat 16 (2 ^ c)) }

def hasReason (r : Ref) (c : Nat) : Bool := r.reasons.getLsbD c

/-- The event of a state change (R80, 15 R431): into HELD the predicted offset follows it. -/
def refEvent (i : Fin 20) (old new : RefState) (reason : Nat) (s : State) : State :=
  let s := raise 0x0201 (i.val + refCode old * 256 + refCode new * 4096 + reason * 65536)
    (optCode s.refs[i].measured) s
  if new = .held then raise 0x0202 i.val (optCode s.refs[i].predicted) s else s

/-- A reference takes a state; its contribution follows. -/
def setRef (i : Fin 20) (st : RefState) (s : State) : State :=
  let s := s.modRef i fun r =>
    { r with state := st, pathSmall := if st = .qualified then 0 else r.pathSmall }
  if st = .qualified ∨ st = .selected then
    (if s.refs[i].reasons = 0 then startContribution i s else s)
  else stopContribution i s

/-- The qualification timer returns to 0 (R77). -/
def restartTimer (i : Fin 20) (s : State) : State :=
  s.modRef i fun r => { r with qualTimer := 0, qualDone := false }

/-- OFF to MONITOR: the monitors start afresh (R65, R76). -/
def toMonitor (i : Fin 20) (s : State) : State :=
  setRef i .monitor (s.modRef i fun r =>
    { r with reasons := 0, qualTimer := 0, qualDone := false, active := false, missing := 0,
             arrivals := 0, freq := none, verdict := .none, measured := none, offsets := [], lastAvg := none,
             hostLatch := false, disagree := false, rival := none, pathOlder := [],
             pathMax := 0, pathSince := false })

/-- The GNSS channels of a port are released (03 R102). -/
def idleChannels (p : Nat) (s : State) : State :=
  s.modGnss fun g => { g with channels := vmap (fun _ c =>
    if c.port = p ∧ c.state ≠ 0 ∧ c.state ≠ 5 then {} else c) g.channels }

/-- Any state to OFF: channels return to their pool, the host-reject latch and the drift model are
lost (R58, R74; 04 R129). -/
def toOff (i : Fin 20) (s : State) : State :=
  let r := s.refs[i]
  let s := setRef i .off s
  let s := releaseOpt r.compChannel (releaseOpt r.channel s)
  let s := s.modRef i fun x =>
    { cfg := x.cfg, mon := x.mon, cfgSet := x.cfgSet, monSet := x.monSet,
      companion := x.companion }
  let s := s.modDuctus fun d => { d with members := upd d.members i fun _ => {} }
  match refKind i with
  | .gnss => idleChannels (i.val - 13) s
  | _ => s

/-- An act waits for step 1 of the next evaluation (R78). -/
def addAct (a : RefAct) (src : Option Source) (s : State) : State :=
  s.modSel fun x => { x with acts := x.acts ++ [⟨a, src⟩] }

/-! ### Activity (02 R65, R66) -/

/-- An edge or a measurement arrives. A REFIN or the XO that is active again lets the APLLs that lost
the XO re-engage. -/
def refArrival (i : Fin 20) (s : State) : State :=
  let r := s.refs[i]
  if r.state = .off then s
  else
    let n := min 255 (r.arrivals + 1)
    let s := s.modRef i fun x => { x with arrivals := n, missing := 0 }
    if (monOf s i).actRestore ≤ n ∧ !r.active then
      let s := clearReason i 3 (s.modRef i fun x => { x with active := true })
      if i = xoRef then
        forAll (fins 8) (fun a t => t.modApll a fun x =>
          { x with causeXo := false, engaging := x.engaging || x.causeXo }) s
      else s
    else s

/-- An edge or a measurement misses its deadline; after ACT_LOSS of them activity is lost. -/
def refMiss (i : Fin 20) (s : State) : State :=
  let r := s.refs[i]
  if r.state = .off then s
  else
    let n := min 255 (r.missing + 1)
    let s := s.modRef i fun x => { x with arrivals := 0, missing := n }
    if (monOf s i).actLoss ≤ n then
      let s := restartTimer i (addReason i 3 (s.modRef i fun x => { x with active := false }))
      if i = xoRef ∧ (r.active ∨ !s.ductus.xoLost) then loseXo s else s
    else s

/-! ### Candidates (02 R81) -/

/-- The time uncertainty of a reference. -/
def uncOf (s : State) (i : Fin 20) : Nat :=
  if refKind i = .refin then s.refs[i].cfg.timeUnc else s.refs[i].uncertainty

/-- LINK_UNC toward the upstream neighbour (16 R441). -/
def linkUncOf (s : State) : Nat :=
  match asFin 8 s.stack.position with
  | some p => if s.stack.upstream.isSome then s.stack.members[p].linkUnc else unbounded
  | none => unbounded

/-- The stated uncertainty that Margin takes as REF: for STACK the neighbour's bound (05 R157). -/
def statedUnc (s : State) (i : Fin 20) : Nat :=
  if refKind i = .stack then uncOf s i - linkUncOf s else uncOf s i

/-- How far back a reference's offsets are averaged or fitted (R67, R69, R84), in 2^-16 ns. -/
def offsetSpan (s : State) (i : Fin 20) : Nat :=
  ms16 (max (max (monOf s i).freqGate (monOf s i).phaseAvg) s.sel.cfg.switchMeas)

/-- A measured device offset of a time-bearing reference at device time `t`. The anchor's counts for REF of
Margin (05 R157). -/
def takeOffset (i : Fin 20) (o : Int) (t : Nat) (s : State) : State :=
  let span := offsetSpan s i
  let s := s.modRef i fun r =>
    { r with measured := some o, offsets := (t, o) :: r.offsets.filter fun p => decide (t ≤ p.1 + span) }
  if s.ductus.anchor = some i then
    (s.modMargin fun m => { m with refWin := (t, statedUnc s i) :: m.refWin }).modDuctus fun d =>
      { d with anchorMeas := t }
  else s

/-- R53: the stamp `t` of an edge of a PULSE REFIN. The edge arrives PULSE_OFFSET after a TAI second, at
0.5 Hz an even one: the nearest is meant. -/
def takePulse (i : Fin 20) (t : Nat) (s : State) : State :=
  let c := s.refs[i].cfg
  if refKind i = .refin ∧ c.kind = 1 ∧ s.refs[i].state ≠ .off then
    let period : Int := if c.nominal = 500 then 2 * secUnit else secUnit
    let x := ((t : Int) - ofCode 64 c.pulseOffset) % period
    takeOffset i (if period < 2 * x then x - period else x) t s
  else s

/-- The mean of the offsets measured in the last `span`. -/
def meanOffset (s : State) (i : Fin 20) (span : Nat) : Option Int :=
  let l := (s.refs[i].offsets.filter fun p => decide (now s ≤ p.1 + span)).map (·.2)
  if l = [] then none else some (rdiv (l.foldl (· + ·) 0) l.length)

def vetoed (s : State) (i : Fin 20) : Bool :=
  match s.sel.hookAnswer with
  | some a => decide (a.action = 2) && bitOf a.veto i.val
  | none => false

def candidate (s : State) (i : Fin 20) : Bool :=
  timeBearing s i && qualified s.refs[i] && decide (uncOf s i < unbounded) &&
  !s.refs[i].companion

def candidates (s : State) : List (Fin 20) :=
  (fins 20).filter fun i => candidate s i && !vetoed s i

/-- `i` is better than `j` (R81): lower RANK, then SELECTED, then smaller uncertainty, then index. -/
def betterThan (s : State) (i j : Fin 20) : Bool :=
  let a := s.refs[i]
  let b := s.refs[j]
  if a.mon.rank ≠ b.mon.rank then decide (a.mon.rank < b.mon.rank)
  else if a.state = .selected then true
  else if b.state = .selected then false
  else if uncOf s i ≠ uncOf s j then decide (uncOf s i < uncOf s j)
  else decide (i.val < j.val)

/-- The best of a list. -/
def bestOf (s : State) : List (Fin 20) → Option (Fin 20)
  | [] => none
  | i :: is => match bestOf s is with
    | some j => if betterThan s i j then some i else some j
    | none => some i

/-- The candidate that a forced selection names, while it is one (R82); a hook's preference stands
in for it (14 R404). -/
def forcedNow (s : State) : Option (Fin 20) :=
  let pref := match s.sel.hookAnswer with
    | some a => if a.action = 1 then asFin 20 a.preferred else none
    | none => none
  match pref.filter (candidate s) with
  | some i => some i
  | none => s.sel.forced.filter (candidate s)

/-- The candidate that selection prefers. -/
def preferredNow (s : State) : Option (Fin 20) :=
  match forcedNow s with
  | some i => some i
  | none => bestOf s (candidates s)

/-! ### The staged switch (02 R84 to R90) -/

/-- The averaged device offset of a reference over the last SWITCH_MEAS, or the last one measured before; a
free value where none was. -/
def averagedOffset (i : Fin 20) (s : State) : Int × State :=
  match meanOffset s i (ms16 s.sel.cfg.switchMeas), s.refs[i].measured with
  | some o, _ => (o, s)
  | none, some o => (o, s)
  | none, none => freshInt s

/-- The anchor changes. When it is lost, TEMP_HOLD begins with the clock members of that instant (05 R160). -/
def setAnchor (i : Option (Fin 20)) (s : State) : State :=
  let lost := s.ductus.anchor.isSome && i.isNone
  let members := (clockMembers s).filter fun k => s.refs[k].contributing
  let s := if s.ductus.anchor = i then s else s.modMargin fun m =>
    { m with refWin := []
             lossAt := if lost then some s.clock.ticks.toNat else if i.isSome then none else m.lossAt
             lossMembers := if lost then members else m.lossMembers }
  let last : Option Nat := match i with
    | some k => s.refs[k].offsets.head?.map fun p => p.1
    | none => none
  s.modDuctus fun d => { d with
    anchor := i
    anchorMeas := if d.anchor = i then d.anchorMeas else last.getD d.anchorMeas
    lastAnchor := match i with
      | some k => some k
      | none => match d.anchor with
        | some k => some k
        | none => d.lastAnchor }

/-- B takes the whole measured difference `o`; K in SELECT mode and H are cleared (04 R136, R153). -/
def loadB (o : Int) (s : State) : State :=
  s.modDuctus fun d => { d with b := o, h := 0, k := if d.mode = 1 then 0 else d.k }

/-- MEASURE begins towards `t` (R84). With no reference SELECTED in SELECT mode K is loaded. -/
def startSwitch (t : Fin 20) (s : State) : State :=
  let none_ := (selected s).isNone
  let s := s.modSel fun x => { x with stage := .measure, target := some t }
  if none_ then
    let s := s.modDuctus fun d => { d with measuring := true }
    if s.ductus.mode = 1 ∧ s.ductus.state ≠ .coast then loadK s else s
  else s

/-- No reference is SELECTED and no switch runs: Ductus coasts (R83; 04 R141). -/
def abandonSwitch (s : State) : State :=
  let s := s.modSel fun x => { x with stage := .idle, target := none }
  let s := s.modDuctus fun d => { d with measuring := false }
  match s.ductus.state with
  | .acquire => if afterHandover s then setDuctus .coast s else setDuctus .free s
  | .locked => setDuctus .coast s
  | .rejoin => setDuctus .coast s
  | _ => s

/-- The outgoing reference becomes QUALIFIED, if it still was SELECTED. -/
def deselect (s : State) : State :=
  match selected s with
  | some r => s.modRef r fun x => { x with state := .qualified }
  | none => s

/-- Whether a time-bearing reference returns to a Ductus that coasts. -/
def coasting (s : State) : Bool := decide (s.ductus.state = .coast)

/-- BUILD-OUT (R84; 04 R141): B takes the averaged offset of the target, which becomes SELECTED. With
XO_LOST in COAST B is not loaded and Ductus stays in COAST. -/
def buildOut (t : Fin 20) (o : Int) (s : State) : State :=
  let s := setAnchor (some t) (setRef t .selected (deselect s))
  let s := s.modSel fun x => { x with stage := .slew, target := some t }
  let s := s.modDuctus fun d => { d with measuring := false }
  if coasting s then
    if s.ductus.xoLost then s else setDuctus .rejoin (loadB o s)
  else loadB o s

/-- A switch is retargeted (R86): B is reloaded with the new target's offset. -/
def retarget (t : Fin 20) (s : State) : State :=
  let old := match s.sel.target with
    | some x => x.val
    | none => 0xFF
  let (o, s) := averagedOffset t s
  let s := buildOut t o s
  raise 0x0203 (t.val + old * 256) (toCode 64 s.ductus.b) s

/-- Selection at once, while Ductus is FREE or ACQUIRE before the handover (04 R141). -/
def selectNow (t : Fin 20) (s : State) : State :=
  let s := setAnchor (some t) (setRef t .selected (deselect s))
  setDuctus .acquire (s.modSel fun x => { x with stage := .idle, target := none })

end Sys2Proof.Machine
end

