-- ==== Sys2Proof/Machine/TimeOps.lean ====
section
/-! DEFINITION. Steps of device time and recoveries, as the time counter and Ductus order them (07 R211,
R214, R216; 04 R153; 06 R191, R199). -/

namespace Sys2Proof.Machine

/-! ### Steps -/

/-- Phases that a step of `a` leaves where they are: −a enters m of every SYSTEM channel, with the same
amount in its build-out, and of DPLL0; a REALIGN slew goes on to the new value (06 R191, R194). -/
def stepDplls (a : Int) (s : State) : State :=
  forAll ((fins 6).filter fun c => decide (c.val = 0) ||
      (decide (s.ductus.dplls[c].cfg.input = 1) && decide (s.ductus.dplls[c].state ≠ .off)))
    (fun c t =>
      let t := settleSlew c t
      let t := t.modDpll c fun x =>
        { x with misalign := x.misalign - a,
                 buildOut := if c.val = 0 then x.buildOut else x.buildOut - a }
      let m := reduced t c t.ductus.dplls[c].misalign
      slewIncrement c (t.modDpll c fun x =>
        { x with realign := x.realign.map fun r =>
            if r.stepping then r else { r with remaining := m } })) s

/-- EVOUT programs keep their phase; a pulse in progress ends when it would have (06 R199). -/
def stepEvouts (a : Int) (s : State) : State :=
  let f := fun (_ : Fin 8) (e : Evout) =>
    { e with pending := e.pending - a,
             until_ := if e.until_ = 0 then 0 else ((e.until_ : Int) + a).toNat }
  s.modSynth fun y => { y with evouts := vmap f y.evouts }

/-- Measured and averaged offsets move by the step, so that no step is a phase step (02 R69). -/
def stepRefs (a : Int) (s : State) : State :=
  { s with refs := vmap (fun _ r =>
      { r with measured := r.measured.map (· + a), lastAvg := r.lastAvg.map (· + a),
               offsets := r.offsets.map fun p => (((p.1 : Int) + a).toNat, p.2 + a),
               predicted := r.predicted.map (· + a),
               pathOlder := r.pathOlder.map fun x => (x.1 + a, x.2) }) s.refs }

/-- The client role's stamps move with device time (12 R336). -/
def stepClient (a : Int) (s : State) : State :=
  let entry := fun (_ : Fin 16) (e : ClientEntry) =>
    { e with syncs := e.syncs.map fun h => { h with t2 := h.t2 + a }, t3 := e.t3.map (· + a) }
  let unit := fun (_ : Fin 4) (u : Ptpu) =>
    { u with exchanges := u.exchanges.map fun x => (x.1 + a, x.2), offsets := u.offsets.map (· + a) }
  s.modPtp fun p => { p with entries := vmap entry p.entries, ptpus := vmap unit p.ptpus }

/-- Stamps of markers move with device time; an exchange compares stamps of one form (16 R438). -/
def stepStack (a : Int) (s : State) : State :=
  let mv := fun (l : List (Nat × Nat)) => l.map fun p => (p.1, ((p.2 : Int) + a).toNat)
  let link := fun (_ : Fin 2) (k : StackLink) =>
    { k with sent := mv k.sent, received := mv k.received,
             exchanges := k.exchanges.map fun x => { x with theta := x.theta + a } }
  s.modStack fun t => { t with links := vmap link t.links }

/-- A frame already on its way keeps its physical place. -/
def shiftTx (a : Int) : TxFrame → TxFrame
  | .timed r l => .timed { r with start := ((r.start : Int) + a * calZt).toNat,
                                  stop := ((r.stop : Int) + a * calZt).toNat } l
  | .untimed q f st l => .untimed q f ((st : Int) + a * calZt).toNat l

def stepMacs (a : Int) (s : State) : State :=
  let f := fun (_ : Fin 16) (c : Mac) =>
    { c with tx := c.tx.map (shiftTx a), lpiReady := ((c.lpiReady : Int) + a * calZt).toNat }
  s.modNet fun n => { n with macs := vmap f n.macs }

/-- R216: a reservation within the device times that a step forward skips is re-committed once. -/
def stepReservations (before after : Nat) (s : State) : State :=
  forAll (fins 16) (fun m t =>
    forAll (t.net.macs[m].calendar.filter fun r =>
        decide (before < r.t) && decide (r.t ≤ after))
      (fun r u => missSlot m r 0 false u) t) s

/-- Device time is stepped by `a`, in 2^-16 ns, in the counter form. -/
def stepTime (a : Int) (s : State) : State :=
  let before := calNow s
  let s := s.modClock fun c =>
    { c with reg := ((c.reg : Int) + a * 2 ^ 24).toNat, epoch := c.epoch + 1 }
  let s := s.modDuctus fun d =>
    { d with ensemble := d.ensemble - a, prediction := d.prediction + a,
             updated := ((d.updated : Int) + a).toNat, refTime := ((d.refTime : Int) + a).toNat,
             anchorMeas := ((d.anchorMeas : Int) + a).toNat }
  let mv := fun (x : Nat) => ((x : Int) + a).toNat
  let sh := fun (l : List (Nat × Nat)) => l.map fun p => (mv p.1, p.2)
  let s := s.modMargin fun m =>
    { m with window := sh m.window, refWin := sh m.refWin, servoWin := sh m.servoWin,
             evalTime := mv m.evalTime }
  let s := s.modSel fun x => { x with alarm := x.alarm.map fun d => { d with since := mv d.since } }
  let s := stepMacs a (nibStep a (stepStack a (stepClient a (stepRefs a (stepEvouts a (stepDplls a s))))))
  if 0 < a then stepReservations before (calNow s) s else s

/-- A parameter set takes force; the set before it is kept (07 R207). What was measured in the virtual form is
restated on the new one. -/
def setVirtual (v : VirtualSet) (s : State) : State :=
  let t := s.modClock fun c => { c with vset := v, vprev := c.vset }
  let a := (now t : Int) - now s
  monitorStep a (stepStack a (stepClient a (stepRefs a t)))

/-! ### Recoveries (07 R211) -/

/-- A timed descriptor at the head of its ring is written back at once outside the counter form
(07 R209), and an injection that waits is reported so. -/
def releaseHeld (s : State) : State :=
  let s := forAll s.host.dp.waiting (fun slot t =>
    let h := injHeader t slot
    hostDrop (.inject slot) h.mac (h.length + 4) (ztUnits h.launchAt) ocNotCounter t)
    (s.modHost fun h => { h with dp := { h.dp with waiting := [] } })
  forAll (fins 64) (fun r t => match t.host.tx[r].held with
    | some (i, d) =>
      hostDrop (.ring r i) d.mac (d.length + 4) 0 ocNotCounter
        (t.modTx r fun k => { k with held := none })
    | none => t) s

/-- A host step that is pending is discarded: its command completes with E_STATE. -/
def discardStep (s : State) : State :=
  let s := match s.clock.step with
    | some p => completeCmd 0x0103 p.sequence eState p.source
        (s.modClock fun c => { c with step := none })
    | none => s
  s.modClock fun c => { c with rebase := none }

/-- One program slot is disabled with its EVOUT-done event. -/
def killProgram (e : Fin 8) (periodic : Bool) (s : State) : State :=
  let v := s.synth.evouts[e]
  let slot := if periodic then v.periodic else v.oneShot
  if slot.program.enable = 1 ∨ slot.next.isSome then
    let s := s.modEvout e fun x =>
      let dead := fun (y : EvSlot) => { y with program := { y.program with enable := 0 }, next := none }
      if periodic then { x with periodic := dead x.periodic }
      else { x with oneShot := dead x.oneShot }
    raise 0x0407 (e.val + flag periodic 8) slot.fired s
  else s

def killPrograms (s : State) : State :=
  forAll (fins 8) (fun e t =>
    (killProgram e true (killProgram e false t)).modEvout e fun x => { x with until_ := 0 }) s

/-- FRAME outputs run in the counter form only (07 R208): they wait for it again. -/
def stopFrames (s : State) : State :=
  let f := fun (_ : Fin 16) (k : Ckout) =>
    if k.cfg.role = 1 ∧ k.state = .running then { k with state := .waitAlign } else k
  s.modSynth fun y => { y with ckouts := vmap f y.ckouts }

/-- Steps 1 to 3 of R211. -/
def beginRecovery (byCommand : Bool) (s : State) : State :=
  if s.clock.recovery.isSome then s
  else
    let last := match s.clock.form with
      | .counter => s.clock.reg
      | .virtual => now s * 2 ^ 24
      | .stopped => s.clock.reg
    let s := dropAll ocRecovery true s
    let s := s.modNts fun n => { n with requests := [] }
    let s := s.modPtp fun p => { p with requests := [] }
    let s := discardStep s
    let s := stopFrames (killPrograms s)
    let s := nibRecovery s
    let s := s.modClock fun c =>
      { c with form := .stopped, reg := last, recovery := some ⟨byCommand, last⟩,
               handoverAsked := false, setOnEvin := none }
    releaseHeld s

/-- An APLL enters UNLOCKED; with APLL0 the system time clock stops (06 R182). -/
def unlockApll (a : Fin 8) (s : State) : State :=
  let s := setApll a .unlocked (s.modApll a fun x =>
    { x with causeSlip := false, engaging := false, limited := false })
  if a.val = 0 then beginRecovery false (freezeSystem s) else s

/-- Everything counted in ticks starts afresh with V. -/
def restartTicks (s : State) : State :=
  let f := fun (_ : Fin 16) (c : Mac) =>
    { c with windows := [], pausedFrom := none,
             queues := vmap (fun _ q => { q with tokensAt := 0, emptyAt := 0 }) c.queues }
  let s := s.modNet fun n => { n with macs := vmap f n.macs }
  let s := s.modNts fun n => { n with bucketAt := 0 }
  let s := s.modKeys fun k => { k with failTicks := [] }
  let s := s.modHost fun h => { h with nibRate := (0, 0) }
  let s := s.modPower fun p => { p with temps := [] }
  let s := s.modMargin fun m =>
    { m with hostTemps := Vector.replicate 13 [], lossAt := m.lossAt.map fun _ => 0 }
  let g := fun (_ : Fin 2) (p : GnssPort) =>
    { p with excluded := p.excluded.map fun x => (x.1, 0), posSince := p.posSince.map fun _ => 0,
             crossSince := p.crossSince.map fun _ => 0, constSince := p.constSince.map fun _ => 0,
             passSince := Vector.replicate 8 0, surveyFrom := 0, guardHist := [], noiseHist := [],
             group := p.group.map fun j => { j with begun := 0 } }
  let s := s.modGnss fun x => { x with ports := vmap g x.ports }
  s.modClock fun c => { c with evins := vmap (fun _ e => { e with lastEdge := none }) c.evins }

/-- Ductus enters FREE: the SELECTED reference becomes QUALIFIED, any switch is abandoned, and B, K and
H are cleared (04 R141). -/
def ductusFree (s : State) : State :=
  let s := match selected s with
    | some i => refEvent i .selected .qualified 0 (s.modRef i fun r => { r with state := .qualified })
    | none => s
  let s := s.modSel fun x => { x with stage := .idle, target := none }
  let s := setAnchor none (s.modDuctus fun d => { d with b := 0, k := 0, h := 0, measuring := false })
  if s.ductus.state = .free then s else setDuctus .free s

end Sys2Proof.Machine
end

