-- ==== Sys2Proof/Machine/PortOps.lean ====
section
/-! DEFINITION. Ethernet ports as other areas use them (09): lanes, counters, pause windows in force, and what
happens when a MAC leaves UP. -/

namespace Sys2Proof.Machine

/-! ### Lanes (09 R251) -/

/-- The lanes of a port. -/
def laneCount (mode : Nat) (split : Bool) : Nat :=
  match mode with
  | 0 => 1
  | 1 => 4
  | 2 => if split then 1 else 2
  | 3 => 4
  | _ => 8

def lanesOf (s : State) (m : Fin 16) : Nat := laneCount s.net.portMode (isSplit s m)

/-- The identity map: logical lane l of MAC m is physical lane m + l. -/
def identityMap (m lanes : Nat) : Nat :=
  (List.range lanes).foldl (fun n l => n + (m + l) % 16 * 16 ^ l) 0

/-- A permutation of the port's lanes, nibble l for logical lane l. -/
def laneMapOk (m lanes n : Nat) : Bool :=
  decide (n < 16 ^ lanes) &&
  (List.range lanes).all fun l => decide ((List.range lanes).countP
    (fun k => decide (n / 16 ^ k % 16 = m + l)) = 1)

/-- The signalling is PAM4. -/
def pam4 (mode : Nat) : Bool := decide (2 ≤ mode)

/-! ### Counters (09 R261, R271) -/

/-- One of the counters of 15 R422, raw 64-bit. -/
def countMac (m : Fin 16) (k : Fin 18) (s : State) : State :=
  s.modMac m fun c => { c with counters := upd c.counters k fun n => (n + 1) % 2 ^ 64 }

/-- A receive check of R261 fails: the frame is dropped and its reason counted. -/
def dropFrame (m : Fin 16) (reason : Fin 13) (s : State) : State :=
  markSummary 0x0510 m.val reason.val (countMac m (reason.castLE (by omega)) s)

abbrev rPcs : Fin 13 := 0
abbrev rFcs : Fin 13 := 1
abbrev rRunt : Fin 13 := 2
abbrev rOversize : Fin 13 := 3
abbrev rDaMiss : Fin 13 := 4
abbrev rMacControl : Fin 13 := 5
abbrev rTagExcess : Fin 13 := 6
abbrev rVlanMiss : Fin 13 := 7
abbrev rIpHeader : Fin 13 := 8
abbrev rUdpChecksum : Fin 13 := 9
abbrev rBuffer : Fin 13 := 10
abbrev rNoRule : Fin 13 := 11
abbrev rRingFull : Fin 13 := 12
abbrev cPfcIgnored : Fin 18 := 13
abbrev cOverBudget : Fin 18 := 14
abbrev cLinkFault : Fin 18 := 15
abbrev cSkewChange : Fin 18 := 16
abbrev cLinkDrop : Fin 18 := 17

/-- 01-80-C2-00-00-01 and broadcast, first octet lowest. -/
abbrev pauseAddress : Nat := 0x010000C28001
abbrev broadcast : Nat := 2 ^ 48 - 1

/-- Check 5 of R261. -/
def daOk (c : MacCfg) (da etherType : Nat) : Bool :=
  decide (da ∈ c.macAddr) || decide (da ∈ c.mcast) || decide (da = broadcast) ||
  (decide (etherType = 0x8808) && decide (da = pauseAddress))

/-! ### Pause (09 R267, R268) -/

/-- The physical instant at which the present device-time second began. -/
def secondPhys (s : State) : Nat := physNow s - now s % secUnit * calZt

/-- Paused time from `a` to `b` enters the account of the present second. -/
def addPaused (a b : Nat) (s : State) (c : Mac) : Mac :=
  let sec := nowSec s
  let old := if c.pausedSec = sec then c.pausedIn else 0
  { c with pausedSec := sec, pausedIn := old + (b - max a (secondPhys s)) }

/-- Windows of a MAC that `gone` names are over at `at_`: each queue's PAUSED_TIME grows by the time its
window was open, and with no window left the MAC's account closes. -/
def closeWindows (m : Fin 16) (at_ : Nat) (gone : PauseWin → Bool) (s : State) : State :=
  s.modMac m fun c =>
    let ended := c.windows.filter fun w => gone w && w.opened
    let rest := c.windows.filter fun w => !gone w
    let held := fun (q : Fin 32) => (ended.filter fun w => decide (w.queues / 2 ^ q.val % 2 = 1)).foldl
      (fun n w => n + (min at_ w.closing - w.opening) / calNs) 0
    let queues := vmap (fun q (x : EgressQueue) =>
      { x with pausedTime := (x.pausedTime + held q) % 2 ^ 64 }) c.queues
    let c := { c with windows := rest, queues := queues }
    match c.pausedFrom with
    | some a =>
      if rest.any (·.opened) then c
      else
        let stop := ended.foldl (fun n w => max n (min at_ w.closing)) 0
        { addPaused a stop s c with pausedFrom := none }
    | none => c

/-! ### Leaving UP (09 R255, R256) -/

/-- Service transactions whose response was to leave by the MAC: the requests that wait, the responses
that hold a reservation or are leaving, and the answers in queue 3. -/
def isService : Origin → Bool
  | .ring .. => false
  | .inject _ => false
  | _ => true

def linkDrops (s : State) (m : Fin 16) : Nat :=
  let c := s.net.macs[m]
  (s.net.nts.requests.filter fun q => decide (q.frame.mac = m)).length +
  (s.net.ptp.requests.filter fun q => decide (q.frame.mac = m)).length +
  (c.calendar.filter fun r => isService r.origin).length +
  ((fins 32).foldl (fun n q => n + (c.queues[q].frames.filter fun f => isService f.origin).length) 0) +
  (match c.tx with
   | some (.timed r _) => if isService r.origin then 1 else 0
   | some (.untimed _ f _ _) => if isService f.origin then 1 else 0
   | none => 0)

/-- Every untimed frame of a MAC ends with `outcome`. -/
def dropQueues (m : Fin 16) (outcome : Nat) (s : State) : State :=
  let s' := forAll (fins 32) (fun q t =>
    forAll s.net.macs[m].queues[q].frames
      (fun f u => hostDrop f.origin m.val f.length 0 outcome u) t) s
  let empty := fun (_ : Fin 32) (x : EgressQueue) =>
    { x with frames := [], deficit := 0,
             emptyAt := if x.frames = [] then x.emptyAt else s'.clock.ticks.toNat }
  s'.modMac m fun c => { c with queues := vmap empty c.queues }

/-- The frame in transmission is cut off. -/
def cutTx (m : Fin 16) (outcome : Nat) (s : State) : State :=
  let s' := s.modMac m fun c => { c with tx := none }
  match s.net.macs[m].tx with
  | some (.timed r _) => hostDrop r.origin m.val r.length (askedOf r) outcome s'
  | some (.untimed _ f _ _) => hostDrop f.origin m.val f.length 0 outcome s'
  | none => s'

/-- What R256 does in the instant in which a MAC leaves UP. -/
def loseLink (m : Fin 16) (s : State) : State :=
  let n := linkDrops s m
  let s := s.modMac m fun c => { c with counters := upd c.counters cLinkDrop fun k => (k + n) % 2 ^ 64 }
  let s := s.modNts fun x => { x with requests := x.requests.filter fun q => decide (q.frame.mac ≠ m) }
  let s := s.modPtp fun x => { x with requests := x.requests.filter fun q => decide (q.frame.mac ≠ m) }
  dropQueues m ocLinkDown (cutTx m ocLinkDown (dropAllOf m ocLinkDown false s))

/-- A MAC leaves UP with a reason of R255. -/
def leaveUp (m : Fin 16) (dest : MacState) (reason : Nat) (s : State) : State :=
  let s := raise 0x0502 (m.val + reason * 256) 0 s
  let s := if reason = 4 then countMac m cLinkFault s else s
  loseLink m (s.modMac m fun c => { c with state := dest, downReason := reason, lpi := .active, markers := none })

/-- The transmit path is awake. -/
def awake (s : State) (m : Fin 16) : Bool :=
  match s.net.macs[m].lpi with
  | .active => true
  | .asleep => false
  | .waking => decide (s.net.macs[m].lpiReady ≤ calNow s)

/-! ### Token debt (10 R284, R285) -/

/-- Tokens in 2^-16 B at the present tick, up to BURST. RATE is in kb/s: 125 B/s each. -/
def tokensNow (s : State) (x : EgressQueue) : Int :=
  if x.cfg.cls = 1 then
    min (x.cfg.burst * 65536 : Nat)
      (x.tokens + (x.cfg.rate * 125 * 65536 * (s.clock.ticks.toNat - x.tokensAt) / 10 ^ 9 : Nat))
  else x.tokens

/-- A queue with its tokens brought to the present tick. -/
def settleTokens (s : State) (x : EgressQueue) : EgressQueue :=
  { x with tokens := tokensNow s x, tokensAt := s.clock.ticks.toNat }

/-- The debt is never deeper than MAX_FRAME + OVERHEAD. -/
def clipDebt (s : State) (c : Mac) : Mac :=
  let lim : Int := -((c.cfg.maxFrame + c.overhead) * 65536 : Nat)
  let f := fun (_ : Fin 32) (x : EgressQueue) =>
    let y := settleTokens s x
    { y with tokens := max lim y.tokens }
  { c with queues := vmap f c.queues }

end Sys2Proof.Machine
end

