-- ==== Sys2Proof/Machine/PowerOps.lean ====
section
/-! DEFINITION. Pace and speed modes as other areas use them (01 R44 to R49): the pace-lead event and the
figures in force. -/

namespace Sys2Proof.Machine

def pathCode : Path → Nat
  | .nts => 0
  | .ptp => 1
  | .sched => 2

def pathLeads (s : State) : Path → Bool
  | .nts => s.power.leadNts
  | .ptp => s.power.leadPtp
  | .sched => s.power.leadSched

def setLead (p : Path) (b : Bool) (s : State) : State :=
  s.modPower fun w => match p with
    | .nts => { w with leadNts := b }
    | .ptp => { w with leadPtp := b }
    | .sched => { w with leadSched := b }

/-- The pace-lead event of a path, once when the excess over the floor begins and once when it ends. -/
def judgePath (p : Path) (s : State) : State :=
  let excess := decide (floorOf (ruleMode s) < paceLead s p)
  if excess = pathLeads s p then s
  else raise 0x0103 (pathCode p + (if excess then 256 else 0)) (launchLead s p) (setLead p excess s)

def judgePace (s : State) : State := judgePath .sched (judgePath .ptp (judgePath .nts s))

/-- The NTS rates of a mode, transactions and AES blocks in a second with all rated engines, and the PTP
event-message budget (01 R45). -/
def ntsRate : SpeedMode → Nat
  | .sprint => 64000000
  | .balanced => 48000000
  | .quiet => 28000000

def blockRate (m : SpeedMode) : Nat := 80 * ntsRate m

def ptpBudget : SpeedMode → Nat
  | .quiet => 20000000
  | _ => 32000000

end Sys2Proof.Machine
end

