-- ==== Sys2Proof/Machine/EgressOps.lean ====
section
/-! DEFINITION. Egress as other areas use it (10): how a host frame is queued or reserved, windows of a gate list,
and the choice of the next untimed frame. -/

namespace Sys2Proof.Machine

/-! ### Windows of a gate list (10 R289) -/

/-- The intervals of one cycle: gates and length in nanoseconds; the last entry fills the cycle. -/
def cycleIntervals (left : Nat) : List GateEntry → List (Nat × Nat)
  | [] => []
  | [e] => [(e.gates, left)]
  | e :: e' :: es =>
    if left ≤ e.interval then [(e.gates, left)]
    else (e.gates, e.interval) :: cycleIntervals (left - e.interval) (e' :: es)

/-- The longest run of open intervals. -/
def longestRun (q : Nat) : List (Nat × Nat) → Nat → Nat → Nat
  | [], cur, best => max cur best
  | (g, n) :: l, cur, best =>
    if g / 2 ^ q % 2 = 1 then longestRun q l (cur + n) best else longestRun q l 0 (max cur best)

/-- The longest window of a queue in a list, in nanoseconds; none where it never closes. -/
def longestWindow (l : GateList) (q : Nat) : Option Nat :=
  let c := cycleIntervals l.cycle l.entries
  if c.all (fun x => decide (x.1 / 2 ^ q % 2 = 1)) then none else some (longestRun q (c ++ c) 0 0)

/-! ### Queues -/

def modQ (m : Fin 16) (q : Fin 32) (f : EgressQueue → EgressQueue) (s : State) : State :=
  s.modMac m fun c => { c with queues := upd c.queues q f }

/-- A frame enters a queue. -/
def pushFrame (m : Fin 16) (q : Fin 32) (f : QFrame) : State → State :=
  modQ m q fun x => { x with frames := x.frames ++ [f] }

/-- The share of host-originated timed frames has a place (01 R35). -/
def hostShare (s : State) : Bool := decide (inFlight s isHost < 128)

/-- A timed host frame asks for its slot (10 R279); none where it lies beyond the horizon. -/
def hostReserve (m : Fin 16) (requester launchAt length : Nat) (o : Origin) (data : Nat) (s : State) :
    Option State :=
  (reserve { mac := m, queue := 2, requester := requester,
             tReq := max (launchAt * calZt) (earliest s 14 8 s.power.paceHost), length := length,
             origin := o, reply := { kind := 8, asked := launchAt }, data := data } s).map
    fun x => countAdmitted 5 x.2

/-- A MAC index that names a MAC which is present and not OFF. -/
def liveMac (s : State) (n : Nat) : Option (Fin 16) :=
  (asFin 16 n).filter fun m => macPresent s m && decide (s.net.macs[m].state ≠ .off)

/-! ### Untimed traffic (10 R282 to R284) -/

/-- The instant at which an untimed frame could begin now: the next block boundary. -/
def startNow (s : State) (m : Fin 16) : Nat := gridCeil (grid s m) s.net.macs[m].gridPhase (calNow s)

/-- R282: a queue of class `cls` (1 PACED, 2 BULK) is eligible. -/
def eligible (s : State) (m : Fin 16) (cls : Nat) (q : Fin 32) : Bool :=
  let c := s.net.macs[m]
  let x := c.queues[q]
  decide (x.cfg.cls = cls) && decide (x.frames ≠ []) && gateOpen c q.val (startNow s m) &&
  decide (pausedAt s c q (startNow s m) = none) && (decide (cls ≠ 1) || decide (0 ≤ tokensNow s x))

def headCost (s : State) (m : Fin 16) (q : Fin 32) : Nat :=
  match s.net.macs[m].queues[q].frames with
  | [] => 0
  | f :: _ => cost s m f.length

/-- R282, R289: the head's occupancy ends before the next reservation's and within its window. -/
def headFits (s : State) (m : Fin 16) (q : Fin 32) : Bool :=
  let c := s.net.macs[m]
  match c.queues[q].frames with
  | [] => false
  | f :: _ =>
    let a := startNow s m
    let d := occupancy s m f.length
    c.calendar.all (fun r => decide (r.stop ≤ a) || decide (a + d ≤ r.start)) && gateFits c q.val a d

def nextQueue (q : Fin 32) : Fin 32 := ⟨(q.val + 1) % 32, Nat.mod_lt _ (by decide)⟩

/-- A queue's turn: it gains QUANTUM once, up to the limit of R283. -/
def gain (s : State) (m : Fin 16) (q : Fin 32) (gained : Bool) (x : EgressQueue) : Nat :=
  if gained then x.deficit
  else
    let lim := x.cfg.quantum + s.net.macs[m].cfg.maxFrame + s.net.macs[m].overhead
    min lim (s.net.macs[m].queues[q].deficit + x.cfg.quantum)

/-- Steps of a round: the deepest head takes 9,471 ÷ 64 visits of each queue. -/
def drrFuel (s : State) (m : Fin 16) : Nat := 32 * 150 + s.net.macs[m].overhead

/-- The gap that the queue in turn cannot use goes to the queues that follow it, each charged as usual:
the queue whose head starts, with the state after the visits. -/
def offerGap (m : Fin 16) (cls : Nat) (turn : Fin 32) :
    Nat → Fin 32 → Bool → State → Option (Fin 32 × State)
  | 0, _, _, _ => none
  | n + 1, q, gained, s =>
    if q = turn ∨ !eligible s m cls q ∨ !headFits s m q then
      offerGap m cls turn n (nextQueue q) false s
    else
      let d := gain s m q gained s.net.macs[m].queues[q]
      let s := modQ m q (fun x => { x with deficit := d }) s
      if headCost s m q ≤ d then some (q, s) else offerGap m cls turn n (nextQueue q) false s

def roundOf (cls : Nat) (c : Mac) : Drr := if cls = 1 then c.paced else c.bulk

def setRound (m : Fin 16) (cls : Nat) (r : Drr) (s : State) : State :=
  s.modMac m fun c => if cls = 1 then { c with paced := r } else { c with bulk := r }

/-- R283: the queue of the class whose head starts now, with the state after the visits. -/
def pickQueue (m : Fin 16) (cls : Nat) : Nat → Fin 32 → Bool → State → Option (Fin 32 × State)
  | 0, _, _, _ => none
  | n + 1, q, gained, s =>
    if !eligible s m cls q then pickQueue m cls n (nextQueue q) false s
    else
      let d := gain s m q gained s.net.macs[m].queues[q]
      let s := modQ m q (fun x => { x with deficit := d }) s
      if d < headCost s m q then pickQueue m cls n (nextQueue q) false s
      else if headFits s m q then
        some (q, setRound m cls { turn := q.val, gained := true, gap := none } s)
      else
        let (at_, g) := (roundOf cls s.net.macs[m]).gap.getD ((nextQueue q).val, false)
        if !(fins 32).any (fun p => decide (p ≠ q) && eligible s m cls p && headFits s m p) then none
        else match offerGap m cls q (drrFuel s m) ((asFin 32 at_).getD q) g s with
        | some (p, s) =>
          some (p, setRound m cls { turn := q.val, gained := true, gap := some (p.val, true) } s)
        | none => none

/-- The scheduler's choice: BULK only when no PACED queue is eligible. -/
def chooseFrame (m : Fin 16) (s : State) : Option (Nat × Fin 32 × State) :=
  let cls : Nat := if (fins 32).any (eligible s m 1) then 1 else 2
  let r := roundOf cls s.net.macs[m]
  if !(fins 32).any (eligible s m cls) then none
  else (pickQueue m cls (drrFuel s m) ((asFin 32 r.turn).getD 0) r.gained s).map fun x => (cls, x)

end Sys2Proof.Machine
end

