-- ==== Sys2Proof/Machine/KeyOps.lean ====
section
/-! DEFINITION. Keys as other areas use them (13): the live root, the gradation ladder, handles and slots. -/

namespace Sys2Proof.Machine

/-! ### Roots and the ladder (13 R340, R348, R349) -/

/-- The octets of DEVICE_ID. -/
def deviceIdBytes : Bytes := le 16 Config.deviceId

/-- The live root: the cell of the present life-cycle state, with no root pending (R340, R354). -/
def liveRoot (s : State) : Option RootCell :=
  if s.keys.rootPending then none
  else match asFin 3 s.keys.life.val with
    | some i => if s.keys.roots[i].present then some s.keys.roots[i] else none
    | none => none

/-- Ladder keys exist. -/
def ladderReady (s : State) : Bool := s.keys.ladder && (liveRoot s).isSome

/-- NTS and PTP service, SA keys, mint and import: SERVICE with its ladder, and no change of life cycle
running (R351, R353). -/
def serviceState (s : State) : Bool :=
  decide (s.keys.life = 2) && ladderReady s && s.keys.change.isNone

/-- K_d of R349. -/
def domainKey (s : State) (d : String) : Bytes :=
  match liveRoot s with
  | some c => Config.kdf c.root ("ZNR7300/" ++ d)
      (deviceIdBytes ++ le 1 s.keys.life.val ++ be 4 s.keys.rootEpoch) 256
  | none => []

def kek (s : State) (d : String) : Bytes := Config.kdf (domainKey s d) "KEK" [] 512

/-- The P-384 IMPORT and DH keys, the SA purpose and the SEAL key. -/
def importKey (s : State) : Bytes :=
  Config.reduceP384 (Config.kdf (domainKey s "PTP") "IMPORT" (be 4 s.keys.importGen) 448)

def stackDh (s : State) : Bytes := Config.reduceP384 (Config.kdf (domainKey s "STACK") "DH" [] 448)

def saKeyOf (s : State) (sa : Nat) (context : Bytes) : Bytes :=
  Config.kdf (domainKey s "PTP") "SA" (be 2 sa ++ context) 256

def sealKey (s : State) : Bytes := Config.kdf (domainKey s "STORAGE") "SEAL" [] 512

/-- The ATTEST key of a generation: 0 P-384, 1 Ed25519. -/
def attestKey (s : State) (alg gen : Nat) : Bytes :=
  if alg = 0 then
    Config.reduceP384 (Config.kdf (domainKey s "ATTEST") "P384" (be 4 gen) 448)
  else Config.kdf (domainKey s "ATTEST") "ED25519" (be 4 gen) 256

/-- KEY_ID of an ATTEST generation. -/
def attestKeyIdOf (s : State) (gen : Nat) : Nat := s.keys.rootEpoch % 65536 * 65536 + gen % 65536
def attestKeyId (s : State) : Nat := attestKeyIdOf s s.keys.attestGen

/-- The identity keys (R346). -/
def identityKey (alg : Nat) : Bytes :=
  if alg = 0 then
    Config.reduceP384 (Config.kdf Config.identitySeed "ZNR7300/ID-P384" deviceIdBytes 448)
  else Config.kdf Config.identitySeed "ZNR7300/ID-ED25519" deviceIdBytes 256

/-! ### Images of the boot flash (13 R371) -/

def imageOctets (s : State) (i : Fin 2) (a n : Nat) : Bytes :=
  s.keys.fw[i].image.readBytes (Config.imageByte i.val) a n

/-- VERSION, SECURITY_VERSION and IMAGE_HASH of a slot's header. -/
def imageVersion (s : State) (i : Fin 2) : Nat := ofLe (imageOctets s i 4 4)
def imageSecurity (s : State) (i : Fin 2) : Nat := ofLe (imageOctets s i 8 4)
def imageHash (s : State) (i : Fin 2) : Bytes := imageOctets s i 32 48

/-! ### Slots and handles (13 R357, R358) -/

def slotAt (s : State) (n : Nat) : KeySlot := (assoc s.keys.slots n).getD {}

def setSlot (n : Nat) (k : KeySlot) (s : State) : State :=
  s.modKeys fun x => { x with slots := assocSet x.slots n k }

def handleOf (s : State) (n : Nat) : Nat := (slotAt s n).alloc % 2 ^ 20 * 4096 + n

/-- The slot that a handle names: ACTIVE, with the handle's ALLOC. -/
def slotOf (s : State) (h : Nat) : Option Nat :=
  let n := h % 4096
  let k := slotAt s n
  if k.state = 1 ∧ h / 4096 = k.alloc % 2 ^ 20 then some n else none

/-- The copy that an engine reads. -/
def material (k : KeySlot) : Bytes := if k.activeB then k.copyB else k.copyA

/-- The domain whose KEK wraps a slot. -/
def domainOf (n : Nat) : Nat := if n < 40 then 0 else if n < 48 then 2 else 1
def domainName (n : Nat) : String :=
  if n < 40 then "NTS" else if n < 48 then "STACK" else "PTP"

/-- A write of key material begins: it becomes visible at its commit (R360). -/
def beginWrite (w : KeyWrite) (s : State) : State :=
  s.modKeys fun k => { k with writes := k.writes ++ [w] }

/-- Slots that are wrapped and restored at boot (R357). -/
def persistent (n : Nat) : Bool := within 32 47 n || within 64 4095 n

/-- Records that a bank of the boot flash holds (R363). -/
abbrev bankSize : Nat := 5461

/-- Bytes 0 to 15 of a record (R359). -/
def recordHead (n keyType : Nat) (copyB : Bool) (gen epoch : Nat) : Bytes :=
  le 4 0x31524B5A ++ le 2 n ++ le 1 keyType ++ le 1 (if copyB then 1 else 0) ++ le 4 gen ++ le 4 epoch

def sealRecord (s : State) (n keyType : Nat) (copyB : Bool) (gen : Nat) (m : Bytes) : Bytes :=
  Config.sivSeal (kek s (domainName n)) [deviceIdBytes ++ recordHead n keyType copyB gen s.keys.rootEpoch] [] m

/-- The top 12 bits of CHECK. -/
def check12 (sealed : Bytes) : Nat := ofLe (sealed.take 2).reverse / 16

/-- R360: the inactive copy takes the material, zero-filled to 64 B; the record is appended, verified and
journalled; the commit word switches copies; the old copy and its record are cleared. Which engine
classes may read a slot is free. -/
def commitSlot (n keyType : Nat) (m : Bytes) (s : State) : State :=
  let k := slotAt s n
  let c := !k.activeB
  let g := (k.gen + 1) % 2 ^ 32
  let full := m.take 64 ++ le (64 - m.length) 0
  let (cls, s) := freshNat s
  let new : KeySlot :=
    { copyA := if c then [] else full, copyB := if c then full else [], keyType := keyType,
      domain := domainOf n, state := 1, activeB := c, persist := persistent n, gen := g,
      alloc := k.alloc, classes := cls % 2 ^ 32 }
  let s := setSlot n new s
  if !persistent n then s
  else
    let sealed := sealRecord s n keyType c g full
    let rec_ : FlashRecord :=
      { bank := s.keys.bank, number := s.keys.position, slot := n, keyType := keyType, copyB := c,
        gen := g, epoch := s.keys.rootEpoch, sealed := sealed }
    let old := fun (f : FlashRecord) => if f.slot = n then { f with dead := true, sealed := [] } else f
    s.modKeys fun x =>
      { x with flash := x.flash.map old ++ [rec_], position := x.position + 1,
               journal := assocSet x.journal n
                 { record := s.keys.position, copyB := c, valid := true, gen := g,
                   check12 := check12 sealed } }

/-- The lowest general slot that is EMPTY and not being written (R357): no more slots are taken than are
listed. -/
def freeSlot (s : State) : Option Nat :=
  (List.range (min 4032 (s.keys.slots.length + s.keys.writes.length + 1))).findSome? fun i =>
    let n := i + 64
    if (slotAt s n).state = 0 ∧ !s.keys.writes.any (fun w => decide (w.slot = n)) then some n else none

/-- A slot is zeroised: STATE EMPTY, VALID 0, both copies and their records cleared (R360). A DAMAGED
or ACTIVE slot that is freed counts on ALLOC. -/
def zeroSlot (n : Nat) (s : State) : State :=
  let k := slotAt s n
  if k.state = 0 then s
  else
    s.modKeys fun x =>
      { x with
        slots := assocSet x.slots n { k with state := 0, copyA := [], copyB := [], alloc := (k.alloc + 1) % 2 ^ 20 }
        journal := assocErase x.journal n
        flash := x.flash.map fun f => if f.slot = n then { f with dead := true, sealed := [] } else f }

end Sys2Proof.Machine
end

