-- ==== Sys2Proof/Machine/StackOps.lean ====
section
/-! DEFINITION. The stack as other areas use it (16): members, links, how a frame is sent, and frames of
replication. -/

namespace Sys2Proof.Machine

/-- The other members, suspect ones included: STATE MEMBER or SUSPECT. -/
def otherMembers (s : State) : List (Fin 8) :=
  (fins 8).filter fun p => decide (p.val ≠ s.stack.position) && decide (2 ≤ s.stack.members[p].state)

def isPrimary (s : State) : Bool := s.stack.paired && decide (s.stack.role = 1)

/-- A device that follows the rotation schedule: standalone, or the PRIMARY of its stack. -/
def ownsRotation (s : State) : Bool := !s.stack.paired || decide (s.stack.role = 1)

/-- The position that a device has, or is to have. -/
def ownPos (s : State) : Nat := if s.stack.paired then s.stack.position else s.stack.cfg.position

/-! ### Links and keys (R435, R444) -/

abbrev linkE : Fin 2 := 0
abbrev linkW : Fin 2 := 1

def linkEnabled (s : State) (l : Fin 2) : Bool :=
  decide ((if l.val = 0 then s.stack.cfg.linkE else s.stack.cfg.linkW) = 1)

/-- A link that carries frames. -/
def linkLive (s : State) (l : Fin 2) : Bool := linkEnabled s l && s.stack.links[l].up

def otherLink (l : Fin 2) : Fin 2 := if l.val = 0 then 1 else 0

/-- The link over which a position is reached: LINK_E goes to the higher ones. -/
def linkTo (s : State) (dst : Nat) : Option (Fin 2) :=
  let l := if ownPos s < dst then linkE else linkW
  if linkLive s l then some l else if linkLive s (otherLink l) then some (otherLink l) else none

/-- The slot of the stack key, or of the pair key of two positions. -/
def stackSlot (key a b : Nat) : Nat := if key = 1 then 40 else 40 + max a b

/-- The key that a frame between this device and `peer` names is held. -/
def stackKeyHeld (s : State) (key peer : Nat) : Bool :=
  decide (key = 0) || decide ((slotAt s (stackSlot key (ownPos s) peer)).state = 1)

/-! ### Sending (R436, R437) -/

/-- The count that a KEY value's SEQUENCE comes from. -/
def seqIndex (key peer : Nat) : Fin 10 :=
  if key = 2 then ⟨2 + peer % 8, by omega⟩ else ⟨key % 2, by omega⟩

/-- A frame leaves on a link: SEQUENCE counts on, and under a key the key-management engine forms its
IV. -/
def sendOn (l : Fin 2) (type dst hops key : Nat) (payload : Bytes) (repl : Option ReplBody) (s : State) :
    State :=
  if !linkLive s l ∨ !stackKeyHeld s key dst then s
  else
    let q := s.stack.seqOut[seqIndex key dst]
    let s := s.modStack fun t => { t with seqOut := upd t.seqOut (seqIndex key dst) (· + 1) }
    let (iv, s) := if key = 0 then (le 12 0, s)
      else takeIv 0xFF (stackSlot key (ownPos s) dst) 0 s
    let f : StackFrame :=
      { type := type, src := ownPos s, dst := dst, hops := hops, key := key, term := s.stack.term,
        seq := q, iv := iv, payload := payload, repl := repl }
    s.modLink l fun k => { k with lastOut := some f }

/-- A frame to a position. -/
def sendTo (type dst key : Nat) (payload : Bytes) (repl : Option ReplBody) (s : State) : State :=
  match linkTo s dst with
  | some l => sendOn l type dst 7 key payload repl s
  | none => s

/-- TYPE and KEY of R437 of a replication frame. -/
def bodyType : ReplBody → Nat
  | .key _ => 0x23
  | .config .. => 0x21
  | .session _ => 0x22
  | .activate .. => 0x25
  | .resign _ => 0x30
  | .leave _ => 0x31

def bodyKey : ReplBody → Nat
  | .key _ => 2
  | _ => 1

/-- A replication frame to a member is sent; it waits for its acknowledgement (R446). -/
def sendRepl (body : ReplBody) (dst : Fin 8) (s : State) : State :=
  let q := s.stack.seqOut[seqIndex (bodyKey body) dst.val]
  let s := s.modStack fun t =>
    { t with frames := t.frames ++ [{ id := t.nextId, dst := dst, body := body, seqs := [q] }],
             nextId := t.nextId + 1 }
  sendTo (bodyType body) dst.val (bodyKey body) [] (some body) s

def replicate (dest : List (Fin 8)) (body : ReplBody) (s : State) : State :=
  forAll dest (fun p t => sendRepl body p t) s

/-- Position 1, where it is another member. -/
def twinOf (s : State) : List (Fin 8) := (otherMembers s).filter fun p => decide (p.val = 1)

/-- A configuration changed on position 0: rotation-configure goes to every member, the rest of R447 to
position 1. -/
def replicateConfig (opcode index : Nat) (s : State) : State :=
  if isPrimary s then
    replicate (if opcode = 0x0602 then otherMembers s else twinOf s) (.config opcode index) s
  else s

/-- The key record of a slot (R437). -/
def keyRecord (s : State) (slot state keyId retireAt : Nat) : KeyRecord :=
  let k := slotAt s slot
  { slot := slot, keyType := k.keyType, state := state, gen := k.gen, keyId := keyId,
    retireAt := retireAt, material := if state = 0 then [] else material k,
    bases := heldBases s slot keyId }

end Sys2Proof.Machine
end

