-- ==== Sys2Proof/Machine/ClientOps.lean ====
section
/-! DEFINITION. The PTP service as other areas use it (12): counters, security associations, Signaling messages,
and the parents that the client role holds. -/

namespace Sys2Proof.Machine

def modPtpAddr (i : Fin 16) (f : PtpAddress → PtpAddress) (s : State) : State :=
  s.modPtp fun p => { p with addresses := upd p.addresses i f }

def modEntry (e : Fin 16) (f : ClientEntry → ClientEntry) (s : State) : State :=
  s.modPtp fun p => { p with entries := upd p.entries e f }

/-- One of the counters of an address, in the order of `PtpAddress.counters`. -/
def countPtp (i : Fin 16) (k : Fin 27) : State → State :=
  modPtpAddr i fun a => { a with counters := upd a.counters k fun n => (n + 1) % 2 ^ 64 }

abbrev pTlvUnknown : Fin 27 := 13
abbrev pNegBacklog : Fin 27 := 14
abbrev pNegType : Fin 27 := 15
abbrev pSessionFull : Fin 27 := 16
abbrev pSessionQuota : Fin 27 := 17
abbrev pGrantReduced : Fin 27 := 18
abbrev pNegRate : Fin 27 := 19
abbrev pBudgetDeny : Fin 27 := 20
abbrev pPrevKey : Fin 27 := 21
abbrev pSaDrop : Fin 27 := 22
abbrev pCancelUnknown : Fin 27 := 23

/-- An address that is enabled and not a standby one. -/
def ptpServes (s : State) (i : Fin 16) : Bool :=
  decide (s.net.ptp.addresses[i].cfg.enable = 1) && !s.net.ptp.addresses[i].standby

/-! ### Security associations (R330 to R332) -/

def saAt (s : State) (n : Nat) : Option Sa := assoc s.net.ptp.sas n

def setSa (n : Nat) (a : Sa) (s : State) : State :=
  s.modPtp fun p => { p with sas := assocSet p.sas n a }

/-- The key that a handle of an SA names. -/
def keyOfHandle (s : State) (h : Nat) : Option (Nat × Bytes) :=
  (slotOf s h).map fun n => (n, (material (slotAt s n)).take 32)

/-- With what the messages of an SA are sealed: its CURRENT key. -/
def sealOf (s : State) (sa : Nat) : Option AuthSeal :=
  match saAt s sa with
  | none => none
  | some a =>
    if a.dropping then none
    else (keyOfHandle s a.current.handle).map fun (n, k) =>
      ⟨a.spp, a.algorithm, a.current.keyId, n, k⟩

/-- An engine in service of a class of R41: HMAC-SHA-256 for algorithm 0, AES-GMAC for 1, of either for
an unauthenticated message. Which one is free. -/
def ptpEngines (s : State) (alg : Option Nat) : List Nat :=
  let of := fun (cls base : Nat) => ((unitsOf s cls).zipIdx.filter fun x =>
    decide (x.1.state = .service)).map fun x => base + x.2
  match alg with
  | some 0 => of 2 32
  | some _ => of 3 48
  | none => of 2 32 ++ of 3 48

def pickEngine (alg : Option Nat) (s : State) : Option Nat × State :=
  let l := ptpEngines s alg
  let (n, s) := freshNat s
  (l[n % l.length]?, s)

/-! ### Signaling messages (R323, R326, R335; layouts of IEEE 1588) -/

inductive SignalTlv where
  | request (msgType : Nat) (log : Int) (duration : Nat)
  | grant (msgType : Nat) (log : Int) (duration : Nat)
  | cancel (msgType : Nat)
  | ackCancel (msgType : Nat)
deriving DecidableEq, Repr

def signalTlv : SignalTlv → Bytes
  | .request t l d => be 2 4 ++ be 2 6 ++ be 1 (t * 16) ++ be 1 (toCode 8 l) ++ be 4 d
  | .grant t l d => be 2 5 ++ be 2 8 ++ be 1 (t * 16) ++ be 1 (toCode 8 l) ++ be 4 d ++ be 1 0 ++ be 1 1
  | .cancel t => be 2 6 ++ be 2 2 ++ be 1 (t * 16) ++ be 1 0
  | .ackCancel t => be 2 7 ++ be 2 2 ++ be 1 (t * 16) ++ be 1 0

/-- A Signaling message without its authentication TLV. -/
def signalOctets (s : State) (domain port tClock tPort : Nat) (tlvs : List SignalTlv)
    (auth : Option AuthSeal) : Bytes :=
  let body := le 8 tClock ++ be 2 tPort ++ tlvs.flatMap signalTlv
  be 1 0x0C ++ be 1 0x12 ++ be 2 (34 + body.length + authLength auth) ++ be 1 domain ++ be 1 0 ++
  be 2 0x0400 ++ be 8 0 ++ be 4 0 ++ le 8 s.net.ptp.clockId ++ be 2 port ++
  be 2 s.net.ptp.signalSeq ++ be 1 5 ++ be 1 0x7F ++ body

/-- To whom a Signaling message goes: MAC, addresses, domain and port numbers, and the SA, 0xFFFF none. -/
structure SignalTo where
  address : Fin 16
  mac     : Fin 16
  wire    : Wire
  tClock  : Nat
  tPort   : Nat
  sa      : Nat

/-- A Signaling message is built, sealed and put in queue 3. Under an SA that can seal nothing it is dropped
and counted. -/
def sendSignal (d : SignalTo) (tlvs : List SignalTlv) (s : State) : State :=
  let c := s.net.ptp.addresses[d.address].cfg
  let auth := if d.sa = 0xFFFF then none else sealOf s d.sa
  if d.sa ≠ 0xFFFF ∧ auth.isNone then countPtp d.address pSaDrop s
  else if s.net.macs[d.mac].state ≠ .up then countMac d.mac cLinkDrop s
  else match pickEngine (auth.map (·.algorithm)) s with
    | (none, s) => s
    | (some engine, s) =>
      let m := signalOctets s c.domain (c.portBase + d.mac.val) d.tClock d.tPort tlvs auth
      let (o, s) := withAuth engine auth m s
      let s := s.modPtp fun p => { p with signalSeq := (p.signalSeq + 1) % 2 ^ 16 }
      pushFrame d.mac 3 { length := frameLength d.wire o.length, origin := .general d.address,
                          wire := d.wire, octets := o } s

/-- The tags of a VLAN-list entry of a MAC; 0xFF untagged. -/
def vlanTags (s : State) (m : Fin 16) (entry pcp dei : Nat) : List Tag :=
  let c := s.net.macs[m]
  if entry = 0xFF then []
  else match c.vlans[entry]? with
    | none => []
    | some ⟨o, none⟩ => [⟨0x8100, o, pcp, dei⟩]
    | some ⟨o, some i⟩ => [⟨if c.cfg.outerTpid = 0 then 0x8100 else 0x88A8, o, pcp, dei⟩, ⟨0x8100, i, 0, 0⟩]

/-! ### Parents (R335) -/

/-- The service address whose ADDRESS, VLAN and DOMAIN an entry uses. -/
def entryAddr (s : State) (e : Fin 16) : Fin 16 :=
  (asFin 16 s.net.ptp.entries[e].cfg.service).getD 0

def entryMac (s : State) (e : Fin 16) : Fin 16 :=
  (asFin 16 s.net.ptp.entries[e].cfg.mac).getD 0

/-- The frame of a message to a master; its Ethernet address is a free value until a message came. -/
def entryWire (e : Fin 16) (port : Nat) (s : State) : Wire × State :=
  let x := s.net.ptp.entries[e]
  let c := s.net.ptp.addresses[entryAddr s e].cfg
  let m := entryMac s e
  let (da, s) := match x.peerMac with
    | some a => (a, s)
    | none =>
      let (n, s) := freshNat s
      (n % 2 ^ 48, s)
  ({ da := da, sa := s.net.macs[m].cfg.macAddr.headD 0, tags := vlanTags s m c.vlan c.pcp c.dei,
     v6 := decide (c.family = 6), src := c.address, dst := x.cfg.masterIp, srcPort := port,
     dstPort := port, dscp := c.dscp, hop := c.hopLimit }, s)

/-- A Signaling message of the client role. Until an Announce came it names every port. -/
def signalMaster (e : Fin 16) (tlvs : List SignalTlv) (s : State) : State :=
  if !ptpServes s (entryAddr s e) then s
  else
    let x := s.net.ptp.entries[e]
    let (w, s) := entryWire e 320 s
    let any := decide (x.srcClock = 0 ∧ x.srcPort = 0)
    sendSignal { address := entryAddr s e, mac := entryMac s e, wire := w,
                 tClock := if any then 2 ^ 64 - 1 else x.srcClock,
                 tPort := if any then 2 ^ 16 - 1 else x.srcPort, sa := x.cfg.sa } tlvs s

def requestTlv (c : ClientCfg) (msgType : Nat) : SignalTlv :=
  .request msgType (ofCode 8 (match msgType with
    | 0 => c.syncLog
    | 9 => c.delayLog
    | _ => c.annLog)) c.duration

def askGrants (e : Fin 16) (types : List Nat) (s : State) : State :=
  signalMaster e (types.map (requestTlv s.net.ptp.entries[e].cfg)) s

/-- A clock identity as it is compared: first octet highest. -/
def identityOrder (n : Nat) : Nat := ofLe (le 8 n).reverse

/-- What the masters are ordered by, the lowest first; a master that is lost comes last. -/
def masterKey (s : State) (e : Fin 16) : List Nat :=
  let x := s.net.ptp.entries[e]
  match x.announce with
  | none => [256]
  | some a => [a.clockClass, a.clockAccuracy, a.variance, a.priority2, x.cfg.priority, a.steps,
      identityOrder a.grandmaster, e.val]

def lexLess : List Nat → List Nat → Bool
  | a :: as, b :: bs => if a = b then lexLess as bs else decide (a < b)
  | [], _ :: _ => true
  | _, [] => false

def betterMaster (s : State) (a b : Fin 16) : Bool := lexLess (masterKey s a) (masterKey s b)

def goodMaster (x : ClientEntry) : Bool :=
  match x.announce with
  | some a => decide (a.clockClass < 248) && !x.authBad
  | none => false

def eligibleMaster (s : State) (e : Fin 16) : Bool :=
  let x := s.net.ptp.entries[e]
  decide (x.cfg.enable = 1) && ptpServes s (entryAddr s e) && goodMaster x && !x.denied

/-- A parent that stays: a lost one until a better master displaces it. -/
def keepsParent (s : State) (e : Fin 16) : Bool :=
  let x := s.net.ptp.entries[e]
  decide (x.cfg.enable = 1) && ptpServes s (entryAddr s e) && (x.announce.isNone || goodMaster x)

def firstBy (better : Fin 16 → Fin 16 → Bool) : List (Fin 16) → Option (Fin 16)
  | [] => none
  | e :: es => match firstBy better es with
    | none => some e
    | some f => if better e f then some e else some f

def parents (s : State) : List (Fin 16) :=
  (fins 16).filter fun e => s.net.ptp.entries[e].ptpu.isSome

/-- The reference of a PTPU. -/
def ptpuRef (u : Fin 4) : Fin 20 := ⟨15 + u.val, by omega⟩

def parentSelected (s : State) (e : Fin 16) : Bool :=
  match s.net.ptp.entries[e].ptpu with
  | some u => decide (s.refs[ptpuRef u].state = .selected)
  | none => false

def modPtpu (u : Fin 4) (f : Ptpu → Ptpu) (s : State) : State :=
  s.modPtp fun p => { p with ptpus := upd p.ptpus u f }

def parentEvent (code : Nat) (e : Fin 16) (u : Fin 4) : State → State :=
  raise code (e.val + (ptpuRef u).val * 256) 0

/-- A parent is released: its PTPU enters OFF at the next evaluation. -/
def releaseParent (e : Fin 16) (s : State) : State :=
  match s.net.ptp.entries[e].ptpu with
  | none => s
  | some u =>
    let s := modEntry e (fun x => { x with ptpu := none, syncs := [], t3 := none, t4 := none }) s
    let s := modPtpu u (fun _ => {}) s
    addAct (.ptpu (ptpuRef u) false) none (parentEvent 0x0721 e u s)

/-- A parent is taken at the lowest free index (02 R63); Sync and Delay_Resp are asked of it. -/
def takeParent (e : Fin 16) (s : State) : State :=
  match (fins 4).find? fun u => s.net.ptp.ptpus[u].entry.isNone with
  | none => s
  | some u =>
    let s := modEntry e (fun x => { x with ptpu := some u }) s
    let s := modPtpu u (fun _ => { entry := some e }) s
    askGrants e [0, 9] (addAct (.ptpu (ptpuRef u) true) none (parentEvent 0x0720 e u s))

/-- One change of the parents; none where nothing changes. -/
def parentStep (s : State) : Option State :=
  let held := parents s
  let worst := firstBy (fun a b => betterMaster s b a) (held.filter fun e => !parentSelected s e)
  let best := firstBy (betterMaster s) ((fins 16).filter fun e =>
    eligibleMaster s e && s.net.ptp.entries[e].ptpu.isNone)
  match held.find? (fun e => !keepsParent s e) with
  | some e => some (releaseParent e s)
  | none =>
    if s.net.ptp.client.maxParents < held.length then worst.map fun w => releaseParent w s
    else match best with
      | none => none
      | some e =>
        if held.length < s.net.ptp.client.maxParents then some (takeParent e s)
        else match worst with
          | some w => if betterMaster s e w then some (takeParent e (releaseParent w s)) else none
          | none => none

def settleParentsFor : Nat → State → State
  | 0, s => s
  | n + 1, s => match parentStep s with
    | some t => settleParentsFor n t
    | none => s

/-- The client role holds the best MAX_PARENTS eligible masters. -/
def settleParents (s : State) : State := settleParentsFor (64 + s.net.ptp.sessions.length) s

/-- A parent is lost (02 R63). -/
def loseParent (e : Fin 16) (s : State) : State :=
  match s.net.ptp.entries[e].ptpu with
  | none => s
  | some u =>
    let s := modEntry e (fun x =>
      { x with announce := none, syncs := [], t3 := none, t4 := none, lost := (x.lost + 1) % 2 ^ 64 }) s
    settleParents (addReason (ptpuRef u) 2 (parentEvent 0x0722 e u s))

/-- A PTPU enters MONITOR with the RANK and ASYM_UNC of its entry (R334). -/
def joinPtpu (i : Fin 20) (s : State) : State :=
  let s := toMonitor i s
  match (fins 4).find? fun u => decide (u.val + 15 = i.val) with
  | none => s
  | some u => match s.net.ptp.ptpus[u].entry with
    | none => s
    | some e =>
      let c := s.net.ptp.entries[e].cfg
      (s.modRef i fun r => { r with mon := { r.mon with rank := c.rank } }).modMargin fun m =>
        { m with asymUnc := m.asymUnc.set u c.asymUnc }

end Sys2Proof.Machine
end

