-- ==== Sys2Proof/Machine/References.lean ====
section
/-! DEFINITION. The references: their commands, their monitors, the evaluation of 02 R78 and the staged
switch. -/

namespace Sys2Proof.Machine

/-! ### Configuration -/

/-- 02 R53. -/
def refinTable : Table RefinCfg where
  flds := [one 1, one 1, one 1, one 6, one 1, one 4, one 8, one 1, one 1, one 8, one 8]
  rows c := [[c.format], [c.term], [c.kind], [c.nominal], [c.edge], [c.divider], [c.pulseOffset],
    [c.atomic], [c.companion], [c.timeUnc], [c.freqUnc]]
  ofRows r := { format := val r 0, term := val r 1, kind := val r 2, nominal := val r 3,
                edge := val r 4, divider := val r 5, pulseOffset := val r 6, atomic := val r 7,
                companion := val r 8, timeUnc := val r 9, freqUnc := val r 10 }

/-- INDEX 0 to 12 names a REFIN or the XO. -/
def refinIndex (n : Nat) : Option (Fin 20) := if n ≤ 12 then asFin 20 n else none

/-- The rules of R53 and R54 on the configuration that the reference would hold. -/
def refinValid (c : RefinCfg) (sel : Nat → Bool) : Bool :=
  decide (c.format ≤ 3) && decide (c.term ≤ 1) && decide (c.kind ≤ 1) && decide (c.edge ≤ 1) &&
  (if c.kind = 1 then decide (c.nominal = 500) || decide (c.nominal = 1000)
   else within 500 (if c.format = 0 then 800000000000 else 250000000000) c.nominal) &&
  within 1 65536 c.divider && decide (c.nominal ≤ 10000000000 * c.divider) &&
  (decide (c.kind = 0) || decide (c.divider = 1)) &&
  withinInt (-32768000000000) 32768000000000 (ofCode 64 c.pulseOffset) &&
  decide (c.atomic ≤ 3) && (decide (c.companion ≤ 11) || decide (c.companion = 0xFF)) &&
  decide (c.timeUnc < 2 ^ 48) && decide (c.freqUnc < 2 ^ 63) &&
  !(sel 6 && decide (c.kind ≠ 1)) && !(sel 9 && decide (c.kind ≠ 1)) &&
  !(decide (c.atomic ≠ 0) && decide (c.kind ≠ 0)) &&
  !(decide (c.companion ≠ 0xFF) && decide (c.atomic = 0))

/-- The changes that R54 allows in OFF only. -/
def refinFixed (a b : RefinCfg) : Bool :=
  decide (a.kind = b.kind) && decide (a.nominal = b.nominal) && decide (a.divider = b.divider) &&
  decide (a.atomic = b.atomic) && decide (a.companion = b.companion)

/-- Atomic-class REFINs other than `i` (R55). -/
def otherAtomics (s : State) (i : Fin 20) : Nat :=
  ((fins 20).filter fun j => decide (j ≠ i) && atomicClass s j).length

/-- The conditions of R56 on a companion. -/
def companionOk (s : State) (i : Fin 20) (n : Nat) : Bool :=
  match asFin 20 n with
  | some k =>
    let r := s.refs[k]
    decide (k ≠ i) && decide (r.state = .off) && decide (r.cfg.kind = 1) &&
    decide (r.cfg.atomic = 0) &&
    !(fins 20).any fun j => decide (j ≠ i) && decide (s.refs[j].cfg.companion = n)
  | none => false

/-- The companion flags follow the configurations (R56). -/
def markCompanions (s : State) : State :=
  { s with refs := vmap (fun k r =>
      { r with companion := (fins 20).any fun j => decide (s.refs[j].cfg.atomic ≠ 0) &&
                  decide (s.refs[j].cfg.companion = k.val) }) s.refs }

def execReferenceConfigure (r : Req) (g : GReq) (s : State) : Out :=
  runConfig 0x0201 refinTable.flds r g
    (fun s => (refinIndex g.index).map fun i => refinTable.rows (refinOf s.refs[i]))
    (fun rows s => match refinIndex g.index with
      | none => .error eRange
      | some i => do
        let x := s.refs[i]
        let set := x.cfgSet ||| g.mask
        let c := refinOf { x with cfg := refinTable.ofRows rows, cfgSet := set }
        need (refinValid c (selects g)) eRange
        need (decide (i ≠ xoRef)) eState
        need (decide (x.state = .off) || refinFixed c (refinOf x)) eState
        need (decide (c.companion = 0xFF) || decide (c.companion = x.cfg.companion) ||
          companionOk s i c.companion) eState
        need (!(decide (c.atomic ≠ 0) && decide (4 ≤ otherAtomics s i))) eNoSpace
        let s := s.modRef i fun y => { y with cfg := refinTable.ofRows rows, cfgSet := set }
        let s := s.modDuctus fun d =>
          { d with members := upd d.members i fun m => { m with drift := 0, learned := 0 } }
        pure (markCompanions s)) s

def execReferenceConfigureReadBack (r : Req) (index : Nat) (s : State) : Out :=
  runReadBack 0x0281 refinTable.flds r index
    (fun s => (refinIndex index).map fun i => refinTable.rows (refinOf s.refs[i])) s

/-- 02 R71. -/
def monTable : Table MonCfg where
  flds := [one 4, one 4, one 4, one 8, one 8, one 2, one 4, one 8, one 8, one 8, one 4, one 1]
  rows c := [[c.actLoss], [c.actRestore], [c.freqGate], [c.freqAccept], [c.freqReject],
    [c.qualTime], [c.phaseAvg], [c.phaseWindow], [c.phaseStep], [c.pathStep], [c.pathStable],
    [c.rank]]
  ofRows r := { actLoss := val r 0, actRestore := val r 1, freqGate := val r 2,
                freqAccept := val r 3, freqReject := val r 4, qualTime := val r 5,
                phaseAvg := val r 6, phaseWindow := val r 7, phaseStep := val r 8,
                pathStep := val r 9, pathStable := val r 10, rank := val r 11 }

/-- R68: a gate holds at least four divided edges or measurements. -/
def gateHolds (s : State) (i : Fin 20) (gate : Nat) : Bool :=
  match refKind i with
  | .refin => decide (4000000 * (refinOf s.refs[i]).divider ≤ gate * s.refs[i].cfg.nominal)
  | .xo => decide (4000000 * (refinOf s.refs[i]).divider ≤ gate * s.refs[i].cfg.nominal)
  | .gnss => match asFin 2 (i.val - 13) with
    | some p => decide (4 * s.gnss.ports[p].fix.interval ≤ gate)
    | none => true
  | .ptpu => decide (4 * s.net.ptp.client.measInterval ≤ gate)
  | .stack => decide (400 ≤ gate)

def monValid (c : MonCfg) : Bool :=
  within 1 255 c.actLoss && within 1 255 c.actRestore && within 10 1000000 c.freqGate &&
  within 1152922 1152921504606847 c.freqAccept && within 2305843 2305843009213694 c.freqReject &&
  decide (c.freqAccept < c.freqReject) && within 1 65535 c.qualTime &&
  within 100 100000 c.phaseAvg && within 65536 65536000000 c.phaseWindow &&
  within 65536 65536000000 c.phaseStep && within 655360 6553600000 c.pathStep &&
  within 1 3600 c.pathStable && decide (c.rank ≤ 15)

def execMonitorConfigure (r : Req) (g : GReq) (s : State) : Out :=
  runConfig 0x0202 monTable.flds r g
    (fun s => (asFin 20 g.index).map fun i => monTable.rows (monOf s i))
    (fun rows s => match asFin 20 g.index with
      | none => .error eRange
      | some i => do
        let c := monTable.ofRows rows
        need (monValid c && gateHolds s i c.freqGate) eRange
        pure (s.modRef i fun x => { x with mon := c, monSet := x.monSet ||| g.mask })) s

def execMonitorConfigureReadBack (r : Req) (index : Nat) (s : State) : Out :=
  runReadBack 0x0282 monTable.flds r index
    (fun s => (asFin 20 index).map fun i => monTable.rows (monOf s i)) s

/-- 02 R72. -/
def selTable : Table SelCfg where
  flds := [one 1, one 4, one 4, one 8]
  rows c := [[c.revertive], [c.wtr], [c.switchMeas], [c.switchSlew]]
  ofRows r := { revertive := val r 0, wtr := val r 1, switchMeas := val r 2, switchSlew := val r 3 }

def selValid (c : SelCfg) : Bool :=
  decide (c.revertive ≤ 1) && decide (c.wtr ≤ 3600) && within 100 100000 c.switchMeas &&
  within 6554 65536000 c.switchSlew

/-- The device-wide INDEX (15 R409). -/
def wide (n : Nat) : Bool := decide (n = 0xFFFF)

def execSelectionConfigure (r : Req) (g : GReq) (s : State) : Out :=
  runConfig 0x0203 selTable.flds r g
    (fun s => if wide g.index then some (selTable.rows s.sel.cfg) else none)
    (fun rows s => do
      need (selValid (selTable.ofRows rows)) eRange
      pure (s.modSel fun x => { x with cfg := selTable.ofRows rows })) s

def execSelectionConfigureReadBack (r : Req) (index : Nat) (s : State) : Out :=
  runReadBack 0x0283 selTable.flds r index
    (fun s => if wide index then some (selTable.rows s.sel.cfg) else none) s

/-! ### Commands that wait for the next evaluation (02 R78) -/

/-- A command whose effect waits for step 1 of the next evaluation. -/
def runAct (op len : Nat) (r : Req) (act : Option RefAct) (s : State) : Out :=
  runCommand op (r.len = len) r (fun _ s => match act with
    | some a => (addAct a (some r.src) s, .hold)
    | none => (s, .err eRange)) s

def execReferenceEnable (r : Req) (index enable : Nat) (s : State) : Out :=
  runAct 0x0204 2 r (match asFin 20 index with
    | some i => if enable ≤ 1 then some (.enable i (decide (enable = 1))) else none
    | none => none) s

def execReferenceRelease (r : Req) (index action : Nat) (s : State) : Out :=
  runAct 0x0205 2 r (match asFin 20 index with
    | some i => if action ≤ 2 then some (.release i action) else none
    | none => none) s

def execReferenceReject (r : Req) (index : Nat) (s : State) : Out :=
  runAct 0x0206 1 r ((asFin 20 index).map .reject) s

def execForceSelect (r : Req) (index : Nat) (s : State) : Out :=
  runAct 0x0207 1 r (if index = 0xFF then some (.force none)
    else (asFin 20 index).map fun i => .force (some i)) s

/-- 14 R404, R406: the selection hook of the calling task. -/
def execSelectionHook (r : Req) (action : Nat) (s : State) : Out :=
  runCommand 0x0209 (r.len = 1) r (fun _ s => match r.src with
    | .task t =>
      if action = 1 then (s.modSel fun x => { x with hookTask := some t, hookOverruns := 0 }, .ok [])
      else if action = 0 then
        (if s.sel.hookTask = some t then s.modSel (fun x => { x with hookTask := none }) else s,
         .ok [])
      else (s, .err eRange)
    | _ => (s, .err eState)) s

/-- The flags of a reference-status record (15 R417). -/
def refFlags (r : Ref) : Nat :=
  flag r.contributing 0 + flag r.companion 1 + flag r.hostLatch 2 + flag r.disagree 3

/-- 15 R417. -/
def refRecord (s : State) (i : Fin 20) : Bytes :=
  let r := s.refs[i]
  le 1 i.val ++ le 1 (refCode r.state) ++ le 1 (reasonOf r) ++ le 1 r.mon.rank ++
  le 2 (min 65535 r.qualTimer) ++ le 2 (refFlags r) ++ le 8 (optCode r.freq) ++
  le 8 (optCode r.measured) ++ le 8 (optCode r.predicted) ++
  le 8 (if s.sel.target = some i then toCode 64 s.ductus.b else 0)

def execReferenceStatus (r : Req) (first count : Nat) (s : State) : Out :=
  runRead 0x0210 (r.len = 2) r (fun s =>
    if within 1 20 count && decide (first + count ≤ 20) then
      .ok (((fins 20).filter fun i => decide (first ≤ i.val) && decide (i.val < first + count)).flatMap
        (refRecord s))
    else .error eRange) s

/-! ### Applying the commands -/

/-- OFF to MONITOR with the Nib channels that a REFIN needs (02 R58, R76). -/
def enableRef (i : Fin 20) (s : State) : Except Nat State := do
  let r := s.refs[i]
  need (decide (r.state = .off) && !r.companion) eState
  match refKind i with
  | .refin =>
    match takeChannel ownReference i.val i.val r.cfg.edge s with
    | none => .error eNoSpace
    | some (c, s1) =>
      let s1 := toMonitor i (s1.modRef i fun x => { x with channel := some c })
      match asFin 20 r.cfg.companion with
      | some k =>
        if r.cfg.atomic = 0 then pure s1
        else match takeChannel ownCompanion i.val k.val s.refs[k].cfg.edge s1 with
          | some (c2, s2) => pure (s2.modRef i fun x => { x with compChannel := some c2 })
          | none => .error eNoSpace
      | none => pure s1
  | .gnss => pure (toMonitor i s)
  | _ => .error eState

/-- Whether a HELD reference would be the best candidate (02 R91). -/
def wouldBeBest (s : State) (i : Fin 20) : Bool :=
  match forcedNow s with
  | some _ => false
  | none => timeBearing s i && decide (uncOf s i < unbounded) &&
      decide (bestOf s ((candidates s).filter (fun j => decide (j ≠ i)) ++ [i]) = some i)

/-- One act against the state that the reference holds now (02 R76, R78, R91). -/
def applyAct (a : RefAct) (s : State) : Except Nat State :=
  match a with
  | .enable i true => enableRef i s
  | .enable i false => do
    need (decide (s.refs[i].state ≠ .off) && decide (i ≠ xoRef)) eState
    pure (toOff i s)
  | .release i action => do
    need (decide (s.refs[i].state = .held)) eState
    if action = 0 then pure (setRef i .qualified s)
    else if action = 1 then do
      need ((decide (s.ductus.state = .coast) || decide (s.ductus.state = .rejoin)) &&
        wouldBeBest s i && s.clock.rebase.isNone) eState
      let (o, s) := averagedOffset i s
      pure ((setRef i .qualified s).modClock fun c => { c with rebase := some ⟨i, o⟩ })
    else pure (setRef i .rejected (addReason i 1 (s.modRef i fun x => { x with hostLatch := true })))
  | .reject i => do
    need (decide (s.refs[i].state ≠ .off)) eState
    pure (addReason i 1 (s.modRef i fun x => { x with hostLatch := true }))
  | .force none => pure (s.modSel fun x => { x with forced := none })
  | .force (some i) => do
    need (candidate s i) eState
    pure (s.modSel fun x => { x with forced := some i })
  | .ptpu i true => pure (if s.refs[i].state = .off then joinPtpu i s else s)
  | .ptpu i false => pure (if s.refs[i].state = .off then s else toOff i s)

/-! ### The evaluation (02 R78) -/

/-- The changes of state between two states, in index order. -/
def changesOf (old new : State) : List RefChange :=
  (fins 20).filterMap fun i =>
    if old.refs[i].state = new.refs[i].state then none
    else some ⟨i, old.refs[i].state, new.refs[i].state, reasonOf new.refs[i]⟩

/-- A stage of the evaluation with the changes noted so far. -/
def staged (f : State → State) (x : State × List RefChange) : State × List RefChange :=
  let s := f x.1
  (s, x.2 ++ changesOf x.1 s)

/-- Step 1: each waiting command is judged, applied and answered. -/
def stepActs (x : State × List RefChange) : State × List RefChange :=
  let acts := x.1.sel.acts
  acts.foldl (fun y a =>
    match applyAct a.act y.1 with
    | .ok s' =>
      let s'' := match a.source with
        | some src => finish src stOk [] s'
        | none => s'
      (s'', y.2 ++ changesOf y.1 s')
    | .error e =>
      (match a.source with
        | some src => finish src e [] y.1
        | none => y.1, y.2))
    (x.1.modSel (fun z => { z with acts := [] }), x.2)

/-- Step 2: MONITOR, QUALIFIED, SELECTED and HELD with a reject condition become REJECTED. -/
def stepRejects (s : State) : State :=
  forAll ((fins 20).filter fun i => decide (s.refs[i].state ≠ .off) &&
      decide (s.refs[i].state ≠ .rejected) && decide (s.refs[i].reasons ≠ 0))
    (fun i t => restartTimer i (setRef i .rejected t)) s

/-- Whether the frequency monitor of a reference binds it: not the XO's in FREE or ACQUIRE (R61). -/
def freqBinds (s : State) (i : Fin 20) : Bool :=
  !(decide (i = xoRef) && (decide (s.ductus.state = .free) || decide (s.ductus.state = .acquire)))

def freqAccepted (s : State) (i : Fin 20) : Bool :=
  decide (s.refs[i].verdict = .accept) || !freqBinds s i

/-- Step 3: REJECTED with nothing left against it returns to MONITOR (R76). -/
def stepClears (s : State) : State :=
  forAll ((fins 20).filter fun i => decide (s.refs[i].state = .rejected) &&
      decide (s.refs[i].reasons = 0) && freqAccepted s i && !s.refs[i].hostLatch)
    (fun i t => restartTimer i (setRef i .monitor t)) s

/-- Ductus states in which a time-bearing reference must fall within PHASE_WINDOW (R76). -/
def windowed (s : State) : Bool :=
  match s.ductus.state with
  | .locked => true
  | .coast => true
  | .rejoin => true
  | _ => false

/-- Step 4 for one reference: QUALIFIED, or HELD outside PHASE_WINDOW. -/
def qualify (i : Fin 20) (s : State) : State :=
  let r := s.refs[i]
  if timeBearing s i && windowed s then
    match r.measured, r.predicted with
    | some m, some p =>
      if (m - p).natAbs ≤ r.mon.phaseWindow then setRef i .qualified s else setRef i .held s
    | _, _ => s
  else setRef i .qualified s

def stepQualify (s : State) : State :=
  forAll ((fins 20).filter fun i => decide (s.refs[i].state = .monitor) && s.refs[i].qualDone)
    qualify s

/-- A better candidate than the target `t` of a switch (R86, R90): strictly lower RANK, or the forced
one. -/
def betterTarget (s : State) (t : Fin 20) : Option (Fin 20) :=
  match forcedNow s with
  | some f => if f = t then none else some f
  | none => bestOf s ((candidates s).filter fun c =>
      decide (s.refs[c].mon.rank < s.refs[t].mon.rank))

/-- A switch in progress: it goes on, is retargeted, or is abandoned (R86, R90). -/
def followSwitch (t : Fin 20) (s : State) : State :=
  if candidate s t && !(vetoed s t) &&
      (decide (s.sel.stage = .measure) || decide (s.refs[t].state = .selected)) then
    match betterTarget s t with
    | some u => retarget u s
    | none =>
      if s.sel.stage = .measure ∧ selected s = none ∧ !s.ductus.measuring then startSwitch t s
      else s
  else match preferredNow s with
    | some u => retarget u s
    | none => abandonSwitch s

/-- Selection with no switch in progress (R82, R83; 04 R141). -/
def chooseNew (s : State) : State :=
  let early := decide (s.ductus.state = .free) ||
    (decide (s.ductus.state = .acquire) && !afterHandover s)
  match selected s with
  | none => match preferredNow s with
    | some t => if early then selectNow t s else startSwitch t s
    | none => abandonSwitch s
  | some r => match forcedNow s with
    | some f => if f = r then s else if early then selectNow f s else startSwitch f s
    | none => s

/-- Step 5. A SELECTED reference that left its state is the anchor no more; while a re-base is ordered
nothing else is selected. -/
def stepSelect (s : State) : State :=
  let s := match s.ductus.anchor with
    | some a => if s.refs[a].state = RefState.selected then s else setAnchor none s
    | none => s
  let s := match s.sel.forced with
    | some f => if candidate s f then s else s.modSel fun x => { x with forced := none }
    | none => s
  if s.clock.rebase.isSome then s
  else match s.sel.stage, s.sel.target with
    | .idle, _ => chooseNew s
    | _, some t => followSwitch t s
    | _, none => chooseNew s

/-- The disagreement alarm ends once one of the two no longer contributes. -/
def dropAlarm (s : State) : State :=
  match s.sel.alarm with
  | none => s
  | some d =>
    let s := s.modSel fun x => { x with alarm := none }
    let s := s.modRef d.a fun x => { x with disagree := false }
    let s := s.modRef d.b fun x => { x with disagree := false }
    raise 0x0206 (d.a.val * 256 + d.b.val * 65536) 0 s

def stepAlarm (s : State) : State :=
  match s.sel.alarm with
  | none => s
  | some d => if qualified s.refs[d.a] && qualified s.refs[d.b] then s else dropAlarm s

/-- Step 6: the event of every change, in reference-index order. -/
def stepEvents (l : List RefChange) (s : State) : State :=
  forAll (fins 20) (fun i t =>
    forAll (l.filter fun c => decide (c.ref = i)) (fun c u => refEvent i c.old c.new c.reason u) t) s

/-- Steps 5 and 6. A change of parents that waited for the selector follows (12 R335). -/
def finishEvaluation (x : State × List RefChange) : State :=
  let y := staged (fun s => stepAlarm (stepSelect s)) x
  settleParents ((stepEvents y.2 y.1).modSel fun z => { z with waiting := none, hookAnswer := none })

/-- The hook request of 14 R407. -/
def hookRequest (s : State) : Bytes :=
  let cs := (fins 20).filter (candidate s)
  le 4 s.sel.evalSeq ++ le 1 cs.length ++
  le 1 (match selected s with
    | some i => i.val
    | none => 0xFF) ++
  le 1 (match s.sel.target with
    | some i => i.val
    | none => 0xFF) ++
  le 1 (ductusCode s.ductus.state) ++ ztBytes (now s) ++ le 8 0 ++
  cs.flatMap fun i =>
    let r := s.refs[i]
    le 1 i.val ++ le 1 (refCode r.state) ++ le 1 r.mon.rank ++ le 1 (refFlags r % 256) ++ le 4 0 ++
    le 8 (optCode r.measured) ++ le 8 (optCode r.predicted) ++ le 8 (uncOf s i)

/-- The task that waits for the hook request, with the block of its call. -/
def hookWaiter (s : State) : Option (Fin 4 × Nat) :=
  match s.sel.hookTask with
  | some t => match s.host.tasks[t].state with
    | .waitHook block => some (t, block)
    | _ => none
  | none => none

/-- R78 in its fixed order. Where a task waits for the hook, step 5 waits for its answer. -/
def execReferenceEvaluation (s : State) : Out :=
  if s.sel.waiting.isSome then .next s
  else
    let s := s.modSel fun x => { x with evalSeq := (x.evalSeq + 1) % 2 ^ 32, hookAnswer := none }
    let x := staged stepQualify (staged stepClears (staged stepRejects (stepActs (s, []))))
    match hookWaiter x.1 with
    | some (t, block) =>
      let s := dpWrite (0x04000000 + block) (hookRequest x.1) x.1
      let s := s.modTask t fun k => { k with state := .inHook, result := some ⟨stOk, block, []⟩ }
      .next (s.modSel fun z => { z with waiting := some x.2 })
    | none => .next (finishEvaluation x)

/-! ### Monitors -/

def execActivityDeadline (ref : Fin 20) (s : State) : Out := .next (refMiss ref s)

/-- The verdict of a gate (R67). -/
def verdictOf (c : MonCfg) (f : Int) : FreqVerdict :=
  if c.freqReject < f.natAbs then .reject
  else if f.natAbs ≤ c.freqAccept then .accept
  else .between

/-- The third opinion of R88: 0xFE for the ensemble. -/
def thirdOpinion (s : State) (a b : Fin 20) : Option Nat :=
  let others := (fins 20).filter fun i => decide (i ≠ a) && decide (i ≠ b) && qualified s.refs[i]
  if s.ductus.mode = 0 ∧ 2 ≤ others.length ∧ others.any (atomicClass s) then some 0xFE
  else match others.find? (atomicClass s) with
    | some i => some i.val
    | none => if others.any fun i => decide (i.val = 19) then some 19 else none

def smallerAccept (s : State) (a b : Fin 20) : Nat :=
  min (monOf s a).freqAccept (monOf s b).freqAccept

/-- The difference of two latest estimates. -/
def freqDiff (s : State) (a b : Fin 20) : Option Nat :=
  match s.refs[a].freq, s.refs[b].freq with
  | some x, some y => some (x - y).natAbs
  | _, _ => none

/-- The reference that `i` is found to disagree with over the gate that has ended (R88). -/
def disagreesWith (s : State) (i : Fin 20) : Option (Fin 20) :=
  if !qualified s.refs[i] then none
  else (fins 20).find? fun j =>
    decide (j ≠ i) && qualified s.refs[j] && decide (s.refs[i].mon.rank = s.refs[j].mon.rank) &&
    decide ((monOf s j).freqGate ≤ (monOf s i).freqGate) &&
    match freqDiff s i j with
    | some d => decide (min (monOf s i).freqReject (monOf s j).freqReject < d)
    | none => false

/-- R89: an alarm begins. -/
def raiseAlarm (i j : Fin 20) (s : State) : State :=
  let a := if i.val < j.val then i else j
  let b := if i.val < j.val then j else i
  let s := s.modSel fun x => { x with alarm := some ⟨a, b, thirdOpinion s a b, now s⟩ }
  let s := s.modRef a fun x => { x with disagree := true }
  let s := s.modRef b fun x => { x with disagree := true }
  raise 0x0205 (a.val + b.val * 256) 0 s

/-- R89 after a gate of `i`: the alarm ends when the difference is small again, or begins. -/
def watchDisagreement (i : Fin 20) (s : State) : State :=
  match s.sel.alarm with
  | some d =>
    if d.a = i ∨ d.b = i then
      match freqDiff s d.a d.b with
      | some x => if x ≤ smallerAccept s d.a d.b then dropAlarm s else s
      | none => s
    else s
  | none => match disagreesWith s i with
    | some j => raiseAlarm i j s
    | none => s

/-- A DISAGREE rejection clears once the difference from the remaining reference is small (R89). -/
def clearDisagree (s : State) : State :=
  forAll (fins 20) (fun i t => match t.refs[i].rival with
    | some j => match freqDiff t i j with
      | some x => if x ≤ smallerAccept t i j then
          clearReason i 8 (t.modRef i fun r => { r with rival := none }) else t
      | none => t
    | none => t) s

/-- The frequency monitor's estimate over the gate that ends (R67, R68): for a REFIN and the XO from the stamps of
its channel, else from the offsets measured within FREQ_GATE. -/
def gateEstimate (s : State) (i : Fin 20) : Option Int :=
  match refKind i, s.refs[i].channel with
  | .refin, some c => fromStamps c
  | .xo, some c => fromStamps c
  | .refin, none => none
  | .xo, none => none
  | _, _ =>
    let l := s.refs[i].offsets.filter fun p => decide (now s ≤ p.1 + ms16 (monOf s i).freqGate)
    if l.length < 4 then none else some (slopeOf l)
where
  fromStamps (c : Fin 24) : Option Int :=
    let ch := s.nib[c]
    let n := refinOf s.refs[i]
    if ch.gateLost || ch.gateUnlocked || decide (ch.gateStamps.length < 4) then none
    else some (slopeAgainst ch.gateStamps (n.divider * 65536 * 10 ^ 12) n.nominal)

/-- The next gate of a monitor begins. -/
def nextGate (i : Fin 20) (s : State) : State :=
  match s.refs[i].channel with
  | some c => s.modNib c fun x =>
      { x with gateStamps := [], gateFirst := 0, gateEdges := 0, gateStep := false, gateLost := false,
               gateUnlocked := false }
  | none => s

/-- The end of a gate. In SELECT mode the SELECTED reference is compared with E formed without it, from which the
device is `ensemble` away; without a guard its monitor reports nothing (04 R135). -/
def execFrequencyGateEnd (ref : Fin 20) (ensemble : Int) (s : State) : Out :=
  if s.refs[ref].state = .off then .next s
  else
    let guarded := decide (s.ductus.mode = 1) && decide (s.refs[ref].state = .selected)
    let estimate := (gateEstimate s ref).bind fun f =>
      if !guarded then some f else if guardAbsent s then none else some (f - ensemble)
    let s := nextGate ref s
    let v := match estimate with
      | some f => if freqBinds s ref then verdictOf (monOf s ref) f else .none
      | none => .none
    let s := s.modRef ref fun r => { r with freq := estimate, verdict := v }
    let s := if v = .reject then addReason ref 4 s
      else if estimate.isSome then clearReason ref 4 s else s
    let s := if v = .accept ∨ !freqBinds s ref then s else restartTimer ref s
    .next (clearDisagree (watchDisagreement ref s))

/-- R69: a change beyond PHASE_STEP between consecutive averages; one average later it has passed. -/
def execPhaseAverageEnd (ref : Fin 20) (s : State) : Out :=
  let r := s.refs[ref]
  match meanOffset s ref (ms16 r.mon.phaseAvg) with
  | none => .next s
  | some average =>
  if r.state = .off ∨ !timeBearing s ref then .next s
  else
    let s := s.modRef ref fun x => { x with lastAvg := some average, measured := some average }
    let s := clearReason ref 5 s
    match r.lastAvg with
    | some a =>
      if qualified r ∧ r.mon.phaseStep < (average - a).natAbs then .next (addReason ref 5 s)
      else .next s
    | none => .next s

/-- R76, R77: the timer reaches QUAL_TIME while every accept condition holds. -/
def execQualTimeExpiry (ref : Fin 20) (s : State) : Out :=
  let r := s.refs[ref]
  if r.state = .monitor ∧ r.active ∧ freqAccepted s ref then
    .next (s.modRef ref fun x => { x with qualTimer := (monOf s ref).qualTime, qualDone := true })
  else .next s

/-! ### Switches -/

/-- R82: a revertive switch to a candidate of strictly lower RANK. -/
def execWtrExpiry (ref : Fin 20) (s : State) : Out :=
  match selected s with
  | some r =>
    if s.sel.cfg.revertive = 1 ∧ s.sel.stage = .idle ∧ forcedNow s = none ∧ candidate s ref ∧
        s.refs[ref].mon.rank < s.refs[r].mon.rank then
      if decide (s.ductus.state = .acquire) && !afterHandover s then
        .next (stepEvents (changesOf s (selectNow ref s)) (selectNow ref s))
      else .next (startSwitch ref s)
    else .next s
  | none => .next s

/-- R84: BUILD-OUT. -/
def execSwitchMeasureEnd (s : State) : Out :=
  match s.sel.stage, s.sel.target with
  | .measure, some t =>
    if candidate s t then
      let (average, s) := averagedOffset t s
      let s' := buildOut t average s
      .next (stepEvents (changesOf s s') s')
    else .next s
  | _, _ => .next s

/-- R84: B has reached 0. -/
def execSwitchComplete (s : State) : Out :=
  match s.sel.stage, s.sel.target with
  | .slew, some t =>
    .next (raise 0x0204 t.val 0
      ((s.modSel fun x => { x with stage := .idle, target := none }).modDuctus fun d =>
        { d with b := 0 }))
  | _, _ => .next s

/-- The frequency of `i`, one of two that disagree, against the third opinion: of the ensemble formed without the
two the filter says it, of a reference the latest estimates do. -/
def opinionOf (s : State) (a b i : Fin 20) (filter : Option Int) : Option Int :=
  match (thirdOpinion s a b).bind (asFin 20) with
  | some k => match s.refs[i].freq, s.refs[k].freq with
    | some x, some y => some (x - y)
    | _, _ => none
  | none => filter

/-- R89: what the third opinion says of the two references. -/
def execDisagreementCheck (first second : Option Int) (s : State) : Out :=
  match s.sel.alarm with
  | none => .next s
  | some d =>
    match thirdOpinion s d.a d.b, opinionOf s d.a d.b d.a first, opinionOf s d.a d.b d.b second with
    | some _, some x, some y =>
      let farA := decide ((monOf s d.a).freqReject < x.natAbs)
      let farB := decide ((monOf s d.b).freqReject < y.natAbs)
      let nearA := decide (x.natAbs ≤ (monOf s d.a).freqAccept)
      let nearB := decide (y.natAbs ≤ (monOf s d.b).freqAccept)
      let out := fun (i j : Fin 20) (t : State) =>
        addReason i 8 (t.modRef i fun r => { r with rival := some j })
      if farA && farB then .next (dropAlarm (out d.a d.b (out d.b d.a s)))
      else if farA && nearB then .next (dropAlarm (out d.a d.b s))
      else if farB && nearA then .next (dropAlarm (out d.b d.a s))
      else .next (s.modSel fun z => { z with alarm := some { d with third := thirdOpinion s d.a d.b } })
    | t, _, _ => .next (s.modSel fun z => { z with alarm := some { d with third := t } })

end Sys2Proof.Machine
end

