-- ==== Sys2Proof/Machine/Ductus.lean ====
section
/-! DEFINITION. Ductus: its parameters, the clock members and their weights, the update, and the DPLL
channels (04). -/

namespace Sys2Proof.Machine

/-! ### Parameters (04 R139) -/

def ductusTable : Table DuctusCfg where
  flds := [one 1, one 4, one 4, one 4, one 8, one 8, one 4, one 8, one 1, one 8, one 4]
  rows c := [[c.mode], [c.tauEns], [c.anchorTau], [c.weightMax], [c.lockPhase], [c.lockFreq],
    [c.lockDwell], [c.rejoinSlew], [c.acqBw], [c.freeFreq], [c.guardSpan]]
  ofRows r := { mode := val r 0, tauEns := val r 1, anchorTau := val r 2, weightMax := val r 3,
                lockPhase := val r 4, lockFreq := val r 5, lockDwell := val r 6,
                rejoinSlew := val r 7, acqBw := val r 8, freeFreq := val r 9,
                guardSpan := val r 10 }

def ductusValid (c : DuctusCfg) : Bool :=
  decide (c.mode ≤ 1) && within 10 100000 c.tauEns && within 10 100000 c.anchorTau &&
  within 6554 65536 c.weightMax && within 65536 6553600000 c.lockPhase &&
  within 115292 1152921504607 c.lockFreq && within 1 3600 c.lockDwell &&
  within 6554 65536000 c.rejoinSlew && decide (c.acqBw ≤ 9) &&
  withinInt (-115292150460685) 115292150460685 (ofCode 64 c.freeFreq) &&
  within 3600 604800 c.guardSpan

/-- The configuration that a command finds: the one that waits for the next update. -/
def ductusCfg (s : State) : DuctusCfg := s.ductus.next.getD s.ductus.cfg

def execDuctusConfigure (r : Req) (g : GReq) (s : State) : Out :=
  runConfig 0x0301 ductusTable.flds r g
    (fun s => if wide g.index then some (ductusTable.rows (ductusCfg s)) else none)
    (fun rows s => do
      let c := ductusTable.ofRows rows
      need (ductusValid c) eRange
      pure (s.modDuctus fun d => { d with next := some c })) s

def execDuctusConfigureReadBack (r : Req) (index : Nat) (s : State) : Out :=
  runReadBack 0x0381 ductusTable.flds r index
    (fun s => if wide index then some (ductusTable.rows (ductusCfg s)) else none) s

/-! ### Clock models (04 R127) -/

/-- The parameters of a member's class. -/
def classModel (s : State) (i : Fin 20) : ClockModel :=
  if refKind i = .xo then
    { q1 := 0x3af357c299a88ea7, q2 := 0x3a1fb0f6be506019, driftPrior := 1152921505,
      driftTarget := 11529215, learnMin := 86400 }
  else match s.refs[i].cfg.atomic with
    | 0 => { q1 := 0x3bc79ca10c924223, q2 := 0x3a88c240c4aecb14, driftPrior := 1152921505,
             driftTarget := 11529215, learnMin := 86400 }
    | 2 => { q1 := 0x3b3e392010175ee6, q2 := 0x38e09d8792fb4c49, driftPrior := 1153,
             driftTarget := 115, learnMin := 604800 }
    | _ => { q1 := 0x3b5e392010175ee6, q2 := 0x3963789ae03e7d66, driftPrior := 2305843,
             driftTarget := 115292, learnMin := 86400 }

/-- The parameters in force: a column that the host has not set follows the class. -/
def modelOf (s : State) (i : Fin 20) : ClockModel :=
  let c := classModel s i
  match s.ductus.models[i.val]? with
  | some m =>
    { set := m.set
      q1 := if bitOf m.set 0 then m.q1 else c.q1
      q2 := if bitOf m.set 1 then m.q2 else c.q2
      driftPrior := if bitOf m.set 2 then m.driftPrior else c.driftPrior
      driftTarget := if bitOf m.set 3 then m.driftTarget else c.driftTarget
      learnMin := if bitOf m.set 4 then m.learnMin else c.learnMin }
  | none => c

def modelTable : Table ClockModel where
  flds := [one 8, one 8, one 8, one 8, one 4]
  rows c := [[c.q1], [c.q2], [c.driftPrior], [c.driftTarget], [c.learnMin]]
  ofRows r := { q1 := val r 0, q2 := val r 1, driftPrior := val r 2, driftTarget := val r 3,
                learnMin := val r 4 }

/-- Positive binary64 values are in the order of their patterns. -/
def modelValid (c : ClockModel) : Bool :=
  within 0x39b4484bfeebc2a0 0x3d719799812dea11 c.q1 &&
  within 0x37a16c262777579c 0x3c32725dd1d243ac c.q2 &&
  within 1 1152921504607 c.driftPrior && decide (c.driftTarget < c.driftPrior) &&
  within 3600 2592000 c.learnMin

def modelRows (n : Nat) (s : State) : Option Rows :=
  if n ≤ 12 then (asFin 20 n).map fun i => modelTable.rows (modelOf s i) else none

def execClockModel (r : Req) (g : GReq) (s : State) : Out :=
  runConfig 0x0302 modelTable.flds r g (modelRows g.index)
    (fun rows s => match asFin 13 g.index with
      | none => .error eRange
      | some k => do
        let c := modelTable.ofRows rows
        need (modelValid c) eRange
        pure (s.modDuctus fun d =>
          { d with models := upd d.models k fun m => { c with set := m.set ||| g.mask } })) s

def execClockModelReadBack (r : Req) (index : Nat) (s : State) : Out :=
  runReadBack 0x0382 modelTable.flds r index (modelRows index) s

/-! ### Weights (04 R131) -/

/-- A positive binary64 times 2^220. -/
def b64Scaled (p : Nat) : Nat :=
  let e := p / 2 ^ 52 % 2048
  let m := 2 ^ 52 + p % 2 ^ 52
  if 855 ≤ e then m * 2 ^ (e - 855) else m / 2 ^ (855 - e)

/-- The natural weight of a member, to scale (R128, R131): 1 ÷ σ². -/
def naturalWeight (s : State) (i : Fin 20) : Nat :=
  let t := s.ductus.cfg.tauEns
  if clockMember s i then
    let m := modelOf s i
    2 ^ 700 / (3 * b64Scaled m.q1 * t + b64Scaled m.q2 * t ^ 3)
  else
    let u := max 1 (uncOf s i)
    2 ^ 480 * 6 * 10 ^ 24 * t ^ 2 / u ^ 2

/-- R131, step 2: the weights in 1/65,536 with a cap; `held` are the members at the cap. -/
def shareOut (cap : Nat) : Nat → List (Fin 20 × Nat) → List (Fin 20 × Nat) → List (Fin 20 × Nat)
  | 0, _, held => held
  | n + 1, free, held =>
    let rem := 65536 - cap * held.length
    let total := free.foldl (fun a p => a + p.2) 0
    let capped := free.filter fun p => decide (cap * total < rem * p.2)
    if capped = [] then
      held ++ free.map fun p => (p.1, (2 * rem * p.2 + total) / (2 * total))
    else
      shareOut cap n (free.filter fun p => decide (rem * p.2 ≤ cap * total))
        (held ++ capped.map fun p => (p.1, cap))

/-- The members that carry weight: those past their first TAU_ENS of contribution. -/
def weighted (s : State) : List (Fin 20) :=
  (fins 20).filter fun i => s.refs[i].contributing &&
    decide (s.ductus.cfg.tauEns ≤ s.ductus.members[i].contributed)

/-- R131: the weights among some members. Without enough members the cap cannot hold. -/
def weightsAmong (members : List (Fin 20)) (s : State) : List (Fin 20 × Nat) :=
  let l := members.map fun i => (i, naturalWeight s i)
  let cap := s.ductus.cfg.weightMax
  shareOut (if l.length * cap < 65536 then 65536 else cap) (l.length + 1) l []

/-- The weights in force. -/
def weightsOf (s : State) : List (Fin 20 × Nat) := weightsAmong (weighted s) s

def setWeights (s : State) : State :=
  let ws := weightsOf s
  let f := fun (i : Fin 20) (m : Member) =>
    { m with weight := match ws.find? (fun p => decide (p.1 = i)) with
        | some p => p.2
        | none => 0 }
  s.modDuctus fun d => { d with members := vmap f d.members }

/-! ### Learning (04 R129, R130) -/

/-- The estimates of an update, for one member; `secs` are the seconds since the last. Drift is
estimated only in LOCKED, with the member contributing. -/
def learnMember (locked : Bool) (secs t : Nat) (c : ClockModel) (e : Option (Int × Int × Nat × Nat))
    (clock contributing : Bool) (m : Member) : Member :=
  if !contributing then { m with contributed := 0 }
  else
    let m := { m with contributed := m.contributed + secs }
    let m := match e with
      | some (y, _, sy, _) => { m with y := y, sigmaY := sy }
      | none => m
    if !(clock && locked) then m
    else if m.drift = 0 then { m with drift := 1, learned := 0, d := 0, sigmaD := c.driftPrior, moved := [] }
    else match e with
      | some (_, d, _, sd) =>
        let sd := min sd c.driftPrior
        let day := m.moved.filter fun p => decide (t ≤ p.1 + 86400)
        let far := day.any fun p => decide (3 * sd < (d - p.2).natAbs)
        let m : Member := { m with d := d, sigmaD := sd, learned := m.learned + secs,
                                   moved := if d = m.d then day else (t, d) :: day }
        if m.drift = 2 && far then { m with drift := 1, learned := 0, moved := [(t, d)] }
        else if m.drift = 1 ∧ c.learnMin ≤ m.learned ∧ sd ≤ c.driftTarget then { m with drift := 2 }
        else m
      | none => { m with learned := m.learned + secs }

/-- Each entry to LEARNED raises the drift-learned event. -/
def learnAll (l : List (Nat × Int × Int × Nat × Nat)) (secs : Nat) (s : State) : State :=
  forAll (fins 20) (fun i t =>
    let old := t.ductus.members[i]
    let m := learnMember (decide (t.ductus.state = .locked)) secs (nowSec t) (modelOf t i)
      (assoc l i.val) (clockMember t i) t.refs[i].contributing old
    let t := t.modDuctus fun d => { d with members := d.members.set i m }
    if m.drift = 2 ∧ old.drift ≠ 2 then raise 0x0302 i.val (toCode 64 m.d) t else t) s

/-- What a member predicts with: d = 0 and DRIFT_PRIOR while UNLEARNED. -/
def driftOf (s : State) (i : Fin 20) : Int × Nat :=
  let m := s.ductus.members[i]
  if m.drift = 0 then (0, (modelOf s i).driftPrior) else (m.d, min m.sigmaD (modelOf s i).driftPrior)

def execModelExport (r : Req) (s : State) : Out :=
  runRead 0x0305 (r.len = 0) r (fun s =>
    let l := clockMembers s
    .ok (le 4 l.length ++ le 4 0 ++ l.flatMap fun i =>
      let m := s.ductus.members[i]
      let d := driftOf s i
      le 1 i.val ++ le 1 s.refs[i].cfg.atomic ++ le 1 m.drift ++ le 5 0 ++ le 8 (toCode 64 m.y) ++
      le 8 (toCode 64 d.1) ++ le 8 m.sigmaY ++ le 8 d.2 ++ ztBytes (now s))) s

/-- Units of 2^-16 ns in a day. -/
abbrev dayUnit : Nat := 86400 * secUnit

/-- R130: an item carried forward over its age `a`. -/
def importedMember (c : ClockModel) (a : Nat) (it : ModelItem) (m : Member) : Member :=
  { m with
    drift := 1, learned := 0, moved := [], d := it.d, sigmaD := it.sigmaD
    y := satZi (it.y + rdiv (it.d * a) dayUnit)
    sigmaY := sqrtRound (it.sigmaY ^ 2 * dayUnit ^ 2 + it.sigmaD ^ 2 * a ^ 2 +
      b64Scaled c.q2 * a * dayUnit ^ 2 / (secUnit * 2 ^ 100)) (dayUnit ^ 2) }

/-- An item that is kept: made at most 30 days ago, of the ATOMIC class of its reference. -/
def itemKept (s : State) (it : ModelItem) : Option (Fin 20) :=
  match asFin 20 it.index with
  | some i =>
    if it.index ≤ 12 ∧ clockMember s i ∧ s.refs[i].cfg.atomic = it.atomic ∧
        now s ≤ ztUnits it.exportTime + 30 * dayUnit then some i
    else none
  | none => none

def execModelImport (r : Req) (items : List ModelItem) (s : State) : Out :=
  runCommand 0x0306 (r.len = 8 + 56 * items.length) r (fun _ s =>
    if !items.all fun it => ztValid it.exportTime then (s, .err eRange)
    else match s.ductus.state with
      | .free => (s, .err eState)
      | .acquire => (s, .err eState)
      | _ =>
        let s' := forAll items (fun it t => match itemKept t it with
          | some i => t.modDuctus fun d =>
              { d with members := upd d.members i
                         (importedMember (modelOf t i) (now t - ztUnits it.exportTime) it) }
          | none => t) s
        (s', .ok (le 4 (items.filter fun it => (itemKept s it).isNone).length))) s

/-! ### Predictions (04 R126, R131, R137) -/

/-- Σ w² x over the clock members, with w in 1/65,536. -/
def weightedSum (s : State) (x : Fin 20 → Nat) : Nat :=
  (clockMembers s).foldl (fun n i => n + s.ductus.members[i].weight ^ 2 * x i) 0

/-- 6 σ_x(t) of R126 in ps, rounded up; `t` in 2^-16 ns, `sx` in 2^-60 s, the sums with w in 1/65,536. -/
def sixSigmaAt (sx varY varD q1 q2 t : Nat) : Nat :=
  let day := 12 * 86400 ^ 2
  let num := sx ^ 2 * (day * secUnit ^ 4 * 2 ^ 132) + varY * t ^ 2 * (day * secUnit ^ 2 * 2 ^ 100) +
    varD * t ^ 4 * (3 * 2 ^ 100) + q1 * t * (day * secUnit ^ 3) + q2 * t ^ 3 * (4 * 86400 ^ 2 * secUnit)
  let den := day * secUnit ^ 4 * 2 ^ 132
  ceilSqrt ((36 * 10 ^ 24 * num + den * 2 ^ 120 - 1) / (den * 2 ^ 120))

/-- For the ensemble: the standard deviations are those of the last update with an anchor, q1 and q2 those of the
weights in force. -/
def sigmaSix (s : State) (t : Nat) : Nat :=
  sixSigmaAt s.ductus.sigmaX s.ductus.varY s.ductus.varD (weightedSum s fun i => b64Scaled (modelOf s i).q1)
    (weightedSum s fun i => b64Scaled (modelOf s i).q2) t

/-- The members of the atomic-only ensemble of R138: the atomic-class clock members past their first TAU_ENS, or
all of them where none is. -/
def atomicMembers (s : State) : List (Fin 20) :=
  let l := (clockMembers s).filter (atomicClass s)
  let old := l.filter fun i => decide (i ∈ weighted s)
  if old = [] then l else old

/-- 6 σ_x(t) of the atomic-only ensemble, with the present estimates of its members. -/
def atomicSix (s : State) (sx t : Nat) : Nat :=
  let ws := weightsAmong (atomicMembers s) s
  let sum := fun (x : Fin 20 → Nat) => ws.foldl (fun n p => n + p.2 ^ 2 * x p.1) 0
  sixSigmaAt sx (sum fun i => s.ductus.members[i].sigmaY ^ 2) (sum fun i => (driftOf s i).2 ^ 2)
    (sum fun i => b64Scaled (modelOf s i).q1) (sum fun i => b64Scaled (modelOf s i).q2) t

/-- The stated uncertainty of the predicted offset at device time `t` (R137): none in FREE, with no anchor yet, or
with the XO lost, which leaves no holdover model (R151). -/
def predictionUnc (s : State) (t : Nat) : Nat :=
  if s.ductus.state = .free ∨ s.ductus.xoLost ∨ s.ductus.anchorMeas = 0 then unbounded
  else satBound (sigmaSix s (t - s.ductus.anchorMeas))

/-- The predicted device offset at device time `t`. -/
def predictionAt (s : State) (t : Nat) : Int :=
  s.ductus.prediction + rdiv (s.ductus.predictionRate * (t - s.ductus.updated : Nat)) (2 ^ 60)

/-- The ensemble's state at an update with an anchor, from which a prediction starts. -/
def notePrediction (f : FilterResult) (s : State) : State :=
  let y := weightedSum s fun i => s.ductus.members[i].sigmaY ^ 2
  let d := weightedSum s fun i => (driftOf s i).2 ^ 2
  s.modDuctus fun x => { x with sigmaX := f.sigmaX, varY := y, varD := d }

/-! ### Target time and offsets (04 R133 to R137) -/

/-- Whether a reference is SELECTED and steers: an anchor, and no MEASURE stage without one. -/
def anchored (s : State) : Bool := s.ductus.anchor.isSome && !s.ductus.measuring

/-- T_d minus device time in a mode (R134), with E minus device time and the device offset from the
anchor. -/
def targetIn (mode : Nat) (s : State) (e offset : Int) : Int :=
  let d := s.ductus
  if mode = 1 ∧ anchored s ∧ d.state ≠ .coast then d.b - offset + d.k + d.h else e + d.k + d.h

/-- Waiting parameters take effect; a mode change puts its difference into K (R136). -/
def takeParams (e offset : Int) (s : State) : State :=
  match s.ductus.next with
  | none => s
  | some c =>
    let s := s.modDuctus fun d => { d with cfg := c, next := none }
    if c.mode = s.ductus.mode then s
    else
      let t := targetIn c.mode s e offset
      s.modDuctus fun d => { d with mode := c.mode, k := d.k - t }

/-- `x` moved toward 0 by at most `n`. -/
def toward0 (x : Int) (n : Nat) : Int :=
  if 0 ≤ x then max 0 (x - n) else min 0 (x + n)

/-- The rate of a slew in the present state (R136, R142, R143), in 2^-16 ns per second. -/
def slewRate (s : State) : Nat :=
  match s.ductus.state with
  | .locked => s.sel.cfg.switchSlew
  | _ => s.ductus.cfg.rejoinSlew

/-- B and K move toward 0 over `dt`: only with a reference SELECTED, never in COAST (R136, R152). -/
def slew (dt : Nat) (s : State) : State :=
  if !anchored s ∨ s.ductus.state = .coast ∨ s.ductus.state = .free then s
  else
    let kRate := if s.ductus.state = .rejoin then s.ductus.cfg.rejoinSlew else s.sel.cfg.switchSlew
    s.modDuctus fun d => { d with b := toward0 d.b (slewRate s * dt / secUnit),
                                  k := toward0 d.k (kRate * dt / secUnit) }

/-- R153: an ordered re-base is applied, after any host step that is pending (07 R214). -/
def applyRebase (s : State) : State :=
  match s.clock.rebase with
  | none => s
  | some rb =>
    if s.clock.step.isSome then s
    else
      let s := s.modClock fun c => { c with rebase := none }
      if !qualified s.refs[rb.ref] ∨ !counterForm s ∨
          (s.ductus.state ≠ .coast ∧ s.ductus.state ≠ .rejoin) then s
      else
        let s := stepTime (-rb.offset) s
        let s := setAnchor (some rb.ref) (setRef rb.ref .selected (deselect s))
        let s := s.modSel fun x => { x with stage := .idle, target := none }
        let s := s.modDuctus fun d =>
          { d with b := 0, k := 0, h := 0, loopError := 0, prediction := 0, measuring := false }
        let s := refEvent rb.ref .qualified .selected 0 s
        raise 0x0303 rb.ref.val (toCode 64 (-rb.offset)) (setDuctus .rejoin s)

/-- R151: Scribe resumes after a silence. -/
def resume (e offset : Int) (s : State) : State :=
  if !s.ductus.silent then s
  else
    let s := s.modDuctus fun d => { d with silent := false }
    let t := targetIn s.ductus.mode s e offset
    if t.natAbs ≤ s.ductus.cfg.lockPhase then s
    else match s.ductus.state with
      | .locked => if anchored s then setDuctus .rejoin (loadB offset s) else s
      | .rejoin => loadB offset s
      | .acquire => if afterHandover s ∧ anchored s then setDuctus .rejoin (loadB offset s) else s
      | .coast => s.modDuctus fun d => { d with k := d.k - t }
      | .free => s

/-- R143, before the handover: device time is set to the anchor's; with DPLL0 TRACKING and the error
within 1 µs the rate goes to 0, and at a later update the handover is requested. -/
def acquire (offset frequency : Int) (s : State) : State :=
  let c := s.clock
  let near := decide (offset.natAbs ≤ ns16 1000)
  if s.ductus.state ≠ .acquire ∨ c.form ≠ .virtual ∨ c.handedOver ∨ !anchored s then s
  else if s.ductus.seconds = 0 ∨ !near then
    let rate := max (-1152921504606847) (min 1152921504606847 (c.vset.rate - frequency))
    setVirtual { t0 := ((now s : Int) - offset).toNat, v0 := c.ticks.toNat, rate := rate }
      (s.modClock fun k => { k with handoverAsked := false })
  else if s.ductus.dplls[0].state ≠ .tracking ∨ s.ductus.xoLost then
    s.modClock fun k => { k with handoverAsked := false }
  else if c.vset.rate ≠ 0 then
    setVirtual { t0 := now s, v0 := c.ticks.toNat, rate := 0 } s
  else s.modClock fun k => { k with handoverAsked := true }

/-- R143, after the handover: the residual loop error goes into B. -/
def settle (offset : Int) (s : State) : State :=
  if s.ductus.state = .acquire ∧ afterHandover s ∧ !s.ductus.settled ∧ anchored s then
    (loadB offset s).modDuctus fun d => { d with settled := true }
  else s

/-- The predicted offset of every time-bearing reference (R137). -/
def spreadPrediction (s : State) : State :=
  let p := if s.ductus.state = .free then none else some s.ductus.prediction
  let f := fun (i : Fin 20) (r : Ref) => if timeBearing s i then { r with predicted := p } else r
  { s with refs := vmap f s.refs }

/-- R77: the qualification timer of a reference runs while every accept condition holds. -/
def countTimers (secs : Nat) (s : State) : State :=
  let f := fun (i : Fin 20) (r : Ref) =>
    if r.state = .monitor ∧ r.active ∧ freqAccepted s i then
      { r with qualTimer := min 65535 (r.qualTimer + secs) } else r
  { s with refs := vmap f s.refs }

/-- R140: the update. DPLL0 returns as an update arrives (R148); the loops of the channels have
acted, so their control values are free. -/
def execDuctusUpdate (f : FilterResult) (s : State) : Out :=
  if !s.host.supervisor ∨ !clockRuns s then .next s
  else
    let dt := now s - s.ductus.updated
    let secs := if s.ductus.updated = 0 then 0 else nowSec s - s.ductus.updated / secUnit
    let s := if s.ductus.state = .free then s else thawDpll 0 s
    let s := if s.ductus.updated = 0 then s else slew dt s
    let off := f.deviceMinusAnchor
    let s := s.modDuctus fun d =>
      { d with ensemble := f.ensembleMinusDevice, frequency := f.frequency,
               loopError := if anchored s then off - d.b - d.h else d.loopError,
               prediction := if anchored s then off else f.prediction,
               predictionRate := f.predictionRate }
    let s := takeParams f.ensembleMinusDevice off s
    let s := resume f.ensembleMinusDevice off s
    let s := settle off (acquire off f.frequency s)
    let s := applyRebase s
    let s := setWeights (learnAll f.estimates secs s)
    let s := if anchored s then notePrediction f s else s
    let s := forAll (fins 6) (fun c t =>
      if t.ductus.dplls[c].state = .pulling ∨ t.ductus.dplls[c].state = .tracking then
        freeControl c t else t) s
    let s := s.modDuctus fun d =>
      { d with seconds := d.seconds + max 1 secs, updated := now s,
               refTime := if anchored s then now s else d.refTime,
               target := targetIn d.mode s f.ensembleMinusDevice off }
    let s := if s.ductus.state = .free then
        applyControl 0 (s.modDpll 0 fun x => { x with control := ofCode 64 s.ductus.cfg.freeFreq })
      else s
    .next (countTimers secs (spreadPrediction s))

/-! ### States (04 R141, R149, R151) -/

def execLockDwellExpiry (s : State) : Out :=
  let d := s.ductus
  let may : Bool := match d.state with
    | .acquire => afterHandover s
    | .rejoin => true
    | _ => false
  if may ∧ anchored s ∧ d.b = 0 ∧ d.loopError.natAbs ≤ d.cfg.lockPhase ∧
      d.frequency.natAbs ≤ d.cfg.lockFreq then .next (setDuctus .locked s)
  else .next s

/-- R151: with a reference SELECTED, B takes the whole measured difference and Ductus rejoins. -/
def execXoLostClear (s : State) : Out :=
  if s.ductus.xoLost ∧ s.refs[xoRef].contributing then
    let s := s.modDuctus fun d => { d with xoLost := false }
    if s.ductus.state = .coast ∧ (selected s).isSome then
      .next (setDuctus .rejoin (loadB (s.ductus.b + s.ductus.loopError + s.ductus.h) s))
    else .next s
  else .next s

def execUpdateTimeout (s : State) : Out :=
  if s.ductus.updated + s.ductus.dplls[0].cfg.timeout * secUnit ≤ now s then
    .next (freezeDpll 0 (s.modDuctus fun d => { d with silent := true }))
  else .next s

/-- R144, laid out by 15 R419. -/
def ductusRecord (s : State) : Bytes :=
  let d := s.ductus
  let ms := (fins 20).filter (isMember s)
  le 1 (ductusCode d.state) ++ le 1 d.mode ++ le 1 (anchorCode s) ++
  le 1 (flag (guardAbsent s) 0 + flag d.xoLost 1) ++ le 4 d.seconds ++ le 8 (toCode 64 d.b) ++
  le 8 (toCode 64 d.k) ++ le 8 (toCode 64 d.loopError) ++ le 8 (toCode 64 d.frequency) ++
  le 8 (toCode 64 d.prediction) ++ le 8 (predictionUnc s (now s)) ++
  (d.dplls.toList.flatMap fun x =>
    le 1 (match x.state with
      | .off => 0
      | .pulling => 1
      | .tracking => 2
      | .frozen => 3) ++ le 7 0 ++ le 8 (toCode 64 x.control)) ++
  le 1 ms.length ++ le 7 0 ++
  ms.flatMap fun i =>
    let m := d.members[i]
    let dr := driftOf s i
    le 1 i.val ++ le 1 (if d.anchor = some i then 2 else if clockMember s i then 0 else 1) ++
    le 1 m.drift ++ le 1 0 ++ le 4 m.weight ++ le 8 (toCode 64 m.y) ++ le 8 (toCode 64 dr.1) ++
    le 8 dr.2

def execDuctusStatus (r : Req) (s : State) : Out :=
  runRead 0x0310 (r.len = 0) r (fun s => .ok (ductusRecord s)) s

/-! ### DPLL channels (04 R145 to R150) -/

def dpllTable : Table DpllCfg where
  flds := [one 1, one 1, one 1, one 1, one 1, one 4, one 4, one 4]
  rows c := [[c.input], [c.refIndex], [c.apllMask], [c.bw], [c.damping], [c.histAvg],
    [c.histGuard], [c.timeout]]
  ofRows r := { input := val r 0, refIndex := val r 1, apllMask := val r 2, bw := val r 3,
                damping := val r 4, histAvg := val r 5, histGuard := val r 6, timeout := val r 7 }

/-- R146, in µHz. -/
def bandwidth (code : Nat) : Nat :=
  if code < 9 then [100, 200, 500, 1000, 2000, 5000, 10000, 20000, 50000].getD code 0
  else [100000, 200000, 500000, 1000000, 2000000, 5000000, 10000000, 20000000, 50000000, 100000000,
    200000000, 500000000, 1000000000, 2000000000, 4000000000].getD (code - 9) 0

/-- The rules of R145 and R147 on the configuration that channel `c` would hold; `sel` says which
fields the command selects. -/
def dpllValid (s : State) (c : Fin 6) (old n : DpllCfg) (sel : Nat → Bool) : Bool :=
  (if c.val = 0 then decide (n.input = 0) else within 1 2 n.input) && decide (n.refIndex ≤ 11) &&
  decide (n.apllMask < 256) && decide (n.bw ≤ 23) && decide (n.damping ≤ 2) &&
  within 1 1000 n.histAvg && decide (n.histGuard ≤ 60000) && within 2 60 n.timeout &&
  !(sel 1 && decide (n.input ≠ 2)) && !(sel 7 && decide (n.input ≠ 0)) &&
  (decide (n.input ≠ 0) || decide (n.bw ≤ 9)) &&
  -- no APLL may be left without a channel, and APLL0 stays with DPLL0
  decide (old.apllMask &&& n.apllMask = old.apllMask) &&
  (decide (c.val = 0) || !bitOf n.apllMask 0) &&
  (decide (n.input ≠ 2) ||
    match asFin 20 n.refIndex with
    | some i =>
      let x := s.refs[i]
      decide (x.cfg.kind = 0) && decide (bandwidth n.bw * 20 * (refinOf x).divider ≤ x.cfg.nominal * 1000) &&
      (!(sel 0 || sel 1) || qualified x)
    | none => false)

/-- Whether the input of a channel is present (R148). -/
def inputPresent (s : State) (c : Fin 6) : Bool :=
  match s.ductus.dplls[c].cfg.input with
  | 0 => decide (s.ductus.state ≠ .free) && !s.ductus.silent
  | 1 => decide (s.synth.aplls[0].state = .locked)
  | _ => match asFin 20 s.ductus.dplls[c].cfg.refIndex with
    | some i => s.refs[i].contributing
    | none => false

/-- Each APLL that the channel newly drives takes over its control value and its freeze. -/
def takeAplls (c : Fin 6) (new : Nat) (s : State) : State :=
  forAll ((fins 8).filter fun a => bitOf new a.val) (fun a t =>
    let t := applyOne c a t
    if t.ductus.dplls[c].state = .frozen then holdApll a (fun x => { x with causeDpll := true }) t
    else
      let t := t.modApll a fun x => { x with causeDpll := false }
      if t.synth.aplls[a].state = .frozen ∧ !apllHeld t.synth.aplls[a] then setApll a .locked t else t) s

/-- The channel follows its input: it freezes where the input is absent and returns where it is back. -/
def followInput (c : Fin 6) (s : State) : State :=
  if inputPresent s c then thawDpll c s else freezeDpll c s

def putDpll (c : Fin 6) (n : DpllCfg) (s : State) : State :=
  let new := n.apllMask - s.ductus.dplls[c].cfg.apllMask
  let f := fun (k : Fin 6) (x : Dpll) =>
    if k = c then { x with cfg := n }
    else { x with cfg := { x.cfg with apllMask := x.cfg.apllMask - (x.cfg.apllMask &&& new) } }
  let s := s.modDuctus fun d => { d with dplls := vmap f d.dplls }
  followInput c (takeAplls c new s)

def execDpllConfigure (r : Req) (g : GReq) (s : State) : Out :=
  runConfig 0x0303 dpllTable.flds r g
    (fun s => (asFin 6 g.index).map fun c => dpllTable.rows s.ductus.dplls[c].cfg)
    (fun rows s => match asFin 6 g.index with
      | none => .error eRange
      | some c => do
        let old := s.ductus.dplls[c].cfg
        let n := dpllTable.ofRows rows
        need (decide (c.val ≠ 0) || (decide (n.input = old.input) &&
          decide (n.apllMask = old.apllMask))) eState
        need (dpllValid s c old n (selects g)) eRange
        pure (putDpll c n s)) s

def execDpllConfigureReadBack (r : Req) (index : Nat) (s : State) : Out :=
  runReadBack 0x0383 dpllTable.flds r index
    (fun s => (asFin 6 index).map fun c => dpllTable.rows s.ductus.dplls[c].cfg) s

/-- A channel goes to OFF: its APLLs lose cause DPLL. -/
def dpllOff (c : Fin 6) (s : State) : State :=
  let s := abortRealign c s
  let s := dropItem 0 c.val (s.modDpll c fun x => { x with state := .off, realign := none })
  takeAplls c s.ductus.dplls[c].cfg.apllMask s

/-- R148. -/
def execDpllEnable (r : Req) (channel enable : Nat) (s : State) : Out :=
  runSimple 0x0304 2 r (fun s => match asFin 6 channel with
    | none => .error eRange
    | some c => do
      need (decide (enable ≤ 1)) eRange
      need (decide (c.val ≠ 0)) eState
      if enable = 0 then pure (dpllOff c s)
      else if s.ductus.dplls[c].state = .off then
        let s := s.modDpll c fun x => { x with state := .pulling }
        pure (if inputPresent s c then s else freezeDpll c s)
      else pure s) s

def execDpllTracking (channel : Fin 6) (s : State) : Out :=
  if s.ductus.dplls[channel].state = .pulling then
    .next (s.modDpll channel fun x => { x with state := .tracking })
  else .next s

def execDpllPulling (channel : Fin 6) (s : State) : Out :=
  if s.ductus.dplls[channel].state = .tracking then
    .next (s.modDpll channel fun x => { x with state := .pulling })
  else .next s

end Sys2Proof.Machine
end

