-- ==== Sys2Proof/Machine/GnssOps.lean ====
section
/-! DEFINITION. The GNSS baseband as other areas use it (03): captures, and a port that leaves HOLD. -/

namespace Sys2Proof.Machine

/-- The reference of a port, and the port of a reference. -/
def gnssRef (p : Fin 2) : Fin 20 := ⟨13 + p.val, by omega⟩

def otherPort (p : Fin 2) : Fin 2 := if p = 0 then 1 else 0

/-- A capture may not begin: one is being exported or taken, or is held and not to be overwritten
(03 R122, R124). -/
def captureBlocked (s : State) (overwrite : Bool) : Bool :=
  s.gnss.snap.exporting.isSome || s.gnss.snap.capturing.isSome ||
  (s.gnss.snap.held.isSome && !overwrite)

/-- The trigger instant of a capture (03 R121). -/
def startCapture (c : Capture) (s : State) : State :=
  s.modGnss fun g =>
    { g with snapTaken := true,
             snap := { g.snap with
               armed := none, capturing := some { c with begun := now s, temp := s.power.junction },
               held := if c.overwrite = 1 then none else g.snap.held } }

/-- A trigger that no command waits for: where it is refused, 0x0906 says so (03 R122). -/
def triggerCapture (c : Capture) (s : State) : State :=
  if captureBlocked s (decide (c.overwrite = 1)) then
    raise 0x0906 c.trigger 0 (s.modGnss fun g => { g with snap := { g.snap with armed := none } })
  else startCapture c s

/-- A capture armed on an EVIN (03 R121). -/
def evinTrigger (n : Nat) (s : State) : State :=
  match s.gnss.snap.armed with
  | some c => if c.trigger = 2 ∧ c.evin = n then triggerCapture c s else s
  | none => s

/-- A group-delay measurement ends early when its port leaves HOLD (15 R426). -/
def endGroupDelay (p : Fin 2) (status : Nat) (s : State) : State :=
  match s.gnss.ports[p].group with
  | some j => completeCmd 0x0909 j.seq status j.source (s.modPort p fun x => { x with group := none })
  | none => s

end Sys2Proof.Machine
end

