-- ==== Sys2Proof/Machine/Gnss.lean ====
section
/-! DEFINITION. The commands and events of the GNSS baseband (03). -/

namespace Sys2Proof.Machine

/-! ### Configuration -/

/-- 03 R93. -/
def gnssTable : Table GnssCfg where
  flds := [one 1, one 4, one 4, one 1, one 1, one 1, one 6, one 1, one 1, one 1]
  rows c := [[c.band], [c.fSample], [c.fIf], [c.spectrum], [c.code], [c.feRef], [c.loFreq],
    [c.antenna], [c.consts], [c.ion]]
  ofRows r := { band := val r 0, fSample := val r 1, fIf := val r 2, spectrum := val r 3,
                code := val r 4, feRef := val r 5, loFreq := val r 6, antenna := val r 7,
                consts := val r 8, ion := val r 9 }

/-- The configuration in force: LO_FREQ is band centre − F_IF until the host has set it. -/
def gnssCfgOf (p : GnssPort) : GnssCfg :=
  { p.cfg with
    loFreq := if bitOf p.cfgSet 6 then p.cfg.loFreq
      else (((if p.cfg.band = 0 then 1575420000 else 1176450000) - ofCode 32 p.cfg.fIf) * 1000).toNat }

def gnssValid (s : State) (c : GnssCfg) : Bool :=
  decide (c.band ≤ 1) && within 40000000 200000000 c.fSample &&
  decide (4 * (ofCode 32 c.fIf).natAbs ≤ c.fSample) && decide (c.spectrum ≤ 1) &&
  decide (c.code ≤ 1) &&
  (match asFin 16 c.feRef with
   | some k => decide (s.synth.ckouts[k].cfg.enable = 1)
   | none => decide (c.feRef = 0xFF)) &&
  decide (c.antenna ≤ 3) && within 1 7 c.consts && decide (c.ion ≤ 1)

def gnssFixed (a b : GnssCfg) : Bool :=
  decide (a.band = b.band) && decide (a.fSample = b.fSample) && decide (a.feRef = b.feRef) &&
  decide (a.loFreq = b.loFreq)

def execGnssPortConfigure (r : Req) (g : GReq) (s : State) : Out :=
  runConfig 0x0901 gnssTable.flds r g
    (fun s => (asFin 2 g.index).map fun p => gnssTable.rows (gnssCfgOf s.gnss.ports[p]))
    (fun rows s => match asFin 2 g.index with
      | none => .error eRange
      | some p => do
        let old := s.gnss.ports[p]
        let set := old.cfgSet ||| g.mask
        let c := gnssCfgOf { old with cfg := gnssTable.ofRows rows, cfgSet := set }
        need (gnssValid s c) eRange
        need (decide (s.refs[gnssRef p].state = .off) || gnssFixed c (gnssCfgOf old)) eState
        pure (s.modPort p fun x => { x with cfg := gnssTable.ofRows rows, cfgSet := set })) s

def execGnssPortConfigureReadBack (r : Req) (index : Nat) (s : State) : Out :=
  runReadBack 0x0981 gnssTable.flds r index
    (fun s => (asFin 2 index).map fun p => gnssTable.rows (gnssCfgOf s.gnss.ports[p])) s

/-- 03 R103, R105; 15 R426. -/
def trackTable : Table TrackCfg where
  flds := [one 1, one 2, one 2, one 2, one 2, one 2, one 2, one 2, one 4, one 1, one 4]
  rows c := [[c.d], [c.mp1], [c.mp2], [c.mp3], [c.mp4], [c.pll], [c.fll], [c.dll], [c.tCoh],
    [c.mpMode], [c.cn0]]
  ofRows r := { d := val r 0, mp1 := val r 1, mp2 := val r 2, mp3 := val r 3, mp4 := val r 4,
                pll := val r 5, fll := val r 6, dll := val r 7, tCoh := val r 8, mpMode := val r 9,
                cn0 := val r 10 }

/-- The multipath taps are distinct from each other and from Early, Prompt and Late; offsets in
1/64 chip, D in hundredths of a chip. -/
def tapsDistinct (c : TrackCfg) : Bool :=
  let l := [c.mp1, c.mp2, c.mp3, c.mp4].map (ofCode 16)
  l.all (fun m => withinInt (-96) 96 m && decide (m ≠ 0) && decide (m * 200 ≠ (c.d : Int) * 64) &&
    decide (m * 200 ≠ -((c.d : Int) * 64))) && decide l.Nodup

/-- Signals in R99 order: 0 L1 C/A (data), 1 E1, 2 B1C (BOC), 3 to 5 the lower band. -/
def trackValid (signal : Nat) (c : TrackCfg) (taps : Bool) : Bool :=
  decide (c.d ∈ [5, 10, 20, 50, 100]) &&
  !(decide (c.d = 100) && (decide (signal = 1) || decide (signal = 2))) &&
  (!taps || tapsDistinct c) && within 100 3000 c.pll && within 50 1000 c.fll &&
  within 10 2000 c.dll &&
  (decide (c.tCoh ∈ [1, 2, 4, 5, 10, 20]) ||
    (decide (signal ≠ 0) && decide (c.tCoh ∈ [40, 80, 100]))) &&
  decide (c.mpMode ≤ 2) && within 150 400 c.cn0

/-- INDEX = 6 × port + signal. -/
def trackIndex (n : Nat) : Option (Fin 2 × Fin 6) :=
  match asFin 2 (n / 6), asFin 6 (n % 6) with
  | some p, some k => some (p, k)
  | _, _ => none

def execTrackingConfigure (r : Req) (g : GReq) (s : State) : Out :=
  runConfig 0x0902 trackTable.flds r g
    (fun s => (trackIndex g.index).map fun x => trackTable.rows s.gnss.ports[x.1].track[x.2])
    (fun rows s => match trackIndex g.index with
      | none => .error eRange
      | some (p, k) => do
        let c := trackTable.ofRows rows
        need (trackValid k.val c (decide (g.mask % 32 ≠ 0))) eRange
        pure (s.modPort p fun x => { x with track := x.track.set k c })) s

def execTrackingConfigureReadBack (r : Req) (index : Nat) (s : State) : Out :=
  runReadBack 0x0982 trackTable.flds r index
    (fun s => (trackIndex index).map fun x => trackTable.rows s.gnss.ports[x.1].track[x.2]) s

/-- 03 R116, R118 to R120. -/
def consistTable : Table ConsistCfg where
  flds := [one 8, one 8, one 2, one 2, one 2, one 4, one 8, one 8, one 4, one 1, many 3 8]
  rows c := [[c.guardLimit], [c.driftLimit], [c.noiseRise], [c.cn0High], [c.shapeLimit],
    [c.posLimit], [c.crossLimit], [c.constLimit], [c.clearTime], [c.snap], c.sysUnc]
  ofRows r := { guardLimit := val r 0, driftLimit := val r 1, noiseRise := val r 2,
                cn0High := val r 3, shapeLimit := val r 4, posLimit := val r 5,
                crossLimit := val r 6, constLimit := val r 7, clearTime := val r 8,
                snap := val r 9, sysUnc := row r 10 }

def consistValid (c : ConsistCfg) : Bool :=
  decide (c.guardLimit < 2 ^ 63) && decide (c.driftLimit < 2 ^ 63) &&
  decide (c.crossLimit < 2 ^ 63) && decide (c.constLimit < 2 ^ 63) &&
  within 60 86400 c.clearTime && decide (c.snap ≤ 1) && c.sysUnc.all (within 1000 1000000)

def execConsistencyConfigure (r : Req) (g : GReq) (s : State) : Out :=
  runConfig 0x0903 consistTable.flds r g
    (fun s => (asFin 2 g.index).map fun p => consistTable.rows s.gnss.ports[p].consist)
    (fun rows s => match asFin 2 g.index with
      | none => .error eRange
      | some p => do
        need (consistValid (consistTable.ofRows rows)) eRange
        pure (s.modPort p fun x => { x with consist := consistTable.ofRows rows })) s

def execConsistencyConfigureReadBack (r : Req) (index : Nat) (s : State) : Out :=
  runReadBack 0x0983 consistTable.flds r index
    (fun s => (asFin 2 index).map fun p => consistTable.rows s.gnss.ports[p].consist) s

/-- 03 R109, R111, R115. -/
def fixTable : Table FixCfg where
  flds := [one 1, one 4, one 4, one 1, one 4]
  rows c := [[c.mode], [c.target], [c.surveyMin], [c.scale], [c.interval]]
  ofRows r := { mode := val r 0, target := val r 1, surveyMin := val r 2, scale := val r 3,
                interval := val r 4 }

/-- HOLD needs a held position (R109). -/
def fixValid (c : FixCfg) (held : Bool) : Bool :=
  decide (c.mode ≤ 3) && (decide (c.mode ≠ 2) || held) && within 50 10000 c.target &&
  within 600 86400 c.surveyMin && decide (c.scale ≤ 1) &&
  decide (c.interval ∈ [100, 200, 500, 1000])

def execFixConfigure (r : Req) (g : GReq) (s : State) : Out :=
  runConfig 0x0906 fixTable.flds r g
    (fun s => (asFin 2 g.index).map fun p => fixTable.rows s.gnss.ports[p].fix)
    (fun rows s => match asFin 2 g.index with
      | none => .error eRange
      | some p => do
        let c := fixTable.ofRows rows
        need (fixValid c s.gnss.ports[p].position.isSome) eRange
        let s := s.modPort p fun x =>
          { x with fix := c
                   surveyFrom := if c.mode = 1 ∧ x.fix.mode ≠ 1 then s.clock.ticks.toNat else x.surveyFrom }
        pure (if c.mode = 2 then s else endGroupDelay p eState s)) s

def execFixConfigureReadBack (r : Req) (index : Nat) (s : State) : Out :=
  runReadBack 0x0986 fixTable.flds r index
    (fun s => (asFin 2 index).map fun p => fixTable.rows s.gnss.ports[p].fix) s

/-! ### Plain commands -/

/-- 03 R100. -/
def execExclusionList (r : Req) (entries : List Sat) (s : State) : Out :=
  runCommand 0x0904 (r.len = 4 + 2 * entries.length) r (fun _ s =>
    if entries.length ≤ 64 ∧ entries.all fun e => decide (e.constellation ≤ 2) then
      (s.modGnss fun g => { g with exclusion := entries }, .ok [])
    else (s, .err eRange)) s

/-- 03 R109: HOLD at once. -/
def execPositionSet (r : Req) (port : Nat) (x y z : Int) (unc : Nat) (s : State) : Out :=
  runSimple 0x0905 40 r (fun s => match asFin 2 port with
    | none => .error eRange
    | some p => pure (s.modPort p fun q =>
        { q with position := some ⟨x, y, z, unc⟩, fix := { q.fix with mode := 2 } })) s

/-- 03 R108: LENGTH, then the items as held. -/
def execOrbitExport (r : Req) (s : State) : Out :=
  runRead 0x0907 (r.len = 0) r (fun s =>
    let o : Bytes := s.gnss.orbit.flatMap fun i => i.octets.map (BitVec.ofNat 8)
    .ok (le 4 o.length ++ o)) s

/-- The age limit of the method that an item serves (03 R106): 4 h for an ephemeris, 30 days for an almanac. -/
def orbitYoung (s : State) (i : OrbitItem) : Bool :=
  match i.kind with
  | 0 => decide (nowSec s < i.epoch + 14400)
  | 1 => decide (nowSec s < i.epoch + 2592000)
  | _ => true

/-- An item that is no older than its method's limit and whose CRC holds (03 R108). -/
def orbitFresh (s : State) (i : OrbitItem) : Bool := i.crcOk && orbitYoung s i

def execOrbitImport (r : Req) (items : List OrbitItem) (s : State) : Out :=
  runCommand 0x0908 (r.len = 4 + (items.map fun i => i.octets.length).foldl (· + ·) 0) r (fun _ s =>
    let good := items.filter (orbitFresh s)
    (s.modGnss fun g => { g with orbit := g.orbit ++ good },
     .ok (le 4 (items.length - good.length)))) s

/-- 15 R426. -/
def execGroupDelayMeasure (r : Req) (port duration : Nat) (s : State) : Out :=
  runAccepted 0x0909 8 r (fun seq s => match asFin 2 port with
    | none => .error eRange
    | some p => do
      need (within 3600 604800 duration) eRange
      need (decide (s.gnss.ports[p].fix.mode = 2) && s.gnss.ports[p].group.isNone) eState
      pure (s.modPort p fun x =>
        { x with group := some ⟨duration, s.clock.ticks.toNat, r.src, seq⟩ })) s

/-- 03 R114: the means and standard errors of the six signals are available. -/
def execGroupDelayMeasureEnd (port : Fin 2) (means : List Int) (errors : List Nat) (s : State) : Out :=
  if (match s.gnss.ports[port].group with
      | some j => decide (j.begun + j.duration * 10 ^ 9 ≤ s.clock.ticks.toNat)
      | none => false) then
    .next (endGroupDelay port stOk (s.modPort port fun x =>
      { x with groupMean := (List.range 6).map fun k => means.getD k 0,
               groupErr := (List.range 6).map fun k => satBound (errors.getD k 0) }))
  else .next s

def execGroupDelayResult (r : Req) (port : Nat) (s : State) : Out :=
  runRead 0x0911 (r.len = 1) r (fun s => match asFin 2 port with
    | none => .error eRange
    | some p =>
      let x := s.gnss.ports[p]
      .ok ((List.range 6).flatMap fun k =>
        le 8 (toCode 64 (x.groupMean.getD k 0)) ++ le 8 (x.groupErr.getD k 0))) s

/-- 15 R426. -/
def execGnssStatus (r : Req) (port : Nat) (s : State) : Out :=
  runRead 0x0910 (r.len = 1) r (fun s => match asFin 2 port with
    | none => .error eRange
    | some p =>
      let x := s.gnss.ports[p]
      .ok (le 1 x.fix.mode ++ le 3 0 ++ le 4 x.failed.toNat ++ le 4 x.unavail.toNat ++ le 4 0 ++
        x.histI.flatMap (le 4) ++ x.histQ.flatMap (le 4) ++
        s.gnss.channels.toList.flatMap fun c =>
          le 1 c.state ++ le 1 c.port ++ le 1 c.sat.constellation ++ le 1 c.sat.number ++
          le 1 c.signal ++ le 1 0 ++ le 2 c.cn0)) s

/-! ### Snapshots (R121 to R124) -/

def execSnapshot (r : Req) (trigger evin duration overwrite : Nat) (start : ZT128) (s : State) : Out :=
  runSimple 0x090A 24 r (fun s => do
    need (decide (trigger ≤ 2) && decide (evin ≤ 7) && within 1 40 duration &&
      decide (overwrite ≤ 1) && ztValid start) eRange
    need (!captureBlocked s (decide (overwrite = 1))) eState
    let c : Capture := { trigger := trigger, evin := evin, duration := duration,
                         overwrite := overwrite, start := ztUnits start }
    pure (if trigger = 0 then startCapture c s
      else s.modGnss fun g => { g with snap := { g.snap with armed := some c } })) s

/-- The armed start time is reached (R121). -/
def execSnapshotArmedStart (s : State) : Out :=
  match s.gnss.snap.armed with
  | some c => if c.trigger = 1 then .next (triggerCapture c s) else .next s
  | none => .next s

/-- A header of R123. -/
def captureHeader (s : State) (c : Capture) (p : Fin 2) (samples offset : Nat) (period : Int)
    (start : Nat) : CaptureHeader :=
  { start := start, period := period, samples := samples, offset := offset, port := p.val,
    band := s.gnss.ports[p].cfg.band, code := s.gnss.ports[p].cfg.code, trigger := c.trigger,
    temp := c.temp }

/-- R121: the capture is held. Each port starts with its first sample at or after the trigger, a
free instant within one sample period. -/
def execSnapshotComplete (samplesA samplesB : Nat) (periodA periodB : Int) (octets : Nat)
    (s : State) : Out :=
  match s.gnss.snap.capturing with
  | none => .next s
  | some c =>
    let a := if bitOf c.lost 0 then 0 else samplesA
    let b := if bitOf c.lost 1 then 0 else samplesB
    let (u, s) := freshNat s
    let (v, s) := freshNat s
    let hA := captureHeader s c 0 a 80 periodA (c.begun + u % max 1 periodA.toNat)
    let hB := captureHeader s c 1 b (80 + a) periodB (c.begun + v % max 1 periodB.toNat)
    .next (s.modGnss fun g =>
      { g with snap := { g.snap with capturing := none, held := some (hA, hB, octets),
                                     overwrite := decide (c.overwrite = 1) } })

def execSnapshotRelease (r : Req) (s : State) : Out :=
  runCommand 0x090B (r.len = 0) r (fun p s =>
    if s.gnss.snap.exporting.isSome then
      (s.modGnss fun g => { g with snap := { g.snap with releases := g.snap.releases ++ [(r.src, p.sequence)] } },
       .hold)
    else (s.modGnss fun g => { g with snap := { g.snap with held := none } }, .ok [])) s

def execSnapshotExport (r : Req) (_hostAddr length : Nat) (s : State) : Out :=
  runAccepted 0x090C 12 r (fun seq s => do
    need (s.gnss.snap.held.isSome && s.gnss.snap.exporting.isNone) eState
    pure (s.modGnss fun g => { g with snap := { g.snap with exporting := some (length, r.src, seq) } })) s

/-- R124: the export ends, then the releases that waited for it. -/
def execSnapshotExportComplete (s : State) : Out :=
  match s.gnss.snap.exporting with
  | none => .next s
  | some (n, src, seq) =>
    let waiting := s.gnss.snap.releases
    let held := if waiting = [] then s.gnss.snap.held else none
    let s := s.modGnss fun g =>
      { g with snap := { g.snap with exporting := none, releases := [], held := held } }
    .next (forAll waiting (fun w => finish w.1 stOk [])
      (completeCmd 0x090C seq stOk src (raise 0x0907 n 0 s)))

/-! ### Channels (R98, R102, R104) -/

/-- The transitions that the loops bring about. -/
def loopMove (from_ dest : Nat) : Bool :=
  (decide (from_ = 1) && decide (dest = 2)) || (decide (from_ = 2) && decide (dest = 3)) ||
  (decide (from_ = 3) && decide (dest = 4)) || (decide (from_ = 4) && decide (dest = 2)) ||
  (decide (from_ ≠ 5) && decide (dest = 0))

/-- R104: the words written at the last dump take effect, the new ones wait for the next code-epoch
boundary. Scribe may move the channel, assign an idle one or release it. -/
def execCorrelatorDump (channel : Fin 200) (codeWord carrierWord next cn0 : Nat)
    (assign : Option (Fin 2 × Sat × Nat)) (s : State) : Out :=
  let c := s.gnss.channels[channel]
  let set := fun (d : GnssChannel) =>
    s.modGnss fun g => { g with channels := g.channels.set channel d }
  let inUse : Bool := match s.wear.channels[channel].state with
    | .service => true
    | _ => false
  if c.state = 0 then
    match assign with
    | some (p, sat, signal) =>
      if inUse && decide (s.refs[gnssRef p].state ≠ RefState.off) then
        match asFin 6 signal with
        | some k => .next (set { state := 1, port := p.val, sat := sat, signal := signal,
                                 track := s.gnss.ports[p].track[k] })
        | none => .next s
      else .next s
    | none => .next s
  else if c.state = 5 then .next s
  else if loopMove c.state next ∧ next = 0 then .next (set {})
  else
    let t := match asFin 2 c.port, asFin 6 c.signal with
      | some p, some k => s.gnss.ports[p].track[k]
      | _, _ => c.track
    let w := c.nextCode.getD (c.code, c.carrier)
    .next (set { c with state := if loopMove c.state next then next else c.state, cn0 := cn0,
                        code := w.1, carrier := w.2, nextCode := some (codeWord, carrierWord),
                        track := t, tries := if next = 2 then 0 else c.tries })

/-- R102: a limit of SEARCH, PULL_IN, TRACK or REACQUIRE expires. -/
def execChannelTimeout (channel : Fin 200) (s : State) : Out :=
  let c := s.gnss.channels[channel]
  let set := fun (d : GnssChannel) =>
    s.modGnss fun g => { g with channels := g.channels.set channel d }
  match c.state with
  | 1 => if 1 ≤ c.tries then .next (set {}) else .next (set { c with tries := c.tries + 1 })
  | 2 => .next (set { c with state := 1, tries := 0 })
  | 3 => .next (set { c with state := 4 })
  | 4 => .next (set { c with state := 1, tries := 0 })
  | _ => .next s

/-- R106: the best method whose conditions hold. -/
def methodFor (s : State) (p : Fin 2) : Nat :=
  let known : Bool := s.gnss.ports[p].position.isSome
  let young : Nat → Bool := fun k => s.gnss.orbit.any fun i => decide (i.kind = k) && orbitYoung s i
  let steady : Bool := match s.ductus.state with
    | .locked => true
    | .coast => true
    | .rejoin => true
    | _ => false
  if steady = true ∧ s.margin.published ≤ 100000000 ∧ young 0 = true ∧ known = true then 0
  else if young 1 = true ∧ known = true ∧ decide (s.clock.form ≠ .stopped) ∧ 0 < nowSec s then 1
  else 2

/-- R98. -/
def execGnssClockFault (port : Fin 2) (s : State) : Out :=
  let f := fun (_ : Fin 200) (c : GnssChannel) =>
    if c.port = port.val ∧ c.state ≠ 0 ∧ c.state ≠ 5 then { c with state := 4 } else c
  let s := s.modGnss fun g =>
    { g with channels := vmap f g.channels,
             snap := { g.snap with capturing := g.snap.capturing.map fun c =>
                         { c with lost := c.lost ||| 2 ^ port.val } } }
  .next (addReason (gnssRef port) 2 (s.modPort port fun x => { x with clockFault := true }))

def execGnssClockRestored (port : Fin 2) (s : State) : Out :=
  if s.gnss.ports[port].clockFault then
    .next (s.modPort port fun x => { x with clockFault := false, acquire := methodFor s port })
  else .next s

/-- R96. -/
def execGnssHistogram (port : Fin 2) (i q : List Nat) (s : State) : Out :=
  .next (s.modPort port fun x => { x with histI := (List.range 16).map fun k => i.getD k 0,
                                          histQ := (List.range 16).map fun k => q.getD k 0 })

/-- R109: the end of a survey, once both one-sigma uncertainties are below SURVEY_TARGET and SURVEY_MIN is over. -/
def execSurveyComplete (port : Fin 2) (x y z : Int) (unc horizontal vertical : Nat) (s : State) : Out :=
  let p := s.gnss.ports[port]
  if p.fix.mode = 1 ∧ horizontal < p.fix.target ∧ vertical < p.fix.target ∧
      p.surveyFrom + p.fix.surveyMin * 10 ^ 9 ≤ s.clock.ticks.toNat then
    .next (raise 0x0908 port.val unc (s.modPort port fun p =>
      { p with position := some ⟨x, y, z, unc⟩, fix := { p.fix with mode := 2 } }))
  else .next s

/-! ### Epochs (R112, R115 to R120) -/

/-- R95. -/
def dualBand (s : State) (p : Fin 2) : Bool :=
  let a := s.gnss.ports[0].cfg
  let b := s.gnss.ports[1].cfg
  decide (a.antenna = b.antenna) && decide (a.band ≠ b.band) &&
  decide (s.gnss.ports[p].cfg.ion = 1)

/-- Whether the signals of the port's band run in MP_MODE SHAPE. -/
def shapeMode (p : GnssPort) : Bool :=
  ((fins 6).filter fun k => decide (k.val / 3 = p.cfg.band)).all fun k =>
    decide (p.track[k].mpMode = 2)

/-- Whether a port has a satellite in TRACK (R102). -/
def tracked (s : State) (p : Fin 2) (x : Sat) : Bool :=
  s.gnss.channels.toList.any fun c =>
    decide (c.state = 3) && decide (c.port = p.val) && decide (c.sat = x)

/-- The satellites that a port has in TRACK. -/
def trackedSats (s : State) (p : Fin 2) : List Sat :=
  ((s.gnss.channels.toList.filter fun c => decide (c.state = 3) && decide (c.port = p.val)).map
    fun c => c.sat).eraseDups

/-- A satellite that a solution of a port may use (R93, R100, R102, R117, R120). -/
def usable (s : State) (p : Fin 2) (m : SatMeas) : Bool :=
  let q := s.gnss.ports[p]
  tracked s p m.sat && !m.unhealthy && bitOf q.cfg.consts m.sat.constellation &&
  decide (m.sat ∉ s.gnss.exclusion) && (q.excluded.all fun y => decide (y.1 ≠ m.sat)) &&
  !bitOf q.badConsts m.sat.constellation

/-- σ_est (R116). -/
def sigmaEst (e : GnssEpoch) : Nat := max e.rms e.noise

/-- A satellite that T-RAIM or its ephemeris excludes (R117), with `n` in the solution. -/
def faulty (hold : Bool) (n : Nat) (e : GnssEpoch) (m : SatMeas) : Bool :=
  (hold && decide (4 ≤ n) && decide (5 * sigmaEst e < m.residual)) || decide (100000 < m.orbitJump) ||
  m.weekJump

/-- The satellites newly excluded, and those that the solution uses. -/
def newlyFaulty (s : State) (e : GnssEpoch) : List SatMeas :=
  let l := e.sats.filter (usable s e.port)
  l.filter (faulty (decide (s.gnss.ports[e.port].fix.mode = 2)) l.length e)

def usedSats (s : State) (e : GnssEpoch) : List SatMeas :=
  (e.sats.filter (usable s e.port)).filter fun m => decide (m ∉ newlyFaulty s e)

/-- How many of a list are of a constellation. -/
def ofConst (l : List SatMeas) (c : Nat) : Nat := (l.filter fun m => decide (m.sat.constellation = c)).length

/-- Whether the satellites suffice for a solution in the fix mode (R109). -/
def enough (mode : Nat) (l : List SatMeas) : Bool :=
  let extra := ((List.range 3).filter fun c => decide (0 < ofConst l c)).length - 1
  match mode with
  | 0 => false
  | 2 => decide (1 + extra ≤ l.length)
  | _ => decide (4 + extra ≤ l.length)

/-- The reference constellation (R111): the lowest-numbered enabled one with four satellites in use. -/
def refConstOf (p : GnssPort) (e : GnssEpoch) (l : List SatMeas) : Nat :=
  ((List.range 3).find? fun c => bitOf p.cfg.consts c && decide (4 ≤ ofConst l c)).getD (e.refPick % 3)

/-- The signal of a port's band that a constellation sends, in R99 order. -/
def signalOf (p : GnssPort) (c : Nat) : Nat := 3 * p.cfg.band + c

/-- SIGNAL_DELAY_UNC of the record (R113, 17 R476). -/
def delayUnc (s : State) (p : Fin 2) (c : Nat) : Nat :=
  satBound (calNat s (25256 + 8 * (6 * p.val + signalOf s.gnss.ports[p] c)) 8)

def largest (l : List Nat) : Nat := l.foldl max 0

/-- The largest SIGNAL_DELAY_UNC among the signals used: in dual band also the other port's of a satellite that
both track (R95, R116). -/
def calUncertainty (s : State) (p : Fin 2) (l : List SatMeas) : Nat :=
  let o := otherPort p
  largest (l.map fun m =>
    if dualBand s p && tracked s o m.sat then
      max (delayUnc s p m.sat.constellation) (delayUnc s o m.sat.constellation)
    else delayUnc s p m.sat.constellation)

/-- R116 in picoseconds, rounded up: exact over the denominator 100 × 299,792,458. In SURVEY and NAVIGATE, and with
a signal that is not calibrated, it is unbounded (R110, R114). -/
def gnssUncertainty (s : State) (e : GnssEpoch) : Nat :=
  let p := s.gnss.ports[e.port]
  let l := usedSats s e
  let c := 299792458
  let cal := calUncertainty s e.port l
  match p.position with
  | some h =>
    if p.fix.mode ≠ 2 ∨ cal = unbounded then unbounded
    else
      let ion := if dualBand s e.port then 2000 * 100 else largest (l.map (·.slantIon)) * 50
      let multi := if shapeMode p then largest (l.map (·.multipath)) else 3000
      let n := (6 * e.tdop * sigmaEst e + ion + largest (l.map (·.slantTrop)) * 10 +
        (p.consist.sysUnc.getD (refConstOf p e l) 0 + cal + multi) * 100) * c + 6 * h.unc * 100 * 10 ^ 9
      satBound ((n + 100 * c - 1) / (100 * c))
  | none => unbounded

/-- R112: TAI − UTC that a broadcast count stands for. -/
def broadcastOffset (constellation : Nat) (count : Int) : Int :=
  count + (if constellation = 2 then 33 else 19)

def leapDiffers (s : State) (x : Nat × Int) : Bool :=
  !s.clock.leap.unset &&
  decide (broadcastOffset x.1 x.2 ≠ offsetAt s.clock.leap (nowSec s))

/-- The leap-mismatch event, once per distinct broadcast value (R112). -/
def takeLeaps (p : Fin 2) (l : List (Nat × Int)) (s : State) : State :=
  let s := forAll (l.filter (leapDiffers s)) (fun x t =>
    if x ∈ t.gnss.ports[p].leaps then t
    else raise 0x0901 (toCode 16 x.2 + x.1 * 65536) 0
      (t.modPort p fun q => { q with leaps := x :: q.leaps })) s
  s.modPort p fun q => { q with leapBad := l.any (leapDiffers s) }

/-- R117: newly excluded satellites. The manual gives no codes for the reason of the event: it is free. -/
def takeExclusions (p : Fin 2) (l : List SatMeas) (s : State) : State :=
  forAll l (fun m t =>
    let (x, t) := freshNat t
    raise 0x0902 (p.val + m.sat.constellation * 256 + m.sat.number % 256 * 65536 + x % 256 * 2 ^ 24) 0
      (t.modPort p fun q => { q with excluded := (m.sat, t.clock.ticks.toNat) :: q.excluded })) s

/-! ### The port-level checks (R118) -/

/-- The atomic guard: an atomic-class REFIN is QUALIFIED. -/
def atomicGuard (s : State) : Bool := (fins 20).any fun i => atomicClass s i && qualified s.refs[i]

/-- 04 R138: the points of the latest GUARD_SPAN at which every available check passed. -/
def guardPoints (span : Nat) (l : List GuardPoint) : List GuardPoint :=
  match l.find? (fun p => p.passed) with
  | some q => l.filter fun p => p.passed && decide (q.tick ≤ p.tick + span)
  | none => []

/-- The alignment of the guard, its standard error in 2^-60 s, rounded up, and the tick of the midpoint. Two points
are needed for a standard error. -/
def guardAlign (l : List GuardPoint) : Option (Int × Nat × Nat) :=
  let n := l.length
  match l.getLast?, l.head? with
  | some a, some b =>
    if n < 2 then none
    else
      let sum := l.foldl (fun x p => x + p.align) 0
      let num := n * l.foldl (fun x p => x + p.align.natAbs ^ 2) 0 - sum.natAbs ^ 2
      let den := n ^ 2 * (n - 1) * secUnit ^ 2
      some (rdiv sum n, ceilSqrt ((num * 2 ^ 120 + den - 1) / den), (a.tick + b.tick) / 2)
  | _, _ => none

/-- The atomic guard's prediction of the OFFSET at an epoch, with its stated uncertainty. -/
def guardPrediction (s : State) (e : GnssEpoch) : Option (Int × Nat) :=
  if atomicGuard s then
    (guardAlign (guardPoints (s.ductus.cfg.guardSpan * 10 ^ 9) s.gnss.ports[e.port].guardHist)).map fun g =>
      (g.1 + e.atomicPhase, satBound (atomicSix s g.2.1 ((s.clock.ticks.toNat - g.2.2) * 65536)))
  else none

/-- The slope of OFFSET over 600 s less the guard's slope, once there are 600 s to look back on. -/
def driftDiff (t : Nat) (l : List GuardPoint) : Option Int :=
  let near := l.filter fun p => decide (t ≤ p.tick + 600 * 10 ^ 9)
  if near.length < 4 ∨ !l.any fun p => decide (p.tick + 600 * 10 ^ 9 ≤ t) then none
  else some (slopeOf (near.map fun p => (p.tick * 65536, p.align)))

/-- The points with that of an epoch, as far as they still count. Without an atomic-class member there is no ensemble
to which they could refer. -/
def guardHistory (s : State) (e : GnssEpoch) (offset : Option Int) (passed : Bool) : List GuardPoint :=
  let t := s.clock.ticks.toNat
  let span := s.ductus.cfg.guardSpan * 10 ^ 9
  let l := s.gnss.ports[e.port].guardHist
  match atomicGuard s, offset with
  | false, _ => []
  | true, none => l
  | true, some o =>
    let l := ⟨t, o - e.atomicPhase, passed⟩ :: l
    l.filter fun p => decide (t ≤ p.tick + span) || decide (p ∈ guardPoints span l)

/-- The noise-tap levels of the hour before `t`. -/
def lastHour (t : Nat) (l : List (Nat × Int)) : List (Nat × Int) :=
  l.filter fun p => decide (t ≤ p.1 + 3600 * 10 ^ 9)

/-- Whether a level lies more than `limit` above the average of earlier ones. -/
def noiseRises (limit : Nat) (level : Int) (l : List (Nat × Int)) : Bool :=
  decide ((limit : Int) * l.length < level * l.length - l.foldl (fun x p => x + p.2) 0)

/-- Whether a position lies more than `limit` metres from the held one. -/
def strays (limit : Nat) (held : HeldPosition) (x : Int × Int × Int) : Bool :=
  decide ((limit * 1000) ^ 2 < (x.1 - held.x).natAbs ^ 2 + (x.2.1 - held.y).natAbs ^ 2 +
    (x.2.2 - held.z).natAbs ^ 2)

/-- Since when a condition has held. -/
def sinceWhen (c : Bool) (t : Nat) (old : Option Nat) : Option Nat := if c then some (old.getD t) else none

/-- Whether it has held for `n` seconds. -/
def heldFor (since : Option Nat) (t n : Nat) : Bool :=
  match since with
  | some x => decide (x + n * 10 ^ 9 ≤ t)
  | none => false

/-- The verdicts of an epoch, in the order of R118: none where the check lacks what it needs, else whether it fails
now; with what the answers of R120 need. -/
structure Checks where
  verdicts : List (Option Bool)
  posSince : Option Nat
  crossSince : Option Nat
  constSince : Option Nat
  guardDist : Option Nat
  badConst : Nat
  agreeing : Nat
deriving DecidableEq, Repr

/-- The constellation that lies beyond CONST_LIMIT of every other, and how many of the others agree. -/
def apart (limit : Nat) (l : List (Nat × Int)) : Option (Nat × Nat) :=
  let far := fun (a b : Nat × Int) => decide (limit < (a.2 - b.2).natAbs)
  let rest := fun (a : Nat × Int) => l.filter fun b => decide (b.1 ≠ a.1)
  match l.find? fun a => (rest a).all (far a) with
  | some a => some (a.1, ((rest a).filter fun b => (rest a).any fun c => decide (c.1 ≠ b.1) && !far b c).length)
  | none => none

def checksOf (s : State) (e : GnssEpoch) (l : List SatMeas) (offset : Option Int) : Checks :=
  let p := s.gnss.ports[e.port]
  let o := s.gnss.ports[otherPort e.port]
  let c := p.consist
  let t := s.clock.ticks.toNat
  let guard := guardPrediction s e
  let dist : Option Nat := match offset, guard with
    | some x, some g => some (x - g.1).natAbs
    | _, _ => none
  let both := decide (p.fix.mode = 2) && decide (o.fix.mode = 2) && decide (p.cfg.antenna ≠ o.cfg.antenna)
  let cross : Option Nat := match offset, o.last with
    | some x, some y => if both then some (x - y).natAbs else none
    | _, _ => none
  let crossFar : Bool := match cross with
    | some d => decide (c.crossLimit < d)
    | none => false
  let crossSince := sinceWhen crossFar t p.crossSince
  let away : Option Bool := match p.position, e.position with
    | some h, some x => if p.fix.mode = 2 ∧ 4 ≤ l.length then some (strays c.posLimit h x) else none
    | _, _ => none
  let posSince := sinceWhen (decide (away = some true)) t p.posSince
  let cs := e.separate.filter fun x => decide (4 ≤ ofConst l x.1)
  let bad := if 2 ≤ cs.length then apart c.constLimit cs else none
  let constSince := sinceWhen bad.isSome t p.constSince
  { verdicts :=
      [match dist, guard with
       | some d, some g => some (decide (c.guardLimit * 1000 + g.2 * 65536 < d * 1000))
       | _, _ => none,
       if atomicGuard s && (decide (p.cfg.feRef ≠ 0xFF) || e.coherent) && offset.isSome then
         (driftDiff t (guardHistory s e offset false)).map fun x => decide (c.driftLimit < x.natAbs)
       else none,
       some (noiseRises c.noiseRise e.noiseTap (lastHour t p.noiseHist)),
       some (decide (4 ≤ (l.filter fun m => decide (c.cn0High < m.cn0)).length)),
       if shapeMode p then some (decide (3 ≤ (l.filter fun m => decide (c.shapeLimit < m.distortion)).length))
       else none,
       away.map fun _ => heldFor posSince t 60,
       cross.map fun _ => heldFor crossSince t 10,
       if 2 ≤ cs.length then some (heldFor constSince t 10) else none]
    posSince := posSince, crossSince := crossSince, constSince := constSince, guardDist := dist
    badConst := (bad.map (·.1)).getD 0, agreeing := (bad.map (·.2)).getD 0 }

/-- The bits of a list of verdicts that satisfy `f`. -/
def verdictBits (f : Option Bool → Bool) (l : List (Option Bool)) : BitVec 8 :=
  BitVec.ofNat 8 (l.zipIdx.foldl (fun n x => n + flag (f x.1) x.2) 0)

/-- Whether a port lies farther from its guard prediction than the other one. -/
def farther (s : State) (p : Fin 2) (k : Checks) : Bool :=
  match k.guardDist, s.gnss.ports[otherPort p].guardDist with
  | some a, some b => decide (b ≤ a)
  | some _, none => true
  | none, _ => false

/-- The failing checks that reject the port (R120): bits 0 to 5; CONSTELLATION with fewer than two that agree;
CROSS_PORT, with the guard available, where the port lies farther from its prediction. -/
def rejectBits (s : State) (p : Fin 2) (k : Checks) (newly : BitVec 8) : BitVec 8 :=
  (newly &&& 0x3F) ||| (if newly.getLsbD 7 && decide (k.agreeing < 2) then 0x80 else 0) |||
    (if newly.getLsbD 6 && atomicGuard s && farther s p k then 0x40 else 0)

/-- The disagreeing constellation is excluded from the port. -/
def excludeConst (p : Fin 2) (c : Nat) (s : State) : State :=
  raise 0x0905 (p.val + c % 256 * 256) 0 (s.modPort p fun q => { q with badConsts := q.badConsts ||| 2 ^ (c % 8) })

/-- CROSS_PORT with no atomic guard: an alarm. -/
def raiseCross (p : Fin 2) (s : State) : State :=
  let d : Int := match s.gnss.ports[0].last, s.gnss.ports[1].last with
    | some a, some b => a - b
    | _, _ => 0
  raise 0x0904 p.val (toCode 64 d.natAbs) (s.modPort p fun q => { q with crossAlarm := true })

/-- One rejection with every failing bit. -/
def rejectPort (p : Fin 2) (bits : BitVec 8) (s : State) : State :=
  if bits = 0 then s
  else raise 0x0903 p.val bits.toNat (addReason (gnssRef p) 7
    (s.modPort p fun q => { q with rejecting := q.rejecting ||| bits }))

/-- R120: the answer to the checks that have begun to fail. -/
def answerChecks (p : Fin 2) (k : Checks) (newly : BitVec 8) (s : State) : State :=
  let bits := rejectBits s p k newly
  let s := onlyIf (newly.getLsbD 7 && decide (2 ≤ k.agreeing)) (excludeConst p k.badConst) s
  let s := onlyIf (newly.getLsbD 6 && !atomicGuard s) (raiseCross p) s
  let s := rejectPort p bits s
  if newly &&& 0x3F = 0 ∨ s.gnss.ports[p].consist.snap = 0 ∨ s.gnss.snap.capturing.isSome then s
  else triggerCapture { trigger := 3, evin := 0, duration := 40, overwrite := 0, start := 0 } s

/-- R118, R119: what the verdicts make of the checks that have failed and those that pass again. -/
def takeChecks (k : Checks) (t : Nat) (q : GnssPort) : GnssPort :=
  let fails := verdictBits (fun v => decide (v = some true)) k.verdicts
  let passes := verdictBits (fun v => decide (v = some false)) k.verdicts
  let f := q.failed ||| fails
  let clearing := f &&& passes
  { q with failed := f, unavail := ~~~(fails ||| passes), clearing := clearing,
           passSince := vmap (fun i x => if clearing.getLsbD i.val && !q.clearing.getLsbD i.val then t else x)
             q.passSince
           posSince := k.posSince, crossSince := k.crossSince, constSince := k.constSince,
           guardDist := k.guardDist }

/-- The solution reaches the reference, or its absence counts as a missing measurement. -/
def deliver (p : Fin 2) (offset : Option Int) (unc epoch : Nat) (s : State) : State :=
  let i := gnssRef p
  match offset with
  | some o =>
    let s := refArrival i s
    let s := if s.gnss.ports[p].clockFault then s else clearReason i 2 s
    takeOffset i o epoch (s.modRef i fun r => { r with uncertainty := unc })
  | none => refMiss i (addReason i 2 s)

/-- The item of the pan queue (R115). -/
def gnssItem (s : State) (e : GnssEpoch) (used : Nat) (offset : Option Int) (unc epoch : Nat) : GnssItem :=
  let p := e.port
  let q := s.gnss.ports[p]
  { epoch := epoch, offset := offset, uncertainty := unc, frequency := offset.map fun _ => e.frequency,
    port := p.val, fixMode := q.fix.mode, satsUsed := used, satsTracked := (trackedSats s p).length,
    tdop := e.tdop, cn0 := e.cn0, failed := q.failed.toNat, unavailable := q.unavail.toNat,
    flags := flag (dualBand s p) 0 + flag (decide (q.fix.scale = 1)) 1 + flag q.leapBad 2 +
      flag offset.isNone 3 + flag s.gnss.snapTaken 4 + flag (decide (q.badConsts ≠ 0)) 5 }

/-- The solution that an epoch's satellites allow (R109). -/
def solution (s : State) (e : GnssEpoch) : Option Int :=
  if enough s.gnss.ports[e.port].fix.mode (usedSats s e) then e.offset else none

/-- What an epoch leaves in its port: the checks, the last OFFSET, the histories and the figures of the solution. -/
def portEpoch (k : Checks) (t : Nat) (offset : Option Int) (refConst used : Nat) (guard : List GuardPoint)
    (noiseTap : Int) (q : GnssPort) : GnssPort :=
  { takeChecks k t q with
    guardHist := guard, noiseHist := (t, noiseTap) :: lastHour t q.noiseHist,
    last := if offset.isSome then offset else q.last, refConst := refConst, satsUsed := used }

/-- R115: an epoch, with a solution where the satellites suffice. -/
def execGnssEpoch (e : GnssEpoch) (s : State) : Out :=
  let p := e.port
  if s.refs[gnssRef p].state = .off ∨ !clockRuns s then .next s
  else
    let used := usedSats s e
    let offset := solution s e
    let unc := gnssUncertainty s e
    let refConst := refConstOf s.gnss.ports[p] e used
    let epoch := now s / ms16 (max 1 s.gnss.ports[p].fix.interval) * ms16 (max 1 s.gnss.ports[p].fix.interval)
    let s := takeExclusions p (newlyFaulty s e) (takeLeaps p e.leapCounts s)
    let k := checksOf s e used offset
    let newly := verdictBits (fun v => decide (v = some true)) k.verdicts &&& ~~~s.gnss.ports[p].failed
    let guard := guardHistory s e offset (k.verdicts.all fun v => decide (v ≠ some true))
    let s := s.modPort p (portEpoch k s.clock.ticks.toNat offset refConst used.length guard e.noiseTap)
    let s := deliver p offset unc epoch (answerChecks p k newly s)
    .next (enqueue 4 (.gnss (gnssItem s e used.length offset unc epoch))
      (s.modGnss fun g => { g with snapTaken := false }))

/-- R117: 600 s have passed. -/
def execSatelliteExclusionEnd (port : Fin 2) (sat : Sat) (s : State) : Out :=
  .next (s.modPort port fun q =>
    { q with excluded := q.excluded.filter fun y =>
        decide (y.1 ≠ sat) || decide (s.clock.ticks.toNat < y.2 + 600 * 10 ^ 9) })

/-- R119, R120: a failed check has passed for CLEAR_TIME. -/
def execCheckClear (port : Fin 2) (check : Fin 8) (s : State) : Out :=
  let q := s.gnss.ports[port]
  if q.clearing.getLsbD check.val ∧
      q.passSince[check] + q.consist.clearTime * 10 ^ 9 ≤ s.clock.ticks.toNat then
    let bit := BitVec.ofNat 8 (2 ^ check.val)
    let left := q.rejecting &&& ~~~bit
    let s := s.modPort port fun x =>
      { x with failed := x.failed &&& ~~~bit, clearing := x.clearing &&& ~~~bit,
               rejecting := left, badConsts := if check.val = 7 then 0 else x.badConsts,
               crossAlarm := x.crossAlarm && decide (check.val ≠ 6) }
    let s := if q.crossAlarm ∧ check.val = 6 then raise 0x0206 (1 + 13 * 256 + 14 * 65536) 0 s else s
    .next (if left = 0 ∧ q.rejecting ≠ 0 then clearReason (gnssRef port) 7 s else s)
  else .next s

end Sys2Proof.Machine
end

