-- ==== Sys2Proof/Machine/MarginOps.lean ====
section
/-! DEFINITION. Margin as the services use it (05): the published bound, delivery bounds, the
leap-indicator alarm, clockClass and clockAccuracy. -/

namespace Sys2Proof.Machine

/-- 2^-16 ns in ps, rounded up, and half of it. -/
def toPs (n : Nat) : Nat := (n * 1000 + 65535) / 65536
def halfPs (n : Nat) : Nat := (n * 1000 + 131071) / 131072

/-- The bound as the hardware publishes it now (R164, R165): past the horizon it grows at G, and 60 s
past it is unbounded. -/
def publishedNow (s : State) : Nat :=
  if !s.margin.stale then s.margin.published
  else
    let late := now s - s.margin.horizon
    if 60 * secUnit ≤ late then unbounded
    else satBound (s.margin.published + (s.margin.growth * late + secUnit - 1) / secUnit)

/-- R166: the delivery bound of a port. -/
def deliveryBound (s : State) (m : Fin 16) : Nat := satBound (publishedNow s + tsUnc s m)

/-- R175: the leap-indicator alarm of a MAC is judged. -/
def judgeAlarm (m : Fin 16) (s : State) : State :=
  let b := deliveryBound s m
  let a := s.margin.alarms[m]
  let new := if s.margin.cfg.liSet ≤ b ∨ b = unbounded then true
    else if b < s.margin.cfg.liClear then false else a
  s.modMargin fun x => { x with alarms := x.alarms.set m new }

/-- R177: the first row that holds the present state and the port's delivery bound; 8 for none. -/
def matchRow (s : State) (m : Fin 16) : Nat :=
  match s.margin.classTable.findIdx? fun r =>
      bitOf r.states (ductusCode s.ductus.state) && decide (deliveryBound s m ≤ r.limit) with
  | some i => i
  | none => 8

/-- A later row takes effect at once; an earlier one waits for CLASS_HOLD. -/
def judgeClass (m : Fin 16) (s : State) : State :=
  let r := matchRow s m
  let c := s.margin.classes[m]
  let new : ClassState :=
    if c.row ≤ r then { row := r, waiting := none }
    else if s.margin.cfg.classHold = 0 then { row := r, waiting := none }
    else { c with waiting := some r }
  s.modMargin fun x => { x with classes := x.classes.set m new }

/-- Every MAC is judged at a publication. -/
def judgeAll (s : State) : State :=
  forAll (fins 16) (fun m t => judgeClass m (judgeAlarm m t)) s

/-- The clockClass that a MAC sends. -/
def clockClassOf (s : State) (m : Fin 16) : Nat :=
  match s.margin.classTable[s.margin.classes[m].row]? with
  | some r => r.cls
  | none => 248

/-- R176: the smallest code whose limit is at least the bound. -/
def accuracyCode (bound : Nat) : Nat :=
  if bound = unbounded then 0xFE
  else
    let limits := [1, 25 * 10 ^ 0, 10, 25, 100, 250, 1000, 2500, 10000, 25000, 100000, 250000,
      1000000, 2500000, 10000000, 25000000, 100000000, 250000000, 1000000000, 2500000000,
      10000000000, 25000000000, 100000000000, 250000000000, 1000000000000, 10000000000000]
    match limits.zipIdx.find? fun (l, i) =>
        if i = 1 then decide (2 * bound ≤ 5) else decide (bound ≤ l) with
    | some (_, i) => if i < 25 then 0x17 + i else 0x30
    | none => 0x31

/-- R174: root dispersion in the NTP short format, units of 2^-16 s, rounded up. -/
def rootDispersion (bound : Nat) : Nat :=
  if bound = unbounded then 0xFFFFFFFF
  else min 0xFFFFFFFF ((bound * 65536 + 10 ^ 12 - 1) / 10 ^ 12)

end Sys2Proof.Machine
end

