-- ==== Sys2Proof/Machine/NtsOps.lean ====
section
/-! DEFINITION. The NTS service as other areas use it (11): service addresses, cookie master key
generations, policing and admission. -/

namespace Sys2Proof.Machine

/-! ### IP addresses -/

/-- The 16 octets of ADDRESS as a big-endian number: an IPv4 address in the low 32 bits. -/
def ipNumber (a : Nat) : Nat := ofLe (le 16 a).reverse

/-- A unicast address of a family. -/
def ipUnicast (v6 : Bool) (a : Nat) : Bool :=
  let n := ipNumber a
  if v6 then decide (n ≠ 0) && decide (n / 2 ^ 120 ≠ 0xFF)
  else within 1 (2 ^ 32 - 2) n && decide (n / 2 ^ 28 ≠ 0xE)

/-- R297 check 2, R321: multicast, broadcast, unspecified or loopback. -/
def ipBadSource (v6 : Bool) (a : Nat) : Bool :=
  !ipUnicast v6 a || (if v6 then decide (ipNumber a = 1) else decide (ipNumber a / 2 ^ 24 = 127))

/-- A VLAN-list entry or untagged. -/
def vlanOk (v : Nat) : Bool := decide (v < 64) || decide (v = 0xFF)

/-- ADDRESS is unicast once it is set: when it is written, and on an enabled address. -/
def addressOk (family address : Nat) (needed : Bool) : Bool :=
  if needed || decide (address ≠ 0) then ipUnicast (decide (family = 6)) address else true

/-- An enabled service address as the conflict check of R296 sees it. -/
structure Answering where
  family  : Nat
  address : Nat
  port    : Nat
  vlan    : Nat
  macs    : Nat
deriving DecidableEq, Repr

def overlaps (a b : Answering) : Bool :=
  decide (a.family = b.family) && decide (a.address = b.address) && decide (a.port = b.port) &&
  decide (a.vlan = b.vlan) && decide (a.macs &&& b.macs ≠ 0)

def ntsAnswering (c : NtsCfg) : Answering := ⟨c.family, c.address, c.udpPort, c.vlan, c.macMask⟩

/-- A PTP address answers on the event and the general port. -/
def ptpAnswering (c : PtpCfg) : List Answering :=
  [⟨c.family, c.address, 319, c.vlan, c.macMask⟩, ⟨c.family, c.address, 320, c.vlan, c.macMask⟩]

/-- The enabled NTS and PTP addresses other than one, standby ones apart (16 R450). -/
def otherNts (s : State) (but : Option (Fin 64)) : List Answering :=
  ((fins 64).filter fun i => decide (some i ≠ but) &&
    decide (s.net.nts.addresses[i].cfg.enable = 1) && !s.net.nts.addresses[i].standby).map
    fun i => ntsAnswering s.net.nts.addresses[i].cfg

def otherPtp (s : State) (but : Option (Fin 16)) : List Answering :=
  ((fins 16).filter fun i => decide (some i ≠ but) &&
    decide (s.net.ptp.addresses[i].cfg.enable = 1) && !s.net.ptp.addresses[i].standby).flatMap
    fun i => ptpAnswering s.net.ptp.addresses[i].cfg

/-! ### How an answer leaves (R308) -/

/-- The tag stack of the request, with the outermost PCP and DEI of the address. -/
def answerTags (pcp dei : Nat) : List Tag → List Tag
  | [] => []
  | t :: ts => { t with pcp := pcp, dei := dei } :: ts

/-- Addresses and ports of the request, swapped. -/
def answerWire (f : Frame) (pcp dei dscp hop : Nat) : Wire :=
  let ip := f.ip.getD ⟨false, 0, 0, false, true, false, 17⟩
  let udp := f.udp.getD ⟨0, 0, .ok⟩
  { da := f.sa, sa := f.da, tags := answerTags pcp dei f.tags, v6 := ip.v6, src := ip.dst,
    dst := ip.src, srcPort := udp.dstPort, dstPort := udp.srcPort, dscp := dscp, hop := hop }

/-! ### Counters (R297, R298, R314, R315) -/

def modAddress (i : Fin 64) (f : NtsAddress → NtsAddress) (s : State) : State :=
  s.modNts fun n => { n with addresses := upd n.addresses i f }

/-- One of the counters of an address, in the order of `NtsAddress.counters`. -/
def countNts (i : Fin 64) (k : Fin 21) : State → State :=
  modAddress i fun a => { a with counters := upd a.counters k fun n => (n + 1) % 2 ^ 64 }

abbrev nPolicedKod : Fin 21 := 11
abbrev nPolicedDrop : Fin 21 := 12
abbrev nNakCookie : Fin 21 := 13
abbrev nNakKey : Fin 21 := 14
abbrev nNakAuth : Fin 21 := 15
abbrev nEfUnknown : Fin 21 := 16
abbrev nPlaceholder : Fin 21 := 17
abbrev nRetiringOpens : Fin 21 := 18
abbrev nKodCapped : Fin 21 := 19
abbrev nNakCapped : Fin 21 := 20

/-- A check of R297 fails: rows 0 to 10 carry their own counters, row 12 is policing. -/
def ntsDrop (i : Fin 64) (k : Fin 21) (row : Nat) (s : State) : State :=
  markSummary 0x0610 i.val row (countNts i k s)

/-- Service egress stops: transactions in flight, reservations and the service's own frames that wait are
never sent (11 R306, 13 R343, R355; 16 R454). -/
def stopService (s : State) : State :=
  let own := fun (q : QFrame) => match q.origin with
    | .ring .. => true
    | .inject _ => true
    | _ => false
  let queue := fun (_ : Fin 32) (q : EgressQueue) =>
    { q with frames := q.frames.filter own,
             emptyAt := if q.frames = [] then q.emptyAt else s.clock.ticks.toNat }
  let mac := fun (_ : Fin 16) (c : Mac) => { c with queues := vmap queue c.queues }
  let s := dropAll ocLifecycle false s
  let s := s.modNet fun n => { n with macs := vmap mac n.macs }
  let s := s.modNts fun n => { n with requests := [] }
  s.modPtp fun p => { p with requests := [], negotiation := [], inbox := [] }

/-! ### Cookie master keys (R302) -/

def genSlot (g : Fin 8) : Nat := 32 + g.val

def modGen (g : Fin 8) (f : Generation → Generation) (s : State) : State :=
  s.modNts fun n => { n with gens := upd n.gens g f }

/-- The state of a generation that engines see. -/
def genState (s : State) (g : Fin 8) : Nat :=
  if s.net.nts.gens[g].committed then s.net.nts.gens[g].state else 0

/-- The generation in a state, and the one of a KEY_ID. -/
def genIn (s : State) (st : Nat) : Option (Fin 8) := (fins 8).find? fun g => decide (genState s g = st)

def genOf (s : State) (keyId : Nat) : Option (Fin 8) :=
  (fins 8).find? fun g => decide (genState s g ≠ 0) && decide (s.net.nts.gens[g].keyId = keyId)

/-- A PENDING key is held or being written. -/
def hasPending (s : State) : Bool := s.net.nts.gens.toList.any fun g => decide (g.state = 1)

/-- A generation is zeroised. -/
def dropGen (g : Fin 8) (s : State) : State :=
  let id := s.net.nts.gens[g].keyId
  dropBases (genSlot g) id (zeroSlot (genSlot g) (modGen g (fun _ => {}) s))

/-- The RETIRING generation with the earliest RETIRE_AT. -/
def earliestRetiring (s : State) : Option (Fin 8) :=
  ((fins 8).filter fun g => decide (genState s g = 3)).foldl (fun o g => match o with
    | none => some g
    | some h => if s.net.nts.gens[g].retireAt < s.net.nts.gens[h].retireAt then some g else some h) none

/-- It is zeroised early. -/
def evict (s : State) : State :=
  match earliestRetiring s with
  | some g => raise 0x0603 s.net.nts.gens[g].keyId 1 (dropGen g s)
  | none => s

/-- A slot that is free for a new generation. -/
def freeGen (s : State) : Option (Fin 8) :=
  (fins 8).find? fun g => decide (s.net.nts.gens[g].state = 0) &&
    !s.keys.writes.any fun w => decide (w.slot = genSlot g)

/-- A fresh key can be drawn (13 R351, R368, R369). -/
def canDraw (s : State) : Bool := serviceState s && s.keys.drbgReady && !s.keys.entropyFail

/-- A new key is drawn and its write begins: it stands PENDING, or CURRENT under R305, from its
commit. -/
def newKey (st : Nat) (s : State) : State :=
  if !canDraw s then s
  else
    let s := if (freeGen s).isSome then s else evict s
    match freeGen s with
    | none => s
    | some g =>
      let (k, s) := freshBytes 32 s
      let id := if s.net.nts.lastKeyId + 1 < 2 ^ 32 then s.net.nts.lastKeyId + 1 else 1
      let s := s.modNts fun n => { n with lastKeyId := id }
      beginWrite { slot := genSlot g, keyType := 1, material := k, use := .cookie g, source := none }
        (modGen g (fun _ => { state := st, keyId := id, committed := false }) s)

/-- Every other member has acknowledged a generation, and those that have not, by position. -/
def unacked (s : State) (g : Fin 8) : List (Fin 8) :=
  (otherMembers s).filter fun p => decide (p.val ∉ s.net.nts.gens[g].acked)

/-- Rotate-now commands that wait are completed. -/
def endRotateNow (status : Nat) (s : State) : State :=
  forAll s.net.nts.rotation.asked (fun x => completeCmd 0x0603 x.2.2 status x.2.1)
    (s.modNts fun n => { n with rotation := { n.rotation with asked := [] } })

/-- R304, R302: a key becomes CURRENT and the old one RETIRING until `retireAt`. -/
def makeCurrent (g : Fin 8) (oldKeyId retireAt : Nat) (s : State) : State :=
  let old := genIn s 2
  let retiring := ((fins 8).filter fun h => decide (genState s h = 3)).length
  let s := if old.isSome ∧ 6 ≤ retiring then evict s else s
  let oldId := match old with
    | some h => s.net.nts.gens[h].keyId
    | none => oldKeyId
  let s := match old with
    | some h => modGen h (fun x => { x with state := 3, retireAt := retireAt }) s
    | none => s
  let s := modGen g (fun x => { x with state := 2 }) s
  let s := s.modNts fun n =>
    { n with noCurrentTold := false,
             rotation := { n.rotation with due := none, told := false, commit := none } }
  endRotateNow stOk (raise 0x0602 s.net.nts.gens[g].keyId oldId s)

/-- A cookie master key's slot is written (13 R360). -/
def genWritten (g : Fin 8) (s : State) : State :=
  let x := s.net.nts.gens[g]
  if x.state = 0 ∨ x.committed then s
  else
    let s := modGen g (fun y => { y with committed := true }) s
    let rep := fun (t : State) => if isPrimary t then
      replicate (otherMembers t) (.key (keyRecord t (genSlot g) t.net.nts.gens[g].state x.keyId 0)) t else t
    if x.state = 1 then rep (raise 0x0601 x.keyId 0 s)
    else
      let s := modGen g (fun y => { y with state := 1 }) s
      rep (makeCurrent g 0 0 s)

/-! ### The AES rate and its buckets (R316) -/

/-- The NTS rate in force: that of the slower mode during a change, scaled by the engines in service
(01 R45, R48; 17 R472). -/
def ntsRateNow (s : State) : Nat := ntsRate (ruleMode s) * inService s 1 / 24

/-- Both buckets accrue up to the present tick. -/
def settleBuckets (s : State) : State :=
  let d := s.clock.ticks.toNat - s.net.nts.bucketAt
  let r := ntsRateNow s
  s.modNts fun n =>
    { n with txBucket := min (1536 * 10 ^ 9) (n.txBucket + r * d),
             blkBucket := min (122880 * 10 ^ 9) (n.blkBucket + 80 * r * d),
             bucketAt := s.clock.ticks.toNat }

def ceilDiv (a b : Nat) : Nat := (a + b - 1) / b

/-- The cost of a transaction in AES blocks. -/
def aesCost (aq nq eq ar er k : Nat) : Nat :=
  2 + ceilDiv aq 16 + ceilDiv nq 16 + max 1 (ceilDiv eq 16) + ceilDiv eq 16 + 13 + 13 * k +
  (2 + ceilDiv ar 16 + 1 + 2 * ceilDiv er 16)

/-! ### The parts of a request -/

/-- Its Unique Identifier body, its cookie body, its authenticator, and its valid placeholders. -/
def uidOf (m : NtpMsg) : List Nat :=
  (m.fields.findSome? fun f => match f with
    | .uid _ b => some b
    | _ => none).getD []

def cookieOf (m : NtpMsg) : Bytes :=
  (m.fields.findSome? fun f => match f with
    | .cookie _ b => some b
    | _ => none).getD []

def authOf (m : NtpMsg) : Bytes × Bytes :=
  (m.fields.findSome? fun f => match f with
    | .auth _ n c _ => some (n, c)
    | _ => none).getD ([], [])

def placeholders (m : NtpMsg) : Nat :=
  m.fields.countP fun f => match f with
    | .placeholder _ n => decide (n = 104)
    | _ => false

/-- The octets of the Unique Identifier's body. -/
def uidBytes (m : NtpMsg) : Bytes := (uidOf m).map (BitVec.ofNat 8)

/-- The largest payload-fitting count of cookies (R311). -/
def fitCookies (uidLen reqLen : Nat) : Nat := (reqLen - (48 + 4 + uidLen + 24 + 16)) / 108

/-- k of R311, from the number of valid placeholders. -/
def cookieCount (cfg : NtsCfg) (m : NtpMsg) (holders : Nat) : Nat :=
  min (min (1 + holders) cfg.cookiesMax) (fitCookies (uidOf m).length m.length)

/-! ### Policing (R312 to R314) -/

def modProfile (p : Fin 8) (f : Profile → Profile) (s : State) : State :=
  s.modNts fun n => { n with profiles := upd n.profiles p f }

/-- The source of a request: its address truncated to the profile's prefix, with the profile number; the
boot names the hash key. -/
def sourceOf (s : State) (p : Fin 8) (ip : IpHdr) : Nat :=
  let c := s.net.nts.profiles[p].cfg
  let n := ipNumber ip.src
  let cut := if ip.v6 then n / 2 ^ (128 - c.prefixV6) else n / 2 ^ (32 - c.prefixV4)
  ((s.keys.bootCount * 16 + p.val * 2 + (if ip.v6 then 1 else 0)) * 2 ^ 128) + cut

/-- The three counters of a source. -/
def sketchKeys (src : Nat) : List Nat :=
  (List.range 3).map fun r => r * 131072 + Config.sketchHash src r % 131072

def sketchMin (bank : List (Nat × Nat)) (ks : List Nat) : Nat :=
  ks.foldl (fun n k => min n ((assoc bank k).getD 0)) 0xFFFF

/-- Conservative update: only the counters that hold the minimum rise, and they saturate. -/
def sketchAdd (bank : List (Nat × Nat)) (ks : List Nat) : List (Nat × Nat) :=
  let m := sketchMin bank ks
  ks.foldl (fun b k =>
    if (assoc bank k).getD 0 = m then assocSet b k (min 0xFFFF (m + 1)) else b) bank

/-- R313: the request is counted; whether its source is over the limit. -/
def police (p : Fin 8) (ip : IpHdr) (s : State) : Bool × State :=
  let ks := sketchKeys (sourceOf s p ip)
  let s := s.modNts fun n => { n with sketch := sketchAdd n.sketch ks }
  let limit := s.net.nts.profiles[p].cfg.limit
  let rest := secUnit - now s % secUnit
  let est := sketchMin s.net.nts.sketch ks * secUnit + sketchMin s.net.nts.sketchOld ks * rest
  (decide (limit ≠ 0xFFFFFFFF) && decide (limit * secUnit < est), s)

/-! ### Admission (01 R35, R36; R297, R316) -/

/-- Lines of 64 B in the packet buffer of an activity (01 R34, R37). -/
def lines (n : Nat) : Nat := ceilDiv n 64

def reservedLines (s : State) (p : Origin → Bool) : Nat :=
  s.net.macs.toList.foldl (fun n c =>
    n + ((c.calendar.filter fun r => p r.origin).map fun r => lines r.length).foldl (· + ·) 0) 0

def ntsBufferFull (s : State) (len : Nat) : Bool :=
  decide (131072 < (s.net.nts.requests.map fun q => lines q.frame.length).foldl (· + ·) 0 +
    reservedLines s isNts + lines len)

/-- Transactions of the NTS share. -/
def ntsInFlight (s : State) : Nat := s.net.nts.requests.length + inFlight s isNts

/-- A request that is dropped under R36. -/
def ntsShareDrop (i : Fin 64) (s : State) : State :=
  markMask 0x0610 i.val 0 (s.modNts fun n => { n with admissionDrop := (n.admissionDrop + 1) % 2 ^ 64 })

/-- A place in the share, and tokens for a request that is to reach an engine. -/
def admitNts (q : NtsRequest) (blocks : Option Nat) (s : State) : Option State :=
  if 1536 ≤ ntsInFlight s then none
  else
    let put := fun (t : State) => t.modNts fun n => { n with requests := n.requests ++ [q] }
    match blocks with
    | none => some (countAdmitted 3 (put s))
    | some b =>
      let s := settleBuckets s
      if s.net.nts.txBucket < 10 ^ 9 ∨ s.net.nts.blkBucket < b * 10 ^ 9 then none
      else some (countAdmitted 3 (put (s.modNts fun n =>
        { n with txBucket := n.txBucket - 10 ^ 9, blkBucket := n.blkBucket - b * 10 ^ 9 })))

/-- Checks 3 to 11 of R297: the counter, which is also the row, of the first that fails. -/
def ntsForm (cfg : NtsCfg) (m : NtpMsg) : Option (Fin 21) :=
  let isAuth := fun (f : ExtField) => match f with
    | .auth .. => true
    | _ => false
  let isUid := fun (f : ExtField) => match f with
    | .uid .. => true
    | _ => false
  let isCookie := fun (f : ExtField) => match f with
    | .cookie .. => true
    | _ => false
  let lastAuth := match m.fields.getLast? with
    | some (.auth _ n c ok) => some (n.length, c.length, ok)
    | _ => none
  if m.length < 48 ∨ m.length % 4 ≠ 0 then some 2
  else if m.version ≠ 4 then some 3
  else if m.mode ≠ 3 then some 4
  else if m.badField then some 5
  else if m.fields = [] then (if cfg.auth = 0 then some 6 else none)
  else match lastAuth with
    | none => some 7
    | some (n, c, ok) =>
      if m.fields.countP isAuth ≠ 1 then some 7
      else if n < 16 ∨ 64 < n ∨ c < 16 ∨ !ok then some 8
      else if m.fields.countP isUid ≠ 1 ∨ !within 32 256 (uidOf m).length then some 9
      else if m.fields.countP isCookie ≠ 1 then some 10
      else none

/-- Check 13: the profile's answer. A RATE answer takes a place of KOD_MAX. -/
inductive Policed where
  | pass (rate : Bool)
  | drop

def policeRequest (i : Fin 64) (p : Fin 8) (ip : IpHdr) (plain : Bool) (s : State) : Policed × State :=
  let (policed, s) := police p ip s
  let c := s.net.nts.profiles[p]
  let drop := fun (row : Nat) => markSummary 0x0611 p.val row (ntsDrop i nPolicedDrop 12 s)
  if !policed then (.pass false, s)
  else if plain then (.drop, drop 4)
  else if c.cfg.action = 1 then (.drop, drop 2)
  else if c.cfg.kodMax ≤ c.kods then (.drop, markSummary 0x0611 p.val 1 (countNts i nKodCapped s))
  else (.pass true, modProfile p (fun x => { x with kods := x.kods + 1 }) s)

/-- R297: a request that reached an NTS service address and passed the port checks. -/
def ntsRequest (i : Fin 64) (f : Frame) (ip : IpHdr) (srcPort : Nat) (m : NtpMsg) (stamp : Nat)
    (s : State) : State :=
  let cfg := s.net.nts.addresses[i].cfg
  let bad := decide (srcPort = 0) || ip.options || decide (f.da ∉ s.net.macs[f.mac].cfg.macAddr) ||
    ipBadSource ip.v6 ip.src || decide (ip.src = cfg.address)
  if !counterForm s ∨ s.clock.leap.unset ∨ !serviceState s then ntsDrop i 0 0 s
  else if bad then ntsDrop i 1 1 s
  else match ntsForm cfg m with
    | some k => ntsDrop i k k.val s
    | none =>
      let plain : Bool := decide (m.fields = [])
      let p : Fin 8 := (asFin 8 cfg.profile).getD 0
      match policeRequest i p ip plain s with
      | (.drop, s) => s
      | (.pass rate, s) =>
        let q : NtsRequest := { address := i, frame := f, stamp := stamp, rate := rate,
                                plain := plain, cfg := cfg }
        let k := cookieCount cfg m (placeholders m)
        let cost := aesCost m.octets.length (authOf m).1.length ((authOf m).2.length - 16)
          (52 + (uidOf m).length) (108 * k) k
        match admitNts q (if plain then none else some cost) s with
        | some s => s
        | none =>
          let s := if rate then modProfile p (fun x => { x with kods := x.kods - 1 }) s else s
          ntsShareDrop i s

end Sys2Proof.Machine
end

