-- ==== Sys2Proof/Machine/Nts.lean ====
section
/-! DEFINITION. The NTS service: its commands, transactions, cookie master keys and minting (11). -/

namespace Sys2Proof.Machine

/-! ### Service addresses (R296) -/

def ntsTable : Table NtsCfg where
  flds := [one 1, one 1, one 16, one 2, one 2, one 1, { widths := [1, 1] }, one 1, one 1, one 1,
    one 1, one 1, one 1, one 4, { widths := [1, 1] }, one 1, one 4]
  rows c := [[c.enable], [c.family], [c.address], [c.udpPort], [c.macMask], [c.vlan], [c.pcp, c.dei],
    [c.dscp], [c.hopLimit], [c.leapMode], [c.auth], [c.stratum], [c.precision], [c.refid],
    [c.minPoll, c.maxPoll], [c.profile], [c.cookiesMax]]
  ofRows r := { enable := val r 0, family := val r 1, address := val r 2, udpPort := val r 3,
                macMask := val r 4, vlan := val r 5, pcp := val r 6, dei := (row r 6).getD 1 0,
                dscp := val r 7, hopLimit := val r 8, leapMode := val r 9, auth := val r 10,
                stratum := val r 11, precision := val r 12, refid := val r 13,
                minPoll := val r 14, maxPoll := (row r 14).getD 1 0, profile := val r 15,
                cookiesMax := val r 16 }

def ntsValid (c : NtsCfg) (sel : Nat → Bool) : Bool :=
  decide (c.enable ≤ 1) && (decide (c.family = 4) || decide (c.family = 6)) &&
  addressOk c.family c.address (sel 2 || decide (c.enable = 1)) && decide (c.udpPort ≠ 0) &&
  vlanOk c.vlan && decide (c.pcp ≤ 7) && decide (c.dei ≤ 1) && decide (c.dscp ≤ 63) &&
  within 1 255 c.hopLimit && decide (c.leapMode ≤ 1) && decide (c.auth ≤ 1) &&
  within 1 15 c.stratum && withinInt (-32) (-20) (ofCode 8 c.precision) &&
  within 3 17 c.minPoll && within c.minPoll 17 c.maxPoll && decide (c.profile ≤ 7) &&
  within 1 8 c.cookiesMax

/-- The conflict check of R296, NTS and PTP addresses alike. -/
def ntsConflict (s : State) (i : Fin 64) (c : NtsCfg) : Bool :=
  decide (c.enable = 1) && !s.net.nts.addresses[i].standby &&
  (otherNts s (some i) ++ otherPtp s none).any (overlaps (ntsAnswering c))

def putNts (i : Fin 64) (rows : Rows) (sel : Nat → Bool) (s : State) : Except Nat State := do
  let c := ntsTable.ofRows rows
  need (ntsValid c sel) eRange
  need (!ntsConflict s i c) eState
  pure (replicateConfig 0x0601 i.val (modAddress i (fun a => { a with cfg := c }) s))

def execServiceAddressConfigure (r : Req) (g : GReq) (s : State) : Out :=
  runConfig 0x0601 ntsTable.flds r g
    (fun s => (asFin 64 g.index).map fun i => ntsTable.rows s.net.nts.addresses[i].cfg)
    (fun rows s => match asFin 64 g.index with
      | none => .error eRange
      | some i => putNts i rows (selects g) s) s

def execServiceAddressConfigReadBack (r : Req) (index : Nat) (s : State) : Out :=
  runReadBack 0x0681 ntsTable.flds r index
    (fun s => (asFin 64 index).map fun i => ntsTable.rows s.net.nts.addresses[i].cfg) s

/-! ### Policing profiles (R312, R313) -/

def profileTable : Table ProfileCfg where
  flds := [one 4, one 4, one 4, one 1, one 1, one 4, one 4]
  rows c := [[c.prefixV4], [c.prefixV6], [c.limit], [c.action], [c.kodPoll], [c.kodMax], [c.nakMax]]
  ofRows r := { prefixV4 := val r 0, prefixV6 := val r 1, limit := val r 2, action := val r 3,
                kodPoll := val r 4, kodMax := val r 5, nakMax := val r 6 }

def profileValid (c : ProfileCfg) : Bool :=
  within 8 32 c.prefixV4 && within 32 128 c.prefixV6 &&
  (within 16 1000000 c.limit || decide (c.limit = 0xFFFFFFFF)) && decide (c.action ≤ 1) &&
  within 4 17 c.kodPoll && decide (c.kodMax ≤ 10000000) && decide (c.nakMax ≤ 10000000)

def putProfile (p : Fin 8) (rows : Rows) (s : State) : Except Nat State := do
  let c := profileTable.ofRows rows
  need (profileValid c) eRange
  pure (replicateConfig 0x0606 p.val (modProfile p (fun x => { x with cfg := c }) s))

def execPolicingProfile (r : Req) (g : GReq) (s : State) : Out :=
  runConfig 0x0606 profileTable.flds r g
    (fun s => (asFin 8 g.index).map fun p => profileTable.rows s.net.nts.profiles[p].cfg)
    (fun rows s => match asFin 8 g.index with
      | none => .error eRange
      | some p => putProfile p rows s) s

def execPolicingProfileReadBack (r : Req) (index : Nat) (s : State) : Out :=
  runReadBack 0x0686 profileTable.flds r index
    (fun s => (asFin 8 index).map fun p => profileTable.rows s.net.nts.profiles[p].cfg) s

/-- At a second boundary the older bank is cleared and becomes the present one; the profiles' counts of
the second start again. -/
def execPolicingBankSwap (s : State) : Out :=
  let f := fun (_ : Fin 8) (p : Profile) => { p with kods := 0, naks := 0 }
  .next (s.modNts fun n =>
    { n with sketch := [], sketchOld := n.sketch, profiles := vmap f n.profiles })

/-! ### Rotation (R303 to R306) -/

def rotationTable : Table RotationCfg where
  flds := [one 4, one 4, one 4, one 4]
  rows c := [[c.interval], [c.phase], [c.grace], [c.lead]]
  ofRows r := { interval := val r 0, phase := val r 1, grace := val r 2, lead := val r 3 }

def rotationValid (c : RotationCfg) : Bool :=
  within 3600 2592000 c.interval && decide (c.phase < c.interval) &&
  within c.interval (6 * c.interval) c.grace && within 10 3600 c.lead && decide (c.lead < c.interval)

def rotationCfg (s : State) : RotationCfg := s.net.nts.rotation.next.getD s.net.nts.rotation.cfg

def modRotation (f : Rotation → Rotation) (s : State) : State :=
  s.modNts fun n => { n with rotation := f n.rotation }

def putRotation (rows : Rows) (s : State) : Except Nat State := do
  let c := rotationTable.ofRows rows
  need (rotationValid c) eRange
  pure (replicateConfig 0x0602 0xFFFF (modRotation (fun x => { x with next := some c }) s))

def execRotationConfigure (r : Req) (g : GReq) (s : State) : Out :=
  runConfig 0x0602 rotationTable.flds r g
    (fun s => if g.index = 0xFFFF then some (rotationTable.rows (rotationCfg s)) else none)
    putRotation s

def execRotationConfigureReadBack (r : Req) (index : Nat) (s : State) : Out :=
  runReadBack 0x0682 rotationTable.flds r index
    (fun s => if index = 0xFFFF then some (rotationTable.rows (rotationCfg s)) else none) s

def execRotateNow (r : Req) (s : State) : Out :=
  runAccepted 0x0603 0 r (fun q s => do
    need (serviceState s) eState
    need (ownsRotation s) eStack
    need (hasPending s || !s.keys.entropyFail) eHw
    let s := if hasPending s then s else newKey 1 s
    pure (modRotation (fun x => { x with asked := x.asked ++ [(now s + secUnit, r.src, q)] }) s)) s

/-- The first rotation instant at or after a device time. -/
def nextInstant (c : RotationCfg) (u : Nat) : Nat :=
  let i := c.interval * secUnit
  let p := c.phase * secUnit
  if u ≤ p then c.phase else (u - p + i - 1) / i * c.interval + c.phase

/-- The instant that the schedule waits for. -/
def instantNow (s : State) : Nat :=
  match s.net.nts.rotation.instant with
  | some r => if nowSec s ≤ r then r else nextInstant s.net.nts.rotation.cfg (now s)
  | none => nextInstant s.net.nts.rotation.cfg (now s)

/-- At R the values that wait take effect and the key PENDING is due; the next instant is computed with
the new values. -/
def reachInstant (r : Nat) (s : State) : State :=
  modRotation (fun x =>
    let c := x.next.getD x.cfg
    { x with cfg := c, next := none, due := if hasPending s ∧ ownsRotation s then some (r * secUnit) else x.due,
             told := false, instant := some (nextInstant c (r * secUnit + 1)) }) s

/-- Rotate-now commands whose R has come. -/
def reachAsked (s : State) : State :=
  match s.net.nts.rotation.asked.find? fun x => decide (x.1 ≤ now s) with
  | none => s
  | some (r, _, _) =>
    let s := if hasPending s then s else newKey 1 s
    if hasPending s then modRotation (fun x => { x with due := some (x.due.getD r) }) s
    else endRotateNow eHw s

/-- A of R304: R, or the second boundary 10 ms after the last acknowledgement. -/
def activationTime (s : State) (r : Nat) : Nat :=
  if otherMembers s = [] then r
  else max r (ceilDiv (s.net.nts.rotation.ackAt + ms16 10) secUnit * secUnit)

/-- The PENDING key that is due is activated once every member has acknowledged it. -/
def settleDue (s : State) : State :=
  match s.net.nts.rotation.due, s.net.nts.rotation.commit with
  | some r, none => match genIn s 1 with
    | some g =>
      let id := s.net.nts.gens[g].keyId
      let wait := unacked s g
      if wait = [] then
        let a := activationTime s r
        let old := ((genIn s 2).map fun h => s.net.nts.gens[h].keyId).getD 0
        let retire := a + s.net.nts.rotation.cfg.grace * secUnit
        let s := modRotation (fun x => { x with commit := some ⟨id, old, a, retire⟩ }) s
        replicate (otherMembers s) (.activate id old a retire) s
      else if s.net.nts.rotation.told then s
      else
        let bits := wait.foldl (fun n p => n + 2 ^ p.val) 0
        raise 0x0605 id bits (modRotation (fun x => { x with told := true }) s)
    | none => if hasPending s then s else modRotation (fun x => { x with due := none }) s
  | _, _ => s

/-- Scribe checks the schedule; it follows it in the counter form only, and only the device that owns
rotation makes and activates keys. -/
def execRotationCheck (s : State) : Out :=
  if !s.host.supervisor then .next s
  else if !counterForm s then .next (modRotation (fun x => { x with instant := none }) s)
  else
    let r := instantNow s
    let s := modRotation (fun x => { x with instant := some r }) s
    let owns := ownsRotation s && serviceState s
    let s := if owns ∧ r ≤ nowSec s + s.net.nts.rotation.cfg.lead ∧ !hasPending s then newKey 1 s else s
    let s := if nowSec s = r then reachInstant r s else s
    if owns then .next (settleDue (reachAsked s)) else .next s

/-- At A. -/
def execKeyActivation (s : State) : Out :=
  match s.net.nts.rotation.commit with
  | none => .next s
  | some x =>
    if !s.host.supervisor ∨ !counterForm s ∨ now s < x.a then .next s
    else match genOf s x.keyId with
      | some g =>
        if genState s g = 1 then .next (makeCurrent g x.oldKeyId x.retireAt s)
        else .next (modRotation (fun y => { y with commit := none }) s)
      | none => .next (modRotation (fun y => { y with commit := none }) s)

/-- RETIRING keys at their RETIRE_AT. -/
def execKeyRetire (s : State) : Out :=
  if !s.host.supervisor ∨ !clockRuns s then .next s
  else
    let due := (fins 8).filter fun g =>
      decide (genState s g = 3) && decide (s.net.nts.gens[g].retireAt ≤ now s)
    .next (forAll due (fun g t => raise 0x0603 t.net.nts.gens[g].keyId 0 (dropGen g t)) s)

/-! ### Invalidation (R305) -/

/-- Reservations whose transactions have read a master key. -/
def readsKey (id : Nat) (r : Reservation) : Bool :=
  match r.origin with
  | .nts _ ids => decide (id ∈ ids)
  | _ => false

def keyReaders (s : State) (id : Nat) : Nat :=
  s.net.macs.toList.foldl (fun n c => n + c.calendar.countP (readsKey id)) 0

/-- Step 2: they are discarded, never sent, and counted. -/
def discardReaders (id : Nat) (s : State) : State :=
  let n := keyReaders s id
  let f := fun (_ : Fin 16) (c : Mac) =>
    { c with calendar := c.calendar.filter fun r => !readsKey id r }
  let s := s.modNet fun x => { x with macs := vmap f x.macs }
  s.modNts fun x => { x with inflightDropped := (x.inflightDropped + n) % 2 ^ 64 }

/-- Step 3: the PENDING key where every member has acknowledged it, else a new key. -/
def replaceCurrent (oldId : Nat) (s : State) : State :=
  match genIn s 1 with
  | some g =>
    if unacked s g = [] then
      let id := s.net.nts.gens[g].keyId
      let s := makeCurrent g oldId (now s) s
      if isPrimary s then replicate (otherMembers s) (.activate id oldId (now s) (now s)) s else s
    else newKey 2 s
  | none => newKey 2 s

/-- Every member is told that a slot is EMPTY. -/
def emptyOnMembers (slot id : Nat) (s : State) : State :=
  if isPrimary s then replicate (otherMembers s) (.key (keyRecord s slot 0 id 0)) s else s

def invalidate (g : Fin 8) (s : State) : State :=
  let id := s.net.nts.gens[g].keyId
  let was := genState s g
  let n := keyReaders s id
  let s := discardReaders id (emptyOnMembers (genSlot g) id (dropGen g s))
  let s := if was = 1 then modRotation (fun x => { x with commit := none }) s else s
  let s := if was = 2 then replaceCurrent id s else s
  let s := raise 0x0604 id n s
  if was = 1 ∧ s.net.nts.rotation.asked ≠ [] then
    let s := newKey 1 s
    if hasPending s then s else endRotateNow eHw s
  else s

def execInvalidateKey (r : Req) (keyId : Nat) (s : State) : Out :=
  runSimple 0x0604 4 r (fun s => do
    need (ownsRotation s) eStack
    match genOf s keyId with
    | some g => pure (invalidate g s)
    | none => .error eKey) s

/-! ### Minting (R299, R307) -/

/-- A cookie under a generation, sealed by an engine. -/
def mintCookie (engine : Nat) (g : Fin 8) (c2s s2c : Bytes) (s : State) : Bytes × State :=
  let id := s.net.nts.gens[g].keyId
  let (nonce, s) := takeNonce engine (genSlot g) id s
  let plain := be 2 15 ++ le 2 0 ++ c2s ++ s2c
  (be 4 id ++ nonce ++ Config.sivSeal (material (slotAt s (genSlot g))) [be 4 id] nonce plain, s)

def mintCookies (engine : Nat) (g : Fin 8) (c2s s2c : Bytes) : Nat → State → List Bytes × State
  | 0, s => ([], s)
  | n + 1, s =>
    let (c, s) := mintCookie engine g c2s s2c s
    let (l, s) := mintCookies engine g c2s s2c n s
    (c :: l, s)

abbrev mintIn : Nat := 0x02000000
abbrev mintOut : Nat := 0x02010000

/-- One entry of the mint area: its keys are overwritten as they are read. -/
def mintEntry (i : Nat) (acc : Nat × State) : Nat × State :=
  let (total, s) := acc
  let e := dpRead s (mintIn + 80 * i) 80
  let s := dpWrite (mintIn + 80 * i + 16) (le 64 0) s
  let count := ofLe ((e.drop 10).take 1)
  let answer := fun (status n id : Nat) (cookies : List Bytes) (s : State) =>
    let body := cookies.flatMap fun c => (c ++ le 104 0).take 104
    dpWrite (mintOut + 856 * i) (e.take 8 ++ le 2 status ++ le 1 n ++ le 1 0 ++ le 4 id ++
      body ++ le (832 - body.length) 0 ++ le 8 0) s
  if ofLe ((e.drop 8).take 2) ≠ 15 ∨ !within 1 8 count then (total, answer eRange 0 0 [] s)
  else match genIn s 2 with
    | none => (total, answer eKey 0 0 [] s)
    | some g =>
      let (l, s) := mintCookies 0xFF g ((e.drop 16).take 32) ((e.drop 48).take 32) count s
      (total + count, answer stOk count s.net.nts.gens[g].keyId l s)

def execCookieMint (r : Req) (entries : Nat) (s : State) : Out :=
  runAccepted 0x0605 2 r (fun q s => do
    need (within 1 256 entries) eRange
    need (serviceState s && s.net.nts.mint.isNone) eState
    pure (s.modNts fun n => { n with mint := some (entries, r.src, q) })) s

def execMintComplete (s : State) : Out :=
  match s.net.nts.mint with
  | none => .next s
  | some (n, src, q) =>
    let (total, s) := (List.range n).foldl (fun acc i => mintEntry i acc) (0, s)
    .next (completeCmd 0x0605 q stOk src (raise 0x0606 n total
      (s.modNts fun x => { x with mint := none })))

/-! ### Status (R302) -/

def genRecord (s : State) (g : Fin 8) : Bytes :=
  let x := s.net.nts.gens[g]
  if genState s g = 0 then le 16 0
  else le 4 x.keyId ++ le 1 x.state ++ le 3 0 ++ le 8 (x.retireAt / secUnit)

/-- The counters of R297, R298, R306 and R314 in the order of first appearance. -/
def ntsCounters (s : State) (i : Fin 64) : List Nat :=
  let c := s.net.nts.addresses[i].counters.toList
  c.take 19 ++ [s.net.nts.inflightDropped] ++ c.drop 19

def execNtsStatus (r : Req) (address : Nat) (s : State) : Out :=
  runRead 0x0610 (r.len = 1) r (fun s => match asFin 64 address with
    | none => .error eRange
    | some i =>
      .ok ((fins 8).flatMap (genRecord s) ++ (ntsCounters s i).flatMap (le 8))) s

/-! ### Transactions (R298, R306, R308, R309, R311, R314) -/

/-- The automatic Reference ID. -/
def autoRefId (s : State) : Bytes :=
  let text := fun (a b c d : Nat) => [a, b, c, d].map (BitVec.ofNat 8)
  match s.ductus.lastAnchor with
  | none => text 0x49 0x4E 0x49 0x54
  | some i => match refKind i with
    | .gnss =>
      match s.gnss.ports[(if i.val = 13 then 0 else 1 : Fin 2)].refConst with
      | 0 => text 0x47 0x50 0x53 0
      | 1 => text 0x47 0x41 0x4C 0
      | _ => text 0x42 0x44 0x53 0
    | .ptpu => text 0x50 0x54 0x50 0
    | .stack => text 0x53 0x54 0x4B 0
    | _ => text 0x50 0x50 0x53 0

def refIdOf (s : State) (c : NtsCfg) : Bytes := if c.refid = 0 then autoRefId s else le 4 c.refid

/-- The parts of every answer. -/
def ntsBase (q : NtsRequest) (m : NtpMsg) (s : State) : Reply :=
  { wire := answerWire q.frame q.cfg.pcp q.cfg.dei q.cfg.dscp q.cfg.hopLimit,
    precision := q.cfg.precision, origin := m.transmit, uid := uidBytes m, poll := m.poll,
    ingress := q.stamp, smear := decide (q.cfg.leapMode = 1), refTai := s.ductus.refTime,
    bound := deliveryBound s q.frame.mac, asked := 0 }

/-- A response, RATE answer or plain response: its LI, stratum, poll and Reference ID (R308, R309). -/
def ntsAnswer (kind : Nat) (q : NtsRequest) (m : NtpMsg) (s : State) : Reply :=
  let b := ntsBase q m s
  let b := { b with kind := kind, rootDisp := rootDispersion b.bound }
  if kind = 2 then
    let kp : Nat := match asFin 8 q.cfg.profile with
      | some p => s.net.nts.profiles[p].cfg.kodPoll
      | none => 10
    { b with li := 3, stratum := 0, poll := max m.poll (kp : Int),
             refId := [0x52, 0x41, 0x54, 0x45] }
  else
    let li := if s.margin.alarms[q.frame.mac] || tableExpired s then 3 else 0
    { b with li := li, stratum := if li = 3 then 16 else q.cfg.stratum,
             poll := min (max m.poll (ofCode 8 q.cfg.minPoll)) (ofCode 8 q.cfg.maxPoll),
             refId := refIdOf s q.cfg }

def ntsNak (q : NtsRequest) (m : NtpMsg) (s : State) : Reply :=
  { ntsBase q m s with kind := 1, li := 3, refId := [0x4E, 0x54, 0x53, 0x4E] }

/-- The reservation of an answer: no earlier than the ingress stamp and the launch lead. -/
def ntsReserve (engine : Nat) (q : NtsRequest) (keyIds : List Nat) (r : Reply) (s : State) :
    Option State :=
  (reserve { mac := q.frame.mac, queue := 0, requester := engine,
             tReq := q.stamp * calZt + launchLead s .nts * calNs,
             length := frameLength r.wire (ntpLength r), origin := .nts q.address keyIds,
             reply := r } s).map (·.2)

/-- The types and body lengths of encrypted extension fields. -/
def innerFields : Nat → Bytes → List (Nat × Nat)
  | 0, _ => []
  | n + 1, b =>
    let len := ofLe ((b.drop 2).take 2).reverse
    if b.length < 4 ∨ len < 4 ∨ b.length < len then []
    else (ofLe (b.take 2).reverse, len - 4) :: innerFields n (b.drop len)

/-- Unknown fields and placeholders of the wrong size, outside and inside the encryption. -/
def unknownFields (m : NtpMsg) (inner : List (Nat × Nat)) : Nat :=
  (m.fields.countP fun f => match f with
    | .other _ => true
    | _ => false) +
  inner.countP fun x => decide (x.1 ∉ [0x0104, 0x0204, 0x0304, 0x0404])

def badHolders (m : NtpMsg) (inner : List (Nat × Nat)) : Nat :=
  (m.fields.countP fun f => match f with
    | .placeholder _ n => decide (n ≠ 104)
    | _ => false) + inner.countP fun x => decide (x.1 = 0x0304) && decide (x.2 ≠ 104)

def countTimes (i : Fin 64) (k : Fin 21) (n : Nat) (s : State) : State :=
  modAddress i (fun a => { a with counters := upd a.counters k fun c => (c + n) % 2 ^ 64 }) s

/-- A check of R298 fails: a NAK within NAK_MAX, and nothing for a RATE answer. -/
def ntsFail (engine : Nat) (q : NtsRequest) (m : NtpMsg) (keyIds : List Nat) (k : Fin 21) (row : Nat)
    (s : State) : Option State :=
  let p : Fin 8 := (asFin 8 q.cfg.profile).getD 0
  if q.rate then
    let s := modProfile p (fun x => { x with kods := x.kods - 1 }) s
    some (markSummary 0x0611 p.val 0 (ntsDrop q.address nPolicedDrop 12 s))
  else
    let s := markSummary 0x0612 q.address.val row (countNts q.address k s)
    if s.net.nts.profiles[p].cfg.nakMax ≤ s.net.nts.profiles[p].naks then
      some (markSummary 0x0611 p.val 3 (countNts q.address nNakCapped s))
    else
      ntsReserve engine q keyIds (ntsNak q m s)
        (modProfile p (fun x => { x with naks := x.naks + 1 }) s)

/-- A request that passed every check: fresh cookies under the CURRENT key, or a RATE answer. -/
def ntsOk (engine : Nat) (q : NtsRequest) (m : NtpMsg) (g : Fin 8) (c2s s2c inner : Bytes)
    (s : State) : Option State :=
  let id := s.net.nts.gens[g].keyId
  let parts := innerFields inner.length inner
  let s := if genState s g = 3 then countNts q.address nRetiringOpens s else s
  let s := countTimes q.address nEfUnknown (unknownFields m parts) s
  let s := countTimes q.address nPlaceholder (badHolders m parts) s
  let sealed := fun (r : Reply) (l : List Bytes) =>
    { r with s2c := s2c, keySlot := genSlot g, keyId := id, cookies := l }
  if q.rate then
    let p : Fin 8 := (asFin 8 q.cfg.profile).getD 0
    let s := markSummary 0x0611 p.val 0 (ntsDrop q.address nPolicedKod 12 s)
    ntsReserve engine q [id] (sealed (ntsAnswer 2 q m s) []) s
  else match genIn s 2 with
    | none =>
      let s := if s.net.nts.noCurrentTold then s else raise 0x0607 0 0 s
      let s := s.modNts fun n => { n with noCookie := (n.noCookie + 1) % 2 ^ 64, noCurrentTold := true }
      ntsReserve engine q [id] (sealed (ntsAnswer 0 q m s) []) s
    | some h =>
      let holders := placeholders m +
        parts.countP fun x => decide (x.1 = 0x0304) && decide (x.2 = 104)
      let (l, s) := mintCookies engine h c2s s2c (cookieCount q.cfg m holders) s
      ntsReserve engine q [id, s.net.nts.gens[h].keyId] (sealed (ntsAnswer 0 q m s) l) s

/-- Checks 14 to 17 and the answer. -/
def ntsAnswerTo (engine : Nat) (q : NtsRequest) (m : NtpMsg) (s : State) : Option State :=
  let c := cookieOf m
  let id := ofLe (c.take 4).reverse
  if q.plain then ntsReserve engine q [] (ntsAnswer 3 q m s) s
  else if c.length ≠ 104 then ntsFail engine q m [] nNakCookie 0 s
  else match genOf s id with
    | none => ntsFail engine q m [] nNakKey 1 s
    | some g =>
      match Config.sivOpen (material (slotAt s (genSlot g))) [be 4 id] ((c.drop 4).take 16) (c.drop 20) with
      | none => ntsFail engine q m [id] nNakCookie 2 s
      | some p =>
        if p.take 4 ≠ be 2 15 ++ le 2 0 then ntsFail engine q m [id] nNakCookie 2 s
        else
          let c2s := (p.drop 4).take 32
          let (nonce, ct) := authOf m
          match Config.sivOpen c2s [m.octets] nonce ct with
          | none => ntsFail engine q m [id] nNakAuth 3 s
          | some inner => ntsOk engine q m g c2s ((p.drop 36).take 32) inner s

/-- An engine in service takes the request that has waited longest. With no slot within the horizon of
the calendar it waits. -/
def execNtsTransaction (engine : Fin 26) (s : State) : Out :=
  match s.net.nts.requests with
  | [] => .next s
  | q :: rest =>
    if s.wear.siv[engine].state ≠ .service then .next s
    else
      let m : NtpMsg := match q.frame.payload with
        | .ntp m => m
        | _ => ⟨0, 4, 3, 0, 0, [], false, []⟩
      let s' := judgeAlarm q.frame.mac (s.modNts fun n => { n with requests := rest })
      match ntsAnswerTo engine.val q m s' with
      | some t => .next t
      | none => .next s

end Sys2Proof.Machine
end

