-- ==== Sys2Proof/Machine/Synth.lean ====
section
/-! DEFINITION. Synthesis and outputs: APLLs and the excursion limiter, CKOUTs, REALIGN, EVOUT programs and
loopback checks (06). -/

namespace Sys2Proof.Machine

/-! ### APLLs (06 R179 to R184) -/

def apllTable : Table ApllCfg where
  flds := [one 6, one 2]
  rows c := [[c.vcoFreq], [c.ceiling]]
  ofRows r := { vcoFreq := val r 0, ceiling := val r 1 }

/-- A GNSS port whose reference is not in OFF names the CKOUT as its FE_REF (03 R93). -/
def feRefOf (s : State) (k : Fin 16) : Bool :=
  (fins 2).any fun p => decide (s.gnss.ports[p].cfg.feRef = k.val) &&
    decide (s.refs[gnssRef p].state ≠ .off)

def realigning (s : State) (a : Fin 8) : Bool :=
  match dpllOf s a with
  | some c => s.ductus.dplls[c].realign.isSome
  | none => false

def execApllConfigure (r : Req) (g : GReq) (s : State) : Out :=
  runConfig 0x0401 apllTable.flds r g
    (fun s => (asFin 8 g.index).map fun a => apllTable.rows s.synth.aplls[a].cfg)
    (fun rows s => match asFin 8 g.index with
      | none => .error eRange
      | some a => do
        let c := apllTable.ofRows rows
        let same := decide (c.vcoFreq = s.synth.aplls[a].cfg.vcoFreq)
        need (within 9800000000000 11200000000000 c.vcoFreq && within 1 1000 c.ceiling) eRange
        need (same || (decide (a.val ≠ 0) && !realigning s a && !(ckoutsOf a).any (feRefOf s))) eState
        let s := s.modApll a fun x => { x with cfg := c }
        let s := match dpllOf s a with
          | some d => applyOne d a s
          | none => s
        pure (if same then s else unlockApll a s)) s

def execApllConfigureReadBack (r : Req) (index : Nat) (s : State) : Out :=
  runReadBack 0x0481 apllTable.flds r index
    (fun s => (asFin 8 index).map fun a => apllTable.rows s.synth.aplls[a].cfg) s

/-- Analogue hold: the APLL holds its tuning, or re-engages from it (R181). -/
def analogHold (a : Apll) : Bool :=
  decide (a.state = .frozen) && (a.causeXo || a.causeSlip || a.engaging)

/-- A QUALIFIED FREQUENCY REFIN, against which an excursion is measured (R184). -/
def excursionRef (s : State) : Option (Fin 20) :=
  (fins 12).findSome? fun i => match asFin 20 i.val with
    | some k => if s.refs[k].state = .qualified ∧ s.refs[k].cfg.kind = 0 then some k else none
    | none => none

/-- UNVERIFIED: a held APLL whose excursion is only predicted (R184). -/
def apllUnverified (s : State) (a : Apll) : Bool := analogHold a && (excursionRef s).isNone

/-- The system time clock runs for the first time after a reset (07 R205, R208). -/
def startClock (s : State) : State :=
  if s.clock.form = .stopped ∧ s.clock.recovery = none then
    s.modClock fun c => { c with form := .virtual, ticks := 0, vset := {}, vprev := {} }
  else s

/-- The outputs that the limiter has stopped resume (R184, R188). -/
def limiterRelease (a : Fin 8) (s : State) : State :=
  if s.synth.aplls[a].limited then
    restartOutputs a .running (s.modApll a fun x => { x with limited := false })
  else s

/-- R181: the lock condition has held for 100 µs. -/
def execApllLock (apll : Fin 8) (s : State) : Out :=
  let x := s.synth.aplls[apll]
  let chFrozen : Bool := match dpllOf s apll with
    | some c => decide (s.ductus.dplls[c].state = .frozen)
    | none => false
  if s.power.inReset ∨ x.causeXo then .next s
  else match x.state with
    | .unlocked =>
      let s := s.modApll apll fun y => { y with causeDpll := chFrozen }
      let s := setApll apll (if chFrozen then .frozen else .locked) s
      .next (if apll.val = 0 then thawSystem (startClock s) else s)
    | .locked => .next s
    | .frozen =>
      let s := s.modApll apll fun y => { y with causeSlip := false, engaging := false }
      let s := if s.synth.aplls[apll].causeDpll then s else setApll apll .locked s
      let s := limiterRelease apll s
      .next (if apll.val = 0 then thawSystem s else s)

/-- R181: analogue hold with cause SLIP; the loop re-engages. -/
def execApllSlip (apll : Fin 8) (s : State) : Out :=
  if s.synth.aplls[apll].state = .unlocked then .next s
  else
    let s := holdApll apll (fun x => { x with causeSlip := true, engaging := true }) s
    .next (if apll.val = 0 then freezeSystem s else s)

/-- R181: the loop has not met the lock condition within 10 ms of re-engaging. -/
def execApllReengageTimeout (apll : Fin 8) (s : State) : Out :=
  let x := s.synth.aplls[apll]
  if x.state = .frozen ∧ x.engaging ∧ !x.causeXo then .next (unlockApll apll s) else .next s

/-- R184: the excursion of a held APLL in 0.1 ppm: measured over the gate, or predicted from the
junction temperature where there is nothing to measure against. The limits are compared in 1/1,280 ppm. -/
def execLimiterGate (apll : Fin 8) (excursion : Nat) (s : State) : Out :=
  let x := s.synth.aplls[apll]
  if !analogHold x then .next s
  else
    let e := if (excursionRef s).isSome then excursion * 128
      else 640 + 10 * (s.power.junction - x.holdTemp).natAbs
    if (10 * x.cfg.ceiling - 2) * 128 ≤ e then
      .next (if x.limited then s
        else stopOutputs apll (s.modApll apll fun y => { y with limited := true }))
    else if e ≤ (10 * x.cfg.ceiling - 10) * 128 then .next (limiterRelease apll s)
    else .next s

/-! ### CKOUTs (06 R185 to R189) -/

def ckoutTable : Table CkoutCfg where
  flds := [one 1, one 1, one 1, one 4, one 4, one 1, one 8, one 8, one 1, one 4]
  rows c := [[c.enable], [c.format], [c.nBall], [c.hsDiv], [c.lsDiv], [c.role], [c.width],
    [c.phase], [c.polarity], [c.loopDiv]]
  ofRows r := { enable := val r 0, format := val r 1, nBall := val r 2, hsDiv := val r 3,
                lsDiv := val r 4, role := val r 5, width := val r 6, phase := val r 7,
                polarity := val r 8, loopDiv := val r 9 }

/-- The nominal supply that a bank reads as, in millivolts: within ±10 % of it (18 R487). -/
def bankLevel (mv : Nat) : Option Nat :=
  [1800, 2500, 3300].find? fun v => within (v * 9 / 10) (v * 11 / 10) mv

/-- The supply of the two outputs of an APLL. -/
def ckoutBank (s : State) (k : Fin 16) : Option Nat :=
  bankLevel (s.power.vddo[k.val / 2]'(by omega))

/-- The lowest and highest frequency of a FORMAT, in mHz (R185). -/
def formatRange (f : Nat) : Nat × Nat :=
  match f with
  | 0 => (500, 1000000000000)
  | 1 => (500, 400000000000)
  | 2 => (500, 1600000000000)
  | _ => (1000, 250000000000)

/-- The rules of R185 and 18 R487 on what the output would hold. -/
def ckoutValid (s : State) (k : Fin 16) (c : CkoutCfg) (sel : Nat → Bool) : Bool :=
  let vco := s.synth.aplls[apllOf k].cfg.vcoFreq
  let n := c.hsDiv * c.lsDiv
  let (lo, hi) := formatRange c.format
  let p := ofCode 64 c.phase
  let w := ofCode 64 c.width
  decide (c.enable ≤ 1) && decide (c.format ≤ 5) && decide (c.nBall ≤ 2) && within 6 63 c.hsDiv &&
  within 1 (2 ^ 30) c.lsDiv && decide (c.role ≤ 1) && decide (c.polarity ≤ 1) &&
  within 1 65536 c.loopDiv && decide (lo * n ≤ vco) && decide (vco ≤ hi * n) &&
  (decide (c.role = 0) || decide (vco ≤ 10000000000 * n)) &&
  (decide (c.role = 0) || (decide (131072 ≤ w) &&
    decide ((w + 131072) * vco ≤ (perMhz * n : Nat)))) &&
  (if c.role = 0 then decide (2 * p.natAbs * vco ≤ perMhz * n) else decide (p.natAbs ≤ ms16 500)) &&
  !(sel 2 && decide (c.format < 3)) && !(sel 6 && decide (c.role = 0)) &&
  (decide (c.format < 3) || decide (ckoutBank s k = match c.format with
    | 3 => some 1800
    | 4 => some 2500
    | _ => some 3300)) &&
  (decide (c.enable = 0) || (ckoutBank s k).isSome)

/-- The output as configured: ENABLE brings it to WAIT_ALIGN and takes it to OFF (R188). -/
def putCkout (k : Fin 16) (c : CkoutCfg) (s : State) : State :=
  let x := s.synth.ckouts[k]
  s.modCkout k fun y =>
    if c.enable = 0 then { y with cfg := c, state := .off, stepBy := none }
    else if x.cfg.enable = 0 ∨ x.state = .off then { y with cfg := c, state := .waitAlign, c := 0, stepBy := none }
    else if c.role = 1 ∧ x.cfg.role = 0 ∧ !counterForm s then { y with cfg := c, state := .waitAlign }
    else { y with cfg := c }

def execOutputConfigure (r : Req) (g : GReq) (s : State) : Out :=
  runConfig 0x0402 ckoutTable.flds r g
    (fun s => (asFin 16 g.index).map fun k => ckoutTable.rows s.synth.ckouts[k].cfg)
    (fun rows s => match asFin 16 g.index with
      | none => .error eRange
      | some k => do
        let old := s.synth.ckouts[k].cfg
        let c := ckoutTable.ofRows rows
        need (ckoutValid s k c (selects g)) eRange
        need (!feRefOf s k || (decide (c.enable = 1) && decide (c.hsDiv = old.hsDiv) &&
          decide (c.lsDiv = old.lsDiv))) eState
        pure (putCkout k c s)) s

def execOutputConfigureReadBack (r : Req) (index : Nat) (s : State) : Out :=
  runReadBack 0x0482 ckoutTable.flds r index
    (fun s => (asFin 16 index).map fun k => ckoutTable.rows s.synth.ckouts[k].cfg) s

/-- R188: the first aligned instant with the APLL ready. -/
def execOutputAlignedStart (ckout : Fin 16) (s : State) : Out :=
  let k := s.synth.ckouts[ckout]
  let a := s.synth.aplls[apllOf ckout]
  if k.state = .waitAlign ∧ a.state ≠ .unlocked ∧ !a.limited ∧ (k.cfg.role = 0 ∨ counterForm s) then
    .next (setCkout ckout .running s)
  else .next s

/-! ### REALIGN (06 R192 to R194) -/

/-- A channel whose REALIGN has nothing more to step: every output is ALIGNED, so the build-out is
folded into the phase settings and m is cleared (R192, steps 4 and 5). -/
def finishRealign (c : Fin 6) (s : State) : State :=
  match s.ductus.dplls[c].realign with
  | some r =>
    if r.stepping ∧ !(outputsOf s c 1).any (fun k => s.synth.ckouts[k].stepBy.isSome) then
      let s := s.modDpll c fun d => { d with realign := none, misalign := 0, buildOut := 0 }
      let s := forAll ((fins 16).filter fun k => decide (dpllOf s (apllOf k) = some c))
        (fun k t => t.modCkout k fun x => { x with c := 0 }) s
      itemDone 0 c.val r.moved s
    else s
  | none => s

/-- The slew of a channel has ended: its FRAME outputs are to be stepped by what they lack. -/
def endSlew (c : Fin 6) (s : State) : State :=
  match s.ductus.dplls[c].realign with
  | some r =>
    let s := s.modDpll c fun d =>
      { d with misalign := d.misalign - r.remaining,
               realign := some { r with remaining := 0, moved := r.moved + r.remaining,
                                        stepping := true } }
    let s := slewIncrement c s
    -- what the resolution of the increment leaves enters Ductus as a host adjustment does
    let s := if c.val = 0 ∧ r.rate ≠ 0 then
        let inc := rdiv (2 ^ 40 * r.rate) secUnit
        s.modDuctus fun d =>
          { d with h := d.h - rdiv (r.remaining * (2 ^ 40 * r.rate - inc * secUnit)) (2 ^ 40 * r.rate) }
      else s
    let s := forAll (outputsOf s c 1) (fun k t =>
      let m := t.ductus.dplls[c].misalign - t.synth.ckouts[k].c
      if m = 0 then t else t.modCkout k fun x => { x with stepBy := some m }) s
    finishRealign c s
  | none => s

/-- The named channels may slew: neither FROZEN nor OFF, with no REALIGN in progress (R194). -/
def mayRealign (s : State) (mask : Nat) : Bool :=
  (fins 6).all fun c => !bitOf mask c.val ||
    ((decide (s.ductus.dplls[c].state = .pulling) || decide (s.ductus.dplls[c].state = .tracking)) &&
     s.ductus.dplls[c].realign.isNone)

/-- A channel begins its slew; with nothing to slew it goes on at once. -/
def beginSlew (rate : Nat) (c : Fin 6) (s : State) : State :=
  if s.ductus.dplls[c].misalign = 0 ∧ (outputsOf s c 1).all (fun k => decide (s.synth.ckouts[k].c = 0)) then
    itemDone 0 c.val 0 s
  else
    let m := reduced s c s.ductus.dplls[c].misalign
    let s := s.modDpll c fun d =>
      { d with realign := some { rate := rate, remaining := m, moved := 0,
                                 begun := s.clock.ticks.toNat } }
    if m = 0 then endSlew c s else slewIncrement c s

def execRealign (r : Req) (channelMask evoutMask frameMask rate : Nat) (s : State) : Out :=
  runAccepted 0x0403 16 r (fun seq s => do
    let frames := (fins 16).filter fun k => bitOf frameMask k.val
    need (decide (channelMask < 64) && within 6554 65536000 rate &&
      frames.all fun k => decide (s.synth.ckouts[k].cfg.role = 1) &&
        decide (s.synth.ckouts[k].cfg.enable = 1)) eRange
    need (mayRealign s channelMask) eState
    let chans := (fins 6).filter fun c => bitOf channelMask c.val
    let evs := (fins 8).filter fun e => bitOf evoutMask e.val
    let job : RealignJob :=
      { source := r.src, seq := seq,
        items := chans.map (fun c => (0, c.val)) ++ frames.map (fun k => (1, k.val)) ++
          evs.map (fun e => (2, e.val)) }
    let s := s.modSynth fun y => { y with jobs := y.jobs ++ [job] }
    let s := forAll chans (beginSlew rate) s
    let s := forAll frames (fun k t =>
      let m := outputMisalign t k
      if m = 0 then itemDone 1 k.val 0 t else t.modCkout k fun x => { x with stepBy := some m }) s
    let s := forAll evs (fun e t =>
      let m := t.synth.evouts[e].pending
      if m = 0 then itemDone 2 e.val 0 t else t.modEvout e fun x => { x with stepBy := some m }) s
    pure (if job.items = [] then dropItem 3 0 s else s)) s

/-- R192: the slew of a channel ends. -/
def execRealignSlewEnd (channel : Fin 6) (s : State) : Out :=
  match s.ductus.dplls[channel].realign with
  | some r => if r.stepping then .next s else .next (endSlew channel (settleSlew channel s))
  | none => .next s

/-- A FRAME output is stepped by `d`: later, or earlier with a pulse omitted where the low time would
be shorter than 2 ns (R193). -/
def stepFrame (k : Fin 16) (d : Int) (s : State) : State :=
  let x := s.synth.ckouts[k]
  let vco := s.synth.aplls[apllOf k].cfg.vcoFreq
  let skip := decide (d < 0) &&
    decide ((perMhz * dividers x : Int) < (ofCode 64 x.cfg.width + d.natAbs + 131072) * vco)
  s.modCkout k fun y =>
    { y with stepBy := none, c := y.c + d,
             omitted := if skip then (y.omitted + 1) % 2 ^ 32 else y.omitted }

/-! ### EVOUTs (06 R196 to R199) -/

/-- The device time at which edge `n` of a program stands, moved by the pending offset (R199). -/
def edgeAt (p : EvProgram) (pending : Int) (n : Nat) : Int := (p.start + n * p.period : Nat) - pending

/-- The first edge of a PERIODIC program at or after `t` (R197). -/
def firstEdge (p : EvProgram) (pending t : Int) : Nat :=
  ((t + pending - p.start + p.period - 1) / p.period).toNat

/-- The arm lead of a program: 1 µs (R197). -/
abbrev armLead : Nat := ns16 1000

/-- The programs of an EVOUT are stepped by `d`; edges that a move earlier would put in the past, or
within 2 ns of the pulse before, are omitted (R193). -/
def stepEvout (e : Fin 8) (d : Int) (s : State) : State :=
  let v := s.synth.evouts[e]
  let pending := v.pending - d
  let p := v.periodic
  let floor : Int := max (now s : Int) (v.until_ + 131072 : Nat)
  let edge := if p.program.enable = 1 ∧ edgeAt p.program pending p.edge < floor then
      firstEdge p.program pending floor else p.edge
  s.modEvout e fun x =>
    { x with stepBy := none, pending := pending, periodic := { x.periodic with edge := edge },
             omitted := (x.omitted + (edge - p.edge)) % 2 ^ 32 }

/-- R193: the step of a FRAME output or of an EVOUT takes place. -/
def execFrameStep (evout : Bool) (index : Nat) (s : State) : Out :=
  if evout then
    match asFin 8 index with
    | some e => match s.synth.evouts[e].stepBy with
      | some d => .next (itemDone 2 e.val d (stepEvout e d s))
      | none => .next s
    | none => .next s
  else match asFin 16 index with
    | some k => match s.synth.ckouts[k].stepBy with
      | some d =>
        let s := stepFrame k d s
        let s := if s.synth.jobs.any (fun j => j.items.contains (1, k.val)) then itemDone 1 k.val d s else s
        match dpllOf s (apllOf k) with
        | some c => .next (finishRealign c s)
        | none => .next s
      | none => .next s
    | none => .next s

/-- The rows of R196: SLOT comes of INDEX. -/
def evoutFlds : List Fld := [one 1, one 1, one 16, one 8, one 8, one 4, one 1]

def evoutSlot (v : Evout) (n : Nat) : EvSlot := if n = 1 then v.periodic else v.oneShot

/-- The octets of a ZT128 as one number, lowest octet first (00 R10), and back. -/
def ztCode (u : Nat) : Nat := ofLe (ztBytes u)
def ztOfCode (n : Nat) : ZT128 := ⟨n / 2 ^ 64 % 2 ^ 64, n / 2 ^ 32 % 2 ^ 32, n / 2 ^ 16 % 2 ^ 16⟩

def evoutRows (n : Nat) (s : State) : Option Rows :=
  (asFin 8 (n / 2)).map fun e =>
    let v := s.synth.evouts[e]
    let p := match (evoutSlot v (n % 2)).next with
      | some x => x.1
      | none => (evoutSlot v (n % 2)).program
    [[n % 2], [p.enable], [ztCode p.start], [p.period], [p.width], [p.count], [v.polarity]]

def evProgramOf (r : Rows) : EvProgram :=
  { enable := val r 1, start := ztUnits (ztOfCode (val r 2)), period := val r 3, width := val r 4,
    count := val r 5 }

/-- The ranges of R196: a selected field is judged; an enabled program is judged whole. -/
def evoutValid (slot : Nat) (p : EvProgram) (r : Rows) (sel : Nat → Bool) : Bool :=
  let on := decide (p.enable = 1)
  !sel 0 && decide (p.enable ≤ 1) && ztValid (ztOfCode (val r 2)) && decide (val r 6 ≤ 1) &&
  !(decide (slot = 0) && (sel 3 || sel 5)) &&
  (!(sel 3 || (on && decide (slot = 1))) || within 655360 (86400 * secUnit) p.period) &&
  (!(sel 4 || on) || (if slot = 0 then within 131072 secUnit p.width
    else decide (131072 ≤ p.width) && (decide (p.period = 0) || decide (p.width + 131072 ≤ p.period))))

/-- A program is written into a slot, with its start settled (R197). -/
def putProgram (e : Fin 8) (slot : Nat) (p : EvProgram) (s : State) : State :=
  let v := s.synth.evouts[e]
  let at_ : Int := now s + armLead
  s.modEvout e fun x =>
    if slot = 0 then { x with oneShot := { program := p } }
    else if p.enable = 0 then { x with periodic := { x.periodic with program := p, next := none } }
    else
      let n := firstEdge p v.pending at_
      if v.periodic.program.enable = 1 then
        { x with periodic := { x.periodic with next := some (p, n) } }
      else { x with periodic := { program := p, edge := n } }

def execEvoutProgram (r : Req) (g : GReq) (s : State) : Out :=
  runConfig 0x0404 evoutFlds r g (evoutRows g.index)
    (fun rows s => match asFin 8 (g.index / 2) with
      | none => .error eRange
      | some e => do
        let slot := g.index % 2
        let p := evProgramOf rows
        need (evoutValid slot p rows (selects g)) eRange
        need (counterForm s) eState
        let s := s.modEvout e fun x => { x with polarity := val rows 6 }
        if g.mask = 0x40 ∨ g.mask = 0 then pure s
        else do
          need (decide (slot = 1) || decide (p.enable = 0) ||
            decide ((now s + armLead : Int) ≤ edgeAt p s.synth.evouts[e].pending 0)) eRange
          pure (putProgram e slot p s)) s

def execEvoutProgramReadBack (r : Req) (index : Nat) (s : State) : Out :=
  runReadBack 0x0484 evoutFlds r index (evoutRows index) s

/-- A program that waits for its own first edge takes over there (R197). -/
def takeOver (e : EvSlot) (pending t : Int) : EvSlot :=
  match e.next with
  | some (p, n) => if edgeAt p pending n ≤ t then { program := p, edge := n } else e
  | none => e

/-- Whether a slot fires on the tick that begins at `t`. -/
def slotDue (e : EvSlot) (pending t : Int) : Bool :=
  decide (e.program.enable = 1) && decide (edgeAt e.program pending e.edge < t + 65536)

/-- One slot after it has fired; `periodic` programs end at their COUNT. -/
def slotFired (periodic : Bool) (e : EvSlot) : EvSlot :=
  let n := e.fired + 1
  let last := !periodic || (decide (e.program.count ≠ 0) && decide (e.program.count ≤ n))
  { e with edge := e.edge + 1, fired := n,
           program := if last then { e.program with enable := 0 } else e.program }

/-- R198: the programs whose edges stand on this tick fire one pulse. -/
def execEvoutPulse (evout : Fin 8) (s : State) : Out :=
  if !counterForm s then .next s
  else
    let v := s.synth.evouts[evout]
    let t := now s
    let per := takeOver v.periodic v.pending (t + 65535 : Nat)
    let a := slotDue v.oneShot v.pending t
    let b := slotDue per v.pending t
    if !a && !b then .next s
    else
      let stop := fun (due : Bool) (e : EvSlot) =>
        if due then (edgeAt e.program v.pending e.edge + e.program.width).toNat else 0
      let per' := if b then slotFired true per else per
      let s := s.modEvout evout fun x =>
        { x with oneShot := if a then slotFired false x.oneShot else x.oneShot, periodic := per',
                 until_ := max x.until_ (max (stop a v.oneShot) (stop b per)),
                 pulses := (x.pulses + 1) % 2 ^ 64 }
      .next (if b ∧ per'.program.enable = 0 then raise 0x0407 (evout.val + 256) per'.fired s else s)

/-! ### Loopback checks (06 R201) -/

/-- The tapped rate of a CKOUT is at most 10 MHz. -/
def tapOk (s : State) (source : Nat) : Bool :=
  (fins 16).all fun k => decide (source ≠ 0x30 + k.val) ||
    decide (s.synth.aplls[apllOf k].cfg.vcoFreq ≤
      10000000000 * dividers s.synth.ckouts[k] * s.synth.ckouts[k].cfg.loopDiv)

def execLoopbackCheck (r : Req) (source count : Nat) (tolerance : Int) (s : State) : Out :=
  runAccepted 0x0406 16 r (fun seq s => do
    need ((within 0x20 0x27 source || within 0x30 0x3F source) && within 16 (2 ^ 24) count &&
      decide (0 ≤ tolerance) && tapOk s source) eRange
    match takeChannel ownLoopback source source 0 s with
    | some (c, t) => pure (t.modSynth fun y =>
        { y with checks := y.checks ++
                   [{ source := source, channel := c, tolerance := tolerance, from_ := r.src,
                      seq := seq }] })
    | none => .error eNoSpace) s

def execLoopbackComplete (source : Nat) (mean std : Int) (s : State) : Out :=
  match s.synth.checks.find? fun k => decide (k.source = source) with
  | some k =>
    let pass := decide ((mean.natAbs : Int) ≤ k.tolerance)
    let s := s.modSynth fun y =>
      { y with checks := y.checks.erase k, lastCheck := some (source, mean, std, pass) }
    let s := releaseChannel k.channel s
    .next (completeCmd 0x0406 k.seq stOk k.from_
      (raise 0x0408 (source + flag pass 8) (toCode 64 mean) s))
  | none => .next s

/-! ### Output status (15 R421) -/

/-- The relative error that the rounding of N_FRAC leaves, in ZF64 (R180). -/
def residualOf (s : State) (a : Fin 8) : Int :=
  let vco := s.synth.aplls[a].cfg.vcoFreq
  let xo := s.refs[xoRef].cfg.nominal
  let n := rdiv (vco * 2 ^ 40 : Nat) xo
  let off : Bool := match dpllOf s a with
    | some c => decide (s.ductus.dplls[c].state = .off)
    | none => true
  if off then rdiv ((n * xo - (vco * 2 ^ 40 : Nat)) * 2 ^ 20) vco else 0

def ckoutCode : CkoutState → Nat
  | .off => 0
  | .waitAlign => 1
  | .running => 2
  | .stopped => 3

def outputRecord (s : State) : Bytes :=
  ((fins 8).flatMap fun a =>
    let x := s.synth.aplls[a]
    le 1 (apllCode x.state) ++ le 1 (apllCauses x) ++
    le 1 (flag x.clamped 0 + flag (apllUnverified s x) 1) ++ le 5 0 ++ le 8 (toCode 64 (residualOf s a))) ++
  ((fins 16).flatMap fun k =>
    let x := s.synth.ckouts[k]
    let m := outputMisalign s k
    le 1 (ckoutCode x.state) ++ le 1 (flag (decide (m = 0)) 0) ++ le 6 0 ++ le 8 (toCode 64 m) ++
    le 4 x.omitted ++ le 4 0) ++
  ((fins 8).flatMap fun e =>
    let v := s.synth.evouts[e]
    le 8 (toCode 64 v.pending) ++ le 8 v.pulses)

def execOutputStatus (r : Req) (s : State) : Out :=
  runRead 0x0410 (r.len = 0) r (fun s => .ok (outputRecord s)) s

end Sys2Proof.Machine
end

