-- ==== Sys2Proof/Machine/TempOps.lean ====
section
/-! DEFINITION. Temperatures over time (05 R160): what was observed when, in ticks, and how far it strayed from its
mean before the anchor was lost. -/

namespace Sys2Proof.Machine

/-- The changes since tick `b`, newest first, with the one whose value held at `b`. -/
def keepSince (b : Nat) : List (Nat × Int) → List (Nat × Int)
  | [] => []
  | p :: l => if p.1 ≤ b then [p] else p :: keepSince b l

/-- θ_ref is a mean over 3,600 s. -/
abbrev thetaSpan : Nat := 3600 * 10 ^ 9

/-- The earliest tick of which a temperature can still count. -/
def tempFloor (s : State) : Nat := s.margin.lossAt.getD s.clock.ticks.toNat - thetaSpan

/-- The junction temperature since the boot. -/
def tempsOf (s : State) : List (Nat × Int) :=
  if s.power.temps = [] then [(0, s.power.junction)] else s.power.temps

/-- Each value with the ticks from which and before which it held; the newest holds until `hi`. -/
def spansOf : Nat → List (Nat × Int) → List (Nat × Nat × Int)
  | _, [] => []
  | hi, p :: l => (p.1, hi, p.2) :: spansOf p.1 l

/-- How much of [a, b) lies in [c, d). -/
def commonTicks (a b c d : Nat) : Nat := min b d - max a c

/-- The sum of the values over [a, b), with the ticks of it in which there is a value. -/
def tempMean (l : List (Nat × Int)) (a b : Nat) : Int × Nat :=
  (spansOf b l).foldl (fun x p => (x.1 + commonTicks p.1 p.2.1 a b * p.2.2, x.2 + commonTicks p.1 p.2.1 a b)) (0, 0)

/-- The excursion of the values `l` from the mean `ref` over [a, b), as a fraction of 1/128 °C times ticks: a value
counts for `fresh` ticks, and where none counts, or there is no mean, the excursion is `span`. -/
def excursion (span fresh : Nat) (ref : Int × Nat) (l : List (Nat × Int)) (a b : Nat) : Nat × Nat :=
  if ref.2 = 0 then (span * (b - a), 1)
  else
    let parts := (spansOf b l).map fun p =>
      (commonTicks p.1 (min p.2.1 (p.1 + fresh)) a b, (p.2.2 * ref.2 - ref.1).natAbs)
    let known := parts.foldl (fun n p => n + p.1) 0
    (parts.foldl (fun n p => n + p.1 * p.2) 0 + span * ref.2 * (b - a - known), ref.2)

end Sys2Proof.Machine
end

