-- ==== Sys2Proof/Machine/Margin.lean ====
section
/-! DEFINITION. Margin: its parameters, the terms of an evaluation, publication, records and statements
(05). -/

namespace Sys2Proof.Machine

/-! ### Parameters (05 R169) -/

/-- Rows 0 to 10, the rows held for one reference, and CLASS_TABLE (15 R418). -/
def marginFlds : List Fld :=
  [one 4, one 4, one 4, one 2, one 2, one 8, one 8, one 4, one 4, one 1, one 1, one 8, one 1, one 8,
   { widths := [1, 3, 8, 1, 3], lo := 8, hi := 8 }]

def classRows (l : List ClassRow) : List Nat :=
  let words := fun (r : ClassRow) => [r.states, 0, r.limit, r.cls, 0]
  ((l ++ List.replicate 8 (ClassRow.mk 0 0 0)).take 8).flatMap words

/-- The first row with STATES 0 ends the table. -/
def classTableOf : List Nat → List ClassRow
  | st :: _ :: lim :: c :: _ :: rest => if st = 0 then [] else ⟨st, lim, c⟩ :: classTableOf rest
  | _ => []

/-- The parameters that wait for the next evaluation, or those in force. -/
def marginCfg (s : State) : MarginCfg := s.margin.next.getD s.margin.cfg

def memberIndex (n : Nat) : Option (Fin 13) := asFin 13 n
def ptpuIndex (n : Nat) : Option (Fin 4) := if 15 ≤ n then asFin 4 (n - 15) else none

def marginRows (n : Nat) (s : State) : Rows :=
  let c := marginCfg s
  [[c.servoWindow], [c.boundHold], [c.pathTempco], [c.tCal], [c.tempSpan], [c.liSet], [c.liClear],
   [c.classHold], [c.period], [c.onChange], [c.alg],
   [match memberIndex n with
    | some i => s.margin.tempco[i]
    | none => 0],
   [match memberIndex n with
    | some i => s.margin.tempSource[i]
    | none => 0],
   [match ptpuIndex n with
    | some i => s.margin.asymUnc[i]
    | none => 0],
   classRows s.margin.classTable]

def marginValid (n : Nat) (r : Rows) (sel : Nat → Bool) : Bool :=
  within 10 3600 (val r 0) && decide (val r 1 ≤ 600) && decide (val r 2 ≤ 10000) &&
  decide (val r 3 ≤ 13440) && within 128 12800 (val r 4) && within 1000 (10 ^ 12) (val r 5) &&
  decide (val r 6 < val r 5) && decide (val r 7 ≤ 3600) && within 1 3600 (val r 8) &&
  decide (val r 9 ≤ 1) && decide (val r 10 ≤ 1) && decide (val r 11 ≤ 1152921504607) &&
  decide (val r 12 ≤ 1) && decide (val r 13 ≤ unbounded) &&
  (classTableOf (row r 14)).all (fun x => decide (x.limit ≤ unbounded)) &&
  (!(sel 11 || sel 12) || (memberIndex n).isSome) && (!sel 13 || (ptpuIndex n).isSome)

def putMargin (n : Nat) (r : Rows) (sel : Nat → Bool) (s : State) : State :=
  s.modMargin fun m =>
    { m with
      next := some { servoWindow := val r 0, boundHold := val r 1, pathTempco := val r 2,
                     tCal := val r 3, tempSpan := val r 4, liSet := val r 5, liClear := val r 6,
                     classHold := val r 7, period := val r 8, onChange := val r 9, alg := val r 10 }
      tempco := match memberIndex n with
        | some i => m.tempco.set i (val r 11)
        | none => m.tempco
      tempSource := match memberIndex n with
        | some i => m.tempSource.set i (val r 12)
        | none => m.tempSource
      asymUnc := match ptpuIndex n with
        | some i => m.asymUnc.set i (val r 13)
        | none => m.asymUnc
      classTable := if sel 14 then classTableOf (row r 14) else m.classTable }

def execMarginConfigure (r : Req) (g : GReq) (s : State) : Out :=
  runConfig 0x0307 marginFlds r g (fun s => some (marginRows g.index s))
    (fun rows s => do
      need (marginValid g.index rows (selects g)) eRange
      pure (putMargin g.index rows (selects g) s)) s

def execMarginConfigureReadBack (r : Req) (index : Nat) (s : State) : Out :=
  runReadBack 0x0387 marginFlds r index (fun s => some (marginRows index s)) s

/-- R160: the temperature that the host reports for a clock member. -/
def execTemperatureReport (r : Req) (index : Nat) (temp : Int) (s : State) : Out :=
  runSimple 0x0208 4 r (fun s => do
    need (decide (index ≤ 12) && withinInt (-32768) 32767 temp) eRange
    pure (s.modMargin fun m =>
      { m with hostTemps := updAt m.hostTemps index fun l =>
                 (s.clock.ticks.toNat, temp) :: keepSince (tempFloor s) l })) s

/-! ### Terms (05 R156 to R162) -/

/-- The largest second component of the entries at or after `t`. -/
def largestSince (t : Nat) (l : List (Nat × Nat)) : Option Nat :=
  match (l.filter fun p => decide (t ≤ p.1)).map (·.2) with
  | [] => none
  | x :: xs => some (xs.foldl max x)

def anchorKind (i : Fin 20) : Nat :=
  match refKind i with
  | .gnss => 1
  | .ptpu => 2
  | .stack => 3
  | _ => 0

/-- R158, in ps. -/
def quantOf (i : Fin 20) : Nat :=
  match anchorKind i with
  | 0 => 25
  | 1 => 30
  | 2 => 800
  | _ => 0

/-- ASYM of an anchor without PATH_WIDEN (R157). -/
def asymOf (s : State) (i : Fin 20) : Nat :=
  match ptpuIndex i.val with
  | some p => if refKind i = .ptpu then
      satBound (s.margin.asymUnc[p] + (if s.margin.asymUnc[p] = unbounded then 0 else
        halfPs s.refs[i].pathSmall))
    else 0
  | none => 0

/-- R161. -/
def disagreeTerm (s : State) : Nat :=
  match s.sel.alarm with
  | none => 0
  | some d =>
    if clockMember s d.a || clockMember s d.b then
      let w := max s.ductus.members[d.a].weight s.ductus.members[d.b].weight
      let f := (freqDiff s d.a d.b).getD 0
      satBound ((w * f * (now s - d.since) * 1000 + 2 ^ 92 - 1) / 2 ^ 92)
    else
      let one := fun (i : Fin 20) =>
        toPs ((s.refs[i].measured.getD 0).natAbs) + statedUnc s i
      satBound (max (one d.a) (one d.b))

/-- R157, row 10. -/
def crossTerm (s : State) : Nat :=
  if (fins 2).any fun p => s.gnss.ports[p].crossAlarm then
    match s.gnss.ports[0].last, s.gnss.ports[1].last with
    | some a, some b => satBound (toPs (a - b).natAbs)
    | _, _ => 0
  else 0

def pathTempTerm (s : State) : Nat :=
  (s.margin.cfg.pathTempco * (s.power.junction - ofCode 16 s.margin.cfg.tCal).natAbs + 12799) / 12800

/-- TEMP_HOLD over the ticks [a, b) for an anchor lost at `loss` with the clock members `held`, in ps (R157, R160):
the mean of each member's temperature is over the 3,600 s before, a host's report counts for 60 s, and a member
that joined later has no mean. -/
def tempHold (s : State) (loss : Nat) (held : List (Fin 20)) (a b : Nat) : Nat :=
  let part := fun (x : Nat × Nat) (i : Fin 20) => match memberIndex i.val with
    | some k =>
      let host := decide (s.margin.tempSource[k] = 1)
      let l := if host then s.margin.hostTemps[k] else tempsOf s
      let ref := if i ∈ held then tempMean l (loss - thetaSpan) loss else (0, 0)
      let e := excursion s.margin.cfg.tempSpan (if host then 60 * 10 ^ 9 else b) ref l a b
      (x.1 * e.2 + s.margin.tempco[k] * e.1 * x.2, x.2 * e.2)
    | none => x
  let sum := (clockMembers s).foldl part (0, 1)
  satBound ((sum.1 * 1000 + sum.2 * 128 * 2 ^ 60 - 1) / (sum.2 * 128 * 2 ^ 60))

/-- The horizon of an evaluation (R163), as device time and as a tick. -/
def horizonOf (s : State) : Nat := now s + ms16 1100
def horizonTick (s : State) : Nat := s.clock.ticks.toNat + 1100 * 10 ^ 6

/-- Device time's predicted offset at an instant with its stated uncertainty: HOLD in COAST (R157). -/
def coastHold (s : State) (t : Nat) : Nat :=
  satBound (toPs (predictionAt s t).natAbs + predictionUnc s t)

/-- G (R165): how HOLD and TEMP_HOLD rise over the 60 s after the horizon, as if Ductus coasted from it, and the gap
to the control value at which DPLL0 would freeze. -/
def growthOf (freezeGap : Nat) (s : State) : Nat :=
  let h := horizonOf s
  let k := horizonTick s
  let steers := anchored s && decide (s.ductus.state ≠ .coast)
  let loss := if steers then k else s.margin.lossAt.getD k
  let held := if steers then clockMembers s else s.margin.lossMembers
  if coastHold s (h + 60 * secUnit) = unbounded then unbounded
  else
    let rise := coastHold s (h + 60 * secUnit) - coastHold s h
    satBound ((rise + tempHold s loss held k (k + 60 * 10 ^ 9) + 59) / 60 + freezeGap)

/-- The eleven terms (R157): with a reference SELECTED that steers, and otherwise. -/
def termsOf (s : State) : List Nat :=
  let h := horizonOf s
  let old := s.margin.terms
  let widen := halfPs s.margin.pathWiden
  let since := now s - s.margin.cfg.servoWindow * secUnit
  let common := [disagreeTerm s, crossTerm s]
  match s.ductus.anchor, anchored s && decide (s.ductus.state ≠ .coast) with
  | some a, true =>
    [(largestSince since s.margin.refWin).getD (statedUnc s a),
     toPs ((largestSince since s.margin.servoWin).getD 0), predictionUnc s h, 0, pathTempTerm s,
     satBound (asymOf s a + widen), quantOf a, if refKind a = .stack then linkUncOf s else 0,
     toPs (s.ductus.b.natAbs + s.ductus.k.natAbs + s.ductus.h.natAbs)] ++ common
  | _, _ =>
    [old.getD 0 0, 0, coastHold s h,
     match s.margin.lossAt with
     | some l => tempHold s l s.margin.lossMembers l (horizonTick s)
     | none => 0,
     pathTempTerm s, satBound (s.margin.asymFrozen + widen), old.getD 6 0, old.getD 7 0, 0] ++ common

/-- R156: C. -/
def coreBound (terms : List Nat) (s : State) : Nat :=
  if s.ductus.state = .free ∨ !counterForm s ∨ s.ductus.xoLost ∨ terms.any (fun t => decide (unbounded ≤ t)) then
    unbounded
  else satBound (terms.foldl (· + ·) 0)

/-! ### Records (05 R170, R171) -/

def pad32 (l : List Nat) : List Nat := (l ++ List.replicate 32 0).take 32
def natBytes (b : Bytes) : List Nat := b.map (·.toNat)

/-- R171. -/
def sourceId (s : State) (i : Fin 20) : List Nat :=
  pad32 (match refKind i with
    | .gnss => match asFin 2 (i.val - 13) with
      | some p => let q := s.gnss.ports[p]
        [p.val, q.fix.scale, q.refConst, q.satsUsed]
      | none => []
    | .ptpu => match asFin 4 (i.val - 15) with
      | some u => match s.net.ptp.ptpus[u].entry with
        | some e =>
          let c := s.net.ptp.entries[e]
          let dom : Nat := match asFin 16 c.cfg.service with
            | some a => s.net.ptp.addresses[a].cfg.domain
            | none => 0
          let an := c.announce.getD ⟨0, 0, 0, 0, 0, 0, none⟩
          natBytes (le 8 c.srcClock ++ le 2 c.srcPort ++ le 1 dom ++ le 1 c.cfg.mac ++
            le 2 an.steps ++ le 1 an.clockClass ++ le 1 0 ++ le 8 an.grandmaster)
        | none => []
      | none => []
    | .stack => match s.stack.upstream with
      | some l =>
        let k := s.stack.links[l]
        let dev := match k.peerPos with
          | some p => s.stack.members[p].deviceId
          | none => 0
        natBytes (le 4 (match k.peerPos with
          | some p => p.val
          | none => 0) ++ le 4 k.peer.bootCount ++ le 8 k.peer.recordSeq ++ le 16 dev)
      | none => []
    | _ => [i.val])

/-- MACs on which an enabled NTP service address answers. -/
def ntsAnswers (s : State) (m : Fin 16) : Bool :=
  macPresent s m && (fins 64).any fun a =>
    decide (s.net.nts.addresses[a].cfg.enable = 1) && !s.net.nts.addresses[a].standby &&
    bitOf s.net.nts.addresses[a].cfg.macMask m.val

def recordFlags (s : State) (c : Nat) : Nat :=
  flag s.sel.alarm.isSome 1 + flag ((fins 2).any fun p => s.gnss.ports[p].crossAlarm) 2 +
  flag (decide (s.margin.pathWiden ≠ 0)) 3 + flag s.ductus.xoLost 4 + flag (guardAbsent s) 5 +
  flag (decide (c = unbounded)) 6 +
  flag ((fins 16).any fun m => s.margin.alarms[m] && ntsAnswers s m) 7 +
  flag (decide (s.ductus.b ≠ 0)) 8

def recordOf (s : State) (seq c growth : Nat) (terms : List Nat) : BoundRecord :=
  let a := if s.ductus.anchor.isSome then s.ductus.anchor else s.ductus.lastAnchor
  { sequence := seq, bootCount := s.keys.bootCount, lifecycle := s.keys.life.val,
    position := if s.stack.paired then s.stack.position else 0xFF,
    ductusState := ductusCode s.ductus.state, mode := s.ductus.mode, evalTime := now s,
    horizon := now s + ms16 1100, core := c, growth := growth,
    anchorIndex := match a with
      | some i => i.val
      | none => 0xFF,
    anchorKind := match a with
      | some i => anchorKind i
      | none => 0xFF,
    flags := recordFlags s c, tamperEvents := s.keys.tamperEvents,
    sourceId := match a with
      | some i => sourceId s i
      | none => pad32 [],
    terms := terms, calGeneration := s.wear.calGeneration, keyId := 0, sigAlg := 0xFF,
    signature := none }

/-- Bytes 0 to 231 of the layout (R170). -/
def recordBytes (r : BoundRecord) (statement : Bool) : Bytes :=
  [(if statement then le 4 0x3153425A else le 4 0x3152425A), le 2 1,
   le 2 (if statement then 328 else 232), le 8 r.sequence, le 4 r.bootCount, le 1 r.lifecycle,
   le 1 r.position, le 1 r.ductusState, le 1 r.mode, ztBytes r.evalTime, ztBytes r.horizon,
   le 8 r.core, le 8 r.growth, le 1 r.anchorIndex, le 1 r.anchorKind, le 2 r.flags,
   le 4 r.tamperEvents, r.sourceId.flatMap (le 1), r.terms.flatMap (le 8), deviceIdBytes,
   le 4 r.calGeneration, le 4 r.keyId, le 1 r.sigAlg, le 7 0].flatten

/-! ### Evaluation (05 R163 to R165, R173) -/

/-- PATH_WIDEN clears once Ductus has been LOCKED with B = 0 for SERVO_WINDOW (R162). -/
def ageWiden (secs : Nat) (s : State) : State :=
  let steady := decide (s.ductus.state = .locked) && decide (s.ductus.b = 0)
  s.modMargin fun m =>
    let n := if steady then m.lockedFor + secs else 0
    if m.pathWiden ≠ 0 ∧ m.cfg.servoWindow ≤ n then { m with pathWiden := 0, lockedFor := n }
    else { m with lockedFor := n }

/-- The statement that an evaluation owes (R173): signed later, or counted as skipped. -/
def oweStatement (r : BoundRecord) (s : State) : State :=
  if ladderReady s then
    s.modMargin fun m =>
      { m with sequence := m.sequence + 1,
               signing := m.signing ++ [{ r with sequence := m.sequence, keyId := attestKeyId s,
                                                 sigAlg := m.cfg.alg }] }
  else s.modMargin fun m => { m with skipped := m.skipped + 1 }

/-- R163: the evaluation after an update of Ductus; the first of a device-time second is the periodic
one. -/
def execMarginEvaluation (freezeGap : Nat) (s : State) : Out :=
  if !s.host.supervisor ∨ !clockRuns s then .next s
  else
    let t := now s
    let last := s.margin.evalTime
    let periodic := decide (last / secUnit ≠ t / secUnit) || decide (last = 0)
    let secs := if last = 0 then 0 else t / secUnit - last / secUnit
    let s := s.modMargin fun x => { x with cfg := x.next.getD x.cfg, next := none }
    let s := ageWiden secs s
    let span := s.margin.cfg.servoWindow * secUnit
    let s := s.modMargin fun x =>
      { x with servoWin := ((t, s.ductus.loopError.natAbs) :: x.servoWin).filter
                 fun p => decide (t - span ≤ p.1)
               refWin := x.refWin.filter fun p => decide (t - span ≤ p.1)
               asymFrozen := match s.ductus.anchor with
                 | some a => if s.ductus.state = .coast then x.asymFrozen else asymOf s a
                 | none => x.asymFrozen }
    let terms := termsOf s
    let c := coreBound terms s
    let g := growthOf freezeGap s
    let win := ((t, c) :: s.margin.window).filter
      fun p => decide (t ≤ p.1 + s.margin.cfg.boundHold * secUnit)
    let p := win.foldl (fun n x => max n x.2) 0
    let s := if s.margin.stale then raise 0x0304 0 p s else s
    let seq := s.margin.sequence
    let rec_ := recordOf s seq c g terms
    let s := s.modMargin fun x =>
      { x with terms := terms, core := c, window := win, published := p, growth := g,
               horizon := t + ms16 1100, recordSeq := seq, stale := false, evalTime := t,
               sequence := seq + 1 }
    let s := judgeAll s
    let rec_ := { rec_ with flags := recordFlags s c }
    let s := enqueue 3 (.margin rec_) s
    let due := (periodic && decide (t / secUnit % s.margin.cfg.period = 0)) ||
      (decide (s.margin.cfg.onChange = 1) && s.ductus.changed)
    let s := s.modDuctus fun d => { d with changed := false }
    .next (if due then oweStatement rec_ s else s)

/-- R172, R173: the oldest statement that was owed is signed and enters the queue. The generation
of its key is that of its KEY_ID. -/
def execStatementSigned (s : State) : Out :=
  match s.margin.signing with
  | r :: rest =>
    let gen := s.keys.attestGen - (s.keys.attestGen + 65536 - r.keyId % 65536) % 65536
    let sig := Config.sign r.sigAlg (attestKey s r.sigAlg gen) (recordBytes r true)
    .next (enqueue 3 (.margin { r with signature := some sig })
      (s.modMargin fun m => { m with signing := rest }))
  | [] => .next s

/-- R165: the horizon has passed with no new publication. -/
def execBoundStale (s : State) : Out :=
  if s.margin.evalTime ≠ 0 ∧ s.margin.horizon < now s ∧ !s.margin.stale then
    .next (judgeAll (raise 0x0304 256 s.margin.published
      (s.modMargin fun m => { m with stale := true })))
  else .next s

def execBoundStaleSaturation (s : State) : Out :=
  if s.margin.stale ∧ s.margin.horizon + 60 * secUnit ≤ now s then
    .next (judgeAll (s.modMargin fun m => { m with published := unbounded }))
  else .next s

/-- R177: the earlier row has matched for CLASS_HOLD. -/
def execClassHoldExpiry (mac : Fin 16) (s : State) : Out :=
  match s.margin.classes[mac].waiting with
  | some r => if matchRow s mac = r then
      .next (s.modMargin fun m =>
        { m with classes := m.classes.set mac { row := r, waiting := none } })
    else .next (judgeClass mac s)
  | none => .next s

/-! ### Status (15 R420) -/

def outputBound (s : State) (unc misalign : Nat) : Nat :=
  satBound (publishedNow s + unc + toPs misalign)

def ckoutBound (s : State) (k : Fin 16) : Nat :=
  let follows : Bool := match dpllOf s (apllOf k) with
    | some c => decide (s.ductus.dplls[c].cfg.input = 2)
    | none => true
  if follows then unbounded
  else outputBound s (calNat s (23480 + (6 * k.val + s.synth.ckouts[k].cfg.format) * 16 + 8) 8)
    (outputMisalign s k).natAbs

def evoutBound (s : State) (e : Fin 8) : Nat :=
  outputBound s (calNat s (25016 + 16 * e.val + 8) 8) s.synth.evouts[e].pending.natAbs

def marginRecord (s : State) : Bytes :=
  le 8 (publishedNow s) ++ le 8 s.margin.growth ++ le 2 (flag s.margin.stale 0) ++ le 6 0 ++
  s.margin.terms.flatMap (le 8) ++
  ((fins 16).flatMap fun m => le 8 (if macPresent s m then deliveryBound s m else unbounded)) ++
  ((fins 8).flatMap fun e => le 8 (evoutBound s e)) ++
  ((fins 16).flatMap fun k => le 8 (ckoutBound s k))

def execMarginStatus (r : Req) (s : State) : Out :=
  runRead 0x0311 (r.len = 0) r (fun s => .ok (marginRecord s)) s

end Sys2Proof.Machine
end

