-- ==== Sys2Proof/Machine/PtpOps.lean ====
section
/-! DEFINITION. The PTP service's sessions, the checks of its requests, and what its messages carry (12). -/

namespace Sys2Proof.Machine

/-! ### Profiles (R318) -/

/-- Ranges of a profile: domain, Sync, Announce and Delay_Resp log intervals, grant duration. -/
structure PtpProfile where
  domain   : Nat × Nat
  sync     : Int × Int
  announce : Int × Int
  delay    : Int × Int
  duration : Nat × Nat

def ptpProfile (n : Nat) : PtpProfile :=
  if n = 0 then ⟨(0, 127), (-7, 0), (-3, 3), (-7, 0), (10, 1000)⟩
  else ⟨(44, 63), (-7, 0), (-3, 0), (-7, 0), (60, 1000)⟩

def profileLog (p : PtpProfile) (msgType : Nat) : Int × Int :=
  match msgType with
  | 0 => p.sync
  | 9 => p.delay
  | _ => p.announce

/-! ### Sessions (R322, R324) -/

def sessionAt (s : State) (i : Nat) : Option Session := assoc s.net.ptp.sessions i

def modSession (i : Nat) (f : Session → Session) (s : State) : State :=
  s.modPtp fun p => { p with sessions := p.sessions.map fun x => if x.1 = i then (x.1, f x.2) else x }

/-- The session of a key of R322. -/
def findSession (s : State) (service ip clock port : Nat) : Option (Nat × Session) :=
  s.net.ptp.sessions.find? fun x => decide (x.2.service = service) && decide (x.2.peerIp = ip) &&
    decide (x.2.clockId = clock) && decide (x.2.portNumber = port)

def dropSession (i : Nat) (s : State) : State :=
  s.modPtp fun p => { p with sessions := assocErase p.sessions i, peers := assocErase p.peers i }

/-- The lowest index that no session holds. -/
def lowestFree : List (Nat × Session) → Nat → Nat
  | [], k => k
  | p :: ps, k => if p.1 = k then lowestFree ps (k + 1) else k

/-- The grant of a message type: its log interval and its end; 0 none. -/
def grantOf (x : Session) (msgType : Nat) : Int × Nat :=
  match msgType with
  | 0 => (x.syncLog, x.syncExpiry)
  | 9 => (x.delayLog, x.delayExpiry)
  | _ => (x.announceLog, x.announceExpiry)

def setGrant (msgType : Nat) (log : Int) (expiry : Nat) (x : Session) : Session :=
  match msgType with
  | 0 => { x with syncLog := log, syncExpiry := expiry }
  | 9 => { x with delayLog := log, delayExpiry := expiry }
  | _ => { x with announceLog := log, announceExpiry := expiry }

def endGrant (msgType : Nat) (x : Session) : Session := setGrant msgType 0x7F 0 x

def hasGrant (x : Session) (msgType : Nat) : Bool := decide ((grantOf x msgType).2 ≠ 0)

/-- Sync, Announce and Delay_Resp. -/
def grantTypes : List Nat := [0, 0xB, 9]

/-- Messages in 8 s of a log interval: the rate in 1/8 message per second. -/
def rateOf (log : Int) : Nat := if log ≤ 3 then 2 ^ (3 - log).toNat else 0

def sessionRate (x : Session) : Nat :=
  grantTypes.foldl (fun n t => n + if hasGrant x t then rateOf (grantOf x t).1 else 0) 0

/-- The Delay_Req of a parent counts like a grant. -/
def clientRate (x : ClientEntry) : Nat :=
  if x.ptpu.isSome ∧ x.delayGrant ≠ 0 then rateOf x.delayGrantLog else 0

/-- R324, in 1/8 message per second. -/
def committedRate (s : State) : Nat :=
  s.net.ptp.sessions.foldl (fun n x => n + sessionRate x.2) 0 +
  s.net.ptp.entries.toList.foldl (fun n e => n + clientRate e) 0

/-- The budget in force, in 1/8 message per second, scaled by the engines in service (17 R472). -/
def budgetNow (s : State) : Nat := ptpBudget (ruleMode s) * min (inService s 2) (inService s 3)

/-- The end of a grant as the entry holds it. -/
def expiryAt (s : State) (duration : Nat) : Nat := (nowSec s + duration) % 2 ^ 32

/-- A grant's end has come. -/
def expired (s : State) (e : Nat) : Bool :=
  decide (e ≠ 0) && decide ((nowSec s % 2 ^ 32 + 2 ^ 32 - e) % 2 ^ 32 < 2 ^ 31)

/-- DELAY_REQ_COUNT counts the present device-time second. -/
def settleCounts (s : State) : State :=
  if s.net.ptp.countSec = nowSec s then s
  else s.modPtp fun p =>
    { p with countSec := nowSec s, sessions := p.sessions.map fun x => (x.1, { x.2 with delayCount := 0 }) }

/-- A session entry is copied to position 1 (16 R446). -/
def replicateSession (x : Session) (s : State) : State :=
  if isPrimary s then replicate (twinOf s) (.session [x]) s else s

/-! ### Authentication (R321, R331, R332) -/

/-- The SA of a TLV's SPP, among those bound to an address or, by bit 16 and up, to a client entry. -/
def boundSa (s : State) (bit spp : Nat) : Option (Nat × Sa) :=
  s.net.ptp.sas.find? fun x => bitOf x.2.bind bit && decide (x.2.spp = spp)

/-- The key of an SA that a keyID names: CURRENT, or PREVIOUS until OVERLAP_END; whether it is PREVIOUS. -/
def keyNamed (s : State) (a : Sa) (keyId : Nat) : Option (SaKey × Bool) :=
  if a.current.keyId = keyId ∧ a.current.handle ≠ 0 then some (a.current, false)
  else if a.previous.keyId = keyId ∧ a.previous.handle ≠ 0 ∧ nowSec s < a.overlapEnd then
    some (a.previous, true)
  else none

/-- A TLV has exactly the form of R331. -/
def tlvForm (a : Sa) (t : AuthTlv) : Bool :=
  decide (t.icv.length = 16) &&
  (if a.algorithm = 0 then decide (t.secParam = 0) && decide (t.res = [])
   else decide (t.secParam = 4) && decide (t.res.length = 12))

/-- Rows of R338 that 0x0711 carries. -/
abbrev authRow : Nat := 6
abbrev icvRow : Nat := 7

/-- A message fails a check of R321; its counter, and its row in 0x0710 or 0x0711. -/
def ptpDrop (i : Fin 16) (k : Fin 27) (s : State) : State :=
  let s := countPtp i k s
  if 7 ≤ k.val ∧ k.val ≤ 9 then markSummary 0x0711 i.val authRow s
  else if k.val = 12 then markSummary 0x0711 i.val icvRow s
  else if k.val = 10 then markSummary 0x0710 i.val 9 s
  else if k.val ≤ 6 then markSummary 0x0710 i.val k.val s
  else s

/-- Checks 8 and 9: none where they pass, else the counter. -/
def authForm (s : State) (i : Fin 16) (bit : Nat) (m : PtpMsg) : Option (Fin 27) :=
  let mode := s.net.ptp.addresses[i].cfg.authMode
  match m.auth with
  | [] => if mode = 1 then some 7 else none
  | [t] =>
    if !m.authLast then some 7
    else if mode = 0 then none
    else match boundSa s bit t.spp with
      | none => some 9
      | some (_, a) =>
        if !tlvForm a t then some 8
        else if a.dropping then some pSaDrop
        else if (keyNamed s a t.keyId).isNone then some 9
        else none
  | _ => some 7

/-- The SA under which a message is authenticated; 0xFFFF none. -/
def saOf (s : State) (i : Fin 16) (bit : Nat) (m : PtpMsg) : Nat :=
  if s.net.ptp.addresses[i].cfg.authMode = 0 then 0xFFFF
  else match m.auth with
    | t :: _ => match boundSa s bit t.spp with
      | some (n, _) => n
      | none => 0xFFFF
    | [] => 0xFFFF

/-- Check 11: whether the ICV verifies, with the counters that follow. -/
def verifyIcv (i : Fin 16) (bit : Nat) (m : PtpMsg) (s : State) : Bool × State :=
  if s.net.ptp.addresses[i].cfg.authMode = 0 then (true, s)
  else match m.auth with
    | [] => (true, s)
    | t :: _ => match boundSa s bit t.spp with
      | none => (false, ptpDrop i 9 s)
      | some (_, a) =>
        if a.dropping then (false, countPtp i pSaDrop s)
        else match keyNamed s a t.keyId with
          | none => (false, ptpDrop i 9 s)
          | some (k, prev) => match keyOfHandle s k.handle with
            | none => (false, ptpDrop i 9 s)
            | some (_, key) =>
              if (Config.icv a.algorithm key t.res m.octets).take 16 = t.icv then
                (true, if prev then countPtp i pPrevKey s else s)
              else (false, ptpDrop i 12 s)

def countUnknown (i : Fin 16) (m : PtpMsg) : State → State :=
  modPtpAddr i fun a =>
    { a with counters := upd a.counters pTlvUnknown fun n => (n + m.unknownTlv) % 2 ^ 64 }

/-! ### Checks 1 to 10 and admission (R321) -/

/-- The enabled entry whose master a frame comes from. -/
def masterEntry (s : State) (i : Fin 16) (mac : Fin 16) (ip : IpHdr) : Option (Fin 16) :=
  (fins 16).find? fun e =>
    let c := s.net.ptp.entries[e].cfg
    decide (c.enable = 1) && decide (c.service = i.val) && decide (c.mac = mac.val) &&
    decide (c.masterIp = ip.src)

def asksGrant (m : PtpMsg) : Bool := m.neg.any fun t => match t with
  | .request .. => true
  | _ => false

/-- The client role of the address expects a message. -/
def clientExpects (m : PtpMsg) (dstPort : Nat) : Bool :=
  if dstPort = 319 then decide (m.msgType = 0)
  else decide (m.msgType ∈ [8, 9, 0xB]) || (decide (m.msgType = 0xC) && !asksGrant m)

def ptpInFlight (s : State) : Nat :=
  s.net.ptp.requests.length + s.net.ptp.inbox.length +
  inFlight s fun o => match o with
    | .ptp .. => true
    | _ => false

def ptpBufferFull (s : State) (len : Nat) : Bool :=
  decide (65536 < (s.net.ptp.requests.map fun q => lines q.frame.length).foldl (· + ·) 0 +
    (s.net.ptp.negotiation.map fun q => lines q.frame.length).foldl (· + ·) 0 +
    reservedLines s isPtp + lines len)

/-- The share is full (01 R36). -/
def ptpShareDrop (i : Fin 16) (s : State) : State :=
  markMask 0x0710 i.val 0 (s.modPtp fun p => { p with admissionDrop := (p.admissionDrop + 1) % 2 ^ 64 })

/-- Check 10 for a Delay_Req. -/
def admitDelayReq (i : Fin 16) (f : Frame) (ip : IpHdr) (srcPort : Nat) (m : PtpMsg) (stamp : Nat)
    (s : State) : State :=
  let s := settleCounts s
  match findSession s i.val ip.src m.srcClock m.srcPort with
  | none => ptpDrop i 10 s
  | some (n, x) =>
    let limit := s.net.ptp.addresses[i].cfg.slack * rateOf x.delayLog
    if !hasGrant x 9 then ptpDrop i 10 s
    else if limit ≤ x.delayCount * 8 then raiseOnce 0x0712 i.val i.val n (countPtp i 11 s)
    else if 384 ≤ ptpInFlight s then ptpShareDrop i s
    else
      let s := modSession n (fun y => { y with delayCount := y.delayCount + 1, eventPort := srcPort }) s
      countAdmitted 4 (s.modPtp fun p =>
        { p with requests := p.requests ++ [{ address := i, frame := f, stamp := stamp }],
                 peers := assocSet p.peers n (f.sa, f.da) })

/-- A message of a master waits for the client role. -/
def admitClient (e : Fin 16) (f : Frame) (m : PtpMsg) (stamp : Nat) (s : State) : State :=
  (modEntry e (fun x => { x with peerMac := some f.sa }) s).modPtp fun p =>
    { p with inbox := p.inbox ++ [{ entry := e, msg := m, stamp := stamp }] }

/-- A message that reached a PTP service address and passed the port checks. -/
def ptpRequest (i : Fin 16) (f : Frame) (ip : IpHdr) (srcPort dstPort : Nat) (m : PtpMsg)
    (stamp : Nat) (s : State) : State :=
  let c := s.net.ptp.addresses[i].cfg
  let bad := decide (srcPort = 0) || ip.options || decide (f.da ∉ s.net.macs[f.mac].cfg.macAddr) ||
    ipBadSource ip.v6 ip.src || decide (ip.src = c.address) ||
    (decide (dstPort ≠ 319) && decide (dstPort ≠ 320))
  let server := (decide (dstPort = 319) && decide (m.msgType = 1)) ||
    (decide (dstPort = 320) && decide (m.msgType = 0xC))
  let client := if clientExpects m dstPort then masterEntry s i f.mac ip else none
  let bit := match client with
    | some e => 16 + e.val
    | none => i.val
  if !counterForm s ∨ s.clock.leap.unset ∨ !serviceState s then ptpDrop i 0 s
  else if bad then ptpDrop i 1 s
  else if !m.lengthOk then ptpDrop i 2 s
  else if m.version ≠ 2 ∨ 1 < m.minor then ptpDrop i 3 s
  else if m.domain ≠ c.domain then ptpDrop i 4 s
  else if !server ∧ client.isNone then ptpDrop i 5 s
  else if m.srcClock = s.net.ptp.clockId then ptpDrop i 6 s
  else match authForm s i bit m with
    | some k => ptpDrop i k s
    | none =>
      match client with
      | some e => if 384 ≤ ptpInFlight s then ptpShareDrop i s else admitClient e f m stamp s
      | none =>
        if m.msgType = 1 then admitDelayReq i f ip srcPort m stamp s
        else if 384 ≤ ptpInFlight s then ptpShareDrop i s
        else if 65536 ≤ s.net.ptp.negotiation.length then
          markMask 0x0710 i.val 0 (countPtp i pNegBacklog s)
        else s.modPtp fun p => { p with negotiation := p.negotiation ++ [{ address := i, frame := f }] }

/-! ### What a message carries (R328, R329, R333) -/

/-- The anchor that a message names, the last one where there is none. -/
def namedAnchor (s : State) : Option (Fin 20) :=
  if s.ductus.anchor.isSome then s.ductus.anchor else s.ductus.lastAnchor

/-- The bound TLV of R333. -/
def boundTlv (s : State) (m : Fin 16) : Bytes :=
  be 2 3 ++ be 2 62 ++ le 3 s.net.ptp.orgId ++ be 3 1 ++
  be 2 1 ++ be 1 (ductusCode s.ductus.state) ++
  be 1 (match namedAnchor s with
    | some i => anchorKind i
    | none => 0xFF) ++
  be 2 (recordFlags s (publishedNow s) + flag s.margin.stale 0) ++ be 2 0 ++ be 8 (deliveryBound s m) ++
  be 8 s.margin.growth ++ (ztBytes s.margin.horizon).reverse ++ be 8 s.margin.recordSeq ++
  be 4 s.keys.bootCount ++ be 4 0

/-- It stands in the message types of BOUND_MSGS while ORGANIZATION_ID is not 0 (00 R24). -/
def boundOf (s : State) (c : PtpCfg) (bit : Nat) (m : Fin 16) : Bytes :=
  if s.net.ptp.orgId ≠ 0 ∧ bitOf c.boundMsgs bit then boundTlv s m else []

/-- The flags of an Announce. -/
def announceFlags (s : State) (m : Fin 16) : Nat :=
  let p := leapPending s.clock.leap (nowSec s)
  let traced := (decide (s.ductus.state = .locked) || decide (s.ductus.state = .rejoin) ||
    decide (s.ductus.state = .coast)) && decide (deliveryBound s m < unbounded)
  flag (decide (0 < p)) 0 + flag (decide (p < 0)) 1 +
  flag (!s.clock.leap.unset && !tableExpired s) 2 + 8 + flag traced 4 + flag traced 5

def timeSource (s : State) : Nat :=
  match namedAnchor s with
  | none => 0xA0
  | some i => match refKind i with
    | .gnss => 0x20
    | .ptpu => 0x40
    | _ => 0x90

/-- The fields of an Announce after originTimestamp. -/
def announceBody (s : State) (c : PtpCfg) (m : Fin 16) : Bytes :=
  be 2 (toCode 16 (offsetAt s.clock.leap (nowSec s))) ++ be 1 0 ++ be 1 c.priority1 ++
  be 1 (clockClassOf s m) ++ be 1 (accuracyCode (deliveryBound s m)) ++ be 2 c.oslv ++
  be 1 c.priority2 ++ le 8 s.net.ptp.clockId ++ be 2 0 ++ be 1 (timeSource s)

/-- The bound that a port delivers is judged as a message reserves its slot (05 R167, R175, R177). -/
def judgePort (m : Fin 16) (s : State) : State := judgeClass m (judgeAlarm m s)

/-- The frame of a session's message: 319 to the peer's event port, 320 to its general one. The Ethernet
address of a peer that this device has not heard is a free value. -/
def sessionWire (n : Nat) (x : Session) (event : Bool) (s : State) : Wire × State :=
  let i : Fin 16 := (asFin 16 x.service).getD 0
  let m : Fin 16 := (asFin 16 x.mac).getD 0
  let c := s.net.ptp.addresses[i].cfg
  let ((da, sa), s) := match assoc s.net.ptp.peers n with
    | some p => (p, s)
    | none =>
      let (k, s) := freshNat s
      ((k % 2 ^ 48, s.net.macs[m].cfg.macAddr.headD 0), s)
  ({ da := da, sa := sa, tags := vlanTags s m x.vlanEntry c.pcp c.dei, v6 := decide (c.family = 6),
     src := c.address, dst := x.peerIp, srcPort := if event then 319 else 320,
     dstPort := if event then x.eventPort else x.generalPort, dscp := c.dscp, hop := c.hopLimit }, s)

/-- A Signaling message to the peer of a session. -/
def signalSession (n : Nat) (x : Session) (tlvs : List SignalTlv) (s : State) : State :=
  let (w, s) := sessionWire n x false s
  sendSignal { address := (asFin 16 x.service).getD 0, mac := (asFin 16 x.mac).getD 0, wire := w,
               tClock := x.clockId, tPort := x.portNumber, sa := x.saIndex } tlvs s

/-- R326: the address is turned off. Each session's grants are cancelled in one message. -/
def cancelSessions (i : Fin 16) (s : State) : State :=
  forAll (s.net.ptp.sessions.filter fun x => decide (x.2.service = i.val) && decide (x.2.state = 1))
    (fun x t =>
      let held := grantTypes.filter (hasGrant x.2)
      let t := signalSession x.1 x.2 (held.map .cancel) t
      let y := { held.foldl (fun y k => endGrant k y) x.2 with state := 2 }
      replicateSession y (modSession x.1 (fun _ => y) t)) s

end Sys2Proof.Machine
end

