-- ==== Sys2Proof/Machine/Ptp.lean ====
section
/-! DEFINITION. The PTP service: its commands, negotiation, timed messages and the client role (12). -/

namespace Sys2Proof.Machine

/-! ### Service addresses (R318, R319) -/

def ptpTable : Table PtpCfg where
  flds := [one 1, { widths := [1, 16, 2, 1] }, { widths := [1, 1, 1, 1] }, one 1, one 1, one 2,
    { widths := [1, 1] }, one 2, { widths := [1, 1, 1] }, one 4, one 4, one 1, one 1, one 1, one 4]
  rows c := [[c.enable], [c.family, c.address, c.macMask, c.vlan], [c.pcp, c.dei, c.dscp, c.hopLimit],
    [c.profile], [c.domain], [c.portBase], [c.priority1, c.priority2], [c.oslv],
    [c.syncLogMin, c.delayLogMin, c.annLogMin], [c.durationMax], [c.maxSessions], [c.reduce],
    [c.authMode], [c.boundMsgs], [c.slack]]
  ofRows r := { enable := val r 0, family := val r 1, address := (row r 1).getD 1 0,
                macMask := (row r 1).getD 2 0, vlan := (row r 1).getD 3 0, pcp := val r 2,
                dei := (row r 2).getD 1 0, dscp := (row r 2).getD 2 0, hopLimit := (row r 2).getD 3 0,
                profile := val r 3, domain := val r 4, portBase := val r 5, priority1 := val r 6,
                priority2 := (row r 6).getD 1 0, oslv := val r 7, syncLogMin := val r 8,
                delayLogMin := (row r 8).getD 1 0, annLogMin := (row r 8).getD 2 0,
                durationMax := val r 9, maxSessions := val r 10, reduce := val r 11,
                authMode := val r 12, boundMsgs := val r 13, slack := val r 14 }

def logIn (r : Int × Int) (code : Nat) : Bool := withinInt r.1 r.2 (ofCode 8 code)

def ptpValid (c : PtpCfg) (sel : Nat → Bool) : Bool :=
  let p := ptpProfile c.profile
  decide (c.enable ≤ 1) && (decide (c.family = 4) || decide (c.family = 6)) &&
  addressOk c.family c.address (sel 1 || decide (c.enable = 1)) && vlanOk c.vlan &&
  decide (c.pcp ≤ 7) && decide (c.dei ≤ 1) && decide (c.dscp ≤ 63) && within 1 255 c.hopLimit &&
  decide (c.profile ≤ 1) && within p.domain.1 p.domain.2 c.domain && within 1 65519 c.portBase &&
  logIn p.sync c.syncLogMin && logIn p.delay c.delayLogMin && logIn p.announce c.annLogMin &&
  within p.duration.1 p.duration.2 c.durationMax && decide (c.maxSessions ≤ 262144) &&
  decide (c.reduce ≤ 1) && decide (c.authMode ≤ 2) && decide (c.boundMsgs ≤ 7) && within 1 16 c.slack

/-- The rows that change only while ENABLE is off. -/
def ptpFixed (a b : PtpCfg) : Bool :=
  decide (a.family = b.family) && decide (a.address = b.address) && decide (a.macMask = b.macMask) &&
  decide (a.vlan = b.vlan) && decide (a.profile = b.profile) && decide (a.domain = b.domain)

/-- The conflict check of 11 R296 on both UDP ports. -/
def ptpConflict (s : State) (i : Fin 16) (c : PtpCfg) : Bool :=
  decide (c.enable = 1) && !s.net.ptp.addresses[i].standby &&
  (otherNts s none ++ otherPtp s (some i)).any fun o => (ptpAnswering c).any fun a => overlaps a o

/-- A configuration takes effect; turned off, the address cancels its grants, a standby one in
silence. -/
def applyPtp (i : Fin 16) (c : PtpCfg) (s : State) : State :=
  let old := s.net.ptp.addresses[i]
  let s' := modPtpAddr i (fun a => { a with cfg := c }) s
  if old.cfg.enable = 1 ∧ c.enable = 0 then
    settleParents (if old.standby then s' else cancelSessions i s')
  else settleParents s'

def putPtp (i : Fin 16) (rows : Rows) (sel : Nat → Bool) (s : State) : Except Nat State := do
  let c := ptpTable.ofRows rows
  let old := s.net.ptp.addresses[i].cfg
  need (ptpValid c sel) eRange
  need (decide (old.enable = 0) || ptpFixed c old) eState
  need (!ptpConflict s i c) eState
  pure (replicateConfig 0x0701 i.val (applyPtp i c s))

def execPtpServiceConfigure (r : Req) (g : GReq) (s : State) : Out :=
  runConfig 0x0701 ptpTable.flds r g
    (fun s => (asFin 16 g.index).map fun i => ptpTable.rows s.net.ptp.addresses[i].cfg)
    (fun rows s => match asFin 16 g.index with
      | none => .error eRange
      | some i => putPtp i rows (selects g) s) s

def execPtpServiceConfigureReadBack (r : Req) (index : Nat) (s : State) : Out :=
  runReadBack 0x0781 ptpTable.flds r index
    (fun s => (asFin 16 index).map fun i => ptpTable.rows s.net.ptp.addresses[i].cfg) s

/-- One second after the address was turned off. -/
def execCancellingTimeout (address : Fin 16) (s : State) : Out :=
  let gone := s.net.ptp.sessions.filter fun x =>
    decide (x.2.service = address.val) && decide (x.2.state = 2)
  .next (forAll gone (fun x t => replicateSession { x.2 with state := 0 } (dropSession x.1 t)) s)

/-! ### Device-wide values (R320, R327) -/

def globalFlds : List Fld := [one 8, one 3, one 4]
def globalRows (s : State) : Rows := [[s.net.ptp.clockId], [s.net.ptp.orgId], [s.net.ptp.schedLead]]

def putGlobal (rows : Rows) (s : State) : Except Nat State := do
  need (within 1 100 (val rows 2)) eRange
  need ((fins 16).all fun i => decide (s.net.ptp.addresses[i].cfg.enable = 0)) eState
  pure (replicateConfig 0x0702 0xFFFF (s.modPtp fun p =>
    { p with clockId := val rows 0, orgId := val rows 1, schedLead := val rows 2 }))

def execPtpGlobalConfigure (r : Req) (g : GReq) (s : State) : Out :=
  runConfig 0x0702 globalFlds r g (fun s => if wide g.index then some (globalRows s) else none)
    putGlobal s

def execPtpGlobalConfigureReadBack (r : Req) (index : Nat) (s : State) : Out :=
  runReadBack 0x0782 globalFlds r index (fun s => if wide index then some (globalRows s) else none) s

/-! ### The session table (R322) -/

/-- The 64 octets of an entry. -/
def sessionBytes (x : Session) : Bytes :=
  [le 1 x.state, le 1 x.service, le 1 x.mac, le 1 x.flags, le 16 x.peerIp, le 2 x.eventPort,
   le 2 x.generalPort, le 8 x.clockId, le 2 x.portNumber, le 1 x.vlanEntry, le 1 x.pcpIn,
   le 1 (toCode 8 x.syncLog), le 1 (toCode 8 x.announceLog), le 1 (toCode 8 x.delayLog), le 1 0,
   le 4 x.syncExpiry, le 4 x.announceExpiry, le 4 x.delayExpiry, le 4 x.phase, le 2 x.syncSeq,
   le 2 x.announceSeq, le 2 x.saIndex, le 2 x.delayCount].flatten

/-- A free entry. -/
def freeSession : Bytes := le 64 0

def execSessionRead (r : Req) (first count : Nat) (s : State) : Out :=
  runRead 0x0703 (r.len = 6) r (fun s =>
    if within 1 255 count ∧ first + count ≤ 262144 then
      let t := settleCounts s
      .ok (le 4 count ++ le 4 0 ++ (List.range count).flatMap fun k =>
        ((sessionAt t (first + k)).map sessionBytes).getD freeSession)
    else .error eRange) s

/-! ### Status (15 R424) -/

/-- The counters of an address with those of the parents held through it. -/
def ptpCounters (s : State) (i : Fin 16) : List Nat :=
  let mine := (fins 16).filter fun e => decide (s.net.ptp.entries[e].cfg.service = i.val)
  let sum := fun (f : ClientEntry → Nat) => mine.foldl (fun n e => n + f s.net.ptp.entries[e]) 0
  s.net.ptp.addresses[i].counters.toList.take 24 ++ [sum (·.lost), sum (·.followMissing), sum (·.respMismatch)]

def execPtpStatus (r : Req) (address : Nat) (s : State) : Out :=
  runRead 0x0710 (r.len = 1) r (fun s => match asFin 16 address with
    | none => .error eRange
    | some i =>
      let n := s.net.ptp.sessions.countP fun x => decide (x.2.service = i.val)
      .ok (le 4 n ++ le 4 (committedRate s) ++ (ptpCounters s i).flatMap (le 8))) s

/-! ### Security associations (R330, R332) -/

def saTable : Table Sa where
  flds := [one 1, one 1, { widths := [4, 4] }, { widths := [4, 4] }, { widths := [4, 4] }, one 4, one 1,
    one 4]
  rows c := [[c.spp], [c.algorithm], [c.current.keyId, c.current.handle],
    [c.previous.keyId, c.previous.handle], [c.next.keyId, c.next.handle], [c.overlap], [c.policy],
    [c.bind]]
  ofRows r := { spp := val r 0, algorithm := val r 1, current := ⟨val r 2, (row r 2).getD 1 0⟩,
                previous := ⟨val r 3, (row r 3).getD 1 0⟩, next := ⟨val r 4, (row r 4).getD 1 0⟩,
                overlap := val r 5, policy := val r 6, bind := val r 7 }

def saOrNone (s : State) (n : Nat) : Sa := (saAt s n).getD {}

/-- No other SA bound to the same address or entry has the SPP. -/
def sppFree (s : State) (n : Nat) (a : Sa) : Bool :=
  s.net.ptp.sas.all fun x => decide (x.1 = n) || decide (x.2.spp ≠ a.spp) || decide (x.2.bind &&& a.bind = 0)

/-- A handle that is given names an SA key; 0 is none. -/
def handleOk (s : State) (h : Nat) : Bool :=
  decide (h = 0) || (slotOf s h).any fun n => decide (64 ≤ n)

/-- A slot that no SA names any more is freed (13 R358). -/
def freeHandle (h : Nat) (s : State) : State :=
  let named := s.net.ptp.sas.any fun x => decide (x.2.current.handle = h) ||
    decide (x.2.previous.handle = h) || decide (x.2.next.handle = h)
  if h = 0 ∨ named then s
  else match slotOf s h with
    | some n => if 64 ≤ n then zeroSlot n s else s
    | none => s

/-- SA keys of the primary's addresses go to position 1 at each change (16 R446). -/
def replicateSaKey (a : Sa) (k : SaKey) (s : State) : State :=
  if isPrimary s ∧ a.bind % 2 ^ 16 ≠ 0 then
    match slotOf s k.handle with
    | some n => replicate (twinOf s) (.key (keyRecord s n 1 k.keyId 0)) s
    | none => s
  else s

/-- What a configuration of an SA brings about. -/
def applySa (n : Nat) (a : Sa) (s : State) : State :=
  let old := saOrNone s n
  let a := { a with overlapEnd := old.overlapEnd, dropping := old.dropping,
                    derived := old.derived && decide (a.current = old.current) }
  let s := setSa n a s
  let s := if a.current ≠ old.current then raise 0x0730 n a.current.keyId (replicateSaKey a a.current s) else s
  freeHandle old.next.handle (freeHandle old.previous.handle (freeHandle old.current.handle s))

/-- The configuration of an SA goes to position 1 where it is bound to an address. -/
def replicateSa (n : Nat) (s : State) : State :=
  if (saOrNone s n).bind % 2 ^ 16 ≠ 0 then replicateConfig 0x0704 n s else s

def putSa (n : Nat) (rows : Rows) (s : State) : Except Nat State := do
  let a := saTable.ofRows rows
  need (decide (n < 2048) && decide (a.algorithm ≤ 1) && decide (a.overlap ≤ 3600) && decide (a.policy ≤ 1)) eRange
  need (handleOk s a.current.handle && handleOk s a.previous.handle && handleOk s a.next.handle) eKey
  need (sppFree s n a) eState
  pure (replicateSa n (applySa n a s))

def saIndexRows (n : Nat) (s : State) : Option Rows :=
  if n < 2048 then some (saTable.rows (saOrNone s n)) else none

def execSaConfigure (r : Req) (g : GReq) (s : State) : Out :=
  runConfig 0x0704 saTable.flds r g (saIndexRows g.index) (putSa g.index) s

def execSaConfigureReadBack (r : Req) (index : Nat) (s : State) : Out :=
  runReadBack 0x0784 saTable.flds r index (saIndexRows index) s

/-- R332: a key becomes CURRENT with the overlap of the old one, or NEXT. -/
def replaceKey (n which : Nat) (k : SaKey) (derived : Bool) (s : State) : State :=
  let old := saOrNone s n
  let a := if which = 0 then
      { old with current := k, previous := old.current, overlapEnd := nowSec s + old.overlap,
                 dropping := false, derived := derived }
    else { old with next := k }
  let s := raise 0x0730 n k.keyId (replicateSaKey a k (setSa n a s))
  freeHandle (if which = 0 then old.previous.handle else old.next.handle) s

def execKeyReplace (r : Req) (sa which keyId handle : Nat) (s : State) : Out :=
  runSimple 0x0705 12 r (fun s => do
    need (decide (sa < 2048) && decide (which ≤ 1)) eRange
    need (serviceState s) eState
    need (decide (handle ≠ 0) && handleOk s handle) eKey
    pure (replaceKey sa which ⟨keyId, handle⟩ false s)) s

def execSaInvalidate (r : Req) (sa : Nat) (s : State) : Out :=
  runSimple 0x0706 2 r (fun s => do
    need (decide (sa < 2048)) eRange
    need (serviceState s) eState
    let a := saOrNone s sa
    let gone := a.current.handle
    if a.policy = 0 ∧ a.next ≠ {} then
      let b := { a with current := a.next, next := {}, derived := false }
      pure (freeHandle gone (raise 0x0731 sa b.current.keyId (replicateSaKey b b.current (setSa sa b s))))
    else
      let b := { a with current := {}, dropping := true, derived := false }
      pure (freeHandle gone (raise 0x0732 sa 0 (setSa sa b s)))) s

/-! ### Negotiation (R323 to R326) -/

/-- The answer to one TLV, and the state after it. -/
abbrev NegAnswer := Option SignalTlv × State

/-- A request on its way through the rows of R325. -/
structure NegCtx where
  address : Fin 16
  frame   : Frame
  ip      : IpHdr
  srcPort : Nat
  msg     : PtpMsg
  sa      : Nat

/-- The entry of the VLAN list that the address answers in, and the PCP of the outermost tag. -/
def newSession (x : NegCtx) (n : Nat) (s : State) : Session :=
  let c := s.net.ptp.addresses[x.address].cfg
  { state := 1, service := x.address.val, mac := x.frame.mac.val, peerIp := x.ip.src, eventPort := 319,
    generalPort := x.srcPort, clockId := x.msg.srcClock, portNumber := x.msg.srcPort,
    vlanEntry := c.vlan, phase := n * 10 ^ 9 / 2 ^ 18 }

/-- What a request says of its peer enters the session. -/
def renewSession (x : NegCtx) (below : Bool) (y : Session) : Session :=
  { y with state := 1, mac := x.frame.mac.val, generalPort := x.srcPort, saIndex := x.sa,
           pcpIn := match x.frame.tags with
             | t :: _ => t.pcp
             | [] => 0
           flags := flag x.ip.v6 0 + flag (decide (x.sa ≠ 0xFFFF)) 1 + flag below 2 }

/-- A grant commits (R323, R325). -/
def commitGrant (x : NegCtx) (msgType : Nat) (log : Int) (duration : Nat) (below : Bool) (s : State) :
    State :=
  let found := findSession s x.address.val x.ip.src x.msg.srcClock x.msg.srcPort
  let n := match found with
    | some p => p.1
    | none => lowestFree s.net.ptp.sessions 0
  let old := match found with
    | some p => p.2
    | none => newSession x n s
  let y := setGrant msgType log (expiryAt s duration) (renewSession x below old)
  let s := s.modPtp fun p =>
    { p with sessions := assocSet p.sessions n y, peers := assocSet p.peers n (x.frame.sa, x.frame.da) }
  replicateSession y s

/-- The committed rate with a grant in place of the one it replaces. -/
def rateWith (s : State) (old : Option Session) (msgType : Nat) (log : Int) : Nat :=
  committedRate s + rateOf log - (match old with
    | some y => if hasGrant y msgType then rateOf (grantOf y msgType).1 else 0
    | none => 0)

/-- The grant raises the rate above the budget. -/
def overBudget (s : State) (old : Option Session) (msgType : Nat) (log : Int) : Bool :=
  let n := rateWith s old msgType log
  decide (budgetNow s < n) && decide (committedRate s < n)

/-- The first interval from `log` to the profile's slowest that fits. -/
def firstFitting (s : State) (old : Option Session) (msgType : Nat) (slowest : Int) : Nat → Int → Option Int
  | 0, _ => none
  | k + 1, log =>
    if slowest < log then none
    else if overBudget s old msgType log then firstFitting s old msgType slowest k (log + 1)
    else some log

/-- The fastest interval of an address for a type. -/
def fastestLog (c : PtpCfg) (msgType : Nat) : Int :=
  ofCode 8 (match msgType with
    | 0 => c.syncLogMin
    | 9 => c.delayLogMin
    | _ => c.annLogMin)

def denial (msgType : Nat) (log : Int) (s : State) : NegAnswer := (some (.grant msgType log 0), s)

/-- The rows of R325 in their order. -/
def settleRequest (x : NegCtx) (msgType : Nat) (log : Int) (duration : Nat) (s : State) : NegAnswer :=
  let i := x.address
  let c := s.net.ptp.addresses[i].cfg
  let p := ptpProfile c.profile
  let old := (findSession s i.val x.ip.src x.msg.srcClock x.msg.srcPort).map (·.2)
  let held := s.net.ptp.sessions.countP fun y => decide (y.2.service = i.val)
  let slowest := (profileLog p msgType).2
  if msgType ∉ grantTypes then denial msgType log (countPtp i pNegType s)
  else if old.isNone ∧ 262144 ≤ s.net.ptp.sessions.length then
    denial msgType log (raiseOnce 0x0701 i.val i.val 0 (countPtp i pSessionFull s))
  else if old.isNone ∧ c.maxSessions ≤ held then
    denial msgType log (raiseOnce 0x0701 i.val (i.val + 256) 0 (countPtp i pSessionQuota s))
  else if slowest < log ∨ (log < fastestLog c msgType ∧ c.reduce = 0) then
    denial msgType log (countPtp i pNegRate s)
  else
    let want := max log (fastestLog c msgType)
    let dur := min c.durationMax (max p.duration.1 duration)
    if !overBudget s old msgType want then
      let s := if log < want then countPtp i pGrantReduced s else s
      (some (.grant msgType want dur), commitGrant x msgType want dur (decide (log < want)) s)
    else
      let s := raiseOnce 0x0702 i.val i.val (committedRate s) s
      match (if c.reduce = 1 then firstFitting s old msgType slowest 16 (want + 1) else none) with
      | some l =>
        (some (.grant msgType l dur), commitGrant x msgType l dur true (countPtp i pGrantReduced s))
      | none => denial msgType log (countPtp i pBudgetDeny s)

/-- A session whose last grant has ended is freed. -/
def settleSession (n : Nat) (s : State) : State :=
  match sessionAt s n with
  | none => s
  | some y =>
    if grantTypes.any (hasGrant y) then replicateSession y s
    else replicateSession { y with state := 0 } (dropSession n s)

/-- R326. -/
def settleCancel (x : NegCtx) (msgType : Nat) (s : State) : NegAnswer :=
  match findSession s x.address.val x.ip.src x.msg.srcClock x.msg.srcPort with
  | some (n, y) =>
    if msgType ∈ grantTypes ∧ hasGrant y msgType then
      (some (.ackCancel msgType), settleSession n (modSession n (endGrant msgType) s))
    else (some (.ackCancel msgType), countPtp x.address pCancelUnknown s)
  | none => (some (.ackCancel msgType), countPtp x.address pCancelUnknown s)

/-- Each TLV in turn; an ACKNOWLEDGE_CANCEL or a GRANT asks for nothing. -/
def settleTlv (x : NegCtx) (t : NegTlv) (acc : List SignalTlv × State) : List SignalTlv × State :=
  let (a, s) := match t with
    | .request ty l d => settleRequest x ty l d acc.2
    | .cancel ty => settleCancel x ty acc.2
    | _ => (none, acc.2)
  (acc.1 ++ a.toList, s)

/-- The frame of an answer: the request's, swapped. -/
def negWire (x : NegCtx) (s : State) : Wire :=
  let c := s.net.ptp.addresses[x.address].cfg
  answerWire x.frame c.pcp c.dei c.dscp c.hopLimit

/-- Scribe takes the Signaling message that has waited longest. -/
def execNegotiation (s : State) : Out :=
  match s.net.ptp.negotiation with
  | [] => .next s
  | q :: rest =>
    if !s.host.supervisor then .next s
    else
      let s := s.modPtp fun p => { p with negotiation := rest }
      match q.frame.payload, q.frame.ip, q.frame.udp with
      | .ptp m, some ip, some udp =>
        if !ptpServes s q.address then .next s
        else match verifyIcv q.address q.address.val m s with
          | (false, s) => .next s
          | (true, s) =>
            let s := countUnknown q.address m s
            let x : NegCtx := { address := q.address, frame := q.frame, ip := ip, srcPort := udp.srcPort,
                                msg := m, sa := saOf s q.address q.address.val m }
            let (l, s) := m.neg.foldl (fun acc t => settleTlv x t acc) ([], s)
            if l = [] then .next s
            else .next (sendSignal
              { address := q.address, mac := q.frame.mac, wire := negWire x s, tClock := m.srcClock,
                tPort := m.srcPort, sa := x.sa } l s)
      | _, _, _ => .next s

/-- A session's grants whose end has come. -/
def sweepSession (x : Nat × Session) (s : State) : State :=
  let due := grantTypes.filter fun t => expired s (grantOf x.2 t).2
  if due = [] then s
  else settleSession x.1 (modSession x.1 (fun y => due.foldl (fun z t => endGrant t z) y) s)

/-- A grant that a master gave ends; a parent whose renewal was denied is lost with it (R335). -/
def sweepEntry (e : Fin 16) (s : State) : State :=
  let x := s.net.ptp.entries[e]
  let lapsed := fun (g : Nat) => decide (g ≠ 0) && decide (g ≤ nowSec s)
  if lapsed x.annGrant || lapsed x.syncGrant || lapsed x.delayGrant then
    let s := modEntry e (fun y =>
      { y with annGrant := if lapsed y.annGrant then 0 else y.annGrant,
               syncGrant := if lapsed y.syncGrant then 0 else y.syncGrant,
               delayGrant := if lapsed y.delayGrant then 0 else y.delayGrant }) s
    if x.denied then loseParent e s else s
  else s

/-- At each device-time second boundary. -/
def execGrantExpirySweep (s : State) : Out :=
  if !s.host.supervisor ∨ !clockRuns s then .next s
  else
    let s := forAll s.net.ptp.sessions sweepSession (settleCounts s)
    .next (forAll (fins 16) sweepEntry s)

/-! ### Delay_Resp (R321, R328) -/

/-- The algorithm that a request needs an engine of. -/
def requestAlg (s : State) (q : PtpRequest) : Option Nat :=
  match q.frame.payload with
  | .ptp m =>
    if s.net.ptp.addresses[q.address].cfg.authMode = 0 then none
    else match m.auth with
      | t :: _ => (boundSa s q.address.val t.spp).map fun x => x.2.algorithm
      | [] => none
  | _ => none

/-- The first request that an engine can take, and those that are left. -/
def takeRequest (p : PtpRequest → Bool) : List PtpRequest → Option (PtpRequest × List PtpRequest)
  | [] => none
  | q :: qs => if p q then some (q, qs) else (takeRequest p qs).map fun x => (x.1, q :: x.2)

/-- The Delay_Resp of a session to a Delay_Req. -/
def delayResp (q : PtpRequest) (m : PtpMsg) (x : Session) (w : Wire) (auth : Option AuthSeal)
    (s : State) : Reply :=
  let c := s.net.ptp.addresses[q.address].cfg
  { kind := 4, wire := { w with tags := answerTags c.pcp c.dei q.frame.tags }, ingress := q.stamp,
    domain := c.domain, portNumber := c.portBase + q.frame.mac.val, seqId := m.seqId,
    correction := m.correction, logInterval := x.delayLog, reqClock := m.srcClock, reqPort := m.srcPort,
    tlvs := boundOf s c 2 q.frame.mac, auth := auth, bound := deliveryBound s q.frame.mac }

/-- Check 11 and the answer; none where no slot lies within the horizon. -/
def ptpAnswer (engine : Nat) (q : PtpRequest) (m : PtpMsg) (s : State) : Option State :=
  match verifyIcv q.address q.address.val m s with
  | (false, s) => some s
  | (true, s) =>
    let s := countUnknown q.address m s
    match findSession s q.address.val (q.frame.ip.map (·.src)|>.getD 0) m.srcClock m.srcPort with
    | none => some (ptpDrop q.address 10 s)
    | some (n, x) =>
      let sa := saOf s q.address q.address.val m
      let auth := if sa = 0xFFFF then none else sealOf s sa
      if sa ≠ 0xFFFF ∧ auth.isNone then some (countPtp q.address pSaDrop s)
      else
        let s := judgePort q.frame.mac s
        let (w, s) := sessionWire n x false s
        let r := delayResp q m x w auth s
        (reserve { mac := q.frame.mac, queue := 1, requester := engine,
                   tReq := q.stamp * calZt + launchLead s .ptp * calNs,
                   length := frameLength r.wire (ptpLength r), origin := .ptp q.address n,
                   reply := r } s).map (·.2)

/-- An engine in service, by its requester number, takes the request that has waited longest among those
of its algorithm. With no slot within the horizon of the calendar it waits. -/
def execPtpTransaction (engine : Nat) (s : State) : Out :=
  if engine ∉ ptpEngines s none then .next s
  else match takeRequest (fun q => decide (engine ∈ ptpEngines s (requestAlg s q))) s.net.ptp.requests with
    | none => .next s
    | some (q, rest) => match q.frame.payload with
      | .ptp m => match ptpAnswer engine q m (s.modPtp fun p => { p with requests := rest }) with
        | some t => .next t
        | none => .next s
      | _ => .next (s.modPtp fun p => { p with requests := rest })

/-! ### Scheduled messages (R327 to R329, R336) -/

/-- The period of a log interval in nanoseconds. -/
def periodNs (log : Int) : Nat := if 0 ≤ log then 10 ^ 9 * 2 ^ log.toNat else 10 ^ 9 / 2 ^ (-log).toNat

/-- The first scheduled instant from now, in nanoseconds: ≡ PHASE modulo the period. -/
def nextScheduled (s : State) (phase : Nat) (log : Int) : Nat :=
  let p := periodNs log
  let t := (now s + 65535) / 65536
  let k := phase % p
  if t ≤ k then k else k + (t - k + p - 1) / p * p

/-- A slot on queue 1 for a message at its instant (10 R279). -/
def reserveSched (m : Fin 16) (instant : Nat) (o : Origin) (r : Reply) (s : State) : Option State :=
  match pickEngine (r.auth.map (·.algorithm)) s with
  | (none, _) => none
  | (some engine, s) =>
    (reserve { mac := m, queue := 1, requester := engine,
               tReq := max (instant * calNs) (earliest s 14 76 s.power.paceSched),
               length := frameLength r.wire (ptpLength r), origin := o, reply := r } s).map (·.2)

/-- The sequenceId of a type advances. -/
def advanceSeq (n msgType : Nat) : State → State :=
  modSession n fun y =>
    if msgType = 0 then { y with syncSeq := (y.syncSeq + 1) % 2 ^ 16 }
    else { y with announceSeq := (y.announceSeq + 1) % 2 ^ 16 }

/-- A Sync or an Announce of a session. -/
def timedReply (i m : Fin 16) (x : Session) (msgType : Nat) (w : Wire) (auth : Option AuthSeal)
    (s : State) : Reply :=
  let c := s.net.ptp.addresses[i].cfg
  let b : Reply := { wire := w, domain := c.domain, portNumber := c.portBase + m.val, auth := auth,
                     bound := deliveryBound s m }
  if msgType = 0 then
    { b with kind := 5, seqId := x.syncSeq, logInterval := x.syncLog, tlvs := boundOf s c 1 m }
  else
    { b with kind := 6, seqId := x.announceSeq, logInterval := x.announceLog, tlvs := boundOf s c 0 m,
             flags := announceFlags s m, body := announceBody s c m }

/-- A session's Sync or Announce is handed to an engine. A standby session only counts on (16 R450). -/
def sendTimed (n msgType : Nat) (x : Session) (s : State) : State :=
  let i : Fin 16 := (asFin 16 x.service).getD 0
  let m : Fin 16 := (asFin 16 x.mac).getD 0
  if s.net.ptp.addresses[i].standby then advanceSeq n msgType s
  else if x.state ≠ 1 ∨ !counterForm s ∨ s.net.macs[m].state ≠ .up then s
  else
    let auth := if x.saIndex = 0xFFFF then none else sealOf s x.saIndex
    if x.saIndex ≠ 0xFFFF ∧ auth.isNone then countPtp i pSaDrop s
    else
      let s := judgePort m s
      let (w, s) := sessionWire n x (decide (msgType = 0)) s
      let r := timedReply i m x msgType w auth s
      let t := nextScheduled s x.phase (grantOf x msgType).1
      match reserveSched m t (.sched n msgType) r s with
      | some s => advanceSeq n msgType s
      | none => s

/-- A Delay_Req of the client role. -/
def sendDelayReq (e : Fin 16) (s : State) : State :=
  let x := s.net.ptp.entries[e]
  let i := entryAddr s e
  let m := entryMac s e
  let c := s.net.ptp.addresses[i].cfg
  if x.ptpu.isNone ∨ x.delayGrant = 0 ∨ !counterForm s ∨ s.net.macs[m].state ≠ .up ∨ !ptpServes s i then s
  else
    let auth := if x.cfg.sa = 0xFFFF then none else sealOf s x.cfg.sa
    if x.cfg.sa ≠ 0xFFFF ∧ auth.isNone then countPtp i pSaDrop s
    else
      let (w, s) := entryWire e 319 s
      let r : Reply := { kind := 7, wire := w, domain := c.domain, portNumber := c.portBase + m.val,
                         seqId := x.delaySeq, logInterval := 0x7F, auth := auth }
      match reserveSched m (nextScheduled s (e.val * 10 ^ 9 / 2 ^ 18) x.delayGrantLog) (.clientReq e) r s with
      | some s => modEntry e (fun y =>
          { y with delaySeq := (y.delaySeq + 1) % 2 ^ 16, t3 := none, t4 := none }) s
      | none => s

def execScheduledMessage (client : Bool) (index msgType : Nat) (s : State) : Out :=
  if client then
    match asFin 16 index with
    | some e => if msgType = 1 then .next (sendDelayReq e s) else .next s
    | none => .next s
  else if msgType ≠ 0 ∧ msgType ≠ 0xB then .next s
  else match sessionAt s index with
    | some x => if hasGrant x msgType then .next (sendTimed index msgType x s) else .next s
    | none => .next s

/-! ### The client role (R334 to R337) -/

def clientTable : Table ClientCfg where
  flds := [one 1, one 1, one 1, one 16, one 1, one 2, { widths := [1, 1, 1, 4] }, one 1, one 8]
  rows c := [[c.enable], [c.service], [c.mac], [c.masterIp], [c.priority], [c.sa],
    [c.syncLog, c.delayLog, c.annLog, c.duration], [c.rank], [c.asymUnc]]
  ofRows r := { enable := val r 0, service := val r 1, mac := val r 2, masterIp := val r 3,
                priority := val r 4, sa := val r 5, syncLog := val r 6, delayLog := (row r 6).getD 1 0,
                annLog := (row r 6).getD 2 0, duration := (row r 6).getD 3 0, rank := val r 7,
                asymUnc := val r 8 }

def clientValid (s : State) (c : ClientCfg) (sel : Nat → Bool) : Bool :=
  match asFin 16 c.service with
  | none => false
  | some i =>
    let a := s.net.ptp.addresses[i].cfg
    let p := ptpProfile a.profile
    let on := decide (c.enable = 1)
    decide (c.enable ≤ 1) && decide (c.mac < 16) && (!(on || sel 2) || bitOf a.macMask c.mac) &&
    addressOk a.family c.masterIp (on || sel 3) && within 1 255 c.priority &&
    (decide (c.sa < 2048) || decide (c.sa = 0xFFFF)) &&
    (!on || decide (a.authMode ≠ 1) || decide (c.sa ≠ 0xFFFF)) && logIn p.sync c.syncLog &&
    logIn p.delay c.delayLog && logIn p.announce c.annLog &&
    within p.duration.1 p.duration.2 c.duration && decide (c.rank ≤ 15) && decide (c.asymUnc ≤ unbounded)

/-- The same master by the same way. -/
def sameMaster (a b : ClientCfg) : Bool :=
  decide (a.service = b.service) && decide (a.mac = b.mac) && decide (a.masterIp = b.masterIp) &&
  decide (a.sa = b.sa)

/-- An entry takes a configuration. Announce is asked of a master that is new. -/
def applyEntry (e : Fin 16) (c : ClientCfg) (s : State) : State :=
  let old := s.net.ptp.entries[e].cfg
  if c.enable = 1 ∧ old.enable = 1 ∧ sameMaster c old then
    settleParents (modEntry e (fun x => { x with cfg := c }) s)
  else
    let s := releaseParent e s
    let s := modEntry e (fun x =>
      { cfg := c, lost := x.lost, followMissing := x.followMissing, respMismatch := x.respMismatch,
        delaySeq := x.delaySeq }) s
    settleParents (if c.enable = 1 then askGrants e [0xB] s else s)

def execClientEntry (r : Req) (g : GReq) (s : State) : Out :=
  runConfig 0x0707 clientTable.flds r g
    (fun s => (asFin 16 g.index).map fun e => clientTable.rows s.net.ptp.entries[e].cfg)
    (fun rows s => match asFin 16 g.index with
      | none => .error eRange
      | some e => do
        let c := clientTable.ofRows rows
        need (clientValid s c (selects g)) eRange
        pure (applyEntry e c s)) s

def execClientEntryReadBack (r : Req) (index : Nat) (s : State) : Out :=
  runReadBack 0x0787 clientTable.flds r index
    (fun s => (asFin 16 index).map fun e => clientTable.rows s.net.ptp.entries[e].cfg) s

def clientGlobalTable : Table ClientGlobal where
  flds := [one 4, one 4, one 4, one 1]
  rows c := [[c.maxParents], [c.announceTimeout], [c.measInterval], [c.filter]]
  ofRows r := { maxParents := val r 0, announceTimeout := val r 1, measInterval := val r 2,
                filter := val r 3 }

def execClientConfigure (r : Req) (g : GReq) (s : State) : Out :=
  runConfig 0x0708 clientGlobalTable.flds r g
    (fun s => if wide g.index then some (clientGlobalTable.rows s.net.ptp.client) else none)
    (fun rows s => do
      let c := clientGlobalTable.ofRows rows
      need (within 1 4 c.maxParents && within 2 10 c.announceTimeout && within 100 10000 c.measInterval &&
        decide (c.filter ≤ 1)) eRange
      pure (settleParents (s.modPtp fun p => { p with client := c }))) s

def execClientConfigureReadBack (r : Req) (index : Nat) (s : State) : Out :=
  runReadBack 0x0788 clientGlobalTable.flds r index
    (fun s => if wide index then some (clientGlobalTable.rows s.net.ptp.client) else none) s

/-- Syncs that an exchange may still pair with: to the newest that precedes t3. -/
def trimSyncs (t3 : Option Int) : List HeldSync → List HeldSync
  | [] => []
  | h :: hs =>
    let before : Bool := match t3 with
      | some t => decide (h.t2 < t)
      | none => true
    if h.t1.isSome ∧ before then [h] else h :: trimSyncs t3 hs

/-- An exchange is complete once t1 to t4 are known; none precedes: it is discarded. -/
def completeExchange (e : Fin 16) (s : State) : State :=
  let x := s.net.ptp.entries[e]
  match x.ptpu, x.t3, x.t4 with
  | some u, some t3, some t4 =>
    let done := modEntry e (fun y => { y with t3 := none, t4 := none })
    match x.syncs.find? fun h => decide (h.t2 < t3) with
    | none => done s
    | some h => match h.t1 with
      | none => s
      | some t1 =>
        let theta := rdiv ((h.t2 - t1) - (t4 - t3)) 2
        let path := rdiv ((h.t2 - t1) + (t4 - t3)) 2
        modPtpu u (fun p => { p with exchanges := p.exchanges ++ [(theta, path)] }) (done s)
  | _, _, _ => s

def timeOf (m : PtpMsg) : Int := (ztUnits m.origin : Nat)

/-- An Announce of a master (R335); its bound counts only where it was authenticated (R337). -/
def takeAnnounce (e : Fin 16) (m : PtpMsg) (authed : Bool) (s : State) : State :=
  let a := if authed then m.announce else { m.announce with bound := none }
  let s := modEntry e (fun x =>
    { x with announce := some a, srcClock := m.srcClock, srcPort := m.srcPort, authBad := false }) s
  settleParents (match s.net.ptp.entries[e].ptpu with
    | some u => clearReason (ptpuRef u) 2 s
    | none => s)

/-- A Sync of a parent, with its t2. -/
def takeSync (e : Fin 16) (m : PtpMsg) (t2 : Nat) (s : State) : State :=
  if s.net.ptp.entries[e].ptpu.isNone then s
  else
    let h : HeldSync := { seqId := m.seqId, t1 := if m.twoStep then none else some (timeOf m + m.correction),
                          corr := m.correction, t2 := t2 }
    modEntry e (fun x => { x with syncs := trimSyncs x.t3 (h :: x.syncs) }) s

/-- The Follow_Up of a two-step Sync gives its t1. -/
def takeFollowUp (e : Fin 16) (m : PtpMsg) (s : State) : State :=
  completeExchange e (modEntry e (fun x =>
    { x with syncs := trimSyncs x.t3 (x.syncs.map fun h =>
        if h.seqId = m.seqId ∧ h.t1.isNone then { h with t1 := some (timeOf m + h.corr + m.correction) }
        else h) }) s)

/-- A Delay_Resp gives t4 where it answers the Delay_Req last sent. -/
def takeDelayResp (e : Fin 16) (m : PtpMsg) (s : State) : State :=
  let x := s.net.ptp.entries[e]
  let own := s.net.ptp.addresses[entryAddr s e].cfg.portBase + (entryMac s e).val
  if m.reqClock = s.net.ptp.clockId ∧ m.reqPort = own ∧ (m.seqId + 1) % 2 ^ 16 = x.delaySeq ∧ x.t3.isSome ∧
      x.t4.isNone then
    completeExchange e (modEntry e (fun y => { y with t4 := some (timeOf m - m.correction) }) s)
  else modEntry e (fun y => { y with respMismatch := (y.respMismatch + 1) % 2 ^ 64 }) s

def setClientGrant (msgType : Nat) (log : Int) (expiry dur : Nat) (x : ClientEntry) : ClientEntry :=
  match msgType with
  | 0 => { x with syncGrant := expiry, syncDur := dur }
  | 9 => { x with delayGrant := expiry, delayDur := dur, delayGrantLog := log }
  | _ => { x with annGrant := expiry, annDur := dur }

def clientDuration (x : ClientEntry) (msgType : Nat) : Nat :=
  match msgType with
  | 0 => x.syncDur
  | 9 => x.delayDur
  | _ => x.annDur

def clientGrant (x : ClientEntry) (msgType : Nat) : Nat :=
  match msgType with
  | 0 => x.syncGrant
  | 9 => x.delayGrant
  | _ => x.annGrant

/-- A GRANT or a CANCEL of a master. A denial of a grant that a parent no longer holds loses it. -/
def takeNeg (e : Fin 16) (t : NegTlv) (s : State) : State :=
  match t with
  | .grant ty log d =>
    if ty ∉ grantTypes then s
    else if d = 0 then
      let s := modEntry e (fun x => { x with denied := true }) s
      if clientGrant s.net.ptp.entries[e] ty = 0 then settleParents (loseParent e s) else s
    else settleParents (modEntry e (fun x =>
      { setClientGrant ty log (nowSec s + d) d x with denied := false }) s)
  | .cancel ty =>
    signalMaster e [.ackCancel ty] (if ty ∈ grantTypes then
      modEntry e (setClientGrant ty 0x7F 0 0) s else s)
  | _ => s

/-- The client role takes a message that waits for it, once its ICV verifies (check 11 of R321). -/
def execPtpClientMessage (m : ClientMsg) (s : State) : Out :=
  if m ∉ s.net.ptp.inbox then .next s
  else
    let s := s.modPtp fun p => { p with inbox := p.inbox.erase m }
    let e := m.entry
    let i := entryAddr s e
    match verifyIcv i (16 + e.val) m.msg s with
    | (false, s) =>
      if m.msg.msgType = 0xB then
        .next (settleParents (modEntry e (fun x => { x with authBad := true }) s))
      else .next s
    | (true, s) =>
      let s := countUnknown i m.msg s
      match m.msg.msgType with
      | 0 => .next (takeSync e m.msg m.stamp s)
      | 8 => .next (takeFollowUp e m.msg s)
      | 9 => .next (takeDelayResp e m.msg s)
      | 0xB => .next (takeAnnounce e m.msg (decide (saOf s i (16 + e.val) m.msg ≠ 0xFFFF)) s)
      | _ => .next (forAll m.msg.neg (takeNeg e) s)

/-- The renewal is due when a quarter of the duration remains, and a grant that is not held is asked for:
Announce of every enabled entry, Sync and Delay_Resp of a parent. A renewal denied at expiry loses
the parent. -/
def execGrantRenewal (entry : Fin 16) (msgType : Nat) (s : State) : Out :=
  let x := s.net.ptp.entries[entry]
  let g := clientGrant x msgType
  let wanted := decide (x.cfg.enable = 1) && (decide (msgType = 0xB) ||
    (x.ptpu.isSome && (decide (msgType = 0) || decide (msgType = 9))))
  if !s.host.supervisor ∨ !wanted then .next s
  else if x.denied ∧ x.ptpu.isSome ∧ g ≤ nowSec s then .next (loseParent entry s)
  else if 4 * (g - nowSec s) ≤ clientDuration x msgType then .next (askGrants entry [msgType] s)
  else .next s

def execAnnounceTimeout (entry : Fin 16) (s : State) : Out :=
  let x := s.net.ptp.entries[entry]
  if x.announce.isNone then .next s
  else if x.ptpu.isSome then .next (loseParent entry s)
  else .next (settleParents (modEntry entry (fun y => { y with announce := none }) s))

/-- The oldest Sync that waits for its Follow_Up is discarded. -/
def execFollowUpTimeout (entry : Fin 16) (s : State) : Out :=
  match s.net.ptp.entries[entry].syncs.reverse.find? (fun h => h.t1.isNone) with
  | none => .next s
  | some h =>
    .next (completeExchange entry (modEntry entry (fun x =>
      { x with syncs := x.syncs.erase h, followMissing := (x.followMissing + 1) % 2 ^ 64 }) s))

/-! ### Measurements (R336, R337; 02 R70, R92) -/

/-- The offset that an interval delivers: the mean, or that of the smallest round trip. -/
def intervalOffset (filter : Nat) (l : List (Int × Int)) : Int :=
  if filter = 0 then rdiv ((l.map (·.1)).foldl (· + ·) 0) l.length
  else match l with
    | [] => 0
    | x :: xs => (xs.foldl (fun b y => if y.2 < b.2 then y else b) x).1

/-- 6 × s of R337 in ps, rounded up, from the last 16 offsets. -/
def sixSigma (l : List Int) : Nat :=
  if l.length < 16 then unbounded
  else
    let sum := l.foldl (· + ·) 0
    let sq := l.foldl (fun n x => n + (16 * x - sum).natAbs ^ 2) 0
    let a := 36 * sq * 10 ^ 6
    let b := 15 * 256 * 2 ^ 32
    let r := isqrt (a / b)
    if r * r * b < a then r + 1 else r

/-- The limit of a clockAccuracy code of 05 R176, in ps, rounded up. -/
def accuracyLimit (code : Nat) : Nat :=
  let limits := [1, 3, 10, 25, 100, 250, 1000, 2500, 10000, 25000, 100000, 250000, 1000000, 2500000,
    10000000, 25000000, 100000000, 250000000, 1000000000, 2500000000, 10000000000, 25000000000,
    100000000000, 250000000000, 1000000000000, 10000000000000]
  if 0x17 ≤ code ∧ code ≤ 0x30 then limits.getD (code - 0x17) unbounded else unbounded

/-- U_parent. -/
def parentUnc (a : Option AnnounceData) : Nat :=
  match a with
  | none => unbounded
  | some d => match d.bound with
    | some b => min unbounded b
    | none => accuracyLimit d.clockAccuracy

/-- The difference of the two averages of R70, where both are formed. -/
def pathChange (s : State) (meas : Nat) (l : List (Int × Int)) : Option Int :=
  let t : Int := now s
  let sec : Int := secUnit
  let avg := fun (x : List (Int × Int)) => rdiv ((x.map (·.2)).foldl (· + ·) 0) x.length
  let late := l.filter fun p => decide (t - 4 * sec < p.1)
  let old := l.filter fun p => decide (p.1 ≤ t - 4 * sec) && decide (t - 68 * sec < p.1)
  match l.getLast? with
  | none => none
  | some first =>
    if late = [] ∨ old = [] ∨ t - 8 * sec < first.1 - ms16 meas then none else some (avg late - avg old)

/-- The path-delay monitor takes the mean path delay of an interval (R70, R92; 05 R162). -/
def watchPath (i : Fin 20) (delay : Int) (s : State) : State :=
  let r := s.refs[i]
  let t : Int := now s
  let kept := r.pathOlder.filter fun p => decide (t - 68 * (secUnit : Int) < p.1)
  let l := (t, delay) :: kept
  let s := s.modRef i fun x => { x with pathOlder := l }
  match pathChange s s.net.ptp.client.measInterval l with
  | none => s
  | some d =>
    let n := d.natAbs
    if n ≤ r.mon.pathStep then
      s.modRef i fun x => { x with pathSince := hasReason x 6, pathSmall := max x.pathSmall n }
    else
      let again := hasReason r 6
      let largest := if again then max r.pathMax n else n
      let margin := again || qualified r
      let s := s.modRef i fun x => { x with pathMax := largest, pathSince := false }
      let s := if margin then s.modMargin fun m =>
          { m with pathWiden := max (if again then m.pathWiden else 0) largest, lockedFor := 0 } else s
      let s := if again ∧ !r.pathSince then s else raise 0x0207 i.val (toCode 64 d) s
      if again then s else restartTimer i (addReason i 6 s)

/-- One measurement of a PTPU, or a missing one. -/
def execMeasIntervalEnd (ptpu : Fin 4) (s : State) : Out :=
  let u := s.net.ptp.ptpus[ptpu]
  let i := ptpuRef ptpu
  match u.entry with
  | none => .next s
  | some e =>
    let s := modPtpu ptpu (fun x => { x with exchanges := [] }) s
    if u.exchanges = [] then .next (refMiss i s)
    else if s.refs[i].state = .off then .next s
    else
      let o := intervalOffset s.net.ptp.client.filter u.exchanges
      let offs := (o :: u.offsets).take 16
      let unc := satBound (parentUnc s.net.ptp.entries[e].announce + sixSigma offs)
      let path := rdiv ((u.exchanges.map (·.2)).foldl (· + ·) 0) u.exchanges.length
      let s := modPtpu ptpu (fun x => { x with offsets := offs }) s
      let s := refArrival i (takeOffset i o (now s) (s.modRef i fun r => { r with uncertainty := unc }))
      .next (watchPath i path s)

/-- The difference has stayed within PATH_STEP for PATH_STABLE: the averages start again. -/
def execPathStableExpiry (ptpu : Fin 4) (s : State) : Out :=
  let i := ptpuRef ptpu
  let r := s.refs[i]
  if hasReason r 6 ∧ r.pathSince then
    .next (clearReason i 6 (s.modRef i fun x => { x with pathOlder := [], pathMax := 0, pathSince := false }))
  else .next s

end Sys2Proof.Machine
end

