-- ==== Sys2Proof/Machine/Stack.lean ====
section
/-! DEFINITION. Twin and stack operation: its commands, links, time transfer, pairing, replication, heartbeat and
takeover (16). -/

namespace Sys2Proof.Machine

/-! ### Partner violations and acceptance (R436, R461) -/

def countLink (l : Fin 2) (f : StackCounters → StackCounters) (s : State) : State :=
  s.modLink l fun k => { k with counters := f k.counters }

/-- A violation is counted on its link; its row goes into the summary of the sender's position. -/
def violation (l : Fin 2) (pos row : Nat) (f : StackCounters → StackCounters) (s : State) : State :=
  markSummary 0x0B10 pos row (countLink l f s)

def peerCode (s : State) (l : Fin 2) : Nat := (s.stack.links[l].peerPos.map (·.val)).getD 0xFF

def lastSeq (s : State) (src key : Nat) : Nat :=
  ((s.stack.seqIn.find? fun x => decide (x.1 = (src, key))).map (·.2)).getD 0

def setLastSeq (src key q : Nat) (s : State) : State :=
  s.modStack fun t => { t with seqIn := ((src, key), q) :: t.seqIn.filter fun x => decide (x.1 ≠ (src, key)) }

/-- The checks of R461 on a frame for this device, in its order: whether it is taken. A frame for
another position is left to the relay. -/
def takeFrame (h : StackHdr) (s : State) : Bool × State :=
  if !linkLive s h.link then (false, s)
  else if !h.crcOk then
    (false, violation h.link (peerCode s h.link) 0 (fun c => { c with fcs := c.fcs + 1 }) s)
  else if h.dst ≠ 0xFF ∧ h.dst ≠ ownPos s then (false, s)
  else if h.version ≠ 1 ∨ !h.typeOk then
    (false, violation h.link h.src.val 1 (fun c => { c with format := c.format + 1 }) s)
  else if h.key = 0 then (true, s)
  else if !h.tagOk ∨ !stackKeyHeld s h.key h.src.val then
    (false, violation h.link h.src.val 2 (fun c => { c with auth := c.auth + 1 }) s)
  else if h.seq ≤ lastSeq s h.src.val h.key then
    (false, violation h.link h.src.val 3 (fun c => { c with replay := c.replay + 1 }) s)
  else if h.term < s.stack.term then
    (false, violation h.link h.src.val 4 (fun c => { c with termStale := c.termStale + 1 }) s)
  else (true, setLastSeq h.src.val h.key h.seq s)

/-- R436: a frame for another position goes on over the other link with one hop less, unopened. -/
def execStackFrameRelay (h : StackHdr) (s : State) : Out :=
  if !linkLive s h.link ∨ h.dst = 0xFF ∨ h.dst = ownPos s then .next s
  else if !h.crcOk then
    .next (violation h.link (peerCode s h.link) 0 (fun c => { c with fcs := c.fcs + 1 }) s)
  else if h.hops = 0 then
    .next (violation h.link h.src.val 5 (fun c => { c with hops := c.hops + 1 }) s)
  else if !linkLive s (otherLink h.link) then .next s
  else
    let f : StackFrame :=
      { type := 0, src := h.src.val, dst := h.dst, hops := h.hops - 1, key := h.key, term := h.term,
        seq := h.seq, relayed := true }
    .next (s.modLink (otherLink h.link) fun k => { k with lastOut := some f })

/-! ### Configuration and status (R428, R460) -/

def stackTable : Table StackCfg where
  flds := [one 1, one 1, one 1, one 4, one 4]
  rows c := [[c.position], [c.linkE], [c.linkW], [c.miss], [c.witness]]
  ofRows r := { position := val r 0, linkE := val r 1, linkW := val r 2, miss := val r 3,
                witness := val r 4 }

def stackValid (c : StackCfg) : Bool :=
  decide (c.position ≤ 7) && decide (c.linkE ≤ 1) && decide (c.linkW ≤ 1) &&
  within 3 1000 c.miss && within 10 60000 c.witness

def execStackConfigure (r : Req) (g : GReq) (s : State) : Out :=
  runConfig 0x0B01 stackTable.flds r g
    (fun s => if g.index = 0xFFFF then some (stackTable.rows s.stack.cfg) else none)
    (fun rows s => do
      let c := stackTable.ofRows rows
      need (stackValid c) eRange
      need (!s.stack.paired && s.stack.pairing.isNone) eState
      let off := fun (l : Fin 2) (k : StackLink) =>
        if (if l.val = 0 then c.linkE else c.linkW) = 0 then { k with up := false } else k
      pure (s.modStack fun t => { t with cfg := c, links := vmap off t.links })) s

def execStackConfigureReadBack (r : Req) (index : Nat) (s : State) : Out :=
  runReadBack 0x0B81 stackTable.flds r index
    (fun s => if index = 0xFFFF then some (stackTable.rows s.stack.cfg) else none) s

/-- MEMBERS: a bit for each position present. -/
def memberMask (s : State) : Nat :=
  (fins 8).foldl (fun n p => n + flag (decide (2 ≤ s.stack.members[p].state)) p.val) 0

def stackStatusBytes (s : State) : Bytes :=
  let t := s.stack
  let flags := flag (t.links.toList.any (·.suspect)) 0 + flag t.fenced 1 + flag t.witnessWait 2 +
    flag t.links[linkE].up 3 + flag t.links[linkW].up 4
  le 1 t.role ++ le 1 t.position ++ le 1 (memberMask s) ++ le 1 flags ++ le 4 t.term ++
  t.members.toList.flatMap fun m =>
    le 16 m.deviceId ++ le 4 m.bootCount ++ le 1 m.state ++ le 3 0 ++ le 8 m.linkUnc

def execStackStatus (r : Req) (s : State) : Out :=
  runRead 0x0B10 (r.len = 0) r (fun s => .ok (stackStatusBytes s)) s

/-! ### The upstream neighbour (R433) -/

abbrev stackRef : Fin 20 := 19

/-- Every position from 0 up to the highest is present: the links may close a ring. -/
def contiguous (s : State) : Bool :=
  decide (memberMask s + 1 = 2 ^ ((otherMembers s).length + 1))

/-- The link to the upstream neighbour. Only position 0 and the highest position see whether a ring
is closed; on the others that is free. -/
def upstreamLink (s : State) : Option (Fin 2) × State :=
  let n := (otherMembers s).length + 1
  let p := s.stack.position
  if !s.stack.paired ∨ n = 1 then (none, s)
  else if p = 0 then
    (some (if s.stack.links[linkW].peerPos = some 1 then linkW else linkE), s)
  else if p ≤ n - p ∨ !contiguous s then (some linkW, s)
  else if p + 1 = n then
    (some (if s.stack.links[linkE].peerPos = some 0 then linkE else linkW), s)
  else
    let (b, s) := freshChoice s
    (some (if b then linkE else linkW), s)

/-- A change of upstream neighbour is a loss of the STACK source (02 R64). -/
def settleUpstream (s : State) : State :=
  let (u, s) := upstreamLink s
  if u = s.stack.upstream then s
  else addReason stackRef 2 (s.modStack fun t => { t with upstream := u })

/-! ### Link channels (08 R240) -/

/-- Two Nib channels for a link. -/
def takeLinkChannels (l : Fin 2) (s : State) : Option State :=
  if s.stack.links[l].channels.isSome then some s
  else match takeChannel ownStack l.val (0x40 + 2 * l.val) 0 s with
    | none => none
    | some (a, s1) => match takeChannel ownStack l.val (0x41 + 2 * l.val) 0 s1 with
      | none => none
      | some (b, s2) => some (s2.modLink l fun k => { k with channels := some (a, b) })

def freeLinkChannels (l : Fin 2) (s : State) : State :=
  match s.stack.links[l].channels with
  | none => s
  | some (a, b) => releaseChannel b (releaseChannel a (s.modLink l fun k => { k with channels := none }))

/-! ### The stack key (R445) -/

/-- The record that carries a new stack key; RETIRE_AT names the boundary once there is one. -/
def newKeyRecord (s : State) (k : Bytes) (at_ : Nat) : KeyRecord :=
  { slot := 40, keyType := 3, state := 1, gen := (slotAt s 40).gen + 1, keyId := 0, retireAt := at_,
    material := k, bases := [] }

/-- The first device-time second at least 10 ms from now. -/
def boundaryAfter (s : State) : Nat := ceilDiv (now s + ms16 10) secUnit

def carriesStackKey (f : ReplFrame) : Bool :=
  match f.body with
  | .key k => decide (k.slot = 40)
  | _ => false

/-- Once every member has acknowledged the new key, position 0 names the boundary. -/
def nameBoundary (s : State) : State :=
  match s.stack.newKey with
  | none => s
  | some k =>
    if s.stack.newKeyAt.isSome ∨ s.stack.frames.any carriesStackKey then s
    else
      let b := boundaryAfter s
      replicate (otherMembers s) (.key (newKeyRecord s k b))
        (s.modStack fun t => { t with newKeyAt := some b })

/-- Position 0 makes a new stack key and sends it to each remaining member. -/
def newStackKey (s : State) : State :=
  if !isPrimary s ∨ !canDraw s then s
  else
    let (k, s) := freshBytes 32 s
    let s := s.modStack fun t =>
      { t with newKey := some k, newKeyAt := none, frames := t.frames.filter fun f => !carriesStackKey f }
    nameBoundary (replicate (otherMembers s) (.key (newKeyRecord s k 0)) s)

/-- R445: at the boundary the new key is written to slot 40; it takes effect at the commit. -/
def execStackKeySwitch (s : State) : Out :=
  match s.stack.newKeyAt, s.stack.newKey with
  | some b, some k =>
    if nowSec s < b ∨ !s.stack.paired then .next s
    else .next (beginWrite { slot := 40, keyType := 3, material := k, use := .stack 0, source := none }
      (s.modStack fun t => { t with newKey := none, newKeyAt := none,
                                    oldKey := some (material (slotAt s 40)) }))
  | _, _ => .next s

/-- Frames under the old key are no longer accepted. -/
def execStackOldKeyExpiry (s : State) : Out :=
  .next (s.modStack fun t => { t with oldKey := none })

/-! ### Replication (R446 to R450) -/

/-- At most 64 entries a frame. -/
def chunks {α : Type} : Nat → List α → List (List α)
  | 0, _ => []
  | n + 1, l => if l = [] then [] else l.take 64 :: chunks n (l.drop 64)

/-- The slots of the SA keys of position 0's addresses, with their keyIDs. -/
def saKeySlots (s : State) : List (Nat × Nat) :=
  (s.net.ptp.sas.filter fun x => decide (x.2.bind % 2 ^ 16 ≠ 0)).flatMap fun x =>
    [x.2.current, x.2.previous, x.2.next].filterMap fun k => (slotOf s k.handle).map fun n => (n, k.keyId)

def boundSas (s : State) : List Nat :=
  (s.net.ptp.sas.filter fun x => decide (x.2.bind % 2 ^ 16 ≠ 0)).map (·.1)

/-- Everything of R446 that a member holds, in order. -/
def fullBodies (s : State) (p : Fin 8) : List ReplBody :=
  let twin := decide (p.val = 1)
  let gens := (fins 8).map fun g =>
    let x := s.net.nts.gens[g]
    ReplBody.key (keyRecord s (genSlot g) (genState s g) x.keyId (x.retireAt / secUnit))
  let pairs := ((List.range 6).map (· + 42)).filter fun n =>
    decide ((slotAt s n).state = 1) && decide (n ≠ 40 + p.val)
  .key (keyRecord s 40 1 0 0) :: gens ++
  (if twin then
    pairs.map (fun n => ReplBody.key (keyRecord s n 1 0 0)) ++
    (saKeySlots s).map (fun x => ReplBody.key (keyRecord s x.1 1 x.2 0)) else []) ++
  [.config 0x0602 0xFFFF] ++
  (if twin then
    [.config 0x0702 0xFFFF] ++ (List.range 8).map (ReplBody.config 0x0606) ++
    (List.range 64).map (ReplBody.config 0x0601) ++ (List.range 16).map (ReplBody.config 0x0701) ++
    (boundSas s).map (ReplBody.config 0x0704) ++
    (chunks s.net.ptp.sessions.length (s.net.ptp.sessions.map (·.2))).map ReplBody.session else [])

def fullReplication (p : Fin 8) (s : State) : State :=
  let s := forAll (fullBodies s p) (fun b t => sendRepl b p t) s
  match s.stack.newKey with
  | some k => sendRepl (.key (newKeyRecord s k (s.stack.newKeyAt.getD 0))) p s
  | none => s

/-- R437, R449: an acknowledgement, with the bases drawn since the last one. -/
def ackPayload (type seq : Nat) (bases : List BaseReport) : Bytes :=
  be 1 type ++ be 7 0 ++ be 8 seq ++ be 1 bases.length ++ be 7 0 ++
  bases.flatMap fun b =>
    be 2 b.slot ++ be 1 b.engine ++ be 1 0 ++ be 4 b.keyId ++ be 6 b.base ++ be 2 0

def sendAck (dst key type seq : Nat) (s : State) : State :=
  let d := s.stack.drawn.take 255
  sendTo 0x24 dst (if key = 2 then 2 else 1) (ackPayload type seq d) none
    (s.modStack fun t => { t with drawn := t.drawn.drop 255 })

/-! ### Membership -/

/-- The bases in use are given up: a change of position draws again (11 R301). -/
def redrawBases (s : State) : State :=
  s.modNts fun n => { n with bases := n.bases.map fun b => { b with live := false } }

/-- A stack slot is zeroised with the bases drawn under it. -/
def zeroStackSlot (n : Nat) (s : State) : State := dropBases n 0 (zeroSlot n s)

/-- A member is no longer one: what was waiting for it is dropped and its pair key zeroised. -/
def forgetMember (p : Fin 8) (s : State) : State :=
  let link := fun (_ : Fin 2) (k : StackLink) =>
    if k.peerPos = some p then { k with peerPos := none, suspect := false, missed := 0 } else k
  let s := s.modStack fun t =>
    { t with members := upd t.members p (fun _ => {}), links := vmap link t.links,
             frames := t.frames.filter (fun f => decide (f.dst ≠ p)),
             seqIn := t.seqIn.filter (fun x => decide (x.1.1 ≠ p.val)),
             seqOut := upd t.seqOut (seqIndex 2 p.val) (fun _ => 1) }
  zeroStackSlot (stackSlot 2 (ownPos s) p.val) s

/-- R445, R456 to R458: position 0 removes a member and makes a new stack key. -/
def removeMember (p : Fin 8) (s : State) : State :=
  let s := raise 0x0B05 p.val 0 (forgetMember p s)
  let s := replicate (twinOf s) (.key (keyRecord s (40 + p.val) 0 0 0)) s
  newStackKey (settleUpstream s)

/-- Standby addresses and replicated sessions are dropped (R458). -/
def dropReplicas (s : State) : State :=
  let nts := fun (_ : Fin 64) (a : NtsAddress) => if a.standby then { a with cfg := {}, standby := false } else a
  let ptp := fun (_ : Fin 16) (a : PtpAddress) => if a.standby then { a with cfg := {}, standby := false } else a
  let s := s.modNts fun n => { n with addresses := vmap nts n.addresses }
  let s := s.modPtp fun p =>
    { p with addresses := vmap ptp p.addresses,
             sessions := p.sessions.filter fun x => !bitOf x.2.flags 3 }
  settleParents s

/-- The device is no member: slots 40 to 47 are zeroised, the links' channels return, and STACK goes. -/
def clearStack (s : State) : State :=
  let s := forAll ((List.range 8).map (· + 40)) zeroStackSlot s
  let s := freeLinkChannels linkW (freeLinkChannels linkE (dropReplicas s))
  let link := fun (_ : Fin 2) (k : StackLink) =>
    { up := k.up, marker := k.marker, counters := k.counters : StackLink }
  let s := s.modStack fun t => { cfg := t.cfg, links := vmap link t.links, nextId := t.nextId }
  addAct (.ptpu stackRef false) none s

def roleEvent (old new : Nat) (s : State) : State :=
  raise 0x0B01 (s.stack.position % 8 + old * 16 + new * 64) s.stack.term s

/-- R458: the device leaves; a detach command completes. -/
def leaveStack (s : State) : State :=
  let s := if s.stack.role = 1 then roleEvent 1 0 s else s
  let job := s.stack.detaching
  let s := clearStack (redrawBases (raise 0x0B05 s.stack.position 0 s))
  match job with
  | some (src, q) => completeCmd 0x0B03 q stOk src s
  | none => s

/-- What this device is as a member. -/
def selfMember (s : State) : StackMember :=
  { deviceId := Config.deviceId, bootCount := s.keys.bootCount, state := 2 }

/-! ### Loss of a neighbour (R452, R457) -/

/-- The partner that a witness judges: positions 0 and 1 of each other. -/
def isPartner (s : State) (p : Fin 8) : Bool :=
  decide (s.stack.position + p.val = 1) && decide (s.stack.position ≠ p.val)

def markLost (p : Fin 8) (s : State) : State :=
  let s := s.modMember p fun m => if m.state = 2 then { m with state := 3 } else m
  let s := raise 0x0B03 p.val 0 s
  if isPartner s p then s.modStack fun t => { t with witnessWait := true } else s

/-- The neighbour on a link becomes suspect. -/
def suspectLink (l : Fin 2) (s : State) : State :=
  match s.stack.links[l].peerPos with
  | none => s
  | some p =>
    if s.stack.links[l].suspect ∨ !s.stack.paired then s
    else
      let s := markLost p (s.modLink l fun k => { k with suspect := true })
      if s.stack.upstream = some l then addReason stackRef 2 s else s

def execStackLinkUp (link : Fin 2) (s : State) : Out :=
  if s.stack.links[link].up ∨ !linkEnabled s link then .next s
  else .next (raise 0x0B02 (link.val + 256) 0 (s.modLink link fun k => { k with up := true }))

def execStackLinkDown (link : Fin 2) (s : State) : Out :=
  if !s.stack.links[link].up then .next s
  else .next (suspectLink link (raise 0x0B02 link.val 0 (s.modLink link fun k => { k with up := false })))

def execHeartbeatMiss (link : Fin 2) (s : State) : Out :=
  let k := s.stack.links[link]
  if !s.stack.paired ∨ k.suspect ∨ k.peerPos.isNone ∨ k.missed < s.stack.cfg.miss then .next s
  else .next (suspectLink link
    (countLink link (fun c => { c with heartbeatLost := c.heartbeatLost + 1 }) s))

/-- SERVICE_READY: requests are not turned away at check 0 of 11 R297. -/
def serviceReady (s : State) : Bool := counterForm s && !s.clock.leap.unset && serviceState s

def heartbeatPayload (s : State) : Bytes :=
  be 1 s.stack.role ++ be 1 s.stack.position ++ be 1 (ductusCode s.ductus.state) ++
  be 1 (flag (serviceReady s) 0 + flag s.stack.fenced 1 + flag s.stack.witnessWait 2) ++
  be 4 s.stack.term ++ be 1 (memberMask s) ++ be 7 0

/-- R452: a HEARTBEAT leaves on each UP link, and the interval that ends is judged. -/
def execHeartbeatSend (s : State) : Out :=
  if !s.stack.paired then .next s
  else
    let judge := fun (_ : Fin 2) (k : StackLink) =>
      { k with missed := if k.fresh then 0 else k.missed + 1, fresh := false }
    let s := s.modStack fun t => { t with links := vmap judge t.links }
    .next (forAll [linkE, linkW] (fun l t => sendOn l 0x10 0xFF 1 1 (heartbeatPayload t) none t) s)

/-- R455, R457: the wait for a verdict ends, or suspect followers are removed. -/
def execWitnessTimeout (s : State) : Out :=
  if s.stack.witnessWait then .next (s.modStack fun t => { t with witnessWait := false })
  else if !isPrimary s then .next s
  else .next (forAll ((fins 8).filter fun p => decide (2 ≤ p.val) && decide (s.stack.members[p].state = 3))
    removeMember s)

/-! ### Roles: takeover and fencing (R453 to R456) -/

/-- Replicated sessions become this device's own. -/
def ownSessions (s : State) : State :=
  let own := fun (x : Nat × Session) =>
    if bitOf x.2.flags 3 then (x.1, { x.2 with flags := x.2.flags - 8 }) else x
  s.modPtp fun p => { p with sessions := p.sessions.map own }

def setStandby (b : Bool) (s : State) : State :=
  let nts := fun (_ : Fin 64) (a : NtsAddress) => { a with standby := b }
  let ptp := fun (_ : Fin 16) (a : PtpAddress) => { a with standby := b }
  let s := s.modNts fun n => { n with addresses := vmap nts n.addresses }
  settleParents (s.modPtp fun p => { p with addresses := vmap ptp p.addresses })

/-- R453: position 1 becomes PRIMARY at position 0. The old PRIMARY, where it did not resign, stays a
member at position 1, lost. -/
def takeover (term : Nat) (resigned : Bool) (s : State) : State :=
  let old := s.stack.members[0]
  let mine := s.stack.members[1]
  let link := fun (_ : Fin 2) (k : StackLink) =>
    if k.peerPos = some 0 then { k with peerPos := if resigned then none else some 1 } else k
  let s := s.modStack fun t =>
    { t with term := term, role := 1, position := 0, witnessWait := false, frames := [],
             members := (t.members.set 0 mine).set 1 (if resigned then {} else { old with state := 3 }),
             links := vmap link t.links,
             seqOut := upd t.seqOut (seqIndex 2 1) (fun _ => t.seqOut[seqIndex 2 0]) }
  let s := roleEvent 2 1 (redrawBases s)
  let s := ownSessions (setStandby false s)
  let s := match genIn s 1 with
    | some g => replicate (otherMembers s) (.key (keyRecord s (genSlot g) 1 s.net.nts.gens[g].keyId 0)) s
    | none => s
  settleUpstream (newStackKey s)

/-- R454: service ends; clocks and outputs go on. -/
def fence (s : State) : State :=
  let s := s.modStack fun t => { t with fenced := true, witnessWait := false }
  let s := stopService s
  raise 0x0B06 s.stack.position s.stack.term s

/-- R454: a FENCED device hears a PRIMARY of a higher TERM and becomes the TWIN. -/
def rejoinAsTwin (l : Fin 2) (term mask deviceId : Nat) (s : State) : State :=
  let s := forAll (fins 8) dropGen s
  let s := forAll [40, 42, 43, 44, 45, 46, 47] zeroStackSlot s
  let s := s.modPtp fun p => { p with sessions := p.sessions.filter fun x => !bitOf x.2.flags 3 }
  let known := fun (p : Fin 8) (_ : StackMember) =>
    if p.val = 1 then selfMember s
    else if p.val = 0 then { deviceId := deviceId, bootCount := s.stack.members[1].bootCount, state := 2 : StackMember }
    else if bitOf mask p.val then { s.stack.members[p] with state := 2 } else {}
  let s := s.modStack fun t =>
    { t with term := term, role := 2, position := 1, fenced := false, witnessWait := false,
             frames := [], bases := [], members := vmap known t.members,
             seqOut := upd t.seqOut (seqIndex 2 0) (fun _ => t.seqOut[seqIndex 2 1]) }
  let s := s.modLink l fun k => { k with peerPos := some 0, suspect := false }
  settleUpstream (setStandby true (roleEvent 1 2 (redrawBases s)))

/-- A TERM is adopted; on position 0 a greater one asks for a new stack key (R445). -/
def adoptTerm (term : Nat) (s : State) : State :=
  newStackKey (s.modStack fun t => { t with term := term, witnessWait := false })

/-- R456. -/
def judgeWitness (verdict term : Nat) (s : State) : Except Nat State :=
  let lost := fun (p : Fin 8) => decide (s.stack.members[p].state = 3)
  if term ≤ s.stack.term then .ok s
  else if s.stack.role = 3 then .error eStack
  else if s.stack.role = 2 then
    if verdict = 0 then .ok (s.modStack fun t => { t with term := term, witnessWait := false })
    else if lost 0 then .ok (takeover term false s) else .error eStack
  else if verdict = 1 then
    if lost 1 then
      .ok (removeMember 1 (s.modStack fun t => { t with term := term, witnessWait := false }))
    else .error eStack
  else if lost 1 then .ok (fence (s.modStack fun t => { t with term := term }))
  else .ok (adoptTerm term s)

def execWitness (r : Req) (verdict term : Nat) (s : State) : Out :=
  runSimple 0x0B04 8 r (fun s => do
    need (decide (verdict ≤ 1)) eRange
    need s.stack.paired eState
    judgeWitness verdict term s) s

/-! ### Pairing (R442, R443) -/

/-- The private ephemeral key and the nonce of a draw. -/
def ephemeral (n : Nat) : Bytes := (List.range 48).map fun i => Config.freeByte n (32 + i)
def pairNonce (n : Nat) : Bytes := (List.range 32).map (Config.freeByte n)

/-- FW_SECURITY_VERSION of the running image (13 R347). -/
def fwSecVersion (s : State) : Nat :=
  match s.keys.running with
  | some i => imageSecurity s i
  | none => 0

/-- The HELLO payload of R443; a public key in SEC1 uncompressed form. -/
def helloPayload (s : State) (intent peerId nonce : Nat) : Bytes :=
  be 1 1 ++ be 1 (ownPos s) ++ be 1 s.keys.life.val ++ be 1 intent ++ deviceIdBytes ++ le 16 peerId ++
  be 4 (fwSecVersion s) ++ be 4 s.keys.tamperEvents ++ be 4 s.keys.bootCount ++ be 4 s.stack.term ++
  be 1 (memberMask s) ++ be 3 0 ++ pairNonce nonce ++ be 1 4 ++ Config.publicKey 0 (ephemeral nonce) ++
  be 1 4 ++ Config.publicKey 0 (stackDh s) ++ Config.certificateChain

/-- The position of the other side: 0 for a joiner. -/
def pairPeer (s : State) (p : Pairing) : Nat :=
  if ownPos s ≠ 0 then 0
  else match p.peer with
    | some m => m.position
    | none => 1

def modPairing (f : Pairing → Pairing) (s : State) : State :=
  s.modStack fun t => { t with pairing := t.pairing.map f }

/-- The ceremony ends with nothing kept; the command completes with E_STACK. -/
def failPairing (s : State) : State :=
  match s.stack.pairing with
  | none => s
  | some p =>
    let j := pairPeer s p
    let slot := stackSlot 2 (ownPos s) j
    let s := violation p.link j 6 (fun c => { c with pairFail := c.pairFail + 1 }) s
    let s := s.modStack fun t => { t with pairing := none }
    let keep := fun (w : KeyWrite) =>
      decide (w.slot ≠ slot) && (s.stack.paired || decide (w.slot ≠ 40))
    let s := s.modKeys fun k => { k with writes := k.writes.filter keep }
    let s := if s.stack.paired then
        match asFin 8 j with
        | some q => if p.step = .hello then s else forgetMember q s
        | none => s
      else clearStack s
    match p.source with
    | some (src, q) => completeCmd 0x0B02 q eStack src s
    | none => s

def execPairingStepTimeout (s : State) : Out := .next (failPairing s)

/-- R442, R443: the command draws the nonce and the ephemeral key and sends HELLO. -/
def execPair (r : Req) (link peerDeviceId : Nat) (s : State) : Out :=
  runAccepted 0x0B02 24 r (fun q s => do
    match asFin 2 link with
    | none => .error eRange
    | some l =>
      need (serviceState s && !s.stack.paired && s.stack.pairing.isNone && linkLive s l) eState
      need (s.keys.drbgReady && !s.keys.entropyFail) eHw
      match takeLinkChannels l s with
      | none => .error eNoSpace
      | some s =>
        let n := s.host.freeCount
        let intent : Nat := if s.stack.cfg.position ≤ 1 then 0 else 1
        let own := helloPayload s intent peerDeviceId n
        let s := s.modHost fun h => { h with freeCount := n + 1 }
        let p : Pairing :=
          { step := .hello, link := l, peerId := peerDeviceId, intent := intent,
            source := some (r.src, q), nonce := n, own := own }
        let s := s.modStack fun t => { t with pairing := some p }
        pure (sendOn l 0x01 (pairPeer s p) 7 0 own none s)) s

/-- T of R442: the lower position's payload first. -/
def transcript (s : State) (p : Pairing) (m : HelloMsg) : Bytes :=
  Config.sha384 (if ownPos s < m.position then p.own ++ m.octets else m.octets ++ p.own)

/-- Step 3: CONFIRM, the signature over T by IDK_P384. -/
def sendConfirm (p : Pairing) (m : HelloMsg) (s : State) : State :=
  let sig := Config.sign 0 (identityKey 0) (transcript s p m)
  sendOn p.link 0x02 (pairPeer s { p with peer := some m }) 7 0 sig none s

def sendAdmit (l : Fin 2) (dst verdict : Nat) (s : State) : State :=
  sendOn l 0x03 dst 7 0 (be 1 verdict) none s

/-- What step 2 finds wrong with a peer's HELLO, in the codes of ADMIT; 0 nothing. -/
def judgeHello (s : State) (named : Option Nat) (m : HelloMsg) : Nat :=
  if !m.formOk ∨ !m.chainOk ∨ m.lifecycle ≠ 2 ∨ named.any (fun d => decide (m.deviceId ≠ d)) ∨
    (m.intent ≠ 2 ∧ m.peerId ≠ Config.deviceId) then 5
  else if ownPos s ≠ 0 then (if m.position = 0 then 0 else 1)
  else if s.stack.paired ∧ memberMask s = 255 then 4
  else match asFin 8 m.position with
    | none => 5
    | some p =>
      if p.val = 0 ∨ s.stack.members[p].state ≠ 0 then 1
      else if !m.adjacent then 2
      else 0

/-- A good HELLO: the ceremony goes to CONFIRM. Position 0 notes the joiner. -/
def helloOk (m : HelloMsg) (s : State) : State :=
  let s := match asFin 8 m.position with
    | some q => if ownPos s = 0 then
        s.modMember q fun _ => { deviceId := m.deviceId, bootCount := m.bootCount, state := 1 } else s
    | none => s
  let s := modPairing (fun p => { p with step := .confirm, peer := some m }) s
  match s.stack.pairing with
  | some p => sendConfirm p m s
  | none => s

def execHello (h : StackHdr) (m : HelloMsg) (s : State) : Out :=
  let (ok, s) := takeFrame h s
  let reject := fun (code : Nat) (t : State) =>
    sendAdmit h.link h.src.val code
      (violation h.link h.src.val 6 (fun c => { c with pairFail := c.pairFail + 1 }) t)
  if !ok then .next s
  else match s.stack.pairing with
    | some p =>
      if p.step = .hello then
        let v := judgeHello s (some p.peerId) m
        if v = 0 then .next (helloOk m s)
        else .next (failPairing (if ownPos s = 0 then sendAdmit h.link h.src.val v s else s))
      else if isPrimary s then .next (reject 6 s)
      else .next (violation h.link h.src.val 6 (fun c => { c with pairFail := c.pairFail + 1 }) s)
    | none =>
      if !isPrimary s then
        .next (violation h.link h.src.val 6 (fun c => { c with pairFail := c.pairFail + 1 }) s)
      else if s.stack.fenced ∨ s.stack.detaching.isSome ∨ !canDraw s then .next (reject 6 s)
      else
        let v := judgeHello s none m
        if v ≠ 0 then .next (reject v s)
        else
          let n := s.host.freeCount
          let own := helloPayload s 2 0 n
          let s := s.modHost fun x => { x with freeCount := n + 1 }
          let p : Pairing :=
            { step := .hello, link := h.link, peerId := m.deviceId, intent := 2, source := none,
              nonce := n, own := own }
          let s := s.modStack fun t => { t with pairing := some p }
          .next (helloOk m (sendOn h.link 0x01 h.src.val 7 0 own none s))

/-- Step 4: the pair key, none where a point is invalid. -/
def pairKey (s : State) (p : Pairing) (m : HelloMsg) : Option Bytes :=
  match Config.ecdh (ephemeral p.nonce) ((m.octets.drop 88).take 97),
      Config.ecdh (stackDh s) ((m.octets.drop 185).take 97) with
  | some z1, some z2 => some (Config.kdf (z1 ++ z2) "ZNR7300/PAIR" (transcript s p m) 256)
  | _, _ => none

def execConfirm (h : StackHdr) (sigOk : Bool) (s : State) : Out :=
  let (ok, s) := takeFrame h s
  if !ok then .next s
  else match s.stack.pairing with
    | none => .next (violation h.link h.src.val 6 (fun c => { c with pairFail := c.pairFail + 1 }) s)
    | some p => match p.peer with
      | none => .next (failPairing s)
      | some m =>
        if p.step ≠ .confirm then
          .next (violation h.link h.src.val 6 (fun c => { c with pairFail := c.pairFail + 1 }) s)
        else match (if sigOk then pairKey s p m else none), asFin 8 (max (ownPos s) m.position) with
          | some k, some q =>
            .next (beginWrite { slot := 40 + q.val, keyType := 3, material := k, use := .stack q,
                                source := none }
              (modPairing (fun x => { x with step := .admission }) s))
          | _, _ =>
            .next (failPairing (if ownPos s = 0 then sendAdmit h.link h.src.val 5 s else s))

/-- Step 5 on position 0: the joiner receives everything; position 1 also the new pair key. -/
def startReplication (s : State) : State :=
  match s.stack.pairing with
  | none => s
  | some p => match asFin 8 (pairPeer s p) with
    | none => s
    | some j =>
      let s := modPairing (fun x => { x with step := .replicate }) s
      let s := s.modStack fun t => if t.paired then t else { t with term := 1 }
      let s := fullReplication j s
      if j.val = 1 then s
      else replicate (twinOf s) (.key (keyRecord s (40 + j.val) 1 0 0)) s

/-- A pair key's slot is written (13 R360): position 0 admits the joiner, and a new stack draws its
key. -/
def pairKeyWritten (q : Fin 8) (s : State) : State :=
  match s.stack.pairing with
  | none => s
  | some p =>
    let peer := pairPeer s p
    let s := s.modStack fun t =>
      { t with seqOut := upd t.seqOut (seqIndex 2 peer) (fun _ => 1),
               seqIn := t.seqIn.filter fun x => decide (x.1 ≠ (peer, 2)) }
    if p.step ≠ .admission ∨ ownPos s ≠ 0 ∨ q.val ≠ peer then s
    else
      let s := sendAdmit p.link q.val 0 s
      if (slotAt s 40).state = 1 then startReplication s
      else if !canDraw s then failPairing s
      else
        let (k, s) := freshBytes 32 s
        beginWrite { slot := 40, keyType := 3, material := k, use := .stack 0, source := none } s

/-- The stack key's slot is written: SEQUENCE starts at 1 under the new key. -/
def stackKeyWritten (s : State) : State :=
  let s := s.modStack fun t =>
    { t with seqOut := upd t.seqOut 1 (fun _ => 1), seqIn := t.seqIn.filter fun x => decide (x.1.2 ≠ 1) }
  let s := dropBases 40 0 s
  match s.stack.pairing with
  | some p => if p.step = .admission ∧ ownPos s = 0 then startReplication s else s
  | none => s

/-- R437: the verdict of position 0. -/
def execAdmission (h : StackHdr) (verdict : Nat) (s : State) : Out :=
  let (ok, s) := takeFrame h s
  if !ok then .next s
  else match s.stack.pairing with
    | none => .next (violation h.link h.src.val 6 (fun c => { c with pairFail := c.pairFail + 1 }) s)
    | some p =>
      if ownPos s = 0 then
        .next (violation h.link h.src.val 6 (fun c => { c with pairFail := c.pairFail + 1 }) s)
      else if verdict = 0 ∧ p.step = .admission then
        .next (modPairing (fun x => { x with step := .replicate }) s)
      else .next (failPairing s)

/-- Membership begins: STACK exists from the next evaluation on (02 R64). -/
def joined (s : State) : State := settleUpstream (addAct (.ptpu stackRef true) none (redrawBases s))

/-- Both sides raise 0x0B04 once everything is acknowledged; position 0 sees it by its frames. -/
def settlePairing (s : State) : State :=
  match s.stack.pairing with
  | none => s
  | some p => match asFin 8 (pairPeer s p) with
    | none => s
    | some j =>
      if p.step ≠ .replicate ∨ ownPos s ≠ 0 ∨ s.stack.frames.any (fun f => decide (f.dst = j)) then s
      else
        let self := selfMember s
        let first := !s.stack.paired
        let s := s.modStack fun t =>
          { t with pairing := none, paired := true, role := 1, position := 0,
                   members := upd (t.members.set 0 self) j fun m => { m with state := 2 } }
        let s := if first then joined s else settleUpstream s
        let s := raise 0x0B04 j.val s.stack.members[j].bootCount s
        match p.source with
        | some (src, q) => completeCmd 0x0B02 q stOk src s
        | none => s

/-- The joiner learns it from the first HEARTBEAT that counts it in. -/
def joinDone (h : StackHdr) (mask : Nat) (s : State) : State :=
  match s.stack.pairing with
  | none => s
  | some p =>
    let own := s.stack.cfg.position
    let self := selfMember s
    let boot := (p.peer.map (·.bootCount)).getD 0
    let mem := fun (q : Fin 8) (m : StackMember) =>
      if q.val = own then self
      else if q.val = 0 then { deviceId := p.peerId, bootCount := boot, state := 2 : StackMember }
      else if bitOf mask q.val then { m with state := 2 } else m
    let s := s.modStack fun t =>
      { t with pairing := none, paired := true, role := if own = 1 then 2 else 3, position := own,
               term := h.term, members := vmap mem t.members }
    let s := s.modLink h.link fun k => { k with fresh := true, missed := 0, peerPos := some h.src }
    let s := raise 0x0B04 0 boot (joined s)
    match p.source with
    | some (src, q) => completeCmd 0x0B02 q stOk src s
    | none => s

/-! ### HEARTBEAT (R452, R454) -/

/-- A neighbour or member is heard again. Position 0 replicates to it afresh (R457). -/
def unsuspect (l : Fin 2) (p : Fin 8) (s : State) : State :=
  let was := decide (s.stack.members[p].state = 3)
  let s := s.modLink l fun k => { k with suspect := false }
  let s := s.modMember p fun m => if m.state = 3 then { m with state := 2 } else m
  let s := if was ∧ isPartner s p then s.modStack (fun t => { t with witnessWait := false }) else s
  if was ∧ isPrimary s then fullReplication p s else s

/-- Members as the neighbour on the way to position 0 counts them. -/
def adoptMask (mask : Nat) (s : State) : State :=
  let f := fun (p : Fin 8) (m : StackMember) =>
    if p.val = s.stack.position then m
    else if bitOf mask p.val then (if m.state < 2 then { m with state := 2 } else m)
    else {}
  s.modStack fun t => { t with members := vmap f t.members }

/-- A valid HEARTBEAT from a neighbour. -/
def hearNeighbour (h : StackHdr) (mask deviceId : Nat) (s : State) : State :=
  let s := s.modMember h.src fun m => { m with deviceId := deviceId }
  let s := if s.stack.role ≠ 1 ∧ s.stack.term < h.term then
      s.modStack (fun t => { t with term := h.term }) else s
  let s := unsuspect h.link h.src s
  let s := if s.stack.position ≠ 0 ∧ (s.stack.upstream = some h.link ∨ s.stack.upstream.isNone) then
      adoptMask mask s else s
  let s := (takeLinkChannels h.link s).getD s
  let s := settleUpstream s
  if s.stack.upstream = some h.link then clearReason stackRef 2 s else s

def execHeartbeat (h : StackHdr) (role position ductusState flags members deviceId : Nat) (s : State) :
    Out :=
  let (ok, s) := takeFrame h s
  if !ok then .next s
  else if !s.stack.paired then
    match s.stack.pairing with
    | some p => if p.step = .replicate ∧ ownPos s ≠ 0 ∧ bitOf members (ownPos s) then
        .next (joinDone h members s) else .next s
    | none => .next s
  else
    let s := s.modLink h.link fun k => { k with fresh := true, missed := 0, peerPos := some h.src }
    let claims := decide (role = 1 ∧ position = 0 ∧ ductusState ≤ 4 ∧ flags < 8)
    if isPrimary s ∧ !s.stack.fenced ∧ claims ∧ (s.stack.term < h.term ∨
        (s.stack.term = h.term ∧ ipNumber deviceId < ipNumber Config.deviceId)) then
      .next (fence (countLink h.link (fun c => { c with primaryConflict := c.primaryConflict + 1 }) s))
    else if s.stack.fenced ∧ claims ∧ s.stack.term < h.term then
      .next (rejoinAsTwin h.link h.term members deviceId s)
    else .next (hearNeighbour h members deviceId s)

/-! ### Two-way time transfer (R438 to R441) -/

/-- The calibration of a link: TX_DELAY, RX_DELAY, ASYM, STAMP_UNC, ASYM_UNC (17 R476). -/
def linkCal (l : Fin 2) (k : Nat) : Nat := 25352 + 40 * l.val + 8 * k

/-- The stamp of a marker's edge at the ball of lane 0. -/
def markerStamp (s : State) (l : Fin 2) (transmit : Bool) (sub : Nat) : Option Nat :=
  match s.stack.links[l].channels with
  | none => none
  | some (a, b) =>
    if !clockRuns s then none
    else if transmit then
      some ((nibStamp s a sub : Int) + (calDelay s (linkCal l 0)).getD 0).toNat
    else some ((nibStamp s b sub : Int) - (calDelay s (linkCal l 1)).getD 0).toNat

/-- CHAIN: this device, and what the anchor's bound contains. -/
def ownChain (s : State) : Nat :=
  flag (decide (s.stack.position < 8)) s.stack.position |||
  (if s.ductus.anchor = some stackRef then
    match s.stack.upstream with
    | some l => s.stack.links[l].peer.chain ||| flag s.stack.links[l].peerPos.isSome (peerCode s l)
    | none => 0
  else 0)

/-- The TT frame that follows a marker. -/
def ttPayload (s : State) (l : Fin 2) (marker stamp : Nat) : Bytes :=
  let rx := s.stack.links[l].received.headD (0, 0)
  be 2 marker ++ be 2 rx.1 ++ be 4 0 ++ (ztBytes stamp).reverse ++ (ztBytes rx.2).reverse ++
  be 8 s.margin.core ++ be 8 s.margin.growth ++ (ztBytes s.margin.horizon).reverse ++
  be 8 s.margin.recordSeq ++ be 4 s.keys.bootCount ++
  be 1 (match namedAnchor s with
    | some i => anchorKind i
    | none => 0xFF) ++
  be 1 (ownChain s) ++ be 2 0

/-- R438: a marker leaves an UP link, with a TT frame after it. -/
def execMarkerSend (link : Fin 2) (sub : Nat) (s : State) : Out :=
  if !linkLive s link ∨ !clockRuns s then .next s
  else
    let n := s.stack.links[link].marker
    let stamp := markerStamp s link true sub
    let s := s.modLink link fun k =>
      { k with marker := (n + 1) % 65536,
               sent := match stamp with
                 | some t => ((n, t) :: k.sent).take 64
                 | none => k.sent }
    match stamp with
    | some t => if s.stack.paired then
        .next (sendOn link 0x11 0xFF 1 1 (ttPayload s link n t) none s) else .next s
    | none => .next s

/-- R439. -/
def execMarkerReceived (link : Fin 2) (number : Nat) (checkOk : Bool) (sub : Nat) (s : State) : Out :=
  if !linkLive s link then .next s
  else if !checkOk then
    .next (violation link (peerCode s link) 9 (fun c => { c with fcs := c.fcs + 1 }) s)
  else match markerStamp s link false sub with
    | none => .next s
    | some t => .next (s.modLink link fun k => { k with received := ((number % 65536, t) :: k.received).take 64 })

/-- R438: the exchange that a TT frame completes, and the sender's bound. -/
def execTt (h : StackHdr) (txMarker rxMarker tTx tRx coreBound growth horizon recordSeq bootCount
    anchorKind chain : Nat) (s : State) : Out :=
  let (ok, s) := takeFrame h s
  if !ok then .next s
  else
    let l := h.link
    let k := s.stack.links[l]
    let b : PeerBound := ⟨coreBound, growth, horizon, recordSeq, bootCount, anchorKind, chain⟩
    let s := s.modLink l fun x => { x with peer := b }
    match assoc k.received txMarker, assoc k.sent rxMarker with
    | some t2, some t3 =>
      let out : Int := t2 - tTx
      let back : Int := tRx - t3
      let e : Exchange :=
        { theta := rdiv (out - back + (calDelay s (linkCal l 2)).getD 0) 2, trip := out + back }
      .next (s.modLink l fun x => { x with exchanges := x.exchanges ++ [e] })
    | _, _ => .next s

def insertInt (a : Int) : List Int → List Int
  | [] => [a]
  | b :: bs => if a ≤ b then a :: b :: bs else b :: insertInt a bs

/-- Twice the median. -/
def median2 (l : List Int) : Int :=
  let o := l.foldr insertInt []
  o.getD ((o.length - 1) / 2) 0 + o.getD (o.length / 2) 0

/-- 6 × s ÷ √n of R441 in ps, rounded up: s over n − 1. -/
def linkNoise (l : List Int) : Nat :=
  let n := l.length
  if n < 2 then unbounded
  else
    let sum := l.foldl (· + ·) 0
    let sq := l.foldl (fun a x => a + ((n : Int) * x - sum).natAbs ^ 2) 0
    let a := 36 * sq * 10 ^ 6
    let b := n ^ 3 * (n - 1) * 2 ^ 32
    let r := isqrt (a / b)
    if r * r * b < a then r + 1 else r

/-- R441: B_n at the measurement time. -/
def neighbourBound (s : State) (b : PeerBound) : Nat :=
  if b.core = unbounded then unbounded
  else satBound (b.core + (if b.horizon < now s then
    (b.growth * (now s - b.horizon) + secUnit - 1) / secUnit else 0))

/-- R438, R441: the STACK measurement of a transfer interval. -/
def execStackTransferInterval (link : Fin 2) (s : State) : Out :=
  let k := s.stack.links[link]
  let s := s.modLink link fun x => { x with exchanges := [] }
  if !s.stack.paired ∨ s.stack.upstream ≠ some link then .next s
  else if k.exchanges.length < 50 then .next (refMiss stackRef s)
  else
    let m := median2 (k.exchanges.map (·.trip))
    let used := k.exchanges.filter fun e => decide ((2 * e.trip - m).natAbs * 1000 ≤ 2 * 100 * 65536)
    let s := countLink link
      (fun c => { c with rttOutlier := c.rttOutlier + (k.exchanges.length - used.length) }) s
    if used = [] then .next (refMiss stackRef s)
    else
      let th := used.map (·.theta)
      let u := calNat s (linkCal link 3) 8
      let a := calNat s (linkCal link 4) 8
      let lu := if u = unbounded ∨ a = unbounded then unbounded else satBound (u + a + linkNoise th)
      let bn := if bitOf k.peer.chain s.stack.position then unbounded else neighbourBound s k.peer
      let s := match asFin 8 s.stack.position with
        | some p => s.modMember p fun x => { x with linkUnc := lu }
        | none => s
      let s := s.modRef stackRef fun x =>
        { x with uncertainty := if lu = unbounded ∨ bn = unbounded then unbounded else satBound (bn + lu) }
      .next (refArrival stackRef
        (takeOffset stackRef (rdiv (th.foldl (· + ·) 0) th.length) (now s) s))

/-! ### STATE (R448) -/

def statePayload (s : State) : Bytes :=
  let l := (fins 20).filter fun i => decide (s.refs[i].state ≠ .off)
  (ductusRecord s).take 56 ++ be 1 l.length ++ be 7 0 ++ l.flatMap (refRecord s)

def execStateSend (s : State) : Out :=
  if !s.stack.paired then .next s
  else .next (forAll [linkE, linkW] (fun l t => sendOn l 0x20 0xFF 1 1 (statePayload t) none t) s)

def execState (h : StackHdr) (octets : Bytes) (s : State) : Out :=
  let (ok, s) := takeFrame h s
  if !ok then .next s
  else .next (s.modLink h.link fun k => { k with partner := octets })

/-! ### Replication as received (R437, R446 to R450) -/

/-- A device that takes replication: a member, or a joiner that was admitted. -/
def takesReplication (s : State) : Bool :=
  s.stack.paired || s.stack.pairing.any fun p => decide (p.step = .replicate)

/-- All fields of a configure body, checked and applied as its command would. -/
def applyRows (t : List Fld) (rows : Rows) (g : GReq) (put : Rows → Except Nat State) : Option State :=
  if g.mask + 1 ≠ 2 ^ t.length then none
  else match merge t rows g.mask g.fields with
    | none => none
    | some (r, _) => match put r with
      | .ok s => some s
      | .error _ => none

/-- The receiver's own handle for a slot. -/
def ownHandles (s : State) (rows : Rows) : Rows :=
  let f := fun (r : List Nat) => match r with
    | [id, h] => [id, if h % 4096 = 0 then 0 else handleOf s (h % 4096)]
    | _ => r
  rows.zipIdx.map fun (r, i) => if 2 ≤ i ∧ i ≤ 4 then f r else r

/-- R447. -/
def applyConfig (c : ConfigRecord) (s : State) : Option State :=
  let g := c.body
  match c.opcode with
  | 0x0601 => match asFin 64 g.index with
    | none => none
    | some i => applyRows ntsTable.flds (ntsTable.rows s.net.nts.addresses[i].cfg) g fun r =>
        putNts i r (fun _ => true) (modAddress i (fun a => { a with standby := true }) s)
  | 0x0602 => if g.index = 0xFFFF then
      applyRows rotationTable.flds (rotationTable.rows (rotationCfg s)) g fun r => putRotation r s
    else none
  | 0x0606 => match asFin 8 g.index with
    | none => none
    | some i => applyRows profileTable.flds (profileTable.rows s.net.nts.profiles[i].cfg) g fun r =>
        putProfile i r s
  | 0x0701 => match asFin 16 g.index with
    | none => none
    | some i => applyRows ptpTable.flds (ptpTable.rows s.net.ptp.addresses[i].cfg) g fun r =>
        putPtp i r (fun _ => true) (modPtpAddr i (fun a => { a with standby := true }) s)
  | 0x0702 => if g.index = 0xFFFF then applyRows globalFlds (globalRows s) g fun r => putGlobal r s
    else none
  | 0x0704 => (saIndexRows g.index s).bind fun rows =>
      applyRows saTable.flds rows g fun r => putSa g.index (ownHandles s r) s
  | _ => none

def takeRecord (h : StackHdr) (c : ConfigRecord) (s : State) : State :=
  match applyConfig c s with
  | some s => s
  | none => violation h.link h.src.val 8 (fun c => { c with replReject := c.replReject + 1 }) s

def execConfig (h : StackHdr) (records : List ConfigRecord) (s : State) : Out :=
  let (ok, s) := takeFrame h s
  if !ok ∨ !takesReplication s then .next s
  else .next (sendAck h.src.val 1 0x21 h.seq (forAll records (takeRecord h) s))

/-- R450: a replicated entry is stored with FLAGS bit 3, or removed. -/
def takeSession (l : Fin 2) (x : Session) (s : State) : State :=
  let old := findSession s x.service x.peerIp x.clockId x.portNumber
  if x.state = 0 then
    match old with
    | some (n, _) => dropSession n s
    | none => s
  else
    let y := { x with flags := x.flags ||| 8 }
    match old with
    | some (n, _) => modSession n (fun _ => y) s
    | none =>
      if 262144 ≤ s.net.ptp.sessions.length then
        countLink l (fun c => { c with sessionFull := c.sessionFull + 1 }) s
      else s.modPtp fun p => { p with sessions := assocSet p.sessions (lowestFree p.sessions 0) y }

def execSession (h : StackHdr) (entries : List Session) (s : State) : Out :=
  let (ok, s) := takeFrame h s
  if !ok ∨ !takesReplication s then .next s
  else .next (sendAck h.src.val 1 0x22 h.seq (forAll entries (takeSession h.link) s))

/-- The bases that a KEY frame lists are held with the key. -/
def holdBases (k : KeyRecord) (s : State) : State :=
  s.modStack fun t =>
    let new := (k.bases.map fun b => (⟨k.slot, 0xFF, k.keyId, b⟩ : BaseReport)).filter fun b =>
      !t.bases.any fun x => decide (x.slot = b.slot) && decide (x.keyId = b.keyId) && decide (x.base = b.base)
    { t with bases := t.bases ++ new }

/-- A generation takes the state of its record; another one in a state that only one may have is
gone (11 R302). -/
def setGeneration (g : Fin 8) (k : KeyRecord) (s : State) : State :=
  let s := forAll ((fins 8).filter fun i => decide (i ≠ g) && decide (k.state = 1 ∨ k.state = 2) &&
    decide (s.net.nts.gens[i].state = k.state)) dropGen s
  let s := modGen g (fun _ => { state := k.state, keyId := k.keyId, retireAt := k.retireAt * secUnit }) s
  s.modNts fun n => { n with lastKeyId := max n.lastKeyId k.keyId,
                             noCurrentTold := n.noCurrentTold && decide (k.state ≠ 2) }

/-- A replicated key's slot is written (13 R360): it takes effect and is acknowledged. -/
def replicatedWritten (k : KeyRecord) (seq : Nat) (s : State) : State :=
  let s := match asFin 8 (k.slot - 32) with
    | some g => if 32 ≤ k.slot then setGeneration g k s else s
    | none => s
  sendAck 0 2 0x23 seq (holdBases k s)

/-- R437: what a key record asks for. -/
def takeKey (h : StackHdr) (k : KeyRecord) (s : State) : State :=
  let ack := sendAck h.src.val 2 0x23 h.seq
  let write := beginWrite { slot := k.slot, keyType := k.keyType, material := k.material,
                            use := .replicated k h.link h.seq, source := none }
  if 32 ≤ k.slot ∧ k.slot < 40 then
    let g : Fin 8 := (asFin 8 (k.slot - 32)).getD 0
    let x := s.net.nts.gens[g]
    if k.state = 0 then ack (if x.state = 0 then s else discardReaders x.keyId (dropGen g s))
    else if x.keyId = k.keyId ∧ x.committed ∧ material (slotAt s k.slot) = k.material then
      replicatedWritten k h.seq s
    else write s
  else if k.slot = 40 then
    if (slotAt s 40).state ≠ 1 then write s
    else if material (slotAt s 40) = k.material then ack s
    else ack (s.modStack fun t =>
      { t with newKey := some k.material, newKeyAt := if k.retireAt = 0 then none else some k.retireAt })
  else if (40 < k.slot ∧ k.slot < 48) ∨ (64 ≤ k.slot ∧ k.slot < 4096) then
    if k.state = 0 then ack (zeroSlot k.slot s) else write s
  else ack (violation h.link h.src.val 8 (fun c => { c with replReject := c.replReject + 1 }) s)

def execKey (h : StackHdr) (k : KeyRecord) (s : State) : Out :=
  let (ok, s) := takeFrame h s
  if !ok ∨ !takesReplication s then .next s else .next (takeKey h k s)

/-- R304: the member commits at A, or at once after it. -/
def execActivate (h : StackHdr) (keyId oldKeyId : Nat) (a : ZT128) (retireAt : Nat) (s : State) : Out :=
  let (ok, s) := takeFrame h s
  if !ok ∨ !takesReplication s then .next s
  else
    let at_ := ztUnits a
    let x : Activation := ⟨keyId, oldKeyId, at_, retireAt * secUnit⟩
    let s := match genOf s keyId with
      | some g =>
        if genState s g = 1 then
          if at_ ≤ now s then makeCurrent g oldKeyId (retireAt * secUnit) s
          else modRotation (fun y => { y with commit := some x }) s
        else s
      | none => s
    .next (sendAck h.src.val 1 0x25 h.seq s)

/-- R453: the PRIMARY resigns. -/
def execResign (h : StackHdr) (newTerm : Nat) (s : State) : Out :=
  let (ok, s) := takeFrame h s
  if !ok ∨ !s.stack.paired then .next s
  else
    let s := sendAck h.src.val 1 0x30 h.seq s
    if s.stack.role = 2 ∧ h.src.val = 0 ∧ s.stack.term < newTerm then .next (takeover newTerm true s)
    else .next s

/-- R458: a member leaves. -/
def execLeave (h : StackHdr) (position : Fin 8) (s : State) : Out :=
  let (ok, s) := takeFrame h s
  if !ok ∨ !s.stack.paired then .next s
  else
    let s := sendAck h.src.val 1 0x31 h.seq s
    if isPrimary s ∧ h.src = position ∧ 2 ≤ s.stack.members[position].state then
      .next (removeMember position s)
    else .next s

/-! ### Acknowledgements (R446, R449) -/

/-- What an acknowledged frame brings about. -/
def acknowledged (f : ReplFrame) (s : State) : State :=
  match f.body with
  | .key k =>
    if 32 ≤ k.slot ∧ k.slot < 40 then
      let g : Fin 8 := (asFin 8 (k.slot - 32)).getD 0
      if s.net.nts.gens[g].keyId ≠ k.keyId then s
      else modRotation (fun r => { r with ackAt := now s })
        (modGen g (fun x => { x with acked := if f.dst.val ∈ x.acked then x.acked else f.dst.val :: x.acked }) s)
    else if k.slot = 40 then nameBoundary s
    else s
  | .leave _ => leaveStack s
  | .resign _ => leaveStack s
  | _ => s

def execAck (h : StackHdr) (ackedType ackedSeq : Nat) (bases : List BaseReport) (s : State) : Out :=
  let (ok, s) := takeFrame h s
  if !ok then .next s
  else
    let s := s.modStack fun t => { t with bases := t.bases ++ bases.filter fun b => decide (b ∉ t.bases) }
    let hit := fun (f : ReplFrame) => decide (f.dst = h.src) && decide (bodyType f.body = ackedType) &&
      decide (ackedSeq ∈ f.seqs)
    match s.stack.frames.find? hit with
    | none => .next s
    | some f =>
      let s := s.modStack fun t => { t with frames := t.frames.filter fun x => decide (x.id ≠ f.id) }
      .next (settlePairing (acknowledged f s))

/-- R446: a frame is sent again, at most 64 times in all; then its recipient is lost. -/
def execReplicationRetransmit (id : Nat) (s : State) : Out :=
  match s.stack.frames.find? fun f => decide (f.id = id) with
  | none => .next s
  | some f =>
    if 64 ≤ f.seqs.length then
      let s := s.modStack fun t => { t with frames := t.frames.filter fun x => decide (x.id ≠ id) }
      let l := (linkTo s f.dst.val).getD (if ownPos s < f.dst.val then linkE else linkW)
      let s := countLink l (fun c => { c with replTimeout := c.replTimeout + 1 }) s
      match s.stack.pairing with
      | some p => if !s.stack.paired ∨ pairPeer s p = f.dst.val then .next (failPairing s)
          else .next (markLost f.dst s)
      | none =>
        if s.stack.links[l].peerPos = some f.dst ∧ !s.stack.links[l].suspect then .next (suspectLink l s)
        else if s.stack.members[f.dst].state = 2 then .next (markLost f.dst s)
        else .next s
    else
      let key := bodyKey f.body
      let q := s.stack.seqOut[seqIndex key f.dst.val]
      let again := fun (x : ReplFrame) => if x.id = id then { x with seqs := x.seqs ++ [q] } else x
      let s := s.modStack fun t => { t with frames := t.frames.map again }
      .next (sendTo (bodyType f.body) f.dst.val key [] (some f.body) s)

/-! ### Detach (R457, R458) -/

def execDetach (r : Req) (s : State) : Out :=
  runAccepted 0x0B03 0 r (fun q s => do
    need (s.stack.paired && s.stack.detaching.isNone) eState
    let s := s.modStack fun t => { t with detaching := some (r.src, q) }
    if s.stack.role = 1 then
      if twinOf s = [] then pure (leaveStack s)
      else
        pure (replicate (twinOf s) (.resign (s.stack.term + 1)) s)
    else pure (sendRepl (.leave s.stack.position) 0 s)) s

def execDetachAckTimeout (s : State) : Out :=
  if s.stack.detaching.isNone then .next s else .next (leaveStack s)

end Sys2Proof.Machine
end

