-- ==== Sys2Proof/Machine/Time.lean ====
section
/-! DEFINITION. The time counter: its commands, the handover, steps, recoveries, the leap table, the counter
window and the EVINs (07). -/

namespace Sys2Proof.Machine

/-! ### Commands (07 R211 to R219, 15 R414) -/

def inVirtual (s : State) : Bool := decide (s.clock.form = .virtual)

/-- R213. A time-set replaces one that still waits for its edge (DESIGN CHOICE). -/
def execTimeSet (r : Req) (t0 : ZT128) (setAt : Nat) (s : State) : Out :=
  runSimple 0x0102 17 r (fun s => do
    need (decide (setAt ≤ 8)) eRange
    need (ztValid t0) eRange
    need (inVirtual s && decide (s.ductus.state = .free)) eState
    if setAt = 0 then
      pure (setVirtual { t0 := ztUnits t0, v0 := s.clock.ticks.toNat, rate := s.clock.vset.rate }
        (s.modClock fun c => { c with setOnEvin := none }))
    else
      pure (s.modClock fun c =>
        { c with setOnEvin := (asFin 8 (setAt - 1)).map fun n => (n, ztUnits t0) })) s

/-- The first device-time second boundary at least 2 ms away (R214). -/
def stepBoundary (s : State) : Nat := (now s + ms16 2 + secUnit - 1) / secUnit

/-- R214. `amount` is S. -/
def execTimeStep (r : Req) (amount : Int) (s : State) : Out :=
  runAccepted 0x0103 8 r (fun seq s => do
    need (decide (amount ≠ 0) && decide (amount.natAbs ≤ 1000 * secUnit) &&
      decide (0 ≤ (now s : Int) + amount)) eRange
    need (counterForm s && s.clock.step.isNone && s.clock.rebase.isNone) eState
    pure (s.modClock fun c =>
      { c with step := some { amount := amount, boundary := stepBoundary s, source := r.src,
                              sequence := seq } })) s

/-- R211: the recovery sequence without stopping the clock. -/
def execTimeRestart (r : Req) (s : State) : Out :=
  runAccepted 0x0104 0 r (fun seq s =>
    .ok ((beginRecovery true s).modClock fun c => { c with restarts := c.restarts ++ [(r.src, seq)] })) s

/-- R219: the entries are in order, two days apart, each a step of one second at a UTC midnight. -/
def leapOk (prev : Option Nat) (o : Int) : List LeapEntry → Bool
  | [] => true
  | e :: es =>
    (match prev with
     | some p => decide (p + 172800 ≤ e.effective)
     | none => true) &&
    decide ((e.offset - o).natAbs = 1) && decide (((e.effective : Int) - e.offset) % 86400 = 0) &&
    leapOk (some e.effective) e.offset es

/-- The entries whose smear window is in progress at `u`, each with the offset before it (R221). -/
def inProgress (tab : LeapTable) (u : Nat) : List (Nat × Int × Int) :=
  (leapSteps tab.base tab.entries).filter fun (l, _, d) =>
    decide (((l : Int) - 43200 - d) * secUnit ≤ u) && decide (u < (l + 43200) * secUnit)

def leapFields (base : Int) (expiry : Nat) (es : List LeapEntry) : Bool :=
  withinInt (-32768) 32767 base && decide (expiry < 2 ^ 64) && decide (es.length ≤ 32) &&
  es.all fun e => decide (e.effective < 2 ^ 64) && withinInt (-32768) 32767 e.offset

/-- R219. -/
def execLeapTable (r : Req) (base : Int) (expiry : Nat) (entries : List LeapEntry) (s : State) : Out :=
  runSimple 0x0105 (24 + 16 * entries.length) r (fun s => do
    let t : LeapTable := { base := base, expiry := expiry, entries := entries, unset := false }
    need (leapFields base expiry entries && leapOk none base entries) eRange
    need (s.clock.leap.unset ||
      decide (inProgress s.clock.leap (now s) = inProgress t (now s))) eState
    pure (s.modClock fun c => { c with leap := t })) s

/-- R222: the EXPIRY of a written table has passed. -/
def execLeapTableExpiry (s : State) : Out :=
  let l := s.clock.leap
  if !l.unset && decide (l.expiry * secUnit < now s) then
    .next (s.modClock fun c => { c with leap := { c.leap with expired := true } })
  else .next s

/-! ### The counter window (R223, R224) -/

/-- The fields of the block on one tick. -/
def snapshotOf (s : State) : Snapshot :=
  let u := now s
  let t := s.clock.leap
  { tai := u, utc := utcOf t u, smeared := smearedOf t u, taiUtc := offsetAt t (u / secUnit),
    epoch := s.clock.epoch, latchSeq := s.clock.window.latchSeq + 1,
    flags := BitVec.ofNat 16 (windowFlags s u), increment := s.clock.increment,
    tick := s.clock.ticks.toNat }

/-- R224: while the system time clock stands a latch takes no snapshot. -/
def execCwLatch (s : State) : Out :=
  if clockRuns s && hostReachable s then .next (s.modClock fun c => { c with window := snapshotOf s }) else .next s

/-! ### Handover, steps and recoveries -/

/-- R210, in its order. A further request before the next recovery is refused inside the device. -/
def execHandover (s : State) : Out :=
  if s.clock.handoverAsked ∧ s.clock.form = .virtual ∧ !s.clock.handedOver then
    let s := s.modClock fun c =>
      { c with reg := now s * 2 ^ 24, increment := 2 ^ 40, form := .counter, epoch := c.epoch + 1,
               handedOver := true, handoverAsked := false, estimatePoor := false,
               setOnEvin := none }
    let s := raise 0x0104 s.clock.epoch.toNat s.clock.ticks.toNat s
    .next (forAll s.clock.restarts (fun x t => completeCmd 0x0104 x.2 stOk x.1 t)
      (s.modClock fun c => { c with restarts := [] }))
  else .next s

/-- R214: the pending step is applied on the tick of its boundary; Ductus takes it into its
estimate. -/
def execTimeStepApply (s : State) : Out :=
  match s.clock.step with
  | some p =>
    if counterForm s && decide (p.boundary ≤ nowSec s) then
      let s := stepTime p.amount (s.modClock fun c => { c with step := none })
      let s := s.modDuctus fun d => { d with h := d.h + p.amount }
      let s := raiseAt 0x0105 s.clock.epoch.toNat (toCode 64 p.amount) (p.boundary * secUnit) s
      .next (completeCmd 0x0103 p.sequence stOk p.source s)
    else .next s
  | none => .next s

/-- R211, R182: APLL0 enters UNLOCKED. -/
def execRecoveryStart (s : State) : Out :=
  if s.clock.recovery.isNone ∧ s.synth.aplls[0].state ≠ .unlocked then .next (unlockApll 0 s)
  else .next s

/-- `n` periods of the XO's nominal frequency, in 2^-16 ns. -/
def xoTime (s : State) (n : Nat) : Nat := n * 65536000000000000 / s.refs[xoRef].cfg.nominal

/-- R211, steps 4 and 5. `xoEdges` is the recovery timer; after time-restart it counts 0. -/
def execClockRestart (xoEdges : Nat) (xoLost : Bool) (s : State) : Out :=
  match s.clock.recovery with
  | some rc =>
    if s.synth.aplls[0].state = .unlocked then .next s
    else
      let n := if rc.byCommand then 0 else xoEdges
      let poor := s.clock.estimatePoor || (xoLost && !rc.byCommand)
      let v : VirtualSet := { t0 := rc.rLast / 2 ^ 24 + xoTime s n, v0 := 0, rate := 0 }
      let s := s.modClock fun c =>
        { c with ticks := 0, form := .virtual, vset := v, vprev := v, recovery := none,
                 handedOver := false, handoverAsked := false, estimatePoor := poor,
                 setOnEvin := none }
      let s := restartTicks s
      let s := raiseAt 0x0106 (flag rc.byCommand 0 + flag poor 8) n (rc.rLast / 2 ^ 24) s
      .next (ductusFree (s.modClock fun c => { c with epoch := c.epoch + 1 }))
  | none => .next s

/-! ### EVINs (R227) -/

def evinTable : Table Evin where
  flds := [one 1, one 1, one 1, one 4]
  rows c := [[c.enable], [c.edge], [c.path], [c.deadTime]]
  ofRows r := { enable := val r 0, edge := val r 1, path := val r 2, deadTime := val r 3 }

def evinValid (c : Evin) : Bool :=
  decide (c.enable ≤ 1) && decide (c.edge ≤ 2) && decide (c.path ≤ 2) &&
  within 8 1000000 c.deadTime

/-- The EVIN as configured, with a channel of the pool where Nib takes its edges. -/
def putEvin (n : Fin 8) (c : Evin) (s : State) : Except Nat State :=
  let old := s.clock.evins[n]
  let set := fun (ch : Option (Fin 24)) (t : State) =>
    t.modClock fun k => { k with evins := upd k.evins n fun e =>
      { e with enable := c.enable, edge := c.edge, path := c.path, deadTime := c.deadTime,
               channel := ch } }
  if c.enable = 1 ∧ c.path ≠ 0 then
    match old.channel with
    | some k => .ok (set (some k) (if c.edge = old.edge then s else
        s.modNib k fun x => armed { x with cfg := { x.cfg with edge := c.edge } } 0))
    | none => match takeChannel ownEvin n.val (0x10 + n.val) c.edge s with
      | some (k, t) => .ok (set (some k) t)
      | none => .error eNoSpace
  else .ok (set none (releaseOpt old.channel s))

def execEvinConfigure (r : Req) (g : GReq) (s : State) : Out :=
  runConfig 0x0405 evinTable.flds r g
    (fun s => (asFin 8 g.index).map fun n => evinTable.rows s.clock.evins[n])
    (fun rows s => match asFin 8 g.index with
      | none => .error eRange
      | some n => do
        let c := evinTable.ofRows rows
        need (evinValid c) eRange
        putEvin n c s) s

def execEvinConfigureReadBack (r : Req) (index : Nat) (s : State) : Out :=
  runReadBack 0x0485 evinTable.flds r index
    (fun s => (asFin 8 index).map fun n => evinTable.rows s.clock.evins[n]) s

/-- R213: the waiting time-set takes the edge: the device time of the edge at the ball is T0. -/
def setOnEdge (n : Fin 8) (sub : Nat) (s : State) : State :=
  match s.clock.setOnEvin with
  | some (k, t0) =>
    if k ≠ n then s
    else
      let d := (calDelay s (22160 + 8 * n.val)).getD 0
      let s := s.modClock fun c => { c with setOnEvin := none }
      if inVirtual s && decide (s.ductus.state = .free) then
        setVirtual { t0 := ((t0 : Int) + d - (sub / 2 ^ 24 : Nat)).toNat,
                     v0 := s.clock.ticks.toNat, rate := s.clock.vset.rate } s
      else s
  | none => s

/-- The latch stamps an edge (R225, R227): in steps of 15.625 ps, less the path delay of the record. -/
def latchEdge (n : Fin 8) (rising : Bool) (sub : Nat) (s : State) : State :=
  let e := s.clock.evins[n]
  let pos := s.clock.ticks.toNat * 2 ^ 40 + sub
  let near : Bool := match e.lastEdge with
    | some p => decide (pos < p + e.deadTime * 2 ^ 40)
    | none => false
  if near then
    s.modClock fun c => { c with evins := upd c.evins n fun x =>
      { x with lost := (x.lost + 1) % 2 ^ 32 } }
  else
    let raw := stampAt s sub / 1024 * 1024
    let d := calDelay s (22160 + 8 * n.val)
    let t := ((raw : Int) - d.getD 0).toNat
    let s := s.modClock fun c => { c with evins := upd c.evins n fun x =>
      { x with lastEdge := some pos, count := (x.count + 1) % 2 ^ 64 } }
    enqueue 1 (.nib
      { channel := 0xFF, source := 0x10 + n.val, epoch := s.clock.epoch,
        stampFlags := stampFlags s true d.isSome false, nibFlags := flag (!rising) 7,
        ordinal := e.count, body := .latch t }) s

/-- An edge on an enabled EVIN. A rising edge serves the waiting time-set and the armed capture
whatever EDGE selects; Nib sees the edge at its own channel (NIB_EDGE). -/
def execEvinEdge (evin : Fin 8) (rising : Bool) (sub : Nat) (s : State) : Out :=
  let e := s.clock.evins[evin]
  if e.enable = 0 ∨ !clockRuns s then .next s
  else
    let s := if rising then setOnEdge evin sub s else s
    let sees : Bool := match e.edge with
      | 0 => rising
      | 1 => !rising
      | _ => true
    let s := if sees && decide (e.path ≠ 1) then latchEdge evin rising sub s else s
    .next (if rising then evinTrigger evin.val s else s)

end Sys2Proof.Machine
end

