-- ==== Sys2Proof/Machine/StopOps.lean ====
section
/-! DEFINITION. The ACCEPTED commands that run, and how all of them are stopped (15 R430). -/

namespace Sys2Proof.Machine

def fwJobCode (j : FwJob) : Nat := if j.stage then 0x010B else 0x010A

/-- Opcode, SEQUENCE and source of every ACCEPTED command that runs. -/
def runningCommands (s : State) : List (Nat × Nat × Source) :=
  (match s.power.change with
    | some c => (match c.source with
      | some (src, q) => [(0x0101, q, src)]
      | none => [])
    | none => []) ++
  (match s.clock.step with
    | some p => [(0x0103, p.sequence, p.source)]
    | none => []) ++
  s.clock.restarts.map (fun x => (0x0104, x.2, x.1)) ++
  (match s.keys.fwJob with
    | some j => [(fwJobCode j, j.seq, j.source)]
    | none => []) ++
  s.synth.jobs.map (fun j => (0x0403, j.seq, j.source)) ++
  s.synth.checks.map (fun k => (0x0406, k.seq, k.from_)) ++
  s.net.nts.rotation.asked.map (fun x => (0x0603, x.2.2, x.2.1)) ++
  (match s.net.nts.mint with
    | some (_, src, q) => [(0x0605, q, src)]
    | none => []) ++
  (match s.keys.change with
    | some c => (match c.source with
      | some (src, q) => [(0x0801, q, src)]
      | none => [])
    | none => []) ++
  s.keys.attests.map (fun j => (0x0804, j.seq, j.source)) ++
  s.keys.entropyJobs.map (fun x => (0x080D, x.2.2, x.2.1)) ++
  s.gnss.ports.toList.filterMap (fun p => p.group.map fun j => (0x0909, j.seq, j.source)) ++
  (match s.gnss.snap.exporting with
    | some (_, src, q) => [(0x090C, q, src)]
    | none => []) ++
  (match s.stack.pairing with
    | some p => (match p.source with
      | some (src, q) => [(0x0B02, q, src)]
      | none => [])
    | none => []) ++
  (match s.stack.detaching with
    | some (src, q) => [(0x0B03, q, src)]
    | none => [])

/-- They are stopped where they stand; what they have not done is not done. -/
def stopRunning (s : State) : State :=
  let s := s.modPower fun w => { w with change := w.change.map fun c => { c with source := none } }
  let s := s.modClock fun c => { c with step := none, restarts := [] }
  let jobs := s.synth.jobs ≠ []
  let s := s.modSynth fun y => { y with jobs := [] }
  let s := if jobs then forAll (fins 6) abortRealign s else s
  let ck := fun (_ : Fin 16) (k : Ckout) => { k with stepBy := none }
  let ev := fun (_ : Fin 8) (e : Evout) => { e with stepBy := none }
  let s := s.modSynth fun y => { y with ckouts := vmap ck y.ckouts, evouts := vmap ev y.evouts }
  let s := forAll s.synth.checks (fun k => releaseChannel k.channel) s
  let s := s.modSynth fun y => { y with checks := [] }
  let s := s.modNts fun n => { n with mint := none, rotation := { n.rotation with asked := [] } }
  let s := s.modKeys fun k =>
    { k with fwJob := none, attests := [], entropyJobs := [],
             change := k.change.map fun c => { c with source := none } }
  let port := fun (_ : Fin 2) (p : GnssPort) => { p with group := none }
  let s := s.modGnss fun g =>
    { g with ports := vmap port g.ports, snap := { g.snap with exporting := none } }
  let s := match s.stack.pairing with
    | some _ =>
      if s.stack.paired then failPairing (modPairing (fun x => { x with source := none }) s)
      else clearStack s
    | none => s
  s.modStack fun t => { t with detaching := none }

/-- A life-cycle change or tamper ends every one with E_STATE. -/
def endRunning (s : State) : State :=
  forAll (runningCommands s) (fun x => completeCmd x.1 x.2.1 eState x.2.2) (stopRunning s)

end Sys2Proof.Machine
end

