-- ==== Sys2Proof/Machine/Keys.lean ====
section
/-! DEFINITION. Keys, the life cycle, tampers, attestation and random numbers (13). -/

namespace Sys2Proof.Machine

/-! ### Areas of the data port (14 R378) -/

abbrev attestArea : Nat := 0x02100000
abbrev blobArea : Nat := 0x02110000
abbrev sealIn : Nat := 0x02120000
abbrev sealOut : Nat := 0x02122000
abbrev entropyArea : Nat := 0x02200000

/-- The NTS mint area, both halves, is zeroised. -/
def clearMintArea (s : State) : State :=
  let keep := fun (c : Host.Cell) => decide (c.1 < 0x02000000) || decide (0x02035800 ≤ c.1)
  s.modHost fun h => { h with memory := ⟨h.memory.cells.filter keep⟩ }

/-! ### Zeroisation (R343, R355, R356) -/

/-- Every key-table copy, ladder key and engine key, with what is held by key: generations, nonce bases,
writes in progress; SA configuration and PTP sessions go without CANCEL. -/
def destroyKeys (s : State) : State :=
  let wipe := fun (x : Nat × KeySlot) =>
    if x.2.state = 0 then x
    else (x.1, { x.2 with state := 0, copyA := [], copyB := [], alloc := (x.2.alloc + 1) % 2 ^ 20 })
  let held := s.keys.writes.filterMap fun w => w.source
  let s := s.modKeys fun k => { k with slots := k.slots.map wipe, writes := [], ladder := false }
  let s := forAll held (fun src => finish src eState []) s
  let s := s.modNts fun n =>
    { n with gens := Vector.replicate 8 {}, bases := [], mint := none,
             rotation := { n.rotation with due := none, commit := none, told := false } }
  let s := s.modPtp fun p => { p with sessions := [], peers := [], sas := [] }
  let s := s.modMargin fun m => { m with signing := [] }
  let s := if s.stack.paired ∨ s.stack.pairing.isSome then clearStack s else s
  settleParents (clearMintArea s)

/-- R355 step 4: the journal is cleared and both banks are erased. -/
def eraseBanks (s : State) : State :=
  s.modKeys fun k =>
    { k with journal := [], flash := [], bank := false, position := 0, compacting := false }

/-! ### Roots (R339 to R341) -/

/-- The check value of a root. -/
def rootCheck (root : Bytes) (epoch : Nat) : Bytes := (Config.sha256 (root ++ le 4 epoch)).take 8

/-- A new root in the cell of a state, drawn with prediction resistance; ATTEST_GEN and IMPORT_GEN
start at 1 and the ladder is derived from it. -/
def makeRoot (i : Fin 3) (s : State) : State :=
  let (r, s) := freshBytes 32 s
  let e := s.keys.rootEpoch + 1
  s.modKeys fun k =>
    { k with roots := k.roots.set i { present := true, root := r, epoch := e, check := rootCheck r e },
             rootEpoch := e, attestGen := 1, importGen := 1, ladder := true, rootPending := false }

/-- A root can be drawn (R354, R369). -/
def rootDrawable (s : State) : Bool := s.keys.drbgReady && !s.keys.entropyFail

/-! ### Tampers (R342 to R345, R354) -/

def tamperRecord (s : State) (detector : Nat) (onBattery known : Bool) : TamperRecord :=
  { seconds := if known then nowSec s else 0, bootCount := s.keys.bootCount, detector := detector,
    lifecycle := s.keys.life.val,
    flags := flag (!known) 0 + flag onBattery 1 + flag (decide (s.clock.form = .virtual) && known) 2 }

/-- The first 32 records and the latest 32. -/
def addTamper (r : TamperRecord) (s : State) : State :=
  s.modKeys fun k =>
    let k := { k with tamperEvents := min (2 ^ 32 - 1) (k.tamperEvents + 1) }
    if k.firstTampers.length < 32 then { k with firstTampers := k.firstTampers ++ [r] }
    else { k with lastTampers :=
             (if k.lastTampers.length < 32 then k.lastTampers else k.lastTampers.drop 1) ++ [r] }

/-- Step 1: the VBAT domain zeroises the root cells and latches the detector. -/
def latchTamper (detector : Nat) (onBattery : Bool) (s : State) : State :=
  let bit := BitVec.ofNat 16 (2 ^ detector)
  s.modKeys fun k =>
    { k with roots := Vector.replicate 3 {}, tamperLatch := k.tamperLatch ||| bit,
             onBattery := if onBattery then k.onBattery ||| bit else k.onBattery }

/-- Step 4: a record for each latched bit, TAMPER_EVENTS, the event, and the latch is cleared. -/
def recordLatched (known : Bool) (s : State) : State :=
  let ds := (List.range 16).filter fun d => s.keys.tamperLatch.getLsbD d
  let s := forAll ds (fun d t =>
    let t := addTamper (tamperRecord t d (t.keys.onBattery.getLsbD d) (known && !t.keys.onBattery.getLsbD d)) t
    raise 0x0802 d t.keys.tamperEvents t) s
  s.modKeys fun k => { k with tamperLatch := 0, onBattery := 0 }

/-- The state that a tamper leads to; none in RETIRED. -/
def tamperTarget (life : Fin 4) : Option (Fin 4) :=
  match life with
  | 3 => none
  | 0 => some 0
  | _ => some 1

/-- Steps 2 to 4 with main power present, and the consequence begins. -/
def tamperResponse (detector : Nat) (s : State) : State :=
  let s := endRunning (latchTamper detector false s)
  let s := destroyKeys (stopService s)
  let s := s.modKeys fun k => { k with drbgCount := 0 }
  let s := recordLatched (clockRuns s) s
  match tamperTarget s.keys.life with
  | some t => s.modKeys fun k => { k with change := some ⟨t, true, none⟩ }
  | none => s

/-- A detector is armed (R342). ROOT_CHECK fires at boot and ZEROISE by its command only. -/
def detectorArmed (s : State) (d : Nat) (onBattery : Bool) : Bool :=
  match d with
  | 1 => decide (s.keys.tamperIn[(0 : Fin 2)].1 = 1)
  | 2 => decide (s.keys.tamperIn[(1 : Fin 2)].1 = 1)
  | 3 => true
  | 4 => onBattery
  | 5 => true
  | 6 => !onBattery && (decide (s.keys.life = 1) || decide (s.keys.life = 2))
  | 7 => !onBattery && decide (s.keys.life ≠ 0)
  | _ => false

/-- R343. On VBAT alone, and while RESET_N is low, only step 1 runs; the rest follows at the next
boot. -/
def execTamperDetected (detector : Nat) (onBattery : Bool) (s : State) : Out :=
  if !detectorArmed s detector onBattery ∨ onBattery = s.power.powered then .next s
  else if onBattery ∨ s.power.inReset then .next (latchTamper detector onBattery s)
  else .next (tamperResponse detector s)

def execZeroise (r : Req) (deviceId : Nat) (s : State) : Out :=
  runSimple 0x0802 16 r (fun s => do
    need (decide (deviceId = Config.deviceId)) eRange
    pure (tamperResponse 9 s)) s

def execTamperConfigure (r : Req) (g : GReq) (s : State) : Out :=
  runConfig 0x0803 [one 1, one 1] r g
    (fun s => (asFin 2 g.index).map fun i => [[s.keys.tamperIn[i].1], [s.keys.tamperIn[i].2]])
    (fun rows s => match asFin 2 g.index with
      | none => .error eRange
      | some i => do
        need (decide (val rows 0 ≤ 1) && decide (val rows 1 ≤ 1)) eRange
        need (decide (s.keys.life.val < 2)) eState
        pure (s.modKeys fun k => { k with tamperIn := k.tamperIn.set i (val rows 0, val rows 1) })) s

def execTamperConfigureReadBack (r : Req) (index : Nat) (s : State) : Out :=
  runReadBack 0x0883 [one 1, one 1] r index
    (fun s => (asFin 2 index).map fun i => [[s.keys.tamperIn[i].1], [s.keys.tamperIn[i].2]]) s

/-! ### Life cycle (R351 to R356) -/

/-- R352, the transitions of the command. -/
def lifeAllowed (from_ dest : Nat) : Bool :=
  (decide (from_ = 0) && decide (dest = 1)) || (decide (from_ = 1) && decide (dest = 2)) ||
  (decide (from_ = 2) && decide (dest = 1)) || (decide (from_ ≤ 2) && decide (dest = 3))

/-- R353: step 1 of R355 runs at the acceptance. -/
def execLifeCycle (r : Req) (fromState target deviceId : Nat) (s : State) : Out :=
  runAccepted 0x0801 20 r (fun q s => do
    need (decide (deviceId = Config.deviceId)) eRange
    need (decide (fromState = s.keys.life.val) && lifeAllowed fromState target &&
      s.keys.change.isNone) eState
    need (decide (target = 3) || rootDrawable s) eHw
    match asFin 4 target with
    | none => .error eState
    | some t =>
      let s := stopService (endRunning s)
      pure (s.modKeys fun k => { k with change := some ⟨t, false, some (r.src, q)⟩ })) s

/-- The cell of a life-cycle state. -/
def cellOf (t : Fin 4) : Option (Fin 3) := asFin 3 t.val

/-- Steps 2 to 5 of R355, of R354 where no root can be drawn after a tamper. -/
def execLifeCycleComplete (s : State) : Out :=
  match s.keys.change with
  | none => .next s
  | some c =>
    let done := fun (status : Nat) (t : State) => match c.source with
      | some (src, q) => completeCmd 0x0801 q status src t
      | none => t
    if !s.host.supervisor then .next s
    else if c.target ≠ 3 ∧ !rootDrawable s ∧ !c.tamper then
      .next (done eHw (s.modKeys fun k => { k with change := none }))
    else
      let old := s.keys.life
      let s := match cellOf old with
        | some i => s.modKeys fun k => { k with roots := k.roots.set i {}, life := c.target }
        | none => s.modKeys fun k => { k with life := c.target }
      let s := eraseBanks (destroyKeys s)
      let s := s.modKeys fun k =>
        { k with attestGen := 1, importGen := 1, drbgCount := 0, change := none, rootPending := false }
      let s := match cellOf c.target with
        | some i => if rootDrawable s then makeRoot i s else s.modKeys fun k => { k with rootPending := true }
        | none => s
      let id := if ladderReady s then attestKeyId s else 0
      .next (done stOk (raise 0x0801 (old.val + c.target.val * 4) (s.keys.rootEpoch % 2 ^ 32 + id * 2 ^ 32) s))

/-! ### Attestation and identity (R346, R347) -/

def zeroBytes (n : Nat) : Bytes := le n 0

def orZero (b : Bool) (n : Nat) (x : Bytes) : Bytes := if b then x else zeroBytes n

/-- Records of the tamper history, oldest first (R345). -/
def tamperHistory (s : State) : List TamperRecord := s.keys.firstTampers ++ s.keys.lastTampers

def tamperBytes (r : TamperRecord) : Bytes :=
  le 8 r.seconds ++ le 4 r.bootCount ++ le 1 r.detector ++ le 1 r.lifecycle ++ le 1 r.flags ++ le 1 0

/-- VERSION and IMAGE_HASH of the running image. -/
def fwVersion (s : State) : Nat :=
  match s.keys.running with
  | some i => imageVersion s i
  | none => 0

def runningHash (s : State) : Bytes :=
  match s.keys.running with
  | some i => imageHash s i
  | none => zeroBytes 48

/-- The report before its signature (R347). -/
def attestBody (s : State) (j : AttestJob) : Bytes :=
  let n := (tamperHistory s).length
  let on := ladderReady s
  [le 4 0x3152415A, le 2 1, le 2 (624 + 16 * n), deviceIdBytes, le 1 s.keys.life.val, le 1 j.sigAlg,
   le 2 (flag (liveRoot s).isSome 0 + flag s.keys.entropyFail 1 + flag s.keys.onTrial 2 +
     flag (decide (s.keys.life = 0)) 3 + flag (decide (s.clock.form = .virtual)) 4),
   le 4 s.keys.bootCount, le 4 s.keys.rootEpoch, le 4 s.keys.tamperEvents, j.nonce, ztBytes (now s),
   le 4 (fwVersion s), le 4 (fwSecVersion s), runningHash s, s.keys.userHash.getD (zeroBytes 48),
   le 4 (if on then attestKeyId s else 0), le 4 (if on then s.keys.importGen else 0),
   orZero on 96 (Config.publicKey 0 (attestKey s 0 s.keys.attestGen)),
   orZero on 32 (Config.publicKey 1 (attestKey s 1 s.keys.attestGen)),
   orZero on 96 (Config.publicKey 0 (importKey s)), orZero on 96 (Config.publicKey 0 (stackDh s)),
   le 1 n, le 7 0, (tamperHistory s).flatMap tamperBytes].flatten

/-- R347. -/
def attestReport (s : State) (j : AttestJob) : Bytes :=
  let body := attestBody s j
  let sig := Config.sign j.sigAlg (identityKey j.sigAlg) body
  body ++ sig.take 96 ++ zeroBytes (96 - sig.length)

def execAttestation (r : Req) (nonce : Bytes) (sigAlg : Nat) (s : State) : Out :=
  runAccepted 0x0804 33 r (fun q s => do
    need (decide (sigAlg ≤ 1)) eRange
    pure (s.modKeys fun k =>
      { k with attests := k.attests ++
          [{ nonce := nonce.take 32 ++ zeroBytes (32 - nonce.length), sigAlg := sigAlg, source := r.src,
             seq := q }] })) s

def execAttestationReady (s : State) : Out :=
  match s.keys.attests with
  | [] => .next s
  | j :: rest =>
    let o := attestReport s j
    let s := dpWrite attestArea o (s.modKeys fun k => { k with attests := rest })
    .next (completeCmd 0x0804 j.seq stOk j.source (raise 0x0808 o.length 0 s))

def execIdentityRead (r : Req) (s : State) : Out :=
  runRead 0x0805 (r.len = 0) r (fun _ => .ok (deviceIdBytes ++
    Config.publicKey 0 (identityKey 0) ++ Config.publicKey 1 (identityKey 1))) s

/-! ### Rotation of ladder keys (R350) -/

def execAttestRotate (r : Req) (s : State) : Out :=
  runSimple 0x0806 0 r (fun s => do
    need (decide (s.keys.life ≠ 3) && ladderReady s && s.keys.change.isNone) eState
    let old := attestKeyId s
    let s := s.modKeys fun k => { k with attestGen := (k.attestGen + 1) % 2 ^ 32 }
    pure (raise 0x0807 old (attestKeyId s) s)) s

def execImportRotate (r : Req) (s : State) : Out :=
  runSimple 0x0807 0 r (fun s => do
    need (serviceState s) eState
    pure (s.modKeys fun k => { k with importGen := (k.importGen + 1) % 2 ^ 32 })) s

/-! ### SA keys (R349, R364) -/

/-- TYPE of an SA key by its algorithm. -/
def saKeyType (alg : Nat) : Nat := if alg = 0 then 2 else 3

/-- The wrapping key of a blob. -/
def wrapKey (z ephemeral : Bytes) : Bytes :=
  Config.kdf z "ZNR7300/WRAP" (deviceIdBytes ++ ephemeral) 256

/-- The key of the import blob: E_KEY where it does not open. -/
def importedKey (s : State) : Except Nat Bytes :=
  let b := dpRead s blobArea 145
  if ofLe (b.take 4) ≠ 0x31494B5A ∨ ofLe ((b.drop 4).take 4) ≠ s.keys.importGen then .error eKey
  else match Config.ecdh (importKey s) ((b.drop 8).take 97) with
    | none => .error eKey
    | some z => match Config.keyUnwrap (wrapKey z ((b.drop 8).take 97)) (b.drop 105) with
      | none => .error eKey
      | some k => .ok k

/-- An SA key begins to be written into a free slot; the command is answered at the commit. -/
def takeSaKey (r : Req) (sa which alg keyId : Nat) (derived : Bool) (k : Bytes) (s : State) :
    State × Ans :=
  match freeSlot s with
  | none => (s, .err eNoSpace)
  | some n =>
    (beginWrite { slot := n, keyType := saKeyType alg, material := k,
                  use := .saKey sa which alg keyId derived, source := some r.src } s, .hold)

def execKeyImport (r : Req) (sa which algorithm keyId : Nat) (s : State) : Out :=
  runCommand 0x0808 (r.len = 8) r (fun _ s =>
    if 2048 ≤ sa ∨ 1 < which ∨ 1 < algorithm ∨ algorithm ≠ (saOrNone s sa).algorithm then (s, .err eRange)
    else if !serviceState s then (s, .err eState)
    else match importedKey s with
      | .error e => (s, .err e)
      | .ok k => takeSaKey r sa which algorithm keyId false k s) s

def execSaKeyDerive (r : Req) (sa which keyId : Nat) (context : Bytes) (s : State) : Out :=
  runCommand 0x0809 (r.len = 40) r (fun _ s =>
    if 2048 ≤ sa ∨ 1 < which then (s, .err eRange)
    else if !serviceState s then (s, .err eState)
    else takeSaKey r sa which (saOrNone s sa).algorithm keyId true
      (saKeyOf s sa (context.take 32 ++ zeroBytes (32 - context.length))) s) s

/-- R364: the CURRENT key of an SA, of source DERIVED, wrapped to a recipient. -/
def execSaKeyExport (r : Req) (sa : Nat) (s : State) : Out :=
  runSimple 0x080A 2 r (fun s => do
    need (decide (sa < 2048)) eRange
    let a := saOrNone s sa
    need (serviceState s && a.derived) eState
    match slotOf s a.current.handle with
    | none => .error eKey
    | some n =>
      need (rootDrawable s) eHw
      let (e, s) := freshBytes 48 s
      match Config.ecdh e (dpRead s blobArea 97) with
      | none => .error eKey
      | some z =>
        let pub := le 1 4 ++ Config.publicKey 0 e
        pure (dpWrite blobArea (le 4 0x31494B5A ++ le 4 s.keys.importGen ++ pub ++
          Config.keyWrap (wrapKey z pub) ((material (slotAt s n)).take 32)) s)) s

/-! ### Sealed storage (R365) -/

/-- Associated data of a sealed blob. -/
def sealData (s : State) (label : Bytes) : Bytes :=
  deviceIdBytes ++ le 1 s.keys.life.val ++ be 4 s.keys.rootEpoch ++ label

/-- Seal and unseal run where a root is live, RETIRED apart. -/
def maySeal (s : State) : Bool := decide (s.keys.life ≠ 3) && ladderReady s && s.keys.change.isNone

def execSeal (r : Req) (length : Nat) (label : Bytes) (s : State) : Out :=
  runCommand 0x080B (r.len = 24) r (fun _ s =>
    if 4096 < length then (s, .err eRange)
    else if !maySeal s then (s, .err eState)
    else
      let l := label.take 16 ++ zeroBytes (16 - label.length)
      let o := l ++ Config.sivSeal (sealKey s) [sealData s l] [] (dpRead s sealIn length)
      (dpWrite sealOut o s, .ok (le 2 o.length))) s

def execUnseal (r : Req) (length : Nat) (s : State) : Out :=
  runCommand 0x080C (r.len = 2) r (fun _ s =>
    if 4128 < length then (s, .err eRange)
    else if !maySeal s then (s, .err eState)
    else
      let b := dpRead s sealIn length
      if length < 32 then (s, .err eKey)
      else match Config.sivOpen (sealKey s) [sealData s (b.take 16)] [] (b.drop 16) with
        | none => (s, .err eKey)
        | some p => (dpWrite sealOut p s, .ok (le 2 p.length))) s

/-! ### Key status (R358) -/

/-- A descriptor: the commit word, ALLOC and the permitted classes. -/
def descriptor (s : State) (n : Nat) : Bytes :=
  let k := slotAt s n
  if n < 2 ∨ (n < 32 ∧ s.keys.ladder) then
    (List.range 2).map (Config.ladderByte n) ++ le 1 1 ++
    le 1 ((Config.ladderByte n 3).toNat % 2) ++ (List.range 12).map fun i => Config.ladderByte n (4 + i)
  else
    le 1 k.keyType ++ le 1 k.domain ++ le 1 k.state ++ le 1 (flag k.activeB 0 + flag k.persist 1) ++
    le 4 k.gen ++ le 4 k.alloc ++ le 4 k.classes

def execKeyStatus (r : Req) (first count : Nat) (s : State) : Out :=
  runRead 0x0810 (r.len = 4) r (fun s =>
    if within 1 1024 count && decide (first + count ≤ 4096) then
      .ok ((List.range count).flatMap fun i => descriptor s (first + i))
    else .error eRange) s

/-! ### Random numbers (R367 to R370) -/

def execEntropySample (r : Req) (count : Nat) (s : State) : Out :=
  runAccepted 0x080D 4 r (fun q s => do
    need (within 1 1000000 count) eRange
    need (decide (s.keys.life.val < 2)) eState
    pure (s.modKeys fun k => { k with entropyJobs := k.entropyJobs ++ [(count, r.src, q)] })) s

/-- One bit a sample; bits past the last sample are 0. -/
def execEntropySampleComplete (samples : Bytes) (s : State) : Out :=
  match s.keys.entropyJobs with
  | [] => .next s
  | (n, src, q) :: rest =>
    let len := (n + 7) / 8
    let o := le len (ofLe (samples.take len) % 2 ^ n)
    .next (completeCmd 0x080D q stOk src
      (dpWrite entropyArea o (s.modKeys fun k => { k with entropyJobs := rest })))

def execDrbgReseed (s : State) : Out :=
  if s.keys.drbgReady ∧ !s.keys.entropyFail then .next (s.modKeys fun k => { k with drbgCount := 0 }) else .next s

/-- R369: the third failure within 1 s latches ENTROPY_FAIL; a rotation that waits for a key it cannot
draw ends. -/
def execHealthTestFailure (adaptive : Bool) (s : State) : Out :=
  if s.power.inReset then .next s
  else
    let t := s.clock.ticks.toNat
    let l := t :: s.keys.failTicks.filter fun x => decide (t - x < 10 ^ 9)
    let s := raise 0x0805 (if adaptive then 1 else 0) 0 (s.modKeys fun k => { k with failTicks := l })
    if l.length < 3 ∨ s.keys.entropyFail then .next s
    else
      let s := raise 0x0806 0 0 (s.modKeys fun k => { k with entropyFail := true })
      if s.net.nts.rotation.asked ≠ [] ∧ !hasPending s then .next (endRotateNow eHw s) else .next s

/-! ### Key writes (R360, R363) -/

/-- What the commit of a write brings about. -/
def keyWritten (w : KeyWrite) (s : State) : State :=
  match w.use with
  | .saKey sa which _ keyId derived =>
    let h := handleOf s w.slot
    let s := replaceKey sa which ⟨keyId, h⟩ derived s
    match w.source with
    | some src => finish src stOk (le 4 h) s
    | none => s
  | .cookie g => genWritten g s
  | .stack q => if q.val = 0 then stackKeyWritten s else pairKeyWritten q s
  | .replicated k _ seq => replicatedWritten k seq s

def takeWrite (slot : Nat) : List KeyWrite → Option (KeyWrite × List KeyWrite)
  | [] => none
  | w :: ws => if w.slot = slot then some (w, ws) else (takeWrite slot ws).map fun x => (x.1, w :: x.2)

/-- R360: the first write of a slot commits. A full bank begins a compaction, for which it waits. -/
def execKeyWriteCommit (slot : Nat) (s : State) : Out :=
  match takeWrite slot s.keys.writes with
  | none => .next s
  | some (w, rest) =>
    if !s.host.supervisor ∨ s.keys.compacting ∨ !ladderReady s then .next s
    else if persistent slot ∧ bankSize ≤ s.keys.position then
      .next (s.modKeys fun k => { k with compacting := true })
    else
      .next (keyWritten w (commitSlot w.slot w.keyType w.material (s.modKeys fun k => { k with writes := rest })))

/-- Live records by their journal word, numbered anew in the other bank. -/
def compacted (k : Keys) : List FlashRecord :=
  let live := k.flash.filter fun f =>
    !f.dead && (assoc k.journal f.slot).any fun j => j.valid && decide (j.record = f.number) && decide (f.bank = k.bank)
  live.zipIdx.map fun (f, i) => { f with bank := !k.bank, number := i }

def execCompactionComplete (s : State) : Out :=
  if !s.keys.compacting then .next s
  else .next (s.modKeys fun k =>
    let fs := compacted k
    let jw := fun (x : Nat × JournalWord) => match fs.find? fun f => decide (f.slot = x.1) with
      | some f => (x.1, { x.2 with record := f.number })
      | none => x
    { k with flash := fs, journal := k.journal.map jw, bank := !k.bank, position := fs.length,
             compacting := false })

end Sys2Proof.Machine
end

