-- ==== Sys2Proof/Machine/Wear.lean ====
section
/-! DEFINITION. Counters, wear and calibration (17; 15 R429). -/

namespace Sys2Proof.Machine

/-! ### Per-event counters (17 R462, R463, R466) -/

/-- The counter of an area, instance and index; none where the number names no counter. Areas 1, 2, 3, 8,
9 and 12 have no counter in their status responses. The four counters of a queue follow those of
port-status in area 5, and the 13 of 16 R461 are those of area 11 (DEDUCED). -/
def counterAt (s : State) (area inst index : Nat) : Option Nat :=
  match area with
  | 4 => match index with
    | 0 => (asFin 16 inst).map fun c => s.synth.ckouts[c].omitted
    | 1 => (asFin 8 inst).map fun e => s.synth.evouts[e].pulses
    | _ => none
  | 5 =>
    if index < 18 then (asFin 16 inst).bind fun m => s.net.macs[m].counters.toList[index]?
    else if index < 22 then (asFin 512 inst).bind fun n =>
      (asFin 16 (n.val / 32)).bind fun m => (asFin 32 (n.val % 32)).bind fun q =>
        let x := s.net.macs[m].queues[q]
        [x.framesSent, x.bytesSent, x.pausedTime, x.gateOversize][index - 18]?
    else (asFin 16 inst).bind fun m =>
      let c := s.net.macs[m]
      [c.recommit, c.lateDrop, c.gateOverride, c.displaced][index - 22]?
  | 6 => (asFin 64 inst).bind fun i => (ntsCounters s i)[index]?
  | 7 => (asFin 16 inst).bind fun i => (ptpCounters s i)[index]?
  | 10 => (asFin 24 inst).bind fun c =>
    let n := s.nib[c]
    [n.deadTime.toNat, n.overflow.toNat, n.orphan.toNat, n.streamDrop.toNat][index]?
  | 11 => (asFin 2 inst).bind fun l =>
    let c := s.stack.links[l].counters
    [c.fcs, c.format, c.auth, c.replay, c.termStale, c.hops, c.pairFail, c.replTimeout, c.replReject,
     c.rttOutlier, c.heartbeatLost, c.primaryConflict, c.sessionFull][index]?
  | 13 => (asFin 32 inst).bind fun n =>
    let f := s.wear.filters[n]
    if index = 0 then some (f.count + (if f.ovf then 2 ^ 48 else 0)) else none
  | _ => none

/-- The counter that a counter number names. -/
def counterNumber (s : State) (n : Nat) : Option Nat :=
  counterAt s (n / 2 ^ 24) (n / 256 % 65536) (n % 256)

/-- R466: a user task asks for a filtered counter that it may not read. -/
def hiddenCounter (s : State) (n : Nat) : Bool :=
  decide (n / 2 ^ 24 = 13) && (counterNumber s n).isSome &&
  match asFin 32 (n / 256 % 65536) with
  | some k => decide (s.wear.filters[k].cfg.userRead = 0)
  | none => false

def isTask : Source → Bool
  | .task _ => true
  | _ => false

def execCounterRead (r : Req) (first count : Nat) (s : State) : Out :=
  runCommand 0x0C04 (r.len = 6) r (fun _ s =>
    if (counterNumber s first).isNone then (s, .err eRange)
    else if isTask r.src && (List.range count).any (fun k => hiddenCounter s (first + k)) then
      (s.modHost fun h => { h with refused := h.refused + 1 }, .err ePriv)
    else (s, .ok ((List.range count).flatMap fun k =>
      le 8 ((counterNumber s (first + k)).getD 0)))) s

/-! ### Filtered counters (17 R464, R465, R467, R468) -/

def filterTable : Table FilterCfg where
  flds := [one 1, one 1, one 1, one 4, many 2 4, one 1, one 1, one 1, one 6]
  rows c := [[c.enable], [c.event], [c.priv], [c.master], [c.addrLo, c.addrHi], [c.cls], [c.ovfIrq],
    [c.userRead], [c.preset]]
  ofRows v :=
    { enable := val v 0, event := val v 1, priv := val v 2, master := val v 3, addrLo := val v 4,
      addrHi := (row v 4).getD 1 0, cls := val v 5, ovfIrq := val v 6, userRead := val v 7,
      preset := val v 8 }

def filterValid (c : FilterCfg) : Bool :=
  decide (c.enable ≤ 1) && within 1 13 c.event && within 1 15 c.priv && within 1 (2 ^ 18 - 1) c.master &&
  decide (c.addrLo ≤ c.addrHi) && within 1 63 c.cls && decide (c.ovfIrq ≤ 2) &&
  (decide (c.ovfIrq ≠ 2) || decide (c.userRead = 1)) && decide (c.userRead ≤ 1) &&
  (decide (c.userRead = 0) || decide (c.priv = 2))

/-- R464: an accepted command sets the count to PRESET and clears OVF. -/
def putFilter (n : Fin 32) (c : FilterCfg) (s : State) : State :=
  let f := fun (x : Filtered) => { x with cfg := c, count := c.preset, ovf := false }
  s.modWear fun w => { w with filters := upd w.filters n f }

def execFilterConfigure (r : Req) (g : GReq) (s : State) : Out :=
  runConfig 0x0C05 filterTable.flds r g
    (fun s => (asFin 32 g.index).map fun n => filterTable.rows s.wear.filters[n].cfg)
    (fun rows s => do
      let c := filterTable.ofRows rows
      need (filterValid c) eRange
      match asFin 32 g.index with
      | some n => pure (putFilter n c s)
      | none => throw eRange) s

def execFilterConfigureReadBack (r : Req) (index : Nat) (s : State) : Out :=
  runReadBack 0x0C85 filterTable.flds r index
    (fun s => (asFin 32 index).map fun n => filterTable.rows s.wear.filters[n].cfg) s

/-- The events that the model counts itself; a wrap of one of them is no row of its own. -/
def modelCounted : List Nat := [0x03, 0x04, 0x0A, 0x0C, 0x0D]

/-- FILTERED_COUNTER_WRAP (R467) of a counter whose event the fabric counts. -/
def execFilteredCounterWrap (n : Fin 32) (s : State) : Out :=
  let c := s.wear.filters[n].cfg
  if c.enable = 1 ∧ c.event ∉ modelCounted then .next (wrapCounter n s) else .next s

/-- COUNTER_OVERFLOW_SIGNAL (R467; 14 R407): the owning task's handler is called, or the signal is
discarded. `resume` is the code offset of the task's next instruction. -/
def execCounterOverflowSignal (n : Fin 32) (resume : Nat) (s : State) : Out :=
  let f := s.wear.filters[n]
  if !f.owed then .next s
  else
    let clear := fun (x : Filtered) => { x with owed := false }
    let s := s.modWear fun w => { w with filters := upd w.filters n clear }
    match owningTask s with
    | none => .next s
    | some t =>
      if s.host.tasks[t].handler = 0 then
        .next (s.modHost fun h => { h with signalsDropped := h.signalsDropped + 1 })
      else
        .next (s.modTask t fun k => { k with frames :=
          { counter := 0x0D000000 + n.val * 256, count := f.count, resume := resume } :: k.frames })

/-! ### Wear (17 R469 to R472) -/

/-- The monitor of the calibration record for a unit (DESIGN CHOICE: the manual does not number them):
classes 1, 2, 3 and 5 in order. -/
def monitorOf (cls unit : Nat) : Option Nat :=
  match cls with
  | 1 => some unit
  | 2 => some (26 + unit)
  | 3 => some (35 + unit)
  | 5 => some (44 + unit)
  | _ => none

/-- The units with a monitor, by class and number. -/
def monitored : List (Nat × Nat) :=
  (List.range 26).map (fun u => (1, u)) ++ (List.range 9).map (fun u => (2, u)) ++
  (List.range 9).map (fun u => (3, u)) ++ (List.range 3).map (fun u => (5, u))

/-- P_base of a monitor for mode `m` at a temperature in 1/128 °C, as a fraction: the two stored values
that bracket it, interpolated (R469). -/
def paceBase (s : State) (monitor m : Nat) (t : Int) : Int × Nat :=
  let at_ := fun (k : Nat) => (calNat s (25464 + (12 * monitor + 4 * m + k) * 2) 2 : Int)
  let mix := fun (k lo hi : Nat) =>
    (at_ k * ((hi - lo : Nat) : Int) + (at_ (k + 1) - at_ k) * (t - lo), hi - lo)
  if t ≤ 25 * 128 then (at_ 0, 1)
  else if t < 60 * 128 then mix 0 (25 * 128) (60 * 128)
  else if t < 95 * 128 then mix 1 (60 * 128) (95 * 128)
  else if t < 105 * 128 then mix 2 (95 * 128) (105 * 128)
  else (at_ 3, 1)

/-- W of a unit; a free value where the quotient has no 16-bit code. -/
def wearRatio (p : Nat) (base : Int × Nat) (s : State) : Nat × State :=
  let w := rdiv (p * 4096 * base.2) base.1.toNat
  if 0 < base.1 ∧ w < 65536 then (w.toNat, s)
  else
    let (n, s) := freshNat s
    (n % 65536, s)

/-- A value of W reaches the counts of R470. -/
def countWear (p w : Nat) (u : WearUnit) : WearUnit :=
  let up := fun (pct n : Nat) => if pct * 4096 ≤ w * 100 then n + 1 else 0
  { u with w := w, pMean := p, n130 := up 130 u.n130, n150 := up 150 u.n150,
           warned := u.warned && decide (130 * 4096 ≤ w * 100) }

/-- The wear warning of a unit, once when 3,600 values stand and every 86,400 s from then on. -/
def warnUnit (cls unit : Nat) (s : State) : State :=
  match unitAt s cls unit with
  | none => s
  | some u =>
    let ago := u.warnedAgo + 1
    if 3600 ≤ u.n130 ∧ (!u.warned ∨ 86400 ≤ ago) then
      let s := modUnit cls unit (fun x => { x with warned := true, warnedAgo := 0 }) s
      wearEvent 0x0C02 cls unit 0xFF u.pMean
        (ledger 7 cls unit 0xFFFF (sparesLeft s cls) u.w 0 s)
    else modUnit cls unit (fun x => { x with warnedAgo := ago }) s

/-- Units at their wear limit that are in service, the higher W first and at equal W the lower number. -/
def insertWorn (x : Nat × Nat) : List (Nat × Nat) → List (Nat × Nat)
  | [] => [x]
  | y :: ys => if x.2 ≤ y.2 then y :: insertWorn x ys else x :: y :: ys

def wornOut (s : State) (cls : Nat) : List (Nat × Nat) :=
  ((monitored.filter fun x => decide (x.1 = cls)).filterMap fun x =>
    match unitAt s cls x.2 with
    | some u => if u.state = .service ∧ 3600 ≤ u.n150 then some (x.2, u.w) else none
    | none => none).foldl (fun l x => insertWorn x l) []

/-- WEAR_RATIO_UPDATE (R469, R470): the means of the monitored units over the second that has ended. -/
def execWearRatioUpdate (means : List Nat) (junctionMean : Int) (s : State) : Out :=
  if means.length ≠ monitored.length then .next s
  else
    let one := fun (x : (Nat × Nat) × Nat) (s : State) =>
      let (w, s) := wearRatio x.2 (paceBase s ((monitorOf x.1.1 x.1.2).getD 0) (match s.power.mode with
        | .sprint => 0
        | .balanced => 1
        | .quiet => 2) junctionMean) s
      modUnit x.1.1 x.1.2 (countWear x.2 w) s
    let s := if s.wear.modeTouched then s else forAll (monitored.zip means) one s
    let s := forAll monitored (fun x => warnUnit x.1 x.2) s
    let s := forAll [1, 2, 3, 5] (fun cls s =>
      forAll (wornOut s cls) (fun x => bringIn cls x.1 0 x.2) s) s
    .next (s.modWear fun w => { w with modeTouched := s.power.change.isSome })

/-- BIST_FAILURE (R470, R472). -/
def execBistFailure (cls unit : Nat) (s : State) : Out :=
  match unitAt s cls unit with
  | none => .next s
  | some u =>
    if u.state = .spare then
      let s := setUnit cls unit .unavailable s
      .next (ledger 6 cls unit 0xFFFF (sparesLeft s cls) 0 1 s)
    else .next (bringIn cls unit 1 0 s)

/-- Whether a worn engine still holds a transaction: a reservation that it sealed (01 R41). -/
def holdsWork (s : State) (cls unit : Nat) : Bool :=
  let req := (match cls with
    | 1 => 0
    | 2 => 32
    | _ => 48) + unit
  s.net.macs.toList.any fun m => m.calendar.any fun r => decide (r.requester = req)

/-- WORN_UNIT_RETIRED (R471). -/
def execWornUnitRetired (cls unit : Nat) (s : State) : Out :=
  match unitAt s cls unit with
  | some u =>
    if cls ≤ 3 ∧ u.state = .worn ∧ !holdsWork s cls unit then .next (setUnit cls unit .retired s)
    else .next s
  | none => .next s

/-- SCRIBE_CORE_TAKEOVER (R471): the tasks of a worn core move to the spare. -/
def execScribeCoreTakeover (core : Nat) (s : State) : Out :=
  match unitAt s 5 core with
  | none => .next s
  | some u =>
    if u.state ≠ .worn then .next s
    else match spareUnit s 5 with
      | some p =>
        let s := modUnit 5 p (fun x => { x with state := .service, spareOf := some core })
          (setUnit 5 core .retired s)
        .next (wearEvent 0x0C01 5 core p 0 (ledger 0 5 core p (sparesLeft s 5) u.w u.cause s))
      | none => .next (bringIn 5 core u.cause u.w (setUnit 5 core .service s))

/-! ### SRAM errors and repairs (17 R473) -/

/-- Seconds since the time counter began, for the spans of R470 and R473. -/
def upSeconds (s : State) : Nat := s.clock.ticks.toNat / 10 ^ 9

def arrayOf (s : State) (a : Fin 256) : SubArray := (assoc s.wear.arrays a.val).getD {}

def modArray (a : Fin 256) (f : SubArray → SubArray) (s : State) : State :=
  s.modWear fun w => { w with arrays := assocSet w.arrays a.val (f ((assoc w.arrays a.val).getD {})) }

/-- Spare rows or columns of a sub-array that are left. -/
def sparesOf (x : SubArray) (column : Bool) : Nat :=
  (if column then 4 else 8) - (x.repairs.filter fun r => decide (r.column = column)).length

/-- A repair begins where a spare is left and none of that line is running. -/
def beginRepair (a : Fin 256) (column : Bool) (line cause : Nat) (s : State) : State :=
  let x := arrayOf s a
  let busy := x.repairs.any fun r => r.running && decide (r.column = column) && decide (r.line = line)
  if busy || decide (sparesOf x column = 0) then s
  else
    let spare := (x.repairs.filter fun r => decide (r.column = column)).length
    let job : SramRepair := { column := column, line := line, spare := spare, cause := cause, running := true }
    let keep := fun (e : Nat × Nat × Nat) => decide ((if column then e.2.1 else e.1) ≠ line)
    modArray a (fun x => { x with repairs := x.repairs ++ [job], corrected := x.corrected.filter keep }) s

/-- The distinct rows of a column that had a corrected error. -/
def rowsOf (x : SubArray) (column : Nat) : Nat :=
  ((x.corrected.filter fun e => decide (e.2.1 = column)).map (·.1)).eraseDups.length

/-- A corrected error of a sub-array. -/
def correctedError (a : Fin 256) (row column : Nat) (s : State) : State :=
  let t := upSeconds s
  let recent := fun (e : Nat × Nat × Nat) => decide (t < e.2.2 + 86400)
  let s := modArray a (fun x => { x with corrected := (row, column, t) :: x.corrected.filter recent }) s
  let x := arrayOf s a
  if 4 ≤ (x.corrected.filter fun e => decide (e.1 = row)).length then beginRepair a false row 2 s
  else if 8 ≤ rowsOf x column then beginRepair a true column 2 s
  else s

/-- A corrected error in a unit's own state memory (R470). -/
def unitError (cls unit : Nat) (s : State) : State :=
  let t := upSeconds s
  let recent := fun (e : Nat) => decide (t < e + 3600)
  let s := modUnit cls unit (fun u => { u with ecc := t :: u.ecc.filter recent }) s
  match unitAt s cls unit with
  | some u => if 16 < u.ecc.length then bringIn cls unit 2 0 s else s
  | none => s

/-- One occurrence of event 0x03 or 0x04 (R465). A filtered counter that takes every master and the
whole sub-array counts it; which master met it and at which address is free, so any other counter
that could take it counts it or does not. -/
def countEcc (code : Nat) (a : Fin 256) (s : State) : State :=
  forAll ((fins 32).filter fun n =>
    decide (s.wear.filters[n].cfg.enable = 1) && decide (s.wear.filters[n].cfg.event = code)) (fun n s =>
      let c := s.wear.filters[n].cfg
      let lo := a.val * 262144
      if lo + 262143 < c.addrLo ∨ c.addrHi < lo then s
      else if c.master = 0x3FFFF ∧ c.addrLo ≤ lo ∧ lo + 262143 ≤ c.addrHi then countOne n s
      else
        let (b, s) := freshChoice s
        if b then countOne n s else s) s

/-- The transaction that an uncorrectable error hit is dropped and counted on its activity. -/
def dropVictim (v : Victim) (s : State) : State :=
  let nts := fun (s : State) => s.modNts fun n => { n with admissionDrop := (n.admissionDrop + 1) % 2 ^ 64 }
  let ptp := fun (s : State) => s.modPtp fun p => { p with admissionDrop := (p.admissionDrop + 1) % 2 ^ 64 }
  match v with
  | .ntsRequest k =>
    if k < s.net.nts.requests.length then
      nts (s.modNts fun n => { n with requests := n.requests.eraseIdx k })
    else s
  | .ptpRequest k =>
    if k < s.net.ptp.requests.length then
      ptp (s.modPtp fun p => { p with requests := p.requests.eraseIdx k })
    else s
  | .reservation id =>
    match (fins 16).findSome? fun m =>
        (s.net.macs[m].calendar.find? fun r => decide (r.id = id)).map fun r => (m, r) with
    | none => s
    | some (m, r) =>
      let (k, s) := freshNat s      -- the manual gives this drop no outcome code
      let s := dropReservation m r (2 + k % 7) s
      if isNts r.origin then nts s
      else if isHost r.origin then
        s.modNet fun n => { n with hostDrop := (n.hostDrop + 1) % 2 ^ 64 }
      else ptp s

/-- ECC_ERROR (R470, R473). `unit` is the unit whose own state memory it hit; a class that has no spares
stands for an error outside any spare-able unit. -/
def execEccError (subarray : Fin 256) (row column : Nat) (uncorrectable : Bool)
    (unit : Option (Nat × Nat)) (victim : Option Victim) (s : State) : Out :=
  let s := countEcc (if uncorrectable then 0x04 else 0x03) subarray s
  let s := match unit, uncorrectable with
    | none, false => correctedError subarray row column s
    | none, true => beginRepair subarray false row 3 s
    | some (c, u), false => unitError c u s
    | some (c, u), true => if (unitAt s c u).isSome then s else fatal s
  match victim with
  | some v => if uncorrectable then .next (dropVictim v s) else .next s
  | none => .next s

/-- SRAM_REPAIR_COMPLETE (R473): the map switches for the repair that began first. -/
def execSramRepairComplete (subarray : Fin 256) (s : State) : Out :=
  let x := arrayOf s subarray
  match x.repairs.find? (·.running) with
  | none => .next s
  | some r =>
    let done := fun (y : SramRepair) =>
      if y.column = r.column ∧ y.line = r.line ∧ y.spare = r.spare then { y with running := false } else y
    let s := modArray subarray (fun y => { y with repairs := y.repairs.map done }) s
    let cls := if r.column then 9 else 8
    let left := sparesOf x r.column
    .next (wearEvent 0x0C01 cls subarray.val r.spare 0
      (ledger (if r.column then 3 else 2) cls subarray.val r.spare left 0 r.cause s))

/-! ### The wear ledger (17 R475) -/

def ledgerBytes (e : LedgerEntry) : Bytes :=
  le 4 e.sequence ++ le 4 e.bootCount ++ le 8 e.seconds ++ le 1 e.kind ++ le 1 e.cls ++ le 2 e.unit ++
  le 2 e.spare ++ le 2 e.left ++ le 2 e.w ++ le 2 (toCode 16 e.temp) ++ le 1 e.cause ++ le 3 0

/-- COUNT entries of `size` octets from FIRST on; the octets of entries that are not held are free
(DESIGN CHOICE: the manual states none). -/
def readEntries (held : List Bytes) (size first count : Nat) (s : State) : Bytes × State :=
  let l := (held.drop first).take count
  let missing := count - l.length
  if missing = 0 then (l.flatten, s)
  else
    let (o, s) := freeOctets (size * missing) s
    (l.flatten ++ o, s)

def execWearLedgerRead (r : Req) (first count : Nat) (s : State) : Out :=
  runCommand 0x0C06 (r.len = 4) r (fun _ s =>
    if within 1 511 count then
      let (b, s) := readEntries (s.wear.ledger.map ledgerBytes) 32 first count s
      (s, .ok b)
    else (s, .err eRange)) s

/-! ### The calibration record (17 R476 to R479) -/

/-- Start and size of the sections by Id. -/
def calSections : List (Nat × Nat) :=
  [(64, 21504), (21568, 400), (21968, 192), (22160, 64), (22224, 512), (22736, 744), (23480, 1536),
   (25016, 128), (25144, 16), (25160, 96), (25256, 96), (25352, 80), (25432, 32), (25464, 2688)]

/-- The bits of OVERWRITTEN for a write of `n` bytes at `o`. -/
def touched (o n : Nat) : Nat :=
  ((List.range 14).filter fun k => match calSections[k]? with
    | some (a, l) => decide (o < a + l) && decide (a < o + n) && decide (n ≠ 0)
    | none => false).foldl (fun m k => m + 2 ^ k) 0

def execCalibrationRead (r : Req) (offset length : Nat) (s : State) : Out :=
  runRead 0x0C01 (r.len = 8) r (fun s =>
    if length ≤ 16376 ∧ offset + length ≤ 32752 then
      .ok (le 4 s.wear.calGeneration ++ le 4 0 ++ s.wear.calRecord.readBytes calByte offset length)
    else .error eRange) s

/-- R478: the data and the OVERWRITTEN bits; a new PACE_BASE starts the counts of R470 again. -/
def writeCal (offset : Nat) (data : Bytes) (s : State) : State :=
  let m := touched offset data.length
  let old := calNat s 32 4
  let s := s.modWear fun w =>
    { w with calRecord := (w.calRecord.writeBytes calByte offset data).writeBytes calByte 32 (le 4 (old ||| m)),
             calGeneration := (w.calGeneration + 1) % 2 ^ 32 }
  let clear := fun (u : WearUnit) => { u with n130 := 0, n150 := 0, warned := false }
  let s := if bitOf m 13 then forAll monitored (fun x => modUnit x.1 x.2 clear) s else s
  raise 0x0C03 s.wear.calGeneration (offset + data.length * 2 ^ 32) s

def execCalibrationWrite (r : Req) (generation offset : Nat) (data : Bytes) (s : State) : Out :=
  runCommand 0x0C02 (r.len = 16 + data.length) r (fun _ s =>
    if offset < 64 ∨ 32752 < offset + data.length ∨ 16368 < data.length then (s, .err eRange)
    else if generation ≠ s.wear.calGeneration then (s, .err eState)
    else
      let s := writeCal offset data s
      (s, .ok (le 4 s.wear.calGeneration))) s

def execCalibrationDigest (r : Req) (s : State) : Out :=
  runRead 0x0C03 (r.len = 0) r (fun s =>
    .ok (le 4 s.wear.calGeneration ++ le 4 0 ++
      (Config.sha384 (s.wear.calRecord.readBytes calByte 0 32752)).take 48)) s

end Sys2Proof.Machine
end

