-- ==== Sys2Proof/Machine/Queues.lean ====
section
/-! DEFINITION. Pan queues: the octets of an item, its commit, and its delivery (14 R398 to R402, R380, R381;
payloads of 14 R399, 08 R245, 07 R229, 05 R170 and 03 R115; the persistent log of 15 R429). -/

namespace Sys2Proof.Machine

/-! ### Payloads -/

def eventBytes (e : EventItem) : Bytes :=
  le 2 e.code ++ le 1 e.epoch.toNat ++ le 1 e.flags ++ le 4 e.argA ++ le 8 e.argB ++ ztBytes e.time

def nibBodyBytes : NibBody → Bytes
  | .stamp t => ztBytes t
  | .latch t => ztBytes t
  | .interval start iv c src =>
    ztBytes start ++ le 8 (toCode 64 iv) ++ le 1 c ++ le 1 src ++ le 6 0
  | .frequency first f e n miss gate =>
    ztBytes first ++ le 8 (toCode 64 f) ++ le 8 e ++ le 4 n ++ le 4 miss ++ le 4 gate ++ le 4 0

def nibType : NibBody → Nat
  | .stamp _ => 0
  | .interval .. => 1
  | .frequency .. => 2
  | .latch _ => 3

def nibBytes (i : NibItem) : Bytes :=
  le 1 (nibType i.body) ++ le 1 i.channel ++ le 1 i.source ++ le 1 i.epoch.toNat ++ le 2 i.stampFlags ++
  le 2 i.nibFlags ++ le 8 i.ordinal ++ nibBodyBytes i.body

def egressBytes (r : EgressReport) : Bytes :=
  ztBytes r.stamp ++ ztBytes r.committed ++ le 8 r.tag ++ le 2 r.flags ++ le 2 r.length ++ le 1 r.mac ++
  le 1 r.outcome ++ le 1 r.epoch.toNat ++ le 1 0

def gnssBytes (g : GnssItem) : Bytes :=
  ztBytes g.epoch ++ le 8 (optCode g.offset) ++ le 8 g.uncertainty ++ le 8 (optCode g.frequency) ++
  le 1 g.port ++ le 1 g.fixMode ++ le 1 g.satsUsed ++ le 1 g.satsTracked ++ le 2 g.tdop ++ le 2 g.cn0 ++
  le 4 g.failed ++ le 4 g.unavailable ++ le 2 g.flags ++ le 6 0

def payloadBytes : QPayload → Bytes
  | .event e => eventBytes e
  | .nib i => nibBytes i
  | .egress r => egressBytes r
  | .margin r => match r.signature with
    | some g => recordBytes r true ++ g.take 96 ++ le (96 - g.length) 0
    | none => recordBytes r false
  | .gnss g => gnssBytes g

/-- The 8 B header of an item (R399). -/
def headerBytes (q : Nat) (i : QItem) : Bytes :=
  le 4 i.sequence ++ le 2 (payloadBytes i.payload).length ++ le 1 q ++ le 1 (flag i.lossBefore 0)

def itemBytes (q : Nat) (i : QItem) : Bytes := headerBytes q i ++ payloadBytes i.payload

/-! ### User tasks that wait for an event (14 R406) -/

/-- The event code that an item carries. -/
def codeOf (i : QItem) : Nat := match i.payload with
  | .event e => e.code
  | _ => 0

/-- An item is of a selected area. -/
def inAreas (mask : Nat) (i : QItem) : Bool :=
  within 1 12 (codeOf i / 256) && bitOf mask (codeOf i / 256)

/-- Items from a task's own position on. -/
def fromPosition (s : State) (t : Fin 4) : List QItem :=
  s.host.eventLog.filter fun i => decide ((i.sequence + 2 ^ 32 - s.host.tasks[t].position) % 2 ^ 32 < 2 ^ 31)

/-- Items were overwritten before the task read them. -/
def wasSkipped (s : State) (t : Fin 4) : Bool :=
  match fromPosition s t with
  | i :: _ => decide (i.sequence ≠ s.host.tasks[t].position)
  | [] => false

/-- The next selected item is written to the call's block and the call returns; with none the task's
position moves past what it did not select. -/
def serveEvent (t : Fin 4) (block mask : Nat) (s : State) : Option State :=
  let skipped := s.host.tasks[t].skipped || wasSkipped s t
  match (fromPosition s t).find? (inAreas mask) with
  | some i =>
    let o := itemBytes 0 { i with lossBefore := skipped }
    let s := taskAnswer t stOk (block + 8) o (dpWrite (0x04000000 + block + 8) o s)
    some (s.modTask t fun k => { k with position := (i.sequence + 1) % 2 ^ 32, skipped := false })
  | none => none

/-- A task that waits in EVENT_WAIT takes what it waits for. -/
def wakeTask (t : Fin 4) (s : State) : State :=
  match s.host.tasks[t].state with
  | .waitEvent block mask => (serveEvent t block mask s).getD s
  | _ => s

/-! ### Commit (R398, R400) -/

/-- Items that a pan queue holds on chip. -/
def queueItems (q : Fin 5) : Nat :=
  match q.val with
  | 0 => 65536
  | 1 => 65536
  | 2 => 32768
  | 3 => 1024
  | _ => 2048

/-- The INT_CAUSE bit of a queue (R380). -/
def queueCause (q : Fin 5) : Nat :=
  match q.val with
  | 0 => 2
  | 1 => 5
  | 2 => 6
  | 3 => 4
  | _ => 7

/-- Items pending: on chip, and in DMA delivery those that the host has not freed. -/
def pendingItems (k : PanQueue) : Nat :=
  k.items.length + (if k.dma then (k.producer + 2 ^ 32 - k.consumer) % 2 ^ 32 else 0)

/-- The item is placed: the oldest makes room in a full queue, and is counted lost. -/
def placeItem (q : Fin 5) (p : QPayload) (k : PanQueue) : PanQueue :=
  let item : QItem := { sequence := k.sequence, payload := p }
  let full := decide (queueItems q ≤ k.items.length)
  { k with items := (if full then k.items.drop 1 else k.items) ++ [item],
           sequence := (k.sequence + 1) % 2 ^ 32,
           lost := if full then (k.lost + 1) % 2 ^ 64 else k.lost,
           lossNext := k.lossNext || full }

/-- The latest `n` of a list with one more. -/
def keepLast {α : Type} (n : Nat) (l : List α) (a : α) : List α :=
  (if l.length < n then l else l.drop 1) ++ [a]

/-- What a commit brings about beside the queue: the persistent log and the waiting tasks of an event, and
the injection slot that an egress report frees (R393, R398, R406). -/
def afterCommit (p : QPayload) (seq : Nat) (s : State) : State :=
  match p with
  | .event e =>
    let s := if e.code ∈ persistentCodes then
        s.modHost fun h => { h with persistent := keepLast 4096 h.persistent e } else s
    if s.host.image.isSome then
      let s := s.modHost fun h =>
        { h with eventLog := keepLast 65536 h.eventLog { sequence := seq, payload := p } }
      forAll (fins 4) wakeTask s
    else s
  | .egress r => s.modHost fun h => { h with dp :=
      { h.dp with injectBusy := h.dp.injectBusy &&& ~~~ (BitVec.ofNat 64 (2 ^ r.slot)) } }
  | _ => s

/-- PAN_QUEUE_ITEM_COMMIT (R400): the last word of the item that has been built longest commits. -/
def execPanQueueItemCommit (q : Fin 5) (s : State) : Out :=
  let k := s.host.queues[q]
  match k.building with
  | [] => .next s
  | p :: rest =>
    let s := s.modQueue q fun k => placeItem q p { k with building := rest }
    let s := afterCommit p k.sequence s
    if s.host.queues[q].threshold ≤ pendingItems s.host.queues[q] then .next (setCause (queueCause q) s)
    else .next s

/-! ### Delivery (R401, R402) -/

/-- The head item as it is delivered: LOSS_BEFORE of the overwrites since the previous delivery. -/
def headItem (k : PanQueue) : Option (QItem × PanQueue) :=
  match k.items with
  | [] => none
  | i :: rest => some ({ i with lossBefore := k.lossNext }, { k with items := rest, lossNext := false })

/-- Slots of the host buffer; none for a SIZE_LOG2 outside 10 to 15. -/
def bufferSlots (k : PanQueue) : Nat := if within 10 15 k.sizeLog2 then 2 ^ k.sizeLog2 else 0

/-- PAN_QUEUE_DELIVERY (R401): the head item goes to the next slot of the host buffer, and waits while the
buffer is full. -/
def execPanQueueDelivery (q : Fin 5) (s : State) : Out :=
  let k := s.host.queues[q]
  if !k.dma ∨ !hostReachable s ∨ bufferSlots k ≤ (k.producer + 2 ^ 32 - k.consumer) % 2 ^ 32 then .next s
  else match headItem k with
    | none => .next s
    | some (i, k) =>
      .next (s.modQueue q fun _ =>
        { k with producer := (k.producer + 1) % 2 ^ 32,
                 lastSlot := some (k.producer % bufferSlots k, i) })

/-- A refused access through the data port or a window. -/
def dpError (s : State) : State := s.modHost fun h => { h with dp := { h.dp with error := true } }

/-- The words that a read returned. -/
def answerRead (ws : List Nat) (s : State) : State := s.modHost fun h => { h with readData := ws }

/-- The header of the item in a read window. -/
def windowHeader (q : Fin 5) (k : PanQueue) : Nat :=
  match k.window with
  | some i => ofLe (headerBytes q.val i)
  | none => 0

/-- PAN_QUEUE_POP (R401, R402). -/
def popQueue (q : Fin 5) (s : State) : State :=
  let k := s.host.queues[q]
  if k.dma then answerRead [0] (dpError s)
  else match headItem k with
    | none =>
      answerRead [windowHeader q k] (s.modQueue q fun k => { k with underrun := true })
    | some (i, k) =>
      let s := s.modQueue q fun _ => { k with window := some i }
      answerRead [ofLe (headerBytes q.val i)] s

def execPanQueuePop (q : Fin 5) (s : State) : Out :=
  if hostReachable s then .next (popQueue q s) else .next s

/-- PQ_FLUSH (R402): the items on chip are discarded. -/
def flushQueue (q : Fin 5) (s : State) : State := s.modQueue q fun k => { k with items := [] }

def execPqFlush (q : Fin 5) (s : State) : Out :=
  if hostReachable s then .next (flushQueue q s) else .next s

/-- A count of freed slots between the present one and PRODUCER (R402). -/
def consumerOk (k : PanQueue) (v : Nat) : Bool :=
  decide ((v + 2 ^ 32 - k.consumer) % 2 ^ 32 ≤ (k.producer + 2 ^ 32 - k.consumer) % 2 ^ 32)

def writeConsumer (q : Fin 5) (value : Nat) (s : State) : State :=
  s.modQueue q fun k =>
    let v := value % 2 ^ 32
    if consumerOk k v then { k with consumer := v } else { k with badConsumer := true }

/-- PQ_CONSUMER_WRITE (R402). -/
def execPqConsumerWrite (q : Fin 5) (value : Nat) (s : State) : Out :=
  if hostReachable s then .next (writeConsumer q value s) else .next s

/-! ### The persistent log (15 R429) -/

def execPersistentLog (r : Req) (first count : Nat) (s : State) : Out :=
  runCommand 0x0C07 (r.len = 4) r (fun _ s =>
    if within 1 511 count then
      let (b, s) := readEntries (s.host.persistent.map eventBytes) 32 first count s
      (s, .ok b)
    else (s, .err eRange)) s

end Sys2Proof.Machine
end

