-- ==== Sys2Proof/Machine/Tasks.lean ====
section
/-! DEFINITION. The Scribe user partition: loading, the system calls and how a task stops (14 R403 to R407;
15 R414). -/

namespace Sys2Proof.Machine

/-- The user area in the data port (14 R378). -/
abbrev userArea : Nat := 0x04000000
abbrev userSize : Nat := 0x100000

/-! ### Loading (R403, R405) -/

def userNat (s : State) (a n : Nat) : Nat := ofLe (dpRead s (userArea + a) n)

/-- A task of the image runs. -/
def taskRuns (s : State) (t : Fin 4) : Bool :=
  match s.host.tasks[t].state with
  | .absent => false
  | .stopped _ => false
  | _ => true

def anyTask (s : State) : Bool := (fins 4).any (taskRuns s)

/-- Two ranges have a byte in common. -/
def overlap (a n b m : Nat) : Bool := decide (a < b + m) && decide (b < a + n)

/-- Stack sizes of the first `n` tasks of a header. -/
def stackSizes (s : State) (h n : Nat) : List Nat :=
  (List.range n).map fun i => userNat s (h + 32 + 8 * i + 4) 4

def entryPoints (s : State) (h n : Nat) : List Nat :=
  (List.range n).map fun i => userNat s (h + 32 + 8 * i) 4

/-- The image whose header stands at `h`; none where it breaks a rule of R405. The zero-filled memory and
the stacks follow the data where the data are the last part of the image, else the image. -/
def imageAt (s : State) (h length : Nat) : Option TaskImage :=
  let n := userNat s (h + 6) 1
  let total := userNat s (h + 8) 4
  let code := userNat s (h + 12) 4
  let codeLen := userNat s (h + 16) 4
  let data := userNat s (h + 20) 4
  let dataLen := userNat s (h + 24) 4
  let blank := userNat s (h + 28) 4
  let depths := stackSizes s h n
  let work := blank + depths.foldl (· + ·) 0
  let ok := decide (h + 64 ≤ userSize) && decide (userNat s h 4 = 0x3154555A) &&
    decide (userNat s (h + 4) 2 = 1) && decide (userNat s (h + 7) 1 = 1) && within 1 4 n &&
    decide (code % 64 = 0) && decide (data % 64 = 0) &&
    (entryPoints s h n).all (fun e => decide (e < codeLen)) &&
    depths.all (fun k => decide (k % 4096 = 0) && within 4096 65536 k) &&
    decide (code + codeLen ≤ total) && decide (data + dataLen ≤ total) && decide (total ≤ length) &&
    decide (64 ≤ code) && decide (64 ≤ data) && !overlap code codeLen data dataLen &&
    decide (h + total + work ≤ userSize)
  if ok then
    some { header := h, codeAt := h + code, codeLen := codeLen, dataAt := h + data, dataLen := dataLen,
           workAt := if code + codeLen ≤ data + dataLen then h + data + dataLen else h + total,
           workLen := work, tasks := n }
  else none

/-- The bytes of a range of the data port read 0. -/
def dpZero (a n : Nat) (s : State) : State :=
  let keep := fun (c : Host.Cell) => decide (c.1 < a) || decide (a + n ≤ c.1)
  s.modHost fun h => { h with memory := ⟨h.memory.cells.filter keep⟩ }

/-- The context of a task (R405). -/
def taskContext (s : State) (i : TaskImage) (t : Nat) : Bytes :=
  le 1 t ++ le 1 i.tasks ++ le 2 0 ++ le 4 s.keys.bootCount ++ le 4 i.header ++ le 4 0 ++
  ztBytes s.host.loadTime ++ le 32 0

/-- The 64 B context of task `t` stands at the top of its stack (DESIGN CHOICE: the manual passes its offset
and names no place). -/
def placeContext (i : TaskImage) (t : Fin 4) (s : State) : State :=
  let depths := stackSizes s i.header i.tasks
  let above := (depths.drop (t.val + 1)).foldl (· + ·) 0
  if t.val < i.tasks then
    dpWrite (userArea + i.workAt + i.workLen - above - 64) (taskContext s i t.val) s
  else s

/-- The tasks of an image start. -/
def startTasks (i : TaskImage) (s : State) : State :=
  let fresh := fun (t : Fin 4) (_ : Task) =>
    if t.val < i.tasks then { state := .ready, position := s.host.queues[(0 : Fin 5)].sequence } else {}
  let s := s.modHost fun h =>
    { h with image := some i, loadTime := now s, tasks := vmap fresh h.tasks, eventLog := [] }
  let hash := Config.sha384 (dpRead s (userArea + i.header) (userNat s (i.header + 8) 4))
  let s := s.modKeys fun k => { k with userHash := some hash }
  forAll (fins 4) (placeContext i) (dpZero (userArea + i.workAt) i.workLen s)

def execUserLoad (r : Req) (length header : Nat) (s : State) : Out :=
  runSimple 0x010D 8 r (fun s =>
    match imageAt s header length with
    | none => .error eRange
    | some i => do
      need (!anyTask s) eState
      pure (startTasks i s)) s

/-! ### How a task stops (R404, R405) -/

/-- The evaluation that waits for the hook of a task goes on with default selection. -/
def releaseHook (s : State) : State :=
  match s.sel.waiting with
  | some log => finishEvaluation (s, log)
  | none => s

/-- A task stops with a cause: its hook is withdrawn, a signal that is pending for it is discarded
(17 R468), and its command in hand has no reader. -/
def stopTask (t : Fin 4) (cause : Nat) (s : State) : State :=
  let clear := fun (_ : Fin 32) (f : Filtered) => { f with owed := false }
  let s := if owningTask s = some t then s.modWear fun w => { w with filters := vmap clear w.filters } else s
  let s := s.modTask t fun k => { k with state := .stopped cause, inHand := none, frames := [] }
  let s := raise 0x0109 (t.val + cause * 256) 0 s
  if s.sel.hookTask = some t then
    releaseHook (s.modSel fun x => { x with hookTask := none, hookOverruns := 0 })
  else s

/-- user-unload: every task stops and the area opens to the host. -/
def execUserUnload (r : Req) (s : State) : Out :=
  runSimple 0x010E 0 r (fun s =>
    let clear := fun (_ : Fin 32) (f : Filtered) => { f with owed := false }
    let s := s.modWear fun w => { w with filters := vmap clear w.filters }
    let s := s.modHost fun h =>
      { h with tasks := Vector.replicate 4 {}, image := none, eventLog := [] }
    let s := s.modKeys fun k => { k with userHash := none }
    .ok (if s.sel.hookTask.isSome then
      releaseHook (s.modSel fun x => { x with hookTask := none, hookOverruns := 0 }) else s)) s

/-! ### System calls (R406) -/

/-- The task executes: it waits in no call. -/
def canCall (s : State) (t : Fin 4) : Bool :=
  (match s.host.tasks[t].state with
   | .ready => true
   | .inHook => true
   | _ => false) && s.host.tasks[t].inHand.isNone

/-- A block of `n` bytes lies wholly in the task's writable regions. -/
def blockOk (s : State) (block n : Nat) : Bool :=
  match s.host.image with
  | some i =>
    (decide (i.dataAt ≤ block) && decide (block + n ≤ i.dataAt + i.dataLen)) ||
    (decide (i.workAt ≤ block) && decide (block + n ≤ i.workAt + i.workLen))
  | none => false

/-- A system call with a parameter block of `n` bytes: it is counted by the filtered counters of event 0x0A,
and a block outside the writable regions is a memory fault. -/
def systemCall (t : Fin 4) (block n : Nat) (f : State → State) (s : State) : Out :=
  if !canCall s t then .next s
  else
    let s := countEvent 0x0A (fun c => bitOf c.priv 1) s
    if blockOk s block n then .next (f s) else .next (stopTask t 1 s)

/-- COMMAND: the request of the block is in hand as from a mailbox. -/
def execCommandCall (t : Fin 4) (block opcode sequence length flags : Nat) (s : State) : Out :=
  systemCall t block 128 (fun s =>
    let p : Pend :=
      { opcode := opcode, sequence := sequence, length := length,
        badHeader := decide (56 < length) || decide (flags ≠ 0), bulk := bitOf flags 0, rspOffset := 0,
        rspCapacity := 0 }
    let s := s.modTask t fun k => { k with block := block, result := none, inHand := some p }
    if s.host.supervisor then takeUp (.task t) [p] s else s) s

def execEventWait (t : Fin 4) (block areaMask timeout : Nat) (s : State) : Out :=
  systemCall t block 48 (fun s =>
    match serveEvent t block areaMask s with
    | some s => s
    | none =>
      if timeout = 0 then taskAnswer t eTimeout block [] s
      else s.modTask t fun k => { k with state := .waitEvent block areaMask }) s

/-- TIME: TAI, TIME_EPOCH and FLAGS of 07 R223. -/
def timeArea (s : State) : Bytes :=
  ztBytes (now s) ++ le 1 s.clock.epoch.toNat ++ le 1 0 ++ le 2 (windowFlags s (now s)) ++ le 12 0

def execTimeCall (t : Fin 4) (block : Nat) (s : State) : Out :=
  systemCall t block 32 (fun s =>
    taskAnswer t stOk block (timeArea s) (dpWrite (userArea + block) (timeArea s) s)) s

def execSleep (t : Fin 4) (block microseconds : Nat) (s : State) : Out :=
  systemCall t block 4 (fun s =>
    if within 1 10000000 microseconds then s.modTask t fun k => { k with state := .sleeping block }
    else taskAnswer t eRange block [] s) s

def execHookWait (t : Fin 4) (block : Nat) (s : State) : Out :=
  systemCall t block 672 (fun s =>
    if s.sel.hookTask = some t then s.modTask t fun k => { k with state := .waitHook block }
    else taskAnswer t eState block [] s) s

/-- An answer that changes the selection: it prefers a candidate, or vetoes one (R407). -/
def hookActs (s : State) (a : HookAnswer) : Bool :=
  match a.action with
  | 1 => (fins 20).any fun i => decide (i.val = a.preferred) && candidate s i
  | 2 => (fins 20).any fun i => bitOf a.veto i.val && candidate s i
  | _ => false

/-- HOOK_ANSWER: the evaluation in progress goes on with the answer; one that changes nothing where it
should counts, and is DEFAULT. -/
def execHookAnswer (t : Fin 4) (block : Nat) (answer : HookAnswer) (s : State) : Out :=
  systemCall t block 16 (fun s =>
    match s.sel.waiting with
    | none => taskAnswer t eRange block [] s
    | some log =>
      if answer.evalSeq ≠ s.sel.evalSeq ∨ 2 < answer.action ∨ s.sel.hookTask ≠ some t then
        taskAnswer t eRange block [] s
      else
        let acts := hookActs s answer
        let s := s.modSel fun x =>
          { x with hookOverruns := 0, hookAnswer := if acts then some answer else none,
                   hookIgnored := if acts ∨ answer.action = 0 then x.hookIgnored else x.hookIgnored + 1 }
        finishEvaluation (taskAnswer t stOk block [] s, log)) s

/-- SIGNAL_SET: a handler lies in the code. -/
def execSignalSet (t : Fin 4) (block handler : Nat) (s : State) : Out :=
  systemCall t block 4 (fun s =>
    let inCode : Bool := match s.host.image with
      | some i => decide (handler < i.codeLen)
      | none => false
    if handler = 0 ∨ inCode then
      taskAnswer t stOk block [] (s.modTask t fun k => { k with handler := handler })
    else taskAnswer t eRange block [] s) s

/-- A call without a parameter block. -/
def plainCall (t : Fin 4) (f : State → State) (s : State) : Out :=
  if canCall s t then .next (f (countEvent 0x0A (fun c => bitOf c.priv 1) s)) else .next s

/-- SIGNAL_RETURN: the task resumes at the RESUME of its signal frame. -/
def execSignalReturn (t : Fin 4) (s : State) : Out :=
  plainCall t (fun s => s.modTask t fun k => { k with frames := k.frames.drop 1 }) s

def execExit (t : Fin 4) (s : State) : Out := plainCall t (stopTask t 3) s

def execUnknownSystemCall (t : Fin 4) (number : Nat) (s : State) : Out :=
  if within 1 9 number then .next s
  else plainCall t (fun s =>
    taskAnswer t eOpcode 0 [] (s.modHost fun h => { h with unknownCalls := h.unknownCalls + 1 })) s

def execTaskReturn (t : Fin 4) (s : State) : Out :=
  if canCall s t then .next (stopTask t 3 s) else .next s

def execUserTaskFault (t : Fin 4) (instruction : Bool) (s : State) : Out :=
  if canCall s t then .next (stopTask t (if instruction then 2 else 1) s) else .next s

/-! ### The ends of waiting calls -/

def execSleepExpiry (t : Fin 4) (s : State) : Out :=
  match s.host.tasks[t].state with
  | .sleeping block => .next (taskAnswer t stOk block [] s)
  | _ => .next s

def execEventWaitTimeout (t : Fin 4) (s : State) : Out :=
  match s.host.tasks[t].state with
  | .waitEvent block _ => .next (taskAnswer t eTimeout block [] s)
  | _ => .next s

/-- HOOK_TIMEOUT (R404): default selection; the third overrun in succession stops the task. -/
def execHookTimeout (t : Fin 4) (s : State) : Out :=
  if s.sel.waiting.isNone ∨ s.sel.hookTask ≠ some t then .next s
  else
    let s := s.modSel fun x =>
      { x with hookOverruns := x.hookOverruns + 1, hookMissed := x.hookMissed + 1 }
    if 3 ≤ s.sel.hookOverruns then .next (stopTask t 0 s) else .next (releaseHook s)

end Sys2Proof.Machine
end

