-- ==== Sys2Proof/Machine/DataPort.lean ====
section
/-! DEFINITION. The data port: its areas and who owns them, the accesses of the host, the copies of DMA 4 and the
injection slots (14 R378, R391 to R393). -/

namespace Sys2Proof.Machine

/-! ### Areas (R378) -/

/-- The sources of commands. -/
def sources : List Source :=
  (fins 16).map .mailbox ++ [.emergency] ++ (fins 4).map .task

/-- Requests of a source from its doorbell on. -/
def requestsOf (s : State) (src : Source) : List Pend := (hand src s).toList ++ behindOf src s

/-- A command of one of these opcodes is under way: from its doorbell until it completes. -/
def underWay (s : State) (ops : List Nat) : Bool :=
  sources.any (fun src => (requestsOf s src).any fun p => decide (p.opcode ∈ ops)) ||
  (runningCommands s).any fun x => decide (x.1 ∈ ops)

/-- The areas: base, size. -/
def dpAreas : List (Nat × Nat) :=
  [(0x00C00000, 0x100000), (0x02000000, 20480), (0x02010000, 219136), (0x02100000, 4096),
   (0x02110000, 4096), (0x02120000, 8192), (0x02122000, 8192), (0x02200000, 131072),
   (0x03000000, 65536), (0x04000000, 0x100000), (0x06000000, 0x40000)]

/-- The number of the area that holds an address. -/
def dpArea (a : Nat) : Option Nat :=
  dpAreas.findIdx? fun x => decide (x.1 ≤ a) && decide (a < x.1 + x.2)

def slotBusy (s : State) (a : Nat) : Bool := s.host.dp.injectBusy.getLsbD ((a - injArea) / 16384)

/-- The bulk region of a mailbox is owned while a command that uses it is under way. -/
def bulkOwned (s : State) (a : Nat) : Bool :=
  (fins 16).any fun m => decide (bulkBase m ≤ a) && decide (a < bulkBase m + 0x4000) &&
    (requestsOf s (.mailbox m)).any (·.bulk)

def dpReadable (s : State) (a : Nat) : Bool :=
  match dpArea a with
  | none => false
  | some 0 => !slotBusy s a
  | some 9 => !anyTask s
  | some _ => true

/-- The host may write: an area that permits it and that no command owns. -/
def dpWritable (s : State) (a : Nat) : Bool :=
  match dpArea a with
  | some 0 => !slotBusy s a
  | some 1 => !underWay s [0x0605]
  | some 4 => !underWay s [0x0808, 0x080A]
  | some 5 => !underWay s [0x080B, 0x080C]
  | some 8 => !underWay s [0x010A]
  | some 9 => !anyTask s && !underWay s [0x010D]
  | some 10 => !bulkOwned s a
  | _ => false

/-! ### Accesses of the host (R378, R392) -/

def bytesOk (s : State) (ok : State → Nat → Bool) (a n : Nat) : Bool :=
  (List.range n).all fun i => ok s (a + i)

/-- A read: a refused byte reads 0 and sets ERROR. -/
def hostRead (a n : Nat) (s : State) : Bytes × State :=
  let o := (List.range n).map fun i => if dpReadable s (a + i) then s.host.memory.read zeroByte (a + i) else 0
  (o, if bytesOk s dpReadable a n then s else dpError s)

def writeOne (b : Byte) (a : Nat) (s : State) : State :=
  if dpWritable s a then s.modHost fun h => { h with memory := h.memory.write zeroByte a b } else s

/-- A write: a refused byte is ignored and sets ERROR. -/
def hostWrite (a : Nat) (bs : Bytes) (s : State) : State :=
  let ok := bytesOk s dpWritable a bs.length
  let s := if ok then dpWrite a bs s
    else forAll bs.zipIdx (fun x => writeOne x.1 (a + x.2)) s
  if ok then s else dpError s

/-- BAR2_ACCESS: `size` bytes read, or written with `write`, lowest first. -/
def execBar2Access (addr size : Nat) (write : Option Nat) (s : State) : Out :=
  if !hostReachable s then .next s
  else match write with
    | some v => .next (hostWrite addr (le size v) s)
    | none =>
      let (o, s) := hostRead addr size s
      .next (answerRead [ofLe o] s)

/-- ADDR advances under AUTO_INC. -/
def advance (s : State) : State :=
  s.modHost fun h =>
    { h with dp := { h.dp with addr := if h.dp.autoInc then (h.dp.addr + 8) % 2 ^ 32 else h.dp.addr } }

/-- DP_DATA is read; an ADDR that is no multiple of 8 is refused. -/
def readDpData (s : State) : Nat × State :=
  let a := s.host.dp.addr
  if a % 8 = 0 then
    let (o, s) := hostRead a 8 s
    (ofLe o, advance s)
  else (0, advance (dpError s))

def writeDpData (value : Nat) (s : State) : State :=
  let a := s.host.dp.addr
  if a % 8 = 0 then advance (hostWrite a (le 8 value) s) else advance (dpError s)

def execDpDataRead (s : State) : Out :=
  if !hostReachable s then .next s
  else
    let (v, s) := readDpData s
    .next (answerRead [v] s)

def execDpDataWrite (value : Nat) (s : State) : Out :=
  if hostReachable s then .next (writeDpData value s) else .next s

/-! ### DMA 4 (R391) -/

/-- A write of DP_DMA_CTRL: LENGTH and TO_HOST, and with GO the copy starts. -/
def writeDmaCtrl (value : Nat) (s : State) : State :=
  if s.host.dp.busy then dpError s
  else
    s.modHost fun h => { h with dp :=
      { h.dp with length := value % 2 ^ 24, toHost := bitOf value 24, busy := bitOf value 25,
                  failed := h.dp.failed && !bitOf value 25 } }

def execDpDmaGo (value : Nat) (s : State) : Out :=
  if hostReachable s then .next (writeDmaCtrl value s) else .next s

/-- Words copied to the device until one is refused: whether all were. -/
def copyIn (a : Nat) (bs : Bytes) : Nat → State → Bool × State
  | 0, s => (true, s)
  | n + 1, s =>
    if bytesOk s dpWritable a 8 then copyIn (a + 8) (bs.drop 8) n (dpWrite a (le 8 (ofLe (bs.take 8))) s)
    else (false, s)

/-- Words copied to the host until one is refused. -/
def copyOut (s : State) (a : Nat) : Nat → Bool × Bytes
  | 0 => (true, [])
  | n + 1 =>
    if bytesOk s dpReadable a 8 then
      let (ok, o) := copyOut s (a + 8) n
      (ok, dpRead s a 8 ++ o)
    else (false, [])

/-- DP_DMA_COMPLETE: `hostData` is what the host buffer held. -/
def execDpDmaComplete (hostData : Bytes) (s : State) : Out :=
  let d := s.host.dp
  if !d.busy then .next s
  else
    let n := d.length / 8
    let (ok, s) : Bool × State :=
      if d.dmaDev % 8 ≠ 0 then (false, s)
      else if d.toHost then
        let (ok, o) := copyOut s d.dmaDev n
        (ok, s.modHost fun h => { h with dp := { h.dp with sentToHost := o } })
      else copyIn d.dmaDev hostData n s
    let s := if ok then s else dpError s
    .next (setCause 8 (s.modHost fun h => { h with dp := { h.dp with busy := false, failed := !ok } }))

/-! ### Injection slots (R393) -/

/-- The MAC of a header that breaks no rule. -/
def injMac (s : State) (h : InjHeader) : Option (Fin 16) :=
  (liveMac s h.mac).filter fun m =>
    within 60 (s.net.macs[m].cfg.maxFrame - 4) h.length && decide (h.flags < 8) &&
    (if bitOf h.flags 0 then ztValid h.launchAt else within 4 31 h.queue)

/-- The frame of a slot, as a number that names its octets. -/
def injOctets (s : State) (slot : Fin 64) (h : InjHeader) : Nat :=
  ofLe (dpRead s (injArea + slot.val * 16384 + 32) h.length)

/-- A timed injection asks for its slot on the calendar where the share of 01 R35 has a place. -/
def injReserve (m : Fin 16) (slot : Fin 64) (h : InjHeader) (s : State) : Option State :=
  if hostShare s then
    hostReserve m 128 (ztUnits h.launchAt) (h.length + 4) (.inject slot) (injOctets s slot h) s
  else none

/-- A slot is submitted: its report at once, a place in a queue, a reservation, or a wait. -/
def inject (slot : Fin 64) (s : State) : State :=
  let h := injHeader s slot
  let asked := if bitOf h.flags 0 then ztUnits h.launchAt else 0
  match injMac s h with
  | none => hostDrop (.inject slot) h.mac (h.length + 4) asked ocDescriptor s
  | some m =>
    if bitOf h.flags 0 then
      if !counterForm s then hostDrop (.inject slot) h.mac (h.length + 4) asked ocNotCounter s
      else match injReserve m slot h s with
        | some s => s
        | none => s.modHost fun x => { x with dp := { x.dp with waiting := x.dp.waiting ++ [slot] } }
    else match asFin 32 h.queue with
      | some q =>
        pushFrame m q { length := h.length + 4, origin := .inject slot, data := injOctets s slot h } s
      | none => s

/-- A write of DP_INJECT. -/
def writeInject (slot : Fin 64) (s : State) : State :=
  if s.host.dp.injectBusy.getLsbD slot.val then dpError s
  else
    let bit := BitVec.ofNat 64 (2 ^ slot.val)
    inject slot (s.modHost fun h => { h with dp := { h.dp with injectBusy := h.dp.injectBusy ||| bit } })

def execDpInject (slot : Fin 64) (s : State) : Out :=
  if hostReachable s then .next (writeInject slot s) else .next s

/-- Injections that wait are offered again, in the order of their submission: at each tick of the system time
clock (DESIGN CHOICE). -/
def retryInjections (s : State) : State :=
  if s.host.dp.waiting = [] ∨ !counterForm s then s
  else forAll s.host.dp.waiting inject (s.modHost fun h => { h with dp := { h.dp with waiting := [] } })

end Sys2Proof.Machine
end

