-- ==== Sys2Proof/Machine/Egress.lean ====
section
/-! DEFINITION. Egress: its commands, gate lists, the launch calendar's rows and the life of a host frame
(10; 14 R395, R397; 07 R228, R229). -/

namespace Sys2Proof.Machine

/-! ### Queues (10 R273, R284, R285) -/

def queueTable : Table QueueCfg where
  flds := [one 1, one 2, one 4, one 4, one 1]
  rows c := [[c.cls], [c.quantum], [c.rate], [c.burst], [c.pfcClass]]
  ofRows r := { cls := val r 0, quantum := val r 1, rate := val r 2, burst := val r 3,
                pfcClass := val r 4 }

/-- INDEX = 32 × MAC + queue. -/
def queueIndex (s : State) (n : Nat) : Option (Fin 16 × Fin 32) :=
  match (asFin 16 (n / 32)).filter fun m => macPresent s m, asFin 32 (n % 32) with
  | some m, some q => some (m, q)
  | _, _ => none

/-- The value 0 of CLASS is never written, and CLASS does not change on queues 0 to 3; QUANTUM is of
PACED and BULK queues, RATE and BURST of PACED ones. -/
def queueValid (q : Fin 32) (old c : QueueCfg) (sel : Nat → Bool) : Bool :=
  (!sel 0 || (within 1 2 c.cls && (decide (4 ≤ q.val) || decide (c.cls = old.cls)))) &&
  (!sel 1 || decide (c.cls ≠ 0)) && (!(sel 2 || sel 3) || decide (c.cls = 1)) &&
  within 64 16384 c.quantum && within 1 400000000 c.rate && within 64 16777216 c.burst &&
  (decide (c.pfcClass ≤ 7) || decide (c.pfcClass = 0xFF))

/-- The tokens so far accrue at the old rate; a smaller BURST clips them; a queue that becomes PACED
starts at BURST. -/
def setQueue (s : State) (c : QueueCfg) (x : EgressQueue) : EgressQueue :=
  let y := settleTokens s x
  let t := if c.cls = 1 ∧ x.cfg.cls ≠ 1 then ((c.burst * 65536 : Nat) : Int)
    else min y.tokens (c.burst * 65536 : Nat)
  { y with cfg := c, tokens := if c.cls = 1 then t else y.tokens }

def execQueueConfigure (r : Req) (g : GReq) (s : State) : Out :=
  runConfig 0x0505 queueTable.flds r g
    (fun s => (queueIndex s g.index).map fun (m, q) => queueTable.rows s.net.macs[m].queues[q].cfg)
    (fun rows s => match queueIndex s g.index with
      | none => .error eRange
      | some (m, q) => do
        let c := queueTable.ofRows rows
        need (queueValid q s.net.macs[m].queues[q].cfg c (selects g)) eRange
        pure (modQ m q (setQueue s c) s)) s

def execQueueConfigureReadBack (r : Req) (index : Nat) (s : State) : Out :=
  runReadBack 0x0585 queueTable.flds r index
    (fun s => (queueIndex s index).map fun (m, q) => queueTable.rows s.net.macs[m].queues[q].cfg) s

/-! ### OVERHEAD and GUARD (10 R274) -/

def egressFlds : List Fld := [one 1, one 4]

/-- INDEX is used for OVERHEAD: a request that selects only GUARD names no MAC. -/
def egressRows (index : Nat) (needMac : Bool) (s : State) : Option Rows :=
  match (asFin 16 index).filter fun m => macPresent s m with
  | some m => some [[s.net.macs[m].overhead], [s.net.guardNs]]
  | none => if needMac then none else some [[20], [s.net.guardNs]]

def execEgressConfigure (r : Req) (g : GReq) (s : State) : Out :=
  runConfig 0x0506 egressFlds r g (egressRows g.index (selects g 0))
    (fun rows s => do
      need (within 20 255 (val rows 0) && decide (val rows 1 ≤ 1000)) eRange
      let s := match asFin 16 g.index with
        | some m =>
          if selects g 0 then s.modMac m fun c => clipDebt s { c with overhead := val rows 0 } else s
        | none => s
      pure (judgePace (s.modNet fun n => { n with guardNs := val rows 1 }))) s

def execEgressConfigureReadBack (r : Req) (index : Nat) (s : State) : Out :=
  runReadBack 0x0586 egressFlds r index (egressRows index true) s

/-! ### Gate lists (10 R286 to R288) -/

/-- R287: BASE_TIME, or the first whole number of cycles after it, at or after now + 2 µs. -/
def gateStart (base cycle from_ : Nat) : Nat :=
  if from_ ≤ base then base
  else base + (from_ - base + ns16 cycle - 1) / ns16 cycle * ns16 cycle

/-- Pending lists by start. -/
def insertGate (l : GateList) : List GateList → List GateList
  | [] => [l]
  | x :: xs => if x.start ≤ l.start then x :: insertGate l xs else l :: x :: xs

def acceptGate (m : Fin 16) (l : GateList) (from_ : Nat) (s : State) : State :=
  let pend := s.net.macs[m].nextGates
  let s := s.modMac m fun c =>
    { c with nextGates := insertGate l (c.nextGates.filter fun x => decide (x.start < from_)) }
  forAll (pend.filter fun x => decide (from_ ≤ x.start)) (fun _ => raise 0x0522 m.val 0) s

def gateEntryOk (e : GateEntry) : Bool :=
  decide (e.gates < 2 ^ 32) && within 20 1000000000 e.interval

def execGateList (r : Req) (mac : Nat) (cycle : Nat) (base : ZT128) (entries : List GateEntry)
    (s : State) : Out :=
  runSimple 0x0507 (24 + 8 * entries.length) r (fun s =>
    match (asFin 16 mac).filter fun m => macPresent s m with
    | none => .error eRange
    | some m => do
      need (within 1000 1000000000 cycle && decide (entries.length ≤ 1024) && ztValid base &&
        entries.all gateEntryOk) eRange
      let from_ := now s + ns16 2000
      pure (acceptGate m ⟨gateStart (ztUnits base) cycle from_, cycle, entries⟩ from_ s)) s

/-- The first pending list whose start has come takes effect. -/
def execGateListStart (mac : Fin 16) (s : State) : Out :=
  match s.net.macs[mac].nextGates with
  | [] => .next s
  | l :: ls =>
    if clockRuns s ∧ l.start * calZt ≤ calNow s then
      .next (raiseAt 0x0521 mac.val 0 l.start
        (s.modMac mac fun c => { c with gate := l, nextGates := ls }))
    else .next s

/-- The gates in force are those of the list at device time: moving to the next entry writes
nothing. -/
def execGateEntryBoundary (_mac : Fin 16) (s : State) : Out := .next s

/-! ### Status (10 R293) -/

def queueStatus (s : State) (c : Mac) (q : Fin 32) : Bytes :=
  let x := c.queues[q]
  le 8 x.framesSent ++ le 8 x.bytesSent ++ le 8 x.pausedTime ++ le 8 x.gateOversize ++
  le 4 x.deficit ++ le 8 (toCode 64 (tokensNow s x)) ++
  le 1 (if gateOpen c q.val (calNow s) then 1 else 0) ++ le 1 x.cfg.cls ++ le 2 0

def execEgressStatus (r : Req) (mac : Nat) (s : State) : Out :=
  runRead 0x0511 (r.len = 1) r (fun s =>
    match (asFin 16 mac).filter fun m => macPresent s m with
    | none => .error eRange
    | some m =>
      let c := s.net.macs[m]
      let inForce := if c.gate.entries = [] then 0 else c.gate.start
      .ok ((fins 32).flatMap (queueStatus s c) ++ le 8 c.recommit ++ le 8 c.lateDrop ++
        le 8 c.gateOverride ++ le 8 c.displaced ++ ztBytes inForce ++
        ztBytes ((c.nextGates.head?.map (·.start)).getD 0) ++ le 4 (launchLead s .nts) ++
        le 4 (launchLead s .ptp))) s

/-! ### Timed frames (10 R279 to R281, R290) -/

def findRes (s : State) (m : Fin 16) (id : Nat) : Option Reservation :=
  s.net.macs[m].calendar.find? fun r => decide (r.id = id)

/-- The frame was not complete 14 ns before its committed instant. -/
def execSealDeadlineMissed (mac : Fin 16) (id : Nat) (s : State) : Out :=
  match findRes s mac id with
  | some r =>
    if counterForm s ∧ r.t ≤ calNow s + 14 * calNs then .next (missSlot mac r 0 false s) else .next s
  | none => .next s

/-- The counters of a frame that starts. -/
def countSent (m : Fin 16) (q : Fin 32) (length : Nat) : State → State :=
  modQ m q fun x => { x with framesSent := (x.framesSent + 1) % 2 ^ 64,
                             bytesSent := (x.bytesSent + length) % 2 ^ 64 }

/-- The frame leaves at its committed instant; a gate that a newer list closes is overridden. -/
def launch (m : Fin 16) (r : Reservation) (s : State) : State :=
  let l := latched s m (if r.reply.kind = 8 then egressStamp s m r.t else r.reply.stamp) r.recommitted
  let oversize := !gateFits s.net.macs[m] r.queue.val r.start (r.stop - r.start)
  let s := s.modMac m fun c =>
    { c with calendar := c.calendar.filter (fun x => decide (x.id ≠ r.id)), tx := some (.timed r l) }
  let s := countSent m r.queue r.length s
  if oversize then
    raise 0x0523 m.val 0 (s.modMac m fun c => { c with gateOverride := (c.gateOverride + 1) % 2 ^ 64 })
  else s

/-- R276, R280: the first bit leaves one grid step before the committed instant. A frame whose first bit
would leave inside a pause window misses its slot (09 R268). -/
def execStrokeLaunch (mac : Fin 16) (id : Nat) (s : State) : Out :=
  match findRes s mac id with
  | none => .next s
  | some r =>
    let c := s.net.macs[mac]
    if !counterForm s ∨ c.tx ≠ none ∨ c.state ≠ .up ∨ calNow s + calNs ≤ r.start then .next s
    else match pausedAt s c r.queue r.start with
      | some close => .next (missSlot mac r (close + grid s mac) true s)
      | none => .next (launch mac r s)

/-! ### Host frames (14 R395, R397; 10 R278) -/

/-- The inserted field lies within the frame. -/
def insertFits (d : TxDesc) : Bool :=
  match d.stampInsert with
  | 0 => true
  | 1 => decide (26 ≤ d.stampOffset) && decide (d.stampOffset + 10 ≤ d.length)
  | 2 => decide (d.stampOffset + 16 ≤ d.length)
  | _ => false

def isTimed (d : TxDesc) : Bool := bitOf d.flags 0

/-- The MAC of a descriptor that breaks no rule of R395. -/
def descMac (s : State) (d : TxDesc) : Option (Fin 16) :=
  (liveMac s d.mac).filter fun m =>
    within 60 (s.net.macs[m].cfg.maxFrame - 4) d.length && decide (d.flags < 8) &&
    (decide (d.stampInsert = 0) || isTimed d) && insertFits d &&
    (!isTimed d || ztValid d.launchAt)

/-- A timed descriptor asks for its slot where the share has a place. -/
def reserveDesc (r : Fin 64) (i : Nat) (m : Fin 16) (d : TxDesc) (s : State) : Option State :=
  if hostShare s then
    hostReserve m (64 + r.val) (ztUnits d.launchAt) (d.length + 4) (.ring r i) d.octets s
  else none

/-- A descriptor is taken: the next index of its ring. -/
def takeDesc (r : Fin 64) (s : State) : State :=
  s.modTx r fun k =>
    { k with open_ := k.open_ ++ [(k.fetched, false)], fetched := (k.fetched + 1) % 2 ^ k.size }

/-- The descriptor at the head of an enabled ring is fetched: written back at once, queued, reserved, or
held with those behind it. -/
def execTransmitDescriptor (ring : Fin 64) (d : TxDesc) (s : State) : Out :=
  let k := s.host.tx[ring]
  if !k.enabled ∨ k.held ≠ none ∨ k.fetched = k.tail % 2 ^ k.size ∨ !hostReachable s then .next s
  else
    let i := k.fetched
    let s := takeDesc ring s
    match descMac s d with
    | none => .next (hostDrop (.ring ring i) d.mac (d.length + 4) 0 ocDescriptor s)
    | some m =>
      if isTimed d then
        if !counterForm s then
          .next (hostDrop (.ring ring i) d.mac (d.length + 4) (ztUnits d.launchAt) ocNotCounter s)
        else match reserveDesc ring i m d s with
          | some s' => .next s'
          | none => .next (s.modTx ring fun k => { k with held := some (i, d) })
      else match asFin 32 k.useQueue with
        | some q =>
          .next (pushFrame m q { length := d.length + 4, origin := .ring ring i, data := d.octets } s)
        | none => .next s

/-- The held descriptor comes within the horizon, or its share frees. -/
def execHostTimedReserve (ring : Fin 64) (s : State) : Out :=
  match s.host.tx[ring].held with
  | none => .next s
  | some (i, d) =>
    if !counterForm s then .next s
    else match descMac s d with
      | none =>
        .next (hostDrop (.ring ring i) d.mac (d.length + 4) (ztUnits d.launchAt) ocDescriptor
          (s.modTx ring fun k => { k with held := none }))
      | some m => match reserveDesc ring i m d s with
        | some s' => .next (s'.modTx ring fun k => { k with held := none })
        | none => .next s

/-! ### Untimed frames (10 R282, R283, R289) -/

/-- A head that no window of its queue can hold is dropped and counted; R229 gives its outcome no
code, so the code is a free one of those for a frame that was not sent. -/
def dropOversize (m : Fin 16) (q : Fin 32) : Nat → State → State
  | 0, s => s
  | n + 1, s =>
    let c := s.net.macs[m]
    match c.queues[q].frames, longestWindow c.gate q.val with
    | f :: _, some w =>
      if c.gate.entries ≠ [] ∧ w * calNs < occupancy s m f.length then
        let (k, s) := freshNat s
        let s := modQ m q (fun x =>
          { x with frames := x.frames.drop 1, emptyAt := s.clock.ticks.toNat,
                   gateOversize := (x.gateOversize + 1) % 2 ^ 64,
                   deficit := if x.frames.length ≤ 1 then 0 else x.deficit }) s
        dropOversize m q n (hostDrop f.origin m.val f.length 0 (2 + k % 7) s)
      else s
    | _, _ => s

def dropHeads (m : Fin 16) (s : State) : State :=
  forAll ((fins 32).filter fun q => decide (3 ≤ q.val))
    (fun q t => dropOversize m q t.net.macs[m].queues[q].frames.length t) s

/-- The turn passes on from a queue that has emptied. -/
def passTurn (cls : Nat) (q : Fin 32) (m : Fin 16) (s : State) : State :=
  let r := roundOf cls s.net.macs[m]
  if s.net.macs[m].queues[q].frames ≠ [] then s
  else if r.turn = q.val then setRound m cls { turn := (nextQueue q).val } s
  else setRound m cls { r with gap := some ((nextQueue q).val, false) } s

/-- The head of the chosen queue starts: its cost leaves the deficit and, PACED, the tokens. -/
def startFrame (m : Fin 16) (cls : Nat) (q : Fin 32) (f : QFrame) (s : State) : State :=
  let a := startNow s m
  let k := cost s m f.length
  let l := latched s m (egressStamp s m (a + grid s m)) false
  let s := modQ m q (fun x =>
    let y := settleTokens s x
    { y with frames := y.frames.drop 1, emptyAt := s.clock.ticks.toNat,
             deficit := if y.frames.length ≤ 1 then 0 else y.deficit - k,
             tokens := if cls = 1 then y.tokens - (k * 65536 : Nat) else y.tokens }) s
  passTurn cls q m (countSent m q f.length (s.modMac m fun c => { c with tx := some (.untimed q f a l) }))

def execUntimedFrameStart (mac : Fin 16) (s : State) : Out :=
  let c := s.net.macs[mac]
  if !clockRuns s ∨ c.state ≠ .up ∨ c.tx ≠ none ∨ !awake s mac then .next s
  else
    let s := dropHeads mac s
    match chooseFrame mac s with
    | none => .next s
    | some (cls, q, s) => match s.net.macs[mac].queues[q].frames with
      | f :: _ => .next (startFrame mac cls q f s)
      | [] => .next s

/-! ### The end of a frame (07 R228, R229) -/

/-- The client role keeps the committed instant of its Delay_Req as t3 (12 R336). -/
def noteSent (o : Origin) (stamp : Nat) (s : State) : State :=
  match o with
  | .clientReq e => s.modPtp fun p =>
      { p with entries := upd p.entries e fun x => { x with t3 := some (stamp : Int), t4 := none } }
  | _ => s

def execFrameTransmitted (mac : Fin 16) (s : State) : Out :=
  let s' := s.modMac mac fun c => { c with tx := none }
  match s.net.macs[mac].tx with
  | none => .next s
  | some (.timed r l) =>
    .next (noteSent r.origin l.stamp (hostReport r.origin mac.val r.length (askedOf r)
      (if r.recommitted then ocRecommitted else ocSent) l s'))
  | some (.untimed _ f _ l) => .next (hostReport f.origin mac.val f.length 0 ocSent l s')

end Sys2Proof.Machine
end

