-- ==== Sys2Proof/Machine/Nib.lean ====
section
/-! DEFINITION. The commands and events of Nib (08). -/

namespace Sys2Proof.Machine

/-! ### Commands -/

/-- R240: the lowest free channel goes to the host. -/
def execChannelAllocate (r : Req) (s : State) : Out :=
  runCommand 0x0A01 (r.len = 0) r (fun _ s => match takeChannel ownHost 0 0xFF 0 s with
    | some (c, s') => (s', .ok (le 1 c.val))
    | none => (s, .err eNoSpace)) s

/-- R240: a HOST channel goes back. -/
def execChannelRelease (r : Req) (channel : Nat) (s : State) : Out :=
  runSimple 0x0A02 1 r (fun s => match asFin 24 channel with
    | none => .error eRange
    | some c => do
      need (decide (s.nib[c].owner = ownHost)) eState
      pure (releaseChannel c s)) s

/-- R241. -/
def nibTable : Table NibCfg where
  flds := [one 1, one 1, one 1, one 1, one 8, one 8, one 4, one 1, one 2]
  rows c := [[c.source], [c.edge], [c.mode], [c.stop], [c.timeout], [c.nominal], [c.gate],
    [c.stream], [c.decimate]]
  ofRows r := { source := val r 0, edge := val r 1, mode := val r 2, stop := val r 3,
                timeout := val r 4, nominal := val r 5, gate := val r 6, stream := val r 7,
                decimate := val r 8 }

/-- A bin-exact bound of R241 in 2^-16 ns: 2.6 ns is 170,393.6 units. -/
def nibValid (c : NibCfg) (own : Nat) : Bool :=
  nibSourceOk c.source && decide (c.edge ≤ 2) && decide (c.mode ≤ 2) && decide (c.stop ≤ 23) &&
  within 655360 65536000000000000 c.timeout && within 170394 131072000000000000 c.nominal &&
  within 1 1000000 c.gate && decide (c.stream ≤ 3) && within 1 65535 c.decimate &&
  !(decide (c.mode = 1) && decide (c.stop = own) && decide (c.edge ≠ 2)) &&
  !(decide (c.mode = 2) && decide (ms16 c.gate < 4 * c.nominal))

/-- The edges of STOP_CHANNEL that a channel armed now does not count. -/
def stopBaseNow (s : State) (c : Fin 24) (stop : Nat) : Nat :=
  if stop = c.val then 0
  else match asFin 24 stop with
    | some k => stopOrdinal s.nib[k]
    | none => 0

/-- R241: an accepted command arms the channel; pairing with it as STOP_CHANNEL ends. -/
def execChannelConfigure (r : Req) (g : GReq) (s : State) : Out :=
  runConfig 0x0A03 nibTable.flds r g
    (fun s => (asFin 24 g.index).map fun c => nibTable.rows s.nib[c].cfg)
    (fun rows s => match asFin 24 g.index with
      | none => .error eRange
      | some c => do
        let x := nibTable.ofRows rows
        need (nibValid x c.val) eRange
        need (decide (s.nib[c].owner = ownHost)) eState
        let base := stopBaseNow s c x.stop
        pure (endPairing c (s.modNib c fun n => armed { n with cfg := x } base))) s

def execChannelConfigureReadBack (r : Req) (index : Nat) (s : State) : Out :=
  runReadBack 0x0A83 nibTable.flds r index
    (fun s => (asFin 24 index).map fun c => nibTable.rows s.nib[c].cfg) s

abbrev streamFlds : List Fld := [one 1, one 2]

def streamRows (s : State) (n : Nat) : Option Rows :=
  (asFin 24 n).map fun c => [[s.nib[c].cfg.stream], [s.nib[c].cfg.decimate]]

/-- STREAM and DECIMATE of a channel of any owner (R241). -/
def execStreamConfigure (r : Req) (g : GReq) (s : State) : Out :=
  runConfig 0x0A04 streamFlds r g (fun s => streamRows s g.index)
    (fun rows s => match asFin 24 g.index with
      | none => .error eRange
      | some c => do
        need (decide (val rows 0 ≤ 3) && within 1 65535 (val rows 1)) eRange
        pure (s.modNib c fun n =>
          { n with cfg := { n.cfg with stream := val rows 0, decimate := val rows 1 } })) s

def execStreamConfigureReadBack (r : Req) (index : Nat) (s : State) : Out :=
  runReadBack 0x0A84 streamFlds r index (fun s => streamRows s index) s

/-- 15 R427. -/
def nibRecord (s : State) (c : Fin 24) : Bytes :=
  let n := s.nib[c]
  le 1 c.val ++ le 1 n.owner ++ le 1 n.cfg.source ++ le 1 n.cfg.mode ++
  le 1 (flag n.degraded 0 + flag n.liveB 1 + flag n.lockedA 2 + flag n.lockedB 3) ++
  le 1 n.sparesA ++ le 1 n.sparesB ++ le 1 0 ++ le 8 n.ordinal.toNat ++ le 4 n.deadTime.toNat ++
  le 4 n.overflow.toNat ++ le 4 n.orphan.toNat ++ le 4 n.streamDrop.toNat

def execChannelStatus (r : Req) (first count : Nat) (s : State) : Out :=
  runRead 0x0A10 (r.len = 2) r (fun s =>
    if within 1 24 count && decide (first + count ≤ 24) then
      .ok (((fins 24).filter fun c => decide (first ≤ c.val) && decide (c.val < first + count)).flatMap
        (nibRecord s))
    else .error eRange) s

/-! ### Edges (R242 to R247) -/

/-- What becomes of an edge at the line: stamped, lost in the dead time, or lost to a full buffer. -/
inductive EdgeFate where
  | stamped
  | dead
  | full
deriving DecidableEq, Repr

/-- Position of an instant within the run of the tick counter, in 2^-40 tick. -/
def edgePos (s : State) (sub : Nat) : Nat := s.clock.ticks.toNat * 2 ^ 40 + sub

/-- t_DEAD: at most 2.6 ns (R238). -/
def deadTicks : Nat := min Config.nibDeadTime (26 * 2 ^ 40 / 10)

/-- Stamps that still stand in the channel's buffer: it gives up one every 20 ns (R243). -/
def bufferedAt (ch : NibChannel) (pos : Nat) : Nat :=
  match ch.lastEdge with
  | some p => ch.buffered - (pos - p) / (20 * 2 ^ 40)
  | none => 0

/-- R243. Within one bin of the edge before it an edge is not lost. -/
def edgeFate (ch : NibChannel) (pos : Nat) : EdgeFate :=
  match ch.lastEdge with
  | some p =>
    if 2 ^ 40 < (pos - p) * 400 ∧ pos - p < deadTicks then .dead
    else if 16 ≤ bufferedAt ch pos then .full
    else .stamped
  | none => .stamped

/-- Whether the channel sees the edge (EDGE of R241). -/
def seesEdge (ch : NibChannel) (falling : Bool) : Bool :=
  match ch.cfg.edge with
  | 0 => !falling
  | 1 => falling
  | _ => true

/-- The ordinal that the edge takes: falling edges carry their own (R242). -/
def edgeOrdinal (ch : NibChannel) (falling : Bool) : Nat :=
  if falling then ch.falling.toNat else ch.ordinal.toNat

/-- NIB_FLAGS of a stamp (R245). -/
def stampNibFlags (ch : NibChannel) (falling : Bool) : Nat :=
  flag (!liveLocked ch) 3 + flag falling 7 + flag ch.frozenCal 8 + flag ch.gap 9

/-- A streamed stamp enters the queue, at most 100 in a microsecond (R244). -/
def streamStamp (c : Fin 24) (ordinal : Nat) (falling : Bool) (t : Nat) (s : State) : State :=
  let ch := s.nib[c]
  if (ch.cfg.stream = 1 ∨ ch.cfg.stream = 3) ∧ ordinal % (max 1 ch.cfg.decimate) = 0 then
    let us := s.clock.ticks.toNat / 1000
    let n := if s.host.nibRate.1 = us then s.host.nibRate.2 else 0
    if 100 ≤ n then s.modNib c fun x => { x with streamDrop := x.streamDrop + 1 }
    else
      enqueue 1 (.nib
        { channel := c.val, source := ch.cfg.source, epoch := s.clock.epoch,
          stampFlags := stampFlags s true (nibCalibrated s c) false,
          nibFlags := stampNibFlags ch falling, ordinal := ordinal, body := .stamp t })
        (s.modHost fun h => { h with nibRate := (us, n + 1) })
  else s

/-- The edge as a START or STOP of the pairs that it belongs to (R246). -/
def pairEdges (c : Fin 24) (ordinal : Nat) (falling : Bool) (t : Option Nat) (s : State) : State :=
  let ch := s.nib[c]
  let self := decide (ch.cfg.stop = c.val)
  let s := if ch.owner = ownHost ∧ ch.cfg.mode = 1 then
      (if self then pairEdge c (!falling) ordinal t s
       else if falling && decide (ch.cfg.edge = 2) then s
       else pairEdge c true ordinal t s)
    else s
  if falling && decide (ch.cfg.edge = 2) then s
  else forAll ((fins 24).filter fun d => decide (d ≠ c) && decide (s.nib[d].owner = ownHost) &&
      decide (s.nib[d].cfg.mode = 1) && decide (s.nib[d].cfg.stop = c.val) &&
      decide (s.nib[d].stopBase ≤ ordinal))
    (fun d u => pairEdge d false (ordinal - u.nib[d].stopBase) t u) s

/-- The edge within the frequency gate of a HOST channel or of a frequency monitor (R248). -/
def gateEdge (c : Fin 24) (ordinal : Nat) (t : Option Nat) (s : State) : State :=
  s.modNib c fun x =>
    if (gateMonitor x || (decide (x.owner = ownHost) && decide (x.cfg.mode = 2))) && x.gateOpen then
      { x with gateFirst := if x.gateEdges = 0 then ordinal else x.gateFirst,
               gateEdges := x.gateEdges + 1,
               gateUnlocked := x.gateUnlocked || (t.isSome && !liveLocked x),
               gateStamps := match t with
                 | some v => (ordinal, v) :: x.gateStamps
                 | none => x.gateStamps }
    else x

/-- An edge reaches a channel. A reference's monitor counts it for activity (02 R65), companions and
the rest do not; a phase is taken from it only on a LOCKED line (R233). While the system time clock stands nothing is stamped. -/
def execNibEdge (channel : Fin 24) (falling : Bool) (sub : Nat) (s : State) : Out :=
  let ch := s.nib[channel]
  if !clockRuns s ∨ ch.owner = ownFree ∨ ch.owner = ownRetired ∨ ch.cfg.source = 0xFF ∨
      !seesEdge ch falling then .next s
  else
    let pos := edgePos s sub
    let n := edgeOrdinal ch falling
    let fate := edgeFate ch pos
    let held := bufferedAt ch pos
    let s := s.modNib channel fun x =>
      let x := if falling then { x with falling := x.falling + 1 }
        else { x with ordinal := x.ordinal + 1 }
      { x with lastEdge := some pos,
               buffered := if fate = .stamped then held + 1 else held,
               deadTime := if fate = .dead then x.deadTime + 1 else x.deadTime,
               overflow := if fate = .full then x.overflow + 1 else x.overflow }
    let t := if fate = .stamped then some (nibStamp s channel sub) else none
    let s := match t with
      | some v => (streamStamp channel n falling v s).modNib channel fun x => { x with gap := false }
      | none => s.modNib channel fun x => { x with gap := true }
    let s := pairEdges channel n falling t s
    let s := if falling && decide (ch.cfg.edge = 2) then s else gateEdge channel n t s
    if t.isSome ∧ gateMonitor ch then
      match asFin 20 ch.index with
      | some i => .next (refArrival i (if liveLocked ch then takePulse i (t.getD 0) s else s))
      | none => .next s
    else .next s

/-! ### Lines (R232 to R237) -/

/-- R232: ten updates outside the condition, or the end of the trim, unlock a line. -/
def execNibLockUpdate (channel : Fin 24) (lineB held endOfTrim : Bool) (s : State) : Out :=
  .next (s.modNib channel fun x =>
    if lineB then
      let n := if held then 0 else min 10 (x.failB + 1)
      { x with failB := n, lockedB := if endOfTrim || decide (n = 10) then false
                                      else if held then true else x.lockedB }
    else
      let n := if held then 0 else min 10 (x.failA + 1)
      { x with failA := n, lockedA := if endOfTrim || decide (n = 10) then false
                                      else if held then true else x.lockedA })

def lineSpares (ch : NibChannel) (lineB : Bool) : Nat := if lineB then ch.sparesB else ch.sparesA

/-- R236, R237: a worn tap of the SHADOW line is bypassed and a spare brought in; with no spare the
line is retired and the channel is DEGRADED. -/
def retireTap (c : Fin 24) (lineB : Bool) (tap : Nat) (s : State) : State :=
  let ch := s.nib[c]
  let left := lineSpares ch lineB
  let unit := c.val * 2 + (if lineB then 1 else 0)
  if left = 0 then
    let s := s.modNib c fun x =>
      { x with degraded := true, frozenCal := true,
               goneA := x.goneA || !lineB, goneB := x.goneB || lineB,
               owner := if x.owner = ownFree then ownRetired else x.owner }
    raise 0x0A03 c.val 0 (ledger 5 7 unit 0xFFFF 0 0 0 s)
  else
    let s := s.modNib c fun x =>
      { x with sparesA := if lineB then x.sparesA else x.sparesA - 1,
               sparesB := if lineB then x.sparesB - 1 else x.sparesB,
               bypassed := x.bypassed ++ [(lineB, tap)] }
    raise 0x0A01 (c.val + flag lineB 8 + (left - 1) * 65536) 0
      (ledger 4 6 unit (416 + (32 - left)) (left - 1) 0 0 s)

/-- R234: with its table complete the SHADOW line becomes LIVE, at least 3 ns after the latest edge.
A worn tap found on the SHADOW line is retired and a fresh table is taken before the swap; one found
on the LIVE line is retired once that line is SHADOW. A DEGRADED channel has one line only. -/
def execNibLineSwap (channel : Fin 24) (worn : Option (Nat × Bool)) (s : State) : Out :=
  let ch := s.nib[channel]
  let clear := match ch.lastEdge with
    | some p => decide (p + 3 * 2 ^ 40 ≤ edgePos s 0)
    | none => true
  if !clockRuns s ∨ ch.degraded ∨ !clear then .next s
  else
    let swap := fun (t : State) => t.modNib channel fun x => { x with liveB := !x.liveB }
    match worn with
    | none => .next (swap s)
    | some (tap, lineB) =>
      if lineB = ch.liveB then .next (retireTap channel lineB tap (swap s))
      else .next (retireTap channel lineB tap s)

/-! ### Ends of pairs and gates -/

/-- R247: the oldest pair with one edge has waited PAIR_TIMEOUT; its partner may still come. -/
def execNibPairTimeout (channel : Fin 24) (s : State) : Out :=
  match s.nib[channel].pairs with
  | [] => .next s
  | p :: ps =>
    .next (reportPair channel p true (s.modNib channel fun x =>
      { x with pairs := ps, reported := x.reported ++ [p.n] }))

/-- R248, R249: the gate that ends is fitted and queued, and the next one begins. At the first whole
multiple of GATE after arming a gate only begins. -/
def execNibGateEnd (channel : Fin 24) (s : State) : Out :=
  let ch := s.nib[channel]
  if ch.owner ≠ ownHost ∨ ch.cfg.mode ≠ 2 ∨ !clockRuns s then .next s
  else
    let reset := fun (t : State) => t.modNib channel fun x =>
      { x with gateOpen := true, gateStamps := [], gateFirst := 0, gateEdges := 0,
               gateStep := false, gateLost := false, gateUnlocked := false }
    if !ch.gateOpen then .next (reset s)
    else
      let l := ch.gateStamps
      let bad := ch.gateLost || ch.gateUnlocked || decide (l.length < 4)
      let fit := regress l ch.gateFirst ch.cfg.nominal
      let flags := flag ch.gateUnlocked 3 + flag ch.gateLost 5 + flag ch.gateStep 6
      let body := NibBody.frequency (if bad then 0 else fit.first)
        (if bad then ziNone else fit.freq) (if bad then 2 ^ 63 else fit.stdError)
        l.length (ch.gateEdges - l.length) ch.cfg.gate
      .next (reset (nibResult channel flags ch.gateFirst s.clock.epoch true body s))

end Sys2Proof.Machine
end

