-- ==== Sys2Proof/Machine/Ports.lean ====
section
/-! DEFINITION. Ethernet ports: their commands, link state, pause windows and LPI (09). -/

namespace Sys2Proof.Machine

/-! ### Configuration (09 R251 to R254, R262, R263) -/

/-- A MAC that the present mode uses; none otherwise (R251). -/
def macIndex (s : State) (n : Nat) : Option (Fin 16) := (asFin 16 n).filter fun m => macPresent s m

/-- The fields that depend on the lanes take the new mode's defaults (R252). -/
def modeDefaults (mode : Nat) (m : Fin 16) (c : MacCfg) : MacCfg :=
  { c with split := 0, fec := if pam4 mode then 2 else 1, an := 0,
           laneMap := identityMap m.val (laneCount mode false), txPolarity := 0, rxPolarity := 0,
           twTx := Config.twMin mode false }

def applyMode (mode : Nat) (s : State) : State :=
  s.modNet fun n =>
    let f := fun (m : Fin 16) (c : Mac) =>
      if macPresentIn mode (fun _ => true) m then { c with cfg := modeDefaults mode m c.cfg } else c
    { n with portMode := mode, macs := vmap f n.macs }

def execPortMode (r : Req) (mode : Nat) (s : State) : Out :=
  runSimple 0x0501 1 r (fun s => do
    need (decide (mode ≤ 4)) eRange
    need ((fins 16).all fun m => decide (s.net.macs[m].state = .off)) eState
    pure (applyMode mode s)) s

/-- 09 R254. -/
def macTable : Table MacCfg where
  flds := [one 1, one 1, one 1, one 1, one 4, { widths := [1, 1] }, listOf 4 6, listOf 32 6, one 2,
    one 1, one 1, one 1, one 4, one 1, one 4, one 4, one 1]
  rows c := [[c.enable], [c.split], [c.fec], [c.an], [c.laneMap], [c.txPolarity, c.rxPolarity],
    c.macAddr, c.mcast, [c.maxFrame], [c.outerTpid], [c.untaggedOk], [c.pauseMode],
    [c.pauseBudget], [c.lpiTx], [c.twTx], [c.lpiIdle], [c.defaultRing]]
  ofRows r := { enable := val r 0, split := val r 1, fec := val r 2, an := val r 3,
                laneMap := val r 4, txPolarity := val r 5, rxPolarity := (row r 5).getD 1 0,
                macAddr := row r 6, mcast := row r 7, maxFrame := val r 8, outerTpid := val r 9,
                untaggedOk := val r 10, pauseMode := val r 11, pauseBudget := val r 12,
                lpiTx := val r 13, twTx := val r 14, lpiIdle := val r 15,
                defaultRing := val r 16 }

/-- A change of SPLIT without a LANE_MAP takes the identity on the new lanes. -/
def withLanes (mode : Nat) (m : Fin 16) (old new : MacCfg) (mapSet : Bool) : MacCfg :=
  if new.split = old.split ∨ mapSet then new
  else { new with laneMap := identityMap m.val (laneCount mode (decide (new.split = 1))) }

def macValid (mode : Nat) (m : Fin 16) (c : MacCfg) (sel : Nat → Bool) : Bool :=
  let split := decide (mode = 2) && (decide (c.split = 1) || decide (m.val % 2 = 1))
  let lanes := laneCount mode split
  decide (c.enable ≤ 1) && decide (c.split ≤ 1) &&
  (decide (c.split = 0) || (decide (mode = 2) && decide (m.val % 2 = 0))) &&
  (if pam4 mode then decide (c.fec = 2) else decide (c.fec ≤ 1)) && decide (c.an ≤ 1) &&
  laneMapOk m.val lanes c.laneMap && decide (c.txPolarity < 2 ^ lanes) &&
  decide (c.rxPolarity < 2 ^ lanes) && c.macAddr.all (fun a => decide (a % 2 = 0)) &&
  c.mcast.all (fun a => decide (a % 2 = 1)) && within 64 9216 c.maxFrame &&
  decide (c.outerTpid ≤ 1) && decide (c.untaggedOk ≤ 1) && decide (c.pauseMode ≤ 2) &&
  decide (c.pauseBudget ≤ 1000) && decide (c.lpiTx ≤ 1) &&
  (!sel 14 || within (Config.twMin mode split) 1000000 c.twTx) &&
  within 1000 10000000 c.lpiIdle && (decide (c.defaultRing ≤ 63) || decide (c.defaultRing = 0xFF))

/-- The fields that change in OFF only (R254). -/
def macFixed (a b : MacCfg) : Bool :=
  decide (a.fec = b.fec) && decide (a.an = b.an) && decide (a.laneMap = b.laneMap) &&
  decide (a.txPolarity = b.txPolarity) && decide (a.rxPolarity = b.rxPolarity)

/-- The other MAC of a pair in PORT_MODE 2. -/
def pairOf (m : Fin 16) : Fin 16 := ⟨m.val / 2 * 2 + (1 - m.val % 2), by omega⟩

/-- ENABLE moves a MAC to or from OFF (R255). -/
def followEnable (m : Fin 16) (s : State) : State :=
  let c := s.net.macs[m]
  if c.cfg.enable = 1 then
    (if c.state = .off then s.modMac m fun x => { x with state := .down } else s)
  else match c.state with
    | .up => leaveUp m .off 5 s
    | .down => s.modMac m fun x => { x with state := .off }
    | .off => s

def execPortConfigure (r : Req) (g : GReq) (s : State) : Out :=
  runConfig 0x0502 macTable.flds r g
    (fun s => (macIndex s g.index).map fun m => macTable.rows s.net.macs[m].cfg)
    (fun rows s => match macIndex s g.index with
      | none => .error eRange
      | some m => do
        let old := s.net.macs[m].cfg
        let c := withLanes s.net.portMode m old (macTable.ofRows rows) (selects g 4)
        let off := decide (s.net.macs[m].state = .off)
        need (macValid s.net.portMode m c (selects g)) eRange
        need (decide (c.split = old.split) ||
          (off && decide (s.net.macs[pairOf m].state = .off))) eState
        need (off || macFixed c old) eState
        let s := s.modMac m fun x => clipDebt s { x with cfg := c }
        let s := if c.split = old.split then s
          else s.modMac (pairOf m) fun x =>
            { x with cfg := { x.cfg with laneMap := identityMap (pairOf m).val 1 } }
        pure (followEnable m s)) s

def execPortConfigureReadBack (r : Req) (index : Nat) (s : State) : Out :=
  runReadBack 0x0582 macTable.flds r index
    (fun s => (macIndex s index).map fun m => macTable.rows s.net.macs[m].cfg) s

/-- R262. A VID has 12 bits. -/
def execVlanList (r : Req) (mac : Nat) (entries : List VlanEntry) (s : State) : Out :=
  runSimple 0x0503 (8 + 4 * entries.length) r (fun s => match macIndex s mac with
    | none => .error eRange
    | some m => do
      let ok := fun (e : VlanEntry) => decide (e.outer < 4096) && decide (e.inner.getD 0 < 4096)
      need (decide (entries.length ≤ 64) && entries.all ok) eRange
      pure (s.modMac m fun c => { c with vlans := entries })) s

/-- R263: a VLAN entry number, 0xFE any entry, or 0xFF untagged. -/
def steerOk (x : SteerRule) : Bool :=
  decide (x.macMask < 2 ^ 16) && decide (x.etherType < 2 ^ 16) &&
  (decide (x.vlan < 64) || decide (x.vlan = 0xFE) || decide (x.vlan = 0xFF)) &&
  decide (x.ipProto < 256) && decide (x.portLo < 2 ^ 16) && decide (x.portHi < 2 ^ 16) &&
  decide (x.portLo ≤ x.portHi) && (decide (x.ring < 64) || decide (x.ring = 0xFF))

def execSteeringTable (r : Req) (rules : List SteerRule) (s : State) : Out :=
  runSimple 0x0504 (8 + 16 * rules.length) r (fun s => do
    need (decide (rules.length ≤ 64) && rules.all steerOk) eRange
    pure (s.modNet fun n => { n with steering := rules })) s

def macCode : MacState → Nat
  | .off => 0
  | .down => 1
  | .up => 2

def execPortStatus (r : Req) (mac : Nat) (s : State) : Out :=
  runRead 0x0510 (r.len = 1) r (fun s => match macIndex s mac with
    | none => .error eRange
    | some m =>
      let c := s.net.macs[m]
      .ok (le 1 (macCode c.state) ++ le 1 c.downReason ++ le 6 0 ++
        c.counters.toList.flatMap (le 8))) s

/-! ### Link state (09 R255, R256, R258) -/

/-- Lock, alignment and training have held for 10 ms with no fault; from now on alignment markers lie on the line. -/
def execLinkUp (mac : Fin 16) (s : State) : Out :=
  if s.net.macs[mac].state = .down then
    let (p, s) := freshNat s
    .next (raise 0x0501 mac.val 0 (s.modMac mac fun c => { c with state := .up, markers := some p }))
  else .next s

/-- Loss of lock, of alignment, high BER or a fault: reasons 0 to 4. -/
def execLinkDown (mac : Fin 16) (reason : Nat) (s : State) : Out :=
  if s.net.macs[mac].state = .up ∧ reason ≤ 4 then .next (leaveUp mac .down reason s) else .next s

def execLaneSkewChange (mac : Fin 16) (lane : Nat) (skew : Int) (s : State) : Out :=
  let c := s.net.macs[mac]
  if c.state = .up ∧ 0 < lane ∧ lane < lanesOf s mac ∧ (assoc c.skew lane).getD 0 ≠ skew then
    let s := s.modMac mac fun x => { x with skew := assocSet x.skew lane skew }
    .next (raise 0x0503 (mac.val + lane * 256) (toCode 64 skew) (countMac mac cSkewChange s))
  else .next s

/-! ### PAUSE and PFC (09 R266 to R268, R271) -/

/-- One pause quantum is 512 bit times. -/
def quantum (s : State) (m : Fin 16) : Nat := 8 * grid s m

/-- A window of class `cls` is fixed; it replaces the one before it at its own opening. -/
def fixWindow (m : Fin 16) (cls queues time : Nat) (s : State) : State :=
  let o := physNow s + 64 * calNs
  let cut := fun (w : PauseWin) =>
    if w.cls = cls then { w with closing := min w.closing (max o w.opening) } else w
  let w : PauseWin := { cls := cls, queues := queues, opening := o, closing := o + time * quantum s m }
  s.modMac m fun c =>
    { c with windows := c.windows.map cut ++ (if time = 0 then [] else [w]) }

/-- The queues of a PFC class. -/
def classQueues (c : Mac) (v : Nat) : Nat :=
  (fins 32).foldl (fun n q => n + if c.queues[q].cfg.pfcClass = v then 2 ^ q.val else 0) 0

/-- The classes of a PFC frame: those enabled take their windows; a time without its enable bit is
ignored and counted. -/
def pfcClasses (m : Fin 16) (p : PauseFrame) (s : State) : State :=
  forAll (List.range 8) (fun v t =>
    let time := p.times.getD v 0
    if bitOf p.enables v then fixWindow m v (classQueues t.net.macs[m] v) time t
    else if time = 0 then t else countMac m cPfcIgnored t) s

/-- A pause frame that passed checks 1 to 5. -/
def takePause (m : Fin 16) (p : PauseFrame) (s : State) : State :=
  let c := s.net.macs[m]
  let want : Nat := if c.cfg.pauseMode = 1 then 0x0001 else 0x0101
  let known := decide (p.opcode = 0x0001) || decide (p.opcode = 0x0101)
  if !known ∨ (c.cfg.pauseMode ≠ 0 ∧ p.opcode ≠ want) then raise 0x0511 m.val p.opcode s
  else if c.cfg.pauseMode = 0 then s
  else if p.da ≠ pauseAddress ∧ p.da ∉ c.cfg.macAddr then s
  else if c.budgetOut then countMac m cOverBudget s
  else if p.opcode = 0x0001 then fixWindow m 0 (2 ^ 32 - 1) p.time s
  else pfcClasses m p s

/-- R261 checks 1 to 6, with R266 at check 6. -/
def execPauseFrame (mac : Fin 16) (p : PauseFrame) (s : State) : Out :=
  let c := s.net.macs[mac]
  if c.state ≠ .up then .next s
  else if p.pcsError then .next (dropFrame mac rPcs s)
  else if !p.fcsOk then .next (dropFrame mac rFcs s)
  else if p.length < 64 then .next (dropFrame mac rRunt s)
  else if c.cfg.maxFrame < p.length then .next (dropFrame mac rOversize s)
  else if !daOk c.cfg p.da 0x8808 then .next (dropFrame mac rDaMiss s)
  else .next (dropFrame mac rMacControl (takePause mac p s))

/-- The STROKE frames whose first bit is to leave inside an open window are re-committed no earlier
than its close, or dropped. -/
def sweepPaused (m : Fin 16) (s : State) : State :=
  forAll s.net.macs[m].calendar (fun r t =>
    match pausedAt t t.net.macs[m] r.queue r.start with
    | some close => missSlot m r (close + grid t m) true t
    | none => t) s

/-- The windows of a class whose opening has come. -/
def execPauseWindowOpen (mac : Fin 16) (cls : Fin 8) (s : State) : Out :=
  let due := fun (w : PauseWin) =>
    decide (w.cls = cls.val) && decide (w.opening ≤ physNow s) && !w.opened
  let c := s.net.macs[mac]
  match c.windows.find? due with
  | none => .next s
  | some w =>
    let s := s.modMac mac fun c =>
      { c with windows := c.windows.map fun w => if due w then { w with opened := true } else w,
               pausedFrom := some (c.pausedFrom.getD w.opening) }
    .next (sweepPaused mac s)

/-- The windows of a class whose close has come. -/
def execPauseWindowClose (mac : Fin 16) (cls : Fin 8) (s : State) : Out :=
  .next (closeWindows mac (physNow s)
    (fun w => decide (w.cls = cls.val) && decide (w.closing ≤ physNow s)) s)

/-- Paused time of the present second. -/
def pausedSoFar (s : State) (m : Fin 16) : Nat :=
  let c := s.net.macs[m]
  (if c.pausedSec = nowSec s then c.pausedIn else 0) +
  (match c.pausedFrom with
   | some a => physNow s - max a (secondPhys s)
   | none => 0)

/-- R268: the windows in force close and pause frames are ignored to the end of the second. -/
def execPauseBudgetExhausted (mac : Fin 16) (s : State) : Out :=
  let c := s.net.macs[mac]
  if c.budgetOut ∨ 1000 ≤ c.cfg.pauseBudget ∨ pausedSoFar s mac = 0 ∨
      pausedSoFar s mac < c.cfg.pauseBudget * 1000000 * calNs then .next s
  else
    let s := closeWindows mac (physNow s) (fun _ => true) s
    .next (raise 0x0504 mac.val 0
      (s.modMac mac fun x => { x with budgetOut := true, pausedSec := nowSec s }))

def execPauseBudgetRestore (mac : Fin 16) (s : State) : Out :=
  let c := s.net.macs[mac]
  if c.budgetOut ∧ c.pausedSec ≠ nowSec s then
    .next (raise 0x0505 mac.val 0 (s.modMac mac fun x => { x with budgetOut := false }))
  else .next s

/-! ### LPI (09 R269, R270) -/

/-- Some gate opens in (a, b]: an interval boundary at which a closed gate becomes open. -/
def gateOpensIn (mac : Mac) (b : Nat) : Nat → Nat → Bool
  | 0, _ => false
  | n + 1, a => match macGates mac a with
    | (_, none) => false
    | (g, some e) =>
      if b < e ∨ e ≤ a then false
      else
        let g' := (macGates mac e).1
        if (g' ||| g) ≠ g then true else gateOpensIn mac b n e

/-- The queues have been empty for LPI_IDLE; no reservation and no gate stands in the way. -/
def execLpiEntry (mac : Fin 16) (s : State) : Out :=
  let c := s.net.macs[mac]
  let span := (c.cfg.twTx + c.cfg.lpiIdle) * calNs
  let quiet := (fins 32).all fun q => decide (c.queues[q].frames = []) &&
    decide (c.queues[q].emptyAt + c.cfg.lpiIdle ≤ s.clock.ticks.toNat)
  if c.state = .up ∧ c.cfg.lpiTx = 1 ∧ awake s mac ∧ quiet ∧ c.tx = none ∧
      c.calendar.all (fun r => decide (calNow s + span < r.t)) ∧
      !gateOpensIn c (calNow s + span) (gateFuel c) (calNow s) then
    .next (s.modMac mac fun x => { x with lpi := .asleep })
  else .next s

def execLpiWake (mac : Fin 16) (s : State) : Out :=
  let c := s.net.macs[mac]
  if c.lpi = .asleep then
    .next (s.modMac mac fun x =>
      { x with lpi := .waking, lpiReady := calNow s + c.cfg.twTx * calNs })
  else .next s

end Sys2Proof.Machine
end

