-- ==== Sys2Proof/Machine/Power.lean ====
section
/-! DEFINITION. Speed modes, pace, temperature and the core regulator (01 R42 to R49; 15 R414; 18 R488,
R499, R500). -/

namespace Sys2Proof.Machine

def modeCode : SpeedMode → Nat
  | .sprint => 0
  | .balanced => 1
  | .quiet => 2

def modeOf : Nat → Option SpeedMode
  | 0 => some .sprint
  | 1 => some .balanced
  | 2 => some .quiet
  | _ => none

/-- The core supply target, millivolts (01 R45). -/
def supplyTarget : SpeedMode → Nat
  | .sprint => 800
  | .balanced => 720
  | .quiet => 620

/-- ARG_A of the mode-change event (15 R431). -/
def modeArg (new old : SpeedMode) (guard above : Bool) : Nat :=
  modeCode new + 4 * modeCode old + (if guard then 16 else 0) + (if above then 32 else 0)

/-- The floor and the admission rate in force change by `f`: what the buckets and the tokens have accrued
till now accrues at the old rate, and the pace-lead events follow the new floor (01 R44, R47). -/
def changeRule (f : Power → Power) (s : State) : State := judgePace ((settleBuckets s).modPower f)

/-- A change begins (R47): to a slower mode the new floor applies at once. -/
def beginChange (target : SpeedMode) (guard : Bool) (source : Option (Source × Nat)) (s : State) :
    State :=
  let slower := decide (floorOf s.power.mode < floorOf target)
  let c : ModeChange :=
    { target := target, stage := if slower then .drain else .rampUp, guard := guard,
      source := source, firstNew := s.net.nextRes }
  (changeRule (fun p => { p with change := some c }) s).modWear fun w => { w with modeTouched := true }

/-- The last step of a change: the mode mirror, the mode-change event and the command's completion. -/
def endChange (c : ModeChange) (above : Bool) (s : State) : State :=
  let old := s.power.mode
  let s := changeRule (fun p =>
    { p with mode := c.target, change := none, lastGuard := c.guard }) s
  let s := s.modWear fun w => { w with modeTouched := true }
  let s := raise 0x0101 (modeArg c.target old c.guard above) 0 s
  match c.source with
  | some (src, q) => completeCmd 0x0101 q stOk src s
  | none => s

/-- SPEED_MODE (01 R46, R48; 18 R488). -/
def execSpeedMode (r : Req) (mode : Nat) (s : State) : Out :=
  runCommand 0x0101 (r.len = 1) r (fun p s => match modeOf mode with
    | none => (s, .err eRange)
    | some m =>
      if s.power.change.isSome then (s, .err eState)
      else if s.power.regulatorDead then (s, .err eHw)
      else if m = s.power.mode then
        (completeCmd 0x0101 p.sequence stOk r.src (raise 0x0101 (modeArg m m false false) 0 s),
         .accepted)
      else (beginChange m false (some (r.src, p.sequence)) s, .accepted)) s

/-- Whether a reservation made under the old floor still stands. -/
def oldReservation (c : ModeChange) (s : State) : Bool :=
  s.net.macs.toList.any fun m => m.calendar.any fun r => decide (r.id < c.firstNew)

/-- MODE_RESERVATIONS_DRAINED (01 R47): step 2 of a change to a slower mode has ended. -/
def execModeReservationsDrained (s : State) : Out :=
  match s.power.change with
  | some c =>
    if c.stage = .drain ∧ !oldReservation c s then
      .next (s.modPower fun p => { p with change := some { c with stage := .rampDown } })
    else .next s
  | none => .next s

/-- SUPPLY_SET_POINT_REACHED (01 R47): a slower mode is complete; a faster one waits for P. -/
def execSupplySetPointReached (s : State) : Out :=
  match s.power.change with
  | some c =>
    match c.stage with
    | .rampDown => .next (endChange c false (s.modPower fun p => { p with setPointMv := supplyTarget c.target }))
    | .rampUp => .next (s.modPower fun p =>
        { p with setPointMv := supplyTarget c.target, change := some { c with stage := .governing } })
    | _ => .next s
  | none => .next s

/-- The largest P of the device is within the governing ratio of a mode, (floor - GUARD - C) / F on the NTS
path (01 R45). -/
def governs (m : SpeedMode) (s : State) : Bool :=
  decide (s.power.paceDevice * 126 + (s.net.guardNs + 34) * 4096 ≤ floorOf m * 4096)

/-- PACE_WITHIN_GOVERNING_RATIO (01 R47). -/
def execPaceWithinGoverningRatio (s : State) : Out :=
  match s.power.change with
  | some c => if c.stage = .governing ∧ governs c.target s then .next (endChange c false s) else .next s
  | none => .next s

/-- GOVERNING_WAIT_TIMEOUT (01 R47): the change completes all the same. -/
def execGoverningWaitTimeout (s : State) : Out :=
  match s.power.change with
  | some c => if c.stage = .governing then .next (endChange c (!governs c.target s) s) else .next s
  | none => .next s

/-- REGULATOR_TIMEOUT (18 R488): the set point stays, and a change in progress ends with E_HW
(DEDUCED: every change is refused from now on). -/
def execRegulatorTimeout (s : State) : Out :=
  let s := s.modPower fun p => { p with regulatorFaults := p.regulatorFaults + 1 }
  match s.power.change with
  | some c =>
    let s := changeRule (fun p => { p with regulatorDead := true, change := none }) s
    .next (match c.source with
      | some (src, q) => completeCmd 0x0101 q eHw src s
      | none => s)
  | none => .next (s.modPower fun p => { p with regulatorDead := true })

/-- THERMAL_GUARD (01 R49): 103 °C or more in SPRINT. -/
def execThermalGuard (s : State) : Out :=
  if s.power.mode = .sprint ∧ s.power.change = none ∧ 103 * 128 ≤ s.power.junction ∧
      !s.power.regulatorDead then
    .next (beginChange .balanced true none (raise 0x0102 (toCode 16 s.power.junction) 0 s))
  else .next s

/-- THERMTRIP (18 R500): 115 °C or more. -/
def execThermtrip (s : State) : Out :=
  if 115 * 128 ≤ s.power.junction ∧ !s.power.inReset then
    .next (s.modPower fun p => { p with thermtripLow := true })
  else .next s

/-- The highest of a list, from `x` on. -/
def maxInt (x : Int) : List Int → Int
  | [] => x
  | y :: ys => maxInt (max x y) ys

/-- TEMPERATURE_SAMPLE (18 R499): the highest of the 16 sensors after their TEMP_OFFSET (17 R476). -/
def execTemperatureSample (sensors : List Int) (s : State) : Out :=
  if sensors.length = 16 then
    let t := fun i => sensors.getD i 0 + ofCode 16 (calNat s (25432 + 2 * i) 2)
    let v := maxInt (t 0) ((List.range 16).map t)
    .next (s.modPower fun p =>
      { p with junction := v, temps := (s.clock.ticks.toNat, v) :: keepSince (tempFloor s) (tempsOf s) })
  else .next s

/-- A pace ratio fits 16 bits (01 R42). -/
def paceOk (p : Nat) : Bool := decide (p < 65536)

/-- PACE_UPDATE (01 R43, R44): the largest ratios of 10 µs. -/
def execPaceUpdate (nts ptp sched host device : Nat) (s : State) : Out :=
  if paceOk nts && paceOk ptp && paceOk sched && paceOk host && paceOk device then
    .next (judgePace (s.modPower fun p =>
      { p with paceNts := nts, pacePtp := ptp, paceSched := sched, paceHost := host,
               paceDevice := device }))
  else .next s

/-- PACE_MIRROR_UPDATE (01 R43): the largest ratio of each engine class. -/
def execPaceMirrorUpdate (largest : List Nat) (s : State) : Out :=
  if largest.length = 11 ∧ largest.all paceOk then
    .next (s.modPower fun p => { p with mirror := tab fun i => largest.getD i.val 0 })
  else .next s

end Sys2Proof.Machine
end

