-- ==== Sys2Proof/Machine/Receive.lean ====
section
/-! DEFINITION. A received frame: the checks of 09 R261, the VLAN list (R262), the service match and the steering
table (R263), and delivery to a receive ring (R264; 14 R396, R397). -/

namespace Sys2Proof.Machine

/-! ### The VLAN list (09 R262) -/

/-- The tags that count: one of VID 0 is as if absent. -/
def realTags (f : Frame) : List Tag := f.tags.filter fun t => decide (t.vid ≠ 0)

/-- OUTER_TPID as a TPID. -/
def outerTpid (c : MacCfg) : Nat := if c.outerTpid = 0 then 0x8100 else 0x88A8

/-- The tag stack matches the entry. -/
def vlanMatch (c : MacCfg) (tags : List Tag) (e : VlanEntry) : Bool :=
  match tags with
  | [t] => decide (t.tpid = 0x8100) && decide (e.outer = t.vid) && decide (e.inner = none)
  | [o, i] => decide (o.tpid = outerTpid c) && decide (i.tpid = 0x8100) && decide (e.outer = o.vid) &&
      (decide (e.inner = none) || decide (e.inner = some i.vid))
  | _ => false

/-- The VLAN entry of a frame, 0xFF for an untagged one; none at a VLAN miss. -/
def vlanEntry (m : Mac) (tags : List Tag) : Option Nat :=
  match tags with
  | [] => if m.cfg.untaggedOk = 1 then some 0xFF else none
  | _ => m.vlans.findIdx? (vlanMatch m.cfg tags)

/-! ### The service match (09 R263) -/

/-- FAMILY, ADDRESS, MAC_MASK and VLAN of an address match the frame. -/
def addressMatch (enable family address macMask vlan entry : Nat) (mac : Fin 16) (ip : IpHdr) : Bool :=
  decide (enable = 1) && decide (ip.v6 = decide (family = 6)) && decide (ip.dst = address) &&
  bitOf macMask mac.val && decide (vlan = entry) && !ip.fragment

/-- An address answers while it is no standby replica and the device is not FENCED (16 R450). -/
def answers (s : State) (standby : Bool) : Bool := !standby && !s.stack.fenced

def ntsMatch (s : State) (mac : Fin 16) (entry : Nat) (ip : IpHdr) (port : Nat) : Option (Fin 64) :=
  (fins 64).find? fun i =>
    let a := s.net.nts.addresses[i]
    addressMatch a.cfg.enable a.cfg.family a.cfg.address a.cfg.macMask a.cfg.vlan entry mac ip &&
    decide (port = a.cfg.udpPort) && answers s a.standby

def ptpMatch (s : State) (mac : Fin 16) (entry : Nat) (ip : IpHdr) (port : Nat) : Option (Fin 16) :=
  (fins 16).find? fun i =>
    let a := s.net.ptp.addresses[i]
    addressMatch a.cfg.enable a.cfg.family a.cfg.address a.cfg.macMask a.cfg.vlan entry mac ip &&
    (decide (port = 319) || decide (port = 320)) && answers s a.standby

/-- Check 10: the UDP checksum of a service frame. -/
def udpOk (ip : IpHdr) (c : Csum) : Bool :=
  match c with
  | .ok => true
  | .bad => false
  | .zero => !ip.v6

/-- What a payload is to the NTS service: octets that are no NTP message fail its length check. -/
def asNtp (p : Payload) : NtpMsg :=
  match p with
  | .ntp m => m
  | _ => { length := 0, version := 0, mode := 0, poll := 0, transmit := 0, fields := [],
           badField := false, octets := [] }

/-- What a payload is to the PTP service: octets that are no PTP message fail its header check. -/
def asPtp (p : Payload) : PtpMsg :=
  match p with
  | .ptp m => m
  | _ => { msgType := 0xF, lengthOk := false, version := 0, minor := 0, domain := 0, srcClock := 0,
           srcPort := 0, seqId := 0, twoStep := false, correction := 0, origin := ⟨0, 0, 0⟩,
           reqClock := 0, reqPort := 0, logInterval := 0, announce := ⟨0, 0, 0, 0, 0, 0, none⟩, neg := [],
           unknownTlv := 0, auth := [], authLast := true, octets := [] }

/-! ### Steering (09 R263) -/

/-- A rule that matches any of its fields: 0 and 0xFE say any. -/
def steerMatch (f : Frame) (entry : Nat) (r : SteerRule) : Bool :=
  bitOf r.macMask f.mac.val && (decide (r.etherType = 0) || decide (r.etherType = f.etherType)) &&
  (decide (r.vlan = 0xFE) || decide (r.vlan = entry)) &&
  (decide (r.ipProto = 0) || match f.ip with
    | some ip => decide (ip.proto = r.ipProto)
    | none => false) &&
  (decide (r.portLo = 0 ∧ r.portHi = 0) || match f.udp with
    | some u => decide (r.portLo ≤ u.dstPort ∧ u.dstPort ≤ r.portHi)
    | none => false)

/-- The ring and RULE of a frame; DEFAULT_RING with RULE 0xFF where no rule matches. -/
def steer (s : State) (f : Frame) (entry : Nat) : Nat × Nat :=
  match s.net.steering.findIdx? (steerMatch f entry) with
  | some k => ((s.net.steering[k]?.map (·.ring)).getD 0, k)
  | none => (s.net.macs[f.mac].cfg.defaultRing, 0xFF)

/-- Frames of the host in banks 12 to 15, in lines of 64 B (01 R34). -/
def hostLines (s : State) : Nat :=
  reservedLines s isHost + s.net.macs.toList.foldl (fun n c =>
    n + c.queues.toList.foldl (fun k q =>
      k + ((q.frames.filter fun x => isHost x.origin).map fun x => lines x.length).foldl (· + ·) 0) 0) 0

def hostBufferFull (s : State) (len : Nat) : Bool := decide (65536 < hostLines s + lines len)

/-- CSUM of a receive write-back: the IPv4 header, then the UDP checksum; a zero one over IPv4 was not
computed. -/
def rxCsum (f : Frame) : Nat :=
  (match f.ip with
   | some ip => if ip.v6 then 0 else if ip.headerOk then 1 else 2
   | none => 0) +
  4 * (match f.ip, f.udp with
   | some ip, some u =>
     if ip.fragment then 0 else match u.csum with
     | .ok => 1
     | .bad => 2
     | .zero => if ip.v6 then 2 else 0
   | _, _ => 0)

/-- The next descriptor of an enabled ring, if the host has handed one over. -/
def rxDescriptor (s : State) (r : Fin 64) : Option Nat :=
  let k := s.host.rx[r]
  if !hostReachable s ∨ !k.enabled ∨ k.fetched = k.tail % 2 ^ k.size then none else some k.fetched

/-- The frame stands in the descriptor's buffer, cut to BUFFER_SIZE, and its write-back follows. -/
def rxDeliver (r : Fin 64) (i : Nat) (f : Frame) (rule : Nat) (s : State) : State :=
  let k := s.host.rx[r]
  let room := (Config.rxBufferSize r.val i s.host.freeCount).toNat
  let wb : RxWriteBack :=
    { index := i, stamp := ingressStamp s f.mac (stampAt s f.sub),
      flags := stampFlags s true (portCalibrated s f.mac) false,
      epoch := s.clock.epoch, mac := f.mac.val, length := min (f.length - 4) room, csum := rxCsum f,
      truncated := decide (room < f.length - 4), rule := rule }
  let j := (i + 1) % 2 ^ k.size
  let s := (s.modRx r fun k => { k with fetched := j, head := j, lastRx := some wb }).modHost
    fun h => { h with freeCount := h.freeCount + 1 }
  if k.wbIrq then match asFin 64 k.vector with
    | some v => signalVector v s
    | none => s
  else s

/-- Checks 11 to 13 of a frame for the host; a ring of 0xFF says DROP. -/
def rxHost (f : Frame) (entry : Nat) (s : State) : State :=
  let (ring, rule) := steer s f entry
  if hostBufferFull s f.length then dropFrame f.mac rBuffer s
  else match asFin 64 ring with
  | none => dropFrame f.mac rNoRule s
  | some r => match rxDescriptor s r with
    | none => dropFrame f.mac rRingFull s
    | some i => rxDeliver r i f rule s

/-- The service that a frame is for: an NTS address or a PTP address. -/
inductive Service where
  | nts (i : Fin 64)
  | ptp (i : Fin 16)
deriving DecidableEq, Repr

def serviceOf (s : State) (f : Frame) (entry : Nat) : Option (Service × IpHdr × UdpHdr) :=
  match f.ip, f.udp with
  | some ip, some u =>
    match ntsMatch s f.mac entry ip u.dstPort with
    | some i => some (.nts i, ip, u)
    | none => (ptpMatch s f.mac entry ip u.dstPort).map fun i => (.ptp i, ip, u)
  | _, _ => none

/-- Checks 9 to 11 of a frame for a service, then the checks of the service. -/
def rxService (v : Service) (f : Frame) (ip : IpHdr) (u : UdpHdr) (s : State) : State :=
  let stamp := ingressStamp s f.mac (stampAt s f.sub)
  let full := match v with
    | .nts _ => ntsBufferFull s f.length
    | .ptp _ => ptpBufferFull s f.length
  if !ip.headerOk then dropFrame f.mac rIpHeader s
  else if !udpOk ip u.csum then dropFrame f.mac rUdpChecksum s
  else if full then dropFrame f.mac rBuffer s
  else match v with
    | .nts i => ntsRequest i f ip u.srcPort (asNtp f.payload) stamp s
    | .ptp i => ptpRequest i f ip u.srcPort u.dstPort (asPtp f.payload) stamp s

/-- A frame of EtherType 0x8808 read as a MAC control frame: its payload is a number with the first octet
lowest, its fields stand with the high octet first (IEEE 802.3 Annex 31B, IEEE 802.1Qbb). -/
def asPause (f : Frame) : PauseFrame :=
  let n := match f.payload with
    | .other n => n
    | _ => 0
  let field := fun (k : Nat) => n / 256 ^ k % 256 * 256 + n / 256 ^ (k + 1) % 256
  { pcsError := f.pcsError, fcsOk := f.fcsOk, length := f.length, da := f.da, opcode := field 0,
    time := field 2, enables := field 2, times := (List.range 8).map fun v => field (4 + 2 * v) }

/-- R261 in its order. A frame of EtherType 0x8808 ends at check 6, its pause taken as that of a pause
frame (R266). -/
def execFrameReceived (f : Frame) (s : State) : Out :=
  let m := s.net.macs[f.mac]
  let tags := realTags f
  if m.state ≠ .up then .next s
  else if f.pcsError then .next (dropFrame f.mac rPcs s)
  else if !f.fcsOk then .next (dropFrame f.mac rFcs s)
  else if f.length < 64 then .next (dropFrame f.mac rRunt s)
  else if m.cfg.maxFrame < f.length then .next (dropFrame f.mac rOversize s)
  else if !daOk m.cfg f.da f.etherType then .next (dropFrame f.mac rDaMiss s)
  else if f.etherType = 0x8808 then .next (dropFrame f.mac rMacControl (takePause f.mac (asPause f) s))
  else if 2 < tags.length then .next (dropFrame f.mac rTagExcess s)
  else match vlanEntry m tags with
  | none => .next (dropFrame f.mac rVlanMiss s)
  | some entry => match serviceOf s f entry with
    | some (v, ip, u) => .next (rxService v f ip u s)
    | none => .next (rxHost f entry s)

end Sys2Proof.Machine
end

