-- ==== Sys2Proof/Machine/Registers.lean ====
section
/-! DEFINITION. The register window: what every register reads, and what a write to it does (14 R375, R377 to
R402, 00 R19, R20). Offsets are those of BAR0. -/

namespace Sys2Proof.Machine

/-! ### Doorbells (R383 to R389) -/

/-- The request that 64 octets of a payload spell (R383). -/
def parseRequest (o : Bytes) : Pend :=
  let n := fun (a w : Nat) => ofLe ((o.drop a).take w)
  let bulk := bitOf (n 6 2) 0
  let bad := decide (56 < n 4 2) || decide (2 ≤ n 6 2) ||
    (bulk && (decide (n 4 2 ≠ 16) || decide (0x4000 < n 8 4 + n 12 4) || decide (0x4000 < n 16 4 + n 20 4)))
  { opcode := n 0 2, sequence := n 2 2, length := if bulk then n 12 4 else n 4 2, badHeader := bad,
    bulk := bulk, rspOffset := if bulk then n 16 4 else 0, rspCapacity := if bulk then n 20 4 else 0 }

/-- A request comes in: Scribe takes it up, or it waits behind an older one or for the supervisor. -/
def submit (src : Source) (p : Pend) (s : State) : State :=
  match hand src s with
  | some _ => setBehind src (behindOf src s ++ [p]) s
  | none => if served src s then takeUp src [p] s else setHand src (some p) s

/-- GO of a mailbox (R385). -/
def mailboxGo (m : Fin 16) (s : State) : State :=
  if s.host.boxes[m].busy then modBox m (fun b => { b with overrun := true }) s
  else
    let p := parseRequest s.host.boxes[m].request
    submit (.mailbox m) p (modBox m (fun b => { b with busy := true, done := false }) s)

def execMailboxDoorbell (m : Fin 16) (s : State) : Out :=
  if hostReachable s then .next (mailboxGo m s) else .next s

def portCode : Port → Nat
  | .pcie => 1
  | .spi => 2

/-- The port's access arrives: the PCIe link is up, and SPI always reaches the device out of reset. -/
def portReaches (p : Port) (s : State) : Bool :=
  match p with
  | .pcie => hostReachable s
  | .spi => !s.power.inReset

/-- GO of the emergency mailbox, by its owner only. -/
def emergencyGo (p : Port) (s : State) : State :=
  if s.host.em.owner ≠ portCode p then s
  else if s.host.em.mb.busy then modEm (fun b => { b with overrun := true }) s
  else submit .emergency (parseRequest s.host.em.mb.request)
    (modEm (fun b => { b with busy := true, done := false }) s)

def execEmergencyDoorbell (p : Port) (s : State) : Out :=
  if portReaches p s then .next (emergencyGo p s) else .next s

/-! ### Ownership of the emergency mailbox (R388) -/

def claimEm (p : Port) (s : State) : State :=
  s.modHost fun h =>
    if h.em.owner = 0 then { h with em := { h.em with owner := portCode p } }
    else if h.em.owner = portCode p then h
    else { h with em := { h.em with waiting := true } }

/-- The owner loses it: a queued claim of the other port is granted. -/
def loseEm (s : State) : State :=
  s.modHost fun h =>
    { h with em := { h.em with owner := if h.em.waiting then 3 - h.em.owner else 0, waiting := false } }

def releaseEm (p : Port) (s : State) : State := if s.host.em.owner = portCode p then loseEm s else s

def execEmClaim (p : Port) (s : State) : Out :=
  if portReaches p s then .next (claimEm p s) else .next s

def execEmRelease (p : Port) (s : State) : Out :=
  if portReaches p s then .next (releaseEm p s) else .next s

def execEmOwnershipTimeout (s : State) : Out :=
  if s.host.em.owner ≠ 0 then .next (loseEm s) else .next s

/-- ADMIN_LOCK (R387). -/
def lockAdmin (s : State) : State := s.modHost fun h => { h with adminLock := true }

def execAdminLock (s : State) : Out := if hostReachable s then .next (lockAdmin s) else .next s

/-! ### What registers read -/

/-- Eight octets of a list from `o` on, as a word. -/
def wordAt (l : Bytes) (o : Nat) : Nat := ofLe ((l.drop o).take 8)

def readIdentity (s : State) (o : Nat) : Nat :=
  match o with
  | 0x00 => 0x00000011_73001F4B
  | 0x08 => Config.deviceId % 2 ^ 64
  | 0x10 => Config.deviceId / 2 ^ 64 % 2 ^ 64
  | 0x18 => Config.eui64 % 2 ^ 64
  | 0x20 =>
    fwVersion s + (match s.keys.running with
      | some i => i.val
      | none => 0) * 2 ^ 32 + flag s.keys.onTrial 33 + s.keys.life.val * 2 ^ 34 +
    (if s.stack.paired then s.stack.position else 0xFF) * 2 ^ 40
  | 0x28 => s.host.alive.toNat + flag s.host.stalled 32 + flag s.host.restarting 33 + flag s.host.halted 34
  | 0x30 => s.keys.bootCount
  | _ => 0

def readInterrupt (s : State) (o : Nat) : Nat :=
  match o with
  | 0x000 => (intCause s).toNat
  | 0x008 => s.host.mask.toNat
  | 0x010 => s.host.mbDone.toNat
  | 0x018 => s.host.wdt
  | 0xF00 => flag s.host.adminLock 0
  | _ => match asFin 64 ((o - 0x100) / 8) with
    | some v => if 0x100 ≤ o then s.host.holdoff[v] else 0
    | none => 0

/-- A mailbox block; ADMIN and LOCKED are given. -/
def readBox (b : Mailbox) (admin locked : Bool) (o : Nat) : Nat :=
  if o = 8 then flag b.busy 0 + flag b.done 1 + flag b.overrun 2 + flag admin 3 + flag locked 4
  else if 0x40 ≤ o ∧ o < 0x80 then wordAt b.request (o - 0x40)
  else if 0x80 ≤ o ∧ o < 0xC0 then wordAt b.response (o - 0x80)
  else 0

def readMailboxes (s : State) (o : Nat) : Nat :=
  match asFin 16 (o / 0x100) with
  | some m => readBox s.host.boxes[m] (decide (m.val < 4)) (s.host.adminLock && decide (m.val < 4)) (o % 0x100)
  | none => 0

def readEmergency (s : State) (o : Nat) : Nat :=
  match o with
  | 0x10 => s.host.em.owner + flag s.host.em.waiting 2
  | 0x18 => s.host.em.stage + s.host.em.cause * 256
  | _ => readBox s.host.em.mb false false o

/-- DP_DATA has an effect of its own and does not stand here. -/
def readDataPort (s : State) (o : Nat) : Nat :=
  let d := s.host.dp
  match o with
  | 0x00 => d.addr
  | 0x10 => flag d.autoInc 0 + flag d.error 1
  | 0x18 => d.dmaHost
  | 0x20 => d.dmaDev
  | 0x28 => d.length + flag d.toHost 24 + flag d.busy 26 + flag d.failed 27
  | 0x38 => d.injectBusy.toNat
  | _ => 0

/-- The speed-mode and pace mirror. -/
def readMirror (s : State) (o : Nat) : Nat :=
  let p := s.power
  let four := fun (k : Nat) => (List.range 4).foldl (fun n i =>
    n + (p.mirror.toList.getD (k + i) 0) * 65536 ^ i) 0
  match o with
  | 0x00 => modeCode p.mode + (match p.change with
      | some c => 4 * modeCode c.target + 16
      | none => 0) + flag p.lastGuard 5 + p.setPointMv * 2 ^ 16 + toCode 16 p.junction * 2 ^ 32
  | 0x08 => four 0
  | 0x10 => four 4
  | 0x18 => four 8
  | _ => 0

def readQueue (k : PanQueue) (o : Nat) : Nat :=
  match o with
  | 0x00 => flag k.dma 0 + k.sizeLog2 * 2 + k.threshold * 2 ^ 16
  | 0x08 => k.base
  | 0x10 => k.producer
  | 0x18 => k.consumer
  | 0x20 => flag (decide (k.items = [])) 0 + flag k.underrun 1 + flag k.badConsumer 2
  | 0x28 => k.producerWb
  | 0x30 => k.lost
  | _ => 0

def readRing (r : Ring) (o : Nat) : Nat :=
  match o with
  | 0x00 => r.base
  | 0x08 => flag r.enabled 0 + r.sizeLog2 * 2 + r.vector * 256 + flag r.wbIrq 18 +
    r.queue * 2 ^ 24
  | 0x10 => r.tail
  | 0x18 => r.head
  | 0x20 => r.headWb
  | _ => 0

/-- The payload of the item in a read window, and its header at offset 0. -/
def readWindow (q : Fin 5) (k : PanQueue) (o : Nat) : Nat :=
  match k.window with
  | some i => wordAt (itemBytes q.val i) o
  | none => 0

/-- What a 64-bit register of BAR0 reads, beside the effects of DP_DATA and of a window pop. -/
def regRead (s : State) (a : Nat) : Nat :=
  if a < 0x1000 then readIdentity s a
  else if a < 0x2000 then readInterrupt s (a - 0x1000)
  else if a < 0x3000 then readMailboxes s (a - 0x2000)
  else if a < 0x4000 then readEmergency s (a - 0x3000)
  else if a < 0x5000 then readDataPort s (a - 0x4000)
  else if a < 0x6000 then readMirror s (a - 0x5000)
  else if a < 0x7000 then match asFin 5 ((a - 0x6000) / 0x40) with
    | some q => readQueue s.host.queues[q] (a % 0x40)
    | none => 0
  else if 0x10000 ≤ a ∧ a < 0x12000 then match asFin 64 (a / 0x40 % 64) with
    | some r => readRing (if a < 0x11000 then s.host.rx[r] else s.host.tx[r]) (a % 0x40)
    | none => 0
  else if 0x100000 ≤ a ∧ a < 0x105000 then match asFin 5 (a / 0x1000 % 256) with
    | some q => readWindow q s.host.queues[q] (a % 0x1000)
    | none => 0
  else if 0xF00000 ≤ a ∧ a < 0xF00400 then ofLe (s.host.msix.readBytes zeroByte (a - 0xF00000) 8)
  else 0

/-! ### What a write does (00 R19, R20) -/

/-- A register with the bits of `mask` written. -/
def merged (old mask value : Nat) : Nat :=
  (BitVec.ofNat 64 old &&& ~~~ BitVec.ofNat 64 mask ||| BitVec.ofNat 64 value &&& BitVec.ofNat 64 mask).toNat

/-- Bits `lo` to `hi - 1` of a number. -/
def bits (n lo hi : Nat) : Nat := n / 2 ^ lo % 2 ^ (hi - lo)

/-- The octets of a payload with a word written. -/
def putWord (l : Bytes) (o mask value : Nat) : Bytes :=
  l.take o ++ le 8 (merged (wordAt l o) mask value) ++ l.drop (o + 8)

/-- Causes that are set and become unmasked are sent (R381). -/
def unmask (old new : Nat) (s : State) : State :=
  forAll (List.range 11) (fun b s =>
    if bitOf old b && !bitOf new b && (intCause s).getLsbD b then signalVector (causeVector b) s else s) s

def writeInterrupt (o mask value : Nat) (s : State) : State :=
  let w1c := value % 2 ^ 64 &&& mask
  match o with
  | 0x000 => s.modHost fun h => { h with cause := h.cause &&& ~~~ BitVec.ofNat 64 w1c }
  | 0x008 =>
    let old := s.host.mask.toNat
    let new := merged old mask value % 2 ^ 11
    unmask old new (s.modHost fun h => { h with mask := BitVec.ofNat 64 new })
  | 0x010 => s.modHost fun h => { h with mbDone := h.mbDone &&& ~~~ BitVec.ofNat 16 w1c }
  | 0x018 =>
    let n := merged s.host.wdt mask value % 65536
    if within 10 10000 n then s.modHost fun h => { h with wdt := n } else s
  | 0xF00 => if bitOf w1c 0 then lockAdmin s else s
  | _ => match asFin 64 ((o - 0x100) / 8) with
    | some v =>
      if 0x100 ≤ o then s.modHost fun h =>
        { h with holdoff := h.holdoff.set v (merged h.holdoff[v] mask value % 65536) }
      else s
    | none => s

def writeMailboxes (o mask value : Nat) (s : State) : State :=
  match asFin 16 (o / 0x100) with
  | none => s
  | some m =>
    let p := o % 0x100
    let v := value &&& mask
    if p = 0 then (if bitOf v 0 then mailboxGo m s else s)
    else if p = 8 then modBox m (fun b => { b with overrun := b.overrun && !bitOf v 2 }) s
    else if 0x40 ≤ p ∧ p < 0x80 then
      modBox m (fun b => { b with request := putWord b.request (p - 0x40) mask value }) s
    else s

/-- The payload and GO are the owner's; EM_CLAIM is anyone's. -/
def writeEmergency (port : Port) (o mask value : Nat) (s : State) : State :=
  let v := value &&& mask
  let mine := decide (s.host.em.owner = portCode port)
  if o = 0 then (if bitOf v 0 then emergencyGo port s else s)
  else if o = 8 then modEm (fun b => { b with overrun := b.overrun && !bitOf v 2 }) s
  else if o = 0x10 then
    let s := if bitOf v 8 then claimEm port s else s
    if bitOf v 9 then releaseEm port s else s
  else if 0x40 ≤ o ∧ o < 0x80 then
    if mine then modEm (fun b => { b with request := putWord b.request (o - 0x40) mask value }) s else s
  else s

/-- The registers of DP_DMA are not available to the SPI port (R391). -/
def writeDataPort (port : Port) (o mask value : Nat) (s : State) : State :=
  let v := value &&& mask
  let d := s.host.dp
  let modDp := fun (f : DataPort → DataPort) => s.modHost fun h => { h with dp := f h.dp }
  if port = .spi ∧ 0x18 ≤ o ∧ o < 0x30 then s
  else match o with
    | 0x00 => modDp fun x => { x with addr := merged d.addr mask value % 2 ^ 32 }
    | 0x08 => writeDpData (merged 0 mask value) s
    | 0x10 => modDp fun x => { x with autoInc := bitOf (merged (flag x.autoInc 0) mask value) 0,
                                      error := x.error && !bitOf v 1 }
    | 0x18 => modDp fun x => { x with dmaHost := merged x.dmaHost mask value }
    | 0x20 => modDp fun x => { x with dmaDev := merged x.dmaDev mask value }
    | 0x28 => writeDmaCtrl (merged (d.length + flag d.toHost 24) mask value) s
    | 0x30 => match asFin 64 (v % 64) with
      | some k => writeInject k s
      | none => s
    | _ => s

def writeQueue (q : Fin 5) (o mask value : Nat) (s : State) : State :=
  let k := s.host.queues[q]
  match o with
  | 0x00 =>
    let n := merged (readQueue k 0) mask value
    let s := s.modQueue q fun k =>
      { k with dma := bitOf n 0, sizeLog2 := bits n 1 5, threshold := bits n 16 32,
               dmaBase := if bitOf n 0 && !k.dma then k.base else k.dmaBase }
    if bitOf (value &&& mask) 5 then flushQueue q s else s
  | 0x08 => s.modQueue q fun k => { k with base := merged k.base mask value }
  | 0x18 => writeConsumer q (merged k.consumer mask value) s
  | 0x20 =>
    let v := value &&& mask
    s.modQueue q fun k => { k with underrun := k.underrun && !bitOf v 1,
                                   badConsumer := k.badConsumer && !bitOf v 2 }
  | 0x28 => s.modQueue q fun k => { k with producerWb := merged k.producerWb mask value }
  | _ => s

/-! ### Descriptor rings (R394, R397) -/

def modRing (tx : Bool) (r : Fin 64) (f : Ring → Ring) (s : State) : State :=
  if tx then s.modTx r f else s.modRx r f

def ringAt (s : State) (tx : Bool) (r : Fin 64) : Ring := if tx then s.host.tx[r] else s.host.rx[r]

/-- VECTOR and QUEUE keep their value where the one written lies outside its range (DESIGN CHOICE). -/
def ringFields (value : Nat) (k : Ring) : Ring :=
  let k := { k with vector := if 8 ≤ bits value 8 14 then bits value 8 14 else k.vector,
                    wbIrq := bitOf value 18 }
  if k.enabled then k
  else { k with sizeLog2 := bits value 1 5,
                queue := if 4 ≤ bits value 24 29 then bits value 24 29 else k.queue }

/-- ENABLE is set: BASE, SIZE_LOG2 and QUEUE are read. A SIZE_LOG2 outside 6 to 15 leaves the ring
disabled. -/
def enableRing (value : Nat) (k : Ring) : Ring :=
  let k := ringFields value k
  if k.enabled then k
  else if within 6 15 k.sizeLog2 then
    { k with enabled := true, size := k.sizeLog2, useBase := k.base, useQueue := k.queue }
  else k

/-- ENABLE is cleared: the ring stops at the next descriptor boundary. A timed descriptor that is held has not
been handed on and is given up. -/
def disableRing (value : Nat) (k : Ring) : Ring :=
  let k := ringFields value k
  match k.held with
  | some (i, _) =>
    { k with enabled := false, held := none, fetched := i, open_ := k.open_.filter fun x => x.1 ≠ i }
  | none => { k with enabled := false }

def writeRingCtrl (tx : Bool) (r : Fin 64) (value : Nat) (s : State) : State :=
  modRing tx r (if bitOf value 0 then enableRing value else disableRing value) s

def execRingEnable (tx : Bool) (ring : Fin 64) (value : Nat) (s : State) : Out :=
  if hostReachable s && bitOf value 0 then .next (modRing tx ring (enableRing value) s) else .next s

def execRingDisable (tx : Bool) (ring : Fin 64) (value : Nat) (s : State) : Out :=
  if hostReachable s && !bitOf value 0 then .next (modRing tx ring (disableRing value) s) else .next s

def writeTail (tx : Bool) (r : Fin 64) (tail : Nat) (s : State) : State :=
  modRing tx r (fun k => { k with tail := tail % 65536 }) s

def execRingTailWrite (tx : Bool) (ring : Fin 64) (tail : Nat) (s : State) : Out :=
  if hostReachable s then .next (writeTail tx ring tail s) else .next s

def writeRing (tx : Bool) (r : Fin 64) (o mask value : Nat) (s : State) : State :=
  let k := ringAt s tx r
  match o with
  | 0x00 => if k.enabled then s else modRing tx r (fun k => { k with base := merged k.base mask value }) s
  | 0x08 => writeRingCtrl tx r (merged (readRing k 8) mask value) s
  | 0x10 => writeTail tx r (merged k.tail mask value) s
  | 0x20 => modRing tx r (fun k => { k with headWb := merged k.headWb mask value }) s
  | _ => s

/-- A write of the bits of `mask` at offset `a`, a multiple of 8, by a port. -/
def regWrite (port : Port) (a mask value : Nat) (s : State) : State :=
  if a < 0x1000 then s
  else if a < 0x2000 then writeInterrupt (a - 0x1000) mask value s
  else if a < 0x3000 then writeMailboxes (a - 0x2000) mask value s
  else if a < 0x4000 then writeEmergency port (a - 0x3000) mask value s
  else if a < 0x5000 then writeDataPort port (a - 0x4000) mask value s
  else if a < 0x6000 then s
  else if a < 0x7000 then match asFin 5 ((a - 0x6000) / 0x40) with
    | some q => writeQueue q (a % 0x40) mask value s
    | none => s
  else if 0x10000 ≤ a ∧ a < 0x12000 then match asFin 64 (a / 0x40 % 64) with
    | some r => writeRing (decide (0x11000 ≤ a)) r (a % 0x40) mask value s
    | none => s
  else if 0xF00000 ≤ a ∧ a < 0xF00400 then
    let new := le 8 (merged (ofLe (s.host.msix.readBytes zeroByte (a - 0xF00000) 8)) mask value)
    s.modHost fun h => { h with msix := h.msix.writeBytes zeroByte (a - 0xF00000) new }
  else s

/-- The bits that an access of `size` bytes at `addr` writes; none where it is not 32-bit or 64-bit and naturally
aligned (R375). -/
def accessMask (addr size : Nat) : Option Nat :=
  if size = 8 ∧ addr % 8 = 0 then some (2 ^ 64 - 1)
  else if size = 4 ∧ addr % 4 = 0 then some ((2 ^ 32 - 1) * 2 ^ (8 * (addr % 8)))
  else none

/-- REGISTER_WRITE (00 R19). -/
def execRegisterWrite (addr size value : Nat) (s : State) : Out :=
  if !hostReachable s then .next s
  else match accessMask addr size with
    | some mask => .next (regWrite .pcie (addr - addr % 8) mask (value * 2 ^ (8 * (addr % 8))) s)
    | none => .next s

/-! ### Reads with an effect (R375, R401) -/

/-- A register whose every field is RO or RC (R375). -/
def isReadOnly (a : Nat) : Bool :=
  decide (a < 0x38) || decide (a = 0x3018) || decide (a = 0x4038) ||
  (decide (0x5000 ≤ a) && decide (a < 0x5020)) ||
  (decide (0x2000 ≤ a) && decide (a < 0x3000) && decide (0x80 ≤ a % 0x100) && decide (a % 0x100 < 0xC0)) ||
  (decide (0x3080 ≤ a) && decide (a < 0x30C0)) ||
  (decide (0x6000 ≤ a) && decide (a < 0x6140) && (decide (a % 0x40 = 0x10) || decide (a % 0x40 = 0x30))) ||
  (decide (0x10000 ≤ a) && decide (a < 0x12000) && decide (a % 0x40 = 0x18)) ||
  (decide (0x100000 ≤ a) && decide (a < 0x105000))

/-- A 64-bit read with its effect: DP_DATA advances, offset 0 of a window pops its queue. -/
def readWord (a : Nat) (s : State) : Nat × State :=
  if a = 0x4008 then readDpData s
  else if 0x100000 ≤ a ∧ a < 0x105000 ∧ a % 0x1000 = 0 then
    match asFin 5 (a / 0x1000 % 256) with
    | some q =>
      let s := popQueue q s
      (s.host.readData.headD 0, s)
    | none => (0, s)
  else (regRead s a, s)

/-- LOW_HALF_READ (R375): the high half of a read-only register is latched for the next read of it. A
read of a high half answers the latched value, or the present one where none is latched. -/
def execLowHalfRead (addr : Nat) (s : State) : Out :=
  if !hostReachable s ∨ addr % 4 ≠ 0 then .next s
  else if addr % 8 = 4 then
    match s.host.latchAddr with
    | some (a, v) =>
      if a = addr then .next (answerRead [v] (s.modHost fun h => { h with latchAddr := none }))
      else .next (answerRead [regRead s (addr - 4) / 2 ^ 32] s)
    | none => .next (answerRead [regRead s (addr - 4) / 2 ^ 32] s)
  else
    let (v, s) := readWord addr s
    let s := if isReadOnly addr then
        s.modHost fun h => { h with latchAddr := some (addr + 4, v / 2 ^ 32) } else s
    .next (answerRead [v % 2 ^ 32] s)

/-! ### The SPI management port (R391) -/

/-- The blocks that the port reaches. -/
def spiReach (a : Nat) : Bool :=
  decide (a % 8 = 0) && (decide (a < 0x1000) || (decide (0x3000 ≤ a) && decide (a < 0x6000)))

/-- Words from `a` on. -/
def spiReads : Nat → Nat → State → List Nat × State
  | 0, _, s => ([], s)
  | n + 1, a, s =>
    let (v, s) := if spiReach a ∧ ¬ (0x4018 ≤ a ∧ a < 0x4030) then readWord a s else (0, s)
    let (vs, s) := spiReads n (a + 8) s
    (v :: vs, s)

def execSpiRead (addr words : Nat) (s : State) : Out :=
  if s.power.inReset then .next s
  else
    let (vs, s) := spiReads words addr s
    .next (answerRead vs s)

def spiWrites (a : Nat) : List Nat → State → State
  | [], s => s
  | v :: vs, s =>
    spiWrites (a + 8) vs (if spiReach a then regWrite .spi a (2 ^ 64 - 1) v s else s)

def execSpiWrite (addr : Nat) (words : List Nat) (s : State) : Out :=
  if s.power.inReset then .next s else .next (spiWrites addr words s)

/-! ### Interrupts and the watchdog (R380 to R382) -/

/-- The pan queues of a vector. -/
def vectorQueues (v : Fin 64) : List (Fin 5) := (fins 5).filter fun q => decide (causeVector (queueCause q) = v)

/-- INTERRUPT_HOLDOFF_END: a message that is owed is sent, and a pan queue of the vector that holds items has
reached its holdoff. -/
def execInterruptHoldoffEnd (v : Fin 64) (s : State) : Out :=
  if !s.host.running[v] then .next s
  else
    let owed := s.host.owed[v]
    let s := s.modHost fun h => { h with running := h.running.set v false, owed := h.owed.set v false }
    let s := if owed then signalVector v s else s
    .next (forAll (vectorQueues v) (fun q t =>
      if t.host.queues[q].items = [] ∨ t.host.cause.getLsbD (queueCause q) then t
      else setCause (queueCause q) t) s)

/-- WATCHDOG_EXPIRY (R382). -/
def execWatchdogExpiry (s : State) : Out :=
  if s.power.inReset ∨ s.host.stalled then .next s
  else .next (setCause 3 (s.modHost fun h => { h with stalled := true }))

/-- ALIVE_INCREMENT (R382). -/
def execAliveIncrement (s : State) : Out :=
  if s.host.supervisor then
    .next (s.modHost fun h => { h with alive := h.alive + 1, stalled := false })
  else .next s

/-! ### Host-side resets (R376) -/

/-- The host forgets a frame: its write-back is discarded. -/
def forgetOrigin : Origin → Origin
  | .ring r _ => .ring r 65536
  | o => o

def forgetMac (_ : Fin 16) (c : Mac) : Mac :=
  let res := fun (r : Reservation) => { r with origin := forgetOrigin r.origin }
  let frame := fun (f : QFrame) => { f with origin := forgetOrigin f.origin }
  let queue := fun (_ : Fin 32) (q : EgressQueue) => { q with frames := q.frames.map frame }
  { c with calendar := c.calendar.map res, queues := vmap queue c.queues,
           tx := c.tx.map fun t => match t with
             | .timed r l => .timed (res r) l
             | .untimed q f a l => .untimed q (frame f) a l }

/-- A mailbox at its reset value; its commands go on and their responses are discarded. -/
def clearBox (b : Mailbox) : Mailbox :=
  let off := fun (p : Pend) => { p with discard := true }
  { inHand := b.inHand.map off, behind := b.behind.map off }

/-- A pan queue's registers at reset: it keeps filling, and LOST, SEQUENCE and what it holds stay. -/
def clearQueue (_ : Fin 5) (k : PanQueue) : PanQueue :=
  { lost := k.lost, sequence := k.sequence, items := k.items, building := k.building,
    lossNext := k.lossNext }

/-- Every BAR0 register returns to reset but for the identity block, the mirrors and EM_CLAIM. -/
def hostReset (s : State) : State :=
  let box := fun (_ : Fin 16) (b : Mailbox) => clearBox b
  let s := s.modHost fun h =>
    { h with
      linkUp := false, cause := 0, mask := 0, mbDone := 0, holdoff := Vector.replicate 64 0,
      running := Vector.replicate 64 false, owed := Vector.replicate 64 false, wdt := 500,
      adminLock := false, latchAddr := none, readData := [], boxes := vmap box h.boxes,
      em := { h.em with mb := clearBox h.em.mb }, dp := { waiting := h.dp.waiting }, msix := {},
      tx := tab ringDefault, rx := tab ringDefault, queues := vmap clearQueue h.queues }
  s.modNet fun n => { n with macs := vmap forgetMac n.macs }

def execHostSideReset (s : State) : Out := .next (hostReset s)

def execD3hotEntry (s : State) : Out :=
  if s.host.linkUp then
    .next ((hostReset s).modHost fun h => { h with linkUp := true, d3hot := true })
  else .next s

/-- PCIE_LINK_RETURN (R376): the host interface is reachable; D3hot ends with the same row. -/
def execPcieLinkReturn (s : State) : Out :=
  if s.power.inReset then .next s
  else .next (s.modHost fun h => { h with linkUp := true, d3hot := false })

end Sys2Proof.Machine
end

