-- ==== Sys2Proof/Machine/System.lean ====
section
/-! DEFINITION. The system area: boot report, Scribe restart, mailbox-reset and the firmware of the boot flash
(13 R371 to R373; 14 R389, R390; 15 R414, R415, R430). -/

namespace Sys2Proof.Machine

/-! ### Boot report (15 R415) -/

def bootReportBytes (s : State) : Bytes :=
  let k := s.keys
  le 1 s.host.em.stage ++ le 1 s.host.em.cause ++
  le 1 (match k.running with
    | some i => i.val
    | none => 0xFF) ++
  le 1 (flag k.onTrial 0 + flag s.host.halted 1 + flag k.wipeFound 2) ++ le 4 k.bootCount ++
  le 4 (imageVersion s 0) ++ le 4 (imageVersion s 1) ++ le 1 k.fw[(0 : Fin 2)].result ++
  le 1 k.fw[(1 : Fin 2)].result ++ le 6 0

def execBootReport (r : Req) (s : State) : Out :=
  runRead 0x0106 (r.len = 0) r (fun s => .ok (bootReportBytes s)) s

/-! ### Device reset and mailbox reset -/

/-- device-reset: OK, then the reset of RESET_ASSERT within 1 ms. -/
def execDeviceReset (r : Req) (deviceId : Nat) (s : State) : Out :=
  runSimple 0x0108 16 r (fun s => do
    need (decide (deviceId = Config.deviceId)) eRange
    pure (s.modHost fun h => { h with resetAsked := true })) s

/-- Commands that Scribe has not taken are gone; of one that it has taken only the response. -/
def dropUntaken (_ : Fin 16) (b : Mailbox) : Mailbox :=
  { b with busy := false, behind := [],
           inHand := match b.inHand with
             | some p => if p.taken then some { p with discard := true } else none
             | none => none }

def execMailboxReset (r : Req) (s : State) : Out :=
  runSimple 0x0109 0 r (fun s => .ok (s.modHost fun h => { h with boxes := vmap dropUntaken h.boxes })) s

/-! ### Scribe restart (14 R390, 15 R430) -/

/-- Requests of a source are discarded without a response and BUSY clears. -/
def dropBox (b : Mailbox) : Mailbox := { b with busy := false, inHand := none, behind := [] }

/-- What Scribe had taken and not applied: reference commands, configurations for a later update, a time-set
that waits for its EVIN edge, releases of the snapshot store, key writes of a command. -/
def dropTaken (s : State) : State :=
  let s := s.modSel fun x => { x with acts := x.acts.filter fun a => a.source.isNone }
  let s := s.modDuctus fun d => { d with next := none }
  let s := s.modMargin fun m => { m with next := none }
  let s := s.modClock fun c => { c with setOnEvin := none }
  let s := s.modNts fun n => { n with rotation := { n.rotation with next := none } }
  let s := s.modGnss fun g => { g with snap := { g.snap with releases := [] } }
  s.modKeys fun k => { k with writes := k.writes.filter fun w => w.source.isNone }

/-- A Scribe restart begins: the supervisor stops; pending and taken commands are discarded; each running
ACCEPTED command is stopped and owed its completion. -/
def beginRestart (s : State) : State :=
  let running := runningCommands s
  let s := dropTaken (stopRunning s)
  let box := fun (_ : Fin 16) (b : Mailbox) => dropBox b
  let task := fun (_ : Fin 4) (k : Task) => { k with inHand := none }
  s.modHost fun h =>
    { h with supervisor := false, restarting := true, boxes := vmap box h.boxes,
             em := { h.em with mb := dropBox h.em.mb }, tasks := vmap task h.tasks,
             deferred := h.deferred ++ running }

/-- scribe-restart: OK, then the restart. With the boot halted there is no image to reload. -/
def execScribeRestart (r : Req) (s : State) : Out :=
  match ready 0x0107 r s with
  | none => .next s
  | some _ =>
    if r.len ≠ 0 then .next (answer r.src (.err eLength) s)
    else
      let s := answer r.src (.ok []) s
      if s.host.supervisor then .next (beginRestart s) else .next s

/-- A state region that failed its check goes back to its power-up contents. Bits 0 to 2 stand for orbit data,
drift models and leap table, which 18 R492 names (DESIGN CHOICE: the manual does not number the
regions). -/
def resetRegions (regions : Nat) (s : State) : State :=
  let s := if bitOf regions 0 then s.modGnss fun g => { g with orbit := [] } else s
  let s := if bitOf regions 1 then
      let m := fun (_ : Fin 20) (x : Member) => { x with drift := 0, learned := 0, d := 0, sigmaD := 0, moved := [] }
      s.modDuctus fun d => { d with members := vmap m d.members, models := Vector.replicate 13 {} }
    else s
  if bitOf regions 2 then s.modClock fun c => { c with leap := {} } else s

/-- The mailboxes' requests that were submitted while the supervisor did not run are taken up. -/
def takeHeld (s : State) : State :=
  forAll ((fins 16).map Source.mailbox ++ (fins 4).map Source.task) (fun src s =>
    match hand src s with
    | some p => if p.screened then s else takeUp src (p :: behindOf src s) s
    | none => s) s

/-- SCRIBE_RESTART_COMPLETE: ALIVE advances, and the commands that ended complete with E_TIMEOUT. -/
def execScribeRestartComplete (regions : Nat) (s : State) : Out :=
  if !s.host.restarting then .next s
  else
    let owed := s.host.deferred
    let s := resetRegions regions s
    let s := s.modHost fun h =>
      { h with supervisor := true, restarting := false, stalled := false, alive := h.alive + 1,
               deferred := [] }
    let s := raise 0x0107 regions 0 s
    .next (takeHeld (forAll owed (fun x => completeCmd x.1 x.2.1 eTimeout x.2.2) s))

/-! ### Firmware (13 R371 to R373) -/

abbrev stagingArea : Nat := 0x03000000
abbrev slotSize : Nat := 0x800000

/-- A slot that is not the running one. -/
def idleSlot (s : State) (i : Fin 2) : Bool := decide (s.keys.running ≠ some i)

/-- firmware-write: SLOT, reserved 3, SLOT_OFFSET, LENGTH. A second write or stage while one runs is refused
with E_STATE (DEDUCED: one staging area, one flash). -/
def execFirmwareWrite (r : Req) (slot slotOffset length : Nat) (s : State) : Out :=
  runAccepted 0x010A 12 r (fun q s =>
    match asFin 2 slot with
    | none => .error eRange
    | some i => do
      need (decide (length ≤ 65536) && decide (slotOffset + length ≤ slotSize)) eRange
      need (idleSlot s i && s.keys.fwJob.isNone) eState
      pure (s.modKeys fun k =>
        { k with fwJob := some { slot := i, stage := false, offset := slotOffset, length := length,
                                 source := r.src, seq := q } })) s

def modFw (i : Fin 2) (f : FwSlot → FwSlot) (s : State) : State :=
  s.modKeys fun k => { k with fw := upd k.fw i f }

/-- FIRMWARE_WRITE_COMPLETE: the staging area is programmed into the slot, which is then unverified. -/
def execFirmwareWriteComplete (s : State) : Out :=
  match s.keys.fwJob with
  | none => .next s
  | some j =>
    if j.stage then .next s
    else
      let o := dpRead s stagingArea j.length
      let s := modFw j.slot (fun f =>
        { f with image := f.image.writeBytes (Config.imageByte j.slot.val) j.offset o, written := true,
                 trial := false }) s
      .next (completeCmd 0x010A j.seq stOk j.source (s.modKeys fun k => { k with fwJob := none }))

def execFirmwareStage (r : Req) (slot : Nat) (s : State) : Out :=
  runAccepted 0x010B 1 r (fun q s =>
    match asFin 2 slot with
    | none => .error eRange
    | some i => do
      need (idleSlot s i && s.keys.fw[i].written && s.keys.fwJob.isNone) eState
      pure (s.modKeys fun k =>
        { k with fwJob := some { slot := i, stage := true, offset := 0, length := 0,
                                 source := r.src, seq := q } })) s

/-- The status of a stage by the judgement of R372 in the codes of 15 R415: signer, signature and hash E_KEY,
the rest E_RANGE (DEDUCED). -/
def stageStatus (result : Nat) : Nat :=
  if result = 0 then stOk else if within 2 4 result then eKey else eRange

/-- FIRMWARE_STAGE_COMPLETE: an accepted image is marked TRIAL. -/
def execFirmwareStageComplete (result : Nat) (s : State) : Out :=
  match s.keys.fwJob with
  | none => .next s
  | some j =>
    if !j.stage then .next s
    else
      let s := if result = 0 then
          modFw j.slot (fun f => { f with trial := true, trialFailed := false, written := false }) s
        else s
      .next (completeCmd 0x010B j.seq (stageStatus result) j.source
        (s.modKeys fun k => { k with fwJob := none }))

/-- firmware-confirm: the trial image is accepted and the anti-rollback count rises to its
SECURITY_VERSION. -/
def execFirmwareConfirm (r : Req) (s : State) : Out :=
  runSimple 0x010C 0 r (fun s => do
    need s.keys.onTrial eState
    match s.keys.running with
    | none => .error eState
    | some i =>
      let s := modFw i (fun f => { f with trial := false }) s
      pure (s.modKeys fun k =>
        { k with onTrial := false, fuseCount := max k.fuseCount (imageSecurity s i) })) s

end Sys2Proof.Machine
end

