-- ==== Sys2Proof/Machine/Reset.lean ====
section
/-! DEFINITION. Reset, power failure and start-up (18 R487, R492, R493, R495; 13 R340, R343, R354, R355, R361,
R362, R372, R373). -/

namespace Sys2Proof.Machine

/-! ### What a reset keeps (18 R492) -/

/-- The keys' side: brine store, tamper latch and TAMPER_IN, MRAM, boot flash and fuses. -/
def keptKeys (k : Keys) : Keys :=
  { roots := k.roots, tamperLatch := k.tamperLatch, onBattery := k.onBattery, tamperIn := k.tamperIn,
    life := k.life, rootEpoch := k.rootEpoch, wipePending := k.wipePending, rootPending := k.rootPending,
    attestGen := k.attestGen, importGen := k.importGen, bootCount := k.bootCount,
    tamperEvents := k.tamperEvents, firstTampers := k.firstTampers, lastTampers := k.lastTampers,
    journal := k.journal, flash := k.flash, bank := k.bank, position := k.position,
    compacting := k.compacting, fw := k.fw, onTrial := k.onTrial, fuseCount := k.fuseCount }

/-- A unit as the repair map gives it: a worn unit whose spare is in service is retired (17 R474). -/
def keptUnit (cls : Nat) (u : WearUnit) : WearUnit :=
  { state := if u.state = .worn ∧ cls ≠ 5 then .retired else u.state, spareOf := u.spareOf, cause := u.cause }

def keptUnits {n : Nat} (cls : Nat) (v : Vector WearUnit n) : Vector WearUnit n :=
  vmap (fun _ u => keptUnit cls u) v

/-- Repairs that were complete; what was being copied starts again from new errors. -/
def keptArray (x : Nat × SubArray) : Nat × SubArray :=
  (x.1, { repairs := x.2.repairs.filter fun r => !r.running })

/-- Calibration record, ledger and repair map. -/
def keptWear (w : Wear) : Wear :=
  { siv := keptUnits 1 w.siv, hmac := keptUnits 2 w.hmac, gmac := keptUnits 3 w.gmac,
    channels := keptUnits 4 w.channels, cores := keptUnits 5 w.cores, arrays := w.arrays.map keptArray,
    ledger := w.ledger, sequence := w.sequence, calRecord := w.calRecord,
    calGeneration := w.calGeneration }

/-- A Nib channel with the bypassed taps of its lines; one with a retired line leaves the pool with the
owner that the reset takes from it. -/
def keptNib (c : Fin 24) (n : NibChannel) : NibChannel :=
  let d := nibDefault c
  { d with sparesA := n.sparesA, sparesB := n.sparesB, goneA := n.goneA, goneB := n.goneB,
           bypassed := n.bypassed, degraded := n.degraded, liveB := n.degraded && n.goneA,
           frozenCal := n.degraded,
           owner := if n.degraded && decide (d.owner = ownFree) then ownRetired else d.owner }

/-- The channels of the baseband that are retired. -/
def keptChannels (w : Wear) : Vector GnssChannel 200 :=
  tab fun c => if w.channels[c].state = .retired then { state := 5 } else {}

/-- Cookie generations stand with their key slots (DEDUCED: 13 R362 restores the slots, and a key with no
KEY_ID would be of no use). -/
def keptGen (_ : Fin 8) (g : Generation) : Generation := if g.committed then { g with acked := [] } else {}

/-- Membership (16 R444): what a member needs to send HEARTBEAT under its stored stack key (DEDUCED). -/
def keptStack (t : Stack) : Stack :=
  if t.paired then
    let m := fun (_ : Fin 8) (x : StackMember) => { x with linkUnc := unbounded }
    { cfg := t.cfg, paired := true, role := t.role, position := t.position, term := t.term,
      members := vmap m t.members, seqOut := t.seqOut, seqIn := t.seqIn }
  else {}

/-- The whole device but for the VBAT domain, MRAM, the boot flash and fuses is at its reset value; RESET_N is
low. -/
def volatileReset (powered : Bool) (s : State) : State :=
  let z := State.reset
  { z with
    pending := s.pending
    power := { junction := s.power.junction, powered := powered }
    nib := vmap keptNib s.nib
    gnss := { z.gnss with channels := keptChannels s.wear }
    net := { z.net with
      nts := { gens := vmap keptGen s.net.nts.gens, lastKeyId := s.net.nts.lastKeyId }
      ptp := { clockId := s.net.ptp.clockId, orgId := s.net.ptp.orgId } }
    keys := keptKeys s.keys
    stack := keptStack s.stack
    wear := keptWear s.wear
    host := { z.host with persistent := s.host.persistent, messages := s.host.messages,
                          freeCount := s.host.freeCount } }

/-- RESET_ASSERT: RESET_N low for 1 µs, or the effect of device-reset. -/
def execResetAssert (s : State) : Out := .next (volatileReset s.power.powered s)

/-- POWER_FAILURE (13 R361): the brine store goes over to VBAT. What was being written stops where it stands:
the old key, record or life-cycle word holds. -/
def execPowerFailure (s : State) : Out := .next (volatileReset false s)

/-! ### Start-up, up to stage 0x08 (18 R495) -/

/-- XO nominal frequency of the straps, in mHz (18 R493). -/
def strapFreq (n : Nat) : Nat :=
  [10000000000, 20000000000, 25000000000, 38880000000, 40000000000, 50000000000, 100000000000,
   125000000000].getD n 0

/-- Step 1 and step 3: straps, banks and BOOT_COUNT. -/
def bootStraps (b : BootInputs) (s : State) : State :=
  let s := s.modPower fun p =>
    { p with inReset := false, powered := true, straps := b.straps.val,
             vddo := tab fun i => b.vddo.getD i.val 0 }
  let s := s.modRef 12 fun r => { r with cfg := { r.cfg with nominal := strapFreq b.straps.val } }
  s.modKeys fun k => { k with bootCount := (k.bootCount + 1) % 2 ^ 32 }

/-- Every cell that is not the live cell is zeroised (13 R340). -/
def settleCells (s : State) : State :=
  s.modKeys fun k => { k with roots := tab fun i => if i.val = k.life.val then k.roots[i] else {} }

/-- A life-cycle change that had committed goes on with steps 4 and 5 (13 R355). The old state is no longer
written anywhere: it is free. -/
def settleWipe (s : State) : State :=
  if !s.keys.wipePending then s
  else
    let s := eraseBanks s
    let (old, s) := freshNat s
    let s := s.modKeys fun k =>
      { k with wipePending := false, wipeFound := true, attestGen := 1, importGen := 1 }
    raise 0x0801 (old % 4 + s.keys.life.val * 4)
      (s.keys.rootEpoch % 2 ^ 32 + attestKeyId s * 2 ^ 32) s

/-- The live cell holds no root that passes its check, where one should. -/
def rootBad (b : BootInputs) (s : State) : Bool :=
  match cellOf s.keys.life with
  | some i => !s.keys.rootPending && (!s.keys.roots[i].present || !b.rootOk)
  | none => false

/-- Steps 2 to 4 of the tampers that are latched, with no key yet in the table, and the consequence begins
(13 R343, R354). -/
def settleTampers (s : State) : State :=
  let s := recordLatched false s
  match tamperTarget s.keys.life with
  | some t => s.modKeys fun k => { k with change := some ⟨t, true, none⟩ }
  | none => s

/-- Step 4: the life-cycle word, the brine cells and pending tampers. -/
def bootLife (b : BootInputs) (s : State) : State :=
  let s := settleCells (settleWipe s)
  if s.keys.tamperLatch ≠ 0 then settleTampers s
  else if rootBad b s then settleTampers (latchTamper 8 false s)
  else s

/-- R373: an image that ran on trial and was not confirmed is TRIAL_FAILED. -/
def failTrial (s : State) : State :=
  if !s.keys.onTrial then s
  else
    let s := s.modKeys fun k => { k with onTrial := false }
    forAll ((fins 2).filter fun i => s.keys.fw[i].trial) (fun i s =>
      raise 0x0809 i.val 0 (modFw i (fun f => { f with trial := false, trialFailed := true }) s)) s

/-- Step 5, R372: both slots are judged. -/
def judgeSlots (b : BootInputs) (s : State) : State :=
  forAll (fins 2) (fun i => modFw i fun f =>
    { f with result := if f.trialFailed then 7 else if i.val = 0 then b.slot0Result else b.slot1Result }) s

/-- The image to boot: a TRIAL image once, else the larger VERSION; between equal ones the manual names none,
and the choice is free. -/
def chooseImage (s : State) : Option (Fin 2) × State :=
  let ok := fun (i : Fin 2) => decide (s.keys.fw[i].result = 0)
  match (fins 2).find? fun i => ok i && s.keys.fw[i].trial with
  | some i => (some i, s)
  | none =>
    if ok 0 && ok 1 then
      if imageVersion s 1 < imageVersion s 0 then (some 0, s)
      else if imageVersion s 0 < imageVersion s 1 then (some 1, s)
      else
        let (b, s) := freshChoice s
        (some (if b then 1 else 0), s)
    else if ok 0 then (some 0, s)
    else if ok 1 then (some 1, s)
    else (none, s)

/-- A persistent slot is restored from the record that its journal word names, or is DAMAGED (13 R361,
R362). `damaged` says which records fail CHECK or CHECK12. -/
def restoreSlot (damaged : List Nat) (x : Nat × JournalWord) (s : State) : State :=
  let n := x.1
  let j := x.2
  match s.keys.flash.find? fun f =>
      decide (f.slot = n) && decide (f.number = j.record) && decide (f.bank = s.keys.bank) && !f.dead with
  | none => s
  | some f =>
    let head := recordHead n f.keyType f.copyB f.gen f.epoch
    match Config.sivOpen (kek s (domainName n)) [deviceIdBytes ++ head] [] f.sealed, decide (n ∈ damaged) with
    | some m, false =>
      let (cls, s) := freshNat s
      setSlot n { copyA := if j.copyB then [] else m, copyB := if j.copyB then m else [], keyType := f.keyType,
                  domain := domainOf n, state := 1, activeB := j.copyB, persist := true, gen := j.gen,
                  classes := cls % 2 ^ 32 } s
    | _, _ =>
      raise 0x0803 n 0 (setSlot n { keyType := f.keyType, domain := domainOf n, state := 2, persist := true,
                                    gen := j.gen } s)

/-- A cookie generation whose slot was not restored is EMPTY. -/
def settleGens (s : State) : State :=
  let f := fun (i : Fin 8) (g : Generation) => if (slotAt s (32 + i.val)).state = 1 then g else {}
  s.modNts fun n => { n with gens := vmap f n.gens }

/-- Steps 6 and 7: DRBG, a root that was pending, the ladder, and the key slots. -/
def bootKeys (b : BootInputs) (s : State) : State :=
  let s := s.modKeys fun k => { k with drbgReady := !b.drbgFails, entropyFail := b.drbgFails }
  let s := if b.drbgFails then raise 0x0806 0 0 s else s
  let s := match cellOf s.keys.life with
    | some i =>
      if s.keys.rootPending ∧ s.keys.change.isNone then
        let s := s.modKeys fun k => { k with roots := k.roots.set i {} }
        if rootDrawable s then makeRoot i s else s
      else s
    | none => s
  let s := s.modKeys fun k => { k with ladder := k.change.isNone && (liveRoot s).isSome }
  let s := if s.keys.ladder then
      forAll (s.keys.journal.filter fun x => x.2.valid) (restoreSlot b.damaged) s else s
  settleGens s

def setStage (stage cause : Nat) (s : State) : State :=
  s.modHost fun h => { h with em := { h.em with stage := stage, cause := cause } }

/-- RESET_RELEASE: the boot sequence up to stage 0x08, or the halt at stage 0x04 with no accepted image. -/
def execResetRelease (b : BootInputs) (s : State) : Out :=
  if !s.power.inReset then .next s
  else
    let s := judgeSlots b (failTrial (bootLife b (bootStraps b s)))
    let (image, s) := chooseImage s
    match image with
    | none => .next (setStage 0x04 0x10 (s.modHost fun h => { h with halted := true }))
    | some i =>
      let s := s.modKeys fun k => { k with running := some i, onTrial := k.fw[i].trial }
      .next (setStage 0x08 0 (bootKeys b s))

/-- SUPERVISOR_START: stage 0x09. ALIVE increments, event 0x0108 is raised, and the commands whose doorbells
were held start. -/
def execSupervisorStart (s : State) : Out :=
  if s.power.inReset ∨ s.host.halted ∨ s.host.em.stage ≠ 8 then .next s
  else
    let s := setStage 0x09 0 (s.modHost fun h => { h with supervisor := true, alive := h.alive + 1 })
    let slot := match s.keys.running with
      | some i => i.val
      | none => 0
    .next (takeHeld (raise 0x0108 s.keys.bootCount (fwVersion s + slot * 2 ^ 32) s))

end Sys2Proof.Machine
end

