-- ==== Sys2Proof/Machine/Dispatch.lean ====
section
/-! DEFINITION. One arm for each command of the block. -/

namespace Sys2Proof.Machine

def exec (i : Instr) (s : State) : Host.Outcome State Fault Refusal :=
  match i with
  | .speedMode r mode => Sys2Proof.Machine.execSpeedMode r mode s
  | .timeSet r t0 setAt => Sys2Proof.Machine.execTimeSet r t0 setAt s
  | .timeStep r amount => Sys2Proof.Machine.execTimeStep r amount s
  | .timeRestart r => Sys2Proof.Machine.execTimeRestart r s
  | .leapTable r base expiry entries => Sys2Proof.Machine.execLeapTable r base expiry entries s
  | .bootReport r => Sys2Proof.Machine.execBootReport r s
  | .scribeRestart r => Sys2Proof.Machine.execScribeRestart r s
  | .deviceReset r deviceId => Sys2Proof.Machine.execDeviceReset r deviceId s
  | .mailboxReset r => Sys2Proof.Machine.execMailboxReset r s
  | .firmwareWrite r slot slotOffset length => Sys2Proof.Machine.execFirmwareWrite r slot slotOffset length s
  | .firmwareStage r slot => Sys2Proof.Machine.execFirmwareStage r slot s
  | .firmwareConfirm r => Sys2Proof.Machine.execFirmwareConfirm r s
  | .userLoad r length header => Sys2Proof.Machine.execUserLoad r length header s
  | .userUnload r => Sys2Proof.Machine.execUserUnload r s
  | .referenceConfigure r g => Sys2Proof.Machine.execReferenceConfigure r g s
  | .monitorConfigure r g => Sys2Proof.Machine.execMonitorConfigure r g s
  | .selectionConfigure r g => Sys2Proof.Machine.execSelectionConfigure r g s
  | .referenceEnable r index enable => Sys2Proof.Machine.execReferenceEnable r index enable s
  | .referenceRelease r index action => Sys2Proof.Machine.execReferenceRelease r index action s
  | .referenceReject r index => Sys2Proof.Machine.execReferenceReject r index s
  | .forceSelect r index => Sys2Proof.Machine.execForceSelect r index s
  | .temperatureReport r index temp => Sys2Proof.Machine.execTemperatureReport r index temp s
  | .selectionHook r action => Sys2Proof.Machine.execSelectionHook r action s
  | .referenceStatus r first count => Sys2Proof.Machine.execReferenceStatus r first count s
  | .ductusConfigure r g => Sys2Proof.Machine.execDuctusConfigure r g s
  | .clockModel r g => Sys2Proof.Machine.execClockModel r g s
  | .dpllConfigure r g => Sys2Proof.Machine.execDpllConfigure r g s
  | .dpllEnable r channel enable => Sys2Proof.Machine.execDpllEnable r channel enable s
  | .modelExport r => Sys2Proof.Machine.execModelExport r s
  | .modelImport r items => Sys2Proof.Machine.execModelImport r items s
  | .marginConfigure r g => Sys2Proof.Machine.execMarginConfigure r g s
  | .ductusStatus r => Sys2Proof.Machine.execDuctusStatus r s
  | .marginStatus r => Sys2Proof.Machine.execMarginStatus r s
  | .apllConfigure r g => Sys2Proof.Machine.execApllConfigure r g s
  | .outputConfigure r g => Sys2Proof.Machine.execOutputConfigure r g s
  | .realign r channelMask evoutMask frameMask rate => Sys2Proof.Machine.execRealign r channelMask evoutMask frameMask rate s
  | .evoutProgram r g => Sys2Proof.Machine.execEvoutProgram r g s
  | .evinConfigure r g => Sys2Proof.Machine.execEvinConfigure r g s
  | .loopbackCheck r source count tolerance => Sys2Proof.Machine.execLoopbackCheck r source count tolerance s
  | .outputStatus r => Sys2Proof.Machine.execOutputStatus r s
  | .portMode r mode => Sys2Proof.Machine.execPortMode r mode s
  | .portConfigure r g => Sys2Proof.Machine.execPortConfigure r g s
  | .vlanList r mac entries => Sys2Proof.Machine.execVlanList r mac entries s
  | .steeringTable r rules => Sys2Proof.Machine.execSteeringTable r rules s
  | .queueConfigure r g => Sys2Proof.Machine.execQueueConfigure r g s
  | .egressConfigure r g => Sys2Proof.Machine.execEgressConfigure r g s
  | .gateList r mac cycle base entries => Sys2Proof.Machine.execGateList r mac cycle base entries s
  | .portStatus r mac => Sys2Proof.Machine.execPortStatus r mac s
  | .egressStatus r mac => Sys2Proof.Machine.execEgressStatus r mac s
  | .serviceAddressConfigure r g => Sys2Proof.Machine.execServiceAddressConfigure r g s
  | .rotationConfigure r g => Sys2Proof.Machine.execRotationConfigure r g s
  | .rotateNow r => Sys2Proof.Machine.execRotateNow r s
  | .invalidateKey r keyId => Sys2Proof.Machine.execInvalidateKey r keyId s
  | .cookieMint r entries => Sys2Proof.Machine.execCookieMint r entries s
  | .policingProfile r g => Sys2Proof.Machine.execPolicingProfile r g s
  | .ntsStatus r address => Sys2Proof.Machine.execNtsStatus r address s
  | .ptpServiceConfigure r g => Sys2Proof.Machine.execPtpServiceConfigure r g s
  | .ptpGlobalConfigure r g => Sys2Proof.Machine.execPtpGlobalConfigure r g s
  | .sessionRead r first count => Sys2Proof.Machine.execSessionRead r first count s
  | .saConfigure r g => Sys2Proof.Machine.execSaConfigure r g s
  | .keyReplace r sa which keyId handle => Sys2Proof.Machine.execKeyReplace r sa which keyId handle s
  | .saInvalidate r sa => Sys2Proof.Machine.execSaInvalidate r sa s
  | .clientEntry r g => Sys2Proof.Machine.execClientEntry r g s
  | .clientConfigure r g => Sys2Proof.Machine.execClientConfigure r g s
  | .ptpStatus r address => Sys2Proof.Machine.execPtpStatus r address s
  | .lifeCycle r fromState target deviceId => Sys2Proof.Machine.execLifeCycle r fromState target deviceId s
  | .zeroise r deviceId => Sys2Proof.Machine.execZeroise r deviceId s
  | .tamperConfigure r g => Sys2Proof.Machine.execTamperConfigure r g s
  | .attestation r nonce sigAlg => Sys2Proof.Machine.execAttestation r nonce sigAlg s
  | .identityRead r => Sys2Proof.Machine.execIdentityRead r s
  | .attestRotate r => Sys2Proof.Machine.execAttestRotate r s
  | .importRotate r => Sys2Proof.Machine.execImportRotate r s
  | .keyImport r sa which algorithm keyId => Sys2Proof.Machine.execKeyImport r sa which algorithm keyId s
  | .saKeyDerive r sa which keyId context => Sys2Proof.Machine.execSaKeyDerive r sa which keyId context s
  | .saKeyExport r sa => Sys2Proof.Machine.execSaKeyExport r sa s
  | .seal r length label => Sys2Proof.Machine.execSeal r length label s
  | .unseal r length => Sys2Proof.Machine.execUnseal r length s
  | .entropySample r count => Sys2Proof.Machine.execEntropySample r count s
  | .keyStatus r first count => Sys2Proof.Machine.execKeyStatus r first count s
  | .gnssPortConfigure r g => Sys2Proof.Machine.execGnssPortConfigure r g s
  | .trackingConfigure r g => Sys2Proof.Machine.execTrackingConfigure r g s
  | .consistencyConfigure r g => Sys2Proof.Machine.execConsistencyConfigure r g s
  | .exclusionList r entries => Sys2Proof.Machine.execExclusionList r entries s
  | .positionSet r port x y z unc => Sys2Proof.Machine.execPositionSet r port x y z unc s
  | .fixConfigure r g => Sys2Proof.Machine.execFixConfigure r g s
  | .orbitExport r => Sys2Proof.Machine.execOrbitExport r s
  | .orbitImport r items => Sys2Proof.Machine.execOrbitImport r items s
  | .groupDelayMeasure r port duration => Sys2Proof.Machine.execGroupDelayMeasure r port duration s
  | .snapshot r trigger evin duration overwrite start => Sys2Proof.Machine.execSnapshot r trigger evin duration overwrite start s
  | .snapshotRelease r => Sys2Proof.Machine.execSnapshotRelease r s
  | .snapshotExport r hostAddr length => Sys2Proof.Machine.execSnapshotExport r hostAddr length s
  | .gnssStatus r port => Sys2Proof.Machine.execGnssStatus r port s
  | .groupDelayResult r port => Sys2Proof.Machine.execGroupDelayResult r port s
  | .channelAllocate r => Sys2Proof.Machine.execChannelAllocate r s
  | .channelRelease r channel => Sys2Proof.Machine.execChannelRelease r channel s
  | .channelConfigure r g => Sys2Proof.Machine.execChannelConfigure r g s
  | .streamConfigure r g => Sys2Proof.Machine.execStreamConfigure r g s
  | .channelStatus r first count => Sys2Proof.Machine.execChannelStatus r first count s
  | .stackConfigure r g => Sys2Proof.Machine.execStackConfigure r g s
  | .pair r link peerDeviceId => Sys2Proof.Machine.execPair r link peerDeviceId s
  | .detach r => Sys2Proof.Machine.execDetach r s
  | .witness r verdict term => Sys2Proof.Machine.execWitness r verdict term s
  | .stackStatus r => Sys2Proof.Machine.execStackStatus r s
  | .calibrationRead r offset length => Sys2Proof.Machine.execCalibrationRead r offset length s
  | .calibrationWrite r generation offset data => Sys2Proof.Machine.execCalibrationWrite r generation offset data s
  | .calibrationDigest r => Sys2Proof.Machine.execCalibrationDigest r s
  | .counterRead r first count => Sys2Proof.Machine.execCounterRead r first count s
  | .filterConfigure r g => Sys2Proof.Machine.execFilterConfigure r g s
  | .wearLedgerRead r first count => Sys2Proof.Machine.execWearLedgerRead r first count s
  | .persistentLog r first count => Sys2Proof.Machine.execPersistentLog r first count s
  | .referenceConfigureReadBack r index => Sys2Proof.Machine.execReferenceConfigureReadBack r index s
  | .monitorConfigureReadBack r index => Sys2Proof.Machine.execMonitorConfigureReadBack r index s
  | .selectionConfigureReadBack r index => Sys2Proof.Machine.execSelectionConfigureReadBack r index s
  | .ductusConfigureReadBack r index => Sys2Proof.Machine.execDuctusConfigureReadBack r index s
  | .clockModelReadBack r index => Sys2Proof.Machine.execClockModelReadBack r index s
  | .dpllConfigureReadBack r index => Sys2Proof.Machine.execDpllConfigureReadBack r index s
  | .marginConfigureReadBack r index => Sys2Proof.Machine.execMarginConfigureReadBack r index s
  | .apllConfigureReadBack r index => Sys2Proof.Machine.execApllConfigureReadBack r index s
  | .outputConfigureReadBack r index => Sys2Proof.Machine.execOutputConfigureReadBack r index s
  | .evoutProgramReadBack r index => Sys2Proof.Machine.execEvoutProgramReadBack r index s
  | .evinConfigureReadBack r index => Sys2Proof.Machine.execEvinConfigureReadBack r index s
  | .portConfigureReadBack r index => Sys2Proof.Machine.execPortConfigureReadBack r index s
  | .queueConfigureReadBack r index => Sys2Proof.Machine.execQueueConfigureReadBack r index s
  | .egressConfigureReadBack r index => Sys2Proof.Machine.execEgressConfigureReadBack r index s
  | .serviceAddressConfigReadBack r index => Sys2Proof.Machine.execServiceAddressConfigReadBack r index s
  | .rotationConfigureReadBack r index => Sys2Proof.Machine.execRotationConfigureReadBack r index s
  | .policingProfileReadBack r index => Sys2Proof.Machine.execPolicingProfileReadBack r index s
  | .ptpServiceConfigureReadBack r index => Sys2Proof.Machine.execPtpServiceConfigureReadBack r index s
  | .ptpGlobalConfigureReadBack r index => Sys2Proof.Machine.execPtpGlobalConfigureReadBack r index s
  | .saConfigureReadBack r index => Sys2Proof.Machine.execSaConfigureReadBack r index s
  | .clientEntryReadBack r index => Sys2Proof.Machine.execClientEntryReadBack r index s
  | .clientConfigureReadBack r index => Sys2Proof.Machine.execClientConfigureReadBack r index s
  | .tamperConfigureReadBack r index => Sys2Proof.Machine.execTamperConfigureReadBack r index s
  | .gnssPortConfigureReadBack r index => Sys2Proof.Machine.execGnssPortConfigureReadBack r index s
  | .trackingConfigureReadBack r index => Sys2Proof.Machine.execTrackingConfigureReadBack r index s
  | .consistencyConfigureReadBack r index => Sys2Proof.Machine.execConsistencyConfigureReadBack r index s
  | .fixConfigureReadBack r index => Sys2Proof.Machine.execFixConfigureReadBack r index s
  | .channelConfigureReadBack r index => Sys2Proof.Machine.execChannelConfigureReadBack r index s
  | .streamConfigureReadBack r index => Sys2Proof.Machine.execStreamConfigureReadBack r index s
  | .stackConfigureReadBack r index => Sys2Proof.Machine.execStackConfigureReadBack r index s
  | .filterConfigureReadBack r index => Sys2Proof.Machine.execFilterConfigureReadBack r index s
  | .commandCall t block opcode sequence length flags => Sys2Proof.Machine.execCommandCall t block opcode sequence length flags s
  | .eventWait t block areaMask timeout => Sys2Proof.Machine.execEventWait t block areaMask timeout s
  | .timeCall t block => Sys2Proof.Machine.execTimeCall t block s
  | .sleep t block microseconds => Sys2Proof.Machine.execSleep t block microseconds s
  | .hookWait t block => Sys2Proof.Machine.execHookWait t block s
  | .hookAnswer t block answer => Sys2Proof.Machine.execHookAnswer t block answer s
  | .signalSet t block handler => Sys2Proof.Machine.execSignalSet t block handler s
  | .signalReturn t => Sys2Proof.Machine.execSignalReturn t s
  | .exit t => Sys2Proof.Machine.execExit t s
  | .unknownSystemCall t number => Sys2Proof.Machine.execUnknownSystemCall t number s
  | .taskReturn t => Sys2Proof.Machine.execTaskReturn t s
  | .userTaskFault t instruction => Sys2Proof.Machine.execUserTaskFault t instruction s
  | .sleepExpiry t => Sys2Proof.Machine.execSleepExpiry t s
  | .eventWaitTimeout t => Sys2Proof.Machine.execEventWaitTimeout t s
  | .hookTimeout t => Sys2Proof.Machine.execHookTimeout t s
  | .mailboxDoorbell m => Sys2Proof.Machine.execMailboxDoorbell m s
  | .emergencyDoorbell p => Sys2Proof.Machine.execEmergencyDoorbell p s
  | .emClaim p => Sys2Proof.Machine.execEmClaim p s
  | .emRelease p => Sys2Proof.Machine.execEmRelease p s
  | .emOwnershipTimeout => Sys2Proof.Machine.execEmOwnershipTimeout s
  | .adminLock => Sys2Proof.Machine.execAdminLock s
  | .cwLatch => Sys2Proof.Machine.execCwLatch s
  | .dpDataRead => Sys2Proof.Machine.execDpDataRead s
  | .dpDataWrite value => Sys2Proof.Machine.execDpDataWrite value s
  | .bar2Access addr size write => Sys2Proof.Machine.execBar2Access addr size write s
  | .dpDmaGo value => Sys2Proof.Machine.execDpDmaGo value s
  | .dpDmaComplete hostData => Sys2Proof.Machine.execDpDmaComplete hostData s
  | .dpInject slot => Sys2Proof.Machine.execDpInject slot s
  | .ringEnable tx ring value => Sys2Proof.Machine.execRingEnable tx ring value s
  | .ringDisable tx ring value => Sys2Proof.Machine.execRingDisable tx ring value s
  | .ringTailWrite tx ring tail => Sys2Proof.Machine.execRingTailWrite tx ring tail s
  | .pqFlush q => Sys2Proof.Machine.execPqFlush q s
  | .pqConsumerWrite q value => Sys2Proof.Machine.execPqConsumerWrite q value s
  | .panQueuePop q => Sys2Proof.Machine.execPanQueuePop q s
  | .lowHalfRead addr => Sys2Proof.Machine.execLowHalfRead addr s
  | .registerWrite addr size value => Sys2Proof.Machine.execRegisterWrite addr size value s
  | .spiRead addr words => Sys2Proof.Machine.execSpiRead addr words s
  | .spiWrite addr words => Sys2Proof.Machine.execSpiWrite addr words s
  | .interruptHoldoffEnd v => Sys2Proof.Machine.execInterruptHoldoffEnd v s
  | .watchdogExpiry => Sys2Proof.Machine.execWatchdogExpiry s
  | .hostSideReset => Sys2Proof.Machine.execHostSideReset s
  | .d3hotEntry => Sys2Proof.Machine.execD3hotEntry s
  | .resetAssert => Sys2Proof.Machine.execResetAssert s
  | .resetRelease b => Sys2Proof.Machine.execResetRelease b s
  | .supervisorStart => Sys2Proof.Machine.execSupervisorStart s
  | .scribeRestartComplete regions => Sys2Proof.Machine.execScribeRestartComplete regions s
  | .tamperDetected detector onBattery => Sys2Proof.Machine.execTamperDetected detector onBattery s
  | .lifeCycleComplete => Sys2Proof.Machine.execLifeCycleComplete s
  | .thermtrip => Sys2Proof.Machine.execThermtrip s
  | .thermalGuard => Sys2Proof.Machine.execThermalGuard s
  | .temperatureSample sensors => Sys2Proof.Machine.execTemperatureSample sensors s
  | .modeReservationsDrained => Sys2Proof.Machine.execModeReservationsDrained s
  | .supplySetPointReached => Sys2Proof.Machine.execSupplySetPointReached s
  | .paceWithinGoverningRatio => Sys2Proof.Machine.execPaceWithinGoverningRatio s
  | .governingWaitTimeout => Sys2Proof.Machine.execGoverningWaitTimeout s
  | .regulatorTimeout => Sys2Proof.Machine.execRegulatorTimeout s
  | .paceUpdate nts ptp sched host device => Sys2Proof.Machine.execPaceUpdate nts ptp sched host device s
  | .paceMirrorUpdate largest => Sys2Proof.Machine.execPaceMirrorUpdate largest s
  | .wearRatioUpdate means junctionMean => Sys2Proof.Machine.execWearRatioUpdate means junctionMean s
  | .bistFailure cls unit => Sys2Proof.Machine.execBistFailure cls unit s
  | .wornUnitRetired cls unit => Sys2Proof.Machine.execWornUnitRetired cls unit s
  | .scribeCoreTakeover core => Sys2Proof.Machine.execScribeCoreTakeover core s
  | .eccError subarray row column uncorrectable unit victim => Sys2Proof.Machine.execEccError subarray row column uncorrectable unit victim s
  | .sramRepairComplete subarray => Sys2Proof.Machine.execSramRepairComplete subarray s
  | .filteredCounterWrap n => Sys2Proof.Machine.execFilteredCounterWrap n s
  | .counterOverflowSignal n resume => Sys2Proof.Machine.execCounterOverflowSignal n resume s
  | .frameReceived f => Sys2Proof.Machine.execFrameReceived f s
  | .pauseFrame mac p => Sys2Proof.Machine.execPauseFrame mac p s
  | .pauseWindowOpen mac cls => Sys2Proof.Machine.execPauseWindowOpen mac cls s
  | .pauseWindowClose mac cls => Sys2Proof.Machine.execPauseWindowClose mac cls s
  | .pauseBudgetExhausted mac => Sys2Proof.Machine.execPauseBudgetExhausted mac s
  | .pauseBudgetRestore mac => Sys2Proof.Machine.execPauseBudgetRestore mac s
  | .linkUp mac => Sys2Proof.Machine.execLinkUp mac s
  | .linkDown mac reason => Sys2Proof.Machine.execLinkDown mac reason s
  | .laneSkewChange mac lane skew => Sys2Proof.Machine.execLaneSkewChange mac lane skew s
  | .lpiEntry mac => Sys2Proof.Machine.execLpiEntry mac s
  | .lpiWake mac => Sys2Proof.Machine.execLpiWake mac s
  | .ntsTransaction engine => Sys2Proof.Machine.execNtsTransaction engine s
  | .ptpTransaction engine => Sys2Proof.Machine.execPtpTransaction engine s
  | .negotiation => Sys2Proof.Machine.execNegotiation s
  | .grantExpirySweep => Sys2Proof.Machine.execGrantExpirySweep s
  | .cancellingTimeout address => Sys2Proof.Machine.execCancellingTimeout address s
  | .scheduledMessage client index msgType => Sys2Proof.Machine.execScheduledMessage client index msgType s
  | .ptpClientMessage m => Sys2Proof.Machine.execPtpClientMessage m s
  | .grantRenewal entry msgType => Sys2Proof.Machine.execGrantRenewal entry msgType s
  | .announceTimeout entry => Sys2Proof.Machine.execAnnounceTimeout entry s
  | .followUpTimeout entry => Sys2Proof.Machine.execFollowUpTimeout entry s
  | .measIntervalEnd ptpu => Sys2Proof.Machine.execMeasIntervalEnd ptpu s
  | .pathStableExpiry ptpu => Sys2Proof.Machine.execPathStableExpiry ptpu s
  | .policingBankSwap => Sys2Proof.Machine.execPolicingBankSwap s
  | .sealDeadlineMissed mac id => Sys2Proof.Machine.execSealDeadlineMissed mac id s
  | .strokeLaunch mac id => Sys2Proof.Machine.execStrokeLaunch mac id s
  | .hostTimedReserve ring => Sys2Proof.Machine.execHostTimedReserve ring s
  | .transmitDescriptor ring d => Sys2Proof.Machine.execTransmitDescriptor ring d s
  | .untimedFrameStart mac => Sys2Proof.Machine.execUntimedFrameStart mac s
  | .frameTransmitted mac => Sys2Proof.Machine.execFrameTransmitted mac s
  | .gateListStart mac => Sys2Proof.Machine.execGateListStart mac s
  | .gateEntryBoundary mac => Sys2Proof.Machine.execGateEntryBoundary mac s
  | .panQueueItemCommit q => Sys2Proof.Machine.execPanQueueItemCommit q s
  | .panQueueDelivery q => Sys2Proof.Machine.execPanQueueDelivery q s
  | .handover => Sys2Proof.Machine.execHandover s
  | .timeStepApply => Sys2Proof.Machine.execTimeStepApply s
  | .recoveryStart => Sys2Proof.Machine.execRecoveryStart s
  | .clockRestart xoEdges xoLost => Sys2Proof.Machine.execClockRestart xoEdges xoLost s
  | .leapTableExpiry => Sys2Proof.Machine.execLeapTableExpiry s
  | .evinEdge evin rising sub => Sys2Proof.Machine.execEvinEdge evin rising sub s
  | .evoutPulse evout => Sys2Proof.Machine.execEvoutPulse evout s
  | .nibEdge channel falling sub => Sys2Proof.Machine.execNibEdge channel falling sub s
  | .nibLockUpdate channel lineB held endOfTrim => Sys2Proof.Machine.execNibLockUpdate channel lineB held endOfTrim s
  | .nibLineSwap channel worn => Sys2Proof.Machine.execNibLineSwap channel worn s
  | .nibPairTimeout channel => Sys2Proof.Machine.execNibPairTimeout channel s
  | .nibGateEnd channel => Sys2Proof.Machine.execNibGateEnd channel s
  | .referenceEvaluation => Sys2Proof.Machine.execReferenceEvaluation s
  | .activityDeadline ref => Sys2Proof.Machine.execActivityDeadline ref s
  | .frequencyGateEnd ref ensemble => Sys2Proof.Machine.execFrequencyGateEnd ref ensemble s
  | .phaseAverageEnd ref => Sys2Proof.Machine.execPhaseAverageEnd ref s
  | .qualTimeExpiry ref => Sys2Proof.Machine.execQualTimeExpiry ref s
  | .wtrExpiry ref => Sys2Proof.Machine.execWtrExpiry ref s
  | .switchMeasureEnd => Sys2Proof.Machine.execSwitchMeasureEnd s
  | .switchComplete => Sys2Proof.Machine.execSwitchComplete s
  | .disagreementCheck first second => Sys2Proof.Machine.execDisagreementCheck first second s
  | .gnssEpoch e => Sys2Proof.Machine.execGnssEpoch e s
  | .satelliteExclusionEnd port sat => Sys2Proof.Machine.execSatelliteExclusionEnd port sat s
  | .checkClear port check => Sys2Proof.Machine.execCheckClear port check s
  | .gnssClockFault port => Sys2Proof.Machine.execGnssClockFault port s
  | .gnssClockRestored port => Sys2Proof.Machine.execGnssClockRestored port s
  | .correlatorDump channel codeWord carrierWord next cn0 assign => Sys2Proof.Machine.execCorrelatorDump channel codeWord carrierWord next cn0 assign s
  | .channelTimeout channel => Sys2Proof.Machine.execChannelTimeout channel s
  | .gnssHistogram port inPhase quadrature => Sys2Proof.Machine.execGnssHistogram port inPhase quadrature s
  | .surveyComplete port x y z unc horizontal vertical => Sys2Proof.Machine.execSurveyComplete port x y z unc horizontal vertical s
  | .snapshotArmedStart => Sys2Proof.Machine.execSnapshotArmedStart s
  | .snapshotComplete samplesA samplesB periodA periodB octets => Sys2Proof.Machine.execSnapshotComplete samplesA samplesB periodA periodB octets s
  | .snapshotExportComplete => Sys2Proof.Machine.execSnapshotExportComplete s
  | .groupDelayMeasureEnd port means errors => Sys2Proof.Machine.execGroupDelayMeasureEnd port means errors s
  | .ductusUpdate f => Sys2Proof.Machine.execDuctusUpdate f s
  | .lockDwellExpiry => Sys2Proof.Machine.execLockDwellExpiry s
  | .xoLostClear => Sys2Proof.Machine.execXoLostClear s
  | .updateTimeout => Sys2Proof.Machine.execUpdateTimeout s
  | .dpllTracking channel => Sys2Proof.Machine.execDpllTracking channel s
  | .dpllPulling channel => Sys2Proof.Machine.execDpllPulling channel s
  | .marginEvaluation freezeGap => Sys2Proof.Machine.execMarginEvaluation freezeGap s
  | .statementSigned => Sys2Proof.Machine.execStatementSigned s
  | .boundStale => Sys2Proof.Machine.execBoundStale s
  | .boundStaleSaturation => Sys2Proof.Machine.execBoundStaleSaturation s
  | .classHoldExpiry mac => Sys2Proof.Machine.execClassHoldExpiry mac s
  | .apllLock apll => Sys2Proof.Machine.execApllLock apll s
  | .apllSlip apll => Sys2Proof.Machine.execApllSlip apll s
  | .apllReengageTimeout apll => Sys2Proof.Machine.execApllReengageTimeout apll s
  | .limiterGate apll excursion => Sys2Proof.Machine.execLimiterGate apll excursion s
  | .outputAlignedStart ckout => Sys2Proof.Machine.execOutputAlignedStart ckout s
  | .realignSlewEnd channel => Sys2Proof.Machine.execRealignSlewEnd channel s
  | .frameStep evout index => Sys2Proof.Machine.execFrameStep evout index s
  | .loopbackComplete source mean std => Sys2Proof.Machine.execLoopbackComplete source mean std s
  | .rotationCheck => Sys2Proof.Machine.execRotationCheck s
  | .keyActivation => Sys2Proof.Machine.execKeyActivation s
  | .keyRetire => Sys2Proof.Machine.execKeyRetire s
  | .mintComplete => Sys2Proof.Machine.execMintComplete s
  | .keyWriteCommit slot => Sys2Proof.Machine.execKeyWriteCommit slot s
  | .compactionComplete => Sys2Proof.Machine.execCompactionComplete s
  | .drbgReseed => Sys2Proof.Machine.execDrbgReseed s
  | .healthTestFailure adaptive => Sys2Proof.Machine.execHealthTestFailure adaptive s
  | .attestationReady => Sys2Proof.Machine.execAttestationReady s
  | .entropySampleComplete samples => Sys2Proof.Machine.execEntropySampleComplete samples s
  | .firmwareWriteComplete => Sys2Proof.Machine.execFirmwareWriteComplete s
  | .firmwareStageComplete result => Sys2Proof.Machine.execFirmwareStageComplete result s
  | .stackLinkUp link => Sys2Proof.Machine.execStackLinkUp link s
  | .stackLinkDown link => Sys2Proof.Machine.execStackLinkDown link s
  | .markerSend link sub => Sys2Proof.Machine.execMarkerSend link sub s
  | .markerReceived link number checkOk sub => Sys2Proof.Machine.execMarkerReceived link number checkOk sub s
  | .stackTransferInterval link => Sys2Proof.Machine.execStackTransferInterval link s
  | .hello h m => Sys2Proof.Machine.execHello h m s
  | .confirm h sigOk => Sys2Proof.Machine.execConfirm h sigOk s
  | .admission h verdict => Sys2Proof.Machine.execAdmission h verdict s
  | .heartbeat h role position ductusState flags members deviceId => Sys2Proof.Machine.execHeartbeat h role position ductusState flags members deviceId s
  | .tt h txMarker rxMarker tTx tRx coreBound growth horizon recordSeq bootCount anchorKind chain => Sys2Proof.Machine.execTt h txMarker rxMarker tTx tRx coreBound growth horizon recordSeq bootCount anchorKind chain s
  | .state h octets => Sys2Proof.Machine.execState h octets s
  | .config h records => Sys2Proof.Machine.execConfig h records s
  | .session h entries => Sys2Proof.Machine.execSession h entries s
  | .key h k => Sys2Proof.Machine.execKey h k s
  | .ack h ackedType ackedSeq bases => Sys2Proof.Machine.execAck h ackedType ackedSeq bases s
  | .activate h keyId oldKeyId a retireAt => Sys2Proof.Machine.execActivate h keyId oldKeyId a retireAt s
  | .resign h newTerm => Sys2Proof.Machine.execResign h newTerm s
  | .leave h position => Sys2Proof.Machine.execLeave h position s
  | .stackFrameRelay h => Sys2Proof.Machine.execStackFrameRelay h s
  | .heartbeatSend => Sys2Proof.Machine.execHeartbeatSend s
  | .heartbeatMiss link => Sys2Proof.Machine.execHeartbeatMiss link s
  | .replicationRetransmit id => Sys2Proof.Machine.execReplicationRetransmit id s
  | .stateSend => Sys2Proof.Machine.execStateSend s
  | .pairingStepTimeout => Sys2Proof.Machine.execPairingStepTimeout s
  | .witnessTimeout => Sys2Proof.Machine.execWitnessTimeout s
  | .stackKeySwitch => Sys2Proof.Machine.execStackKeySwitch s
  | .stackOldKeyExpiry => Sys2Proof.Machine.execStackOldKeyExpiry s
  | .detachAckTimeout => Sys2Proof.Machine.execDetachAckTimeout s
  | .powerFailure => Sys2Proof.Machine.execPowerFailure s
  | .pcieLinkReturn => Sys2Proof.Machine.execPcieLinkReturn s
  | .aliveIncrement => Sys2Proof.Machine.execAliveIncrement s

end Sys2Proof.Machine
end

