-- ==== Sys2Proof/Machine/Tick.lean ====
section
/-! DEFINITION. One tick of the system time clock (07 R205 to R208): what an empty queue stands for. -/

namespace Sys2Proof.Machine

/-- What a tick brings about beside time: filtered counters of event 0x0D (17 R465), injections that wait,
and the summary events of a device-time second that has ended. -/
def afterTick (s : State) : State := retryInjections (flushSummaries (countEvent 0x0D (fun _ => true) s))

/-- The tick counter and, in the counter form, the register advance; a device-time second that ends
raises its summary events. With the clock stopped nothing happens. -/
def tick (s : State) : State :=
  match s.clock.form with
  | .stopped => s
  | .virtual => afterTick (s.modClock fun c => { c with ticks := c.ticks + 1 })
  | .counter => afterTick (s.modClock fun c => { c with ticks := c.ticks + 1, reg := c.reg + c.increment })

end Sys2Proof.Machine
end

