-- ==== Sys2Proof/Safety.lean ====
section
/-! DEFINITION. What a safe run is: every step answers a next state; and the terms in which statements about
commands speak of their requests. -/

namespace Sys2Proof.Machine

/-- The step answers a next state. -/
def goesOn (s : State) : Prop := ∃ t, step s = .next t

/-- The states that `n` steps reach from `s`, while each step answers a next state. -/
inductive Reaches : State → Nat → State → Prop where
  | refl (s : State) : Reaches s 0 s
  | step {s t u : State} {n : Nat} (h : step s = .next t) (r : Reaches t n u) :
      Reaches s (n + 1) u

/-- 14 R384: the request in hand of the sender is command `op` with a body of `len` octets, screened and
not yet taken. -/
def Asks (op len : Nat) (r : Req) (s : State) : Prop := r.len = len ∧ ∃ p, ready op r s = some p

/-- 15 R409: the request in hand is the configure command `op`; its MASK names rows of the table, the values
sent have the shapes of the rows selected, and `rows'` is what an object of `rows` would then hold. -/
def Fits (op : Nat) (flds : List Fld) (r : Req) (g : GReq) (rows rows' : Rows) (s : State) : Prop :=
  ∃ p n, ready op r s = some p ∧ g.mask < 2 ^ flds.length ∧
    merge flds rows g.mask g.fields = some (rows', n) ∧ r.len = 8 + n ∧ countsOk flds rows' = true

/-- 14 R406, 17 R465: the state after a system call of a user task has been counted. -/
def counted (s : State) : State := countEvent 0x0A (fun c => bitOf c.priv 1) s

/-- 17 R476, R477: the calibration record is in its canonical form, and its header, but for OVERWRITTEN in octets
32 to 35, reads as the factory wrote it. -/
def CalRecordSound (s : State) : Prop :=
  s.wear.calRecord.wf calByte = true ∧
  ∀ a, (a < 32 ∨ (36 ≤ a ∧ a < 64)) → s.wear.calRecord.read calByte a = calByte a

/-! ### Frames -/

/-- The parts of the state. -/
inductive Part where
  | pending
  | power
  | clock
  | refs
  | sel
  | ductus
  | margin
  | synth
  | nib
  | gnss
  | net
  | keys
  | stack
  | wear
  | host
deriving DecidableEq, Repr

/-- Part `p` is the same in `t` as in `s`. -/
def samePart (p : Part) (s t : State) : Prop :=
  match p with
  | .pending => t.pending = s.pending
  | .power => t.power = s.power
  | .clock => t.clock = s.clock
  | .refs => t.refs = s.refs
  | .sel => t.sel = s.sel
  | .ductus => t.ductus = s.ductus
  | .margin => t.margin = s.margin
  | .synth => t.synth = s.synth
  | .nib => t.nib = s.nib
  | .gnss => t.gnss = s.gnss
  | .net => t.net = s.net
  | .keys => t.keys = s.keys
  | .stack => t.stack = s.stack
  | .wear => t.wear = s.wear
  | .host => t.host = s.host

/-- Nothing but the parts `ws` differs. -/
structure Only (ws : List Part) (s t : State) : Prop where
  same : ∀ p, p ∉ ws → samePart p s t

/-- The parts of the state that a command may write, by the rules of its row; every other part stands as before. The
queue of waiting commands is in no list. -/
def mayWrite (c : Instr) : List Part :=
  match c with
  | .gateEntryBoundary .. => []
  | .cwLatch | .leapTableExpiry => [.clock]
  | .dpllTracking .. | .dpllPulling .. => [.ductus]
  | .satelliteExclusionEnd .. | .gnssClockRestored .. | .correlatorDump .. | .channelTimeout ..
  | .gnssHistogram .. => [.gnss]
  | .bootReport .. | .deviceReset .. | .mailboxReset .. | .referenceStatus .. | .modelExport ..
  | .ductusStatus .. | .marginStatus .. | .outputStatus .. | .portStatus .. | .egressStatus .. | .ntsStatus ..
  | .ptpStatus .. | .identityRead .. | .seal .. | .unseal .. | .keyStatus .. | .orbitExport .. | .gnssStatus ..
  | .groupDelayResult .. | .channelStatus .. | .stackStatus .. | .calibrationRead .. | .calibrationDigest ..
  | .counterRead .. | .wearLedgerRead .. | .persistentLog .. | .referenceConfigureReadBack ..
  | .monitorConfigureReadBack .. | .selectionConfigureReadBack .. | .ductusConfigureReadBack ..
  | .clockModelReadBack .. | .dpllConfigureReadBack .. | .marginConfigureReadBack ..
  | .apllConfigureReadBack .. | .outputConfigureReadBack .. | .evoutProgramReadBack ..
  | .evinConfigureReadBack .. | .portConfigureReadBack .. | .queueConfigureReadBack ..
  | .egressConfigureReadBack .. | .serviceAddressConfigReadBack .. | .rotationConfigureReadBack ..
  | .policingProfileReadBack .. | .ptpServiceConfigureReadBack .. | .ptpGlobalConfigureReadBack ..
  | .saConfigureReadBack .. | .clientEntryReadBack .. | .clientConfigureReadBack ..
  | .tamperConfigureReadBack .. | .gnssPortConfigureReadBack .. | .trackingConfigureReadBack ..
  | .consistencyConfigureReadBack .. | .fixConfigureReadBack .. | .channelConfigureReadBack ..
  | .streamConfigureReadBack .. | .stackConfigureReadBack .. | .filterConfigureReadBack .. | .sleepExpiry ..
  | .eventWaitTimeout .. | .mailboxDoorbell .. | .emergencyDoorbell .. | .emClaim .. | .emRelease ..
  | .emOwnershipTimeout | .adminLock | .dpDataRead | .dpDataWrite .. | .bar2Access .. | .dpDmaGo ..
  | .dpDmaComplete .. | .ringEnable .. | .ringDisable .. | .ringTailWrite .. | .pqFlush ..
  | .pqConsumerWrite .. | .panQueuePop .. | .lowHalfRead .. | .spiRead .. | .interruptHoldoffEnd ..
  | .watchdogExpiry | .supervisorStart | .panQueueItemCommit .. | .panQueueDelivery .. | .pcieLinkReturn
  | .aliveIncrement => [.host]
  | .compactionComplete | .drbgReseed => [.keys]
  | .boundStaleSaturation | .classHoldExpiry .. => [.margin]
  | .pauseWindowClose .. | .lpiEntry .. | .lpiWake .. | .followUpTimeout .. | .policingBankSwap => [.net]
  | .nibLockUpdate .. => [.nib]
  | .thermtrip | .temperatureSample .. | .modeReservationsDrained | .paceMirrorUpdate .. => [.power]
  | .pathStableExpiry .. | .qualTimeExpiry .. => [.refs]
  | .stackOldKeyExpiry => [.stack]
  | .outputAlignedStart .. => [.synth]
  | .wornUnitRetired .. => [.wear]
  | .timeStep .. | .leapTable .. | .handover => [.clock, .host]
  | .ductusConfigure .. | .clockModel .. | .modelImport .. => [.ductus, .host]
  | .gnssPortConfigure .. | .trackingConfigure .. | .consistencyConfigure .. | .exclusionList ..
  | .positionSet .. | .fixConfigure .. | .orbitImport .. | .groupDelayMeasure .. | .snapshot ..
  | .snapshotRelease .. | .snapshotExport .. | .surveyComplete .. | .snapshotArmedStart | .snapshotComplete ..
  | .snapshotExportComplete | .groupDelayMeasureEnd .. => [.gnss, .host]
  | .firmwareWrite .. | .firmwareStage .. | .firmwareConfirm .. | .userLoad .. | .tamperConfigure ..
  | .attestation .. | .attestRotate .. | .importRotate .. | .keyImport .. | .saKeyDerive .. | .saKeyExport ..
  | .entropySample .. | .attestationReady | .entropySampleComplete .. | .firmwareWriteComplete
  | .firmwareStageComplete .. => [.keys, .host]
  | .stackKeySwitch => [.keys, .stack]
  | .temperatureReport .. | .marginConfigure .. | .statementSigned | .boundStale => [.margin, .host]
  | .portMode .. | .portConfigure .. | .vlanList .. | .steeringTable .. | .queueConfigure .. | .gateList ..
  | .cookieMint .. | .sessionRead .. | .hostSideReset | .d3hotEntry | .pauseFrame .. | .pauseBudgetExhausted ..
  | .pauseBudgetRestore .. | .linkUp .. | .linkDown .. | .laneSkewChange .. | .untimedFrameStart ..
  | .frameTransmitted .. | .gateListStart .. => [.net, .host]
  | .channelAllocate .. | .channelRelease .. | .channelConfigure .. | .streamConfigure .. | .nibPairTimeout ..
  | .nibGateEnd .. => [.nib, .host]
  | .paceUpdate .. => [.power, .host]
  | .monitorConfigure .. => [.refs, .host]
  | .selectionConfigure .. | .referenceEnable .. | .referenceRelease .. | .referenceReject .. | .forceSelect ..
  | .selectionHook .. => [.sel, .host]
  | .stackConfigure .. | .stackLinkUp .. => [.stack, .host]
  | .outputConfigure .. | .evoutProgram .. | .evoutPulse .. | .limiterGate .. => [.synth, .host]
  | .calibrationWrite .. | .filterConfigure .. | .signalReturn .. | .unknownSystemCall ..
  | .sramRepairComplete .. | .filteredCounterWrap .. | .counterOverflowSignal .. => [.wear, .host]
  | .evinConfigure .. => [.clock, .nib, .host]
  | .marginEvaluation .. => [.ductus, .margin, .host]
  | .frameStep .. => [.ductus, .synth, .host]
  | .wearRatioUpdate .. | .bistFailure .. | .scribeCoreTakeover .. => [.gnss, .wear, .host]
  | .healthTestFailure .. => [.net, .keys, .host]
  | .serviceAddressConfigure .. | .rotationConfigure .. | .policingProfile .. | .ptpGlobalConfigure ..
  | .pauseWindowOpen .. | .negotiation | .cancellingTimeout .. | .sealDeadlineMissed .. | .strokeLaunch ..
  | .mintComplete | .markerSend .. | .markerReceived .. | .tt .. | .state .. | .session ..
  | .stackFrameRelay .. | .heartbeatSend | .stateSend => [.net, .stack, .host]
  | .frameReceived .. => [.net, .wear, .host]
  | .nibLineSwap .. => [.nib, .wear, .host]
  | .egressConfigure .. | .regulatorTimeout => [.power, .net, .host]
  | .referenceConfigure .. => [.refs, .ductus, .host]
  | .checkClear .. => [.refs, .gnss, .host]
  | .switchComplete => [.sel, .ductus, .host]
  | .loopbackCheck .. | .loopbackComplete .. => [.synth, .nib, .host]
  | .scribeRestartComplete .. => [.clock, .ductus, .gnss, .host]
  | .dpllConfigure .. | .dpllEnable .. | .realign .. | .lockDwellExpiry | .xoLostClear | .updateTimeout
  | .apllLock .. | .apllSlip .. | .realignSlewEnd .. => [.clock, .ductus, .synth, .host]
  | .eccError .. => [.gnss, .net, .wear, .host]
  | .ntsTransaction .. | .ptpTransaction .. | .scheduledMessage .. => [.margin, .net, .stack, .host]
  | .rotateNow .. | .invalidateKey .. | .saConfigure .. | .keyReplace .. | .saInvalidate .. | .rotationCheck
  | .keyActivation | .keyRetire | .key .. | .activate .. => [.net, .keys, .stack, .host]
  | .dpInject .. | .registerWrite .. | .spiWrite .. | .hostTimedReserve .. | .transmitDescriptor .. =>
    [.net, .stack, .wear, .host]
  | .pair .. => [.nib, .net, .stack, .host]
  | .speedMode .. | .thermalGuard | .supplySetPointReached | .paceWithinGoverningRatio | .governingWaitTimeout =>
    [.power, .net, .wear, .host]
  | .ptpServiceConfigure .. | .clientEntry .. | .clientConfigure .. => [.sel, .net, .stack, .host]
  | .activityDeadline .. | .phaseAverageEnd .. => [.clock, .refs, .ductus, .synth, .host]
  | .timeRestart .. => [.clock, .synth, .nib, .net, .host]
  | .resetRelease .. => [.power, .refs, .net, .keys, .host]
  | .config .. => [.sel, .net, .keys, .stack, .host]
  | .apllConfigure .. | .recoveryStart | .apllReengageTimeout .. => [.clock, .ductus, .synth, .nib, .net, .host]
  | .gnssClockFault .. => [.clock, .refs, .ductus, .synth, .gnss, .host]
  | .stackLinkDown .. | .heartbeatMiss .. => [.clock, .refs, .ductus, .synth, .stack, .host]
  | .timeSet .. => [.clock, .refs, .nib, .net, .stack, .host]
  | .disagreementCheck .. => [.clock, .refs, .sel, .ductus, .synth, .host]
  | .nibEdge .. => [.refs, .ductus, .margin, .synth, .nib, .host]
  | .detach .. | .keyWriteCommit .. | .hello .. | .confirm .. | .admission .. | .pairingStepTimeout
  | .detachAckTimeout => [.sel, .nib, .net, .keys, .stack, .host]
  | .gnssEpoch .. => [.clock, .refs, .ductus, .margin, .synth, .gnss, .host]
  | .measIntervalEnd .. => [.clock, .refs, .ductus, .margin, .synth, .net, .host]
  | .stackTransferInterval .. => [.clock, .refs, .ductus, .margin, .synth, .stack, .host]
  | .evinEdge .. => [.clock, .refs, .nib, .gnss, .net, .stack, .host]
  | .wtrExpiry .. | .switchMeasureEnd => [.clock, .refs, .sel, .ductus, .margin, .synth, .host]
  | .frequencyGateEnd .. => [.clock, .refs, .sel, .ductus, .synth, .nib, .host]
  | .lifeCycleComplete => [.sel, .margin, .nib, .net, .keys, .stack, .host]
  | .leave .. | .witnessTimeout => [.clock, .refs, .ductus, .synth, .net, .keys, .stack, .host]
  | .grantExpirySweep | .ptpClientMessage .. | .grantRenewal .. | .announceTimeout .. =>
    [.clock, .refs, .sel, .ductus, .synth, .net, .stack, .host]
  | .witness .. | .resign .. => [.clock, .refs, .sel, .ductus, .synth, .net, .keys, .stack, .host]
  | .commandCall .. | .eventWait .. | .timeCall .. | .sleep .. | .hookWait .. | .hookAnswer .. | .signalSet ..
  | .exit .. | .taskReturn .. | .userTaskFault .. | .hookTimeout .. =>
    [.clock, .refs, .sel, .ductus, .margin, .synth, .net, .stack, .wear, .host]
  | .timeStepApply | .ductusUpdate .. => [.clock, .refs, .sel, .ductus, .margin, .synth, .nib, .net, .stack, .host]
  | .heartbeat .. | .ack .. | .replicationRetransmit .. =>
    [.clock, .refs, .sel, .ductus, .synth, .nib, .net, .keys, .stack, .host]
  | .userUnload .. => [.clock, .refs, .sel, .ductus, .margin, .synth, .net, .keys, .stack, .wear, .host]
  | .referenceEvaluation => [.clock, .refs, .sel, .ductus, .margin, .synth, .nib, .gnss, .net, .stack, .host]
  | .clockRestart .. => [.power, .clock, .refs, .sel, .ductus, .margin, .synth, .gnss, .net, .keys, .host]
  | .lifeCycle .. => [.power, .clock, .sel, .ductus, .synth, .nib, .gnss, .net, .keys, .stack, .host]
  | .scribeRestart .. | .zeroise .. | .tamperDetected .. =>
    [.power, .clock, .sel, .ductus, .margin, .synth, .nib, .gnss, .net, .keys, .stack, .host]
  | .resetAssert | .powerFailure =>
    [.power, .clock, .refs, .sel, .ductus, .margin, .synth, .nib, .gnss, .net, .keys, .stack, .wear, .host]

end Sys2Proof.Machine
end

