-- ==== Sys2Proof/Certificates/Slice0/Obligations.lean ====
section
/-! DEFINITION. The statements for the provers, by area. Names say what each states; the docstrings cite the
rules of the spec. -/

open Sys2Proof Sys2Proof.Machine

/-! ### References (02) -/

/-- 02 R74, R76, R78, R91: a reference command that Scribe takes has its effect at step 1 of the next evaluation: it
joins the waiting acts, in the order taken, and its request stays taken and unanswered. The acts are judged against
the state that the reference then holds: a reject latches the host's reason, an enable of a GNSS port enters MONITOR,
a disable enters OFF and loses the latch, a release of a HELD reference makes it QUALIFIED or REJECTED; an act that
does not fit the state is refused with E_STATE. An evaluation takes its steps in a fixed order: acts, rejections,
clears, qualifications, then selection with the events in reference order; where a task waits for the hook, selection
waits for its answer. It rests on the model's choices of log entries 5, 14, 33, 34, 36, 37, 38, 39 and 119. -/
def Obligations.ReferenceCommandsActAtTheNextEvaluation : Prop :=
(∀ (s : State) (r : Req) (p : Pend) (i : Fin 20) (e : Nat), e ≤ 1 → r.len = 2 →
    ready 0x0204 r s = some p →
    exec (.referenceEnable r i e) s = .next (setHand r.src (some { p with taken := true })
      (s.modSel fun x => { x with acts := x.acts ++ [⟨.enable i (decide (e = 1)), some r.src⟩] }))) ∧
  (∀ (s : State) (r : Req) (p : Pend) (i : Fin 20) (a : Nat), a ≤ 2 → r.len = 2 →
    ready 0x0205 r s = some p →
    exec (.referenceRelease r i a) s = .next (setHand r.src (some { p with taken := true })
      (s.modSel fun x => { x with acts := x.acts ++ [⟨.release i a, some r.src⟩] }))) ∧
  (∀ (s : State) (r : Req) (p : Pend) (i : Fin 20), r.len = 1 → ready 0x0206 r s = some p →
    exec (.referenceReject r i) s = .next (setHand r.src (some { p with taken := true })
      (s.modSel fun x => { x with acts := x.acts ++ [⟨.reject i, some r.src⟩] }))) ∧
  (∀ (s : State) (r : Req) (p : Pend) (i : Fin 20), r.len = 1 → ready 0x0207 r s = some p →
    exec (.forceSelect r i) s = .next (setHand r.src (some { p with taken := true })
      (s.modSel fun x => { x with acts := x.acts ++ [⟨.force (some i), some r.src⟩] }))) ∧
  (∀ (s : State) (r : Req) (p : Pend), r.len = 1 → ready 0x0207 r s = some p →
    exec (.forceSelect r 0xFF) s = .next (setHand r.src (some { p with taken := true })
      (s.modSel fun x => { x with acts := x.acts ++ [⟨.force none, some r.src⟩] }))) ∧
(∀ (s : State) (i : Fin 20), s.refs[i].state ≠ .off → ∃ t, applyAct (.reject i) s = .ok t ∧
    t.refs[i].hostLatch = true ∧ t.refs[i].reasons.getLsbD 1 = true ∧ t.refs[i].contributing = false) ∧
  (∀ (s : State) (i : Fin 20), s.refs[i].state = .off → applyAct (.reject i) s = .error eState) ∧
  (∀ (s : State) (p : Fin 2), s.refs[gnssRef p].state = .off → s.refs[gnssRef p].companion = false →
    ∃ t, applyAct (.enable (gnssRef p) true) s = .ok t ∧ t.refs[gnssRef p].state = .monitor ∧
      t.refs[gnssRef p].reasons = 0 ∧ t.refs[gnssRef p].qualTimer = 0) ∧
  (∀ (s : State) (i : Fin 20), s.refs[i].state ≠ .off → i ≠ xoRef →
    ∃ t, applyAct (.enable i false) s = .ok t ∧ t.refs[i].state = .off ∧
      t.refs[i].hostLatch = false ∧ t.refs[i].cfg = s.refs[i].cfg) ∧
  (∀ (s : State), applyAct (.enable xoRef false) s = .error eState) ∧
  (∀ (s : State) (i : Fin 20) (a : Nat), s.refs[i].state ≠ .held →
    applyAct (.release i a) s = .error eState) ∧
  (∀ (s : State) (i : Fin 20), s.refs[i].state = .held →
    (∃ t, applyAct (.release i 0) s = .ok t ∧ t.refs[i].state = .qualified) ∧
    (∃ t, applyAct (.release i 2) s = .ok t ∧ t.refs[i].state = .rejected ∧
      t.refs[i].hostLatch = true)) ∧
  (∀ (s : State), s.sel.waiting = none →
    let begun := s.modSel fun x =>
      { x with evalSeq := (x.evalSeq + 1) % 2 ^ 32, hookAnswer := none }
    let judged := staged stepQualify (staged stepClears (staged stepRejects (stepActs (begun, []))))
    (hookWaiter judged.1 = none →
      exec .referenceEvaluation s = .next (settleParents
        ((stepEvents (staged (fun u => stepAlarm (stepSelect u)) judged).2
          (staged (fun u => stepAlarm (stepSelect u)) judged).1).modSel fun z =>
            { z with waiting := none, hookAnswer := none }))) ∧
    (∀ task block, hookWaiter judged.1 = some (task, block) →
      ∃ t, exec .referenceEvaluation s = .next t ∧ t.sel.waiting = some judged.2 ∧
        t.host.tasks[task].state = .inHook))

/-- 02 R65 to R69, R76, R77, 04 R135: the monitors. A missed deadline counts, and at ACT_LOSS of them activity is
lost, NO_ACTIVITY holds and the qualification timer is 0; a frequency gate above FREQ_REJECT sets its reason and one
within FREQ_ACCEPT clears it, where in SELECT mode the SELECTED reference is compared with E formed without it (04
R135); a phase average is kept; the timer's end marks the reference as qualified, with everything else as it was. It
rests on the model's choices of log entries 5, 35, 36, 168, 169 and 171. -/
def Obligations.MonitorsMoveAsTheirRulesSay : Prop :=
  (∀ (s : State) (i : Fin 20), s.refs[i].state ≠ .off →
    ∃ t, exec (.activityDeadline i) s = .next t ∧
      t.refs[i].missing = min 255 (s.refs[i].missing + 1) ∧ t.refs[i].arrivals = 0 ∧
      ((monOf s i).actLoss ≤ min 255 (s.refs[i].missing + 1) →
        t.refs[i].active = false ∧ t.refs[i].reasons.getLsbD 3 = true ∧ t.refs[i].qualTimer = 0)) ∧
  (∀ (s : State) (i : Fin 20) (e f : Int), s.refs[i].state ≠ .off → freqBinds s i = true →
    gateEstimate s i = some f → (s.ductus.mode = 0 ∨ s.refs[i].state ≠ .selected) →
    ∃ t, exec (.frequencyGateEnd i e) s = .next t ∧ t.refs[i].freq = some f ∧
      ((monOf s i).freqReject < f.natAbs → t.refs[i].verdict = .reject ∧
        t.refs[i].reasons.getLsbD 4 = true) ∧
      (f.natAbs ≤ (monOf s i).freqAccept → (monOf s i).freqAccept < (monOf s i).freqReject →
        t.refs[i].verdict = .accept ∧ t.refs[i].reasons.getLsbD 4 = false)) ∧
  (∀ (s : State) (i : Fin 20) (e f : Int), s.refs[i].state = .selected → s.ductus.mode = 1 →
    gateEstimate s i = some f →
    ∃ t, exec (.frequencyGateEnd i e) s = .next t ∧
      t.refs[i].freq = if guardAbsent s then none else some (f - e)) ∧
  (∀ (s : State) (i : Fin 20) (e : Int), s.refs[i].state ≠ .off → gateEstimate s i = none →
    ∃ t, exec (.frequencyGateEnd i e) s = .next t ∧ t.refs[i].freq = none ∧ t.refs[i].verdict = .none) ∧
  (∀ (s : State) (i : Fin 20) (a : Int), s.refs[i].state ≠ .off → timeBearing s i = true →
    meanOffset s i (ms16 s.refs[i].mon.phaseAvg) = some a →
    ∃ t, exec (.phaseAverageEnd i) s = .next t ∧ t.refs[i].measured = some a ∧
      t.refs[i].lastAvg = some a ∧
      (∀ b, s.refs[i].lastAvg = some b → qualified s.refs[i] = true →
        s.refs[i].mon.phaseStep < (a - b).natAbs → t.refs[i].reasons.getLsbD 5 = true) ∧
      (∀ b, s.refs[i].lastAvg = some b → (a - b).natAbs ≤ s.refs[i].mon.phaseStep →
        t.refs[i].reasons.getLsbD 5 = false)) ∧
  (∀ (s : State) (i : Fin 20), s.refs[i].state = .monitor → s.refs[i].active = true →
    freqAccepted s i = true →
    exec (.qualTimeExpiry i) s = .next (s.modRef i fun x =>
      { x with qualTimer := (monOf s i).qualTime, qualDone := true }))

/-- 02 R82, R84, R89: the staged switch. A revertive switch begins MEASURE towards a candidate of strictly lower RANK;
the end of MEASURE makes the target SELECTED, loads the measured offset and enters SLEW; the end of the slew leaves no
switch and raises 0x0204; a disagreement that the third opinion settles rejects the reference that lies far. It rests
on the model's choices of log entries 5, 36, 70, 72 and 169. -/
def Obligations.StagedSwitchRunsItsStages : Prop :=
  (∀ (s : State) (old new : Fin 20), selected s = some old → s.sel.cfg.revertive = 1 →
    s.sel.stage = .idle → forcedNow s = none → candidate s new = true →
    s.refs[new].mon.rank < s.refs[old].mon.rank → s.ductus.state ≠ .acquire →
    exec (.wtrExpiry new) s = .next (s.modSel fun x =>
      { x with stage := .measure, target := some new })) ∧
  (∀ (s : State) (i : Fin 20) (o : Int), s.sel.stage = .measure → s.sel.target = some i →
    candidate s i = true → s.ductus.state ≠ .coast →
    meanOffset s i (ms16 s.sel.cfg.switchMeas) = some o →
    ∃ t, exec .switchMeasureEnd s = .next t ∧ t.refs[i].state = .selected ∧
      t.sel.stage = .slew ∧ t.sel.target = some i ∧ t.ductus.anchor = some i ∧ t.ductus.b = o) ∧
  (∀ (s : State) (i : Fin 20), s.sel.stage = .slew → s.sel.target = some i →
    exec .switchComplete s = .next (raise 0x0204 i.val 0
      ((s.modSel fun x => { x with stage := .idle, target := none }).modDuctus fun d =>
        { d with b := 0 }))) ∧
  (∀ (s : State) (d : Disagreement) (p q : Option Int) (x y : Int), s.sel.alarm = some d → d.a ≠ d.b →
    opinionOf s d.a d.b d.a p = some x → opinionOf s d.a d.b d.b q = some y →
    thirdOpinion s d.a d.b ≠ none → s.refs[d.a].state ≠ .off →
    (monOf s d.a).freqReject < x.natAbs → (monOf s d.b).freqReject ≥ y.natAbs →
    y.natAbs ≤ (monOf s d.b).freqAccept →
    ∃ t, exec (.disagreementCheck p q) s = .next t ∧ t.sel.alarm = none ∧
      t.refs[d.a].reasons.getLsbD 8 = true ∧ t.refs[d.a].rival = some d.b ∧
      t.refs[d.b].reasons = s.refs[d.b].reasons)

/-! ### Configure commands (15 R409) -/

/-- 15 R409 with 02 R53, R54, R56, R68, R71, R72, 04 R127, R139, R147 and 05 R169: a configure command of the
references, of Ductus or of Margin whose body fits and whose rows keep the rules of its table completes with OK, and
the object holds the merged rows; nothing else changes but what the rule names. A FREQ_GATE of fewer than four divided
edges or measurements is E_RANGE. Ductus takes its parameters at its next update and Margin at its next evaluation. It
rests on the model's choices of log entries 22, 25 and 73. -/
def Obligations.TimingConfigurationsApplyTheMergedRows : Prop :=
  (∀ (s : State) (r : Req) (g : GReq) (rows : Rows) (i : Fin 20), g.index = i.val → i.val < 12 →
    Fits 0x0201 refinTable.flds r g (refinTable.rows (refinOf s.refs[i])) rows s →
    let set := s.refs[i].cfgSet ||| g.mask
    let c := refinOf { s.refs[i] with cfg := refinTable.ofRows rows, cfgSet := set }
    refinValid c (selects g) = true → (s.refs[i].state = .off ∨ refinFixed c (refinOf s.refs[i]) = true) →
    (c.companion = 0xFF ∨ c.companion = s.refs[i].cfg.companion ∨ companionOk s i c.companion = true) →
    (c.atomic = 0 ∨ otherAtomics s i < 4) →
    exec (.referenceConfigure r g) s = .next (finish r.src stOk []
      (markCompanions ((s.modRef i fun y => { y with cfg := refinTable.ofRows rows, cfgSet := set }).modDuctus
        fun d => { d with members := upd d.members i fun m => { m with drift := 0, learned := 0 } })))) ∧
  (∀ (s : State) (r : Req) (g : GReq) (rows : Rows) (i : Fin 20), g.index = i.val →
    Fits 0x0202 monTable.flds r g (monTable.rows (monOf s i)) rows s →
    monValid (monTable.ofRows rows) = true → gateHolds s i (monTable.ofRows rows).freqGate = true →
    exec (.monitorConfigure r g) s = .next (finish r.src stOk [] (s.modRef i fun x =>
      { x with mon := monTable.ofRows rows, monSet := x.monSet ||| g.mask }))) ∧
  (∀ (s : State) (r : Req) (g : GReq) (rows : Rows) (i : Fin 20), g.index = i.val →
    Fits 0x0202 monTable.flds r g (monTable.rows (monOf s i)) rows s →
    gateHolds s i (monTable.ofRows rows).freqGate = false →
    exec (.monitorConfigure r g) s = .next (finish r.src eRange [] s)) ∧
  (∀ (s : State) (i : Fin 20) (gate : Nat), i.val ≤ 12 → (gateHolds s i gate = true ↔
    4 * 1000000 * (refinOf s.refs[i]).divider ≤ gate * s.refs[i].cfg.nominal)) ∧
  (∀ (s : State) (i : Fin 20) (p : Fin 2) (gate : Nat), i.val = 13 + p.val → (gateHolds s i gate = true ↔
    4 * s.gnss.ports[p].fix.interval ≤ gate)) ∧
  (∀ (s : State) (i : Fin 20) (gate : Nat), 15 ≤ i.val → i.val ≤ 18 → (gateHolds s i gate = true ↔
    4 * s.net.ptp.client.measInterval ≤ gate)) ∧
  (∀ (s : State) (gate : Nat), gateHolds s 19 gate = true ↔ 4 * 100 ≤ gate) ∧
  (∀ (s : State) (r : Req) (g : GReq) (rows : Rows), g.index = 0xFFFF →
    Fits 0x0203 selTable.flds r g (selTable.rows s.sel.cfg) rows s → selValid (selTable.ofRows rows) = true →
    exec (.selectionConfigure r g) s = .next (finish r.src stOk [] (s.modSel fun x =>
      { x with cfg := selTable.ofRows rows }))) ∧
  (∀ (s : State) (r : Req) (g : GReq) (rows : Rows), g.index = 0xFFFF →
    Fits 0x0301 ductusTable.flds r g (ductusTable.rows (ductusCfg s)) rows s →
    ductusValid (ductusTable.ofRows rows) = true →
    exec (.ductusConfigure r g) s = .next (finish r.src stOk [] (s.modDuctus fun d =>
      { d with next := some (ductusTable.ofRows rows) }))) ∧
  (∀ (s : State) (r : Req) (g : GReq) (rows : Rows) (k : Fin 13) (i : Fin 20), g.index = k.val → i.val = k.val →
    Fits 0x0302 modelTable.flds r g (modelTable.rows (modelOf s i)) rows s →
    modelValid (modelTable.ofRows rows) = true →
    exec (.clockModel r g) s = .next (finish r.src stOk [] (s.modDuctus fun d =>
      { d with models := upd d.models k fun m => { modelTable.ofRows rows with set := m.set ||| g.mask } }))) ∧
  (∀ (s : State) (r : Req) (g : GReq) (rows : Rows) (c : Fin 6), g.index = c.val →
    Fits 0x0303 dpllTable.flds r g (dpllTable.rows s.ductus.dplls[c].cfg) rows s →
    (c = 0 → (dpllTable.ofRows rows).input = s.ductus.dplls[c].cfg.input ∧
      (dpllTable.ofRows rows).apllMask = s.ductus.dplls[c].cfg.apllMask) →
    dpllValid s c s.ductus.dplls[c].cfg (dpllTable.ofRows rows) (selects g) = true →
    exec (.dpllConfigure r g) s = .next (finish r.src stOk [] (putDpll c (dpllTable.ofRows rows) s))) ∧
  (∀ (s : State) (r : Req) (g : GReq) (rows : Rows),
    Fits 0x0307 marginFlds r g (marginRows g.index s) rows s → marginValid g.index rows (selects g) = true →
    exec (.marginConfigure r g) s = .next (finish r.src stOk [] (putMargin g.index rows (selects g) s)))

/-- 15 R409 with 06 R182, R185, R196, 07 R227, 03 R93, R103, R109, R116 and 08 R241: a configure command of an APLL,
an output, an EVOUT slot, an EVIN, the GNSS baseband or a Nib channel whose body fits and whose rows keep the rules of
its table completes with OK and the object holds the merged rows. It rests on the model's choices of log entries 21,
22, 57, 58, 59, 76 and 166. -/
def Obligations.SignalConfigurationsApplyTheMergedRows : Prop :=
  (∀ (s : State) (r : Req) (g : GReq) (rows : Rows) (a : Fin 8), g.index = a.val →
    Fits 0x0401 apllTable.flds r g (apllTable.rows s.synth.aplls[a].cfg) rows s →
    let c := apllTable.ofRows rows
    within 9800000000000 11200000000000 c.vcoFreq = true → 1 ≤ c.ceiling → c.ceiling ≤ 1000 →
    (c.vcoFreq = s.synth.aplls[a].cfg.vcoFreq ∨ (a ≠ 0 ∧ realigning s a = false ∧
      (ckoutsOf a).any (feRefOf s) = false)) →
    let s1 := s.modApll a fun x => { x with cfg := c }
    let s2 := match dpllOf s1 a with
      | some d => applyOne d a s1
      | none => s1
    exec (.apllConfigure r g) s = .next (finish r.src stOk []
      (if c.vcoFreq = s.synth.aplls[a].cfg.vcoFreq then s2 else unlockApll a s2))) ∧
  (∀ (s : State) (r : Req) (g : GReq) (rows : Rows) (k : Fin 16), g.index = k.val →
    Fits 0x0402 ckoutTable.flds r g (ckoutTable.rows s.synth.ckouts[k].cfg) rows s →
    ckoutValid s k (ckoutTable.ofRows rows) (selects g) = true →
    (feRefOf s k = false ∨ ((ckoutTable.ofRows rows).enable = 1 ∧
      (ckoutTable.ofRows rows).hsDiv = s.synth.ckouts[k].cfg.hsDiv ∧
      (ckoutTable.ofRows rows).lsDiv = s.synth.ckouts[k].cfg.lsDiv)) →
    exec (.outputConfigure r g) s = .next (finish r.src stOk [] (putCkout k (ckoutTable.ofRows rows) s))) ∧
  (∀ (s : State) (r : Req) (g : GReq) (old rows : Rows) (e : Fin 8) (slot : Fin 2),
    g.index = 2 * e.val + slot.val → evoutRows g.index s = some old → Fits 0x0404 evoutFlds r g old rows s →
    let p := evProgramOf rows
    evoutValid slot.val p rows (selects g) = true → s.clock.form = .counter →
    (slot.val = 1 ∨ p.enable = 0 ∨ ((now s + armLead : Nat) : Int) ≤ edgeAt p s.synth.evouts[e].pending 0) →
    let s1 := s.modEvout e fun x => { x with polarity := val rows 6 }
    exec (.evoutProgram r g) s = .next (finish r.src stOk []
      (if g.mask = 0x40 ∨ g.mask = 0 then s1 else putProgram e slot.val p s1))) ∧
  (∀ (s : State) (r : Req) (g : GReq) (rows : Rows) (n : Fin 8), g.index = n.val →
    Fits 0x0405 evinTable.flds r g (evinTable.rows s.clock.evins[n]) rows s →
    evinValid (evinTable.ofRows rows) = true →
    let old := s.clock.evins[n].channel
    let held := fun (ch : Option (Fin 24)) (t : State) => t.modClock fun k =>
      { k with evins := upd k.evins n fun e =>
        { e with enable := val rows 0, edge := val rows 1, path := val rows 2, deadTime := val rows 3,
                 channel := ch } }
    ((val rows 0 = 0 ∨ val rows 2 = 0) →
      exec (.evinConfigure r g) s = .next (finish r.src stOk [] (held none (releaseOpt old s)))) ∧
    (∀ k, val rows 0 = 1 → val rows 2 ≠ 0 → old = some k → val rows 1 = s.clock.evins[n].edge →
      exec (.evinConfigure r g) s = .next (finish r.src stOk [] (held old s))) ∧
    (∀ k t, val rows 0 = 1 → val rows 2 ≠ 0 → old = none →
      takeChannel ownEvin n.val (0x10 + n.val) (val rows 1) s = some (k, t) →
      exec (.evinConfigure r g) s = .next (finish r.src stOk [] (held (some k) t))) ∧
    (val rows 0 = 1 → val rows 2 ≠ 0 → old = none →
      takeChannel ownEvin n.val (0x10 + n.val) (val rows 1) s = none →
      exec (.evinConfigure r g) s = .next (finish r.src eNoSpace [] s))) ∧
  (∀ (s : State) (r : Req) (g : GReq) (rows : Rows) (p : Fin 2), g.index = p.val →
    Fits 0x0901 gnssTable.flds r g (gnssTable.rows (gnssCfgOf s.gnss.ports[p])) rows s →
    let set := s.gnss.ports[p].cfgSet ||| g.mask
    let c := gnssCfgOf { s.gnss.ports[p] with cfg := gnssTable.ofRows rows, cfgSet := set }
    gnssValid s c = true →
    (s.refs[gnssRef p].state = .off ∨ gnssFixed c (gnssCfgOf s.gnss.ports[p]) = true) →
    exec (.gnssPortConfigure r g) s = .next (finish r.src stOk [] (s.modPort p fun x =>
      { x with cfg := gnssTable.ofRows rows, cfgSet := set }))) ∧
  (∀ (s : State) (r : Req) (g : GReq) (rows : Rows) (p : Fin 2) (k : Fin 6), g.index = 6 * p.val + k.val →
    Fits 0x0902 trackTable.flds r g (trackTable.rows s.gnss.ports[p].track[k]) rows s →
    trackValid k.val (trackTable.ofRows rows) (decide (g.mask % 32 ≠ 0)) = true →
    exec (.trackingConfigure r g) s = .next (finish r.src stOk [] (s.modPort p fun x =>
      { x with track := x.track.set k (trackTable.ofRows rows) }))) ∧
  (∀ (s : State) (r : Req) (g : GReq) (rows : Rows) (p : Fin 2), g.index = p.val →
    Fits 0x0903 consistTable.flds r g (consistTable.rows s.gnss.ports[p].consist) rows s →
    consistValid (consistTable.ofRows rows) = true →
    exec (.consistencyConfigure r g) s = .next (finish r.src stOk [] (s.modPort p fun x =>
      { x with consist := consistTable.ofRows rows }))) ∧
  (∀ (s : State) (r : Req) (g : GReq) (rows : Rows) (p : Fin 2), g.index = p.val →
    Fits 0x0906 fixTable.flds r g (fixTable.rows s.gnss.ports[p].fix) rows s →
    fixValid (fixTable.ofRows rows) s.gnss.ports[p].position.isSome = true →
    let s1 := s.modPort p fun x => { x with fix := fixTable.ofRows rows }
    exec (.fixConfigure r g) s = .next (finish r.src stOk []
      (if (fixTable.ofRows rows).mode = 2 then s1 else endGroupDelay p eState s1))) ∧
  (∀ (s : State) (r : Req) (g : GReq) (rows : Rows) (c : Fin 24), g.index = c.val →
    Fits 0x0A03 nibTable.flds r g (nibTable.rows s.nib[c].cfg) rows s →
    nibValid (nibTable.ofRows rows) c.val = true → s.nib[c].owner = ownHost →
    exec (.channelConfigure r g) s = .next (finish r.src stOk [] (endPairing c (s.modNib c fun n =>
      armed { n with cfg := nibTable.ofRows rows } (stopBaseNow s c (nibTable.ofRows rows).stop))))) ∧
  (∀ (s : State) (r : Req) (g : GReq) (rows : Rows) (c : Fin 24), g.index = c.val →
    Fits 0x0A04 streamFlds r g [[s.nib[c].cfg.stream], [s.nib[c].cfg.decimate]] rows s →
    val rows 0 ≤ 3 → 1 ≤ val rows 1 → val rows 1 ≤ 65535 →
    exec (.streamConfigure r g) s = .next (finish r.src stOk [] (s.modNib c fun n =>
      { n with cfg := { n.cfg with stream := val rows 0, decimate := val rows 1 } })))

/-- 15 R409 with 09 R254, 10 R273, R274, 11 R296, R303, R312, 12 R318, R320, R332, R334, 16 R460 and 17 R464: a
configure command of a port, a queue, a service, a key container, the stack or a filtered counter whose body fits and
whose rows keep the rules of its table completes with OK and the object holds the merged rows. A configuration of a
service is offered to the twin (16 R447). It rests on the model's choices of log entries 20, 21, 22, 23, 25, 87, 92,
99, 119, 120 and 121. -/
def Obligations.ServiceConfigurationsApplyTheMergedRows : Prop :=
  (∀ (s : State) (r : Req) (g : GReq) (rows : Rows) (m : Fin 16), g.index = m.val → macPresent s m = true →
    Fits 0x0502 macTable.flds r g (macTable.rows s.net.macs[m].cfg) rows s →
    let c := withLanes s.net.portMode m s.net.macs[m].cfg (macTable.ofRows rows) (selects g 4)
    macValid s.net.portMode m c (selects g) = true →
    (c.split = s.net.macs[m].cfg.split ∨
      (s.net.macs[m].state = .off ∧ s.net.macs[pairOf m].state = .off)) →
    (s.net.macs[m].state = .off ∨ macFixed c s.net.macs[m].cfg = true) →
    let s1 := s.modMac m fun x => clipDebt s { x with cfg := c }
    exec (.portConfigure r g) s = .next (finish r.src stOk [] (followEnable m
      (if c.split = s.net.macs[m].cfg.split then s1
       else s1.modMac (pairOf m) fun x =>
         { x with cfg := { x.cfg with laneMap := identityMap (pairOf m).val 1 } })))) ∧
  (∀ (s : State) (r : Req) (g : GReq) (rows : Rows) (m : Fin 16) (q : Fin 32), g.index = 32 * m.val + q.val →
    macPresent s m = true →
    Fits 0x0505 queueTable.flds r g (queueTable.rows s.net.macs[m].queues[q].cfg) rows s →
    queueValid q s.net.macs[m].queues[q].cfg (queueTable.ofRows rows) (selects g) = true →
    exec (.queueConfigure r g) s = .next (finish r.src stOk []
      (modQ m q (setQueue s (queueTable.ofRows rows)) s))) ∧
  (∀ (s : State) (r : Req) (g : GReq) (rows : Rows) (m : Fin 16), g.index = m.val → macPresent s m = true →
    selects g 0 = true →
    Fits 0x0506 egressFlds r g [[s.net.macs[m].overhead], [s.net.guardNs]] rows s →
    20 ≤ val rows 0 → val rows 0 ≤ 255 → val rows 1 ≤ 1000 →
    exec (.egressConfigure r g) s = .next (finish r.src stOk [] (judgePace
      ((s.modMac m fun c => clipDebt s { c with overhead := val rows 0 }).modNet fun n =>
        { n with guardNs := val rows 1 })))) ∧
  (∀ (s : State) (r : Req) (g : GReq) (old rows : Rows), selects g 0 = false →
    egressRows g.index false s = some old → Fits 0x0506 egressFlds r g old rows s →
    20 ≤ val rows 0 → val rows 0 ≤ 255 → val rows 1 ≤ 1000 →
    exec (.egressConfigure r g) s = .next (finish r.src stOk [] (judgePace
      (s.modNet fun n => { n with guardNs := val rows 1 })))) ∧
  (∀ (s : State) (r : Req) (g : GReq) (rows : Rows) (i : Fin 64), g.index = i.val →
    Fits 0x0601 ntsTable.flds r g (ntsTable.rows s.net.nts.addresses[i].cfg) rows s →
    ntsValid (ntsTable.ofRows rows) (selects g) = true → ntsConflict s i (ntsTable.ofRows rows) = false →
    exec (.serviceAddressConfigure r g) s = .next (finish r.src stOk []
      (replicateConfig 0x0601 i.val (modAddress i (fun a => { a with cfg := ntsTable.ofRows rows }) s)))) ∧
  (∀ (s : State) (r : Req) (g : GReq) (rows : Rows), g.index = 0xFFFF →
    Fits 0x0602 rotationTable.flds r g (rotationTable.rows (rotationCfg s)) rows s →
    rotationValid (rotationTable.ofRows rows) = true →
    exec (.rotationConfigure r g) s = .next (finish r.src stOk []
      (replicateConfig 0x0602 0xFFFF (modRotation (fun x => { x with next := some (rotationTable.ofRows rows) }) s)))) ∧
  (∀ (s : State) (r : Req) (g : GReq) (rows : Rows) (p : Fin 8), g.index = p.val →
    Fits 0x0606 profileTable.flds r g (profileTable.rows s.net.nts.profiles[p].cfg) rows s →
    profileValid (profileTable.ofRows rows) = true →
    exec (.policingProfile r g) s = .next (finish r.src stOk []
      (replicateConfig 0x0606 p.val (modProfile p (fun x => { x with cfg := profileTable.ofRows rows }) s)))) ∧
  (∀ (s : State) (r : Req) (g : GReq) (rows : Rows) (i : Fin 16), g.index = i.val →
    Fits 0x0701 ptpTable.flds r g (ptpTable.rows s.net.ptp.addresses[i].cfg) rows s →
    ptpValid (ptpTable.ofRows rows) (selects g) = true →
    (s.net.ptp.addresses[i].cfg.enable = 0 ∨ ptpFixed (ptpTable.ofRows rows) s.net.ptp.addresses[i].cfg = true) →
    ptpConflict s i (ptpTable.ofRows rows) = false →
    exec (.ptpServiceConfigure r g) s = .next (finish r.src stOk []
      (replicateConfig 0x0701 i.val (applyPtp i (ptpTable.ofRows rows) s)))) ∧
  (∀ (s : State) (r : Req) (g : GReq) (rows : Rows), g.index = 0xFFFF →
    Fits 0x0702 globalFlds r g (globalRows s) rows s → 1 ≤ val rows 2 → val rows 2 ≤ 100 →
    (∀ i : Fin 16, s.net.ptp.addresses[i].cfg.enable = 0) →
    exec (.ptpGlobalConfigure r g) s = .next (finish r.src stOk [] (replicateConfig 0x0702 0xFFFF
      (s.modPtp fun p => { p with clockId := val rows 0, orgId := val rows 1, schedLead := val rows 2 })))) ∧
  (∀ (s : State) (r : Req) (g : GReq) (rows : Rows), g.index < 2048 →
    Fits 0x0704 saTable.flds r g (saTable.rows (saOrNone s g.index)) rows s →
    let a := saTable.ofRows rows
    a.algorithm ≤ 1 → a.overlap ≤ 3600 → a.policy ≤ 1 → handleOk s a.current.handle = true →
    handleOk s a.previous.handle = true → handleOk s a.next.handle = true → sppFree s g.index a = true →
    exec (.saConfigure r g) s = .next (finish r.src stOk [] (replicateSa g.index (applySa g.index a s)))) ∧
  (∀ (s : State) (r : Req) (g : GReq) (rows : Rows) (e : Fin 16), g.index = e.val →
    Fits 0x0707 clientTable.flds r g (clientTable.rows s.net.ptp.entries[e].cfg) rows s →
    clientValid s (clientTable.ofRows rows) (selects g) = true →
    exec (.clientEntry r g) s = .next (finish r.src stOk [] (applyEntry e (clientTable.ofRows rows) s))) ∧
  (∀ (s : State) (r : Req) (g : GReq) (rows : Rows), g.index = 0xFFFF →
    Fits 0x0708 clientGlobalTable.flds r g (clientGlobalTable.rows s.net.ptp.client) rows s →
    let c := clientGlobalTable.ofRows rows
    1 ≤ c.maxParents → c.maxParents ≤ 4 → 2 ≤ c.announceTimeout → c.announceTimeout ≤ 10 →
    100 ≤ c.measInterval → c.measInterval ≤ 10000 → c.filter ≤ 1 →
    exec (.clientConfigure r g) s = .next (finish r.src stOk [] (settleParents
      (s.modPtp fun p => { p with client := c })))) ∧
  (∀ (s : State) (r : Req) (g : GReq) (rows : Rows), g.index = 0xFFFF →
    Fits 0x0B01 stackTable.flds r g (stackTable.rows s.stack.cfg) rows s →
    stackValid (stackTable.ofRows rows) = true → s.stack.paired = false → s.stack.pairing = none →
    exec (.stackConfigure r g) s = .next (finish r.src stOk [] (s.modStack fun t =>
      { t with cfg := stackTable.ofRows rows, links := vmap (fun l k =>
        if (if l.val = 0 then val rows 1 else val rows 2) = 0 then { k with up := false } else k) t.links }))) ∧
  (∀ (s : State) (r : Req) (g : GReq) (rows : Rows) (n : Fin 32), g.index = n.val →
    Fits 0x0C05 filterTable.flds r g (filterTable.rows s.wear.filters[n].cfg) rows s →
    filterValid (filterTable.ofRows rows) = true →
    exec (.filterConfigure r g) s = .next (finish r.src stOk [] (s.modWear fun w =>
      { w with filters := upd w.filters n fun x =>
        { x with cfg := filterTable.ofRows rows, count := (filterTable.ofRows rows).preset, ovf := false } })))

/-- 15 R409, R411: each read-back answers OK with the body of its configure command: INDEX, a MASK with every bit, and
every field as it stands; a row that the host has not set reads as the value in force. A configure command whose MASK
has a bit beyond the last row of its table is answered with E_RANGE, and one whose body is too short for its rows with
E_RANGE or E_LENGTH; nothing is applied. It rests on the model's choices of log entries 14, 20 and 21. -/
def Obligations.ReadBacksReturnAllFieldsAndMisfitsAreRefused : Prop :=
(∀ (s : State) (r : Req) (i : Fin 20), Asks 0x0281 4 r s → i.val ≤ 12 →
    exec (.referenceConfigureReadBack r i.val) s =
      .next (finish r.src stOk (readBackBody refinTable.flds i.val (refinTable.rows (refinOf s.refs[i]))) s)) ∧
  (∀ (s : State) (r : Req) (i : Fin 20), Asks 0x0282 4 r s →
    exec (.monitorConfigureReadBack r i.val) s =
      .next (finish r.src stOk (readBackBody monTable.flds i.val (monTable.rows (monOf s i))) s)) ∧
  (∀ (s : State) (r : Req), Asks 0x0283 4 r s →
    exec (.selectionConfigureReadBack r 0xFFFF) s =
      .next (finish r.src stOk (readBackBody selTable.flds 0xFFFF (selTable.rows s.sel.cfg)) s)) ∧
  (∀ (s : State) (r : Req), Asks 0x0381 4 r s →
    exec (.ductusConfigureReadBack r 0xFFFF) s =
      .next (finish r.src stOk (readBackBody ductusTable.flds 0xFFFF (ductusTable.rows (ductusCfg s))) s)) ∧
  (∀ (s : State) (r : Req) (i : Fin 20), Asks 0x0382 4 r s → i.val ≤ 12 →
    exec (.clockModelReadBack r i.val) s =
      .next (finish r.src stOk (readBackBody modelTable.flds i.val (modelTable.rows (modelOf s i))) s)) ∧
  (∀ (s : State) (r : Req) (c : Fin 6), Asks 0x0383 4 r s →
    exec (.dpllConfigureReadBack r c.val) s =
      .next (finish r.src stOk (readBackBody dpllTable.flds c.val (dpllTable.rows s.ductus.dplls[c].cfg)) s)) ∧
  (∀ (s : State) (r : Req) (n : Nat), Asks 0x0387 4 r s →
    exec (.marginConfigureReadBack r n) s =
      .next (finish r.src stOk (readBackBody marginFlds n (marginRows n s)) s)) ∧
  (∀ (s : State) (r : Req) (a : Fin 8), Asks 0x0481 4 r s →
    exec (.apllConfigureReadBack r a.val) s =
      .next (finish r.src stOk (readBackBody apllTable.flds a.val (apllTable.rows s.synth.aplls[a].cfg)) s)) ∧
  (∀ (s : State) (r : Req) (k : Fin 16), Asks 0x0482 4 r s →
    exec (.outputConfigureReadBack r k.val) s =
      .next (finish r.src stOk (readBackBody ckoutTable.flds k.val (ckoutTable.rows s.synth.ckouts[k].cfg)) s)) ∧
  (∀ (s : State) (r : Req) (n : Nat) (rows : Rows), Asks 0x0484 4 r s → evoutRows n s = some rows →
    exec (.evoutProgramReadBack r n) s =
      .next (finish r.src stOk (readBackBody evoutFlds n (rows)) s)) ∧
  (∀ (s : State) (r : Req) (n : Fin 8), Asks 0x0485 4 r s →
    exec (.evinConfigureReadBack r n.val) s =
      .next (finish r.src stOk (readBackBody evinTable.flds n.val (evinTable.rows s.clock.evins[n])) s)) ∧
  (∀ (s : State) (r : Req) (m : Fin 16), Asks 0x0582 4 r s → macPresent s m = true →
    exec (.portConfigureReadBack r m.val) s =
      .next (finish r.src stOk (readBackBody macTable.flds m.val (macTable.rows s.net.macs[m].cfg)) s)) ∧
  (∀ (s : State) (r : Req) (m : Fin 16) (q : Fin 32), Asks 0x0585 4 r s → macPresent s m = true →
    exec (.queueConfigureReadBack r (32 * m.val + q.val)) s =
      .next (finish r.src stOk (readBackBody queueTable.flds (32 * m.val + q.val) (queueTable.rows s.net.macs[m].queues[q].cfg)) s)) ∧
  (∀ (s : State) (r : Req) (m : Fin 16), Asks 0x0586 4 r s → macPresent s m = true →
    exec (.egressConfigureReadBack r m.val) s =
      .next (finish r.src stOk (readBackBody egressFlds m.val ([[s.net.macs[m].overhead], [s.net.guardNs]])) s)) ∧
  (∀ (s : State) (r : Req) (i : Fin 64), Asks 0x0681 4 r s →
    exec (.serviceAddressConfigReadBack r i.val) s =
      .next (finish r.src stOk (readBackBody ntsTable.flds i.val (ntsTable.rows s.net.nts.addresses[i].cfg)) s)) ∧
  (∀ (s : State) (r : Req), Asks 0x0682 4 r s →
    exec (.rotationConfigureReadBack r 0xFFFF) s =
      .next (finish r.src stOk (readBackBody rotationTable.flds 0xFFFF (rotationTable.rows (rotationCfg s))) s)) ∧
  (∀ (s : State) (r : Req) (p : Fin 8), Asks 0x0686 4 r s →
    exec (.policingProfileReadBack r p.val) s =
      .next (finish r.src stOk (readBackBody profileTable.flds p.val (profileTable.rows s.net.nts.profiles[p].cfg)) s)) ∧
  (∀ (s : State) (r : Req) (i : Fin 16), Asks 0x0781 4 r s →
    exec (.ptpServiceConfigureReadBack r i.val) s =
      .next (finish r.src stOk (readBackBody ptpTable.flds i.val (ptpTable.rows s.net.ptp.addresses[i].cfg)) s)) ∧
  (∀ (s : State) (r : Req), Asks 0x0782 4 r s →
    exec (.ptpGlobalConfigureReadBack r 0xFFFF) s =
      .next (finish r.src stOk (readBackBody globalFlds 0xFFFF (globalRows s)) s)) ∧
  (∀ (s : State) (r : Req) (n : Nat), Asks 0x0784 4 r s → n < 2048 →
    exec (.saConfigureReadBack r n) s =
      .next (finish r.src stOk (readBackBody saTable.flds n (saTable.rows (saOrNone s n))) s)) ∧
  (∀ (s : State) (r : Req) (e : Fin 16), Asks 0x0787 4 r s →
    exec (.clientEntryReadBack r e.val) s =
      .next (finish r.src stOk (readBackBody clientTable.flds e.val (clientTable.rows s.net.ptp.entries[e].cfg)) s)) ∧
  (∀ (s : State) (r : Req), Asks 0x0788 4 r s →
    exec (.clientConfigureReadBack r 0xFFFF) s =
      .next (finish r.src stOk (readBackBody clientGlobalTable.flds 0xFFFF (clientGlobalTable.rows s.net.ptp.client)) s)) ∧
  (∀ (s : State) (r : Req) (i : Fin 2), Asks 0x0883 4 r s →
    exec (.tamperConfigureReadBack r i.val) s =
      .next (finish r.src stOk (readBackBody [one 1, one 1] i.val ([[s.keys.tamperIn[i].1], [s.keys.tamperIn[i].2]])) s)) ∧
  (∀ (s : State) (r : Req) (p : Fin 2), Asks 0x0981 4 r s →
    exec (.gnssPortConfigureReadBack r p.val) s =
      .next (finish r.src stOk (readBackBody gnssTable.flds p.val (gnssTable.rows (gnssCfgOf s.gnss.ports[p]))) s)) ∧
  (∀ (s : State) (r : Req) (p : Fin 2) (k : Fin 6), Asks 0x0982 4 r s →
    exec (.trackingConfigureReadBack r (6 * p.val + k.val)) s =
      .next (finish r.src stOk (readBackBody trackTable.flds (6 * p.val + k.val) (trackTable.rows s.gnss.ports[p].track[k])) s)) ∧
  (∀ (s : State) (r : Req) (p : Fin 2), Asks 0x0983 4 r s →
    exec (.consistencyConfigureReadBack r p.val) s =
      .next (finish r.src stOk (readBackBody consistTable.flds p.val (consistTable.rows s.gnss.ports[p].consist)) s)) ∧
  (∀ (s : State) (r : Req) (p : Fin 2), Asks 0x0986 4 r s →
    exec (.fixConfigureReadBack r p.val) s =
      .next (finish r.src stOk (readBackBody fixTable.flds p.val (fixTable.rows s.gnss.ports[p].fix)) s)) ∧
  (∀ (s : State) (r : Req) (c : Fin 24), Asks 0x0A83 4 r s →
    exec (.channelConfigureReadBack r c.val) s =
      .next (finish r.src stOk (readBackBody nibTable.flds c.val (nibTable.rows s.nib[c].cfg)) s)) ∧
  (∀ (s : State) (r : Req) (c : Fin 24), Asks 0x0A84 4 r s →
    exec (.streamConfigureReadBack r c.val) s =
      .next (finish r.src stOk (readBackBody streamFlds c.val ([[s.nib[c].cfg.stream], [s.nib[c].cfg.decimate]])) s)) ∧
  (∀ (s : State) (r : Req), Asks 0x0B81 4 r s →
    exec (.stackConfigureReadBack r 0xFFFF) s =
      .next (finish r.src stOk (readBackBody stackTable.flds 0xFFFF (stackTable.rows s.stack.cfg)) s)) ∧
  (∀ (s : State) (r : Req) (n : Fin 32), Asks 0x0C85 4 r s →
    exec (.filterConfigureReadBack r n.val) s =
      .next (finish r.src stOk (readBackBody filterTable.flds n.val (filterTable.rows s.wear.filters[n].cfg)) s)) ∧
  (∀ x ∈ ([
      (Instr.referenceConfigure, 0x0201, refinTable.flds),
      (Instr.monitorConfigure, 0x0202, monTable.flds),
      (Instr.selectionConfigure, 0x0203, selTable.flds),
      (Instr.ductusConfigure, 0x0301, ductusTable.flds),
      (Instr.clockModel, 0x0302, modelTable.flds),
      (Instr.dpllConfigure, 0x0303, dpllTable.flds),
      (Instr.marginConfigure, 0x0307, marginFlds),
      (Instr.apllConfigure, 0x0401, apllTable.flds),
      (Instr.outputConfigure, 0x0402, ckoutTable.flds),
      (Instr.evoutProgram, 0x0404, evoutFlds),
      (Instr.evinConfigure, 0x0405, evinTable.flds),
      (Instr.portConfigure, 0x0502, macTable.flds),
      (Instr.queueConfigure, 0x0505, queueTable.flds),
      (Instr.egressConfigure, 0x0506, egressFlds),
      (Instr.serviceAddressConfigure, 0x0601, ntsTable.flds),
      (Instr.rotationConfigure, 0x0602, rotationTable.flds),
      (Instr.policingProfile, 0x0606, profileTable.flds),
      (Instr.ptpServiceConfigure, 0x0701, ptpTable.flds),
      (Instr.ptpGlobalConfigure, 0x0702, globalFlds),
      (Instr.saConfigure, 0x0704, saTable.flds),
      (Instr.clientEntry, 0x0707, clientTable.flds),
      (Instr.clientConfigure, 0x0708, clientGlobalTable.flds),
      (Instr.tamperConfigure, 0x0803, [one 1, one 1]),
      (Instr.gnssPortConfigure, 0x0901, gnssTable.flds),
      (Instr.trackingConfigure, 0x0902, trackTable.flds),
      (Instr.consistencyConfigure, 0x0903, consistTable.flds),
      (Instr.fixConfigure, 0x0906, fixTable.flds),
      (Instr.channelConfigure, 0x0A03, nibTable.flds),
      (Instr.streamConfigure, 0x0A04, streamFlds),
      (Instr.stackConfigure, 0x0B01, stackTable.flds),
      (Instr.filterConfigure, 0x0C05, filterTable.flds)] : List ((Req → GReq → Instr) × Nat × List Fld)),
    ∀ (s : State) (r : Req) (g : GReq) (p : Pend), ready x.2.1 r s = some p →
      (2 ^ x.2.2.length ≤ g.mask → exec (x.1 r g) s = .next (finish r.src eRange [] s)) ∧
      (g.mask < 2 ^ x.2.2.length → r.len < 8 → ∃ e, (e = eRange ∨ e = eLength) ∧
        exec (x.1 r g) s = .next (finish r.src e [] s)))

/-! ### The time counter (07) -/

/-- 07 R213, R214, R211, R219: the time commands. A time-set in the virtual form with Ductus FREE writes a parameter
set at the present tick, or waits for an edge of an EVIN; outside that it is refused with E_STATE. A step waits for
the first second boundary at least 2 ms away; a restart begins the recovery sequence; a leap table that keeps the
order rules replaces the one in force. It rests on the model's choices of log entries 2, 14, 63, 65 and 170. -/
def Obligations.TimeCommandsActAsTheirRulesSay : Prop :=
  (∀ (s : State) (r : Req) (t0 : ZT128), Asks 0x0102 17 r s → ztValid t0 = true → s.clock.form = .virtual →
    s.ductus.state = .free →
    exec (.timeSet r t0 0) s = .next (finish r.src stOk [] (setVirtual
      { t0 := ztUnits t0, v0 := s.clock.ticks.toNat, rate := s.clock.vset.rate }
      (s.modClock fun c => { c with setOnEvin := none })))) ∧
  (∀ (s : State) (v : VirtualSet), (setVirtual v s).clock = { s.clock with vset := v, vprev := s.clock.vset } ∧
    (setVirtual v s).ductus = s.ductus ∧ (setVirtual v s).synth = s.synth) ∧
  (∀ (s : State) (v : VirtualSet) (i : Fin 20) (o : Int), s.refs[i].measured = some o →
    (setVirtual v s).refs[i].measured = some (o + ((now (setVirtual v s) : Int) - now s))) ∧
  (∀ (s : State) (r : Req) (t0 : ZT128) (n : Fin 8), Asks 0x0102 17 r s → ztValid t0 = true →
    s.clock.form = .virtual → s.ductus.state = .free →
    exec (.timeSet r t0 (n.val + 1)) s = .next (finish r.src stOk [] (s.modClock fun c =>
      { c with setOnEvin := some (n, ztUnits t0) }))) ∧
  (∀ (s : State) (r : Req) (t0 : ZT128) (setAt : Nat), Asks 0x0102 17 r s → setAt ≤ 8 → ztValid t0 = true →
    (s.clock.form ≠ .virtual ∨ s.ductus.state ≠ .free) →
    exec (.timeSet r t0 setAt) s = .next (finish r.src eState [] s)) ∧
  (∀ (s : State) (r : Req) (p : Pend) (a : Int), r.len = 8 → ready 0x0103 r s = some p → a ≠ 0 →
    a.natAbs ≤ 1000 * secUnit → 0 ≤ (now s : Int) + a → s.clock.form = .counter → s.clock.step = none →
    s.clock.rebase = none →
    exec (.timeStep r a) s = .next (finish r.src stAccepted [] (s.modClock fun c =>
      { c with step := some { amount := a, boundary := (now s + ms16 2 + secUnit - 1) / secUnit,
                              source := r.src, sequence := p.sequence } }))) ∧
  (∀ (s : State) (r : Req) (p : Pend), r.len = 0 → ready 0x0104 r s = some p →
    exec (.timeRestart r) s = .next (finish r.src stAccepted [] ((beginRecovery true s).modClock fun c =>
      { c with restarts := c.restarts ++ [(r.src, p.sequence)] }))) ∧
  (∀ (s : State) (r : Req) (base : Int) (expiry : Nat) (es : List LeapEntry),
    Asks 0x0105 (24 + 16 * es.length) r s → leapFields base expiry es = true → leapOk none base es = true →
    (s.clock.leap.unset = true ∨ inProgress s.clock.leap (now s) =
      inProgress { base := base, expiry := expiry, entries := es, unset := false } (now s)) →
    exec (.leapTable r base expiry es) s = .next (finish r.src stOk [] (s.modClock fun c =>
      { c with leap := { base := base, expiry := expiry, entries := es, unset := false } })))

/-- 07 R205, R206, R210, R214, R211, R222, R224: the rows of the time counter. The handover keeps device time and
brings the counter form with the next epoch; a step moves the register by its amount, and Ductus takes it into H; a
recovery stops the clock at the time it had; the restart begins the virtual form there with Ductus FREE; a latch fills
the window; a table that has run out is marked. With no command waiting a step is one tick of the system time clock
(DESIGN CHOICE, log entry 2): V advances by 1, in the counter form the register by INCREMENT, and with the clock
stopped nothing happens. It rests on the model's choices of log entries 2, 4, 63, 64 and 67. -/
def Obligations.TimeRowsMoveTheCounterAsItsRulesSay : Prop :=
  (∀ s : State, s.clock.handoverAsked = true → s.clock.form = .virtual → s.clock.handedOver = false →
    ∃ t, exec .handover s = .next t ∧ t.clock.form = .counter ∧ t.clock.epoch = s.clock.epoch + 1 ∧
      t.clock.increment = 2 ^ 40 ∧ t.clock.handedOver = true ∧ t.clock.restarts = [] ∧ now t = now s) ∧
  (∀ (s : State) (p : PendingStep), s.clock.step = some p → s.clock.form = .counter → p.boundary ≤ nowSec s →
    ∃ t, exec .timeStepApply s = .next t ∧ t.clock.step = none ∧ t.clock.epoch = s.clock.epoch + 1 ∧
      t.clock.reg = ((s.clock.reg : Int) + p.amount * 2 ^ 24).toNat ∧
      t.ductus.h = s.ductus.h + p.amount) ∧
  (∀ s : State, s.clock.recovery = none → s.synth.aplls[0].state = .locked →
    ∃ t, exec .recoveryStart s = .next t ∧ t.clock.form = .stopped ∧ now t = now s ∧
      t.clock.step = none ∧ t.synth.aplls[0].state = .unlocked) ∧
  (∀ (s : State) (c : Recovery) (n : Nat) (lost : Bool), s.clock.recovery = some c →
    s.synth.aplls[0].state ≠ .unlocked →
    ∃ t, exec (.clockRestart n lost) s = .next t ∧ t.clock.form = .virtual ∧ t.clock.ticks = 0 ∧
      t.clock.recovery = none ∧ t.clock.epoch = s.clock.epoch + 1 ∧ t.ductus.state = .free ∧
      now t = c.rLast / 2 ^ 24 + xoTime s (if c.byCommand then 0 else n)) ∧
  (∀ s : State, s.clock.leap.unset = false → s.clock.leap.expiry * secUnit < now s →
    exec .leapTableExpiry s = .next (s.modClock fun c => { c with leap := { c.leap with expired := true } })) ∧
  (∀ s : State, s.clock.form ≠ .stopped → s.host.linkUp = true → s.host.d3hot = false →
    exec .cwLatch s = .next (s.modClock fun c => { c with window := snapshotOf s })) ∧
  (∀ (s : State) (e : Fin 8) (sub : Nat), s.clock.evins[e].enable = 1 → s.clock.evins[e].edge = 0 →
    s.clock.evins[e].path ≠ 1 → s.clock.form ≠ .stopped →
    exec (.evinEdge e true sub) s = .next (evinTrigger e.val (latchEdge e true sub (setOnEdge e sub s)))) ∧
  (∀ (s : State) (e : Fin 8) (sub : Nat), s.clock.evins[e].enable = 1 → s.clock.evins[e].edge = 1 →
    s.clock.evins[e].path ≠ 1 → s.clock.form ≠ .stopped → s.clock.evins[e].lastEdge = none →
    exec (.evinEdge e false sub) s = .next (latchEdge e false sub s) ∧
    (latchEdge e false sub s).clock.evins[e].count = (s.clock.evins[e].count + 1) % 2 ^ 64) ∧
  (∀ s : State, s.pending = [] → s.clock.form = .stopped → step s = .next s) ∧
  (∀ s : State, s.pending = [] → s.clock.form = .counter →
    ∃ t, step s = .next t ∧ t.clock = { s.clock with
      ticks := s.clock.ticks + 1, reg := s.clock.reg + s.clock.increment } ∧
      t.ductus = s.ductus ∧ t.refs = s.refs ∧ t.keys = s.keys) ∧
  (∀ s : State, s.pending = [] → s.clock.form = .virtual →
    ∃ t, step s = .next t ∧ t.clock = { s.clock with ticks := s.clock.ticks + 1 } ∧
      t.ductus = s.ductus ∧ t.refs = s.refs ∧ t.keys = s.keys)


/-! ### The step and the shared rules of commands (14) -/

/-- A step on a queue that is not empty is the command at its front, run on the state with the queue's rest. It rests
on the model's choices of log entry 2. -/
def Obligations.StepRunsTheFrontCommand : Prop :=
  ∀ (c : Instr) (cs : List Instr) (s : State), s.pending = c :: cs → step s = exec c { s with pending := cs }

/-- No command stops the block: every command answers a next state in every state. It rests on the model's choices of
log entry 1. -/
def Obligations.EveryCommandAnswersANextState : Prop := ∀ (c : Instr) (s : State), ∃ t, exec c s = .next t

/-- The frame of every command: a command changes no part of the state but those that its row is about, and none
touches the queue of commands that wait. -/
def Obligations.EveryCommandKeepsTheOtherParts : Prop :=
  (∀ (c : Instr) (s t : State) (p : Part), exec c s = .next t → p ∉ mayWrite c → samePart p s t) ∧
  (∀ c : Instr, Part.pending ∉ mayWrite c)

/-- 18 R492, R495; 14 R387, R390: what stands right after reset: RESET_N low, nothing granted or running, all clocks
stopped, every reference but the XO OFF, registers 0 but WDT_PERIOD 500 and every pan queue empty. It rests on the
model's choices of log entries 8 and 9. -/
def Obligations.ResetLeavesTheStatedValues : Prop :=
  State.reset.pending = [] ∧ State.reset.power.inReset = true ∧ State.reset.power.mode = .balanced ∧
  State.reset.clock.form = .stopped ∧ State.reset.clock.ticks = 0 ∧ State.reset.clock.epoch = 0 ∧
  State.reset.clock.increment = 2 ^ 40 ∧ State.reset.ductus.state = .free ∧
  (∀ i : Fin 20, i ≠ xoRef → State.reset.refs[i].state = .off) ∧ State.reset.refs[xoRef].state ≠ .off ∧
  (∀ a : Fin 8, State.reset.synth.aplls[a].state = .unlocked) ∧
  (∀ k : Fin 16, State.reset.synth.ckouts[k].state = .off) ∧
  (∀ m : Fin 16, State.reset.host.boxes[m] = {}) ∧ State.reset.host.adminLock = false ∧
  State.reset.host.cause = 0 ∧ State.reset.host.mask = 0 ∧ State.reset.host.wdt = 500 ∧
  State.reset.host.em.owner = 0 ∧ State.reset.host.em.stage = 0 ∧ State.reset.host.supervisor = false ∧
  (∀ q : Fin 5, State.reset.host.queues[q].items = [] ∧ State.reset.host.queues[q].sequence = 0) ∧
  State.reset.wear.calGeneration = 1

/-- 17 R476; 14 R378, R391: the memories at reset list nothing and are in their canonical form, and the calibration
record is sound: its invariant holds there. It rests on the model's choice of log entry 150. -/
def Obligations.MemoriesAreCanonicalAtReset : Prop :=
  State.reset.host.memory.wf zeroByte = true ∧ State.reset.host.msix.wf zeroByte = true ∧
  CalRecordSound State.reset

/-- 17 R476 to R478: every step, whatever the command, keeps the calibration record in its canonical form with the
header of the factory (all but OVERWRITTEN), and leaves CAL_GENERATION or increments it by 1. It rests on the model's
choices of log entry 2. -/
def Obligations.EveryStepKeepsTheCalibrationRecord : Prop :=
  ∀ s t : State, CalRecordSound s → step s = .next t → CalRecordSound t ∧
    (t.wear.calGeneration = s.wear.calGeneration ∨
      t.wear.calGeneration = (s.wear.calGeneration + 1) % 2 ^ 32)

/-- 14 R384, R387, R389: the checks in their order. First the group (and the admin lock), then the header, then the
opcode; the emergency mailbox knows its own list. It rests on the model's choices of log entries 14, 15, 18 and 19. -/
def Obligations.ScreeningTakesItsChecksInOrder : Prop :=
  (∀ (s : State) (p : Pend) (m : Fin 16), 4 ≤ m.val → opGroup p.opcode = some 2 →
    screenStatus (.mailbox m) p s = some ePriv) ∧
  (∀ (s : State) (p : Pend) (t : Fin 4) (g : Nat), opGroup p.opcode = some g → 1 ≤ g →
    screenStatus (.task t) p s = some ePriv) ∧
  (∀ (s : State) (p : Pend) (m : Fin 16), m.val < 4 → s.host.adminLock = true →
    screenStatus (.mailbox m) p s = some ePriv) ∧
  (∀ (s : State) (p : Pend) (m : Fin 16) (g : Nat), opGroup p.opcode = some g →
    g ≤ sourceGroup (.mailbox m) → (s.host.adminLock = false ∨ 4 ≤ m.val) →
    screenStatus (.mailbox m) p s = if p.badHeader then some eLength else none) ∧
  (∀ (s : State) (p : Pend) (m : Fin 16), opGroup p.opcode = none →
    (s.host.adminLock = false ∨ 4 ≤ m.val) →
    screenStatus (.mailbox m) p s = if p.badHeader then some eLength else some eOpcode) ∧
  (∀ (s : State) (p : Pend), p.badHeader = false → p.bulk = false →
    screenStatus .emergency p s = if p.opcode ∈ emergencyOps then none else some eOpcode) ∧
  (∀ (s : State) (p : Pend), p.bulk = true → screenStatus .emergency p s = some eLength)

/-- 14 R383 to R385: the response of a mailbox command. It clears BUSY, sets DONE and the mailbox's bit of
INT_MB_DONE, and holds opcode and sequence copied, the length, the status and the body; a body above 56 B goes to the
bulk region where it fits RSP_CAPACITY, and is E_LENGTH with the length it needed where it does not. It rests on the
model's choices of log entry 150. -/
def Obligations.AResponseEndsTheCommand : Prop :=
  (∀ (s : State) (m : Fin 16) (p : Pend) (st : Nat) (body : Bytes), s.host.boxes[m].inHand = some p →
    s.host.boxes[m].behind = [] → p.discard = false → body.length ≤ 56 →
    let t := finish (.mailbox m) st body s
    t.host.boxes[m].busy = false ∧ t.host.boxes[m].done = true ∧ t.host.boxes[m].inHand = none ∧
    t.host.boxes[m].response = le 2 p.opcode ++ le 2 p.sequence ++ le 2 body.length ++ le 2 st ++ body ++
      le (56 - body.length) 0 ∧
    t.host.mbDone.getLsbD m.val = true ∧ t.host.memory = s.host.memory ∧
    (∀ k : Fin 16, k ≠ m → t.host.boxes[k] = s.host.boxes[k])) ∧
  (∀ (s : State) (m : Fin 16) (p : Pend) (st : Nat) (body : Bytes), s.host.boxes[m].inHand = some p →
    s.host.boxes[m].behind = [] → p.discard = false → 56 < body.length → p.bulk = true →
    body.length ≤ p.rspCapacity → s.host.memory.wf zeroByte = true →
    let t := finish (.mailbox m) st body s
    t.host.boxes[m].response = le 2 p.opcode ++ le 2 p.sequence ++ le 2 0 ++ le 2 st ++ le 56 0 ∧
    dpRead t (bulkBase m + p.rspOffset) body.length = body ∧
    (∀ a, a < bulkBase m + p.rspOffset ∨ bulkBase m + p.rspOffset + body.length ≤ a →
      t.host.memory.read zeroByte a = s.host.memory.read zeroByte a)) ∧
  (∀ (s : State) (m : Fin 16) (p : Pend) (st : Nat) (body : Bytes), s.host.boxes[m].inHand = some p →
    s.host.boxes[m].behind = [] → p.discard = false → 56 < body.length → p.bulk = true →
    p.rspCapacity < body.length →
    (finish (.mailbox m) st body s).host.boxes[m].response =
      le 2 p.opcode ++ le 2 p.sequence ++ le 2 4 ++ le 2 eLength ++ le 4 body.length ++ le 52 0 ∧
    (finish (.mailbox m) st body s).host.memory = s.host.memory) ∧
  (∀ (s : State) (m : Fin 16) (p : Pend) (st : Nat) (body : Bytes), s.host.boxes[m].inHand = some p →
    s.host.boxes[m].behind = [] → p.discard = true →
    finish (.mailbox m) st body s = setHand (.mailbox m) none s)

/-- 14 R398 to R400: an event begins an item at the end of those being built on the event log, with its code, epoch,
flags, arguments and device time, and changes nothing else; the commit places the item that has been built longest,
the oldest item making room in a full queue. -/
def Obligations.EventsBecomeItemsOfTheLog : Prop :=
  (∀ (s : State) (code a b : Nat), raise code a b s = s.modQueue 0 fun k =>
    { k with building := k.building ++ [.event
      { code := code, epoch := s.clock.epoch,
        flags := (if s.clock.form = .virtual then 1 else 0) +
          (if code ∈ persistentCodes then 2 else 0) + (if code ∈ maskCodes then 4 else 0),
        argA := a % 2 ^ 32, argB := b % 2 ^ 64, time := now s }] }) ∧
  (∀ (s : State) (q : Fin 5), s.host.queues[q].building = [] → exec (.panQueueItemCommit q) s = .next s) ∧
  (∀ (s : State) (q : Fin 5) (p : QPayload) (rest : List QPayload), s.host.queues[q].building = p :: rest →
    s.host.queues[q].items.length < queueItems q → s.host.image = none →
    ∃ t, exec (.panQueueItemCommit q) s = .next t ∧ t.host.queues[q].building = rest ∧
      t.host.queues[q].items = s.host.queues[q].items ++
        [{ sequence := s.host.queues[q].sequence, payload := p }] ∧
      t.host.queues[q].sequence = (s.host.queues[q].sequence + 1) % 2 ^ 32 ∧
      t.host.queues[q].lost = s.host.queues[q].lost) ∧
  (∀ (s : State) (q : Fin 5) (p : QPayload) (rest : List QPayload), s.host.queues[q].building = p :: rest →
    queueItems q ≤ s.host.queues[q].items.length → s.host.image = none →
    ∃ t, exec (.panQueueItemCommit q) s = .next t ∧ t.host.queues[q].building = rest ∧
      t.host.queues[q].items = s.host.queues[q].items.drop 1 ++
        [{ sequence := s.host.queues[q].sequence, payload := p }] ∧
      t.host.queues[q].lost = (s.host.queues[q].lost + 1) % 2 ^ 64 ∧
      t.host.queues[q].lossNext = true)

/-! ### The register window (14) -/

/-- 14 R385, R387 to R389: doorbells and ownership. GO on a busy mailbox sets OVERRUN and starts nothing; else the
request of the payload is taken up by the running supervisor, or held for its start. GO of the emergency mailbox is
the owner's alone; a claim of a free mailbox is granted, one of an owned mailbox waits and is granted at the release
or after the owner's timeout; ADMIN_LOCK stays set. It rests on the model's choices of log entries 14, 15, 16 and 19.
-/
def Obligations.DoorbellsSubmitTheRequestOfThePayload : Prop :=
  (∀ (s : State) (m : Fin 16), hostReachable s = true → s.host.boxes[m].busy = true →
    exec (.mailboxDoorbell m) s = .next (modBox m (fun b => { b with overrun := true }) s)) ∧
  (∀ (s : State) (m : Fin 16), hostReachable s = true → s.host.boxes[m].busy = false →
    s.host.boxes[m].inHand = none → s.host.supervisor = true →
    screenStatus (.mailbox m) (parseRequest s.host.boxes[m].request) s = none →
    exec (.mailboxDoorbell m) s = .next (modBox m (fun b =>
      { b with busy := true, done := false, behind := [],
               inHand := some { parseRequest s.host.boxes[m].request with screened := true } }) s)) ∧
  (∀ (s : State) (m : Fin 16) (e : Nat), hostReachable s = true → s.host.boxes[m].busy = false →
    s.host.boxes[m].inHand = none → s.host.supervisor = true →
    screenStatus (.mailbox m) (parseRequest s.host.boxes[m].request) s = some e →
    ∃ t, exec (.mailboxDoorbell m) s = .next t ∧ t.host.boxes[m].busy = false ∧
      t.host.boxes[m].done = true ∧ t.host.boxes[m].inHand = none ∧
      t.host.boxes[m].response = responseOctets (parseRequest s.host.boxes[m].request) e []) ∧
  (∀ (s : State) (m : Fin 16), hostReachable s = true → s.host.boxes[m].busy = false →
    s.host.boxes[m].inHand = none → s.host.supervisor = false →
    exec (.mailboxDoorbell m) s = .next (modBox m (fun b =>
      { b with busy := true, done := false, inHand := some (parseRequest s.host.boxes[m].request) }) s)) ∧
  (∀ (s : State) (p : Port), portReaches p s = true → s.host.em.owner ≠ portCode p →
    exec (.emergencyDoorbell p) s = .next s) ∧
  (∀ (s : State) (p : Port), portReaches p s = true → s.power.inReset = false →
    s.host.em.owner = portCode p → s.host.em.mb.busy = false → s.host.em.mb.inHand = none →
    screenStatus .emergency (parseRequest s.host.em.mb.request) s = none →
    exec (.emergencyDoorbell p) s = .next (modEm (fun b =>
      { b with busy := true, done := false, behind := [],
               inHand := some { parseRequest s.host.em.mb.request with screened := true } }) s)) ∧
  (∀ (s : State) (p : Port), portReaches p s = true → s.host.em.owner = 0 →
    exec (.emClaim p) s = .next (s.modHost fun h => { h with em := { h.em with owner := portCode p } })) ∧
  (∀ (s : State) (p : Port), portReaches p s = true → s.host.em.owner ≠ 0 → s.host.em.owner ≠ portCode p →
    exec (.emClaim p) s = .next (s.modHost fun h => { h with em := { h.em with waiting := true } })) ∧
  (∀ (s : State) (p : Port), portReaches p s = true → s.host.em.owner = portCode p →
    exec (.emRelease p) s = .next (s.modHost fun h => { h with em := { h.em with
      owner := if h.em.waiting then 3 - portCode p else 0, waiting := false } })) ∧
  (∀ s : State, s.host.em.owner ≠ 0 →
    exec .emOwnershipTimeout s = .next (s.modHost fun h => { h with em := { h.em with
      owner := if h.em.waiting then 3 - h.em.owner else 0, waiting := false } })) ∧
  (∀ s : State, hostReachable s = true →
    exec .adminLock s = .next (s.modHost fun h => { h with adminLock := true }))

/-- 14 R394, R397, R401, R402: descriptor rings and pan queues. ENABLE takes BASE, SIZE_LOG2 (6 to 15) and QUEUE into
use and a disabled ring stops; TAIL is 16 bits; a pop takes the head item into the window, and on an empty queue sets
UNDERRUN; a flush discards the items on chip; a count of freed slots outside the range sets the error bit and is not
taken; a delivery puts the head item into the next slot. -/
def Obligations.RingsAndPanQueuesAnswerTheirRegisters : Prop :=
  (∀ (s : State) (tx : Bool) (r : Fin 64) (v : Nat), hostReachable s = true → bitOf v 0 = true →
    (ringAt s tx r).enabled = false → 6 ≤ bits v 1 5 → bits v 1 5 ≤ 15 →
    ∃ t, exec (.ringEnable tx r v) s = .next t ∧ (ringAt t tx r).enabled = true ∧
      (ringAt t tx r).size = bits v 1 5 ∧ (ringAt t tx r).useBase = (ringAt s tx r).base ∧
      (ringAt t tx r).head = (ringAt s tx r).head ∧ (ringAt t tx r).tail = (ringAt s tx r).tail) ∧
  (∀ (s : State) (tx : Bool) (r : Fin 64) (v : Nat), hostReachable s = true → bitOf v 0 = true →
    (ringAt s tx r).enabled = false → (bits v 1 5 < 6 ∨ 15 < bits v 1 5) →
    ∃ t, exec (.ringEnable tx r v) s = .next t ∧ (ringAt t tx r).enabled = false) ∧
  (∀ (s : State) (tx : Bool) (r : Fin 64) (v : Nat), hostReachable s = true → bitOf v 0 = false →
    ∃ t, exec (.ringDisable tx r v) s = .next t ∧ (ringAt t tx r).enabled = false ∧
      (ringAt t tx r).held = none ∧ (ringAt t tx r).head = (ringAt s tx r).head) ∧
  (∀ (s : State) (tx : Bool) (r : Fin 64) (v : Nat), hostReachable s = true →
    exec (.ringTailWrite tx r v) s = .next (modRing tx r (fun k => { k with tail := v % 65536 }) s)) ∧
  (∀ (s : State) (q : Fin 5), hostReachable s = true →
    exec (.pqFlush q) s = .next (s.modQueue q fun k => { k with items := [] })) ∧
  (∀ (s : State) (q : Fin 5) (v : Nat), hostReachable s = true →
    (v + 2 ^ 32 - s.host.queues[q].consumer) % 2 ^ 32 ≤
      (s.host.queues[q].producer + 2 ^ 32 - s.host.queues[q].consumer) % 2 ^ 32 → v < 2 ^ 32 →
    ∃ t, exec (.pqConsumerWrite q v) s = .next t ∧
      t.host.queues[q] = { s.host.queues[q] with consumer := v }) ∧
  (∀ (s : State) (q : Fin 5) (v : Nat), hostReachable s = true → v < 2 ^ 32 →
    (s.host.queues[q].producer + 2 ^ 32 - s.host.queues[q].consumer) % 2 ^ 32 <
      (v + 2 ^ 32 - s.host.queues[q].consumer) % 2 ^ 32 →
    ∃ t, exec (.pqConsumerWrite q v) s = .next t ∧
      t.host.queues[q] = { s.host.queues[q] with badConsumer := true }) ∧
  (∀ (s : State) (q : Fin 5) (i : QItem) (rest : List QItem), hostReachable s = true →
    s.host.queues[q].dma = false → s.host.queues[q].items = i :: rest →
    ∃ t, exec (.panQueuePop q) s = .next t ∧ t.host.queues[q].items = rest ∧
      t.host.queues[q].window = some { i with lossBefore := s.host.queues[q].lossNext } ∧
      t.host.queues[q].lossNext = false ∧ t.host.queues[q].underrun = s.host.queues[q].underrun ∧
      t.host.readData = [ofLe (headerBytes q.val { i with lossBefore := s.host.queues[q].lossNext })]) ∧
  (∀ (s : State) (q : Fin 5), hostReachable s = true → s.host.queues[q].dma = false →
    s.host.queues[q].items = [] →
    ∃ t, exec (.panQueuePop q) s = .next t ∧ t.host.queues[q] = { s.host.queues[q] with underrun := true }) ∧
  (∀ (s : State) (q : Fin 5), hostReachable s = true → s.host.queues[q].dma = true →
    exec (.panQueuePop q) s = .next (answerRead [0] (dpError s))) ∧
  (∀ (s : State) (q : Fin 5) (i : QItem) (rest : List QItem), hostReachable s = true →
    s.host.queues[q].dma = true → s.host.queues[q].items = i :: rest →
    (s.host.queues[q].producer + 2 ^ 32 - s.host.queues[q].consumer) % 2 ^ 32 <
      bufferSlots s.host.queues[q] →
    ∃ t, exec (.panQueueDelivery q) s = .next t ∧ t.host.queues[q].items = rest ∧
      t.host.queues[q].producer = (s.host.queues[q].producer + 1) % 2 ^ 32 ∧
      t.host.queues[q].lastSlot = some (s.host.queues[q].producer % bufferSlots s.host.queues[q],
        { i with lossBefore := s.host.queues[q].lossNext }))

/-- 14 R378, R391 to R393: the data port. An access within areas that permit it reads or writes the bytes and no
others; a refused one reads 0 or writes nothing and sets ERROR; DP_DATA advances under AUTO_INC; DMA 4 runs to its
end; an injection marks its slot busy until its report. It rests on the model's choices of log entry 146. -/
def Obligations.TheDataPortReadsAndWritesItsAreas : Prop :=
  (∀ (s : State) (a n v : Nat), hostReachable s = true → bytesOk s dpWritable a n = true →
    exec (.bar2Access a n (some v)) s = .next (dpWrite a (le n v) s)) ∧
  (∀ (s : State) (a v : Nat), hostReachable s = true → dpWritable s a = false →
    exec (.bar2Access a 1 (some v)) s = .next (dpError s)) ∧
  (∀ (s : State) (a n : Nat), hostReachable s = true → bytesOk s dpReadable a n = true →
    exec (.bar2Access a n none) s = .next (answerRead [ofLe (dpRead s a n)] s)) ∧
  (∀ (s : State) (a : Nat), hostReachable s = true → dpReadable s a = false →
    exec (.bar2Access a 1 none) s = .next (answerRead [0] (dpError s))) ∧
  (∀ s : State, hostReachable s = true → s.host.dp.addr % 8 = 0 →
    bytesOk s dpReadable s.host.dp.addr 8 = true →
    exec .dpDataRead s = .next (answerRead [ofLe (dpRead s s.host.dp.addr 8)] (advance s))) ∧
  (∀ (s : State) (v : Nat), hostReachable s = true → s.host.dp.addr % 8 = 0 →
    bytesOk s dpWritable s.host.dp.addr 8 = true →
    exec (.dpDataWrite v) s = .next (advance (dpWrite s.host.dp.addr (le 8 v) s))) ∧
  (∀ (s : State) (v : Nat), hostReachable s = true → s.host.dp.addr % 8 ≠ 0 →
    exec (.dpDataWrite v) s = .next (advance (dpError s))) ∧
  (∀ s : State, (advance s).host.dp.addr =
    if s.host.dp.autoInc then (s.host.dp.addr + 8) % 2 ^ 32 else s.host.dp.addr) ∧
  (∀ (s : State) (v : Nat), hostReachable s = true → s.host.dp.busy = false → bitOf v 25 = true →
    ∃ t, exec (.dpDmaGo v) s = .next t ∧ t.host.dp.busy = true ∧ t.host.dp.length = v % 2 ^ 24 ∧
      t.host.dp.toHost = bitOf v 24 ∧ t.host.dp.failed = false ∧ t.host.memory = s.host.memory) ∧
  (∀ (s : State) (v : Nat), hostReachable s = true → s.host.dp.busy = true →
    exec (.dpDmaGo v) s = .next (dpError s)) ∧
  (∀ (s : State) (d : Bytes), s.host.dp.busy = true → s.host.dp.dmaDev % 8 = 0 → s.host.dp.toHost = false →
    ∃ t, exec (.dpDmaComplete d) s = .next t ∧ t.host.dp.busy = false ∧
      t.host.dp.failed = !(copyIn s.host.dp.dmaDev d (s.host.dp.length / 8) s).1 ∧
      t.host.memory = (copyIn s.host.dp.dmaDev d (s.host.dp.length / 8) s).2.host.memory ∧
      t.host.cause.getLsbD 8 = true) ∧
  (∀ (s : State) (d : Bytes), s.host.dp.busy = true → s.host.dp.dmaDev % 8 = 0 → s.host.dp.toHost = true →
    (copyOut s s.host.dp.dmaDev (s.host.dp.length / 8)).1 = true →
    ∃ t, exec (.dpDmaComplete d) s = .next t ∧ t.host.dp.busy = false ∧ t.host.dp.failed = false ∧
      t.host.dp.sentToHost = (copyOut s s.host.dp.dmaDev (s.host.dp.length / 8)).2 ∧
      t.host.memory = s.host.memory) ∧
  (∀ (s : State) (k : Fin 64), hostReachable s = true → s.host.dp.injectBusy.getLsbD k.val = false →
    exec (.dpInject k) s = .next (inject k (s.modHost fun h => { h with dp := { h.dp with
      injectBusy := h.dp.injectBusy ||| BitVec.ofNat 64 (2 ^ k.val) } }))) ∧
  (∀ (s : State) (k : Fin 64), hostReachable s = true → s.host.dp.injectBusy.getLsbD k.val = true →
    exec (.dpInject k) s = .next (dpError s))

/-- 00 R19, R20; 14 R375, R376, R391: registers. An aligned 64-bit or 32-bit write writes the bits of its lanes, any
other access none; W1C bits clear where 1 is written; RO registers and reserved offsets keep their value; a 32-bit
read of a read-only register latches the high half for the read that follows; the SPI port reads and writes 64-bit
words of its blocks. While the PCIe link is down or in D3hot no access of the host arrives: none of its commands
changes anything. It rests on the model's choices of log entries 14 and 151. -/
def Obligations.RegistersActByTypeAndOnlyForAReachableHost : Prop :=
(∀ (s : State) (a v : Nat), hostReachable s = true → a % 8 = 0 →
    exec (.registerWrite a 8 v) s = .next (regWrite .pcie a (2 ^ 64 - 1) v s)) ∧
  (∀ (s : State) (a v : Nat), hostReachable s = true → a % 8 = 4 →
    exec (.registerWrite a 4 v) s = .next (regWrite .pcie (a - 4) ((2 ^ 32 - 1) * 2 ^ 32) (v * 2 ^ 32) s)) ∧
  (∀ (s : State) (a z v : Nat), hostReachable s = true → (z ≠ 4 ∧ z ≠ 8 ∨ a % z ≠ 0) →
    exec (.registerWrite a z v) s = .next s) ∧
  (∀ (p : Port) (s : State) (v : Nat), v < 2 ^ 64 →
    regWrite p 0x1000 (2 ^ 64 - 1) v s =
      s.modHost fun h => { h with cause := h.cause &&& ~~~ BitVec.ofNat 64 v }) ∧
  (∀ (p : Port) (s : State) (a mask v : Nat), (a < 0x1000 ∨ (0x5000 ≤ a ∧ a < 0x6000) ∨
      (0x7000 ≤ a ∧ a < 0x10000) ∨ (0x12000 ≤ a ∧ a < 0xF00000)) → regWrite p a mask v s = s) ∧
  (∀ (p : Port) (s : State) (v : Nat), 10 ≤ v → v ≤ 10000 →
    regWrite p 0x1018 (2 ^ 64 - 1) v s = s.modHost fun h => { h with wdt := v }) ∧
  (∀ (s : State) (a : Nat), hostReachable s = true → a % 8 = 0 → a < 0x38 →
    exec (.lowHalfRead a) s = .next (answerRead [regRead s a % 2 ^ 32]
      (s.modHost fun h => { h with latchAddr := some (a + 4, regRead s a / 2 ^ 32) }))) ∧
  (∀ (s : State) (a v : Nat), hostReachable s = true → a % 8 = 4 → s.host.latchAddr = some (a, v) →
    exec (.lowHalfRead a) s = .next (answerRead [v] (s.modHost fun h => { h with latchAddr := none }))) ∧
  (∀ (s : State) (a : Nat), s.power.inReset = false → a % 8 = 0 → a < 0x1000 →
    exec (.spiRead a 1) s = .next (answerRead [regRead s a] s)) ∧
  (∀ (s : State) (a n : Nat), s.power.inReset = false → a % 8 ≠ 0 →
    exec (.spiRead a n) s = .next (answerRead (List.replicate n 0) s)) ∧
  (∀ (s : State) (a v : Nat), s.power.inReset = false → a % 8 = 0 → 0x3000 ≤ a → a < 0x6000 →
    exec (.spiWrite a [v]) s = .next (regWrite .spi a (2 ^ 64 - 1) v s)) ∧
  (∀ (s : State) (a v : Nat), s.power.inReset = false → (a % 8 ≠ 0 ∨ (0x1000 ≤ a ∧ a < 0x3000) ∨ 0x6000 ≤ a) →
    exec (.spiWrite a [v]) s = .next s) ∧
  (∀ s : State, hostReachable s = false →
    (∀ m, exec (.mailboxDoorbell m) s = .next s) ∧ exec .adminLock s = .next s ∧
    (∀ tx r v, exec (.ringEnable tx r v) s = .next s) ∧ (∀ tx r v, exec (.ringDisable tx r v) s = .next s) ∧
    (∀ tx r v, exec (.ringTailWrite tx r v) s = .next s) ∧ (∀ a, exec (.lowHalfRead a) s = .next s) ∧
    (∀ a z v, exec (.registerWrite a z v) s = .next s) ∧ (∀ q, exec (.pqFlush q) s = .next s) ∧
    (∀ q v, exec (.pqConsumerWrite q v) s = .next s) ∧ (∀ q, exec (.panQueuePop q) s = .next s) ∧
    (∀ q, exec (.panQueueDelivery q) s = .next s) ∧ exec .dpDataRead s = .next s ∧
    (∀ v, exec (.dpDataWrite v) s = .next s) ∧ (∀ a z w, exec (.bar2Access a z w) s = .next s) ∧
    (∀ v, exec (.dpDmaGo v) s = .next s) ∧ (∀ k, exec (.dpInject k) s = .next s) ∧
    exec .cwLatch s = .next s)

/-- 14 R376, R380 to R382: interrupts, watchdog and host-side resets. A cause sets its bit and sends its vector unless
it is masked or the holdoff runs, then it is owed and sent at the end; a watchdog expiry stalls and ALIVE ends that; a
host-side reset puts every BAR0 register but the identity block, the mirrors and EM_CLAIM at reset and leaves what the
device does otherwise as it was. It rests on the model's choices of log entries 13, 27 and 142. -/
def Obligations.InterruptsAndHostResetsFollowTheirRules : Prop :=
  (∀ (s : State) (b : Nat), 0 < b → b ≤ 10 → s.host.mask.getLsbD b = true →
    setCause b s = s.modHost fun h => { h with cause := h.cause ||| BitVec.ofNat 64 (2 ^ b) }) ∧
  (∀ (s : State) (v : Fin 64), s.host.running[v] = false → s.host.holdoff[v] ≠ 0 →
    (signalVector v s).host.messages[v] = s.host.messages[v] + 1 ∧
    (signalVector v s).host.running[v] = true) ∧
  (∀ (s : State) (v : Fin 64), s.host.running[v] = true →
    signalVector v s = s.modHost fun h => { h with owed := h.owed.set v true }) ∧
  (∀ (s : State) (v : Fin 64), 8 ≤ v.val → s.host.running[v] = true → s.host.owed[v] = true →
    exec (.interruptHoldoffEnd v) s = .next (signalVector v (s.modHost fun h =>
      { h with running := h.running.set v false, owed := h.owed.set v false }))) ∧
  (∀ (s : State) (v : Fin 64), s.host.running[v] = false → exec (.interruptHoldoffEnd v) s = .next s) ∧
  (∀ s : State, s.power.inReset = false → s.host.stalled = false →
    exec .watchdogExpiry s = .next (setCause 3 (s.modHost fun h => { h with stalled := true }))) ∧
  (∀ s : State, s.host.supervisor = true →
    exec .aliveIncrement s = .next (s.modHost fun h => { h with alive := h.alive + 1, stalled := false })) ∧
  (∀ s : State, ∃ t, exec .hostSideReset s = .next t ∧ t.host.linkUp = false ∧ t.host.cause = 0 ∧
    t.host.mask = 0 ∧ t.host.wdt = 500 ∧ t.host.adminLock = false ∧ t.host.em.owner = s.host.em.owner ∧
    (∀ q : Fin 5, t.host.queues[q].items = s.host.queues[q].items ∧
      t.host.queues[q].sequence = s.host.queues[q].sequence ∧ t.host.queues[q].consumer = 0) ∧
    (∀ m : Fin 16, t.host.boxes[m].busy = false ∧ t.host.boxes[m].response = ({} : Mailbox).response) ∧
    t.host.memory = s.host.memory ∧ t.clock = s.clock ∧ t.refs = s.refs ∧ t.ductus = s.ductus ∧
    t.keys = s.keys ∧ t.stack = s.stack ∧ t.wear = s.wear ∧ t.power = s.power) ∧
  (∀ s : State, s.host.linkUp = true →
    ∃ t, exec .d3hotEntry s = .next t ∧ t.host.d3hot = true ∧ hostReachable t = false ∧
      t.clock = s.clock ∧ t.keys = s.keys) ∧
  (∀ s : State, s.power.inReset = false →
    exec .pcieLinkReturn s = .next (s.modHost fun h => { h with linkUp := true, d3hot := false }))

/-! ### User tasks (14) -/

/-- 14 R406: what the system calls of a task that executes do. The command of a block is taken up as from a mailbox,
and a group above user is refused and counted; the waiting calls wait; the others return their result; a block outside
the writable regions is a memory fault that stops the task. It rests on the model's choices of log entries 14, 15, 38
and 149. -/
def Obligations.SystemCallsActAsTheirRulesSay : Prop :=
  (∀ (s : State) (t : Fin 4) (block op q len : Nat), canCall s t = true → blockOk s block 128 = true →
    s.host.supervisor = true → len ≤ 56 → opGroup op = some 0 →
    ∃ u, exec (.commandCall t block op q len 0) s = .next u ∧ u.host.tasks[t].block = block ∧
      u.host.tasks[t].inHand = some
        { opcode := op, sequence := q, length := len, bulk := false, rspOffset := 0, rspCapacity := 0,
          screened := true }) ∧
  (∀ (s : State) (t : Fin 4) (block op q len g : Nat), canCall s t = true → blockOk s block 128 = true →
    s.host.supervisor = true → opGroup op = some g → 1 ≤ g →
    ∃ u, exec (.commandCall t block op q len 0) s = .next u ∧ u.host.tasks[t].inHand = none ∧
      u.host.tasks[t].state = .ready ∧ (∃ x, u.host.tasks[t].result = some x ∧ x.status = ePriv) ∧
      u.host.refused = s.host.refused + 1) ∧
  (∀ (s : State) (t : Fin 4) (block mask n : Nat), canCall s t = true → blockOk s block 48 = true →
    serveEvent t block mask (counted s) = none → n ≠ 0 →
    exec (.eventWait t block mask n) s = .next ((counted s).modTask t fun k =>
      { k with state := .waitEvent block mask })) ∧
  (∀ (s u : State) (t : Fin 4) (block mask n : Nat), canCall s t = true → blockOk s block 48 = true →
    serveEvent t block mask (counted s) = some u → exec (.eventWait t block mask n) s = .next u) ∧
  (∀ (s : State) (t : Fin 4) (block : Nat), canCall s t = true → blockOk s block 32 = true →
    exec (.timeCall t block) s = .next (taskAnswer t stOk block (timeArea s)
      (dpWrite (userArea + block) (timeArea s) (counted s)))) ∧
  (∀ (s : State) (t : Fin 4) (block us : Nat), canCall s t = true → blockOk s block 4 = true →
    1 ≤ us → us ≤ 10000000 →
    exec (.sleep t block us) s = .next ((counted s).modTask t fun k => { k with state := .sleeping block })) ∧
  (∀ (s : State) (t : Fin 4) (block us : Nat), canCall s t = true → blockOk s block 4 = true →
    (us = 0 ∨ 10000000 < us) →
    exec (.sleep t block us) s = .next (taskAnswer t eRange block [] (counted s))) ∧
  (∀ (s : State) (t : Fin 4) (block : Nat), canCall s t = true → blockOk s block 672 = true →
    s.sel.hookTask = some t →
    exec (.hookWait t block) s = .next ((counted s).modTask t fun k => { k with state := .waitHook block })) ∧
  (∀ (s : State) (t : Fin 4) (block : Nat) (log : List RefChange), canCall s t = true →
    blockOk s block 16 = true → s.sel.waiting = some log → s.sel.hookTask = some t →
    exec (.hookAnswer t block { evalSeq := s.sel.evalSeq, action := 0, preferred := 0xFF, veto := 0 }) s =
      .next (finishEvaluation (taskAnswer t stOk block [] ((counted s).modSel fun x =>
        { x with hookOverruns := 0, hookAnswer := none }), log))) ∧
  (∀ (s : State) (t : Fin 4) (block : Nat) (a : HookAnswer) (log : List RefChange), canCall s t = true →
    blockOk s block 16 = true → s.sel.waiting = some log → a.evalSeq ≠ s.sel.evalSeq →
    exec (.hookAnswer t block a) s = .next (taskAnswer t eRange block [] (counted s))) ∧
  (∀ (s : State) (t : Fin 4) (block h : Nat) (i : TaskImage), canCall s t = true →
    blockOk s block 4 = true → s.host.image = some i → h < i.codeLen →
    exec (.signalSet t block h) s = .next (taskAnswer t stOk block []
      ((counted s).modTask t fun k => { k with handler := h }))) ∧
  (∀ (s : State) (t : Fin 4), canCall s t = true →
    exec (.signalReturn t) s = .next ((counted s).modTask t fun k => { k with frames := k.frames.drop 1 })) ∧
  (∀ (s : State) (t : Fin 4) (n : Nat), canCall s t = true → (n = 0 ∨ 9 < n) →
    exec (.unknownSystemCall t n) s = .next (taskAnswer t eOpcode 0 [] ((counted s).modHost fun h =>
      { h with unknownCalls := h.unknownCalls + 1 }))) ∧
  (∀ (s : State) (t : Fin 4) (block : Nat), canCall s t = true → blockOk s block 32 = false →
    exec (.timeCall t block) s = .next (stopTask t 1 (counted s)))

/-- 14 R403 to R407: how tasks start, stop and wake. A valid image starts its tasks READY where none runs; a stop
keeps the cause, drops the command in hand and raises 0x0109; the ends of waiting calls return; the third hook overrun
in succession stops the task. It rests on the model's choices of log entries 14, 38, 148 and 149. -/
def Obligations.TasksStartStopAndWakeAsTheirRulesSay : Prop :=
  (∀ (s : State) (r : Req) (len h : Nat) (i : TaskImage), Asks 0x010D 8 r s → imageAt s h len = some i →
    anyTask s = false →
    exec (.userLoad r len h) s = .next (finish r.src stOk [] (startTasks i s)) ∧
    (startTasks i s).host.image = some i ∧
    ∀ t : Fin 4, (startTasks i s).host.tasks[t].state = if t.val < i.tasks then .ready else .absent) ∧
  (∀ (s : State) (r : Req) (len h : Nat), Asks 0x010D 8 r s → imageAt s h len = none →
    exec (.userLoad r len h) s = .next (finish r.src eRange [] s)) ∧
  (∀ (s : State) (r : Req) (len h : Nat) (i : TaskImage), Asks 0x010D 8 r s → imageAt s h len = some i →
    anyTask s = true → exec (.userLoad r len h) s = .next (finish r.src eState [] s)) ∧
  (∀ (s : State) (r : Req), Asks 0x010E 0 r s → s.sel.hookTask = none →
    ∃ u, exec (.userUnload r) s = .next (finish r.src stOk [] u) ∧ u.host.image = none ∧
      u.host.tasks = Vector.replicate 4 {} ∧ u.keys.userHash = none ∧
      u.host.queues = s.host.queues ∧ u.host.memory = s.host.memory) ∧
  (∀ (s : State) (t : Fin 4) (c : Nat), s.sel.hookTask ≠ some t →
    (stopTask t c s).host.tasks[t].state = .stopped c ∧ (stopTask t c s).host.tasks[t].inHand = none ∧
    (∀ k : Fin 4, k ≠ t → (stopTask t c s).host.tasks[k] = s.host.tasks[k])) ∧
  (∀ (s : State) (t : Fin 4), canCall s t = true → exec (.exit t) s = .next (stopTask t 3 (counted s))) ∧
  (∀ (s : State) (t : Fin 4), canCall s t = true → exec (.taskReturn t) s = .next (stopTask t 3 s)) ∧
  (∀ (s : State) (t : Fin 4) (b : Bool), canCall s t = true →
    exec (.userTaskFault t b) s = .next (stopTask t (if b then 2 else 1) s)) ∧
  (∀ (s : State) (t : Fin 4) (block : Nat), s.host.tasks[t].state = .sleeping block →
    exec (.sleepExpiry t) s = .next (taskAnswer t stOk block [] s)) ∧
  (∀ (s : State) (t : Fin 4) (block mask : Nat), s.host.tasks[t].state = .waitEvent block mask →
    exec (.eventWaitTimeout t) s = .next (taskAnswer t eTimeout block [] s)) ∧
  (∀ (s : State) (t : Fin 4) (log : List RefChange), s.sel.waiting = some log → s.sel.hookTask = some t →
    s.sel.hookOverruns < 2 →
    exec (.hookTimeout t) s = .next (releaseHook (s.modSel fun x =>
      { x with hookOverruns := x.hookOverruns + 1, hookMissed := x.hookMissed + 1 }))) ∧
  (∀ (s : State) (t : Fin 4) (log : List RefChange), s.sel.waiting = some log → s.sel.hookTask = some t →
    2 ≤ s.sel.hookOverruns →
    exec (.hookTimeout t) s = .next (stopTask t 0 (s.modSel fun x =>
      { x with hookOverruns := x.hookOverruns + 1, hookMissed := x.hookMissed + 1 }))) ∧
  (∀ (s : State) (t : Fin 4) (st at_ : Nat) (d : Bytes), (taskAnswer t st at_ d s).host.tasks[t] =
    { s.host.tasks[t] with state := .ready, result := some ⟨st, at_, d⟩ })

/-! ### System: firmware, restart, reset and start-up (13, 14, 15, 18) -/

/-- 13 R371 to R373: firmware. A write programs the staged bytes into the idle slot and leaves its other bytes; a
stage judges it and marks an accepted image TRIAL; a confirm accepts it and raises the anti-rollback count, which
never falls. It rests on the model's choices of log entries 14 and 152. -/
def Obligations.FirmwareMovesThroughItsStages : Prop :=
  (∀ (s : State) (r : Req) (p : Pend) (i : Fin 2) (o n : Nat), r.len = 12 → ready 0x010A r s = some p →
    n ≤ 65536 → o + n ≤ slotSize → s.keys.running ≠ some i → s.keys.fwJob = none →
    exec (.firmwareWrite r i o n) s = .next (finish r.src stAccepted [] (s.modKeys fun k =>
      { k with fwJob := some ⟨i, false, o, n, r.src, p.sequence⟩ }))) ∧
  (∀ (s : State) (r : Req) (o n : Nat) (i : Fin 2), Asks 0x010A 12 r s → n ≤ 65536 → o + n ≤ slotSize →
    s.keys.running = some i → exec (.firmwareWrite r i o n) s = .next (finish r.src eState [] s)) ∧
  (∀ (s : State) (j : FwJob), s.keys.fwJob = some j → j.stage = false →
    ∃ t, exec .firmwareWriteComplete s = .next t ∧ t.keys.fwJob = none ∧
      t.keys.fw[j.slot].image = s.keys.fw[j.slot].image.writeBytes (Config.imageByte j.slot.val) j.offset
        (dpRead s stagingArea j.length) ∧
      t.keys.fw[j.slot].written = true ∧ t.keys.fw[j.slot].trial = false ∧
      ∀ k : Fin 2, k ≠ j.slot → t.keys.fw[k] = s.keys.fw[k]) ∧
  (∀ (s : State) (r : Req) (p : Pend) (i : Fin 2), r.len = 1 → ready 0x010B r s = some p →
    s.keys.running ≠ some i → s.keys.fw[i].written = true → s.keys.fwJob = none →
    exec (.firmwareStage r i) s = .next (finish r.src stAccepted [] (s.modKeys fun k =>
      { k with fwJob := some ⟨i, true, 0, 0, r.src, p.sequence⟩ }))) ∧
  (∀ (s : State) (j : FwJob), s.keys.fwJob = some j → j.stage = true →
    ∃ t, exec (.firmwareStageComplete 0) s = .next t ∧ t.keys.fwJob = none ∧
      t.keys.fw[j.slot].trial = true ∧ t.keys.fw[j.slot].trialFailed = false ∧
      t.keys.fw[j.slot].image = s.keys.fw[j.slot].image) ∧
  (∀ (s : State) (j : FwJob) (result : Nat), s.keys.fwJob = some j → j.stage = true → result ≠ 0 →
    ∃ t, exec (.firmwareStageComplete result) s = .next t ∧ t.keys.fwJob = none ∧
      t.keys.fw = s.keys.fw) ∧
  (∀ (s : State) (r : Req) (i : Fin 2), Asks 0x010C 0 r s → s.keys.onTrial = true →
    s.keys.running = some i →
    ∃ u, exec (.firmwareConfirm r) s = .next (finish r.src stOk [] u) ∧ u.keys.onTrial = false ∧
      u.keys.fw[i].trial = false ∧ s.keys.fuseCount ≤ u.keys.fuseCount ∧
      imageSecurity s i ≤ u.keys.fuseCount) ∧
  (∀ (s : State) (r : Req), Asks 0x010C 0 r s → s.keys.onTrial = false →
    exec (.firmwareConfirm r) s = .next (finish r.src eState [] s))

/-- 14 R389, R390, 15 R414, R430: the system commands. boot-report reads the boot state; mailbox-reset clears BUSY and
discards what Scribe has not taken; a restart of the running supervisor discards the requests and owes E_TIMEOUT to
each ACCEPTED command that ran; its end starts the supervisor again; device-reset asks for the reset of this device
only. It rests on the model's choices of log entries 2 and 81. -/
def Obligations.SystemCommandsActAsTheirRulesSay : Prop :=
  (∀ (s : State) (r : Req), Asks 0x0106 0 r s →
    exec (.bootReport r) s = .next (finish r.src stOk (bootReportBytes s) s)) ∧
  (∀ s : State, (bootReportBytes s).length = 24) ∧
  (∀ (s : State) (r : Req), Asks 0x0108 16 r s →
    exec (.deviceReset r Config.deviceId) s =
      .next (finish r.src stOk [] (s.modHost fun h => { h with resetAsked := true }))) ∧
  (∀ (s : State) (r : Req) (d : Nat), Asks 0x0108 16 r s → d ≠ Config.deviceId →
    exec (.deviceReset r d) s = .next (finish r.src eRange [] s)) ∧
  (∀ (s : State) (r : Req), Asks 0x0109 0 r s →
    ∃ u, exec (.mailboxReset r) s = .next (finish r.src stOk [] u) ∧
      (∀ m : Fin 16, u.host.boxes[m].busy = false ∧ u.host.boxes[m].behind = [] ∧
        (∀ p, s.host.boxes[m].inHand = some p → p.taken = false → u.host.boxes[m].inHand = none) ∧
        (∀ p, s.host.boxes[m].inHand = some p → p.taken = true →
          u.host.boxes[m].inHand = some { p with discard := true })) ∧
      u.host.em = s.host.em ∧ u.host.tasks = s.host.tasks) ∧
  (∀ (s : State) (r : Req), Asks 0x0107 0 r s → s.host.supervisor = true →
    exec (.scribeRestart r) s = .next (beginRestart (finish r.src stOk [] s))) ∧
  (∀ s : State, (beginRestart s).host.supervisor = false ∧ (beginRestart s).host.restarting = true ∧
    (∀ m : Fin 16, (beginRestart s).host.boxes[m].inHand = none ∧
      (beginRestart s).host.boxes[m].busy = false) ∧ (beginRestart s).clock.step = none ∧
    (beginRestart s).synth.jobs = [] ∧ (beginRestart s).keys.fwJob = none) ∧
  (∀ (s : State) (regions : Nat), s.host.restarting = true →
    ∃ u, exec (.scribeRestartComplete regions) s = .next (takeHeld u) ∧ u.host.supervisor = true ∧
      u.host.restarting = false ∧ u.host.deferred = [] ∧ u.host.alive = s.host.alive + 1)

/-- 18 R487, R492, R495; 13 R340, R361: reset and start-up. RESET_N low or a power failure leaves every register at
reset but keeps the VBAT domain, MRAM, flash and fuses; its release reads the straps, counts the boot and reaches
stage 0x08 with an accepted image, or halts at 0x04 with none; the supervisor's start is stage 0x09. It rests on the
model's choices of log entries 10, 11 and 14. -/
def Obligations.ResetsKeepWhatTheManualKeeps : Prop :=
  (∀ s : State, exec .resetAssert s = .next (volatileReset s.power.powered s)) ∧
  (∀ s : State, exec .powerFailure s = .next (volatileReset false s)) ∧
  (∀ (b : Bool) (s : State), let t := volatileReset b s
    t.power.inReset = true ∧ t.clock = State.reset.clock ∧ t.ductus = State.reset.ductus ∧
    t.refs = State.reset.refs ∧ t.synth = State.reset.synth ∧ t.host.boxes = State.reset.host.boxes ∧
    t.host.memory = State.reset.host.memory ∧ t.keys.slots = State.reset.keys.slots ∧
    t.keys.roots = s.keys.roots ∧ t.keys.life = s.keys.life ∧ t.keys.rootEpoch = s.keys.rootEpoch ∧
    t.keys.bootCount = s.keys.bootCount ∧ t.keys.fw = s.keys.fw ∧ t.keys.fuseCount = s.keys.fuseCount ∧
    t.keys.journal = s.keys.journal ∧ t.keys.flash = s.keys.flash ∧ t.wear.ledger = s.wear.ledger ∧
    t.wear.calRecord = s.wear.calRecord ∧ t.wear.calGeneration = s.wear.calGeneration ∧
    t.host.persistent = s.host.persistent ∧ t.pending = s.pending) ∧
  (∀ (b : BootInputs) (s : State), s.power.inReset = false → exec (.resetRelease b) s = .next s) ∧
  (∀ (b : BootInputs) (s : State), s.power.inReset = true →
    (∀ i : Fin 2, s.keys.fw[i].trialFailed = true) →
    ∃ t, exec (.resetRelease b) s = .next t ∧ t.host.halted = true ∧ t.host.em.stage = 4 ∧
      t.keys.bootCount = (s.keys.bootCount + 1) % 2 ^ 32) ∧
  (∀ (b : BootInputs) (s : State), s.power.inReset = true → b.slot0Result = 0 → b.slot1Result ≠ 0 →
    s.keys.fw[0].trialFailed = false → s.keys.onTrial = false →
    ∃ t, exec (.resetRelease b) s = .next t ∧ t.host.em.stage = 8 ∧ t.keys.running = some 0 ∧
      t.power.inReset = false ∧ t.refs[xoRef].cfg.nominal = strapFreq b.straps.val) ∧
  (∀ s : State, s.power.inReset = false → s.host.halted = false → s.host.em.stage = 8 →
    ∃ u, exec .supervisorStart s = .next (takeHeld u) ∧ u.host.supervisor = true ∧ u.host.em.stage = 9 ∧
      u.host.alive = s.host.alive + 1)

/-! ### Nib (08) -/

/-- 08 R240, 15 R427: the pool. The lowest-numbered free channel that is not DEGRADED goes to the host, armed; with
none the command is E_NOSPACE; a HOST channel goes back, a DEGRADED one leaves the pool; another owner's channel is
E_STATE; the status lists the channels asked for. -/
def Obligations.NibChannelsAreAllocatedAndReleased : Prop :=
  (∀ (s : State) (r : Req) (c : Fin 24), Asks 0x0A01 0 r s → s.nib[c].owner = ownFree →
    s.nib[c].degraded = false → (∀ d : Fin 24, d < c → s.nib[d].owner ≠ ownFree ∨ s.nib[d].degraded = true) →
    ∃ u, exec (.channelAllocate r) s = .next (finish r.src stOk (le 1 c.val) u) ∧
      u.nib[c].owner = ownHost ∧ u.nib[c].ordinal = 0 ∧ u.nib[c].pairs = [] ∧
      (∀ d : Fin 24, d ≠ c → u.nib[d] = s.nib[d]) ∧ u.host = s.host) ∧
  (∀ (s : State) (r : Req), Asks 0x0A01 0 r s →
    (∀ d : Fin 24, s.nib[d].owner ≠ ownFree ∨ s.nib[d].degraded = true) →
    exec (.channelAllocate r) s = .next (finish r.src eNoSpace [] s)) ∧
  (∀ (s : State) (r : Req) (c : Fin 24), Asks 0x0A02 1 r s → s.nib[c].owner = ownHost →
    ∃ u, exec (.channelRelease r c) s = .next (finish r.src stOk [] u) ∧
      u.nib[c].owner = (if s.nib[c].degraded then ownRetired else ownFree) ∧
      u.nib[c].cfg.mode = 0 ∧ u.nib[c].ordinal = 0) ∧
  (∀ (s : State) (r : Req) (c : Fin 24), Asks 0x0A02 1 r s → s.nib[c].owner ≠ ownHost →
    exec (.channelRelease r c) s = .next (finish r.src eState [] s)) ∧
  (∀ (s : State) (r : Req) (a n : Nat), Asks 0x0A10 2 r s → 1 ≤ n → a + n ≤ 24 →
    exec (.channelStatus r a n) s = .next (finish r.src stOk
      (((fins 24).filter fun c => decide (a ≤ c.val) && decide (c.val < a + n)).flatMap (nibRecord s)) s)) ∧
  (∀ (s : State) (c : Fin 24), (nibRecord s c).length = 32)

/-- 08 R232, R234, R236, R237, R242, R243, R247, R249: what happens at the lines. An edge that the channel sees takes
the next ordinal and is stamped, or counted lost in the dead time or to a full buffer; ten updates outside the
condition unlock a line; a swap makes the SHADOW line LIVE; with no spare a worn tap makes the channel DEGRADED; a
pair whose time is up is reported once; at the end of a gate the next begins. It rests on the model's choices of log
entries 44 and 45. -/
def Obligations.NibEdgesAndLinesFollowTheirRules : Prop :=
  (∀ (s : State) (c : Fin 24) (sub : Nat), s.clock.form ≠ .stopped → s.nib[c].owner ≠ ownFree →
    s.nib[c].owner ≠ ownRetired → s.nib[c].cfg.source ≠ 0xFF → s.nib[c].cfg.edge ≠ 1 →
    ∃ t, exec (.nibEdge c false sub) s = .next t ∧ t.nib[c].ordinal = s.nib[c].ordinal + 1 ∧
      t.nib[c].lastEdge = some (edgePos s sub) ∧
      t.nib[c].deadTime = s.nib[c].deadTime +
        (if edgeFate s.nib[c] (edgePos s sub) = .dead then 1 else 0) ∧
      t.nib[c].overflow = s.nib[c].overflow +
        (if edgeFate s.nib[c] (edgePos s sub) = .full then 1 else 0) ∧
      t.nib[c].gap = decide (edgeFate s.nib[c] (edgePos s sub) ≠ .stamped)) ∧
  (∀ (s : State) (c : Fin 24) (f : Bool) (sub : Nat), (s.clock.form = .stopped ∨ s.nib[c].owner = ownFree) →
    exec (.nibEdge c f sub) s = .next s) ∧
  (∀ (s : State) (c : Fin 24), s.nib[c].failA = 9 →
    ∃ t, exec (.nibLockUpdate c false false false) s = .next t ∧ t.nib[c].lockedA = false ∧
      t.nib[c].lockedB = s.nib[c].lockedB) ∧
  (∀ (s : State) (c : Fin 24), ∃ t, exec (.nibLockUpdate c true true false) s = .next t ∧
      t.nib[c].lockedB = true ∧ t.nib[c].failB = 0 ∧ t.nib[c].lockedA = s.nib[c].lockedA) ∧
  (∀ (s : State) (c : Fin 24), s.clock.form ≠ .stopped → s.nib[c].degraded = false →
    s.nib[c].lastEdge = none →
    exec (.nibLineSwap c none) s = .next (s.modNib c fun x => { x with liveB := !x.liveB })) ∧
  (∀ (s : State) (c : Fin 24) (tap : Nat), s.clock.form ≠ .stopped → s.nib[c].degraded = false →
    s.nib[c].lastEdge = none → s.nib[c].liveB = false → s.nib[c].sparesB = 0 →
    ∃ t, exec (.nibLineSwap c (some (tap, true))) s = .next t ∧ t.nib[c].degraded = true ∧
      t.nib[c].goneB = true ∧ t.nib[c].liveB = false) ∧
  (∀ (s : State) (c : Fin 24) (tap n : Nat), s.clock.form ≠ .stopped → s.nib[c].degraded = false →
    s.nib[c].lastEdge = none → s.nib[c].liveB = false → s.nib[c].sparesB = n + 1 →
    ∃ t, exec (.nibLineSwap c (some (tap, true))) s = .next t ∧ t.nib[c].degraded = false ∧
      t.nib[c].sparesB = n ∧ t.nib[c].bypassed = s.nib[c].bypassed ++ [(true, tap)]) ∧
  (∀ (s : State) (c : Fin 24) (p : NibPair) (ps : List NibPair), s.nib[c].pairs = p :: ps →
    exec (.nibPairTimeout c) s = .next (reportPair c p true (s.modNib c fun x =>
      { x with pairs := ps, reported := x.reported ++ [p.n] }))) ∧
  (∀ (s : State) (c : Fin 24), s.clock.form ≠ .stopped → s.nib[c].owner = ownHost → s.nib[c].cfg.mode = 2 →
    ∃ t, exec (.nibGateEnd c) s = .next t ∧ t.nib[c].gateOpen = true ∧ t.nib[c].gateStamps = [] ∧
      t.nib[c].gateEdges = 0 ∧ t.nib[c].gateLost = false ∧ t.nib[c].ordinal = s.nib[c].ordinal ∧
      ((s.nib[c].gateOpen = false ∨ s.nib[c].cfg.stream < 2) → t.host = s.host))

/-! ### The GNSS baseband (03) -/

/-- 03 R100, R108, R109, R114, R121 to R124; 15 R426: the commands of the baseband that are not configurations. The
exclusion list is replaced whole; a position set holds the port at once; fresh orbit items are taken and the others
counted; a group-delay measurement and an export run to their completion events; a snapshot starts, is armed, or is
refused while one is held, taken or exported; the status and result bodies are read. It rests on the model's choices
of log entry 14. -/
def Obligations.GnssCommandsActAsTheirRulesSay : Prop :=
  (∀ (s : State) (r : Req) (l : List Sat), Asks 0x0904 (4 + 2 * l.length) r s → l.length ≤ 64 →
    (∀ e ∈ l, e.constellation ≤ 2) →
    exec (.exclusionList r l) s = .next (finish r.src stOk [] (s.modGnss fun g => { g with exclusion := l }))) ∧
  (∀ (s : State) (r : Req) (l : List Sat), Asks 0x0904 (4 + 2 * l.length) r s → 64 < l.length →
    exec (.exclusionList r l) s = .next (finish r.src eRange [] s)) ∧
  (∀ (s : State) (r : Req) (p : Fin 2) (x y z : Int) (u : Nat), Asks 0x0905 40 r s →
    exec (.positionSet r p x y z u) s = .next (finish r.src stOk [] (s.modPort p fun q =>
      { q with position := some ⟨x, y, z, u⟩, fix := { q.fix with mode := 2 } }))) ∧
  (∀ (s : State) (r : Req), Asks 0x0907 0 r s →
    let o : Bytes := s.gnss.orbit.flatMap fun i => i.octets.map (BitVec.ofNat 8)
    exec (.orbitExport r) s = .next (finish r.src stOk (le 4 o.length ++ o) s)) ∧
  (∀ (s : State) (r : Req) (l : List OrbitItem),
    Asks 0x0908 (4 + (l.map fun i => i.octets.length).foldl (· + ·) 0) r s →
    exec (.orbitImport r l) s = .next (finish r.src stOk
      (le 4 (l.length - (l.filter (orbitFresh s)).length))
      (s.modGnss fun g => { g with orbit := g.orbit ++ l.filter (orbitFresh s) }))) ∧
  (∀ (s : State) (r : Req) (q : Pend) (p : Fin 2) (d : Nat), r.len = 8 → ready 0x0909 r s = some q →
    3600 ≤ d → d ≤ 604800 → s.gnss.ports[p].fix.mode = 2 → s.gnss.ports[p].group = none →
    exec (.groupDelayMeasure r p d) s = .next (finish r.src stAccepted []
      (s.modPort p fun x => { x with group := some ⟨d, s.clock.ticks.toNat, r.src, q.sequence⟩ }))) ∧
  (∀ (s : State) (r : Req) (p : Fin 2) (d : Nat), Asks 0x0909 8 r s → 3600 ≤ d → d ≤ 604800 →
    s.gnss.ports[p].fix.mode ≠ 2 →
    exec (.groupDelayMeasure r p d) s = .next (finish r.src eState [] s)) ∧
  (∀ (s : State) (r : Req) (p : Fin 2), Asks 0x0911 1 r s →
    exec (.groupDelayResult r p) s = .next (finish r.src stOk ((List.range 6).flatMap fun k =>
      le 8 (toCode 64 (s.gnss.ports[p].groupMean.getD k 0)) ++
      le 8 (s.gnss.ports[p].groupErr.getD k 0)) s)) ∧
  (∀ (s : State) (r : Req) (e d o : Nat) (z : ZT128), Asks 0x090A 24 r s → e ≤ 7 → 1 ≤ d → d ≤ 40 → o ≤ 1 →
    ztValid z = true → captureBlocked s (decide (o = 1)) = false →
    let c := fun (k : Nat) => ({ trigger := k, evin := e, duration := d, overwrite := o, start := ztUnits z } : Capture)
    exec (.snapshot r 0 e d o z) s = .next (finish r.src stOk [] (startCapture (c 0) s)) ∧
    exec (.snapshot r 1 e d o z) s = .next (finish r.src stOk [] (s.modGnss fun g =>
      { g with snap := { g.snap with armed := some (c 1) } }))) ∧
  (∀ (s : State) (r : Req) (k e d o : Nat) (z : ZT128), Asks 0x090A 24 r s → k ≤ 2 → e ≤ 7 → 1 ≤ d →
    d ≤ 40 → o ≤ 1 → ztValid z = true → captureBlocked s (decide (o = 1)) = true →
    exec (.snapshot r k e d o z) s = .next (finish r.src eState [] s)) ∧
  (∀ (s : State) (r : Req), Asks 0x090B 0 r s → s.gnss.snap.exporting = none →
    exec (.snapshotRelease r) s = .next (finish r.src stOk [] (s.modGnss fun g =>
      { g with snap := { g.snap with held := none } }))) ∧
  (∀ (s : State) (r : Req) (q : Pend) (a n : Nat), r.len = 12 → ready 0x090C r s = some q →
    s.gnss.snap.held ≠ none → s.gnss.snap.exporting = none →
    exec (.snapshotExport r a n) s = .next (finish r.src stAccepted [] (s.modGnss fun g =>
      { g with snap := { g.snap with exporting := some (n, r.src, q.sequence) } }))) ∧
  (∀ (s : State) (r : Req) (p : Fin 2), Asks 0x0910 1 r s →
    ∃ body, exec (.gnssStatus r p) s = .next (finish r.src stOk body s) ∧
      body.take 12 = le 1 s.gnss.ports[p].fix.mode ++ le 3 0 ++ le 4 s.gnss.ports[p].failed.toNat ++
        le 4 s.gnss.ports[p].unavail.toNat)

/-- 03 R96, R98, R100, R102, R109, R110, R114 to R117, R119 to R124: the rows of the baseband. Channels move as their
states say; a clock fault sends the port's channels to REACQUIRE; a survey's end holds the port; captures and exports
end; an exclusion ends after 600 s; a check that has passed for CLEAR_TIME clears; an epoch reaches its reference
where the satellites suffice, and is NO_SOLUTION otherwise; POWER fails with four satellites above its limit and
rejects the port, and without an atomic-class reference GUARD and DRIFT are unavailable (R118, 04 R138); a solution
uses no satellite that is untracked, unhealthy, excluded or of a constellation not enabled. It rests on the model's
choices of log entries 5, 60, 62, 161, 164, 165, 166, 172 and 173. -/
def Obligations.GnssRowsActAsTheirRulesSay : Prop :=
  (∀ (s : State) (p : Fin 2) (m : List Int) (e : List Nat) (j : GroupJob), s.gnss.ports[p].group = some j →
    j.begun + j.duration * 10 ^ 9 ≤ s.clock.ticks.toNat →
    ∃ t, exec (.groupDelayMeasureEnd p m e) s = .next t ∧ t.gnss.ports[p].group = none ∧
      t.gnss.ports[p].groupMean = (List.range 6).map fun k => m.getD k 0) ∧
  (∀ (s : State) (c : Fin 200), s.gnss.channels[c].state = 3 →
    ∃ t, exec (.channelTimeout c) s = .next t ∧ t.gnss.channels[c].state = 4 ∧
      ∀ d : Fin 200, d ≠ c → t.gnss.channels[d] = s.gnss.channels[d]) ∧
  (∀ (s : State) (c : Fin 200), s.gnss.channels[c].state = 1 → 1 ≤ s.gnss.channels[c].tries →
    ∃ t, exec (.channelTimeout c) s = .next t ∧ t.gnss.channels[c] = {}) ∧
  (∀ (s : State) (c : Fin 200) (p : Fin 2) (x : Sat) (k : Fin 6) (a b n cn : Nat),
    s.gnss.channels[c].state = 0 → s.wear.channels[c].state = .service → s.refs[gnssRef p].state ≠ .off →
    ∃ t, exec (.correlatorDump c a b n cn (some (p, x, k.val))) s = .next t ∧
      t.gnss.channels[c].state = 1 ∧ t.gnss.channels[c].sat = x ∧ t.gnss.channels[c].port = p.val) ∧
  (∀ (s : State) (c : Fin 200) (a b cn : Nat) (w : Nat × Nat), s.gnss.channels[c].state = 2 →
    s.gnss.channels[c].nextCode = some w →
    ∃ t, exec (.correlatorDump c a b 3 cn none) s = .next t ∧ t.gnss.channels[c].state = 3 ∧
      t.gnss.channels[c].code = w.1 ∧ t.gnss.channels[c].carrier = w.2 ∧
      t.gnss.channels[c].nextCode = some (a, b)) ∧
  (∀ (s : State) (p : Fin 2), ∃ t, exec (.gnssClockFault p) s = .next t ∧
    t.gnss.ports[p].clockFault = true ∧
    ∀ c : Fin 200, s.gnss.channels[c].port = p.val → s.gnss.channels[c].state ≠ 0 →
      s.gnss.channels[c].state ≠ 5 → t.gnss.channels[c].state = 4) ∧
  (∀ (s : State) (p : Fin 2), s.gnss.ports[p].clockFault = true →
    exec (.gnssClockRestored p) s = .next (s.modPort p fun x =>
      { x with clockFault := false, acquire := methodFor s p })) ∧
  (∀ (s : State) (p : Fin 2) (i q : List Nat), i.length = 16 → q.length = 16 →
    ∃ t, exec (.gnssHistogram p i q) s = .next t ∧ t.gnss.ports[p].histI = i ∧ t.gnss.ports[p].histQ = q) ∧
  (∀ (s : State) (p : Fin 2) (m : List Int) (e : List Nat) (j : GroupJob), s.gnss.ports[p].group = some j →
    s.clock.ticks.toNat < j.begun + j.duration * 10 ^ 9 → exec (.groupDelayMeasureEnd p m e) s = .next s) ∧
  (∀ (s : State) (p : Fin 2) (x y z : Int) (u h v : Nat), s.gnss.ports[p].fix.mode = 1 →
    h < s.gnss.ports[p].fix.target → v < s.gnss.ports[p].fix.target →
    s.gnss.ports[p].surveyFrom + s.gnss.ports[p].fix.surveyMin * 10 ^ 9 ≤ s.clock.ticks.toNat →
    exec (.surveyComplete p x y z u h v) s = .next (raise 0x0908 p.val u (s.modPort p fun q =>
      { q with position := some ⟨x, y, z, u⟩, fix := { q.fix with mode := 2 } }))) ∧
  (∀ (s : State) (c : Capture), s.gnss.snap.armed = some c → c.trigger = 1 →
    captureBlocked s (decide (c.overwrite = 1)) = false →
    exec .snapshotArmedStart s = .next (startCapture c s)) ∧
  (∀ (s : State) (c : Capture), s.gnss.snap.armed = some c → c.trigger = 1 →
    captureBlocked s (decide (c.overwrite = 1)) = true →
    exec .snapshotArmedStart s = .next (raise 0x0906 1 0 (s.modGnss fun g =>
      { g with snap := { g.snap with armed := none } }))) ∧
  (∀ (s : State) (c : Capture) (a b : Nat) (x y : Int) (o : Nat), s.gnss.snap.capturing = some c →
    c.lost = 0 → ∃ t, exec (.snapshotComplete a b x y o) s = .next t ∧ t.gnss.snap.capturing = none ∧
      ∃ h k, t.gnss.snap.held = some (h, k, o) ∧ h.samples = a ∧ k.samples = b ∧
        c.begun ≤ h.start ∧ h.start < c.begun + (max 1 x).toNat ∧ c.begun ≤ k.start ∧
        k.start < c.begun + (max 1 y).toNat) ∧
  (∀ (s : State) (n q : Nat) (src : Source), s.gnss.snap.exporting = some (n, src, q) →
    s.gnss.snap.releases = [] →
    exec .snapshotExportComplete s = .next (completeCmd 0x090C q stOk src (raise 0x0907 n 0
      (s.modGnss fun g => { g with snap := { g.snap with exporting := none, releases := [] } })))) ∧
  (∀ (s : State) (p : Fin 2) (x : Sat), ∃ t, exec (.satelliteExclusionEnd p x) s = .next t ∧
    (∀ y ∈ t.gnss.ports[p].excluded, y.1 = x → s.clock.ticks.toNat < y.2 + 600 * 10 ^ 9) ∧
    (∀ y ∈ s.gnss.ports[p].excluded, y.1 ≠ x ∨ s.clock.ticks.toNat < y.2 + 600 * 10 ^ 9 →
      y ∈ t.gnss.ports[p].excluded)) ∧
  (∀ (s : State) (p : Fin 2) (k : Fin 8), s.gnss.ports[p].clearing.getLsbD k.val = true →
    s.gnss.ports[p].passSince[k] + s.gnss.ports[p].consist.clearTime * 10 ^ 9 ≤ s.clock.ticks.toNat →
    ∃ t, exec (.checkClear p k) s = .next t ∧ t.gnss.ports[p].failed.getLsbD k.val = false ∧
      t.gnss.ports[p].rejecting.getLsbD k.val = false) ∧
  (∀ (s : State) (e : GnssEpoch) (o : Int), s.refs[gnssRef e.port].state ≠ .off →
    s.clock.form ≠ .stopped → e.offset = some o →
    enough s.gnss.ports[e.port].fix.mode (usedSats s e) = true →
    ∃ t, exec (.gnssEpoch e) s = .next t ∧ t.gnss.ports[e.port].last = some o ∧
      t.gnss.ports[e.port].satsUsed = (usedSats s e).length ∧ t.refs[gnssRef e.port].measured = some o ∧
      t.refs[gnssRef e.port].uncertainty = gnssUncertainty s e ∧ t.gnss.snapTaken = false ∧
      (t.host.queues[(4 : Fin 5)].building.length = s.host.queues[(4 : Fin 5)].building.length + 1)) ∧
  (∀ (s : State) (e : GnssEpoch), s.refs[gnssRef e.port].state ≠ .off → s.clock.form ≠ .stopped →
    solution s e = none →
    ∃ t, exec (.gnssEpoch e) s = .next t ∧ t.refs[gnssRef e.port].reasons.getLsbD 2 = true ∧
      t.refs[gnssRef e.port].contributing = false ∧
      t.refs[gnssRef e.port].measured = s.refs[gnssRef e.port].measured ∧
      t.gnss.ports[e.port].last = s.gnss.ports[e.port].last) ∧
  (∀ (s : State) (e : GnssEpoch), s.refs[gnssRef e.port].state ≠ .off → s.clock.form ≠ .stopped →
    4 ≤ ((usedSats s e).filter fun m => decide (s.gnss.ports[e.port].consist.cn0High < m.cn0)).length →
    ∃ t, exec (.gnssEpoch e) s = .next t ∧ t.gnss.ports[e.port].failed.getLsbD 3 = true ∧
      (s.gnss.ports[e.port].failed.getLsbD 3 = false → t.refs[gnssRef e.port].reasons.getLsbD 7 = true ∧
        t.gnss.ports[e.port].rejecting.getLsbD 3 = true)) ∧
  (∀ (s : State) (e : GnssEpoch), s.refs[gnssRef e.port].state ≠ .off → s.clock.form ≠ .stopped →
    atomicGuard s = false →
    ∃ t, exec (.gnssEpoch e) s = .next t ∧ t.gnss.ports[e.port].unavail.getLsbD 0 = true ∧
      t.gnss.ports[e.port].unavail.getLsbD 1 = true ∧ t.gnss.ports[e.port].guardHist = []) ∧
  (∀ (s : State) (e : GnssEpoch), (s.refs[gnssRef e.port].state = .off ∨ s.clock.form = .stopped) →
    exec (.gnssEpoch e) s = .next s) ∧
  (∀ (s : State) (e : GnssEpoch), ∀ m ∈ usedSats s e, tracked s e.port m.sat = true ∧ m.unhealthy = false ∧
    m.sat ∉ s.gnss.exclusion ∧ bitOf s.gnss.ports[e.port].cfg.consts m.sat.constellation = true ∧
    m.orbitJump ≤ 100000 ∧ m.weekJump = false) ∧
  (∀ (s : State) (e : GnssEpoch), s.gnss.ports[e.port].fix.mode ≠ 2 → gnssUncertainty s e = unbounded)

/-! ### Ductus (04) and Margin (05) -/

/-- 04 R130, R145, R148, 15 R417, R419: the plain commands of references and Ductus. A channel but DPLL0 is enabled
into PULLING and disabled into OFF; DPLL0 is E_STATE; models are exported for the clock members and imported where
they are kept; statuses and records are read. It rests on the model's choices of log entries 40, 70, 74 and 168. -/
def Obligations.DuctusCommandsActAsTheirRulesSay : Prop :=
  (∀ (s : State) (r : Req) (c : Fin 6), Asks 0x0304 2 r s → c.val ≠ 0 → s.ductus.dplls[c].state = .off →
    inputPresent (s.modDpll c fun x => { x with state := .pulling }) c = true →
    exec (.dpllEnable r c 1) s =
      .next (finish r.src stOk [] (s.modDpll c fun x => { x with state := .pulling }))) ∧
  (∀ (s : State) (r : Req) (c : Fin 6), Asks 0x0304 2 r s → c.val ≠ 0 → s.ductus.dplls[c].state ≠ .off →
    exec (.dpllEnable r c 1) s = .next (finish r.src stOk [] s)) ∧
  (∀ (s : State) (r : Req) (c : Fin 6), Asks 0x0304 2 r s → c.val ≠ 0 →
    exec (.dpllEnable r c 0) s = .next (finish r.src stOk [] (dpllOff c s)) ∧
    (dpllOff c s).ductus.dplls[c].state = .off ∧ (dpllOff c s).ductus.dplls[c].realign = none) ∧
  (∀ (s : State) (r : Req) (e : Nat), Asks 0x0304 2 r s → e ≤ 1 →
    exec (.dpllEnable r 0 e) s = .next (finish r.src eState [] s)) ∧
  (∀ (s : State) (r : Req), Asks 0x0305 0 r s →
    ∃ body, exec (.modelExport r) s = .next (finish r.src stOk body s) ∧
      body.take 8 = le 4 (clockMembers s).length ++ le 4 0 ∧
      body.length = 8 + 56 * (clockMembers s).length) ∧
  (∀ (s : State) (r : Req) (l : List ModelItem), Asks 0x0306 (8 + 56 * l.length) r s →
    (∀ it ∈ l, ztValid it.exportTime = true) → s.ductus.state ≠ .free → s.ductus.state ≠ .acquire →
    ∃ u, exec (.modelImport r l) s = .next (finish r.src stOk
        (le 4 (l.filter fun it => (itemKept s it).isNone).length) u) ∧
      u.refs = s.refs ∧ u.clock = s.clock ∧ u.ductus.state = s.ductus.state ∧
      (∀ it i, l = [it] → itemKept s it = some i → u.ductus.members[i] =
        importedMember (modelOf s i) (now s - ztUnits it.exportTime) it s.ductus.members[i])) ∧
  (∀ (s : State) (r : Req) (l : List ModelItem), Asks 0x0306 (8 + 56 * l.length) r s →
    (∀ it ∈ l, ztValid it.exportTime = true) → (s.ductus.state = .free ∨ s.ductus.state = .acquire) →
    exec (.modelImport r l) s = .next (finish r.src eState [] s)) ∧
  (∀ (s : State) (r : Req), Asks 0x0310 0 r s →
    exec (.ductusStatus r) s = .next (finish r.src stOk (ductusRecord s) s)) ∧
  (∀ s : State, (ductusRecord s).take 4 = le 1 (ductusCode s.ductus.state) ++ le 1 s.ductus.mode ++
    le 1 (anchorCode s) ++ le 1 (flag (guardAbsent s) 0 + flag s.ductus.xoLost 1)) ∧
  (∀ (s : State) (r : Req) (a n : Nat), Asks 0x0210 2 r s → 1 ≤ n → a + n ≤ 20 →
    exec (.referenceStatus r a n) s = .next (finish r.src stOk
      (((fins 20).filter fun i => decide (a ≤ i.val) && decide (i.val < a + n)).flatMap (refRecord s)) s)) ∧
  (∀ (s : State) (r : Req) (t : Fin 4), Asks 0x0209 1 r s → r.src = .task t →
    exec (.selectionHook r 1) s = .next (finish r.src stOk []
      (s.modSel fun x => { x with hookTask := some t, hookOverruns := 0 }))) ∧
  (∀ (s : State) (r : Req) (m : Fin 16) (a : Nat), Asks 0x0209 1 r s → r.src = .mailbox m →
    exec (.selectionHook r a) s = .next (finish r.src eState [] s))

/-- 15 R417, 02 R73: a reference-status record is 40 B with its fields where the table puts them, and STATE holds the
code of the state, never above 5. -/
def Obligations.AReferenceRecordHasItsLayout : Prop :=
  ∀ (s : State) (i : Fin 20), (refRecord s i).length = 40 ∧
    (refRecord s i).take 4 = le 1 i.val ++ le 1 (refCode s.refs[i].state) ++ le 1 (reasonOf s.refs[i]) ++
      le 1 s.refs[i].mon.rank ∧
    ((refRecord s i).drop 4).take 2 = le 2 (min 65535 s.refs[i].qualTimer) ∧
    ((refRecord s i).drop 6).take 2 = le 2 (flag s.refs[i].contributing 0 + flag s.refs[i].companion 1 +
      flag s.refs[i].hostLatch 2 + flag s.refs[i].disagree 3) ∧
    ((refRecord s i).drop 8).take 8 = le 8 (optCode s.refs[i].freq) ∧
    ((refRecord s i).drop 16).take 8 = le 8 (optCode s.refs[i].measured) ∧
    ((refRecord s i).drop 24).take 8 = le 8 (optCode s.refs[i].predicted) ∧
    (refRecord s i).drop 32 = le 8 (if s.sel.target = some i then toCode 64 s.ductus.b else 0) ∧
    refCode .off = 0 ∧ refCode .monitor = 1 ∧ refCode .qualified = 2 ∧ refCode .selected = 3 ∧
    refCode .rejected = 4 ∧ refCode .held = 5 ∧ refCode s.refs[i].state ≤ 5

/-- 04 R134, R136, R140, R141, R148, R149, R151: the rows of Ductus. An update takes the filter's results, slews B and
K toward 0 and keeps the state; LOCKED is entered from REJOIN with B 0 and small errors; the XO's return with a
reference SELECTED rejoins; an update that does not come freezes DPLL0; channels move between PULLING and TRACKING. It
rests on the model's choices of log entries 5, 68, 70 and 158. -/
def Obligations.DuctusRowsActAsTheirRulesSay : Prop :=
  (∀ (s : State) (f : FilterResult), s.host.supervisor = true → s.clock.form = .counter →
    s.clock.rebase = none → s.ductus.silent = false → s.ductus.next = none → s.ductus.state ≠ .free →
    s.ductus.state ≠ .acquire →
    ∃ t, exec (.ductusUpdate f) s = .next t ∧ t.ductus.ensemble = f.ensembleMinusDevice ∧
      t.ductus.frequency = f.frequency ∧ t.ductus.predictionRate = f.predictionRate ∧
      (anchored s = true → t.ductus.sigmaX = f.sigmaX ∧ t.ductus.prediction = f.deviceMinusAnchor) ∧
      (anchored s = false → t.ductus.sigmaX = s.ductus.sigmaX ∧ t.ductus.varY = s.ductus.varY ∧
        t.ductus.varD = s.ductus.varD) ∧
      t.ductus.state = s.ductus.state ∧ t.ductus.updated = now s ∧
      t.ductus.b.natAbs ≤ s.ductus.b.natAbs ∧ t.ductus.k.natAbs ≤ s.ductus.k.natAbs ∧
      t.ductus.h = s.ductus.h ∧
      t.ductus.loopError = (if anchored s then f.deviceMinusAnchor - t.ductus.b - s.ductus.h
        else s.ductus.loopError) ∧ now t = now s) ∧
  (∀ (s : State) (f : FilterResult), s.host.supervisor = false → exec (.ductusUpdate f) s = .next s) ∧
  (∀ s : State, s.ductus.state = .rejoin → anchored s = true → s.ductus.b = 0 →
    s.ductus.loopError.natAbs ≤ s.ductus.cfg.lockPhase → s.ductus.frequency.natAbs ≤ s.ductus.cfg.lockFreq →
    exec .lockDwellExpiry s = .next (setDuctus .locked s)) ∧
  (∀ s : State, (s.ductus.state = .free ∨ s.ductus.state = .coast ∨ s.ductus.state = .locked) →
    exec .lockDwellExpiry s = .next s) ∧
  (∀ (s : State) (st : DuctusState), (setDuctus st s).ductus.state = st) ∧
  (∀ s : State, s.ductus.xoLost = true → s.refs[xoRef].contributing = true → s.ductus.state = .coast →
    selected s ≠ none →
    ∃ t, exec .xoLostClear s = .next t ∧ t.ductus.xoLost = false ∧ t.ductus.state = .rejoin ∧
      t.ductus.b = s.ductus.b + s.ductus.loopError + s.ductus.h ∧ t.ductus.h = 0) ∧
  (∀ s : State, s.ductus.updated + s.ductus.dplls[0].cfg.timeout * secUnit ≤ now s →
    exec .updateTimeout s = .next (freezeDpll 0 (s.modDuctus fun d => { d with silent := true }))) ∧
  (∀ (s : State) (c : Fin 6), s.ductus.dplls[c].state = .pulling →
    exec (.dpllTracking c) s = .next (s.modDpll c fun x => { x with state := .tracking })) ∧
  (∀ (s : State) (c : Fin 6), s.ductus.dplls[c].state = .tracking →
    exec (.dpllPulling c) s = .next (s.modDpll c fun x => { x with state := .pulling }))

/-- 04 R126, R137, 05 R157: the prediction of the ensemble. Its uncertainty is 6 σ_x(t) of R126 with the weights in
force, in whole ps rounded up: the least number of ps that is no less; it is unbounded in FREE, with the XO lost and
before the first measurement of an anchor, and it never falls as the prediction grows older. Coasting, HOLD is the
size of the predicted offset and its uncertainty. It rests on the model's choices of log entries 158, 159, 160 and
162. -/
def Obligations.PredictionsWidenAsTheClockModelSays : Prop :=
  (∀ (s : State) (t n : Nat), sigmaSix s t ≤ n ↔
    36 * 10 ^ 24 * (12 * s.ductus.sigmaX ^ 2 * 86400 ^ 2 * secUnit ^ 4 * 2 ^ 132 +
      12 * s.ductus.varY * t ^ 2 * 86400 ^ 2 * secUnit ^ 2 * 2 ^ 100 +
      3 * s.ductus.varD * t ^ 4 * 2 ^ 100 +
      12 * (weightedSum s fun i => b64Scaled (modelOf s i).q1) * t * 86400 ^ 2 * secUnit ^ 3 +
      4 * (weightedSum s fun i => b64Scaled (modelOf s i).q2) * t ^ 3 * 86400 ^ 2 * secUnit)
      ≤ n ^ 2 * (12 * 86400 ^ 2 * secUnit ^ 4 * 2 ^ 252)) ∧
  (∀ (s : State) (t u : Nat), t ≤ u → sigmaSix s t ≤ sigmaSix s u) ∧
  (∀ (s : State) (t : Nat), (s.ductus.state = .free ∨ s.ductus.xoLost = true ∨ s.ductus.anchorMeas = 0) →
    predictionUnc s t = unbounded) ∧
  (∀ (s : State) (t : Nat), s.ductus.state ≠ .free → s.ductus.xoLost = false → s.ductus.anchorMeas ≠ 0 →
    predictionUnc s t = satBound (sigmaSix s (t - s.ductus.anchorMeas))) ∧
  (∀ s : State, s.ductus.anchor = none → (termsOf s)[2]? = some (satBound
    (toPs (predictionAt s (horizonOf s)).natAbs + predictionUnc s (horizonOf s)))) ∧
  (∀ s : State, anchored s = true → s.ductus.state ≠ .coast →
    (termsOf s)[2]? = some (predictionUnc s (horizonOf s)) ∧ (termsOf s)[3]? = some 0) ∧
  (∀ s : State, s.ductus.anchor = none → s.margin.lossAt = none → (termsOf s)[3]? = some 0)

/-- 05 R156, R163 to R165, R173: an evaluation. C is the saturating sum of the terms, unbounded in FREE, outside the
counter form, with the XO lost or with a term unbounded; P is the largest C of the last BOUND_HOLD seconds, so never
below C; the record enters the Margin queue and the horizon lies 1.1 s ahead. It rests on the model's choices of log
entries 5, 79, 160 and 162. -/
def Obligations.AnEvaluationPublishesTheLargestBound : Prop :=
  ∀ (s : State) (gap : Nat), s.host.supervisor = true → s.clock.form ≠ .stopped →
    ∃ t, exec (.marginEvaluation gap) s = .next t ∧
      t.margin.core = coreBound t.margin.terms s ∧
      (s.ductus.state = .free → t.margin.core = unbounded) ∧
      (s.ductus.state ≠ .free → s.clock.form = .counter → s.ductus.xoLost = false →
        (∀ x ∈ t.margin.terms, x < unbounded) →
        t.margin.core = satBound (t.margin.terms.foldl (· + ·) 0)) ∧
      t.margin.window.head? = some (now s, t.margin.core) ∧
      t.margin.published = t.margin.window.foldl (fun n x => max n x.2) 0 ∧
      t.margin.core ≤ t.margin.published ∧
      (∀ p ∈ t.margin.window, now s ≤ p.1 + t.margin.cfg.boundHold * secUnit) ∧
      (∀ p ∈ s.margin.window, now s ≤ p.1 + t.margin.cfg.boundHold * secUnit → p ∈ t.margin.window) ∧
      t.margin.cfg = s.margin.next.getD s.margin.cfg ∧ t.margin.next = none ∧
      t.margin.horizon = now s + ms16 1100 ∧ t.margin.evalTime = now s ∧ t.margin.stale = false ∧
      t.host.queues[(3 : Fin 5)].building.length = s.host.queues[(3 : Fin 5)].building.length + 1

/-- 05 R160, R165, R172, R173, R177, 15 R420: the other commands and rows of Margin. A temperature report joins those
of its member that can still count; the status is read; the oldest statement owed is signed and queued; past the
horizon the bound is STALE, and 60 s later unbounded; an earlier class row takes effect after CLASS_HOLD. It rests on
the model's choices of log entries 160 and 161. -/
def Obligations.MarginRowsActAsTheirRulesSay : Prop :=
  (∀ (s : State) (r : Req) (i : Fin 13) (x : Int), Asks 0x0208 4 r s → -32768 ≤ x → x ≤ 32767 →
    exec (.temperatureReport r i x) s = .next (finish r.src stOk [] (s.modMargin fun m =>
      { m with hostTemps :=
                 m.hostTemps.set i ((s.clock.ticks.toNat, x) :: keepSince (tempFloor s) m.hostTemps[i]) }))) ∧
  (∀ (b : Nat) (l : List (Nat × Int)), (∀ p ∈ keepSince b l, p ∈ l) ∧ ((keepSince b l).head? = l.head?)) ∧
  (∀ (s : State) (r : Req) (i : Nat) (x : Int), Asks 0x0208 4 r s → 12 < i →
    exec (.temperatureReport r i x) s = .next (finish r.src eRange [] s)) ∧
  (∀ (s : State) (r : Req), Asks 0x0311 0 r s →
    exec (.marginStatus r) s = .next (finish r.src stOk (marginRecord s) s)) ∧
  (∀ s : State, (marginRecord s).take 18 =
    le 8 (publishedNow s) ++ le 8 s.margin.growth ++ le 2 (flag s.margin.stale 0)) ∧
  (∀ (s : State) (q : BoundRecord) (rest : List BoundRecord), s.margin.signing = q :: rest →
    ∃ t g, exec .statementSigned s = .next t ∧ t.margin.signing = rest ∧
      t.host.queues[(3 : Fin 5)].building = s.host.queues[(3 : Fin 5)].building ++
        [.margin { q with signature := some g }]) ∧
  (∀ s : State, s.margin.evalTime ≠ 0 → s.margin.horizon < now s → s.margin.stale = false →
    exec .boundStale s = .next (judgeAll (raise 0x0304 256 s.margin.published
      (s.modMargin fun m => { m with stale := true })))) ∧
  (∀ s : State, s.margin.stale = true → s.margin.horizon + 60 * secUnit ≤ now s →
    exec .boundStaleSaturation s = .next (judgeAll (s.modMargin fun m => { m with published := unbounded }))) ∧
  (∀ s : State, s.margin.stale = true → s.margin.horizon + 60 * secUnit ≤ now s →
    publishedNow s = unbounded) ∧
  (∀ (s : State) (m : Fin 16) (r : Nat), s.margin.classes[m].waiting = some r → matchRow s m = r →
    exec (.classHoldExpiry m) s = .next (s.modMargin fun x =>
      { x with classes := x.classes.set m { row := r, waiting := none } }))

/-- 05 R174: the NTP root dispersion of a port is its delivery bound in units of 2^-16 s, rounded up to the next unit,
so that a bound above 0 gives at least 1, in 32 bits; the unbounded value gives 0xFFFFFFFF. Every response, RATE
answer and plain response carries that of its port. -/
def Obligations.RootDispersionRoundsTheBoundUp : Prop :=
  rootDispersion unbounded = 0xFFFFFFFF ∧
  (∀ b : Nat, b < unbounded → rootDispersion b < 2 ^ 32 ∧ b * 65536 ≤ rootDispersion b * 10 ^ 12 ∧
    rootDispersion b * 10 ^ 12 < b * 65536 + 10 ^ 12 ∧ (0 < b → 1 ≤ rootDispersion b)) ∧
  (∀ (kind : Nat) (q : NtsRequest) (m : NtpMsg) (s : State),
    (ntsAnswer kind q m s).rootDisp = rootDispersion (deliveryBound s q.frame.mac))

/-! ### Power (01, 18) and wear, counters and calibration (17) -/

/-- 01 R48: no row of a speed-mode change touches a launch: every launch calendar, its counters and the frames in
transmission stay. During a change the launch-lead floor and the NTS admission rate are those of the slower of the two
modes. A speed-mode command of a valid body that arrives during a change completes with E_STATE and has no effect. -/
def Obligations.SpeedModeChangesKeepTheLaunches : Prop :=
  (∀ (s t : State) (r : Req) (n : Nat), exec (.speedMode r n) s = .next t → t.net.macs = s.net.macs) ∧
  (∀ s t : State, exec .thermalGuard s = .next t → t.net.macs = s.net.macs) ∧
  (∀ s t : State, exec .modeReservationsDrained s = .next t → t.net.macs = s.net.macs) ∧
  (∀ s t : State, exec .supplySetPointReached s = .next t → t.net.macs = s.net.macs) ∧
  (∀ s t : State, exec .paceWithinGoverningRatio s = .next t → t.net.macs = s.net.macs) ∧
  (∀ s t : State, exec .governingWaitTimeout s = .next t → t.net.macs = s.net.macs) ∧
  (∀ (s : State) (c : ModeChange) (p : Path), s.power.change = some c →
    launchLead s p = max (max (floorOf s.power.mode) (floorOf c.target)) (paceLead s p)) ∧
  (∀ (s : State) (c : ModeChange), s.power.change = some c →
    ntsRateNow s = min (ntsRate s.power.mode) (ntsRate c.target) * inService s 1 / 24) ∧
  (∀ (s : State) (r : Req) (n : Nat), Asks 0x0101 1 r s → n ≤ 2 → s.power.change ≠ none →
    exec (.speedMode r n) s = .next (finish r.src eState [] s))

/-- 01 R42 to R49, 18 R488, R499, R500: speed modes, pace, temperature and THERMTRIP. A change to a slower mode drains
the old reservations, ramps down and ends; one to a faster mode ramps up, waits for the pace and ends; a second change
is E_STATE, and every change is E_HW after a regulator fault; the thermal guard changes SPRINT to BALANCED from 103 °C
on. The junction is the highest of the 16 sensors after their offsets; THERMTRIP goes low from 115 °C; the pace-lead
event marks the beginning and the end of an excess over the floor. It rests on the model's choices of log entries 11,
14, 141, 160 and 161. -/
def Obligations.PowerPaceAndTemperatureFollowTheirRules : Prop :=
(∀ (s : State) (r : Req) (p : Pend) (n : Nat) (m : SpeedMode), r.len = 1 → ready 0x0101 r s = some p →
    modeOf n = some m → s.power.change = none → s.power.regulatorDead = false → m ≠ s.power.mode →
    exec (.speedMode r n) s =
      .next (finish r.src stAccepted [] (beginChange m false (some (r.src, p.sequence)) s))) ∧
  (∀ (s : State) (r : Req) (p : Pend) (n : Nat) (m : SpeedMode), r.len = 1 → ready 0x0101 r s = some p →
    modeOf n = some m → s.power.change = none → s.power.regulatorDead = false → m = s.power.mode →
    exec (.speedMode r n) s = .next (finish r.src stAccepted [] (completeCmd 0x0101 p.sequence stOk r.src
      (raise 0x0101 (modeArg m m false false) 0 s)))) ∧
  (∀ (s : State) (r : Req) (n : Nat), Asks 0x0101 1 r s → n ≤ 2 → s.power.change ≠ none →
    exec (.speedMode r n) s = .next (finish r.src eState [] s)) ∧
  (∀ (s : State) (r : Req) (n : Nat), Asks 0x0101 1 r s → n ≤ 2 → s.power.change = none →
    s.power.regulatorDead = true → exec (.speedMode r n) s = .next (finish r.src eHw [] s)) ∧
  (∀ (s : State) (r : Req) (n : Nat), Asks 0x0101 1 r s → 2 < n →
    exec (.speedMode r n) s = .next (finish r.src eRange [] s)) ∧
  (∀ (s : State) (m : SpeedMode) (g : Bool) (src : Option (Source × Nat)), ∃ c,
    (beginChange m g src s).power.change = some c ∧ c.target = m ∧ c.source = src ∧ c.guard = g ∧
    c.stage = (if floorOf s.power.mode < floorOf m then .drain else .rampUp) ∧
    (beginChange m g src s).power.mode = s.power.mode) ∧
  (∀ (s : State) (c : ModeChange), s.power.change = some c → c.stage = .drain → oldReservation c s = false →
    exec .modeReservationsDrained s = .next (s.modPower fun p =>
      { p with change := some { c with stage := .rampDown } })) ∧
  (∀ (s : State) (c : ModeChange), s.power.change = some c → c.stage = .drain → oldReservation c s = true →
    exec .modeReservationsDrained s = .next s) ∧
  (∀ (s : State) (c : ModeChange), s.power.change = some c → c.stage = .rampUp →
    exec .supplySetPointReached s = .next (s.modPower fun p =>
      { p with setPointMv := supplyTarget c.target, change := some { c with stage := .governing } })) ∧
  (∀ (s : State) (c : ModeChange), s.power.change = some c → c.stage = .rampDown →
    ∃ t, exec .supplySetPointReached s = .next t ∧ t.power.mode = c.target ∧ t.power.change = none ∧
      t.power.setPointMv = supplyTarget c.target) ∧
  (∀ (s : State) (c : ModeChange), s.power.change = some c → c.stage = .governing → governs c.target s = true →
    ∃ t, exec .paceWithinGoverningRatio s = .next t ∧ t.power.mode = c.target ∧ t.power.change = none) ∧
  (∀ (s : State) (c : ModeChange), s.power.change = some c → c.stage = .governing →
    ∃ t, exec .governingWaitTimeout s = .next t ∧ t.power.mode = c.target ∧ t.power.change = none) ∧
  (∀ s : State, ∃ t, exec .regulatorTimeout s = .next t ∧ t.power.regulatorDead = true ∧
    t.power.change = none ∧ t.power.regulatorFaults = s.power.regulatorFaults + 1 ∧
    t.power.mode = s.power.mode ∧ t.power.setPointMv = s.power.setPointMv) ∧
  (∀ s : State, s.power.mode = .sprint → s.power.change = none → 103 * 128 ≤ s.power.junction →
    s.power.regulatorDead = false →
    exec .thermalGuard s = .next (beginChange .balanced true none
      (raise 0x0102 (toCode 16 s.power.junction) 0 s))) ∧
  (∀ s : State, s.power.junction < 103 * 128 → exec .thermalGuard s = .next s) ∧
(∀ (s : State) (l : List Int), l.length = 16 →
    ∃ t, exec (.temperatureSample l) s = .next t ∧
      (∀ i : Fin 16, l.getD i 0 + ofCode 16 (calNat s (25432 + 2 * i.val) 2) ≤ t.power.junction) ∧
      (∃ i : Fin 16, t.power.junction = l.getD i 0 + ofCode 16 (calNat s (25432 + 2 * i.val) 2)) ∧
      t = s.modPower fun p => { p with
        junction := t.power.junction,
        temps := (s.clock.ticks.toNat, t.power.junction) :: keepSince (tempFloor s) (tempsOf s) }) ∧
  (∀ s : State, 115 * 128 ≤ s.power.junction → s.power.inReset = false →
    exec .thermtrip s = .next (s.modPower fun p => { p with thermtripLow := true })) ∧
  (∀ s : State, s.power.junction < 115 * 128 → exec .thermtrip s = .next s) ∧
  (∀ (s : State) (a b c d e : Nat), a < 65536 → b < 65536 → c < 65536 → d < 65536 → e < 65536 →
    exec (.paceUpdate a b c d e) s = .next (judgePace (s.modPower fun p =>
      { p with paceNts := a, pacePtp := b, paceSched := c, paceHost := d, paceDevice := e }))) ∧
  (∀ (s : State) (p : Path), pathLeads s p = false → floorOf (ruleMode s) < paceLead s p →
    judgePath p s = raise 0x0103 (pathCode p + 256) (launchLead s p) (setLead p true s)) ∧
  (∀ (s : State) (p : Path), pathLeads s p = true → paceLead s p ≤ floorOf (ruleMode s) →
    judgePath p s = raise 0x0103 (pathCode p) (launchLead s p) (setLead p false s)) ∧
  (∀ (s : State) (l : List Nat), l.length = 11 → (∀ x ∈ l, x < 65536) →
    ∃ t, exec (.paceMirrorUpdate l) s = .next t ∧ t.power.mirror.toList = l ∧
      t.power.mode = s.power.mode ∧ t.host = s.host)
/-- 17 R463, R466, R475 to R478, 14 R404: the commands that read counters, the ledgers and the calibration record, and
the write of the record, which lands whole or not at all and raises its event. It rests on the model's choices of log
entries 47, 53, 54 and 150. -/
def Obligations.CounterAndRecordCommandsActAsTheirRulesSay : Prop :=
  State.reset.wear.calGeneration = 1 ∧
  (∀ (s : State) (r : Req) (first count : Nat), Asks 0x0C04 6 r s → (counterNumber s first).isSome = true →
    (isTask r.src = false ∨ ∀ k, k < count → hiddenCounter s (first + k) = false) →
    exec (.counterRead r first count) s = .next (finish r.src stOk
      ((List.range count).flatMap fun k => le 8 ((counterNumber s (first + k)).getD 0)) s)) ∧
  (∀ (s : State) (r : Req) (first count : Nat), Asks 0x0C04 6 r s → counterNumber s first = none →
    exec (.counterRead r first count) s = .next (finish r.src eRange [] s)) ∧
  (∀ (s : State) (r : Req) (first count k : Nat), Asks 0x0C04 6 r s → (counterNumber s first).isSome = true →
    isTask r.src = true → k < count → hiddenCounter s (first + k) = true →
    exec (.counterRead r first count) s =
      .next (finish r.src ePriv [] (s.modHost fun h => { h with refused := h.refused + 1 }))) ∧
  (∀ (s : State) (n : Fin 32), (s.wear.filters[n].ovf = false →
      counterNumber s (0x0D000000 + n.val * 256) = some s.wear.filters[n].count) ∧
    (s.wear.filters[n].ovf = true →
      counterNumber s (0x0D000000 + n.val * 256) = some (s.wear.filters[n].count + 2 ^ 48)) ∧
    hiddenCounter s (0x0D000000 + n.val * 256) = decide (s.wear.filters[n].cfg.userRead = 0)) ∧
  (∀ (s : State) (r : Req) (first count : Nat), Asks 0x0C06 4 r s → 1 ≤ count → count ≤ 511 →
    first + count ≤ s.wear.ledger.length →
    exec (.wearLedgerRead r first count) s =
      .next (finish r.src stOk (((s.wear.ledger.drop first).take count).flatMap ledgerBytes) s)) ∧
  (∀ (s : State) (r : Req) (first count : Nat), Asks 0x0C06 4 r s → 1 ≤ count → count ≤ 511 →
    s.wear.ledger.length < first + count →
    ∃ body t, exec (.wearLedgerRead r first count) s = .next (finish r.src stOk body t) ∧
      body.length = 32 * count ∧
      (body.take (32 * (s.wear.ledger.length - first))) = (s.wear.ledger.drop first).flatMap ledgerBytes ∧
      t = s.modHost fun h => { h with freeCount := h.freeCount + 1 }) ∧
  (∀ (s : State) (r : Req) (first count : Nat), Asks 0x0C06 4 r s → (count = 0 ∨ 511 < count) →
    exec (.wearLedgerRead r first count) s = .next (finish r.src eRange [] s)) ∧
  (∀ (s : State) (r : Req) (offset len : Nat), Asks 0x0C01 8 r s → len ≤ 16376 → offset + len ≤ 32752 →
    exec (.calibrationRead r offset len) s = .next (finish r.src stOk (le 4 s.wear.calGeneration ++
      le 4 0 ++ s.wear.calRecord.readBytes calByte offset len) s)) ∧
  (∀ (s : State) (r : Req) (offset len : Nat), Asks 0x0C01 8 r s → (16376 < len ∨ 32752 < offset + len) →
    exec (.calibrationRead r offset len) s = .next (finish r.src eRange [] s)) ∧
  (∀ (s : State) (r : Req), Asks 0x0C03 0 r s →
    exec (.calibrationDigest r) s = .next (finish r.src stOk (le 4 s.wear.calGeneration ++ le 4 0 ++
      (Config.sha384 (s.wear.calRecord.readBytes calByte 0 32752)).take 48) s)) ∧
  (∀ (s : State) (r : Req) (offset : Nat) (data : Bytes), Asks 0x0C02 (16 + data.length) r s → 64 ≤ offset →
    offset + data.length ≤ 32752 → data.length ≤ 16368 →
    ∃ t, exec (.calibrationWrite r s.wear.calGeneration offset data) s =
        .next (finish r.src stOk (le 4 t.wear.calGeneration) t) ∧
      t.wear.calGeneration = (s.wear.calGeneration + 1) % 2 ^ 32 ∧
      t.wear.calRecord = (s.wear.calRecord.writeBytes calByte offset data).writeBytes calByte 32
        (le 4 (calNat s 32 4 ||| touched offset data.length)) ∧
      t.power = s.power ∧ t.refs = s.refs ∧ t.net = s.net ∧ t.ductus = s.ductus) ∧
  (∀ (s : State) (r : Req) (g offset : Nat) (data : Bytes), Asks 0x0C02 (16 + data.length) r s → 64 ≤ offset →
    offset + data.length ≤ 32752 → data.length ≤ 16368 → g ≠ s.wear.calGeneration →
    exec (.calibrationWrite r g offset data) s = .next (finish r.src eState [] s)) ∧
  (∀ (s : State) (r : Req) (g offset : Nat) (data : Bytes), Asks 0x0C02 (16 + data.length) r s →
    (offset < 64 ∨ 32752 < offset + data.length ∨ 16368 < data.length) →
    exec (.calibrationWrite r g offset data) s = .next (finish r.src eRange [] s)) ∧
  (∀ (s : State) (r : Req) (first count : Nat), Asks 0x0C07 4 r s → 1 ≤ count → count ≤ 511 →
    first + count ≤ s.host.persistent.length →
    exec (.persistentLog r first count) s =
      .next (finish r.src stOk (((s.host.persistent.drop first).take count).flatMap eventBytes) s)) ∧
  (∀ (s : State) (r : Req) (first count : Nat), Asks 0x0C07 4 r s → (count = 0 ∨ 511 < count) →
    exec (.persistentLog r first count) s = .next (finish r.src eRange [] s))

/-- 17 R469 to R472: wear. W is the mean over its base in units of 1/4096, rounded; each value counts towards the
limits; the spare with the lowest number takes over from a worn or failed unit and the ledger and an event say so; a
worn unit is retired when its work is done; a core is replaced at the takeover. It rests on the model's choices of log
entries 46, 49 and 55. -/
def Obligations.WearActsAsItsRulesSay : Prop :=
  (∀ (s : State) (p : Nat) (b : Int × Nat), 0 < b.1 → rdiv (p * 4096 * b.2) b.1.toNat < 65536 →
    wearRatio p b s = ((rdiv (p * 4096 * b.2) b.1.toNat).toNat, s)) ∧
  (∀ (s : State) (monitor m : Nat),
    paceBase s monitor m (25 * 128) = ((calNat s (25464 + (12 * monitor + 4 * m) * 2) 2 : Int), 1)) ∧
  (∀ (p w : Nat) (u : WearUnit), 150 * 4096 ≤ w * 100 →
    (countWear p w u).n130 = u.n130 + 1 ∧ (countWear p w u).n150 = u.n150 + 1 ∧ (countWear p w u).w = w) ∧
  (∀ (p w : Nat) (u : WearUnit), w * 100 < 130 * 4096 →
    (countWear p w u).n130 = 0 ∧ (countWear p w u).n150 = 0 ∧ (countWear p w u).warned = false) ∧
  (∀ (s : State) (l : List Nat) (j : Int), l.length = monitored.length →
    ∃ t, exec (.wearRatioUpdate l j) s = .next t ∧ t.wear.modeTouched = s.power.change.isSome ∧
      t.power = s.power ∧ t.refs = s.refs) ∧
  (∀ (s : State) (cls unit cause w p : Nat) (u : WearUnit), cls ≤ 3 → unitAt s cls unit = some u →
    u.state = .service → spareUnit s cls = some p →
    ∃ t, t = setUnit cls unit .worn
        (modUnit cls p (fun x => { x with state := .service, spareOf := some unit }) s) ∧
      bringIn cls unit cause w s =
        wearEvent 0x0C01 cls unit p 0 (ledger 0 cls unit p (sparesLeft t cls) w cause t)) ∧
  (∀ (s : State) (cls unit w : Nat) (u : WearUnit), cls ≠ 4 → unitAt s cls unit = some u → u.state = .service →
    spareUnit s cls = none →
    bringIn cls unit 0 w s = s ∧
    bringIn cls unit 1 w s = wearEvent 0x0C01 cls unit 0xFF 0
      (ledger 1 cls unit 0xFFFF 0 w 1 (setUnit cls unit .retired s))) ∧
  (∀ (s : State) (cls unit : Nat) (u : WearUnit), unitAt s cls unit = some u → u.state ≠ .spare →
    exec (.bistFailure cls unit) s = .next (bringIn cls unit 1 0 s)) ∧
  (∀ (s : State) (cls unit : Nat) (u : WearUnit), unitAt s cls unit = some u → u.state = .spare →
    ∃ t, t = setUnit cls unit .unavailable s ∧
      exec (.bistFailure cls unit) s = .next (ledger 6 cls unit 0xFFFF (sparesLeft t cls) 0 1 t)) ∧
  (∀ (s : State) (cls unit : Nat) (u : WearUnit), cls ≤ 3 → unitAt s cls unit = some u → u.state = .worn →
    holdsWork s cls unit = false →
    exec (.wornUnitRetired cls unit) s = .next (setUnit cls unit .retired s)) ∧
  (∀ (s : State) (cls unit : Nat), holdsWork s cls unit = true →
    exec (.wornUnitRetired cls unit) s = .next s) ∧
  (∀ (s : State) (core p : Nat) (u : WearUnit), unitAt s 5 core = some u → u.state = .worn →
    spareUnit s 5 = some p →
    ∃ t, t = modUnit 5 p (fun x => { x with state := .service, spareOf := some core })
        (setUnit 5 core .retired s) ∧
      exec (.scribeCoreTakeover core) s =
        .next (wearEvent 0x0C01 5 core p 0 (ledger 0 5 core p (sparesLeft t 5) u.w u.cause t)))

/-- 17 R464 to R468, R470, R473, 14 R407: filtered counters and memory errors. A wrap sets OVF and raises an interrupt
or owes a signal, which the task's handler takes or which is counted as dropped; the fourth corrected error of a row
in a day begins a repair; an uncorrectable one drops its victim. It rests on the model's choices of log entries 48,
51, 52 and 56. -/
def Obligations.CountersAndMemoryErrorsFollowTheirRules : Prop :=
  (∀ (s : State) (n : Fin 32), s.wear.filters[n].cfg.enable = 1 → s.wear.filters[n].cfg.event ∉ modelCounted →
    ∃ t, exec (.filteredCounterWrap n) s = .next t ∧ t.wear.filters[n].count = 0 ∧
      t.wear.filters[n].ovf = true ∧
      t.wear.filters[n].owed = (s.wear.filters[n].owed || decide (s.wear.filters[n].cfg.ovfIrq = 2)) ∧
      (∀ k, k ≠ n → t.wear.filters[k] = s.wear.filters[k]) ∧
      (s.wear.filters[n].cfg.ovfIrq ≠ 1 → t.host = s.host)) ∧
  (∀ (s : State) (n : Fin 32), s.wear.filters[n].cfg.enable ≠ 1 → exec (.filteredCounterWrap n) s = .next s) ∧
  (∀ (s : State) (n : Fin 32), s.wear.filters[n].count + 1 < 2 ^ 48 →
    (countOne n s).wear.filters[n].count = s.wear.filters[n].count + 1 ∧
    (countOne n s).wear.filters[n].ovf = s.wear.filters[n].ovf) ∧
  (∀ (s : State) (n : Fin 32), 2 ^ 48 ≤ s.wear.filters[n].count + 1 →
    (countOne n s).wear.filters[n].count = 0 ∧ (countOne n s).wear.filters[n].ovf = true) ∧
  (∀ (s : State) (n : Fin 32) (c : FilterCfg), (putFilter n c s).wear.filters[n].cfg = c ∧
    (putFilter n c s).wear.filters[n].count = c.preset ∧ (putFilter n c s).wear.filters[n].ovf = false) ∧
  (∀ (s : State) (n : Fin 32) (resume : Nat) (t : Fin 4), s.wear.filters[n].owed = true → owningTask s = some t →
    s.host.tasks[t].handler ≠ 0 →
    ∃ u, exec (.counterOverflowSignal n resume) s = .next u ∧ u.wear.filters[n].owed = false ∧
      u.host.tasks[t].frames = { counter := 0x0D000000 + n.val * 256, count := s.wear.filters[n].count,
                                 resume := resume } :: s.host.tasks[t].frames) ∧
  (∀ (s : State) (n : Fin 32) (resume : Nat) (t : Fin 4), s.wear.filters[n].owed = true → owningTask s = some t →
    s.host.tasks[t].handler = 0 →
    ∃ u, exec (.counterOverflowSignal n resume) s = .next u ∧ u.wear.filters[n].owed = false ∧
      u.host.signalsDropped = s.host.signalsDropped + 1 ∧ u.host.tasks = s.host.tasks) ∧
  (∀ (s : State) (n : Fin 32) (resume : Nat), s.wear.filters[n].owed = false →
    exec (.counterOverflowSignal n resume) s = .next s) ∧
  (∀ (s : State) (a : Fin 256) (row column : Nat),
    exec (.eccError a row column false none none) s = .next (correctedError a row column (countEcc 0x03 a s)) ∧
    exec (.eccError a row column true none none) s = .next (beginRepair a false row 3 (countEcc 0x04 a s))) ∧
  (∀ (s : State) (a : Fin 256) (row column cls unit : Nat), unitAt (countEcc 0x04 a s) cls unit = none →
    exec (.eccError a row column true (some (cls, unit)) none) s = .next (fatal (countEcc 0x04 a s))) ∧
  (∀ (s : State) (a : Fin 256) (row column cls unit : Nat),
    exec (.eccError a row column false (some (cls, unit)) none) s =
      .next (unitError cls unit (countEcc 0x03 a s))) ∧
  (∀ (s : State) (a : Fin 256) (column : Bool) (line cause : Nat), sparesOf (arrayOf s a) column = 0 →
    beginRepair a column line cause s = s) ∧
  (∀ (s : State) (a : Fin 256) (x : SramRepair), (arrayOf s a).repairs.find? (·.running) = some x →
    x.column = false →
    ∃ t, exec (.sramRepairComplete a) s = .next t ∧
      (∀ y ∈ (arrayOf t a).repairs, y.column = x.column → y.line = x.line → y.spare = x.spare →
        y.running = false) ∧
      (∀ e, t.wear.ledger.getLast? = some e → e.kind = 2 ∧ e.cls = 8 ∧ e.unit = a.val ∧ e.spare = x.spare ∧
        e.cause = x.cause)) ∧
  (∀ (s : State) (a : Fin 256), (arrayOf s a).repairs.find? (·.running) = none →
    exec (.sramRepairComplete a) s = .next s)

/-! ### Synthesis and outputs (06) -/

/-- 06 R181, R182, R184, R188: APLLs. A lock leaves UNLOCKED for LOCKED, or for FROZEN while its channel is FROZEN; a
slip holds it with cause SLIP and re-engages; a re-engagement that fails is UNLOCKED; the limiter stops the running
outputs of a held APLL before its ceiling and lets them go 1 ppm below it; an output in WAIT_ALIGN starts at an
aligned instant of a ready APLL. It rests on the model's choices of log entries 77 and 78. -/
def Obligations.ApllsLockSlipAndLimitTheirOutputs : Prop :=
  (∀ (s : State) (a : Fin 8), a.val ≠ 0 → s.power.inReset = false → s.synth.aplls[a].causeXo = false →
    s.synth.aplls[a].state = .unlocked → (∀ c, dpllOf s a = some c → s.ductus.dplls[c].state ≠ .frozen) →
    exec (.apllLock a) s = .next (setApll a .locked (s.modApll a fun y => { y with causeDpll := false }))) ∧
  (∀ (s : State) (a : Fin 8) (c : Fin 6), a.val ≠ 0 → s.power.inReset = false →
    s.synth.aplls[a].causeXo = false → s.synth.aplls[a].state = .unlocked → dpllOf s a = some c →
    s.ductus.dplls[c].state = .frozen →
    exec (.apllLock a) s = .next (setApll a .frozen (s.modApll a fun y => { y with causeDpll := true }))) ∧
  (∀ (s : State) (a : Fin 8), s.synth.aplls[a].state = .locked → exec (.apllLock a) s = .next s) ∧
  (∀ (s : State) (a : Fin 8), a.val ≠ 0 → s.power.inReset = false → s.synth.aplls[a].causeXo = false →
    s.synth.aplls[a].state = .frozen → s.synth.aplls[a].causeDpll = false →
    ∃ t, exec (.apllLock a) s = .next t ∧ t.synth.aplls[a].state = .locked ∧
      t.synth.aplls[a].causeSlip = false ∧ t.synth.aplls[a].engaging = false) ∧
  (∀ s : State, s.power.inReset = false → s.synth.aplls[(0 : Fin 8)].causeXo = false →
    s.synth.aplls[(0 : Fin 8)].state = .unlocked → s.clock.form = .stopped → s.clock.recovery = none →
    ∃ t, exec (.apllLock 0) s = .next t ∧ t.clock.form = .virtual ∧ t.clock.ticks = 0) ∧
  (∀ (s : State) (a : Fin 8), s.synth.aplls[a].state = .locked → a.val ≠ 0 →
    ∃ t, exec (.apllSlip a) s = .next t ∧ t.synth.aplls[a].state = .frozen ∧
      t.synth.aplls[a].causeSlip = true ∧ t.synth.aplls[a].engaging = true) ∧
  (∀ (s : State) (a : Fin 8), s.synth.aplls[a].state = .unlocked → exec (.apllSlip a) s = .next s) ∧
  (∀ (s : State) (a : Fin 8), s.synth.aplls[a].state = .frozen → s.synth.aplls[a].engaging = true →
    s.synth.aplls[a].causeXo = false → exec (.apllReengageTimeout a) s = .next (unlockApll a s)) ∧
  (∀ (s : State) (a : Fin 8), s.synth.aplls[a].engaging = false →
    exec (.apllReengageTimeout a) s = .next s) ∧
  (∀ (s : State) (a : Fin 8) (e : Nat), analogHold s.synth.aplls[a] = true → (excursionRef s).isSome = true →
    s.synth.aplls[a].limited = false → 10 * s.synth.aplls[a].cfg.ceiling ≤ e + 2 →
    exec (.limiterGate a e) s = .next (stopOutputs a (s.modApll a fun y => { y with limited := true }))) ∧
  (∀ (s : State) (a : Fin 8) (e : Nat), analogHold s.synth.aplls[a] = true → (excursionRef s).isSome = true →
    s.synth.aplls[a].limited = true → 1 ≤ s.synth.aplls[a].cfg.ceiling →
    e + 10 ≤ 10 * s.synth.aplls[a].cfg.ceiling →
    exec (.limiterGate a e) s = .next
      (restartOutputs a .running (s.modApll a fun y => { y with limited := false }))) ∧
  (∀ (s : State) (a : Fin 8) (e : Nat), analogHold s.synth.aplls[a] = false →
    exec (.limiterGate a e) s = .next s) ∧
  (∀ (s : State) (k : Fin 16), s.synth.ckouts[k].state = .waitAlign →
    s.synth.aplls[apllOf k].state ≠ .unlocked → s.synth.aplls[apllOf k].limited = false →
    (s.synth.ckouts[k].cfg.role = 0 ∨ counterForm s = true) →
    exec (.outputAlignedStart k) s = .next (setCkout k .running s)) ∧
  (∀ (s : State) (k : Fin 16), (s.synth.ckouts[k].state ≠ .waitAlign ∨
      s.synth.aplls[apllOf k].state = .unlocked ∨ s.synth.aplls[apllOf k].limited = true) →
    exec (.outputAlignedStart k) s = .next s)

/-- 06 R192 to R194, R197, R198, R201, 15 R421: REALIGN, steps, pulses and loopback checks. A channel that is FROZEN,
OFF or realigning is E_STATE; an item with nothing to move completes at once; a step enters the correction of its
output or clears the pending offset; slots that fire on one tick make one pulse; a check takes a channel and gives it
back. It rests on the model's choices of log entries 14, 75 and 76. -/
def Obligations.OutputsRealignStepAndPulse : Prop :=
  (∀ (s : State) (r : Req) (p : Pend) (c : Fin 6) (rate : Nat), r.len = 16 → ready 0x0403 r s = some p →
    6554 ≤ rate → rate ≤ 65536000 → s.ductus.dplls[c].state = .tracking → s.ductus.dplls[c].realign = none →
    s.ductus.dplls[c].misalign = 0 → (∀ k ∈ outputsOf s c 1, s.synth.ckouts[k].c = 0) →
    exec (.realign r (2 ^ c.val) 0 0 rate) s = .next (finish r.src stAccepted []
      (itemDone 0 c.val 0 (s.modSynth fun y => { y with jobs := y.jobs ++
        [⟨r.src, p.sequence, [(0, c.val)]⟩] })))) ∧
  (∀ (s : State) (r : Req) (p : Pend) (e : Fin 8) (rate : Nat), r.len = 16 → ready 0x0403 r s = some p →
    6554 ≤ rate → rate ≤ 65536000 → s.synth.evouts[e].pending ≠ 0 →
    ∃ t, exec (.realign r 0 (2 ^ e.val) 0 rate) s = .next (finish r.src stAccepted [] t) ∧
      t.synth.evouts[e].stepBy = some s.synth.evouts[e].pending ∧
      t.synth.jobs = s.synth.jobs ++ [⟨r.src, p.sequence, [(2, e.val)]⟩] ∧
      t.clock = s.clock ∧ t.ductus = s.ductus) ∧
  (∀ (s : State) (r : Req) (m e rate : Nat), Asks 0x0403 16 r s → m < 64 → 6554 ≤ rate → rate ≤ 65536000 →
    mayRealign s m = false → exec (.realign r m e 0 rate) s = .next (finish r.src eState [] s)) ∧
  (∀ (s : State) (m : Nat) (c : Fin 6), m / 2 ^ c.val % 2 = 1 →
    (s.ductus.dplls[c].state = .frozen ∨ s.ductus.dplls[c].state = .off ∨
      s.ductus.dplls[c].realign ≠ none) → mayRealign s m = false) ∧
  (∀ (s : State) (r : Req) (m e rate : Nat), Asks 0x0403 16 r s → (rate < 6554 ∨ 65536000 < rate) →
    exec (.realign r m e 0 rate) s = .next (finish r.src eRange [] s)) ∧
  (∀ (s : State) (c : Fin 6) (m : Int), ∃ k : Int, reduced s c m = m - rdiv (k * (alignUnit s c).1)
    (alignUnit s c).2) ∧
  (∀ (s : State) (c : Fin 6) (x : Realign), s.ductus.dplls[c].realign = some x → x.stepping = false →
    exec (.realignSlewEnd c) s = .next (endSlew c (settleSlew c s))) ∧
  (∀ (s : State) (c : Fin 6), s.ductus.dplls[c].realign = none → exec (.realignSlewEnd c) s = .next s) ∧
  (∀ (s : State) (e : Fin 8) (d : Int), s.synth.evouts[e].stepBy = some d →
    ∃ t, exec (.frameStep true e.val) s = .next t ∧ t = itemDone 2 e.val d (stepEvout e d s) ∧
      (stepEvout e d s).synth.evouts[e].pending = s.synth.evouts[e].pending - d ∧
      (stepEvout e d s).synth.evouts[e].stepBy = none) ∧
  (∀ (s : State) (k : Fin 16) (d : Int), s.synth.ckouts[k].stepBy = some d →
    (∃ t, exec (.frameStep false k.val) s = .next t) ∧
    (stepFrame k d s).synth.ckouts[k].c = s.synth.ckouts[k].c + d ∧
    (stepFrame k d s).synth.ckouts[k].stepBy = none ∧
    (0 ≤ d → (stepFrame k d s).synth.ckouts[k].omitted = s.synth.ckouts[k].omitted)) ∧
  (∀ (s : State) (e : Fin 8), counterForm s = true → slotDue s.synth.evouts[e].oneShot s.synth.evouts[e].pending
      (now s) = true →
    ∃ t, exec (.evoutPulse e) s = .next t ∧
      t.synth.evouts[e].pulses = (s.synth.evouts[e].pulses + 1) % 2 ^ 64 ∧
      t.synth.evouts[e].oneShot.program.enable = 0) ∧
  (∀ (s : State) (e : Fin 8), counterForm s = false → exec (.evoutPulse e) s = .next s) ∧
  (∀ (p : EvProgram) (pending : Int) (n : Nat), edgeAt p pending n = p.start + n * p.period - pending) ∧
  (∀ (s : State) (r : Req) (p : Pend) (e : Fin 8) (n : Nat) (tol : Int) (c : Fin 24) (t : State), r.len = 16 →
    ready 0x0406 r s = some p → 16 ≤ n → n ≤ 2 ^ 24 → 0 ≤ tol →
    takeChannel ownLoopback (0x20 + e.val) (0x20 + e.val) 0 s = some (c, t) →
    exec (.loopbackCheck r (0x20 + e.val) n tol) s = .next (finish r.src stAccepted []
      (t.modSynth fun y => { y with checks := y.checks ++ [⟨0x20 + e.val, c, tol, r.src, p.sequence⟩] }))) ∧
  (∀ (s : State) (r : Req) (e : Fin 8) (n : Nat) (tol : Int), Asks 0x0406 16 r s → 16 ≤ n → n ≤ 2 ^ 24 →
    0 ≤ tol → takeChannel ownLoopback (0x20 + e.val) (0x20 + e.val) 0 s = none →
    exec (.loopbackCheck r (0x20 + e.val) n tol) s = .next (finish r.src eNoSpace [] s)) ∧
  (∀ (s : State) (source : Nat) (k : Loopback) (mean std : Int),
    s.synth.checks.find? (fun k => decide (k.source = source)) = some k →
    ∃ u, exec (.loopbackComplete source mean std) s = .next (completeCmd 0x0406 k.seq stOk k.from_
        (raise 0x0408 (source + flag (decide ((mean.natAbs : Int) ≤ k.tolerance)) 8) (toCode 64 mean) u)) ∧
      u.synth.lastCheck = some (source, mean, std, decide ((mean.natAbs : Int) ≤ k.tolerance)) ∧
      u.synth.checks = s.synth.checks.erase k) ∧
  (∀ (s : State) (r : Req), Asks 0x0410 0 r s →
    exec (.outputStatus r) s = .next (finish r.src stOk (outputRecord s) s))

/-! ### Ethernet ports and steering (09) -/

/-- 09 R251, R252, R255, R256, R258, R262, R263, 15 R422: ports. PORT_MODE changes only with every MAC OFF; VLAN lists
and steering rules replace the held ones whole; a link up is UP and raises its event; a link that goes down is DOWN
with its reason and drops what was to leave by it; a lane-skew change is counted and raised; port-status returns the
state and the counters. It rests on the model's choices of log entries 6, 85 and 155. -/
def Obligations.PortsFollowTheirLinkAndTables : Prop :=
  (∀ (s : State) (r : Req) (mode : Nat), Asks 0x0501 1 r s → mode ≤ 4 → (∀ m : Fin 16, s.net.macs[m].state = .off) →
    ∃ t, exec (.portMode r mode) s = .next (finish r.src stOk [] t) ∧ t.net.portMode = mode ∧
      (∀ m : Fin 16, t.net.macs[m].state = .off) ∧
      (∀ m : Fin 16, macPresent t m = true →
        t.net.macs[m].cfg = modeDefaults mode m s.net.macs[m].cfg ∧ t.net.macs[m].cfg.split = 0)) ∧
  (∀ (s : State) (r : Req) (mode : Nat), Asks 0x0501 1 r s → 4 < mode →
    exec (.portMode r mode) s = .next (finish r.src eRange [] s)) ∧
  (∀ (s : State) (r : Req) (mode : Nat) (m : Fin 16), Asks 0x0501 1 r s → mode ≤ 4 → s.net.macs[m].state ≠ .off →
    exec (.portMode r mode) s = .next (finish r.src eState [] s)) ∧
  (∀ (s : State) (r : Req) (m : Fin 16) (l : List VlanEntry), Asks 0x0503 (8 + 4 * l.length) r s →
    macIndex s m.val = some m → l.length ≤ 64 →
    (∀ e ∈ l, e.outer < 4096 ∧ e.inner.getD 0 < 4096) →
    exec (.vlanList r m.val l) s = .next (finish r.src stOk [] (s.modMac m fun c => { c with vlans := l }))) ∧
  (∀ (s : State) (r : Req) (m : Nat) (l : List VlanEntry), Asks 0x0503 (8 + 4 * l.length) r s →
    macIndex s m = none → exec (.vlanList r m l) s = .next (finish r.src eRange [] s)) ∧
  (∀ (s : State) (r : Req) (l : List SteerRule), Asks 0x0504 (8 + 16 * l.length) r s → l.length ≤ 64 →
    l.all steerOk = true →
    exec (.steeringTable r l) s = .next (finish r.src stOk [] (s.modNet fun n => { n with steering := l }))) ∧
  (∀ (s : State) (r : Req) (l : List SteerRule), Asks 0x0504 (8 + 16 * l.length) r s →
    (64 < l.length ∨ l.all steerOk = false) →
    exec (.steeringTable r l) s = .next (finish r.src eRange [] s)) ∧
  (∀ (s : State) (r : Req) (m : Fin 16), Asks 0x0510 1 r s → macIndex s m.val = some m →
    ∃ body, exec (.portStatus r m.val) s = .next (finish r.src stOk body s) ∧ body.length = 152 ∧
      body.take 2 = le 1 (macCode s.net.macs[m].state) ++ le 1 s.net.macs[m].downReason ∧
      body.drop 8 = s.net.macs[m].counters.toList.flatMap (le 8)) ∧
  (∀ (s : State) (r : Req) (m : Nat), Asks 0x0510 1 r s → macIndex s m = none →
    exec (.portStatus r m) s = .next (finish r.src eRange [] s)) ∧
  (∀ (s : State) (m : Fin 16), s.net.macs[m].state = .down →
    exec (.linkUp m) s = .next (raise 0x0501 m.val 0 ((freshNat s).2.modMac m fun c =>
      { c with state := .up, markers := some (freshNat s).1 }))) ∧
  (∀ (s : State) (m : Fin 16), s.net.macs[m].state ≠ .down → exec (.linkUp m) s = .next s) ∧
  (∀ (s : State) (m : Fin 16) (reason : Nat), s.net.macs[m].state = .up → reason ≤ 4 →
    ∃ t, exec (.linkDown m reason) s = .next t ∧ t.net.macs[m].state = .down ∧
      t.net.macs[m].downReason = reason ∧ t.net.macs[m].tx = none ∧ t.net.macs[m].calendar = [] ∧
      (∀ q ∈ t.net.nts.requests, q.frame.mac ≠ m) ∧ (∀ q ∈ t.net.ptp.requests, q.frame.mac ≠ m) ∧
      (∀ q : Fin 32, t.net.macs[m].queues[q].frames = [])) ∧
  (∀ (s : State) (m : Fin 16) (reason : Nat), s.net.macs[m].state ≠ .up →
    exec (.linkDown m reason) s = .next s) ∧
  (∀ (s : State) (m : Fin 16) (lane : Nat) (skew : Int), s.net.macs[m].state = .up → 0 < lane →
    lane < lanesOf s m → (assoc s.net.macs[m].skew lane).getD 0 ≠ skew →
    exec (.laneSkewChange m lane skew) s = .next (raise 0x0503 (m.val + lane * 256) (toCode 64 skew)
      (countMac m cSkewChange (s.modMac m fun x => { x with skew := assocSet x.skew lane skew })))) ∧
  (∀ (s : State) (m : Fin 16) (k : Fin 18),
    (countMac m k s).net.macs[m].counters[k] = (s.net.macs[m].counters[k] + 1) % 2 ^ 64 ∧
    (∀ j, j ≠ k → (countMac m k s).net.macs[m].counters[j] = s.net.macs[m].counters[j]) ∧
    (∀ n, n ≠ m → (countMac m k s).net.macs[n] = s.net.macs[n]))

/-- 09 R261, R266 to R271: pause frames, the pause budget and LPI. The first check that fails drops the frame under
its reason; a frame of the wrong kind raises 0x0511; a PAUSE frame fixes a window 64 ns on for all queues; windows
open and close at their instants; an exhausted budget closes them and ignores frames to the end of the second. It
rests on the model's choices of log entries 28, 30, 83, 84 and 174. -/
def Obligations.PauseFramesAndLpiFollowTheirRules : Prop :=
  (∀ (s : State) (m : Fin 16) (p : PauseFrame), s.net.macs[m].state ≠ .up → exec (.pauseFrame m p) s = .next s) ∧
  (∀ (s : State) (m : Fin 16) (p : PauseFrame), s.net.macs[m].state = .up → p.pcsError = true →
    exec (.pauseFrame m p) s = .next (dropFrame m rPcs s)) ∧
  (∀ (s : State) (m : Fin 16) (p : PauseFrame), s.net.macs[m].state = .up → p.pcsError = false →
    p.fcsOk = false → exec (.pauseFrame m p) s = .next (dropFrame m rFcs s)) ∧
  (∀ (s : State) (m : Fin 16) (p : PauseFrame), s.net.macs[m].state = .up → p.pcsError = false → p.fcsOk = true →
    64 ≤ p.length → p.length ≤ s.net.macs[m].cfg.maxFrame → daOk s.net.macs[m].cfg p.da 0x8808 = true →
    exec (.pauseFrame m p) s = .next (dropFrame m rMacControl (takePause m p s))) ∧
  (∀ (s : State) (m : Fin 16) (p : PauseFrame), p.opcode ≠ 0x0001 → p.opcode ≠ 0x0101 →
    takePause m p s = raise 0x0511 m.val p.opcode s) ∧
  (∀ (s : State) (m : Fin 16) (p : PauseFrame), (p.opcode = 0x0001 ∨ p.opcode = 0x0101) →
    s.net.macs[m].cfg.pauseMode = 0 → takePause m p s = s) ∧
  (∀ (s : State) (m : Fin 16) (p : PauseFrame), p.opcode = 0x0001 → s.net.macs[m].cfg.pauseMode = 1 →
    p.da = pauseAddress → s.net.macs[m].budgetOut = true →
    takePause m p s = countMac m cOverBudget s) ∧
  (∀ (s : State) (m : Fin 16) (p : PauseFrame), p.opcode = 0x0001 → s.net.macs[m].cfg.pauseMode = 1 →
    p.da = pauseAddress → s.net.macs[m].budgetOut = false →
    takePause m p s = fixWindow m 0 (2 ^ 32 - 1) p.time s) ∧
  (∀ (s : State) (m : Fin 16) (cls queues time : Nat), 0 < time →
    ∃ w, (fixWindow m cls queues time s).net.macs[m].windows.getLast? = some w ∧ w.cls = cls ∧
      w.queues = queues ∧ w.opening = physNow s + 64 * calNs ∧
      w.closing = w.opening + time * quantum s m ∧ w.opened = false) ∧
  (∀ (s : State) (m : Fin 16) (c : Fin 8), (∀ w ∈ s.net.macs[m].windows, w.cls = c.val → w.opened = true ∨
      physNow s < w.opening) → exec (.pauseWindowOpen m c) s = .next s) ∧
  (∀ (s : State) (m : Fin 16) (c : Fin 8) (w : PauseWin), s.net.macs[m].windows = [w] → w.cls = c.val →
    w.opened = false → w.opening ≤ physNow s → s.net.macs[m].calendar = [] →
    ∃ t, exec (.pauseWindowOpen m c) s = .next t ∧
      t.net.macs[m].windows = [{ w with opened := true }] ∧
      t.net.macs[m].pausedFrom = some (s.net.macs[m].pausedFrom.getD w.opening)) ∧
  (∀ (s : State) (m : Fin 16) (c : Fin 8),
    ∃ t, exec (.pauseWindowClose m c) s = .next t ∧
      t.net.macs[m].windows = s.net.macs[m].windows.filter (fun w =>
        !(decide (w.cls = c.val) && decide (w.closing ≤ physNow s)))) ∧
  (∀ (s : State) (m : Fin 16), s.net.macs[m].budgetOut = false → s.net.macs[m].cfg.pauseBudget < 1000 →
    0 < pausedSoFar s m → s.net.macs[m].cfg.pauseBudget * 1000000 * calNs ≤ pausedSoFar s m →
    ∃ t, exec (.pauseBudgetExhausted m) s = .next t ∧ t.net.macs[m].budgetOut = true ∧
      t.net.macs[m].windows = [] ∧ t.net.macs[m].pausedSec = nowSec s) ∧
  (∀ (s : State) (m : Fin 16), pausedSoFar s m < s.net.macs[m].cfg.pauseBudget * 1000000 * calNs →
    exec (.pauseBudgetExhausted m) s = .next s) ∧
  (∀ (s : State) (m : Fin 16), s.net.macs[m].budgetOut = true → s.net.macs[m].pausedSec ≠ nowSec s →
    exec (.pauseBudgetRestore m) s =
      .next (raise 0x0505 m.val 0 (s.modMac m fun x => { x with budgetOut := false }))) ∧
  (∀ (s : State) (m : Fin 16), s.net.macs[m].pausedSec = nowSec s →
    exec (.pauseBudgetRestore m) s = .next s) ∧
  (∀ (s : State) (m : Fin 16), s.net.macs[m].state = .up → s.net.macs[m].cfg.lpiTx = 1 →
    s.net.macs[m].lpi = .active → (∀ q : Fin 32, s.net.macs[m].queues[q].frames = []) →
    (∀ q : Fin 32, s.net.macs[m].queues[q].emptyAt + s.net.macs[m].cfg.lpiIdle ≤ s.clock.ticks.toNat) →
    s.net.macs[m].tx = none → s.net.macs[m].calendar = [] →
    gateOpensIn s.net.macs[m] (calNow s + (s.net.macs[m].cfg.twTx + s.net.macs[m].cfg.lpiIdle) * calNs)
      (gateFuel s.net.macs[m]) (calNow s) = false →
    exec (.lpiEntry m) s = .next (s.modMac m fun x => { x with lpi := .asleep })) ∧
  (∀ (s : State) (m : Fin 16), s.net.macs[m].cfg.lpiTx ≠ 1 → exec (.lpiEntry m) s = .next s) ∧
  (∀ (s : State) (m : Fin 16), s.net.macs[m].lpi = .asleep →
    exec (.lpiWake m) s = .next (s.modMac m fun x =>
      { x with lpi := .waking, lpiReady := calNow s + s.net.macs[m].cfg.twTx * calNs })) ∧
  (∀ (s : State) (m : Fin 16), s.net.macs[m].lpi ≠ .asleep → exec (.lpiWake m) s = .next s)

/-! ### Egress (10; 14 R395, R397) and reception (09 R261 to R264) -/

/-- 10 R287 to R293, 14 R395, 07 R228, R229: gate lists, host frames and the life of a frame. An accepted gate list
waits for its start, which the next whole cycle gives where the base has passed; a timed frame leaves at its instant
or is re-committed once and then dropped; an untimed one leaves by the scheduler's choice; each end is reported. It
rests on the model's choices of log entries 28, 31, 91, 94, 95 and 96. -/
def Obligations.EgressActsAsItsRulesSay : Prop :=
  (∀ (s : State) (r : Req) (m : Fin 16) (cycle : Nat) (base : ZT128) (l : List GateEntry),
    Asks 0x0507 (24 + 8 * l.length) r s → macPresent s m = true → 1000 ≤ cycle → cycle ≤ 1000000000 →
    l.length ≤ 1024 → ztValid base = true → l.all gateEntryOk = true →
    exec (.gateList r m.val cycle base l) s = .next (finish r.src stOk [] (acceptGate m
      ⟨gateStart (ztUnits base) cycle (now s + ns16 2000), cycle, l⟩ (now s + ns16 2000) s))) ∧
  (∀ base cycle from_ : Nat, 0 < cycle → from_ ≤ gateStart base cycle from_ ∧
    (from_ ≤ base → gateStart base cycle from_ = base) ∧
    (base < from_ → gateStart base cycle from_ < from_ + ns16 cycle ∧
      (gateStart base cycle from_ - base) % ns16 cycle = 0)) ∧
  (∀ (s : State) (m : Fin 16) (l : GateList) (ls : List GateList), s.net.macs[m].nextGates = l :: ls →
    clockRuns s = true → l.start * calZt ≤ calNow s →
    exec (.gateListStart m) s = .next (raiseAt 0x0521 m.val 0 l.start
      (s.modMac m fun c => { c with gate := l, nextGates := ls }))) ∧
  (∀ (s : State) (m : Fin 16), s.net.macs[m].nextGates = [] → exec (.gateListStart m) s = .next s) ∧
  (∀ (s : State) (m : Fin 16), exec (.gateEntryBoundary m) s = .next s) ∧
  (∀ (s : State) (r : Req) (m : Fin 16), Asks 0x0511 1 r s → macPresent s m = true →
    ∃ body, exec (.egressStatus r m.val) s = .next (finish r.src stOk body s) ∧ body.length = 1608 ∧
      body.take 48 = queueStatus s s.net.macs[m] 0) ∧
  (∀ (s : State) (r : Req) (m : Nat), Asks 0x0511 1 r s → 16 ≤ m →
    exec (.egressStatus r m) s = .next (finish r.src eRange [] s)) ∧
  (∀ (s : State) (m : Fin 16) (id : Nat) (x : Reservation), findRes s m id = some x → counterForm s = true →
    x.t ≤ calNow s + 14 * calNs →
    exec (.sealDeadlineMissed m id) s = .next (missSlot m x 0 false s)) ∧
  (∀ (s : State) (m : Fin 16) (id : Nat) (x : Reservation), findRes s m id = some x →
    calNow s + 14 * calNs < x.t → exec (.sealDeadlineMissed m id) s = .next s) ∧
  (∀ (s : State) (m : Fin 16) (x : Reservation) (after : Nat) (p : Bool), x.recommitted = true →
    missSlot m x after p s = countLate m (dropReservation m x (if p then ocPause else ocLate) s)) ∧
  (∀ (s : State) (m : Fin 16) (id : Nat) (x : Reservation), findRes s m id = some x → counterForm s = true →
    s.net.macs[m].tx = none → s.net.macs[m].state = .up → x.start < calNow s + calNs →
    pausedAt s s.net.macs[m] x.queue x.start = none →
    ∃ t l, exec (.strokeLaunch m id) s = .next t ∧ t = launch m x s ∧
      t.net.macs[m].tx = some (.timed x l) ∧ l.stamp = (if x.reply.kind = 8 then egressStamp s m x.t
        else x.reply.stamp) ∧ (∀ y ∈ t.net.macs[m].calendar, y.id ≠ x.id) ∧
      t.net.macs[m].queues[x.queue].framesSent =
        (s.net.macs[m].queues[x.queue].framesSent + 1) % 2 ^ 64) ∧
  (∀ (s : State) (m : Fin 16) (id : Nat), s.net.macs[m].tx ≠ none → exec (.strokeLaunch m id) s = .next s) ∧
  (∀ (s : State) (ring : Fin 64) (d : TxDesc) (m : Fin 16) (q : Fin 32), s.host.tx[ring].enabled = true →
    s.host.tx[ring].held = none → s.host.tx[ring].fetched ≠ s.host.tx[ring].tail % 2 ^ s.host.tx[ring].size →
    hostReachable s = true → descMac (takeDesc ring s) d = some m → isTimed d = false →
    s.host.tx[ring].useQueue = q.val →
    exec (.transmitDescriptor ring d) s = .next (pushFrame m q
      { length := d.length + 4, origin := .ring ring s.host.tx[ring].fetched, data := d.octets } (takeDesc ring s))) ∧
  (∀ (s : State) (ring : Fin 64) (d : TxDesc), s.host.tx[ring].enabled = true →
    s.host.tx[ring].held = none → s.host.tx[ring].fetched ≠ s.host.tx[ring].tail % 2 ^ s.host.tx[ring].size →
    hostReachable s = true → descMac (takeDesc ring s) d = none →
    exec (.transmitDescriptor ring d) s = .next (hostDrop (.ring ring s.host.tx[ring].fetched) d.mac
      (d.length + 4) 0 ocDescriptor (takeDesc ring s))) ∧
  (∀ (s : State) (ring : Fin 64) (d : TxDesc), s.host.tx[ring].enabled = false →
    exec (.transmitDescriptor ring d) s = .next s) ∧
  (∀ (s : State) (ring : Fin 64) (i : Nat) (d : TxDesc) (m : Fin 16) (t : State),
    s.host.tx[ring].held = some (i, d) → counterForm s = true → descMac s d = some m →
    reserveDesc ring i m d s = some t →
    exec (.hostTimedReserve ring) s = .next (t.modTx ring fun k => { k with held := none })) ∧
  (∀ (s : State) (ring : Fin 64), s.host.tx[ring].held = none → exec (.hostTimedReserve ring) s = .next s) ∧
  (∀ (s u : State) (m : Fin 16) (cls : Nat) (q : Fin 32) (f : QFrame) (fs : List QFrame), clockRuns s = true →
    s.net.macs[m].state = .up → s.net.macs[m].tx = none → awake s m = true →
    chooseFrame m (dropHeads m s) = some (cls, q, u) → u.net.macs[m].queues[q].frames = f :: fs →
    ∃ t l, exec (.untimedFrameStart m) s = .next t ∧
      t.net.macs[m].tx = some (.untimed q f (startNow u m) l) ∧ t.net.macs[m].queues[q].frames = fs) ∧
  (∀ (s : State) (m : Fin 16), s.net.macs[m].state ≠ .up → exec (.untimedFrameStart m) s = .next s) ∧
  (∀ (s : State) (m : Fin 16) (q : Fin 32) (f : QFrame) (a : Nat) (l : Latched),
    s.net.macs[m].tx = some (.untimed q f a l) →
    exec (.frameTransmitted m) s = .next (hostReport f.origin m.val f.length 0 ocSent l
      (s.modMac m fun c => { c with tx := none }))) ∧
  (∀ (s : State) (m : Fin 16) (x : Reservation) (l : Latched), s.net.macs[m].tx = some (.timed x l) →
    isHost x.origin = true →
    exec (.frameTransmitted m) s = .next (hostReport x.origin m.val x.length (askedOf x)
      (if x.recommitted then ocRecommitted else ocSent) l (s.modMac m fun c => { c with tx := none }))) ∧
  (∀ (s : State) (m : Fin 16), s.net.macs[m].tx = none → exec (.frameTransmitted m) s = .next s)

/-- 10 R275 to R277, R279, R289, 09 R268: the slot that the calendar grants is on the grid of the port, at most 1 ms
away, meets no reservation that the calendar holds and no marker occupancy, lies in an open gate and not in a pause
window; it is never before what was asked, where no gate list has a cycle of 0 ns. It rests on the model's choices of
log entries 28 and 155. -/
def Obligations.AGrantedSlotMeetsNoOther : Prop :=
  ∀ (s t : State) (a : Ask) (c : Nat), reserve a s = some (c, t) →
    c ≤ calNow s + 1000000 * calNs ∧
    (∃ k, c = s.net.macs[a.mac].gridPhase + k * grid s a.mac) ∧
    (∀ x ∈ s.net.macs[a.mac].calendar, x.stop ≤ c - grid s a.mac ∨
      c - grid s a.mac + occupancy s a.mac a.length ≤ x.start) ∧
    markerEnd s a.mac (c - grid s a.mac) (c - grid s a.mac + occupancy s a.mac a.length) = none ∧
    gateFits s.net.macs[a.mac] a.queue.val (c - grid s a.mac) (occupancy s a.mac a.length) = true ∧
    pausedAt s s.net.macs[a.mac] a.queue (c - grid s a.mac) = none ∧
    ((∀ l, l = s.net.macs[a.mac].gate ∨ l ∈ s.net.macs[a.mac].nextGates → l.entries ≠ [] → l.cycle ≠ 0) →
      a.tReq ≤ c) ∧
    ∃ x, t.net.macs[a.mac].calendar = s.net.macs[a.mac].calendar ++ [x] ∧ x.t = c ∧
      x.start = c - grid s a.mac ∧ x.stop = c - grid s a.mac + occupancy s a.mac a.length ∧
      x.queue = a.queue ∧ x.recommitted = a.recommitted

/-- 09 R261 to R264, 14 R397: a received frame. The first check that fails drops it under its own reason, in the order
of the table; a frame of no service goes to the ring that the first steering rule names, or to DEFAULT_RING; the ring
then holds it with its stamp; a MAC control frame is
handled by R266 and dropped. It rests on the model's choices of log entries 31, 83, 85, 89, 90 and 108. -/
def Obligations.ReceivedFramesPassTheirChecksInOrder : Prop :=
  (∀ (s : State) (f : Frame), s.net.macs[f.mac].state ≠ .up → exec (.frameReceived f) s = .next s) ∧
  (∀ (s : State) (f : Frame), s.net.macs[f.mac].state = .up → f.pcsError = true →
    exec (.frameReceived f) s = .next (dropFrame f.mac rPcs s)) ∧
  (∀ (s : State) (f : Frame), s.net.macs[f.mac].state = .up → f.pcsError = false → f.fcsOk = false →
    exec (.frameReceived f) s = .next (dropFrame f.mac rFcs s)) ∧
  (∀ (s : State) (f : Frame), s.net.macs[f.mac].state = .up → f.pcsError = false → f.fcsOk = true →
    f.length < 64 → exec (.frameReceived f) s = .next (dropFrame f.mac rRunt s)) ∧
  (∀ (s : State) (f : Frame), s.net.macs[f.mac].state = .up → f.pcsError = false → f.fcsOk = true →
    64 ≤ f.length → s.net.macs[f.mac].cfg.maxFrame < f.length →
    exec (.frameReceived f) s = .next (dropFrame f.mac rOversize s)) ∧
  (∀ (s : State) (f : Frame), s.net.macs[f.mac].state = .up → f.pcsError = false → f.fcsOk = true →
    64 ≤ f.length → f.length ≤ s.net.macs[f.mac].cfg.maxFrame →
    daOk s.net.macs[f.mac].cfg f.da f.etherType = false →
    exec (.frameReceived f) s = .next (dropFrame f.mac rDaMiss s)) ∧
  (∀ (s : State) (f : Frame), s.net.macs[f.mac].state = .up → f.pcsError = false → f.fcsOk = true →
    64 ≤ f.length → f.length ≤ s.net.macs[f.mac].cfg.maxFrame →
    daOk s.net.macs[f.mac].cfg f.da f.etherType = true → f.etherType ≠ 0x8808 → 2 < (realTags f).length →
    exec (.frameReceived f) s = .next (dropFrame f.mac rTagExcess s)) ∧
  (∀ (s : State) (f : Frame), s.net.macs[f.mac].state = .up → f.pcsError = false → f.fcsOk = true →
    64 ≤ f.length → f.length ≤ s.net.macs[f.mac].cfg.maxFrame →
    daOk s.net.macs[f.mac].cfg f.da f.etherType = true → f.etherType ≠ 0x8808 → (realTags f).length ≤ 2 →
    vlanEntry s.net.macs[f.mac] (realTags f) = none →
    exec (.frameReceived f) s = .next (dropFrame f.mac rVlanMiss s)) ∧
  (∀ (s : State) (f : Frame) (entry : Nat), s.net.macs[f.mac].state = .up → f.pcsError = false → f.fcsOk = true →
    64 ≤ f.length → f.length ≤ s.net.macs[f.mac].cfg.maxFrame →
    daOk s.net.macs[f.mac].cfg f.da f.etherType = true → f.etherType ≠ 0x8808 → (realTags f).length ≤ 2 →
    vlanEntry s.net.macs[f.mac] (realTags f) = some entry → serviceOf s f entry = none →
    exec (.frameReceived f) s = .next (rxHost f entry s)) ∧
  (∀ (s : State) (f : Frame) (entry : Nat) (v : Service) (ip : IpHdr) (u : UdpHdr),
    s.net.macs[f.mac].state = .up → f.pcsError = false → f.fcsOk = true → 64 ≤ f.length →
    f.length ≤ s.net.macs[f.mac].cfg.maxFrame →
    daOk s.net.macs[f.mac].cfg f.da f.etherType = true → f.etherType ≠ 0x8808 → (realTags f).length ≤ 2 →
    vlanEntry s.net.macs[f.mac] (realTags f) = some entry → serviceOf s f entry = some (v, ip, u) →
    exec (.frameReceived f) s = .next (rxService v f ip u s)) ∧
  (∀ (s : State) (f : Frame) (entry : Nat), (∀ x ∈ s.net.steering, steerMatch f entry x = false) →
    steer s f entry = (s.net.macs[f.mac].cfg.defaultRing, 0xFF)) ∧
  (∀ (s : State) (f : Frame) (entry k : Nat) (x : SteerRule), s.net.steering[k]? = some x →
    steerMatch f entry x = true → (∀ j, j < k → ∀ y, s.net.steering[j]? = some y → steerMatch f entry y = false) →
    steer s f entry = (x.ring, k)) ∧
  (∀ (s : State) (f : Frame) (entry ring rule : Nat) (r : Fin 64), hostBufferFull s f.length = false →
    steer s f entry = (ring, rule) → (64 ≤ ring → rxHost f entry s = dropFrame f.mac rNoRule s) ∧
    (ring = r.val → rxDescriptor s r = none → rxHost f entry s = dropFrame f.mac rRingFull s) ∧
    (∀ i, ring = r.val → rxDescriptor s r = some i → rxHost f entry s = rxDeliver r i f rule s)) ∧
  (∀ (s : State) (r : Fin 64) (i : Nat) (f : Frame) (rule : Nat),
    ∃ wb, (rxDeliver r i f rule s).host.rx[r].lastRx = some wb ∧ wb.index = i ∧ wb.mac = f.mac.val ∧
      wb.rule = rule ∧ wb.stamp = ingressStamp s f.mac (stampAt s f.sub) ∧ wb.epoch = s.clock.epoch ∧
      (rxDeliver r i f rule s).host.rx[r].head = (i + 1) % 2 ^ s.host.rx[r].size ∧
      (rxDeliver r i f rule s).net = s.net) ∧
  (∀ (s : State) (m : Fin 16) (k : Fin 13), ∃ t, dropFrame m k s = t ∧
    t.net.macs[m].counters[k.castLE (show 13 ≤ 18 by omega)] =
      (s.net.macs[m].counters[k.castLE (show 13 ≤ 18 by omega)] + 1) % 2 ^ 64 ∧
    (∀ n, n ≠ m → t.net.macs[n].counters = s.net.macs[n].counters)) ∧
  (∀ (s : State) (f : Frame), s.net.macs[f.mac].state = .up → f.pcsError = false → f.fcsOk = true →
    64 ≤ f.length → f.length ≤ s.net.macs[f.mac].cfg.maxFrame →
    daOk s.net.macs[f.mac].cfg f.da f.etherType = true → f.etherType = 0x8808 →
    exec (.frameReceived f) s = .next (dropFrame f.mac rMacControl (takePause f.mac (asPause f) s)))


/-! ### The NTS service (11) -/

/-- 11 R302 to R307, R313: cookie master keys. rotate-now draws a key and waits for the second after next; a key goes
PENDING, CURRENT, RETIRING and is zeroised at RETIRE_AT; an invalidated key is gone with the answers that read it;
minting is one command at a time; the policing banks swap; status returns the generations and counters. It rests on
the model's choices of log entries 4, 14, 102, 103, 104, 105 and 106. -/
def Obligations.CookieKeysFollowTheirLife : Prop :=
  (∀ (s : State) (r : Req) (p : Pend), r.len = 0 → ready 0x0603 r s = some p → serviceState s = true →
    ownsRotation s = true → hasPending s = true →
    exec (.rotateNow r) s = .next (finish r.src stAccepted [] (modRotation
      (fun x => { x with asked := x.asked ++ [(now s + secUnit, r.src, p.sequence)] }) s))) ∧
  (∀ (s : State) (r : Req) (p : Pend), r.len = 0 → ready 0x0603 r s = some p → serviceState s = true →
    ownsRotation s = true → hasPending s = false → s.keys.entropyFail = false →
    ∃ t, exec (.rotateNow r) s = .next (finish r.src stAccepted [] t) ∧ t = modRotation
      (fun x => { x with asked := x.asked ++ [(now (newKey 1 s) + secUnit, r.src, p.sequence)] }) (newKey 1 s)) ∧
  (∀ (s : State) (r : Req), Asks 0x0603 0 r s → serviceState s = false →
    exec (.rotateNow r) s = .next (finish r.src eState [] s)) ∧
  (∀ (s : State) (r : Req), Asks 0x0603 0 r s → serviceState s = true → ownsRotation s = false →
    exec (.rotateNow r) s = .next (finish r.src eStack [] s)) ∧
  (∀ (s : State) (r : Req), Asks 0x0603 0 r s → serviceState s = true → ownsRotation s = true →
    hasPending s = false → s.keys.entropyFail = true →
    exec (.rotateNow r) s = .next (finish r.src eHw [] s)) ∧
  (∀ (s : State) (r : Req) (id : Nat) (g : Fin 8), Asks 0x0604 4 r s → ownsRotation s = true →
    genOf s id = some g → exec (.invalidateKey r id) s = .next (finish r.src stOk [] (invalidate g s))) ∧
  (∀ (s : State) (r : Req) (id : Nat), Asks 0x0604 4 r s → ownsRotation s = true → genOf s id = none →
    exec (.invalidateKey r id) s = .next (finish r.src eKey [] s)) ∧
  (∀ (s : State) (id : Nat) (m : Fin 16), (∀ x ∈ (discardReaders id s).net.macs[m].calendar,
      readsKey id x = false) ∧
    (discardReaders id s).net.nts.inflightDropped = (s.net.nts.inflightDropped + keyReaders s id) % 2 ^ 64) ∧
  (∀ (s : State) (g : Fin 8), (dropGen g s).net.nts.gens[g] = {} ∧
    (∀ b ∈ (dropGen g s).net.nts.bases, b.slot = genSlot g → b.keyId ≠ s.net.nts.gens[g].keyId)) ∧
  (∀ (s : State) (r : Req) (p : Pend) (n : Nat), r.len = 2 → ready 0x0605 r s = some p → 1 ≤ n → n ≤ 256 →
    serviceState s = true → s.net.nts.mint = none →
    exec (.cookieMint r n) s = .next (finish r.src stAccepted []
      (s.modNts fun x => { x with mint := some (n, r.src, p.sequence) }))) ∧
  (∀ (s : State) (r : Req) (n : Nat), Asks 0x0605 2 r s → (n = 0 ∨ 256 < n) →
    exec (.cookieMint r n) s = .next (finish r.src eRange [] s)) ∧
  (∀ (s : State) (r : Req) (n : Nat), Asks 0x0605 2 r s → 1 ≤ n → n ≤ 256 → s.net.nts.mint ≠ none →
    exec (.cookieMint r n) s = .next (finish r.src eState [] s)) ∧
  (∀ (s : State) (n q : Nat) (src : Source), s.net.nts.mint = some (n, src, q) →
    ∃ u total, exec .mintComplete s = .next (completeCmd 0x0605 q stOk src (raise 0x0606 n total
      (u.modNts fun x => { x with mint := none }))) ∧
      (total, u) = (List.range n).foldl (fun acc i => mintEntry i acc) (0, s)) ∧
  (∀ s : State, s.net.nts.mint = none → exec .mintComplete s = .next s) ∧
  (∀ (s : State) (r : Req) (i : Fin 64), Asks 0x0610 1 r s →
    ∃ body, exec (.ntsStatus r i.val) s = .next (finish r.src stOk body s) ∧ body.length = 304 ∧
      body.take 128 = (fins 8).flatMap (genRecord s) ∧
      body.drop 128 = (ntsCounters s i).flatMap (le 8)) ∧
  (∀ (s : State) (r : Req) (a : Nat), Asks 0x0610 1 r s → 64 ≤ a →
    exec (.ntsStatus r a) s = .next (finish r.src eRange [] s)) ∧
  (∀ s : State, ∃ t, exec .policingBankSwap s = .next t ∧ t.net.nts.sketch = [] ∧
    t.net.nts.sketchOld = s.net.nts.sketch ∧ (∀ p : Fin 8, t.net.nts.profiles[p].kods = 0 ∧
      t.net.nts.profiles[p].naks = 0 ∧ t.net.nts.profiles[p].cfg = s.net.nts.profiles[p].cfg)) ∧
  (∀ s : State, s.host.supervisor = true → counterForm s = false →
    exec .rotationCheck s = .next (modRotation (fun x => { x with instant := none }) s)) ∧
  (∀ s : State, s.host.supervisor = true → counterForm s = true → instantNow s ≠ nowSec s →
    (ownsRotation s && serviceState s) = false →
    exec .rotationCheck s = .next (modRotation (fun x => { x with instant := some (instantNow s) }) s)) ∧
  (∀ s t : State, s.host.supervisor = true → counterForm s = true → nowSec s < instantNow s →
    t = modRotation (fun x => { x with instant := some (instantNow s) }) s → ownsRotation t = true →
    serviceState t = true → hasPending t = false →
    instantNow s ≤ nowSec s + t.net.nts.rotation.cfg.lead →
    exec .rotationCheck s = .next (settleDue (reachAsked (newKey 1 t)))) ∧
  (∀ (s : State) (x : Activation) (g : Fin 8), s.net.nts.rotation.commit = some x →
    s.host.supervisor = true → counterForm s = true → x.a ≤ now s → genOf s x.keyId = some g →
    genState s g = 1 → exec .keyActivation s = .next (makeCurrent g x.oldKeyId x.retireAt s)) ∧
  (∀ s : State, s.net.nts.rotation.commit = none → exec .keyActivation s = .next s) ∧
  (∀ (s : State) (g : Fin 8), s.host.supervisor = true → clockRuns s = true → genState s g = 3 →
    s.net.nts.gens[g].retireAt ≤ now s →
    (∀ h, h ≠ g → genState s h = 3 → now s < s.net.nts.gens[h].retireAt) →
    exec .keyRetire s = .next (raise 0x0603 s.net.nts.gens[g].keyId 0 (dropGen g s))) ∧
  (∀ s : State, (∀ h, genState s h = 3 → now s < s.net.nts.gens[h].retireAt) → exec .keyRetire s = .next s)

/-- 11 R297, R298, R308, R313: NTS requests. The first check that fails counts its own row; an accepted request is
admitted and waits; an engine in service takes the one that has waited longest and reserves its answer, or counts the
cause of a failure of the cookie, the key or the seal; a request that finds no slot still waits. It rests on the
model's choices of log entry 107. -/
def Obligations.NtsTransactionsAnswerTheFirstRequest : Prop :=
  (∀ (s : State) (e : Fin 26), s.net.nts.requests = [] → exec (.ntsTransaction e) s = .next s) ∧
  (∀ (s : State) (e : Fin 26), s.wear.siv[e].state ≠ .service → exec (.ntsTransaction e) s = .next s) ∧
  (∀ (s t : State) (e : Fin 26) (q : NtsRequest) (rest : List NtsRequest) (m : NtpMsg),
    s.net.nts.requests = q :: rest → s.wear.siv[e].state = .service → q.frame.payload = .ntp m →
    ntsAnswerTo e.val q m (judgeAlarm q.frame.mac (s.modNts fun n => { n with requests := rest })) = some t →
    exec (.ntsTransaction e) s = .next t) ∧
  (∀ (s : State) (e : Fin 26) (q : NtsRequest) (rest : List NtsRequest) (m : NtpMsg),
    s.net.nts.requests = q :: rest → s.wear.siv[e].state = .service → q.frame.payload = .ntp m →
    ntsAnswerTo e.val q m (judgeAlarm q.frame.mac (s.modNts fun n => { n with requests := rest })) = none →
    exec (.ntsTransaction e) s = .next s) ∧
  (∀ (s : State) (e : Nat) (q : NtsRequest) (m : NtpMsg), q.plain = true →
    ntsAnswerTo e q m s = ntsReserve e q [] (ntsAnswer 3 q m s) s) ∧
  (∀ (s : State) (e : Nat) (q : NtsRequest) (m : NtpMsg), q.plain = false → (cookieOf m).length ≠ 104 →
    ntsAnswerTo e q m s = ntsFail e q m [] nNakCookie 0 s) ∧
  (∀ (s : State) (e : Nat) (q : NtsRequest) (m : NtpMsg), q.plain = false → (cookieOf m).length = 104 →
    genOf s (ofLe ((cookieOf m).take 4).reverse) = none →
    ntsAnswerTo e q m s = ntsFail e q m [] nNakKey 1 s) ∧
  (∀ (s : State) (i : Fin 64) (f : Frame) (ip : IpHdr) (port : Nat) (m : NtpMsg) (stamp : Nat),
    counterForm s = false → ntsRequest i f ip port m stamp s = ntsDrop i 0 0 s) ∧
  (∀ (s : State) (i : Fin 64) (f : Frame) (ip : IpHdr) (m : NtpMsg) (stamp : Nat), counterForm s = true →
    s.clock.leap.unset = false → serviceState s = true →
    ntsRequest i f ip 0 m stamp s = ntsDrop i 1 1 s) ∧
  (∀ (cfg : NtsCfg) (m : NtpMsg), (m.length < 48 ∨ m.length % 4 ≠ 0) → ntsForm cfg m = some 2) ∧
  (∀ (cfg : NtsCfg) (m : NtpMsg), 48 ≤ m.length → m.length % 4 = 0 → m.version ≠ 4 → ntsForm cfg m = some 3) ∧
  (∀ (cfg : NtsCfg) (m : NtpMsg), 48 ≤ m.length → m.length % 4 = 0 → m.version = 4 → m.mode ≠ 3 →
    ntsForm cfg m = some 4) ∧
  (∀ (s : State) (i : Fin 64) (k : Fin 21) (row : Nat), ∃ t, ntsDrop i k row s = t ∧
    t.net.nts.addresses[i].counters[k] = (s.net.nts.addresses[i].counters[k] + 1) % 2 ^ 64 ∧
    (∀ j, j ≠ i → t.net.nts.addresses[j] = s.net.nts.addresses[j])) ∧
  (∀ (q : NtsRequest) (m : NtpMsg) (s : State), (ntsAnswer 2 q m s).stratum = 0 ∧ (ntsAnswer 2 q m s).li = 3 ∧
    (ntsNak q m s).kind = 1 ∧ (ntsAnswer 0 q m s).origin = m.transmit ∧
    ((s.margin.alarms[q.frame.mac] || tableExpired s) = true → (ntsAnswer 0 q m s).stratum = 16))

/-! ### The PTP service (12) -/

/-- 12 R321 to R329, 15 R424: sessions, negotiation and timed messages. Scribe answers the Signaling message that has
waited longest; a request that breaks no rule gets at most what it asked for; a grant that has run out is swept at a
second's boundary and its session freed; an engine answers a Delay_Req; a Sync or Announce leaves while its grant
holds. It rests on the model's choices of log entries 4, 32, 109, 116, 117, 118, 121 and 171. -/
def Obligations.PtpSessionsAndMessagesFollowTheirRules : Prop :=
  (∀ (s : State) (r : Req) (first count : Nat), Asks 0x0703 6 r s → 1 ≤ count → count ≤ 255 →
    first + count ≤ 262144 →
    exec (.sessionRead r first count) s = .next (finish r.src stOk (le 4 count ++ le 4 0 ++
      (List.range count).flatMap fun k =>
        ((sessionAt (settleCounts s) (first + k)).map sessionBytes).getD freeSession) s)) ∧
  (∀ (s : State) (r : Req) (first count : Nat), Asks 0x0703 6 r s →
    (count = 0 ∨ 255 < count ∨ 262144 < first + count) →
    exec (.sessionRead r first count) s = .next (finish r.src eRange [] s)) ∧
  (∀ x : Session, (sessionBytes x).length = 64 ∧ (sessionBytes x).take 2 = le 1 x.state ++ le 1 x.service ∧
    ((sessionBytes x).drop 4).take 16 = le 16 x.peerIp ∧ (sessionBytes x).drop 62 = le 2 x.delayCount ∧
    freeSession.length = 64) ∧
  (∀ (s : State) (r : Req) (i : Fin 16), Asks 0x0710 1 r s →
    ∃ body, exec (.ptpStatus r i.val) s = .next (finish r.src stOk body s) ∧ body.length = 224 ∧
      body.take 8 = le 4 (s.net.ptp.sessions.countP fun x => decide (x.2.service = i.val)) ++
        le 4 (committedRate s) ∧ body.drop 8 = (ptpCounters s i).flatMap (le 8)) ∧
  (∀ (s : State) (r : Req) (a : Nat), Asks 0x0710 1 r s → 16 ≤ a →
    exec (.ptpStatus r a) s = .next (finish r.src eRange [] s)) ∧
  (∀ s : State, s.net.ptp.negotiation = [] → exec .negotiation s = .next s) ∧
  (∀ (s : State) (q : NegItem) (rest : List NegItem), s.net.ptp.negotiation = q :: rest →
    s.host.supervisor = true →
    ptpServes (s.modPtp fun p => { p with negotiation := rest }) q.address = false →
    exec .negotiation s = .next (s.modPtp fun p => { p with negotiation := rest })) ∧
  (∀ (s u v : State) (q : NegItem) (rest : List NegItem) (m : PtpMsg) (ip : IpHdr) (udp : UdpHdr)
      (ty : Nat) (log : Int) (d : Nat) (tlv : SignalTlv) (x : NegCtx),
    s.net.ptp.negotiation = q :: rest → s.host.supervisor = true →
    ptpServes (s.modPtp fun p => { p with negotiation := rest }) q.address = true →
    q.frame.payload = .ptp m → q.frame.ip = some ip → q.frame.udp = some udp → m.neg = [.request ty log d] →
    verifyIcv q.address q.address.val m (s.modPtp fun p => { p with negotiation := rest }) = (true, u) →
    x = ⟨q.address, q.frame, ip, udp.srcPort, m, saOf (countUnknown q.address m u) q.address q.address.val m⟩ →
    settleRequest x ty log d (countUnknown q.address m u) = (some tlv, v) →
    exec .negotiation s = .next (sendSignal
      ⟨q.address, q.frame.mac, negWire x v, m.srcClock, m.srcPort, x.sa⟩ [tlv] v)) ∧
  (∀ (x : NegCtx) (ty : Nat) (log : Int) (d : Nat) (s : State), ty ∉ grantTypes →
    settleRequest x ty log d s = (some (.grant ty log 0), countPtp x.address pNegType s)) ∧
  (∀ (x : NegCtx) (ty : Nat) (log : Int) (d : Nat) (s : State), ∃ (l : Int) (g : Nat) (t : State),
    settleRequest x ty log d s = (some (.grant ty l g), t) ∧ log ≤ l ∧
    (g ≠ 0 → g ≤ s.net.ptp.addresses[x.address].cfg.durationMax ∧
      (fastestLog s.net.ptp.addresses[x.address].cfg ty ≤
          (profileLog (ptpProfile s.net.ptp.addresses[x.address].cfg.profile) ty).2 →
        l ≤ (profileLog (ptpProfile s.net.ptp.addresses[x.address].cfg.profile) ty).2))) ∧
  (∀ s : State, s.host.supervisor = true → clockRuns s = true →
    exec .grantExpirySweep s =
      .next (forAll (fins 16) sweepEntry (forAll s.net.ptp.sessions sweepSession (settleCounts s)))) ∧
  (∀ s : State, s.host.supervisor = false → exec .grantExpirySweep s = .next s) ∧
  (∀ (s : State) (n : Nat) (x : Session), (∀ t ∈ grantTypes, expired s (grantOf x t).2 = false) →
    sweepSession (n, x) s = s) ∧
  (∀ (s : State) (i : Fin 16) (n : Nat) (x : Session), s.net.ptp.sessions = [(n, x)] → x.service = i.val →
    x.state = 2 → ∃ t, exec (.cancellingTimeout i) s = .next t ∧ t.net.ptp.sessions = []) ∧
  (∀ (s : State) (i : Fin 16), (∀ x ∈ s.net.ptp.sessions, x.2.service ≠ i.val ∨ x.2.state ≠ 2) →
    exec (.cancellingTimeout i) s = .next s) ∧
  (∀ (s t : State) (e : Nat) (q : PtpRequest) (rest : List PtpRequest) (m : PtpMsg), e ∈ ptpEngines s none →
    takeRequest (fun q => decide (e ∈ ptpEngines s (requestAlg s q))) s.net.ptp.requests = some (q, rest) →
    q.frame.payload = .ptp m → ptpAnswer e q m (s.modPtp fun p => { p with requests := rest }) = some t →
    exec (.ptpTransaction e) s = .next t) ∧
  (∀ (s : State) (e : Nat), e ∉ ptpEngines s none → exec (.ptpTransaction e) s = .next s) ∧
  (∀ (s : State) (n ty : Nat) (x : Session), (ty = 0 ∨ ty = 0xB) → sessionAt s n = some x →
    hasGrant x ty = true → exec (.scheduledMessage false n ty) s = .next (sendTimed n ty x s)) ∧
  (∀ (s : State) (n ty : Nat) (x : Session), sessionAt s n = some x → hasGrant x ty = false →
    exec (.scheduledMessage false n ty) s = .next s) ∧
  (∀ (s : State) (e : Fin 16), exec (.scheduledMessage true e.val 1) s = .next (sendDelayReq e s)) ∧
  (∀ (s : State) (n ty : Nat) (x : Session) (i : Fin 16), x.service = i.val →
    s.net.ptp.addresses[i].standby = true → sendTimed n ty x s = advanceSeq n ty s) ∧
  (∀ (s : State) (phase : Nat) (log : Int), nextScheduled s phase log % periodNs log = phase % periodNs log ∧
    (0 < periodNs log → now s ≤ nextScheduled s phase log * 65536))

/-- 12 R330 to R337, 02 R63, R70: keys of security associations and the client role. A key that replaces CURRENT
leaves the old one PREVIOUS for the overlap; an invalidated one gives way to NEXT or drops the association's messages;
messages, renewals and timeouts move the entry they name; an interval delivers the mean of its exchanges or is
missing. It rests on the model's choices of log entries 109, 112, 119, 120 and 121. -/
def Obligations.SaKeysAndTheClientRoleFollowTheirRules : Prop :=
  (∀ (s : State) (r : Req) (sa which id h : Nat), Asks 0x0705 12 r s → sa < 2048 → which ≤ 1 →
    serviceState s = true → h ≠ 0 → handleOk s h = true →
    exec (.keyReplace r sa which id h) s =
      .next (finish r.src stOk [] (replaceKey sa which ⟨id, h⟩ false s))) ∧
  (∀ (s : State) (r : Req) (sa which id : Nat), Asks 0x0705 12 r s → sa < 2048 → which ≤ 1 →
    serviceState s = true → exec (.keyReplace r sa which id 0) s = .next (finish r.src eKey [] s)) ∧
  (∀ (s : State) (r : Req) (sa which id h : Nat), Asks 0x0705 12 r s → sa < 2048 → which ≤ 1 →
    serviceState s = false → exec (.keyReplace r sa which id h) s = .next (finish r.src eState [] s)) ∧
  (∀ (s : State) (r : Req) (sa which id h : Nat), Asks 0x0705 12 r s → (2048 ≤ sa ∨ 1 < which) →
    exec (.keyReplace r sa which id h) s = .next (finish r.src eRange [] s)) ∧
  (∀ (s : State) (sa : Nat) (k : SaKey) (d : Bool), ∃ a, saAt (replaceKey sa 0 k d s) sa = some a ∧
    a.current = k ∧ a.previous = (saOrNone s sa).current ∧ a.next = (saOrNone s sa).next ∧
    a.overlapEnd = nowSec s + (saOrNone s sa).overlap ∧ a.dropping = false ∧ a.derived = d) ∧
  (∀ (s : State) (r : Req) (sa : Nat), Asks 0x0706 2 r s → sa < 2048 → serviceState s = true →
    ∃ t a, exec (.saInvalidate r sa) s = .next (finish r.src stOk [] t) ∧ saAt t sa = some a ∧
      ((saOrNone s sa).policy = 0 → (saOrNone s sa).next ≠ {} →
        a.current = (saOrNone s sa).next ∧ a.next = {} ∧ a.dropping = (saOrNone s sa).dropping) ∧
      (((saOrNone s sa).policy ≠ 0 ∨ (saOrNone s sa).next = {}) → a.current = {} ∧ a.dropping = true)) ∧
  (∀ (s : State) (r : Req) (sa : Nat), Asks 0x0706 2 r s → 2048 ≤ sa →
    exec (.saInvalidate r sa) s = .next (finish r.src eRange [] s)) ∧
  (∀ (s : State) (m : ClientMsg), m ∉ s.net.ptp.inbox → exec (.ptpClientMessage m) s = .next s) ∧
  (∀ (s u : State) (m : ClientMsg), m ∈ s.net.ptp.inbox → m.msg.msgType = 0 →
    verifyIcv (entryAddr (s.modPtp fun p => { p with inbox := p.inbox.erase m }) m.entry) (16 + m.entry.val)
      m.msg (s.modPtp fun p => { p with inbox := p.inbox.erase m }) = (true, u) →
    exec (.ptpClientMessage m) s = .next (takeSync m.entry m.msg m.stamp (countUnknown
      (entryAddr (s.modPtp fun p => { p with inbox := p.inbox.erase m }) m.entry) m.msg u))) ∧
  (∀ (s u : State) (m : ClientMsg), m ∈ s.net.ptp.inbox → m.msg.msgType = 9 →
    verifyIcv (entryAddr (s.modPtp fun p => { p with inbox := p.inbox.erase m }) m.entry) (16 + m.entry.val)
      m.msg (s.modPtp fun p => { p with inbox := p.inbox.erase m }) = (true, u) →
    exec (.ptpClientMessage m) s = .next (takeDelayResp m.entry m.msg (countUnknown
      (entryAddr (s.modPtp fun p => { p with inbox := p.inbox.erase m }) m.entry) m.msg u))) ∧
  (∀ (s : State) (e : Fin 16) (ty : Nat), s.net.ptp.entries[e].cfg.enable ≠ 1 →
    exec (.grantRenewal e ty) s = .next s) ∧
  (∀ (s : State) (e : Fin 16), s.host.supervisor = true → s.net.ptp.entries[e].cfg.enable = 1 →
    s.net.ptp.entries[e].denied = false →
    4 * (s.net.ptp.entries[e].annGrant - nowSec s) ≤ s.net.ptp.entries[e].annDur →
    exec (.grantRenewal e 0xB) s = .next (askGrants e [0xB] s)) ∧
  (∀ (s : State) (e : Fin 16) (u : Fin 4), s.host.supervisor = true → s.net.ptp.entries[e].cfg.enable = 1 →
    s.net.ptp.entries[e].denied = true → s.net.ptp.entries[e].ptpu = some u →
    s.net.ptp.entries[e].annGrant ≤ nowSec s →
    exec (.grantRenewal e 0xB) s = .next (loseParent e s)) ∧
  (∀ (s : State) (e : Fin 16) (h : HeldSync),
    s.net.ptp.entries[e].syncs.reverse.find? (fun h => h.t1.isNone) = some h →
    exec (.followUpTimeout e) s = .next (completeExchange e (modEntry e
      (fun x => { x with syncs := x.syncs.erase h, followMissing := (x.followMissing + 1) % 2 ^ 64 }) s))) ∧
  (∀ (s : State) (e : Fin 16), s.net.ptp.entries[e].syncs = [] → exec (.followUpTimeout e) s = .next s) ∧
  (∀ (s : State) (e : Fin 16), s.net.ptp.entries[e].announce = none → exec (.announceTimeout e) s = .next s) ∧
  (∀ (s : State) (e : Fin 16), s.net.ptp.entries[e].announce ≠ none → s.net.ptp.entries[e].ptpu ≠ none →
    exec (.announceTimeout e) s = .next (loseParent e s)) ∧
  (∀ (s : State) (e : Fin 16) (u : Fin 4), s.net.ptp.entries[e].ptpu = some u →
    ∃ t, loseParent e s = settleParents (addReason (ptpuRef u) 2 (parentEvent 0x0722 e u t)) ∧
      t = modEntry e (fun x =>
        { x with announce := none, syncs := [], t3 := none, t4 := none, lost := (x.lost + 1) % 2 ^ 64 }) s) ∧
  (∀ (s : State) (e : Fin 16), s.net.ptp.entries[e].announce ≠ none → s.net.ptp.entries[e].ptpu = none →
    exec (.announceTimeout e) s = .next (settleParents (modEntry e (fun y => { y with announce := none }) s))) ∧
  (∀ (s : State) (u : Fin 4), s.net.ptp.ptpus[u].entry = none → exec (.measIntervalEnd u) s = .next s) ∧
  (∀ (s : State) (u : Fin 4) (e : Fin 16), s.net.ptp.ptpus[u].entry = some e →
    s.net.ptp.ptpus[u].exchanges = [] →
    ∃ t, exec (.measIntervalEnd u) s = .next (refMiss (ptpuRef u) t) ∧
      t = modPtpu u (fun x => { x with exchanges := [] }) s) ∧
  (∀ (s : State) (u : Fin 4) (e : Fin 16), s.net.ptp.ptpus[u].entry = some e →
    s.net.ptp.ptpus[u].exchanges ≠ [] → s.refs[ptpuRef u].state ≠ .off →
    ∃ t, exec (.measIntervalEnd u) s = .next t ∧ t.net.ptp.ptpus[u].exchanges = [] ∧
      t.net.ptp.ptpus[u].offsets = (intervalOffset s.net.ptp.client.filter s.net.ptp.ptpus[u].exchanges ::
        s.net.ptp.ptpus[u].offsets).take 16 ∧
      t.refs[ptpuRef u].measured = some (intervalOffset s.net.ptp.client.filter s.net.ptp.ptpus[u].exchanges)) ∧
  (∀ l : List (Int × Int), intervalOffset 0 l = rdiv ((l.map (·.1)).foldl (· + ·) 0) l.length) ∧
  (∀ (s : State) (u : Fin 4), hasReason s.refs[ptpuRef u] 6 = true → s.refs[ptpuRef u].pathSince = true →
    exec (.pathStableExpiry u) s = .next (clearReason (ptpuRef u) 6 (s.modRef (ptpuRef u) fun x =>
      { x with pathOlder := [], pathMax := 0, pathSince := false }))) ∧
  (∀ (s : State) (u : Fin 4), hasReason s.refs[ptpuRef u] 6 = false →
    exec (.pathStableExpiry u) s = .next s)

/-! ### Keys, tampers and the life cycle (13) -/

/-- 13 R344, R346 to R353, R358, R364, R365, 15 R425: the commands of the security area. A tamper input is off at
reset and is configured outside SERVICE and RETIRED; a life-cycle command names the present state and an allowed
target; zeroise runs the tamper response; rotations advance their generation; imports and derivations begin a write
that the commit answers; seal and unseal are inverse in form; statuses are read. It rests on the model's choices of
log entries 6, 12, 14, 136, 137 and 138. -/
def Obligations.SecurityCommandsActAsTheirRulesSay : Prop :=
  (∀ (s : State) (r : Req) (g : GReq) (rows : Rows) (i : Fin 2), g.index = i.val →
    Fits 0x0803 [one 1, one 1] r g [[s.keys.tamperIn[i].1], [s.keys.tamperIn[i].2]] rows s →
    val rows 0 ≤ 1 → val rows 1 ≤ 1 → s.keys.life.val < 2 →
    exec (.tamperConfigure r g) s = .next (finish r.src stOk [] (s.modKeys fun k =>
      { k with tamperIn := k.tamperIn.set i (val rows 0, val rows 1) }))) ∧
  (∀ (s : State) (r : Req) (g : GReq) (rows : Rows) (i : Fin 2), g.index = i.val →
    Fits 0x0803 [one 1, one 1] r g [[s.keys.tamperIn[i].1], [s.keys.tamperIn[i].2]] rows s →
    val rows 0 ≤ 1 → val rows 1 ≤ 1 → (s.keys.life = 2 ∨ s.keys.life = 3) →
    exec (.tamperConfigure r g) s = .next (finish r.src eState [] s)) ∧
  (∀ i : Fin 2, State.reset.keys.tamperIn[i] = (0, 0)) ∧
  (∀ (s : State) (r : Req) (p : Pend) (t : Fin 4), r.len = 20 → ready 0x0801 r s = some p →
    lifeAllowed s.keys.life.val t.val = true → s.keys.change = none → (t = 3 ∨ rootDrawable s = true) →
    ∃ u, exec (.lifeCycle r s.keys.life.val t.val Config.deviceId) s = .next (finish r.src stAccepted [] u) ∧
      u.keys.change = some ⟨t, false, some (r.src, p.sequence)⟩ ∧ u.keys.life = s.keys.life ∧
      u.net.nts.requests = [] ∧ u.net.ptp.requests = []) ∧
  (∀ (s : State) (r : Req) (f t d : Nat), Asks 0x0801 20 r s → d ≠ Config.deviceId →
    exec (.lifeCycle r f t d) s = .next (finish r.src eRange [] s)) ∧
  (∀ (s : State) (r : Req) (f t : Nat), Asks 0x0801 20 r s → (f ≠ s.keys.life.val ∨ lifeAllowed f t = false) →
    exec (.lifeCycle r f t Config.deviceId) s = .next (finish r.src eState [] s)) ∧
  (∀ (s : State) (r : Req) (t : Fin 4), Asks 0x0801 20 r s → lifeAllowed s.keys.life.val t.val = true →
    s.keys.change = none → t ≠ 3 → rootDrawable s = false →
    exec (.lifeCycle r s.keys.life.val t.val Config.deviceId) s = .next (finish r.src eHw [] s)) ∧
  (∀ a b : Fin 4, lifeAllowed a.val b.val = true ↔
    (a = 0 ∧ b = 1) ∨ (a = 1 ∧ b = 2) ∨ (a = 2 ∧ b = 1) ∨ (a ≠ 3 ∧ b = 3)) ∧
  (∀ (s : State) (r : Req), Asks 0x0802 16 r s →
    exec (.zeroise r Config.deviceId) s = .next (finish r.src stOk [] (tamperResponse 9 s))) ∧
  (∀ (s : State) (r : Req) (d : Nat), Asks 0x0802 16 r s → d ≠ Config.deviceId →
    exec (.zeroise r d) s = .next (finish r.src eRange [] s)) ∧
  (∀ (s : State) (r : Req) (p : Pend) (nonce : Bytes) (alg : Nat), r.len = 33 → ready 0x0804 r s = some p →
    nonce.length = 32 → alg ≤ 1 →
    ∃ u, exec (.attestation r nonce alg) s = .next (finish r.src stAccepted [] u) ∧
      u.keys.attests = s.keys.attests ++ [⟨nonce, alg, r.src, p.sequence⟩] ∧ u.host = s.host) ∧
  (∀ (s : State) (r : Req) (nonce : Bytes) (alg : Nat), Asks 0x0804 33 r s → 1 < alg →
    exec (.attestation r nonce alg) s = .next (finish r.src eRange [] s)) ∧
  (∀ (s : State) (r : Req), Asks 0x0805 0 r s →
    exec (.identityRead r) s = .next (finish r.src stOk (deviceIdBytes ++
      Config.publicKey 0 (identityKey 0) ++ Config.publicKey 1 (identityKey 1)) s)) ∧
  (∀ (s : State) (r : Req), Asks 0x0806 0 r s → s.keys.life ≠ 3 → ladderReady s = true → s.keys.change = none →
    ∃ u, exec (.attestRotate r) s = .next (finish r.src stOk [] (raise 0x0807 (attestKeyId s) (attestKeyId u) u)) ∧
      u = s.modKeys fun k => { k with attestGen := (k.attestGen + 1) % 2 ^ 32 }) ∧
  (∀ (s : State) (r : Req), Asks 0x0806 0 r s → ladderReady s = false →
    exec (.attestRotate r) s = .next (finish r.src eState [] s)) ∧
  (∀ (s : State) (r : Req), Asks 0x0807 0 r s → serviceState s = true →
    exec (.importRotate r) s = .next (finish r.src stOk []
      (s.modKeys fun k => { k with importGen := (k.importGen + 1) % 2 ^ 32 }))) ∧
  (∀ (s : State) (r : Req), Asks 0x0807 0 r s → serviceState s = false →
    exec (.importRotate r) s = .next (finish r.src eState [] s)) ∧
  (∀ (s : State) (r : Req) (p : Pend) (sa w alg id n : Nat) (k : Bytes), r.len = 8 → ready 0x0808 r s = some p →
    sa < 2048 → w ≤ 1 → alg ≤ 1 → alg = (saOrNone s sa).algorithm → serviceState s = true →
    importedKey s = .ok k → freeSlot s = some n →
    ∃ u, exec (.keyImport r sa w alg id) s = .next (setHand r.src (some { p with taken := true }) u) ∧
      u = beginWrite ⟨n, saKeyType alg, k, .saKey sa w alg id false, some r.src⟩ s) ∧
  (∀ (s : State) (r : Req) (sa w alg id : Nat), Asks 0x0808 8 r s → (2048 ≤ sa ∨ 1 < w ∨ 1 < alg) →
    exec (.keyImport r sa w alg id) s = .next (finish r.src eRange [] s)) ∧
  (∀ (s : State) (r : Req) (sa w alg id e : Nat), Asks 0x0808 8 r s → sa < 2048 → w ≤ 1 → alg ≤ 1 →
    alg = (saOrNone s sa).algorithm → serviceState s = true → importedKey s = .error e →
    exec (.keyImport r sa w alg id) s = .next (finish r.src e [] s)) ∧
  (∀ (s : State) (r : Req) (p : Pend) (sa w id n : Nat) (c : Bytes), r.len = 40 → ready 0x0809 r s = some p →
    sa < 2048 → w ≤ 1 → serviceState s = true → freeSlot s = some n → c.length = 32 →
    exec (.saKeyDerive r sa w id c) s = .next (setHand r.src (some { p with taken := true })
      (beginWrite ⟨n, saKeyType (saOrNone s sa).algorithm, saKeyOf s sa c,
        .saKey sa w (saOrNone s sa).algorithm id true, some r.src⟩ s))) ∧
  (∀ (s : State) (r : Req) (sa w id : Nat) (c : Bytes), Asks 0x0809 40 r s → sa < 2048 → w ≤ 1 →
    serviceState s = true → freeSlot s = none →
    exec (.saKeyDerive r sa w id c) s = .next (finish r.src eNoSpace [] s)) ∧
  (∀ (s : State) (r : Req) (sa n : Nat) (z : Bytes), Asks 0x080A 2 r s → sa < 2048 → serviceState s = true →
    (saOrNone s sa).derived = true → slotOf s (saOrNone s sa).current.handle = some n → rootDrawable s = true →
    Config.ecdh (freshBytes 48 s).1 (dpRead (freshBytes 48 s).2 blobArea 97) = some z →
    ∃ o u, exec (.saKeyExport r sa) s = .next (finish r.src stOk [] (dpWrite blobArea o u)) ∧
      u = (freshBytes 48 s).2 ∧ o.take 4 = le 4 0x31494B5A) ∧
  (∀ (s : State) (r : Req) (sa : Nat), Asks 0x080A 2 r s → sa < 2048 → (saOrNone s sa).derived = false →
    exec (.saKeyExport r sa) s = .next (finish r.src eState [] s)) ∧
  (∀ (s : State) (r : Req) (n : Nat) (l : Bytes), Asks 0x080B 24 r s → n ≤ 4096 → maySeal s = true → l.length = 16 →
    ∃ o, exec (.seal r n l) s = .next (finish r.src stOk (le 2 o.length) (dpWrite sealOut o s)) ∧
      o = l ++ Config.sivSeal (sealKey s) [sealData s l] [] (dpRead s sealIn n)) ∧
  (∀ (s : State) (r : Req) (n : Nat) (l : Bytes), Asks 0x080B 24 r s → n ≤ 4096 → maySeal s = false →
    exec (.seal r n l) s = .next (finish r.src eState [] s)) ∧
  (∀ (s : State) (r : Req) (n : Nat) (b p : Bytes), Asks 0x080C 2 r s → 32 ≤ n → n ≤ 4128 → maySeal s = true →
    b = dpRead s sealIn n → Config.sivOpen (sealKey s) [sealData s (b.take 16)] [] (b.drop 16) = some p →
    exec (.unseal r n) s = .next (finish r.src stOk (le 2 p.length) (dpWrite sealOut p s))) ∧
  (∀ (s : State) (r : Req) (n : Nat) (b : Bytes), Asks 0x080C 2 r s → 32 ≤ n → n ≤ 4128 → maySeal s = true →
    b = dpRead s sealIn n → Config.sivOpen (sealKey s) [sealData s (b.take 16)] [] (b.drop 16) = none →
    exec (.unseal r n) s = .next (finish r.src eKey [] s)) ∧
  (∀ (s : State) (r : Req) (p : Pend) (n : Nat), r.len = 4 → ready 0x080D r s = some p → 1 ≤ n → n ≤ 1000000 →
    s.keys.life.val < 2 →
    exec (.entropySample r n) s = .next (finish r.src stAccepted []
      (s.modKeys fun k => { k with entropyJobs := k.entropyJobs ++ [(n, r.src, p.sequence)] }))) ∧
  (∀ (s : State) (r : Req) (n : Nat), Asks 0x080D 4 r s → 1 ≤ n → n ≤ 1000000 → 2 ≤ s.keys.life.val →
    exec (.entropySample r n) s = .next (finish r.src eState [] s)) ∧
  (∀ (s : State) (r : Req) (first count : Nat), Asks 0x0810 4 r s → 1 ≤ count → count ≤ 1024 →
    first + count ≤ 4096 →
    ∃ body, exec (.keyStatus r first count) s = .next (finish r.src stOk body s) ∧
      body = (List.range count).flatMap (fun i => descriptor s (first + i)) ∧ body.length = 16 * count) ∧
  (∀ (s : State) (r : Req) (first count : Nat), Asks 0x0810 4 r s →
    (count = 0 ∨ 1024 < count ∨ 4096 < first + count) →
    exec (.keyStatus r first count) s = .next (finish r.src eRange [] s))

/-- 13 R341 to R345, R347, R354, R355, R360, R363, R367 to R370: tampers, the change of state, key writes and entropy.
A tamper zeroises the roots and every key copy and is recorded; outside RETIRED it leads to another state; the change
erases the old root and makes a new one; a write commits to the other copy; a full bank is compacted; three failures
in a second latch ENTROPY_FAIL. It rests on the model's choices of log entries 133, 134, 135, 138 and 139. -/
def Obligations.TampersDestroyKeysAndWritesCommit : Prop :=
  (∀ (s : State) (d : Nat) (b : Bool), (latchTamper d b s).keys.roots = Vector.replicate 3 {} ∧
    (d < 16 → (latchTamper d b s).keys.tamperLatch.getLsbD d = true) ∧
    liveRoot (latchTamper d b s) = none) ∧
  (∀ (s : State) (d : Nat), detectorArmed s d false = true → s.power.powered = true → s.power.inReset = false →
    exec (.tamperDetected d false) s = .next (tamperResponse d s)) ∧
  (∀ (s : State) (d : Nat), detectorArmed s d true = true → s.power.powered = false →
    exec (.tamperDetected d true) s = .next (latchTamper d true s)) ∧
  (∀ (s : State) (d : Nat) (b : Bool), detectorArmed s d b = false → exec (.tamperDetected d b) s = .next s) ∧
  (∀ s : State, (∀ x ∈ (destroyKeys s).keys.slots, x.2.state = 0) ∧ (destroyKeys s).keys.writes = [] ∧
    (destroyKeys s).keys.ladder = false) ∧
  (∀ (s : State) (r : TamperRecord), 2 ^ 32 - 1 ≤ s.keys.tamperEvents ∨
    (addTamper r s).keys.tamperEvents = s.keys.tamperEvents + 1) ∧
  (∀ (s : State) (r : TamperRecord), s.keys.firstTampers.length < 32 →
    (addTamper r s).keys.firstTampers = s.keys.firstTampers ++ [r] ∧
    (addTamper r s).keys.lastTampers = s.keys.lastTampers) ∧
  (tamperTarget 0 = some 0 ∧ tamperTarget 1 = some 1 ∧ tamperTarget 2 = some 1 ∧ tamperTarget 3 = none) ∧
  (∀ (s : State) (c : LifeChange), s.keys.change = some c → s.host.supervisor = true → c.target = 3 →
    ∃ t, exec .lifeCycleComplete s = .next t ∧ t.keys.life = 3 ∧ t.keys.change = none ∧ t.keys.flash = [] ∧
      t.keys.journal = [] ∧ t.keys.attestGen = 1 ∧ t.keys.importGen = 1 ∧ t.keys.ladder = false) ∧
  (∀ (s : State) (c : LifeChange) (src : Source) (q : Nat), s.keys.change = some c → s.host.supervisor = true →
    c.target ≠ 3 → rootDrawable s = false → c.tamper = false → c.source = some (src, q) →
    exec .lifeCycleComplete s = .next (completeCmd 0x0801 q eHw src
      (s.modKeys fun k => { k with change := none }))) ∧
  (∀ s : State, s.keys.change = none → exec .lifeCycleComplete s = .next s) ∧
  (∀ (s : State) (j : AttestJob) (rest : List AttestJob), s.keys.attests = j :: rest →
    exec .attestationReady s = .next (completeCmd 0x0804 j.seq stOk j.source (raise 0x0808
      (attestReport s j).length 0
      (dpWrite attestArea (attestReport s j) (s.modKeys fun k => { k with attests := rest }))))) ∧
  (∀ s : State, s.keys.attests = [] → exec .attestationReady s = .next s) ∧
  (∀ (s : State) (n : Nat) (src : Source) (q : Nat) (rest : List (Nat × Source × Nat)) (b : Bytes),
    s.keys.entropyJobs = (n, src, q) :: rest →
    exec (.entropySampleComplete b) s = .next (completeCmd 0x080D q stOk src (dpWrite entropyArea
      (le ((n + 7) / 8) (ofLe (b.take ((n + 7) / 8)) % 2 ^ n))
      (s.modKeys fun k => { k with entropyJobs := rest })))) ∧
  (∀ s : State, s.keys.drbgReady = true → s.keys.entropyFail = false →
    exec .drbgReseed s = .next (s.modKeys fun k => { k with drbgCount := 0 })) ∧
  (∀ s : State, s.keys.entropyFail = true → exec .drbgReseed s = .next s) ∧
  (∀ (s : State) (a : Bool), s.power.inReset = false → s.keys.failTicks = [] →
    exec (.healthTestFailure a) s = .next (raise 0x0805 (if a then 1 else 0) 0
      (s.modKeys fun k => { k with failTicks := [s.clock.ticks.toNat] }))) ∧
  (∀ (s : State) (a : Bool) (x y : Nat), s.power.inReset = false → s.keys.failTicks = [x, y] →
    s.clock.ticks.toNat < x + 10 ^ 9 → s.clock.ticks.toNat < y + 10 ^ 9 → s.keys.entropyFail = false →
    s.net.nts.rotation.asked = [] →
    ∃ u, exec (.healthTestFailure a) s = .next (raise 0x0806 0 0
      (u.modKeys fun k => { k with entropyFail := true })) ∧
      u = raise 0x0805 (if a then 1 else 0) 0 (s.modKeys fun k =>
        { k with failTicks := [s.clock.ticks.toNat, x, y] })) ∧
  (∀ (s : State) (n : Nat) (w : KeyWrite) (rest : List KeyWrite), takeWrite n s.keys.writes = some (w, rest) →
    s.host.supervisor = true → s.keys.compacting = false → ladderReady s = true →
    (persistent n = false ∨ s.keys.position < bankSize) →
    exec (.keyWriteCommit n) s = .next (keyWritten w
      (commitSlot w.slot w.keyType w.material (s.modKeys fun k => { k with writes := rest })))) ∧
  (∀ (s : State) (n : Nat) (w : KeyWrite) (rest : List KeyWrite), takeWrite n s.keys.writes = some (w, rest) →
    s.host.supervisor = true → s.keys.compacting = false → ladderReady s = true → persistent n = true →
    bankSize ≤ s.keys.position →
    exec (.keyWriteCommit n) s = .next (s.modKeys fun k => { k with compacting := true })) ∧
  (∀ (s : State) (n ty : Nat) (m : Bytes), m.length ≤ 64 →
    material (slotAt (commitSlot n ty m s) n) = m ++ le (64 - m.length) 0 ∧
    (slotAt (commitSlot n ty m s) n).state = 1 ∧
    (slotAt (commitSlot n ty m s) n).activeB = !(slotAt s n).activeB ∧
    (slotAt (commitSlot n ty m s) n).gen = ((slotAt s n).gen + 1) % 2 ^ 32 ∧
    (∀ k, k ≠ n → slotAt (commitSlot n ty m s) k = slotAt s k)) ∧
  (∀ s : State, s.keys.compacting = true → ∃ t, exec .compactionComplete s = .next t ∧
    t.keys.compacting = false ∧ t.keys.bank = !s.keys.bank ∧ t.keys.flash = compacted s.keys ∧
    t.keys.position = t.keys.flash.length ∧ (∀ f ∈ t.keys.flash, f.dead = false)) ∧
  (∀ s : State, s.keys.compacting = false → exec .compactionComplete s = .next s)

/-- 11 R301: a nonce base that an engine draws for a key is none of the bases that the device holds for that key, its
own or another device's, while they are fewer than the bases there are. -/
def Obligations.ADrawnNonceBaseIsNew : Prop :=
  ∀ (s : State) (engine slot keyId : Nat), (heldBases s slot keyId).length < 2 ^ 48 →
    (drawBase engine slot keyId s).1 ∉ heldBases s slot keyId ∧
    (drawBase engine slot keyId s).1 < 2 ^ 48 ∧
    (drawBase engine slot keyId s).1 ∈ heldBases (drawBase engine slot keyId s).2 slot keyId

/-! ### Twin and stack (16) -/

/-- 16 R436 to R440, R442, R445 to R450, R453, R454, R458, R461: stack frames. A frame is taken only when it passes
the checks in their order, and one under a key only with a later SEQUENCE; one that fails is counted on its link and
changes nothing else of the stack; each TYPE has its effect, and replication is acknowledged. It rests on the model's
choices of log entries 2, 102, 123, 125, 126, 127, 129 and 132. -/
def Obligations.StackFramesPassTheirChecksAndAct : Prop :=
  (∀ (s : State) (h : StackHdr), linkLive s h.link = false → takeFrame h s = (false, s)) ∧
  (∀ (s : State) (h : StackHdr), linkLive s h.link = true → h.crcOk = false → takeFrame h s = (false,
    violation h.link (peerCode s h.link) 0 (fun c => { c with fcs := c.fcs + 1 }) s)) ∧
  (∀ (s : State) (h : StackHdr), linkLive s h.link = true → h.crcOk = true → (h.dst = 0xFF ∨ h.dst = ownPos s) →
    h.version = 1 → h.typeOk = true → h.key = 0 → takeFrame h s = (true, s)) ∧
  (∀ (s : State) (h : StackHdr), linkLive s h.link = true → h.crcOk = true → (h.dst = 0xFF ∨ h.dst = ownPos s) →
    h.version = 1 → h.typeOk = true → h.key ≠ 0 → h.tagOk = true → stackKeyHeld s h.key h.src.val = true →
    h.seq ≤ lastSeq s h.src.val h.key → takeFrame h s = (false,
      violation h.link h.src.val 3 (fun c => { c with replay := c.replay + 1 }) s)) ∧
  (∀ (s : State) (h : StackHdr), linkLive s h.link = true → h.crcOk = true → (h.dst = 0xFF ∨ h.dst = ownPos s) →
    h.version = 1 → h.typeOk = true → h.key ≠ 0 → h.tagOk = true → stackKeyHeld s h.key h.src.val = true →
    lastSeq s h.src.val h.key < h.seq → s.stack.term ≤ h.term → ∃ t, takeFrame h s = (true, t) ∧
      lastSeq t h.src.val h.key = h.seq ∧ t.stack.links = s.stack.links ∧ t.stack.members = s.stack.members) ∧
  (∀ (s : State) (h : StackHdr) (t : State), takeFrame h s = (false, t) →
    t.stack.members = s.stack.members ∧ t.stack.role = s.stack.role ∧ t.stack.term = s.stack.term ∧
    t.stack.seqIn = s.stack.seqIn) ∧
  (∀ (s t : State) (h : StackHdr), takeFrame h s = (false, t) →
    (∀ m, exec (.hello h m) s = .next t) ∧ (∀ ok, exec (.confirm h ok) s = .next t) ∧
    (∀ v, exec (.admission h v) s = .next t) ∧
    (∀ a b c d e f, exec (.heartbeat h a b c d e f) s = .next t) ∧
    (∀ a b c d e f g i j k l, exec (.tt h a b c d e f g i j k l) s = .next t) ∧
    (∀ o, exec (.state h o) s = .next t) ∧ (∀ l, exec (.config h l) s = .next t) ∧
    (∀ l, exec (.session h l) s = .next t) ∧ (∀ k, exec (.key h k) s = .next t) ∧
    (∀ a b c, exec (.ack h a b c) s = .next t) ∧ (∀ a b c d, exec (.activate h a b c d) s = .next t) ∧
    (∀ n, exec (.resign h n) s = .next t) ∧ (∀ p, exec (.leave h p) s = .next t)) ∧
  (∀ (s t : State) (h : StackHdr) (l : List ConfigRecord), takeFrame h s = (true, t) → takesReplication t = true →
    exec (.config h l) s = .next (sendAck h.src.val 1 0x21 h.seq (forAll l (takeRecord h) t))) ∧
  (∀ (s t : State) (h : StackHdr) (l : List Session), takeFrame h s = (true, t) → takesReplication t = true →
    exec (.session h l) s = .next (sendAck h.src.val 1 0x22 h.seq (forAll l (takeSession h.link) t))) ∧
  (∀ (s t : State) (h : StackHdr) (k : KeyRecord), takeFrame h s = (true, t) → takesReplication t = true →
    exec (.key h k) s = .next (takeKey h k t)) ∧
  (∀ (s t : State) (h : StackHdr) (id old at_ : Nat) (a : ZT128) (g : Fin 8), takeFrame h s = (true, t) →
    takesReplication t = true → genOf t id = some g → genState t g = 1 → ztUnits a ≤ now t →
    exec (.activate h id old a at_) s =
      .next (sendAck h.src.val 1 0x25 h.seq (makeCurrent g old (at_ * secUnit) t))) ∧
  (∀ (s t : State) (h : StackHdr) (id old at_ : Nat) (a : ZT128) (g : Fin 8), takeFrame h s = (true, t) →
    takesReplication t = true → genOf t id = some g → genState t g = 1 → now t < ztUnits a →
    exec (.activate h id old a at_) s = .next (sendAck h.src.val 1 0x25 h.seq
      (modRotation (fun y => { y with commit := some ⟨id, old, ztUnits a, at_ * secUnit⟩ }) t))) ∧
  (∀ (s t : State) (h : StackHdr) (o : Bytes), takeFrame h s = (true, t) →
    exec (.state h o) s = .next (t.modLink h.link fun k => { k with partner := o })) ∧
  (∀ (s t : State) (h : StackHdr) (n : Nat), takeFrame h s = (true, t) → t.stack.paired = true →
    (sendAck h.src.val 1 0x30 h.seq t).stack.role = 2 → h.src.val = 0 →
    (sendAck h.src.val 1 0x30 h.seq t).stack.term < n →
    exec (.resign h n) s = .next (takeover n true (sendAck h.src.val 1 0x30 h.seq t))) ∧
  (∀ (s t : State) (h : StackHdr), takeFrame h s = (true, t) → t.stack.paired = true →
    isPrimary (sendAck h.src.val 1 0x31 h.seq t) = true →
    2 ≤ (sendAck h.src.val 1 0x31 h.seq t).stack.members[h.src].state →
    exec (.leave h h.src) s = .next (removeMember h.src (sendAck h.src.val 1 0x31 h.seq t))) ∧
  (∀ (s t : State) (h : StackHdr) (ty q : Nat) (f : ReplFrame), takeFrame h s = (true, t) →
    t.stack.frames.find? (fun f => decide (f.dst = h.src) && decide (bodyType f.body = ty) &&
      decide (q ∈ f.seqs)) = some f →
    ∃ u, exec (.ack h ty q []) s = .next (settlePairing (acknowledged f u)) ∧
      u = t.modStack fun x => { x with frames := x.frames.filter fun y => decide (y.id ≠ f.id) }) ∧
  (∀ (s t : State) (h : StackHdr) (m : HelloMsg) (p : Pairing), takeFrame h s = (true, t) →
    t.stack.pairing = some p → p.step = .hello → judgeHello t (some p.peerId) m = 0 →
    exec (.hello h m) s = .next (helloOk m t)) ∧
  (∀ (s t : State) (h : StackHdr) (p : Pairing) (m : HelloMsg) (k : Bytes) (q : Fin 8), takeFrame h s = (true, t) →
    t.stack.pairing = some p → p.peer = some m → p.step = .confirm → pairKey t p m = some k →
    max (ownPos t) m.position = q.val →
    exec (.confirm h true) s = .next (beginWrite ⟨40 + q.val, 3, k, .stack q, none⟩
      (modPairing (fun x => { x with step := .admission }) t))) ∧
  (∀ (s t : State) (h : StackHdr) (p : Pairing), takeFrame h s = (true, t) → t.stack.pairing = some p →
    ownPos t ≠ 0 → p.step = .admission →
    exec (.admission h 0) s = .next (modPairing (fun x => { x with step := .replicate }) t)) ∧
  (∀ (s t : State) (h : StackHdr) (p : Pairing) (v : Nat), takeFrame h s = (true, t) → t.stack.pairing = some p →
    ownPos t ≠ 0 → v ≠ 0 → exec (.admission h v) s = .next (failPairing t)) ∧
  (∀ (s t : State) (h : StackHdr) (role pos st fl mem id : Nat), takeFrame h s = (true, t) →
    t.stack.paired = true → isPrimary t = false → t.stack.fenced = false →
    exec (.heartbeat h role pos st fl mem id) s = .next (hearNeighbour h mem id
      (t.modLink h.link fun k => { k with fresh := true, missed := 0, peerPos := some h.src }))) ∧
  (∀ (s t : State) (h : StackHdr) (st fl mem id : Nat), takeFrame h s = (true, t) → isPrimary t = true →
    t.stack.fenced = false → st ≤ 4 → fl < 8 → t.stack.term < h.term →
    ∃ u, exec (.heartbeat h 1 0 st fl mem id) s = .next u ∧ u.stack.fenced = true ∧ u.net.nts.requests = []) ∧
  (∀ (s t : State) (h : StackHdr) (m rm a b t2 t3 : Nat) (x : PeerBound), takeFrame h s = (true, t) →
    assoc t.stack.links[h.link].received m = some t2 → assoc t.stack.links[h.link].sent rm = some t3 →
    ∃ u e, exec (.tt h m rm a b x.core x.growth x.horizon x.recordSeq x.bootCount x.anchorKind x.chain) s =
        .next u ∧ u.stack.links[h.link].peer = x ∧
      u.stack.links[h.link].exchanges = t.stack.links[h.link].exchanges ++ [e] ∧
      e.trip = ((t2 : Int) - a) + ((b : Int) - t3)) ∧
  (∀ (s : State) (h : StackHdr), linkLive s h.link = true → h.dst ≠ 0xFF → h.dst ≠ ownPos s → h.crcOk = true →
    h.hops ≠ 0 → linkLive s (otherLink h.link) = true →
    exec (.stackFrameRelay h) s = .next (s.modLink (otherLink h.link)
      fun k => { k with lastOut := some ⟨0, h.src.val, h.dst, h.hops - 1, h.key, h.term, h.seq, [], [], none, true⟩ })) ∧
  (∀ (s : State) (h : StackHdr), linkLive s h.link = true → h.dst ≠ 0xFF → h.dst ≠ ownPos s → h.crcOk = true →
    h.hops = 0 → exec (.stackFrameRelay h) s =
      .next (violation h.link h.src.val 5 (fun c => { c with hops := c.hops + 1 }) s)) ∧
  (∀ (s : State) (l : Fin 2) (sub stamp : Nat), linkLive s l = true → clockRuns s = true →
    markerStamp s l true sub = some stamp → s.stack.paired = false →
    exec (.markerSend l sub) s = .next (s.modLink l fun k =>
      { k with marker := (s.stack.links[l].marker + 1) % 65536,
               sent := ((s.stack.links[l].marker, stamp) :: k.sent).take 64 })) ∧
  (∀ (s : State) (l : Fin 2) (n sub stamp : Nat), linkLive s l = true → markerStamp s l false sub = some stamp →
    exec (.markerReceived l n true sub) s =
      .next (s.modLink l fun k => { k with received := ((n % 65536, stamp) :: k.received).take 64 })) ∧
  (∀ (s : State) (l : Fin 2) (n sub : Nat), linkLive s l = true →
    exec (.markerReceived l n false sub) s =
      .next (violation l (peerCode s l) 9 (fun c => { c with fcs := c.fcs + 1 }) s))

/-- 16 R433, R438, R441 to R445, R448, R452, R455 to R460, 15 R428: membership, links and the stack's commands. pair
begins a ceremony on a live link; detach resigns or leaves; a verdict is judged by role and TERM; links, heartbeats
and lost frames make a neighbour suspect; an interval with 50 exchanges measures the STACK source. It rests on the
model's choices of log entries 2, 14, 123, 124, 126, 127, 129, 130, 132 and 171. -/
def Obligations.StackMembershipAndLinksFollowTheirRules : Prop :=
  (∀ (s t : State) (r : Req) (p : Pend) (l : Fin 2) (id : Nat), r.len = 24 → ready 0x0B02 r s = some p →
    serviceState s = true → s.stack.paired = false → s.stack.pairing = none → linkLive s l = true →
    s.keys.drbgReady = true → s.keys.entropyFail = false → takeLinkChannels l s = some t →
    ∃ u x, exec (.pair r l.val id) s = .next (finish r.src stAccepted [] u) ∧ u.stack.pairing = some x ∧
      x.step = .hello ∧ x.link = l ∧ x.peerId = id ∧ x.source = some (r.src, p.sequence) ∧
      u.host.freeCount = t.host.freeCount + 1 ∧ u.stack.paired = t.stack.paired) ∧
  (∀ (s : State) (r : Req) (l : Fin 2) (id : Nat), Asks 0x0B02 24 r s →
    (serviceState s = false ∨ s.stack.paired = true ∨ linkLive s l = false) →
    exec (.pair r l.val id) s = .next (finish r.src eState [] s)) ∧
  (∀ (s : State) (r : Req) (l : Fin 2) (id : Nat), Asks 0x0B02 24 r s → serviceState s = true →
    s.stack.paired = false → s.stack.pairing = none → linkLive s l = true → s.keys.drbgReady = true →
    s.keys.entropyFail = false → takeLinkChannels l s = none →
    exec (.pair r l.val id) s = .next (finish r.src eNoSpace [] s)) ∧
  (∀ (s : State) (r : Req) (p : Pend), r.len = 0 → ready 0x0B03 r s = some p → s.stack.paired = true →
    s.stack.detaching = none → s.stack.role ≠ 1 →
    exec (.detach r) s = .next (finish r.src stAccepted [] (sendRepl (.leave s.stack.position) 0
      (s.modStack fun t => { t with detaching := some (r.src, p.sequence) })))) ∧
  (∀ (s : State) (r : Req) (p : Pend), r.len = 0 → ready 0x0B03 r s = some p → s.stack.paired = true →
    s.stack.detaching = none → s.stack.role = 1 → twinOf s = [] →
    exec (.detach r) s = .next (finish r.src stAccepted [] (leaveStack
      (s.modStack fun t => { t with detaching := some (r.src, p.sequence) })))) ∧
  (∀ (s : State) (r : Req), Asks 0x0B03 0 r s → s.stack.paired = false →
    exec (.detach r) s = .next (finish r.src eState [] s)) ∧
  (∀ (s t : State) (r : Req) (v n : Nat), Asks 0x0B04 8 r s → v ≤ 1 → s.stack.paired = true →
    judgeWitness v n s = .ok t → exec (.witness r v n) s = .next (finish r.src stOk [] t)) ∧
  (∀ (s : State) (r : Req) (v n e : Nat), Asks 0x0B04 8 r s → v ≤ 1 → s.stack.paired = true →
    judgeWitness v n s = .error e → exec (.witness r v n) s = .next (finish r.src e [] s)) ∧
  (∀ (s : State) (r : Req) (v n : Nat), Asks 0x0B04 8 r s → 1 < v →
    exec (.witness r v n) s = .next (finish r.src eRange [] s)) ∧
  (∀ (s : State) (v n : Nat), n ≤ s.stack.term → judgeWitness v n s = .ok s) ∧
  (∀ (s : State) (v n : Nat), s.stack.term < n → s.stack.role = 3 → judgeWitness v n s = .error eStack) ∧
  (∀ (s : State) (n : Nat), s.stack.term < n → s.stack.role = 2 → s.stack.members[(0 : Fin 8)].state = 3 →
    judgeWitness 1 n s = .ok (takeover n false s)) ∧
  (∀ (s : State) (r : Req), Asks 0x0B10 0 r s →
    exec (.stackStatus r) s = .next (finish r.src stOk (stackStatusBytes s) s) ∧
    (stackStatusBytes s).length = 264 ∧
    (stackStatusBytes s).take 2 = le 1 s.stack.role ++ le 1 s.stack.position) ∧
  (∀ (s : State) (l : Fin 2), s.stack.links[l].up = false → linkEnabled s l = true →
    exec (.stackLinkUp l) s =
      .next (raise 0x0B02 (l.val + 256) 0 (s.modLink l fun k => { k with up := true }))) ∧
  (∀ (s : State) (l : Fin 2), linkEnabled s l = false → exec (.stackLinkUp l) s = .next s) ∧
  (∀ (s : State) (l : Fin 2), s.stack.links[l].up = true →
    exec (.stackLinkDown l) s =
      .next (suspectLink l (raise 0x0B02 l.val 0 (s.modLink l fun k => { k with up := false })))) ∧
  (∀ (s : State) (l : Fin 2), s.stack.links[l].up = false → exec (.stackLinkDown l) s = .next s) ∧
  (∀ (s : State) (l : Fin 2) (p : Fin 8), s.stack.paired = true → s.stack.links[l].suspect = false →
    s.stack.links[l].peerPos = some p → s.stack.cfg.miss ≤ s.stack.links[l].missed →
    exec (.heartbeatMiss l) s = .next (suspectLink l
      (countLink l (fun c => { c with heartbeatLost := c.heartbeatLost + 1 }) s))) ∧
  (∀ (s : State) (l : Fin 2), s.stack.links[l].missed < s.stack.cfg.miss →
    exec (.heartbeatMiss l) s = .next s) ∧
  (∀ (s : State) (l : Fin 2) (p : Fin 8), s.stack.paired = true → s.stack.links[l].suspect = false →
    s.stack.links[l].peerPos = some p → (suspectLink l s).stack.links[l].suspect = true) ∧
  (∀ s : State, s.stack.paired = true → ∃ t u : State, exec .heartbeatSend s = .next t ∧
    (∀ l : Fin 2, u.stack.links[l].fresh = false ∧ u.stack.links[l].missed =
      if s.stack.links[l].fresh then 0 else s.stack.links[l].missed + 1) ∧
    u = s.modStack (fun x => { x with links := u.stack.links }) ∧
    t = forAll [linkE, linkW] (fun l v => sendOn l 0x10 0xFF 1 1 (heartbeatPayload v) none v) u) ∧
  (∀ s : State, s.stack.paired = false → exec .heartbeatSend s = .next s ∧ exec .stateSend s = .next s) ∧
  (∀ s : State, s.stack.paired = true → exec .stateSend s = .next (forAll [linkE, linkW]
    (fun l t => sendOn l 0x20 0xFF 1 1 (statePayload t) none t) s)) ∧
  (∀ (s : State) (l : Fin 2) (type dst hops key : Nat) (b : Bytes) (x : Option ReplBody), linkLive s l = true →
    stackKeyHeld s key dst = true → ∃ f, (sendOn l type dst hops key b x s).stack.links[l].lastOut = some f ∧
      f.type = type ∧ f.dst = dst ∧ f.hops = hops ∧ f.key = key ∧ f.payload = b ∧ f.repl = x ∧
      f.seq = s.stack.seqOut[seqIndex key dst] ∧ f.term = s.stack.term ∧
      (sendOn l type dst hops key b x s).stack.seqOut[seqIndex key dst] = f.seq + 1) ∧
  (∀ (s : State) (id : Nat) (f : ReplFrame), s.stack.frames.find? (fun f => decide (f.id = id)) = some f →
    f.seqs.length < 64 → ∃ t, exec (.replicationRetransmit id) s = .next
        (sendTo (bodyType f.body) f.dst.val (bodyKey f.body) [] (some f.body) t) ∧
      t = s.modStack fun x => { x with frames := x.frames.map fun y => if y.id = id
        then { y with seqs := y.seqs ++ [s.stack.seqOut[seqIndex (bodyKey f.body) f.dst.val]] } else y }) ∧
  (∀ (s : State) (id : Nat), s.stack.frames = [] → exec (.replicationRetransmit id) s = .next s) ∧
  (∀ s : State, exec .pairingStepTimeout s = .next (failPairing s)) ∧
  (∀ s : State, s.stack.pairing = none → failPairing s = s) ∧
  (∀ s : State, s.stack.pairing ≠ none → ∃ t, exec .pairingStepTimeout s = .next t ∧
    t.stack.pairing = none) ∧
  (∀ s : State, s.stack.witnessWait = true →
    exec .witnessTimeout s = .next (s.modStack fun t => { t with witnessWait := false })) ∧
  (∀ s : State, s.stack.witnessWait = false → isPrimary s = true →
    exec .witnessTimeout s = .next (forAll ((fins 8).filter fun p => decide (2 ≤ p.val) &&
      decide (s.stack.members[p].state = 3)) removeMember s)) ∧
  (∀ (s : State) (b : Nat) (k : Bytes), s.stack.newKeyAt = some b → s.stack.newKey = some k → b ≤ nowSec s →
    s.stack.paired = true →
    exec .stackKeySwitch s = .next (beginWrite ⟨40, 3, k, .stack 0, none⟩ (s.modStack fun t =>
      { t with newKey := none, newKeyAt := none, oldKey := some (material (slotAt s 40)) }))) ∧
  (∀ s : State, s.stack.newKeyAt = none → exec .stackKeySwitch s = .next s) ∧
  (∀ s : State, exec .stackOldKeyExpiry s = .next (s.modStack fun t => { t with oldKey := none })) ∧
  (∀ s : State, s.stack.detaching ≠ none → exec .detachAckTimeout s = .next (leaveStack s)) ∧
  (∀ s : State, s.stack.detaching = none → exec .detachAckTimeout s = .next s) ∧
  (∀ (s : State) (l : Fin 2), s.stack.upstream ≠ some l →
    exec (.stackTransferInterval l) s = .next (s.modLink l fun x => { x with exchanges := [] })) ∧
  (∀ (s : State) (l : Fin 2), s.stack.paired = true → s.stack.upstream = some l →
    s.stack.links[l].exchanges.length < 50 →
    exec (.stackTransferInterval l) s =
      .next (refMiss stackRef (s.modLink l fun x => { x with exchanges := [] }))) ∧
  (∀ (s : State) (l : Fin 2) (e : Exchange), s.stack.paired = true → s.stack.upstream = some l →
    50 ≤ s.stack.links[l].exchanges.length → (∀ x ∈ s.stack.links[l].exchanges, x = e) →
    ∃ (t : State) (v : Int) (w : Nat), exec (.stackTransferInterval l) s = .next (refArrival stackRef
      (takeOffset stackRef v (now s) (t.modRef stackRef fun x => { x with uncertainty := w }))) ∧
      v = rdiv ((s.stack.links[l].exchanges.map (·.theta)).foldl (· + ·) 0)
        s.stack.links[l].exchanges.length ∧ t.refs = s.refs ∧ t.stack.links[l].exchanges = [] ∧
      t.stack.links[l].counters = s.stack.links[l].counters)
end

