-- ==== Sys2Proof/Laws/Command.lean ====
section
/-! SUPPORT. What the shared shapes of commands do (14 R384, 15 R409, R411), once for all commands. -/

namespace Sys2Proof.Machine

/-- With no fitting request in hand a command changes nothing. -/
theorem runCommand_absent {op : Nat} {ok : Bool} {r : Req} {f : Pend → State → State × Ans} {s : State}
    (h : ready op r s = none) : runCommand op ok r f s = .next s := by
  simp only [runCommand, h]

/-- A command with its request in hand runs its own rules and is answered. -/
theorem runCommand_ready {op : Nat} {ok : Bool} {r : Req} {f : Pend → State → State × Ans} {s : State}
    {p : Pend} (h : ready op r s = some p) (k : ok = true) :
    runCommand op ok r f s = .next (answer r.src (f p s).2 (f p s).1) := by
  simp only [runCommand, h, k, if_true]

/-- A body of the wrong length is answered with E_LENGTH. -/
theorem runCommand_length {op : Nat} {ok : Bool} {r : Req} {f : Pend → State → State × Ans} {s : State}
    {p : Pend} (h : ready op r s = some p) (k : ok = false) :
    runCommand op ok r f s = .next (finish r.src eLength [] s) := by
  simp only [runCommand, h, k, answer, Bool.false_eq_true, if_false]

theorem runSimple_ok {op len : Nat} {r : Req} {f : State → Except Nat State} {s t : State}
    (h : Asks op len r s) (k : f s = .ok t) :
    runSimple op len r f s = .next (finish r.src stOk [] t) := by
  obtain ⟨hl, p, hp⟩ := h
  simp only [runSimple, runCommand, hp, hl, decide_true, if_true, k, reply, answer]

theorem runSimple_error {op len : Nat} {r : Req} {f : State → Except Nat State} {s : State} {e : Nat}
    (h : Asks op len r s) (k : f s = .error e) :
    runSimple op len r f s = .next (finish r.src e [] s) := by
  obtain ⟨hl, p, hp⟩ := h
  simp only [runSimple, runCommand, hp, hl, decide_true, if_true, k, reply, answer]

theorem runRead_ok {op : Nat} {ok : Bool} {r : Req} {f : State → Except Nat Bytes} {s : State} {p : Pend}
    {b : Bytes} (h : ready op r s = some p) (l : ok = true) (k : f s = .ok b) :
    runRead op ok r f s = .next (finish r.src stOk b s) := by
  simp only [runRead, runCommand, h, l, if_true, k, answer]

theorem runReadBack_ok {op : Nat} {flds : List Fld} {r : Req} {index : Nat} {get : State → Option Rows}
    {s : State} {rows : Rows} (h : Asks op 4 r s) (k : get s = some rows) :
    runReadBack op flds r index get s = .next (finish r.src stOk (readBackBody flds index rows) s) := by
  obtain ⟨hl, p, hp⟩ := h
  exact runRead_ok hp (by simp only [hl, decide_true]) (by simp only [k])

theorem runAccepted_ok {op len : Nat} {r : Req} {f : Nat → State → Except Nat State} {s t : State}
    {p : Pend} (hl : r.len = len) (h : ready op r s = some p) (k : f p.sequence s = .ok t) :
    runAccepted op len r f s = .next (finish r.src stAccepted [] t) := by
  simp only [runAccepted, runCommand, h, hl, decide_true, if_true, k, answer]

theorem runConfig_ok {op : Nat} {flds : List Fld} {r : Req} {g : GReq} {get : State → Option Rows}
    {put : Rows → State → Except Nat State} {s t : State} {rows rows' : Rows}
    (h : Fits op flds r g rows rows' s) (hg : get s = some rows) (hp : put rows' s = .ok t) :
    runConfig op flds r g get put s = .next (finish r.src stOk [] t) := by
  obtain ⟨p, n, h1, h2, h3, h4, h5⟩ := h
  simp only [runConfig, h1, hg, h3, h4, h5, hp, Nat.not_le.mpr h2, if_false, ne_eq, not_true_eq_false,
    Bool.not_true, Bool.false_eq_true, reply, answer]

theorem runConfig_error {op : Nat} {flds : List Fld} {r : Req} {g : GReq} {get : State → Option Rows}
    {put : Rows → State → Except Nat State} {s : State} {e : Nat} {rows rows' : Rows}
    (h : Fits op flds r g rows rows' s) (hg : get s = some rows) (hp : put rows' s = .error e) :
    runConfig op flds r g get put s = .next (finish r.src e [] s) := by
  obtain ⟨p, n, h1, h2, h3, h4, h5⟩ := h
  simp only [runConfig, h1, hg, h3, h4, h5, hp, Nat.not_le.mpr h2, if_false, ne_eq, not_true_eq_false,
    Bool.not_true, Bool.false_eq_true, reply, answer]

/-- A condition that holds lets the rest of a judgement go on. -/
theorem need_true {α : Type} {c : Bool} {e : Nat} {k : Unit → Except Nat α} (h : c = true) :
    (need c e >>= k) = k () := by
  subst h
  rfl

theorem need_false {α : Type} {c : Bool} {e : Nat} {k : Unit → Except Nat α} (h : c = false) :
    (need c e >>= k) = .error e := by
  subst h
  rfl

end Sys2Proof.Machine
end

