-- ==== Sys2Proof/Laws/Dispatch.lean ====
section
/-! SUPPORT. The arm of each constructor, so that no proof unfolds `exec`. -/

namespace Sys2Proof.Machine

@[simp] theorem exec_speedMode r mode s :
    exec (.speedMode r mode) s = execSpeedMode r mode s := rfl
@[simp] theorem exec_timeSet r t0 setAt s :
    exec (.timeSet r t0 setAt) s = execTimeSet r t0 setAt s := rfl
@[simp] theorem exec_timeStep r amount s :
    exec (.timeStep r amount) s = execTimeStep r amount s := rfl
@[simp] theorem exec_timeRestart r s :
    exec (.timeRestart r) s = execTimeRestart r s := rfl
@[simp] theorem exec_leapTable r base expiry entries s :
    exec (.leapTable r base expiry entries) s = execLeapTable r base expiry entries s := rfl
@[simp] theorem exec_bootReport r s :
    exec (.bootReport r) s = execBootReport r s := rfl
@[simp] theorem exec_scribeRestart r s :
    exec (.scribeRestart r) s = execScribeRestart r s := rfl
@[simp] theorem exec_deviceReset r deviceId s :
    exec (.deviceReset r deviceId) s = execDeviceReset r deviceId s := rfl
@[simp] theorem exec_mailboxReset r s :
    exec (.mailboxReset r) s = execMailboxReset r s := rfl
@[simp] theorem exec_firmwareWrite r slot slotOffset length s :
    exec (.firmwareWrite r slot slotOffset length) s = execFirmwareWrite r slot slotOffset length s := rfl
@[simp] theorem exec_firmwareStage r slot s :
    exec (.firmwareStage r slot) s = execFirmwareStage r slot s := rfl
@[simp] theorem exec_firmwareConfirm r s :
    exec (.firmwareConfirm r) s = execFirmwareConfirm r s := rfl
@[simp] theorem exec_userLoad r length header s :
    exec (.userLoad r length header) s = execUserLoad r length header s := rfl
@[simp] theorem exec_userUnload r s :
    exec (.userUnload r) s = execUserUnload r s := rfl
@[simp] theorem exec_referenceConfigure r g s :
    exec (.referenceConfigure r g) s = execReferenceConfigure r g s := rfl
@[simp] theorem exec_monitorConfigure r g s :
    exec (.monitorConfigure r g) s = execMonitorConfigure r g s := rfl
@[simp] theorem exec_selectionConfigure r g s :
    exec (.selectionConfigure r g) s = execSelectionConfigure r g s := rfl
@[simp] theorem exec_referenceEnable r index enable s :
    exec (.referenceEnable r index enable) s = execReferenceEnable r index enable s := rfl
@[simp] theorem exec_referenceRelease r index action s :
    exec (.referenceRelease r index action) s = execReferenceRelease r index action s := rfl
@[simp] theorem exec_referenceReject r index s :
    exec (.referenceReject r index) s = execReferenceReject r index s := rfl
@[simp] theorem exec_forceSelect r index s :
    exec (.forceSelect r index) s = execForceSelect r index s := rfl
@[simp] theorem exec_temperatureReport r index temp s :
    exec (.temperatureReport r index temp) s = execTemperatureReport r index temp s := rfl
@[simp] theorem exec_selectionHook r action s :
    exec (.selectionHook r action) s = execSelectionHook r action s := rfl
@[simp] theorem exec_referenceStatus r first count s :
    exec (.referenceStatus r first count) s = execReferenceStatus r first count s := rfl
@[simp] theorem exec_ductusConfigure r g s :
    exec (.ductusConfigure r g) s = execDuctusConfigure r g s := rfl
@[simp] theorem exec_clockModel r g s :
    exec (.clockModel r g) s = execClockModel r g s := rfl
@[simp] theorem exec_dpllConfigure r g s :
    exec (.dpllConfigure r g) s = execDpllConfigure r g s := rfl
@[simp] theorem exec_dpllEnable r channel enable s :
    exec (.dpllEnable r channel enable) s = execDpllEnable r channel enable s := rfl
@[simp] theorem exec_modelExport r s :
    exec (.modelExport r) s = execModelExport r s := rfl
@[simp] theorem exec_modelImport r items s :
    exec (.modelImport r items) s = execModelImport r items s := rfl
@[simp] theorem exec_marginConfigure r g s :
    exec (.marginConfigure r g) s = execMarginConfigure r g s := rfl
@[simp] theorem exec_ductusStatus r s :
    exec (.ductusStatus r) s = execDuctusStatus r s := rfl
@[simp] theorem exec_marginStatus r s :
    exec (.marginStatus r) s = execMarginStatus r s := rfl
@[simp] theorem exec_apllConfigure r g s :
    exec (.apllConfigure r g) s = execApllConfigure r g s := rfl
@[simp] theorem exec_outputConfigure r g s :
    exec (.outputConfigure r g) s = execOutputConfigure r g s := rfl
@[simp] theorem exec_realign r channelMask evoutMask frameMask rate s :
    exec (.realign r channelMask evoutMask frameMask rate) s = execRealign r channelMask evoutMask frameMask rate s := rfl
@[simp] theorem exec_evoutProgram r g s :
    exec (.evoutProgram r g) s = execEvoutProgram r g s := rfl
@[simp] theorem exec_evinConfigure r g s :
    exec (.evinConfigure r g) s = execEvinConfigure r g s := rfl
@[simp] theorem exec_loopbackCheck r source count tolerance s :
    exec (.loopbackCheck r source count tolerance) s = execLoopbackCheck r source count tolerance s := rfl
@[simp] theorem exec_outputStatus r s :
    exec (.outputStatus r) s = execOutputStatus r s := rfl
@[simp] theorem exec_portMode r mode s :
    exec (.portMode r mode) s = execPortMode r mode s := rfl
@[simp] theorem exec_portConfigure r g s :
    exec (.portConfigure r g) s = execPortConfigure r g s := rfl
@[simp] theorem exec_vlanList r mac entries s :
    exec (.vlanList r mac entries) s = execVlanList r mac entries s := rfl
@[simp] theorem exec_steeringTable r rules s :
    exec (.steeringTable r rules) s = execSteeringTable r rules s := rfl
@[simp] theorem exec_queueConfigure r g s :
    exec (.queueConfigure r g) s = execQueueConfigure r g s := rfl
@[simp] theorem exec_egressConfigure r g s :
    exec (.egressConfigure r g) s = execEgressConfigure r g s := rfl
@[simp] theorem exec_gateList r mac cycle base entries s :
    exec (.gateList r mac cycle base entries) s = execGateList r mac cycle base entries s := rfl
@[simp] theorem exec_portStatus r mac s :
    exec (.portStatus r mac) s = execPortStatus r mac s := rfl
@[simp] theorem exec_egressStatus r mac s :
    exec (.egressStatus r mac) s = execEgressStatus r mac s := rfl
@[simp] theorem exec_serviceAddressConfigure r g s :
    exec (.serviceAddressConfigure r g) s = execServiceAddressConfigure r g s := rfl
@[simp] theorem exec_rotationConfigure r g s :
    exec (.rotationConfigure r g) s = execRotationConfigure r g s := rfl
@[simp] theorem exec_rotateNow r s :
    exec (.rotateNow r) s = execRotateNow r s := rfl
@[simp] theorem exec_invalidateKey r keyId s :
    exec (.invalidateKey r keyId) s = execInvalidateKey r keyId s := rfl
@[simp] theorem exec_cookieMint r entries s :
    exec (.cookieMint r entries) s = execCookieMint r entries s := rfl
@[simp] theorem exec_policingProfile r g s :
    exec (.policingProfile r g) s = execPolicingProfile r g s := rfl
@[simp] theorem exec_ntsStatus r address s :
    exec (.ntsStatus r address) s = execNtsStatus r address s := rfl
@[simp] theorem exec_ptpServiceConfigure r g s :
    exec (.ptpServiceConfigure r g) s = execPtpServiceConfigure r g s := rfl
@[simp] theorem exec_ptpGlobalConfigure r g s :
    exec (.ptpGlobalConfigure r g) s = execPtpGlobalConfigure r g s := rfl
@[simp] theorem exec_sessionRead r first count s :
    exec (.sessionRead r first count) s = execSessionRead r first count s := rfl
@[simp] theorem exec_saConfigure r g s :
    exec (.saConfigure r g) s = execSaConfigure r g s := rfl
@[simp] theorem exec_keyReplace r sa which keyId handle s :
    exec (.keyReplace r sa which keyId handle) s = execKeyReplace r sa which keyId handle s := rfl
@[simp] theorem exec_saInvalidate r sa s :
    exec (.saInvalidate r sa) s = execSaInvalidate r sa s := rfl
@[simp] theorem exec_clientEntry r g s :
    exec (.clientEntry r g) s = execClientEntry r g s := rfl
@[simp] theorem exec_clientConfigure r g s :
    exec (.clientConfigure r g) s = execClientConfigure r g s := rfl
@[simp] theorem exec_ptpStatus r address s :
    exec (.ptpStatus r address) s = execPtpStatus r address s := rfl
@[simp] theorem exec_lifeCycle r fromState target deviceId s :
    exec (.lifeCycle r fromState target deviceId) s = execLifeCycle r fromState target deviceId s := rfl
@[simp] theorem exec_zeroise r deviceId s :
    exec (.zeroise r deviceId) s = execZeroise r deviceId s := rfl
@[simp] theorem exec_tamperConfigure r g s :
    exec (.tamperConfigure r g) s = execTamperConfigure r g s := rfl
@[simp] theorem exec_attestation r nonce sigAlg s :
    exec (.attestation r nonce sigAlg) s = execAttestation r nonce sigAlg s := rfl
@[simp] theorem exec_identityRead r s :
    exec (.identityRead r) s = execIdentityRead r s := rfl
@[simp] theorem exec_attestRotate r s :
    exec (.attestRotate r) s = execAttestRotate r s := rfl
@[simp] theorem exec_importRotate r s :
    exec (.importRotate r) s = execImportRotate r s := rfl
@[simp] theorem exec_keyImport r sa which algorithm keyId s :
    exec (.keyImport r sa which algorithm keyId) s = execKeyImport r sa which algorithm keyId s := rfl
@[simp] theorem exec_saKeyDerive r sa which keyId context s :
    exec (.saKeyDerive r sa which keyId context) s = execSaKeyDerive r sa which keyId context s := rfl
@[simp] theorem exec_saKeyExport r sa s :
    exec (.saKeyExport r sa) s = execSaKeyExport r sa s := rfl
@[simp] theorem exec_seal r length label s :
    exec (.seal r length label) s = execSeal r length label s := rfl
@[simp] theorem exec_unseal r length s :
    exec (.unseal r length) s = execUnseal r length s := rfl
@[simp] theorem exec_entropySample r count s :
    exec (.entropySample r count) s = execEntropySample r count s := rfl
@[simp] theorem exec_keyStatus r first count s :
    exec (.keyStatus r first count) s = execKeyStatus r first count s := rfl
@[simp] theorem exec_gnssPortConfigure r g s :
    exec (.gnssPortConfigure r g) s = execGnssPortConfigure r g s := rfl
@[simp] theorem exec_trackingConfigure r g s :
    exec (.trackingConfigure r g) s = execTrackingConfigure r g s := rfl
@[simp] theorem exec_consistencyConfigure r g s :
    exec (.consistencyConfigure r g) s = execConsistencyConfigure r g s := rfl
@[simp] theorem exec_exclusionList r entries s :
    exec (.exclusionList r entries) s = execExclusionList r entries s := rfl
@[simp] theorem exec_positionSet r port x y z unc s :
    exec (.positionSet r port x y z unc) s = execPositionSet r port x y z unc s := rfl
@[simp] theorem exec_fixConfigure r g s :
    exec (.fixConfigure r g) s = execFixConfigure r g s := rfl
@[simp] theorem exec_orbitExport r s :
    exec (.orbitExport r) s = execOrbitExport r s := rfl
@[simp] theorem exec_orbitImport r items s :
    exec (.orbitImport r items) s = execOrbitImport r items s := rfl
@[simp] theorem exec_groupDelayMeasure r port duration s :
    exec (.groupDelayMeasure r port duration) s = execGroupDelayMeasure r port duration s := rfl
@[simp] theorem exec_snapshot r trigger evin duration overwrite start s :
    exec (.snapshot r trigger evin duration overwrite start) s = execSnapshot r trigger evin duration overwrite start s := rfl
@[simp] theorem exec_snapshotRelease r s :
    exec (.snapshotRelease r) s = execSnapshotRelease r s := rfl
@[simp] theorem exec_snapshotExport r hostAddr length s :
    exec (.snapshotExport r hostAddr length) s = execSnapshotExport r hostAddr length s := rfl
@[simp] theorem exec_gnssStatus r port s :
    exec (.gnssStatus r port) s = execGnssStatus r port s := rfl
@[simp] theorem exec_groupDelayResult r port s :
    exec (.groupDelayResult r port) s = execGroupDelayResult r port s := rfl
@[simp] theorem exec_channelAllocate r s :
    exec (.channelAllocate r) s = execChannelAllocate r s := rfl
@[simp] theorem exec_channelRelease r channel s :
    exec (.channelRelease r channel) s = execChannelRelease r channel s := rfl
@[simp] theorem exec_channelConfigure r g s :
    exec (.channelConfigure r g) s = execChannelConfigure r g s := rfl
@[simp] theorem exec_streamConfigure r g s :
    exec (.streamConfigure r g) s = execStreamConfigure r g s := rfl
@[simp] theorem exec_channelStatus r first count s :
    exec (.channelStatus r first count) s = execChannelStatus r first count s := rfl
@[simp] theorem exec_stackConfigure r g s :
    exec (.stackConfigure r g) s = execStackConfigure r g s := rfl
@[simp] theorem exec_pair r link peerDeviceId s :
    exec (.pair r link peerDeviceId) s = execPair r link peerDeviceId s := rfl
@[simp] theorem exec_detach r s :
    exec (.detach r) s = execDetach r s := rfl
@[simp] theorem exec_witness r verdict term s :
    exec (.witness r verdict term) s = execWitness r verdict term s := rfl
@[simp] theorem exec_stackStatus r s :
    exec (.stackStatus r) s = execStackStatus r s := rfl
@[simp] theorem exec_calibrationRead r offset length s :
    exec (.calibrationRead r offset length) s = execCalibrationRead r offset length s := rfl
@[simp] theorem exec_calibrationWrite r generation offset data s :
    exec (.calibrationWrite r generation offset data) s = execCalibrationWrite r generation offset data s := rfl
@[simp] theorem exec_calibrationDigest r s :
    exec (.calibrationDigest r) s = execCalibrationDigest r s := rfl
@[simp] theorem exec_counterRead r first count s :
    exec (.counterRead r first count) s = execCounterRead r first count s := rfl
@[simp] theorem exec_filterConfigure r g s :
    exec (.filterConfigure r g) s = execFilterConfigure r g s := rfl
@[simp] theorem exec_wearLedgerRead r first count s :
    exec (.wearLedgerRead r first count) s = execWearLedgerRead r first count s := rfl
@[simp] theorem exec_persistentLog r first count s :
    exec (.persistentLog r first count) s = execPersistentLog r first count s := rfl
@[simp] theorem exec_referenceConfigureReadBack r index s :
    exec (.referenceConfigureReadBack r index) s = execReferenceConfigureReadBack r index s := rfl
@[simp] theorem exec_monitorConfigureReadBack r index s :
    exec (.monitorConfigureReadBack r index) s = execMonitorConfigureReadBack r index s := rfl
@[simp] theorem exec_selectionConfigureReadBack r index s :
    exec (.selectionConfigureReadBack r index) s = execSelectionConfigureReadBack r index s := rfl
@[simp] theorem exec_ductusConfigureReadBack r index s :
    exec (.ductusConfigureReadBack r index) s = execDuctusConfigureReadBack r index s := rfl
@[simp] theorem exec_clockModelReadBack r index s :
    exec (.clockModelReadBack r index) s = execClockModelReadBack r index s := rfl
@[simp] theorem exec_dpllConfigureReadBack r index s :
    exec (.dpllConfigureReadBack r index) s = execDpllConfigureReadBack r index s := rfl
@[simp] theorem exec_marginConfigureReadBack r index s :
    exec (.marginConfigureReadBack r index) s = execMarginConfigureReadBack r index s := rfl
@[simp] theorem exec_apllConfigureReadBack r index s :
    exec (.apllConfigureReadBack r index) s = execApllConfigureReadBack r index s := rfl
@[simp] theorem exec_outputConfigureReadBack r index s :
    exec (.outputConfigureReadBack r index) s = execOutputConfigureReadBack r index s := rfl
@[simp] theorem exec_evoutProgramReadBack r index s :
    exec (.evoutProgramReadBack r index) s = execEvoutProgramReadBack r index s := rfl
@[simp] theorem exec_evinConfigureReadBack r index s :
    exec (.evinConfigureReadBack r index) s = execEvinConfigureReadBack r index s := rfl
@[simp] theorem exec_portConfigureReadBack r index s :
    exec (.portConfigureReadBack r index) s = execPortConfigureReadBack r index s := rfl
@[simp] theorem exec_queueConfigureReadBack r index s :
    exec (.queueConfigureReadBack r index) s = execQueueConfigureReadBack r index s := rfl
@[simp] theorem exec_egressConfigureReadBack r index s :
    exec (.egressConfigureReadBack r index) s = execEgressConfigureReadBack r index s := rfl
@[simp] theorem exec_serviceAddressConfigReadBack r index s :
    exec (.serviceAddressConfigReadBack r index) s = execServiceAddressConfigReadBack r index s := rfl
@[simp] theorem exec_rotationConfigureReadBack r index s :
    exec (.rotationConfigureReadBack r index) s = execRotationConfigureReadBack r index s := rfl
@[simp] theorem exec_policingProfileReadBack r index s :
    exec (.policingProfileReadBack r index) s = execPolicingProfileReadBack r index s := rfl
@[simp] theorem exec_ptpServiceConfigureReadBack r index s :
    exec (.ptpServiceConfigureReadBack r index) s = execPtpServiceConfigureReadBack r index s := rfl
@[simp] theorem exec_ptpGlobalConfigureReadBack r index s :
    exec (.ptpGlobalConfigureReadBack r index) s = execPtpGlobalConfigureReadBack r index s := rfl
@[simp] theorem exec_saConfigureReadBack r index s :
    exec (.saConfigureReadBack r index) s = execSaConfigureReadBack r index s := rfl
@[simp] theorem exec_clientEntryReadBack r index s :
    exec (.clientEntryReadBack r index) s = execClientEntryReadBack r index s := rfl
@[simp] theorem exec_clientConfigureReadBack r index s :
    exec (.clientConfigureReadBack r index) s = execClientConfigureReadBack r index s := rfl
@[simp] theorem exec_tamperConfigureReadBack r index s :
    exec (.tamperConfigureReadBack r index) s = execTamperConfigureReadBack r index s := rfl
@[simp] theorem exec_gnssPortConfigureReadBack r index s :
    exec (.gnssPortConfigureReadBack r index) s = execGnssPortConfigureReadBack r index s := rfl
@[simp] theorem exec_trackingConfigureReadBack r index s :
    exec (.trackingConfigureReadBack r index) s = execTrackingConfigureReadBack r index s := rfl
@[simp] theorem exec_consistencyConfigureReadBack r index s :
    exec (.consistencyConfigureReadBack r index) s = execConsistencyConfigureReadBack r index s := rfl
@[simp] theorem exec_fixConfigureReadBack r index s :
    exec (.fixConfigureReadBack r index) s = execFixConfigureReadBack r index s := rfl
@[simp] theorem exec_channelConfigureReadBack r index s :
    exec (.channelConfigureReadBack r index) s = execChannelConfigureReadBack r index s := rfl
@[simp] theorem exec_streamConfigureReadBack r index s :
    exec (.streamConfigureReadBack r index) s = execStreamConfigureReadBack r index s := rfl
@[simp] theorem exec_stackConfigureReadBack r index s :
    exec (.stackConfigureReadBack r index) s = execStackConfigureReadBack r index s := rfl
@[simp] theorem exec_filterConfigureReadBack r index s :
    exec (.filterConfigureReadBack r index) s = execFilterConfigureReadBack r index s := rfl
@[simp] theorem exec_commandCall t block opcode sequence length flags s :
    exec (.commandCall t block opcode sequence length flags) s = execCommandCall t block opcode sequence length flags s := rfl
@[simp] theorem exec_eventWait t block areaMask timeout s :
    exec (.eventWait t block areaMask timeout) s = execEventWait t block areaMask timeout s := rfl
@[simp] theorem exec_timeCall t block s :
    exec (.timeCall t block) s = execTimeCall t block s := rfl
@[simp] theorem exec_sleep t block microseconds s :
    exec (.sleep t block microseconds) s = execSleep t block microseconds s := rfl
@[simp] theorem exec_hookWait t block s :
    exec (.hookWait t block) s = execHookWait t block s := rfl
@[simp] theorem exec_hookAnswer t block answer s :
    exec (.hookAnswer t block answer) s = execHookAnswer t block answer s := rfl
@[simp] theorem exec_signalSet t block handler s :
    exec (.signalSet t block handler) s = execSignalSet t block handler s := rfl
@[simp] theorem exec_signalReturn t s :
    exec (.signalReturn t) s = execSignalReturn t s := rfl
@[simp] theorem exec_exit t s :
    exec (.exit t) s = execExit t s := rfl
@[simp] theorem exec_unknownSystemCall t number s :
    exec (.unknownSystemCall t number) s = execUnknownSystemCall t number s := rfl
@[simp] theorem exec_taskReturn t s :
    exec (.taskReturn t) s = execTaskReturn t s := rfl
@[simp] theorem exec_userTaskFault t instruction s :
    exec (.userTaskFault t instruction) s = execUserTaskFault t instruction s := rfl
@[simp] theorem exec_sleepExpiry t s :
    exec (.sleepExpiry t) s = execSleepExpiry t s := rfl
@[simp] theorem exec_eventWaitTimeout t s :
    exec (.eventWaitTimeout t) s = execEventWaitTimeout t s := rfl
@[simp] theorem exec_hookTimeout t s :
    exec (.hookTimeout t) s = execHookTimeout t s := rfl
@[simp] theorem exec_mailboxDoorbell m s :
    exec (.mailboxDoorbell m) s = execMailboxDoorbell m s := rfl
@[simp] theorem exec_emergencyDoorbell p s :
    exec (.emergencyDoorbell p) s = execEmergencyDoorbell p s := rfl
@[simp] theorem exec_emClaim p s :
    exec (.emClaim p) s = execEmClaim p s := rfl
@[simp] theorem exec_emRelease p s :
    exec (.emRelease p) s = execEmRelease p s := rfl
@[simp] theorem exec_emOwnershipTimeout s :
    exec .emOwnershipTimeout s = execEmOwnershipTimeout s := rfl
@[simp] theorem exec_adminLock s :
    exec .adminLock s = execAdminLock s := rfl
@[simp] theorem exec_cwLatch s :
    exec .cwLatch s = execCwLatch s := rfl
@[simp] theorem exec_dpDataRead s :
    exec .dpDataRead s = execDpDataRead s := rfl
@[simp] theorem exec_dpDataWrite value s :
    exec (.dpDataWrite value) s = execDpDataWrite value s := rfl
@[simp] theorem exec_bar2Access addr size write s :
    exec (.bar2Access addr size write) s = execBar2Access addr size write s := rfl
@[simp] theorem exec_dpDmaGo value s :
    exec (.dpDmaGo value) s = execDpDmaGo value s := rfl
@[simp] theorem exec_dpDmaComplete hostData s :
    exec (.dpDmaComplete hostData) s = execDpDmaComplete hostData s := rfl
@[simp] theorem exec_dpInject slot s :
    exec (.dpInject slot) s = execDpInject slot s := rfl
@[simp] theorem exec_ringEnable tx ring value s :
    exec (.ringEnable tx ring value) s = execRingEnable tx ring value s := rfl
@[simp] theorem exec_ringDisable tx ring value s :
    exec (.ringDisable tx ring value) s = execRingDisable tx ring value s := rfl
@[simp] theorem exec_ringTailWrite tx ring tail s :
    exec (.ringTailWrite tx ring tail) s = execRingTailWrite tx ring tail s := rfl
@[simp] theorem exec_pqFlush q s :
    exec (.pqFlush q) s = execPqFlush q s := rfl
@[simp] theorem exec_pqConsumerWrite q value s :
    exec (.pqConsumerWrite q value) s = execPqConsumerWrite q value s := rfl
@[simp] theorem exec_panQueuePop q s :
    exec (.panQueuePop q) s = execPanQueuePop q s := rfl
@[simp] theorem exec_lowHalfRead addr s :
    exec (.lowHalfRead addr) s = execLowHalfRead addr s := rfl
@[simp] theorem exec_registerWrite addr size value s :
    exec (.registerWrite addr size value) s = execRegisterWrite addr size value s := rfl
@[simp] theorem exec_spiRead addr words s :
    exec (.spiRead addr words) s = execSpiRead addr words s := rfl
@[simp] theorem exec_spiWrite addr words s :
    exec (.spiWrite addr words) s = execSpiWrite addr words s := rfl
@[simp] theorem exec_interruptHoldoffEnd v s :
    exec (.interruptHoldoffEnd v) s = execInterruptHoldoffEnd v s := rfl
@[simp] theorem exec_watchdogExpiry s :
    exec .watchdogExpiry s = execWatchdogExpiry s := rfl
@[simp] theorem exec_hostSideReset s :
    exec .hostSideReset s = execHostSideReset s := rfl
@[simp] theorem exec_d3hotEntry s :
    exec .d3hotEntry s = execD3hotEntry s := rfl
@[simp] theorem exec_resetAssert s :
    exec .resetAssert s = execResetAssert s := rfl
@[simp] theorem exec_resetRelease b s :
    exec (.resetRelease b) s = execResetRelease b s := rfl
@[simp] theorem exec_supervisorStart s :
    exec .supervisorStart s = execSupervisorStart s := rfl
@[simp] theorem exec_scribeRestartComplete regions s :
    exec (.scribeRestartComplete regions) s = execScribeRestartComplete regions s := rfl
@[simp] theorem exec_tamperDetected detector onBattery s :
    exec (.tamperDetected detector onBattery) s = execTamperDetected detector onBattery s := rfl
@[simp] theorem exec_lifeCycleComplete s :
    exec .lifeCycleComplete s = execLifeCycleComplete s := rfl
@[simp] theorem exec_thermtrip s :
    exec .thermtrip s = execThermtrip s := rfl
@[simp] theorem exec_thermalGuard s :
    exec .thermalGuard s = execThermalGuard s := rfl
@[simp] theorem exec_temperatureSample sensors s :
    exec (.temperatureSample sensors) s = execTemperatureSample sensors s := rfl
@[simp] theorem exec_modeReservationsDrained s :
    exec .modeReservationsDrained s = execModeReservationsDrained s := rfl
@[simp] theorem exec_supplySetPointReached s :
    exec .supplySetPointReached s = execSupplySetPointReached s := rfl
@[simp] theorem exec_paceWithinGoverningRatio s :
    exec .paceWithinGoverningRatio s = execPaceWithinGoverningRatio s := rfl
@[simp] theorem exec_governingWaitTimeout s :
    exec .governingWaitTimeout s = execGoverningWaitTimeout s := rfl
@[simp] theorem exec_regulatorTimeout s :
    exec .regulatorTimeout s = execRegulatorTimeout s := rfl
@[simp] theorem exec_paceUpdate nts ptp sched host device s :
    exec (.paceUpdate nts ptp sched host device) s = execPaceUpdate nts ptp sched host device s := rfl
@[simp] theorem exec_paceMirrorUpdate largest s :
    exec (.paceMirrorUpdate largest) s = execPaceMirrorUpdate largest s := rfl
@[simp] theorem exec_wearRatioUpdate means junctionMean s :
    exec (.wearRatioUpdate means junctionMean) s = execWearRatioUpdate means junctionMean s := rfl
@[simp] theorem exec_bistFailure cls unit s :
    exec (.bistFailure cls unit) s = execBistFailure cls unit s := rfl
@[simp] theorem exec_wornUnitRetired cls unit s :
    exec (.wornUnitRetired cls unit) s = execWornUnitRetired cls unit s := rfl
@[simp] theorem exec_scribeCoreTakeover core s :
    exec (.scribeCoreTakeover core) s = execScribeCoreTakeover core s := rfl
@[simp] theorem exec_eccError subarray row column uncorrectable unit victim s :
    exec (.eccError subarray row column uncorrectable unit victim) s = execEccError subarray row column uncorrectable unit victim s := rfl
@[simp] theorem exec_sramRepairComplete subarray s :
    exec (.sramRepairComplete subarray) s = execSramRepairComplete subarray s := rfl
@[simp] theorem exec_filteredCounterWrap n s :
    exec (.filteredCounterWrap n) s = execFilteredCounterWrap n s := rfl
@[simp] theorem exec_counterOverflowSignal n resume s :
    exec (.counterOverflowSignal n resume) s = execCounterOverflowSignal n resume s := rfl
@[simp] theorem exec_frameReceived f s :
    exec (.frameReceived f) s = execFrameReceived f s := rfl
@[simp] theorem exec_pauseFrame mac p s :
    exec (.pauseFrame mac p) s = execPauseFrame mac p s := rfl
@[simp] theorem exec_pauseWindowOpen mac cls s :
    exec (.pauseWindowOpen mac cls) s = execPauseWindowOpen mac cls s := rfl
@[simp] theorem exec_pauseWindowClose mac cls s :
    exec (.pauseWindowClose mac cls) s = execPauseWindowClose mac cls s := rfl
@[simp] theorem exec_pauseBudgetExhausted mac s :
    exec (.pauseBudgetExhausted mac) s = execPauseBudgetExhausted mac s := rfl
@[simp] theorem exec_pauseBudgetRestore mac s :
    exec (.pauseBudgetRestore mac) s = execPauseBudgetRestore mac s := rfl
@[simp] theorem exec_linkUp mac s :
    exec (.linkUp mac) s = execLinkUp mac s := rfl
@[simp] theorem exec_linkDown mac reason s :
    exec (.linkDown mac reason) s = execLinkDown mac reason s := rfl
@[simp] theorem exec_laneSkewChange mac lane skew s :
    exec (.laneSkewChange mac lane skew) s = execLaneSkewChange mac lane skew s := rfl
@[simp] theorem exec_lpiEntry mac s :
    exec (.lpiEntry mac) s = execLpiEntry mac s := rfl
@[simp] theorem exec_lpiWake mac s :
    exec (.lpiWake mac) s = execLpiWake mac s := rfl
@[simp] theorem exec_ntsTransaction engine s :
    exec (.ntsTransaction engine) s = execNtsTransaction engine s := rfl
@[simp] theorem exec_ptpTransaction engine s :
    exec (.ptpTransaction engine) s = execPtpTransaction engine s := rfl
@[simp] theorem exec_negotiation s :
    exec .negotiation s = execNegotiation s := rfl
@[simp] theorem exec_grantExpirySweep s :
    exec .grantExpirySweep s = execGrantExpirySweep s := rfl
@[simp] theorem exec_cancellingTimeout address s :
    exec (.cancellingTimeout address) s = execCancellingTimeout address s := rfl
@[simp] theorem exec_scheduledMessage client index msgType s :
    exec (.scheduledMessage client index msgType) s = execScheduledMessage client index msgType s := rfl
@[simp] theorem exec_ptpClientMessage m s :
    exec (.ptpClientMessage m) s = execPtpClientMessage m s := rfl
@[simp] theorem exec_grantRenewal entry msgType s :
    exec (.grantRenewal entry msgType) s = execGrantRenewal entry msgType s := rfl
@[simp] theorem exec_announceTimeout entry s :
    exec (.announceTimeout entry) s = execAnnounceTimeout entry s := rfl
@[simp] theorem exec_followUpTimeout entry s :
    exec (.followUpTimeout entry) s = execFollowUpTimeout entry s := rfl
@[simp] theorem exec_measIntervalEnd ptpu s :
    exec (.measIntervalEnd ptpu) s = execMeasIntervalEnd ptpu s := rfl
@[simp] theorem exec_pathStableExpiry ptpu s :
    exec (.pathStableExpiry ptpu) s = execPathStableExpiry ptpu s := rfl
@[simp] theorem exec_policingBankSwap s :
    exec .policingBankSwap s = execPolicingBankSwap s := rfl
@[simp] theorem exec_sealDeadlineMissed mac id s :
    exec (.sealDeadlineMissed mac id) s = execSealDeadlineMissed mac id s := rfl
@[simp] theorem exec_strokeLaunch mac id s :
    exec (.strokeLaunch mac id) s = execStrokeLaunch mac id s := rfl
@[simp] theorem exec_hostTimedReserve ring s :
    exec (.hostTimedReserve ring) s = execHostTimedReserve ring s := rfl
@[simp] theorem exec_transmitDescriptor ring d s :
    exec (.transmitDescriptor ring d) s = execTransmitDescriptor ring d s := rfl
@[simp] theorem exec_untimedFrameStart mac s :
    exec (.untimedFrameStart mac) s = execUntimedFrameStart mac s := rfl
@[simp] theorem exec_frameTransmitted mac s :
    exec (.frameTransmitted mac) s = execFrameTransmitted mac s := rfl
@[simp] theorem exec_gateListStart mac s :
    exec (.gateListStart mac) s = execGateListStart mac s := rfl
@[simp] theorem exec_gateEntryBoundary mac s :
    exec (.gateEntryBoundary mac) s = execGateEntryBoundary mac s := rfl
@[simp] theorem exec_panQueueItemCommit q s :
    exec (.panQueueItemCommit q) s = execPanQueueItemCommit q s := rfl
@[simp] theorem exec_panQueueDelivery q s :
    exec (.panQueueDelivery q) s = execPanQueueDelivery q s := rfl
@[simp] theorem exec_handover s :
    exec .handover s = execHandover s := rfl
@[simp] theorem exec_timeStepApply s :
    exec .timeStepApply s = execTimeStepApply s := rfl
@[simp] theorem exec_recoveryStart s :
    exec .recoveryStart s = execRecoveryStart s := rfl
@[simp] theorem exec_clockRestart xoEdges xoLost s :
    exec (.clockRestart xoEdges xoLost) s = execClockRestart xoEdges xoLost s := rfl
@[simp] theorem exec_leapTableExpiry s :
    exec .leapTableExpiry s = execLeapTableExpiry s := rfl
@[simp] theorem exec_evinEdge evin rising sub s :
    exec (.evinEdge evin rising sub) s = execEvinEdge evin rising sub s := rfl
@[simp] theorem exec_evoutPulse evout s :
    exec (.evoutPulse evout) s = execEvoutPulse evout s := rfl
@[simp] theorem exec_nibEdge channel falling sub s :
    exec (.nibEdge channel falling sub) s = execNibEdge channel falling sub s := rfl
@[simp] theorem exec_nibLockUpdate channel lineB held endOfTrim s :
    exec (.nibLockUpdate channel lineB held endOfTrim) s = execNibLockUpdate channel lineB held endOfTrim s := rfl
@[simp] theorem exec_nibLineSwap channel worn s :
    exec (.nibLineSwap channel worn) s = execNibLineSwap channel worn s := rfl
@[simp] theorem exec_nibPairTimeout channel s :
    exec (.nibPairTimeout channel) s = execNibPairTimeout channel s := rfl
@[simp] theorem exec_nibGateEnd channel s :
    exec (.nibGateEnd channel) s = execNibGateEnd channel s := rfl
@[simp] theorem exec_referenceEvaluation s :
    exec .referenceEvaluation s = execReferenceEvaluation s := rfl
@[simp] theorem exec_activityDeadline ref s :
    exec (.activityDeadline ref) s = execActivityDeadline ref s := rfl
@[simp] theorem exec_frequencyGateEnd ref ensemble s :
    exec (.frequencyGateEnd ref ensemble) s = execFrequencyGateEnd ref ensemble s := rfl
@[simp] theorem exec_phaseAverageEnd ref s :
    exec (.phaseAverageEnd ref) s = execPhaseAverageEnd ref s := rfl
@[simp] theorem exec_qualTimeExpiry ref s :
    exec (.qualTimeExpiry ref) s = execQualTimeExpiry ref s := rfl
@[simp] theorem exec_wtrExpiry ref s :
    exec (.wtrExpiry ref) s = execWtrExpiry ref s := rfl
@[simp] theorem exec_switchMeasureEnd s :
    exec .switchMeasureEnd s = execSwitchMeasureEnd s := rfl
@[simp] theorem exec_switchComplete s :
    exec .switchComplete s = execSwitchComplete s := rfl
@[simp] theorem exec_disagreementCheck first second s :
    exec (.disagreementCheck first second) s = execDisagreementCheck first second s := rfl
@[simp] theorem exec_gnssEpoch e s :
    exec (.gnssEpoch e) s = execGnssEpoch e s := rfl
@[simp] theorem exec_satelliteExclusionEnd port sat s :
    exec (.satelliteExclusionEnd port sat) s = execSatelliteExclusionEnd port sat s := rfl
@[simp] theorem exec_checkClear port check s :
    exec (.checkClear port check) s = execCheckClear port check s := rfl
@[simp] theorem exec_gnssClockFault port s :
    exec (.gnssClockFault port) s = execGnssClockFault port s := rfl
@[simp] theorem exec_gnssClockRestored port s :
    exec (.gnssClockRestored port) s = execGnssClockRestored port s := rfl
@[simp] theorem exec_correlatorDump channel codeWord carrierWord next cn0 assign s :
    exec (.correlatorDump channel codeWord carrierWord next cn0 assign) s = execCorrelatorDump channel codeWord carrierWord next cn0 assign s := rfl
@[simp] theorem exec_channelTimeout channel s :
    exec (.channelTimeout channel) s = execChannelTimeout channel s := rfl
@[simp] theorem exec_gnssHistogram port i q s :
    exec (.gnssHistogram port i q) s = execGnssHistogram port i q s := rfl
@[simp] theorem exec_surveyComplete port x y z unc horizontal vertical s :
    exec (.surveyComplete port x y z unc horizontal vertical) s = execSurveyComplete port x y z unc horizontal vertical s := rfl
@[simp] theorem exec_snapshotArmedStart s :
    exec .snapshotArmedStart s = execSnapshotArmedStart s := rfl
@[simp] theorem exec_snapshotComplete samplesA samplesB periodA periodB octets s :
    exec (.snapshotComplete samplesA samplesB periodA periodB octets) s = execSnapshotComplete samplesA samplesB periodA periodB octets s := rfl
@[simp] theorem exec_snapshotExportComplete s :
    exec .snapshotExportComplete s = execSnapshotExportComplete s := rfl
@[simp] theorem exec_groupDelayMeasureEnd port means errors s :
    exec (.groupDelayMeasureEnd port means errors) s = execGroupDelayMeasureEnd port means errors s := rfl
@[simp] theorem exec_ductusUpdate f s :
    exec (.ductusUpdate f) s = execDuctusUpdate f s := rfl
@[simp] theorem exec_lockDwellExpiry s :
    exec .lockDwellExpiry s = execLockDwellExpiry s := rfl
@[simp] theorem exec_xoLostClear s :
    exec .xoLostClear s = execXoLostClear s := rfl
@[simp] theorem exec_updateTimeout s :
    exec .updateTimeout s = execUpdateTimeout s := rfl
@[simp] theorem exec_dpllTracking channel s :
    exec (.dpllTracking channel) s = execDpllTracking channel s := rfl
@[simp] theorem exec_dpllPulling channel s :
    exec (.dpllPulling channel) s = execDpllPulling channel s := rfl
@[simp] theorem exec_marginEvaluation freezeGap s :
    exec (.marginEvaluation freezeGap) s = execMarginEvaluation freezeGap s := rfl
@[simp] theorem exec_statementSigned s :
    exec .statementSigned s = execStatementSigned s := rfl
@[simp] theorem exec_boundStale s :
    exec .boundStale s = execBoundStale s := rfl
@[simp] theorem exec_boundStaleSaturation s :
    exec .boundStaleSaturation s = execBoundStaleSaturation s := rfl
@[simp] theorem exec_classHoldExpiry mac s :
    exec (.classHoldExpiry mac) s = execClassHoldExpiry mac s := rfl
@[simp] theorem exec_apllLock apll s :
    exec (.apllLock apll) s = execApllLock apll s := rfl
@[simp] theorem exec_apllSlip apll s :
    exec (.apllSlip apll) s = execApllSlip apll s := rfl
@[simp] theorem exec_apllReengageTimeout apll s :
    exec (.apllReengageTimeout apll) s = execApllReengageTimeout apll s := rfl
@[simp] theorem exec_limiterGate apll excursion s :
    exec (.limiterGate apll excursion) s = execLimiterGate apll excursion s := rfl
@[simp] theorem exec_outputAlignedStart ckout s :
    exec (.outputAlignedStart ckout) s = execOutputAlignedStart ckout s := rfl
@[simp] theorem exec_realignSlewEnd channel s :
    exec (.realignSlewEnd channel) s = execRealignSlewEnd channel s := rfl
@[simp] theorem exec_frameStep evout index s :
    exec (.frameStep evout index) s = execFrameStep evout index s := rfl
@[simp] theorem exec_loopbackComplete source mean std s :
    exec (.loopbackComplete source mean std) s = execLoopbackComplete source mean std s := rfl
@[simp] theorem exec_rotationCheck s :
    exec .rotationCheck s = execRotationCheck s := rfl
@[simp] theorem exec_keyActivation s :
    exec .keyActivation s = execKeyActivation s := rfl
@[simp] theorem exec_keyRetire s :
    exec .keyRetire s = execKeyRetire s := rfl
@[simp] theorem exec_mintComplete s :
    exec .mintComplete s = execMintComplete s := rfl
@[simp] theorem exec_keyWriteCommit slot s :
    exec (.keyWriteCommit slot) s = execKeyWriteCommit slot s := rfl
@[simp] theorem exec_compactionComplete s :
    exec .compactionComplete s = execCompactionComplete s := rfl
@[simp] theorem exec_drbgReseed s :
    exec .drbgReseed s = execDrbgReseed s := rfl
@[simp] theorem exec_healthTestFailure adaptive s :
    exec (.healthTestFailure adaptive) s = execHealthTestFailure adaptive s := rfl
@[simp] theorem exec_attestationReady s :
    exec .attestationReady s = execAttestationReady s := rfl
@[simp] theorem exec_entropySampleComplete samples s :
    exec (.entropySampleComplete samples) s = execEntropySampleComplete samples s := rfl
@[simp] theorem exec_firmwareWriteComplete s :
    exec .firmwareWriteComplete s = execFirmwareWriteComplete s := rfl
@[simp] theorem exec_firmwareStageComplete result s :
    exec (.firmwareStageComplete result) s = execFirmwareStageComplete result s := rfl
@[simp] theorem exec_stackLinkUp link s :
    exec (.stackLinkUp link) s = execStackLinkUp link s := rfl
@[simp] theorem exec_stackLinkDown link s :
    exec (.stackLinkDown link) s = execStackLinkDown link s := rfl
@[simp] theorem exec_markerSend link sub s :
    exec (.markerSend link sub) s = execMarkerSend link sub s := rfl
@[simp] theorem exec_markerReceived link number checkOk sub s :
    exec (.markerReceived link number checkOk sub) s = execMarkerReceived link number checkOk sub s := rfl
@[simp] theorem exec_stackTransferInterval link s :
    exec (.stackTransferInterval link) s = execStackTransferInterval link s := rfl
@[simp] theorem exec_hello h m s :
    exec (.hello h m) s = execHello h m s := rfl
@[simp] theorem exec_confirm h sigOk s :
    exec (.confirm h sigOk) s = execConfirm h sigOk s := rfl
@[simp] theorem exec_admission h verdict s :
    exec (.admission h verdict) s = execAdmission h verdict s := rfl
@[simp] theorem exec_heartbeat h role position ductusState flags members deviceId s :
    exec (.heartbeat h role position ductusState flags members deviceId) s = execHeartbeat h role position ductusState flags members deviceId s := rfl
@[simp] theorem exec_tt h txMarker rxMarker tTx tRx coreBound growth horizon recordSeq bootCount anchorKind chain s :
    exec (.tt h txMarker rxMarker tTx tRx coreBound growth horizon recordSeq bootCount anchorKind chain) s = execTt h txMarker rxMarker tTx tRx coreBound growth horizon recordSeq bootCount anchorKind chain s := rfl
@[simp] theorem exec_state h octets s :
    exec (.state h octets) s = execState h octets s := rfl
@[simp] theorem exec_config h records s :
    exec (.config h records) s = execConfig h records s := rfl
@[simp] theorem exec_session h entries s :
    exec (.session h entries) s = execSession h entries s := rfl
@[simp] theorem exec_key h k s :
    exec (.key h k) s = execKey h k s := rfl
@[simp] theorem exec_ack h ackedType ackedSeq bases s :
    exec (.ack h ackedType ackedSeq bases) s = execAck h ackedType ackedSeq bases s := rfl
@[simp] theorem exec_activate h keyId oldKeyId a retireAt s :
    exec (.activate h keyId oldKeyId a retireAt) s = execActivate h keyId oldKeyId a retireAt s := rfl
@[simp] theorem exec_resign h newTerm s :
    exec (.resign h newTerm) s = execResign h newTerm s := rfl
@[simp] theorem exec_leave h position s :
    exec (.leave h position) s = execLeave h position s := rfl
@[simp] theorem exec_stackFrameRelay h s :
    exec (.stackFrameRelay h) s = execStackFrameRelay h s := rfl
@[simp] theorem exec_heartbeatSend s :
    exec .heartbeatSend s = execHeartbeatSend s := rfl
@[simp] theorem exec_heartbeatMiss link s :
    exec (.heartbeatMiss link) s = execHeartbeatMiss link s := rfl
@[simp] theorem exec_replicationRetransmit id s :
    exec (.replicationRetransmit id) s = execReplicationRetransmit id s := rfl
@[simp] theorem exec_stateSend s :
    exec .stateSend s = execStateSend s := rfl
@[simp] theorem exec_pairingStepTimeout s :
    exec .pairingStepTimeout s = execPairingStepTimeout s := rfl
@[simp] theorem exec_witnessTimeout s :
    exec .witnessTimeout s = execWitnessTimeout s := rfl
@[simp] theorem exec_stackKeySwitch s :
    exec .stackKeySwitch s = execStackKeySwitch s := rfl
@[simp] theorem exec_stackOldKeyExpiry s :
    exec .stackOldKeyExpiry s = execStackOldKeyExpiry s := rfl
@[simp] theorem exec_detachAckTimeout s :
    exec .detachAckTimeout s = execDetachAckTimeout s := rfl
@[simp] theorem exec_powerFailure s :
    exec .powerFailure s = execPowerFailure s := rfl
@[simp] theorem exec_pcieLinkReturn s :
    exec .pcieLinkReturn s = execPcieLinkReturn s := rfl
@[simp] theorem exec_aliveIncrement s :
    exec .aliveIncrement s = execAliveIncrement s := rfl

end Sys2Proof.Machine
end

