-- ==== Sys2Proof/Laws/Writes.lean ====
section
/-! SUPPORT. Which parts of the state each shared operation may write: `Only ws s t` says that every part of `s` but
those of `ws` stands in `t` as before. One lemma for each operation; the rules of composition come first. -/

namespace Sys2Proof.Machine

/-- A next state differs in the parts `ws` only. -/
structure OnlyOut (ws : List Part) (s : State) (o : Out) : Prop where
  next : ∀ t, o = .next t → Only ws s t
/-- So does the state of an optional answer. -/
structure OnlyOpt (ws : List Part) (s : State) (o : Option State) : Prop where
  some : ∀ t, o = some t → Only ws s t
/-- So does the state of an optional pair. -/
structure OnlyOpt2 {α : Type} (ws : List Part) (s : State) (o : Option (α × State)) : Prop where
  some : ∀ t, o = some t → Only ws s t.2
/-- So does the state of a judgement that succeeds. -/
structure OnlyExc (ws : List Part) (s : State) (o : Except Nat State) : Prop where
  ok : ∀ t, o = .ok t → Only ws s t

theorem Only.refl (ws : List Part) (s : State) : Only ws s s := ⟨fun p _ => by cases p <;> rfl⟩
theorem Only.trans {ws : List Part} {s t u : State} (h : Only ws s t) (k : Only ws t u) : Only ws s u :=
  ⟨fun p hp => by
    have a := h.same p hp
    have b := k.same p hp
    cases p <;> simp only [samePart] at a b ⊢ <;> rw [b, a]⟩
theorem Only.mono {a b : List Part} {s t : State} (h : Only a s t) (hs : a ⊆ b) : Only b s t :=
  ⟨fun p hp => h.same p fun q => hp (hs q)⟩
theorem Only.step {a ws : List Part} {s u t : State} (h : Only ws s u) (k : Only a u t) (hs : a ⊆ ws) :
    Only ws s t := h.trans (k.mono hs)
theorem Only.each {α : Type} {ws : List Part} {f : α → State → State} {l : List α} {s u : State} (k : Only ws s u) (h : ∀ a t, Only ws t (f a t)) :
    Only ws s (forAll l f u) := by
  refine k.trans ?_
  clear k
  revert u
  unfold forAll
  induction l with
  | nil => intro u; exact .refl _ _
  | cons a l ih => intro u; exact (h a u).trans ih
theorem Only.when {ws : List Part} {f : State → State} {c : Bool} {s u : State} (k : Only ws s u) (h : Only ws u (f u)) : Only ws s (onlyIf c f u) := by
  unfold onlyIf; split
  · exact k.trans h
  · exact k
theorem Only.pair {α : Type} {ws : List Part} {s u : State} {v : α} {p : α × State} (h : Only ws s p.2) (e : p = (v, u)) : Only ws s u := by
  subst e; exact h
theorem Only.pairL {α : Type} {ws : List Part} {s u : State} {v : α} {p : State × α} (h : Only ws s p.1) (e : p = (u, v)) : Only ws s u := by
  subst e; exact h
theorem Only.ofOpt2 {α : Type} {ws : List Part} {s u : State} {v : α} {p : Option (α × State)} (h : OnlyOpt2 ws s p) (e : p = some (v, u)) : Only ws s u := h.some _ e
theorem Only.ofOpt {ws : List Part} {s u : State} {p : Option State} (h : OnlyOpt ws s p) (e : p = some u) : Only ws s u := h.some _ e
theorem Only.ofExc {ws : List Part} {s u : State} {p : Except Nat State} (h : OnlyExc ws s p) (e : p = .ok u) : Only ws s u := h.ok _ e
theorem Only.getD {ws : List Part} {s u : State} {o : Option State} (h : OnlyOpt ws s o) (k : Only ws s u) :
    Only ws s (o.getD u) := by
  cases o with
  | none => exact k
  | some t => exact h.some t rfl
theorem Only.pair3 {α β : Type} {ws : List Part} {s u : State} {v : α} {w : β} {p : α × β × State} (h : Only ws s p.2.2)
    (e : p = (v, w, u)) : Only ws s u := by subst e; exact h
theorem onlyOpt_map {α : Type} {ws : List Part} {s : State} {o : Option (α × State)} {f : α × State → State}
    (h : OnlyOpt2 ws s o) (k : ∀ x, Only ws x.2 (f x)) : OnlyOpt ws s (o.map f) :=
  ⟨fun t ht => by
    cases o with
    | none => cases ht
    | some x => cases ht; exact (h.some x rfl).trans (k x)⟩
theorem onlyOpt_mapW {α : Type} {ws : List Part} {s : State} {o : Option α} {f : α → State}
    (k : ∀ x, Only ws s (f x)) : OnlyOpt ws s (o.map f) :=
  ⟨fun t ht => by
    cases o with
    | none => cases ht
    | some x => cases ht; exact k x⟩
theorem onlyExc_bind {α : Type} {ws : List Part} {s : State} {o : Except Nat α} {k : α → Except Nat State} (h : ∀ a, OnlyExc ws s (k a)) :
    OnlyExc ws s (o >>= k) := by
  cases o with
  | error e => exact ⟨fun u hu => by cases hu⟩
  | ok a => exact h a
theorem onlyOut_next {ws : List Part} {s t : State} (h : Only ws s t) : OnlyOut ws s (.next t) :=
  ⟨fun u hu => by cases hu; exact h⟩
theorem onlyOpt_some {ws : List Part} {s t : State} (h : Only ws s t) : OnlyOpt ws s (.some t) :=
  ⟨fun u hu => by cases hu; exact h⟩
theorem onlyOpt_none {ws : List Part} {s : State} : OnlyOpt ws s .none := ⟨fun u hu => by cases hu⟩
theorem onlyOpt2_some {α : Type} {ws : List Part} {s t : State} {v : α} (h : Only ws s t) : OnlyOpt2 ws s (.some (v, t)) :=
  ⟨fun u hu => by cases hu; exact h⟩
theorem onlyOpt2_none {α : Type} {ws : List Part} {s : State} : OnlyOpt2 (α := α) ws s .none := ⟨fun u hu => by cases hu⟩
theorem onlyExc_ok {ws : List Part} {s t : State} (h : Only ws s t) : OnlyExc ws s (.ok t) :=
  ⟨fun u hu => by cases hu; exact h⟩
theorem onlyExc_pure {ws : List Part} {s t : State} (h : Only ws s t) : OnlyExc ws s (Pure.pure t) :=
  ⟨fun u hu => by cases hu; exact h⟩
theorem onlyExc_error {ws : List Part} {s : State} (e : Nat) : OnlyExc ws s (.error e) := ⟨fun u hu => by cases hu⟩
theorem onlyExc_need {ws : List Part} {s : State} {c : Bool} {e : Nat} {k : Unit → Except Nat State} (h : OnlyExc ws s (k ())) :
    OnlyExc ws s (need c e >>= k) := by
  unfold Sys2Proof.Machine.need
  split
  · exact h
  · exact onlyExc_error e
theorem onlyOpt_mono {a b : List Part} {s u : State} {o : Option State} (h : OnlyOpt a u o) (hs : a ⊆ b) (k : Only b s u) : OnlyOpt b s o :=
  ⟨fun t ht => k.trans ((h.some t ht).mono hs)⟩
theorem onlyOut_mono {a b : List Part} {s u : State} {o : Out} (h : OnlyOut a u o) (hs : a ⊆ b) (k : Only b s u) : OnlyOut b s o :=
  ⟨fun t ht => k.trans ((h.next t ht).mono hs)⟩
theorem onlyOpt2_mono {α : Type} {a b : List Part} {s u : State} {o : Option (α × State)} (h : OnlyOpt2 a u o) (hs : a ⊆ b) (k : Only b s u) : OnlyOpt2 b s o :=
  ⟨fun t ht => k.trans ((h.some t ht).mono hs)⟩
theorem onlyExc_mono {a b : List Part} {s u : State} {o : Except Nat State} (h : OnlyExc a u o) (hs : a ⊆ b) (k : Only b s u) : OnlyExc b s o :=
  ⟨fun t ht => k.trans ((h.ok t ht).mono hs)⟩
theorem modPower_only {ws : List Part} {s u : State} {f} (h : Only ws s u) (k : [Part.power] ⊆ ws) :
    Only ws s (State.modPower u f) :=
  h.step ⟨fun p hp => by cases p <;> first | rfl | simp at hp⟩ k
theorem modClock_only {ws : List Part} {s u : State} {f} (h : Only ws s u) (k : [Part.clock] ⊆ ws) :
    Only ws s (State.modClock u f) :=
  h.step ⟨fun p hp => by cases p <;> first | rfl | simp at hp⟩ k
theorem modSel_only {ws : List Part} {s u : State} {f} (h : Only ws s u) (k : [Part.sel] ⊆ ws) :
    Only ws s (State.modSel u f) :=
  h.step ⟨fun p hp => by cases p <;> first | rfl | simp at hp⟩ k
theorem modDuctus_only {ws : List Part} {s u : State} {f} (h : Only ws s u) (k : [Part.ductus] ⊆ ws) :
    Only ws s (State.modDuctus u f) :=
  h.step ⟨fun p hp => by cases p <;> first | rfl | simp at hp⟩ k
theorem modMargin_only {ws : List Part} {s u : State} {f} (h : Only ws s u) (k : [Part.margin] ⊆ ws) :
    Only ws s (State.modMargin u f) :=
  h.step ⟨fun p hp => by cases p <;> first | rfl | simp at hp⟩ k
theorem modSynth_only {ws : List Part} {s u : State} {f} (h : Only ws s u) (k : [Part.synth] ⊆ ws) :
    Only ws s (State.modSynth u f) :=
  h.step ⟨fun p hp => by cases p <;> first | rfl | simp at hp⟩ k
theorem modGnss_only {ws : List Part} {s u : State} {f} (h : Only ws s u) (k : [Part.gnss] ⊆ ws) :
    Only ws s (State.modGnss u f) :=
  h.step ⟨fun p hp => by cases p <;> first | rfl | simp at hp⟩ k
theorem modNet_only {ws : List Part} {s u : State} {f} (h : Only ws s u) (k : [Part.net] ⊆ ws) :
    Only ws s (State.modNet u f) :=
  h.step ⟨fun p hp => by cases p <;> first | rfl | simp at hp⟩ k
theorem modKeys_only {ws : List Part} {s u : State} {f} (h : Only ws s u) (k : [Part.keys] ⊆ ws) :
    Only ws s (State.modKeys u f) :=
  h.step ⟨fun p hp => by cases p <;> first | rfl | simp at hp⟩ k
theorem modStack_only {ws : List Part} {s u : State} {f} (h : Only ws s u) (k : [Part.stack] ⊆ ws) :
    Only ws s (State.modStack u f) :=
  h.step ⟨fun p hp => by cases p <;> first | rfl | simp at hp⟩ k
theorem modWear_only {ws : List Part} {s u : State} {f} (h : Only ws s u) (k : [Part.wear] ⊆ ws) :
    Only ws s (State.modWear u f) :=
  h.step ⟨fun p hp => by cases p <;> first | rfl | simp at hp⟩ k
theorem modHost_only {ws : List Part} {s u : State} {f} (h : Only ws s u) (k : [Part.host] ⊆ ws) :
    Only ws s (State.modHost u f) :=
  h.step ⟨fun p hp => by cases p <;> first | rfl | simp at hp⟩ k
theorem modRef_only {ws : List Part} {s u : State} {i f} (h : Only ws s u) (k : [Part.refs] ⊆ ws) :
    Only ws s (State.modRef u i f) :=
  h.step ⟨fun p hp => by cases p <;> first | rfl | simp at hp⟩ k
theorem modNib_only {ws : List Part} {s u : State} {i f} (h : Only ws s u) (k : [Part.nib] ⊆ ws) :
    Only ws s (State.modNib u i f) :=
  h.step ⟨fun p hp => by cases p <;> first | rfl | simp at hp⟩ k
theorem modNts_only {ws : List Part} {s u : State} {f} (h : Only ws s u) (k : [Part.net] ⊆ ws) :
    Only ws s (State.modNts u f) :=
  h.step ⟨fun p hp => by cases p <;> first | rfl | simp at hp⟩ k
theorem modPtp_only {ws : List Part} {s u : State} {f} (h : Only ws s u) (k : [Part.net] ⊆ ws) :
    Only ws s (State.modPtp u f) :=
  h.step ⟨fun p hp => by cases p <;> first | rfl | simp at hp⟩ k
theorem modMac_only {ws : List Part} {s u : State} {i f} (h : Only ws s u) (k : [Part.net] ⊆ ws) :
    Only ws s (State.modMac u i f) :=
  h.step ⟨fun p hp => by cases p <;> first | rfl | simp at hp⟩ k
theorem modApll_only {ws : List Part} {s u : State} {i f} (h : Only ws s u) (k : [Part.synth] ⊆ ws) :
    Only ws s (State.modApll u i f) :=
  h.step ⟨fun p hp => by cases p <;> first | rfl | simp at hp⟩ k
theorem modCkout_only {ws : List Part} {s u : State} {i f} (h : Only ws s u) (k : [Part.synth] ⊆ ws) :
    Only ws s (State.modCkout u i f) :=
  h.step ⟨fun p hp => by cases p <;> first | rfl | simp at hp⟩ k
theorem modEvout_only {ws : List Part} {s u : State} {i f} (h : Only ws s u) (k : [Part.synth] ⊆ ws) :
    Only ws s (State.modEvout u i f) :=
  h.step ⟨fun p hp => by cases p <;> first | rfl | simp at hp⟩ k
theorem modDpll_only {ws : List Part} {s u : State} {i f} (h : Only ws s u) (k : [Part.ductus] ⊆ ws) :
    Only ws s (State.modDpll u i f) :=
  h.step ⟨fun p hp => by cases p <;> first | rfl | simp at hp⟩ k
theorem modPort_only {ws : List Part} {s u : State} {i f} (h : Only ws s u) (k : [Part.gnss] ⊆ ws) :
    Only ws s (State.modPort u i f) :=
  h.step ⟨fun p hp => by cases p <;> first | rfl | simp at hp⟩ k
theorem modLink_only {ws : List Part} {s u : State} {i f} (h : Only ws s u) (k : [Part.stack] ⊆ ws) :
    Only ws s (State.modLink u i f) :=
  h.step ⟨fun p hp => by cases p <;> first | rfl | simp at hp⟩ k
theorem modMember_only {ws : List Part} {s u : State} {i f} (h : Only ws s u) (k : [Part.stack] ⊆ ws) :
    Only ws s (State.modMember u i f) :=
  h.step ⟨fun p hp => by cases p <;> first | rfl | simp at hp⟩ k
theorem modQueue_only {ws : List Part} {s u : State} {i f} (h : Only ws s u) (k : [Part.host] ⊆ ws) :
    Only ws s (State.modQueue u i f) :=
  h.step ⟨fun p hp => by cases p <;> first | rfl | simp at hp⟩ k
theorem modTask_only {ws : List Part} {s u : State} {i f} (h : Only ws s u) (k : [Part.host] ⊆ ws) :
    Only ws s (State.modTask u i f) :=
  h.step ⟨fun p hp => by cases p <;> first | rfl | simp at hp⟩ k
theorem modTx_only {ws : List Part} {s u : State} {i f} (h : Only ws s u) (k : [Part.host] ⊆ ws) :
    Only ws s (State.modTx u i f) :=
  h.step ⟨fun p hp => by cases p <;> first | rfl | simp at hp⟩ k
theorem modRx_only {ws : List Part} {s u : State} {i f} (h : Only ws s u) (k : [Part.host] ⊆ ws) :
    Only ws s (State.modRx u i f) :=
  h.step ⟨fun p hp => by cases p <;> first | rfl | simp at hp⟩ k

theorem dpWrite_core : ∀ x0 x1 s, Only [.host] s (dpWrite x0 x1 s) := by
  intro x0 x1 s
  unfold dpWrite
  try dsimp only
  repeat (first
    | with_reducible exact Only.refl _ _
    | with_reducible assumption
    | split
    | with_reducible apply modHost_only (k := by decide)
    | dsimp only)
theorem dpWrite_only {ws s u} {x0 x1} (h : Only ws s u) (k : [Part.host] ⊆ ws) :
    Only ws s (dpWrite x0 x1 u) :=
  h.step (dpWrite_core _ _ _) k
theorem freshBytes_core : ∀ x0 s, Only [.keys, .host] s (freshBytes x0 s).2 := by
  intro x0 s
  unfold freshBytes
  try dsimp only
  repeat (first
    | with_reducible exact Only.refl _ _
    | with_reducible assumption
    | split
    | with_reducible apply modKeys_only (k := by decide)
    | with_reducible apply modHost_only (k := by decide)
    | dsimp only)
theorem freshBytes_only {ws s u} {x0} (h : Only ws s u) (k : [Part.keys, .host] ⊆ ws) :
    Only ws s (freshBytes x0 u).2 :=
  h.step (freshBytes_core _ _) k
theorem freshChoice_core : ∀ s, Only [.host] s (freshChoice s).2 := by
  intro s
  unfold freshChoice
  try dsimp only
  repeat (first
    | with_reducible exact Only.refl _ _
    | with_reducible assumption
    | split
    | with_reducible apply modHost_only (k := by decide)
    | dsimp only)
theorem freshChoice_only {ws s u} (h : Only ws s u) (k : [Part.host] ⊆ ws) :
    Only ws s (freshChoice u).2 :=
  h.step (freshChoice_core _) k
theorem freshNat_core : ∀ s, Only [.host] s (freshNat s).2 := by
  intro s
  unfold freshNat
  try dsimp only
  repeat (first
    | with_reducible exact Only.refl _ _
    | with_reducible assumption
    | split
    | with_reducible apply modHost_only (k := by decide)
    | dsimp only)
theorem freshNat_only {ws s u} (h : Only ws s u) (k : [Part.host] ⊆ ws) :
    Only ws s (freshNat u).2 :=
  h.step (freshNat_core _) k
theorem freshInt_core : ∀ s, Only [.host] s (freshInt s).2 := by
  intro s
  unfold freshInt
  try dsimp only
  repeat (first
    | with_reducible exact Only.refl _ _
    | with_reducible assumption
    | split
    | with_reducible apply modHost_only (k := by decide)
    | dsimp only)
theorem freshInt_only {ws s u} (h : Only ws s u) (k : [Part.host] ⊆ ws) :
    Only ws s (freshInt u).2 :=
  h.step (freshInt_core _) k
theorem enqueue_core : ∀ x0 x1 s, Only [.host] s (enqueue x0 x1 s) := by
  intro x0 x1 s
  unfold enqueue
  try dsimp only
  repeat (first
    | with_reducible exact Only.refl _ _
    | with_reducible assumption
    | split
    | with_reducible apply modQueue_only (k := by decide)
    | dsimp only)
theorem enqueue_only {ws s u} {x0 x1} (h : Only ws s u) (k : [Part.host] ⊆ ws) :
    Only ws s (enqueue x0 x1 u) :=
  h.step (enqueue_core _ _ _) k
theorem raiseAt_core : ∀ x0 x1 x2 x3 s, Only [.host] s (raiseAt x0 x1 x2 x3 s) := by
  intro x0 x1 x2 x3 s
  unfold raiseAt
  try dsimp only
  repeat (first
    | with_reducible exact Only.refl _ _
    | with_reducible assumption
    | split
    | with_reducible apply enqueue_only (k := by decide)
    | dsimp only)
theorem raiseAt_only {ws s u} {x0 x1 x2 x3} (h : Only ws s u) (k : [Part.host] ⊆ ws) :
    Only ws s (raiseAt x0 x1 x2 x3 u) :=
  h.step (raiseAt_core _ _ _ _ _) k
theorem raise_core : ∀ x0 x1 x2 s, Only [.host] s (raise x0 x1 x2 s) := by
  intro x0 x1 x2 s
  unfold raise
  try dsimp only
  repeat (first
    | with_reducible exact Only.refl _ _
    | with_reducible assumption
    | split
    | with_reducible apply raiseAt_only (k := by decide)
    | dsimp only)
theorem raise_only {ws s u} {x0 x1 x2} (h : Only ws s u) (k : [Part.host] ⊆ ws) :
    Only ws s (raise x0 x1 x2 u) :=
  h.step (raise_core _ _ _ _) k
theorem completeCmd_core : ∀ x0 x1 x2 x3 s, Only [.host] s (completeCmd x0 x1 x2 x3 s) := by
  intro x0 x1 x2 x3 s
  unfold completeCmd
  try dsimp only
  repeat (first
    | with_reducible exact Only.refl _ _
    | with_reducible assumption
    | split
    | with_reducible apply raise_only (k := by decide)
    | dsimp only)
theorem completeCmd_only {ws s u} {x0 x1 x2 x3} (h : Only ws s u) (k : [Part.host] ⊆ ws) :
    Only ws s (completeCmd x0 x1 x2 x3 u) :=
  h.step (completeCmd_core _ _ _ _ _) k
theorem signalVector_core : ∀ x0 s, Only [.host] s (signalVector x0 s) := by
  intro x0 s
  unfold signalVector
  try dsimp only
  repeat (first
    | with_reducible exact Only.refl _ _
    | with_reducible assumption
    | split
    | with_reducible apply modHost_only (k := by decide)
    | dsimp only)
theorem signalVector_only {ws s u} {x0} (h : Only ws s u) (k : [Part.host] ⊆ ws) :
    Only ws s (signalVector x0 u) :=
  h.step (signalVector_core _ _) k
theorem setCause_core : ∀ x0 s, Only [.host] s (setCause x0 s) := by
  intro x0 s
  unfold setCause
  try dsimp only
  repeat (first
    | with_reducible exact Only.refl _ _
    | with_reducible assumption
    | split
    | with_reducible apply modHost_only (k := by decide)
    | with_reducible apply signalVector_only (k := by decide)
    | dsimp only)
theorem setCause_only {ws s u} {x0} (h : Only ws s u) (k : [Part.host] ⊆ ws) :
    Only ws s (setCause x0 u) :=
  h.step (setCause_core _ _) k
theorem setMbDone_core : ∀ x0 s, Only [.host] s (setMbDone x0 s) := by
  intro x0 s
  unfold setMbDone
  try dsimp only
  repeat (first
    | with_reducible exact Only.refl _ _
    | with_reducible assumption
    | split
    | with_reducible apply modHost_only (k := by decide)
    | with_reducible apply setCause_only (k := by decide)
    | dsimp only)
theorem setMbDone_only {ws s u} {x0} (h : Only ws s u) (k : [Part.host] ⊆ ws) :
    Only ws s (setMbDone x0 u) :=
  h.step (setMbDone_core _ _) k
theorem fatal_core : ∀ s, Only [.host] s (fatal s) := by
  intro s
  unfold fatal
  try dsimp only
  repeat (first
    | with_reducible exact Only.refl _ _
    | with_reducible assumption
    | split
    | with_reducible apply setCause_only (k := by decide)
    | dsimp only)
theorem fatal_only {ws s u} (h : Only ws s u) (k : [Part.host] ⊆ ws) :
    Only ws s (fatal u) :=
  h.step (fatal_core _) k
theorem flushLate_core : ∀ x0 s, Only [.net, .host] s (flushLate x0 s) := by
  intro x0 s
  unfold flushLate
  try dsimp only
  repeat (first
    | with_reducible exact Only.refl _ _
    | with_reducible assumption
    | split
    | with_reducible apply modMac_only (k := by decide)
    | with_reducible apply raise_only (k := by decide)
    | dsimp only)
theorem flushLate_only {ws s u} {x0} (h : Only ws s u) (k : [Part.net, .host] ⊆ ws) :
    Only ws s (flushLate x0 u) :=
  h.step (flushLate_core _ _) k
theorem flushSummaries_core : ∀ s, Only [.net, .host] s (flushSummaries s) := by
  intro s
  unfold flushSummaries
  try dsimp only
  repeat (first
    | with_reducible exact Only.refl _ _
    | with_reducible assumption
    | split
    | with_reducible apply modHost_only (k := by decide)
    | with_reducible apply raise_only (k := by decide)
    | with_reducible apply flushLate_only (k := by decide)
    | (with_reducible refine Only.each ?_ (fun _ _ => ?_))
    | dsimp only)
theorem flushSummaries_only {ws s u} (h : Only ws s u) (k : [Part.net, .host] ⊆ ws) :
    Only ws s (flushSummaries u) :=
  h.step (flushSummaries_core _) k
theorem markMask_core : ∀ x0 x1 x2 s, Only [.net, .host] s (markMask x0 x1 x2 s) := by
  intro x0 x1 x2 s
  unfold markMask
  try dsimp only
  repeat (first
    | with_reducible exact Only.refl _ _
    | with_reducible assumption
    | split
    | with_reducible apply modHost_only (k := by decide)
    | with_reducible apply flushSummaries_only (k := by decide)
    | dsimp only)
theorem markMask_only {ws s u} {x0 x1 x2} (h : Only ws s u) (k : [Part.net, .host] ⊆ ws) :
    Only ws s (markMask x0 x1 x2 u) :=
  h.step (markMask_core _ _ _ _) k
theorem markSummary_core : ∀ x0 x1 x2 s, Only [.net, .host] s (markSummary x0 x1 x2 s) := by
  intro x0 x1 x2 s
  unfold markSummary
  try dsimp only
  repeat (first
    | with_reducible exact Only.refl _ _
    | with_reducible assumption
    | split
    | with_reducible apply markMask_only (k := by decide)
    | dsimp only)
theorem markSummary_only {ws s u} {x0 x1 x2} (h : Only ws s u) (k : [Part.net, .host] ⊆ ws) :
    Only ws s (markSummary x0 x1 x2 u) :=
  h.step (markSummary_core _ _ _ _) k
theorem raiseOnce_core : ∀ x0 x1 x2 x3 s, Only [.net, .host] s (raiseOnce x0 x1 x2 x3 s) := by
  intro x0 x1 x2 x3 s
  unfold raiseOnce
  try dsimp only
  repeat (first
    | with_reducible exact Only.refl _ _
    | with_reducible assumption
    | split
    | with_reducible apply modHost_only (k := by decide)
    | with_reducible apply flushSummaries_only (k := by decide)
    | with_reducible apply raise_only (k := by decide)
    | dsimp only)
theorem raiseOnce_only {ws s u} {x0 x1 x2 x3} (h : Only ws s u) (k : [Part.net, .host] ⊆ ws) :
    Only ws s (raiseOnce x0 x1 x2 x3 u) :=
  h.step (raiseOnce_core _ _ _ _ _) k
theorem drawBase_core : ∀ x0 x1 x2 s, Only [.net, .stack, .host] s (drawBase x0 x1 x2 s).2 := by
  intro x0 x1 x2 s
  unfold drawBase
  try dsimp only
  repeat (first
    | with_reducible exact Only.refl _ _
    | with_reducible assumption
    | split
    | with_reducible apply modNts_only (k := by decide)
    | with_reducible apply modStack_only (k := by decide)
    | (with_reducible refine Only.pair ?_ (by assumption); apply freshNat_only (k := by decide))
    | with_reducible apply freshNat_only (k := by decide)
    | dsimp only)
theorem drawBase_only {ws s u} {x0 x1 x2} (h : Only ws s u) (k : [Part.net, .stack, .host] ⊆ ws) :
    Only ws s (drawBase x0 x1 x2 u).2 :=
  h.step (drawBase_core _ _ _ _) k
theorem takeCount_core : ∀ x0 x1 x2 x3 s, Only [.net, .stack, .host] s (takeCount x0 x1 x2 x3 s).2.2 := by
  intro x0 x1 x2 x3 s
  unfold takeCount
  try dsimp only
  repeat (first
    | with_reducible exact Only.refl _ _
    | with_reducible assumption
    | split
    | with_reducible apply modNts_only (k := by decide)
    | (with_reducible refine Only.pair ?_ (by assumption); apply drawBase_only (k := by decide))
    | with_reducible apply drawBase_only (k := by decide)
    | dsimp only)
theorem takeCount_only {ws s u} {x0 x1 x2 x3} (h : Only ws s u) (k : [Part.net, .stack, .host] ⊆ ws) :
    Only ws s (takeCount x0 x1 x2 x3 u).2.2 :=
  h.step (takeCount_core _ _ _ _ _) k
theorem takeNonce_core : ∀ x0 x1 x2 s, Only [.net, .stack, .host] s (takeNonce x0 x1 x2 s).2 := by
  intro x0 x1 x2 s
  unfold takeNonce
  try dsimp only
  repeat (first
    | with_reducible exact Only.refl _ _
    | with_reducible assumption
    | split
    | (with_reducible refine Only.pair3 ?_ (by assumption); apply takeCount_only (k := by decide))
    | with_reducible apply takeCount_only (k := by decide)
    | dsimp only)
theorem takeNonce_only {ws s u} {x0 x1 x2} (h : Only ws s u) (k : [Part.net, .stack, .host] ⊆ ws) :
    Only ws s (takeNonce x0 x1 x2 u).2 :=
  h.step (takeNonce_core _ _ _ _) k
theorem takeIv_core : ∀ x0 x1 x2 s, Only [.net, .stack, .host] s (takeIv x0 x1 x2 s).2 := by
  intro x0 x1 x2 s
  unfold takeIv
  try dsimp only
  repeat (first
    | with_reducible exact Only.refl _ _
    | with_reducible assumption
    | split
    | (with_reducible refine Only.pair3 ?_ (by assumption); apply takeCount_only (k := by decide))
    | with_reducible apply takeCount_only (k := by decide)
    | dsimp only)
theorem takeIv_only {ws s u} {x0 x1 x2} (h : Only ws s u) (k : [Part.net, .stack, .host] ⊆ ws) :
    Only ws s (takeIv x0 x1 x2 u).2 :=
  h.step (takeIv_core _ _ _ _) k
theorem dropBases_core : ∀ x0 x1 s, Only [.net, .stack] s (dropBases x0 x1 s) := by
  intro x0 x1 s
  unfold dropBases
  try dsimp only
  repeat (first
    | with_reducible exact Only.refl _ _
    | with_reducible assumption
    | split
    | with_reducible apply modStack_only (k := by decide)
    | with_reducible apply modNts_only (k := by decide)
    | dsimp only)
theorem dropBases_only {ws s u} {x0 x1} (h : Only ws s u) (k : [Part.net, .stack] ⊆ ws) :
    Only ws s (dropBases x0 x1 u) :=
  h.step (dropBases_core _ _ _) k
theorem ntpOctets_core : ∀ x0 x1 s, Only [.net, .stack, .host] s (ntpOctets x0 x1 s).2 := by
  intro x0 x1 s
  unfold ntpOctets
  try dsimp only
  repeat (first
    | with_reducible exact Only.refl _ _
    | with_reducible assumption
    | split
    | (with_reducible refine Only.pair ?_ (by assumption); apply takeNonce_only (k := by decide))
    | with_reducible apply takeNonce_only (k := by decide)
    | dsimp only)
theorem ntpOctets_only {ws s u} {x0 x1} (h : Only ws s u) (k : [Part.net, .stack, .host] ⊆ ws) :
    Only ws s (ntpOctets x0 x1 u).2 :=
  h.step (ntpOctets_core _ _ _) k
theorem withAuth_core : ∀ x0 x1 x2 s, Only [.net, .stack, .host] s (withAuth x0 x1 x2 s).2 := by
  intro x0 x1 x2 s
  unfold withAuth
  try dsimp only
  repeat (first
    | with_reducible exact Only.refl _ _
    | with_reducible assumption
    | split
    | (with_reducible refine Only.pair ?_ (by assumption); apply takeIv_only (k := by decide))
    | with_reducible apply takeIv_only (k := by decide)
    | dsimp only)
theorem withAuth_only {ws s u} {x0 x1 x2} (h : Only ws s u) (k : [Part.net, .stack, .host] ⊆ ws) :
    Only ws s (withAuth x0 x1 x2 u).2 :=
  h.step (withAuth_core _ _ _ _) k
theorem ptpOctets_core : ∀ x0 x1 s, Only [.net, .stack, .host] s (ptpOctets x0 x1 s).2 := by
  intro x0 x1 s
  unfold ptpOctets
  try dsimp only
  repeat (first
    | with_reducible exact Only.refl _ _
    | with_reducible assumption
    | split
    | (with_reducible refine Only.pair ?_ (by assumption); apply withAuth_only (k := by decide))
    | with_reducible apply withAuth_only (k := by decide)
    | dsimp only)
theorem ptpOctets_only {ws s u} {x0 x1} (h : Only ws s u) (k : [Part.net, .stack, .host] ⊆ ws) :
    Only ws s (ptpOctets x0 x1 u).2 :=
  h.step (ptpOctets_core _ _ _) k
theorem placeTime_core : ∀ x0 x1 x2 s, Only [.net, .stack, .host] s (placeTime x0 x1 x2 s).2 := by
  intro x0 x1 x2 s
  unfold placeTime
  try dsimp only
  repeat (first
    | with_reducible exact Only.refl _ _
    | with_reducible assumption
    | split
    | (with_reducible refine Only.pair ?_ (by assumption); apply ntpOctets_only (k := by decide))
    | with_reducible apply ntpOctets_only (k := by decide)
    | (with_reducible refine Only.pair ?_ (by assumption); apply ptpOctets_only (k := by decide))
    | with_reducible apply ptpOctets_only (k := by decide)
    | dsimp only)
theorem placeTime_only {ws s u} {x0 x1 x2} (h : Only ws s u) (k : [Part.net, .stack, .host] ⊆ ws) :
    Only ws s (placeTime x0 x1 x2 u).2 :=
  h.step (placeTime_core _ _ _ _) k
theorem reserve_core : ∀ x0 s, OnlyOpt2 [.net, .stack, .host] s (reserve x0 s) := by
  intro x0 s
  unfold reserve
  split
  · exact onlyOpt2_none
  · exact onlyOpt2_some (modNet_only (modMac_only (placeTime_only (.refl _ _) (by decide)) (by decide)) (by decide))
theorem reserve_only {ws s u} {x0} (h : Only ws s u) (k : [Part.net, .stack, .host] ⊆ ws) :
    OnlyOpt2 ws s (reserve x0 u) :=
  onlyOpt2_mono (reserve_core _ _) k h
theorem txWriteBack_core : ∀ x0 x1 s, Only [.host] s (txWriteBack x0 x1 s) := by
  intro x0 x1 s
  unfold txWriteBack
  try dsimp only
  repeat (first
    | with_reducible exact Only.refl _ _
    | with_reducible assumption
    | split
    | with_reducible apply modTx_only (k := by decide)
    | with_reducible apply signalVector_only (k := by decide)
    | dsimp only)
theorem txWriteBack_only {ws s u} {x0 x1} (h : Only ws s u) (k : [Part.host] ⊆ ws) :
    Only ws s (txWriteBack x0 x1 u) :=
  h.step (txWriteBack_core _ _ _) k
theorem hostReport_core : ∀ x0 x1 x2 x3 x4 x5 s, Only [.host] s (hostReport x0 x1 x2 x3 x4 x5 s) := by
  intro x0 x1 x2 x3 x4 x5 s
  unfold hostReport
  try dsimp only
  repeat (first
    | with_reducible exact Only.refl _ _
    | with_reducible assumption
    | split
    | with_reducible apply txWriteBack_only (k := by decide)
    | with_reducible apply enqueue_only (k := by decide)
    | dsimp only)
theorem hostReport_only {ws s u} {x0 x1 x2 x3 x4 x5} (h : Only ws s u) (k : [Part.host] ⊆ ws) :
    Only ws s (hostReport x0 x1 x2 x3 x4 x5 u) :=
  h.step (hostReport_core _ _ _ _ _ _ _) k
theorem hostDrop_core : ∀ x0 x1 x2 x3 x4 s, Only [.host] s (hostDrop x0 x1 x2 x3 x4 s) := by
  intro x0 x1 x2 x3 x4 s
  unfold hostDrop
  try dsimp only
  repeat (first
    | with_reducible exact Only.refl _ _
    | with_reducible assumption
    | split
    | with_reducible apply hostReport_only (k := by decide)
    | dsimp only)
theorem hostDrop_only {ws s u} {x0 x1 x2 x3 x4} (h : Only ws s u) (k : [Part.host] ⊆ ws) :
    Only ws s (hostDrop x0 x1 x2 x3 x4 u) :=
  h.step (hostDrop_core _ _ _ _ _ _) k
theorem dropReservation_core : ∀ x0 x1 x2 s, Only [.net, .host] s (dropReservation x0 x1 x2 s) := by
  intro x0 x1 x2 s
  unfold dropReservation
  try dsimp only
  repeat (first
    | with_reducible exact Only.refl _ _
    | with_reducible assumption
    | split
    | with_reducible apply modMac_only (k := by decide)
    | with_reducible apply hostDrop_only (k := by decide)
    | dsimp only)
theorem dropReservation_only {ws s u} {x0 x1 x2} (h : Only ws s u) (k : [Part.net, .host] ⊆ ws) :
    Only ws s (dropReservation x0 x1 x2 u) :=
  h.step (dropReservation_core _ _ _ _) k
theorem countLate_core : ∀ x0 s, Only [.net, .host] s (countLate x0 s) := by
  intro x0 s
  unfold countLate
  try dsimp only
  repeat (first
    | with_reducible exact Only.refl _ _
    | with_reducible assumption
    | split
    | with_reducible apply modMac_only (k := by decide)
    | with_reducible apply flushSummaries_only (k := by decide)
    | dsimp only)
theorem countLate_only {ws s u} {x0} (h : Only ws s u) (k : [Part.net, .host] ⊆ ws) :
    Only ws s (countLate x0 u) :=
  h.step (countLate_core _ _) k
theorem dropAllOf_core : ∀ x0 x1 x2 s, Only [.net, .host] s (dropAllOf x0 x1 x2 s) := by
  intro x0 x1 x2 s
  unfold dropAllOf
  try dsimp only
  repeat (first
    | with_reducible exact Only.refl _ _
    | with_reducible assumption
    | split
    | with_reducible apply countLate_only (k := by decide)
    | with_reducible apply dropReservation_only (k := by decide)
    | (with_reducible refine Only.each ?_ (fun _ _ => ?_))
    | (with_reducible refine Only.when ?_ ?_)
    | dsimp only)
theorem dropAllOf_only {ws s u} {x0 x1 x2} (h : Only ws s u) (k : [Part.net, .host] ⊆ ws) :
    Only ws s (dropAllOf x0 x1 x2 u) :=
  h.step (dropAllOf_core _ _ _ _) k
theorem dropAll_core : ∀ x0 x1 s, Only [.net, .host] s (dropAll x0 x1 s) := by
  intro x0 x1 s
  unfold dropAll
  try dsimp only
  repeat (first
    | with_reducible exact Only.refl _ _
    | with_reducible assumption
    | split
    | with_reducible apply dropAllOf_only (k := by decide)
    | (with_reducible refine Only.each ?_ (fun _ _ => ?_))
    | dsimp only)
theorem dropAll_only {ws s u} {x0 x1} (h : Only ws s u) (k : [Part.net, .host] ⊆ ws) :
    Only ws s (dropAll x0 x1 u) :=
  h.step (dropAll_core _ _ _) k
theorem markLate_core : ∀ x0 x1 s, Only [.net, .host] s (markLate x0 x1 s) := by
  intro x0 x1 s
  unfold markLate
  try dsimp only
  repeat (first
    | with_reducible exact Only.refl _ _
    | with_reducible assumption
    | split
    | with_reducible apply modMac_only (k := by decide)
    | with_reducible apply flushSummaries_only (k := by decide)
    | dsimp only)
theorem markLate_only {ws s u} {x0 x1} (h : Only ws s u) (k : [Part.net, .host] ⊆ ws) :
    Only ws s (markLate x0 x1 u) :=
  h.step (markLate_core _ _ _) k
theorem missSlot_core : ∀ x0 x1 x2 x3 s, Only [.net, .stack, .host] s (missSlot x0 x1 x2 x3 s) := by
  intro x0 x1 x2 x3 s
  have hd : ∀ o, Only [.net, .stack, .host] s (countLate x0 (dropReservation x0 x1 o s)) := fun o =>
    countLate_only (dropReservation_only (.refl _ _) (by decide)) (by decide)
  unfold missSlot
  generalize (if x3 = true then ocPause else ocLate) = o
  dsimp only
  split
  · exact hd o
  · split
    · rename_i e
      exact markLate_only (modMac_only (Only.ofOpt2 (reserve_only (modMac_only (.refl _ _) (by decide)) (by decide)) e)
        (by decide)) (by decide)
    · exact hd o
theorem missSlot_only {ws s u} {x0 x1 x2 x3} (h : Only ws s u) (k : [Part.net, .stack, .host] ⊆ ws) :
    Only ws s (missSlot x0 x1 x2 x3 u) :=
  h.step (missSlot_core _ _ _ _ _) k
theorem modBox_core : ∀ x0 x1 s, Only [.host] s (modBox x0 x1 s) := by
  intro x0 x1 s
  unfold modBox
  try dsimp only
  repeat (first
    | with_reducible exact Only.refl _ _
    | with_reducible assumption
    | split
    | with_reducible apply modHost_only (k := by decide)
    | dsimp only)
theorem modBox_only {ws s u} {x0 x1} (h : Only ws s u) (k : [Part.host] ⊆ ws) :
    Only ws s (modBox x0 x1 u) :=
  h.step (modBox_core _ _ _) k
theorem modEm_core : ∀ x0 s, Only [.host] s (modEm x0 s) := by
  intro x0 s
  unfold modEm
  try dsimp only
  repeat (first
    | with_reducible exact Only.refl _ _
    | with_reducible assumption
    | split
    | with_reducible apply modHost_only (k := by decide)
    | dsimp only)
theorem modEm_only {ws s u} {x0} (h : Only ws s u) (k : [Part.host] ⊆ ws) :
    Only ws s (modEm x0 u) :=
  h.step (modEm_core _ _) k
theorem setHand_core : ∀ x0 x1 s, Only [.host] s (setHand x0 x1 s) := by
  intro x0 x1 s
  unfold setHand
  try dsimp only
  repeat (first
    | with_reducible exact Only.refl _ _
    | with_reducible assumption
    | split
    | with_reducible apply modTask_only (k := by decide)
    | with_reducible apply modBox_only (k := by decide)
    | with_reducible apply modEm_only (k := by decide)
    | dsimp only)
theorem setHand_only {ws s u} {x0 x1} (h : Only ws s u) (k : [Part.host] ⊆ ws) :
    Only ws s (setHand x0 x1 u) :=
  h.step (setHand_core _ _ _) k
theorem taskAnswer_core : ∀ x0 x1 x2 x3 s, Only [.host] s (taskAnswer x0 x1 x2 x3 s) := by
  intro x0 x1 x2 x3 s
  unfold taskAnswer
  try dsimp only
  repeat (first
    | with_reducible exact Only.refl _ _
    | with_reducible assumption
    | split
    | with_reducible apply modTask_only (k := by decide)
    | dsimp only)
theorem taskAnswer_only {ws s u} {x0 x1 x2 x3} (h : Only ws s u) (k : [Part.host] ⊆ ws) :
    Only ws s (taskAnswer x0 x1 x2 x3 u) :=
  h.step (taskAnswer_core _ _ _ _ _) k
theorem respond_core : ∀ x0 x1 x2 x3 s, Only [.host] s (respond x0 x1 x2 x3 s) := by
  intro x0 x1 x2 x3 s
  unfold respond
  try dsimp only
  repeat (first
    | with_reducible exact Only.refl _ _
    | with_reducible assumption
    | split
    | with_reducible apply dpWrite_only (k := by decide)
    | with_reducible apply setMbDone_only (k := by decide)
    | with_reducible apply modBox_only (k := by decide)
    | with_reducible apply setCause_only (k := by decide)
    | with_reducible apply modEm_only (k := by decide)
    | with_reducible apply taskAnswer_only (k := by decide)
    | dsimp only)
theorem respond_only {ws s u} {x0 x1 x2 x3} (h : Only ws s u) (k : [Part.host] ⊆ ws) :
    Only ws s (respond x0 x1 x2 x3 u) :=
  h.step (respond_core _ _ _ _ _) k
theorem countRefusal_core : ∀ x0 x1 s, Only [.host] s (countRefusal x0 x1 s) := by
  intro x0 x1 s
  unfold countRefusal
  try dsimp only
  repeat (first
    | with_reducible exact Only.refl _ _
    | with_reducible assumption
    | split
    | with_reducible apply modHost_only (k := by decide)
    | dsimp only)
theorem countRefusal_only {ws s u} {x0 x1} (h : Only ws s u) (k : [Part.host] ⊆ ws) :
    Only ws s (countRefusal x0 x1 u) :=
  h.step (countRefusal_core _ _ _) k
theorem setBehind_core : ∀ x0 x1 s, Only [.host] s (setBehind x0 x1 s) := by
  intro x0 x1 s
  unfold setBehind
  try dsimp only
  repeat (first
    | with_reducible exact Only.refl _ _
    | with_reducible assumption
    | split
    | with_reducible apply modBox_only (k := by decide)
    | with_reducible apply modEm_only (k := by decide)
    | dsimp only)
theorem setBehind_only {ws s u} {x0 x1} (h : Only ws s u) (k : [Part.host] ⊆ ws) :
    Only ws s (setBehind x0 x1 u) :=
  h.step (setBehind_core _ _ _) k
theorem takeUp_core : ∀ x0 x1 s, Only [.host] s (takeUp x0 x1 s) := by
  intro x0 x1
  induction x1 with
  | nil => intro s; unfold takeUp; apply setBehind_only (k := by decide); apply setHand_only (k := by decide); exact .refl _ _
  | cons p ps ih =>
    intro s
    unfold takeUp
    split
    · apply setBehind_only (k := by decide); apply setHand_only (k := by decide); exact .refl _ _
    · refine Only.trans ?_ (ih _)
      apply respond_only (k := by decide); apply countRefusal_only (k := by decide); exact .refl _ _
theorem takeUp_only {ws s u} {x0 x1} (h : Only ws s u) (k : [Part.host] ⊆ ws) :
    Only ws s (takeUp x0 x1 u) :=
  h.step (takeUp_core _ _ _) k
theorem finish_core : ∀ x0 x1 x2 s, Only [.host] s (finish x0 x1 x2 s) := by
  intro x0 x1 x2 s
  unfold finish
  try dsimp only
  repeat (first
    | with_reducible exact Only.refl _ _
    | with_reducible assumption
    | split
    | with_reducible apply respond_only (k := by decide)
    | with_reducible apply setHand_only (k := by decide)
    | with_reducible apply takeUp_only (k := by decide)
    | dsimp only)
theorem finish_only {ws s u} {x0 x1 x2} (h : Only ws s u) (k : [Part.host] ⊆ ws) :
    Only ws s (finish x0 x1 x2 u) :=
  h.step (finish_core _ _ _ _) k
theorem answer_core : ∀ x0 x1 s, Only [.host] s (answer x0 x1 s) := by
  intro x0 x1 s
  unfold answer
  try dsimp only
  repeat (first
    | with_reducible exact Only.refl _ _
    | with_reducible assumption
    | split
    | with_reducible apply finish_only (k := by decide)
    | with_reducible apply setHand_only (k := by decide)
    | dsimp only)
theorem answer_only {ws s u} {x0 x1} (h : Only ws s u) (k : [Part.host] ⊆ ws) :
    Only ws s (answer x0 x1 u) :=
  h.step (answer_core _ _ _) k
theorem modUnit_core : ∀ x0 x1 x2 s, Only [.wear] s (modUnit x0 x1 x2 s) := by
  intro x0 x1 x2 s
  unfold modUnit
  try dsimp only
  repeat (first
    | with_reducible exact Only.refl _ _
    | with_reducible assumption
    | split
    | with_reducible apply modWear_only (k := by decide)
    | dsimp only)
theorem modUnit_only {ws s u} {x0 x1 x2} (h : Only ws s u) (k : [Part.wear] ⊆ ws) :
    Only ws s (modUnit x0 x1 x2 u) :=
  h.step (modUnit_core _ _ _ _) k
theorem setUnit_core : ∀ x0 x1 x2 s, Only [.wear] s (setUnit x0 x1 x2 s) := by
  intro x0 x1 x2 s
  unfold setUnit
  try dsimp only
  repeat (first
    | with_reducible exact Only.refl _ _
    | with_reducible assumption
    | split
    | with_reducible apply modUnit_only (k := by decide)
    | dsimp only)
theorem setUnit_only {ws s u} {x0 x1 x2} (h : Only ws s u) (k : [Part.wear] ⊆ ws) :
    Only ws s (setUnit x0 x1 x2 u) :=
  h.step (setUnit_core _ _ _ _) k
theorem ledger_core : ∀ x0 x1 x2 x3 x4 x5 x6 s, Only [.wear] s (ledger x0 x1 x2 x3 x4 x5 x6 s) := by
  intro x0 x1 x2 x3 x4 x5 x6 s
  unfold ledger
  try dsimp only
  repeat (first
    | with_reducible exact Only.refl _ _
    | with_reducible assumption
    | split
    | with_reducible apply modWear_only (k := by decide)
    | dsimp only)
theorem ledger_only {ws s u} {x0 x1 x2 x3 x4 x5 x6} (h : Only ws s u) (k : [Part.wear] ⊆ ws) :
    Only ws s (ledger x0 x1 x2 x3 x4 x5 x6 u) :=
  h.step (ledger_core _ _ _ _ _ _ _ _) k
theorem wearEvent_core : ∀ x0 x1 x2 x3 x4 s, Only [.host] s (wearEvent x0 x1 x2 x3 x4 s) := by
  intro x0 x1 x2 x3 x4 s
  unfold wearEvent
  try dsimp only
  repeat (first
    | with_reducible exact Only.refl _ _
    | with_reducible assumption
    | split
    | with_reducible apply raise_only (k := by decide)
    | dsimp only)
theorem wearEvent_only {ws s u} {x0 x1 x2 x3 x4} (h : Only ws s u) (k : [Part.host] ⊆ ws) :
    Only ws s (wearEvent x0 x1 x2 x3 x4 u) :=
  h.step (wearEvent_core _ _ _ _ _ _) k
theorem moveChannel_core : ∀ x0 x1 s, Only [.gnss] s (moveChannel x0 x1 s) := by
  intro x0 x1 s
  unfold moveChannel
  try dsimp only
  repeat (first
    | with_reducible exact Only.refl _ _
    | with_reducible assumption
    | split
    | with_reducible apply modGnss_only (k := by decide)
    | dsimp only)
theorem moveChannel_only {ws s u} {x0 x1} (h : Only ws s u) (k : [Part.gnss] ⊆ ws) :
    Only ws s (moveChannel x0 x1 u) :=
  h.step (moveChannel_core _ _ _) k
theorem bringIn_core : ∀ x0 x1 x2 x3 s, Only [.gnss, .wear, .host] s (bringIn x0 x1 x2 x3 s) := by
  intro x0 x1 x2 x3 s
  unfold bringIn
  try dsimp only
  repeat (first
    | with_reducible exact Only.refl _ _
    | with_reducible assumption
    | split
    | with_reducible apply modGnss_only (k := by decide)
    | with_reducible apply modUnit_only (k := by decide)
    | with_reducible apply moveChannel_only (k := by decide)
    | with_reducible apply setUnit_only (k := by decide)
    | with_reducible apply wearEvent_only (k := by decide)
    | with_reducible apply ledger_only (k := by decide)
    | dsimp only)
theorem bringIn_only {ws s u} {x0 x1 x2 x3} (h : Only ws s u) (k : [Part.gnss, .wear, .host] ⊆ ws) :
    Only ws s (bringIn x0 x1 x2 x3 u) :=
  h.step (bringIn_core _ _ _ _ _) k
theorem wrapCounter_core : ∀ x0 s, Only [.wear, .host] s (wrapCounter x0 s) := by
  intro x0 s
  unfold wrapCounter
  try dsimp only
  repeat (first
    | with_reducible exact Only.refl _ _
    | with_reducible assumption
    | split
    | with_reducible apply modWear_only (k := by decide)
    | with_reducible apply raise_only (k := by decide)
    | with_reducible apply setCause_only (k := by decide)
    | dsimp only)
theorem wrapCounter_only {ws s u} {x0} (h : Only ws s u) (k : [Part.wear, .host] ⊆ ws) :
    Only ws s (wrapCounter x0 u) :=
  h.step (wrapCounter_core _ _) k
theorem countOne_core : ∀ x0 s, Only [.wear, .host] s (countOne x0 s) := by
  intro x0 s
  unfold countOne
  try dsimp only
  repeat (first
    | with_reducible exact Only.refl _ _
    | with_reducible assumption
    | split
    | with_reducible apply modWear_only (k := by decide)
    | with_reducible apply wrapCounter_only (k := by decide)
    | dsimp only)
theorem countOne_only {ws s u} {x0} (h : Only ws s u) (k : [Part.wear, .host] ⊆ ws) :
    Only ws s (countOne x0 u) :=
  h.step (countOne_core _ _) k
theorem countEvent_core : ∀ x0 x1 s, Only [.wear, .host] s (countEvent x0 x1 s) := by
  intro x0 x1 s
  unfold countEvent
  try dsimp only
  repeat (first
    | with_reducible exact Only.refl _ _
    | with_reducible assumption
    | split
    | with_reducible apply countOne_only (k := by decide)
    | (with_reducible refine Only.each ?_ (fun _ _ => ?_))
    | dsimp only)
theorem countEvent_only {ws s u} {x0 x1} (h : Only ws s u) (k : [Part.wear, .host] ⊆ ws) :
    Only ws s (countEvent x0 x1 u) :=
  h.step (countEvent_core _ _ _) k
theorem countAdmitted_core : ∀ x0 s, Only [.wear, .host] s (countAdmitted x0 s) := by
  intro x0 s
  unfold countAdmitted
  try dsimp only
  repeat (first
    | with_reducible exact Only.refl _ _
    | with_reducible assumption
    | split
    | with_reducible apply countEvent_only (k := by decide)
    | dsimp only)
theorem countAdmitted_only {ws s u} {x0} (h : Only ws s u) (k : [Part.wear, .host] ⊆ ws) :
    Only ws s (countAdmitted x0 u) :=
  h.step (countAdmitted_core _ _) k
theorem freeOctets_core : ∀ x0 s, Only [.host] s (freeOctets x0 s).2 := by
  intro x0 s
  unfold freeOctets
  try dsimp only
  repeat (first
    | with_reducible exact Only.refl _ _
    | with_reducible assumption
    | split
    | with_reducible apply modHost_only (k := by decide)
    | dsimp only)
theorem freeOctets_only {ws s u} {x0} (h : Only ws s u) (k : [Part.host] ⊆ ws) :
    Only ws s (freeOctets x0 u).2 :=
  h.step (freeOctets_core _ _) k
theorem nibResult_core : ∀ x0 x1 x2 x3 x4 x5 s, Only [.host] s (nibResult x0 x1 x2 x3 x4 x5 s) := by
  intro x0 x1 x2 x3 x4 x5 s
  unfold nibResult
  try dsimp only
  repeat (first
    | with_reducible exact Only.refl _ _
    | with_reducible assumption
    | split
    | with_reducible apply enqueue_only (k := by decide)
    | dsimp only)
theorem nibResult_only {ws s u} {x0 x1 x2 x3 x4 x5} (h : Only ws s u) (k : [Part.host] ⊆ ws) :
    Only ws s (nibResult x0 x1 x2 x3 x4 x5 u) :=
  h.step (nibResult_core _ _ _ _ _ _ _) k
theorem reportPair_core : ∀ x0 x1 x2 s, Only [.host] s (reportPair x0 x1 x2 s) := by
  intro x0 x1 x2 s
  unfold reportPair
  try dsimp only
  repeat (first
    | with_reducible exact Only.refl _ _
    | with_reducible assumption
    | split
    | with_reducible apply nibResult_only (k := by decide)
    | dsimp only)
theorem reportPair_only {ws s u} {x0 x1 x2} (h : Only ws s u) (k : [Part.host] ⊆ ws) :
    Only ws s (reportPair x0 x1 x2 u) :=
  h.step (reportPair_core _ _ _ _) k
theorem pairEdge_core : ∀ x0 x1 x2 x3 s, Only [.nib, .host] s (pairEdge x0 x1 x2 x3 s) := by
  intro x0 x1 x2 x3 s
  unfold pairEdge
  try dsimp only
  repeat (first
    | with_reducible exact Only.refl _ _
    | with_reducible assumption
    | split
    | with_reducible apply modNib_only (k := by decide)
    | with_reducible apply reportPair_only (k := by decide)
    | dsimp only)
theorem pairEdge_only {ws s u} {x0 x1 x2 x3} (h : Only ws s u) (k : [Part.nib, .host] ⊆ ws) :
    Only ws s (pairEdge x0 x1 x2 x3 u) :=
  h.step (pairEdge_core _ _ _ _ _) k
theorem endPairing_core : ∀ x0 s, Only [.nib, .host] s (endPairing x0 s) := by
  intro x0 s
  unfold endPairing
  try dsimp only
  repeat (first
    | with_reducible exact Only.refl _ _
    | with_reducible assumption
    | split
    | with_reducible apply modNib_only (k := by decide)
    | with_reducible apply reportPair_only (k := by decide)
    | with_reducible apply raise_only (k := by decide)
    | (with_reducible refine Only.each ?_ (fun _ _ => ?_))
    | dsimp only)
theorem endPairing_only {ws s u} {x0} (h : Only ws s u) (k : [Part.nib, .host] ⊆ ws) :
    Only ws s (endPairing x0 u) :=
  h.step (endPairing_core _ _) k
theorem takeChannel_core : ∀ x0 x1 x2 x3 s, OnlyOpt2 [.nib] s (takeChannel x0 x1 x2 x3 s) := by
  intro x0 x1 x2 x3 s
  unfold takeChannel
  try dsimp only
  repeat (first
    | with_reducible exact Only.refl _ _
    | with_reducible assumption
    | split
    | with_reducible apply modNib_only (k := by decide)
    | with_reducible apply onlyOpt2_some
    | with_reducible apply onlyOpt2_none
    | dsimp only)
theorem takeChannel_only {ws s u} {x0 x1 x2 x3} (h : Only ws s u) (k : [Part.nib] ⊆ ws) :
    OnlyOpt2 ws s (takeChannel x0 x1 x2 x3 u) :=
  onlyOpt2_mono (takeChannel_core _ _ _ _ _) k h
theorem releaseChannel_core : ∀ x0 s, Only [.nib, .host] s (releaseChannel x0 s) := by
  intro x0 s
  unfold releaseChannel
  try dsimp only
  repeat (first
    | with_reducible exact Only.refl _ _
    | with_reducible assumption
    | split
    | with_reducible apply modNib_only (k := by decide)
    | with_reducible apply endPairing_only (k := by decide)
    | dsimp only)
theorem releaseChannel_only {ws s u} {x0} (h : Only ws s u) (k : [Part.nib, .host] ⊆ ws) :
    Only ws s (releaseChannel x0 u) :=
  h.step (releaseChannel_core _ _) k
theorem releaseOpt_core : ∀ x0 s, Only [.nib, .host] s (releaseOpt x0 s) := by
  intro x0 s
  unfold releaseOpt
  try dsimp only
  repeat (first
    | with_reducible exact Only.refl _ _
    | with_reducible assumption
    | split
    | with_reducible apply releaseChannel_only (k := by decide)
    | dsimp only)
theorem releaseOpt_only {ws s u} {x0} (h : Only ws s u) (k : [Part.nib, .host] ⊆ ws) :
    Only ws s (releaseOpt x0 u) :=
  h.step (releaseOpt_core _ _) k
theorem nibStep_core : ∀ x0 s, Only [.nib] s (nibStep x0 s) := by
  intro x0 s; exact ⟨fun p hp => by cases p <;> first | rfl | simp at hp⟩
theorem nibStep_only {ws s u} {x0} (h : Only ws s u) (k : [Part.nib] ⊆ ws) :
    Only ws s (nibStep x0 u) :=
  h.step (nibStep_core _ _) k
theorem nibRecovery_core : ∀ s, Only [.nib] s (nibRecovery s) := by
  intro s; exact ⟨fun p hp => by cases p <;> first | rfl | simp at hp⟩
theorem nibRecovery_only {ws s u} (h : Only ws s u) (k : [Part.nib] ⊆ ws) :
    Only ws s (nibRecovery u) :=
  h.step (nibRecovery_core _) k
theorem monitorStep_core : ∀ x0 s, Only [.nib] s (monitorStep x0 s) := by
  intro x0 s; exact ⟨fun p hp => by cases p <;> first | rfl | simp at hp⟩
theorem monitorStep_only {ws s u} {x0} (h : Only ws s u) (k : [Part.nib] ⊆ ws) :
    Only ws s (monitorStep x0 u) :=
  h.step (monitorStep_core _ _) k
theorem setCkout_core : ∀ x0 x1 s, Only [.synth] s (setCkout x0 x1 s) := by
  intro x0 x1 s
  unfold setCkout
  try dsimp only
  repeat (first
    | with_reducible exact Only.refl _ _
    | with_reducible assumption
    | split
    | with_reducible apply modCkout_only (k := by decide)
    | dsimp only)
theorem setCkout_only {ws s u} {x0 x1} (h : Only ws s u) (k : [Part.synth] ⊆ ws) :
    Only ws s (setCkout x0 x1 u) :=
  h.step (setCkout_core _ _ _) k
theorem stopOutputs_core : ∀ x0 s, Only [.synth, .host] s (stopOutputs x0 s) := by
  intro x0 s
  unfold stopOutputs
  try dsimp only
  repeat (first
    | with_reducible exact Only.refl _ _
    | with_reducible assumption
    | split
    | with_reducible apply raise_only (k := by decide)
    | with_reducible apply setCkout_only (k := by decide)
    | (with_reducible refine Only.each ?_ (fun _ _ => ?_))
    | dsimp only)
theorem stopOutputs_only {ws s u} {x0} (h : Only ws s u) (k : [Part.synth, .host] ⊆ ws) :
    Only ws s (stopOutputs x0 u) :=
  h.step (stopOutputs_core _ _) k
theorem restartOutputs_core : ∀ x0 x1 s, Only [.synth, .host] s (restartOutputs x0 x1 s) := by
  intro x0 x1 s
  unfold restartOutputs
  try dsimp only
  repeat (first
    | with_reducible exact Only.refl _ _
    | with_reducible assumption
    | split
    | with_reducible apply raise_only (k := by decide)
    | with_reducible apply setCkout_only (k := by decide)
    | (with_reducible refine Only.each ?_ (fun _ _ => ?_))
    | dsimp only)
theorem restartOutputs_only {ws s u} {x0 x1} (h : Only ws s u) (k : [Part.synth, .host] ⊆ ws) :
    Only ws s (restartOutputs x0 x1 u) :=
  h.step (restartOutputs_core _ _ _) k
theorem setApll_core : ∀ x0 x1 s, Only [.synth, .host] s (setApll x0 x1 s) := by
  intro x0 x1 s
  unfold setApll
  try dsimp only
  repeat (first
    | with_reducible exact Only.refl _ _
    | with_reducible assumption
    | split
    | with_reducible apply modApll_only (k := by decide)
    | with_reducible apply raise_only (k := by decide)
    | with_reducible apply stopOutputs_only (k := by decide)
    | with_reducible apply restartOutputs_only (k := by decide)
    | dsimp only)
theorem setApll_only {ws s u} {x0 x1} (h : Only ws s u) (k : [Part.synth, .host] ⊆ ws) :
    Only ws s (setApll x0 x1 u) :=
  h.step (setApll_core _ _ _) k
theorem holdApll_core : ∀ x0 x1 s, Only [.synth, .host] s (holdApll x0 x1 s) := by
  intro x0 x1 s
  unfold holdApll
  try dsimp only
  repeat (first
    | with_reducible exact Only.refl _ _
    | with_reducible assumption
    | split
    | with_reducible apply modApll_only (k := by decide)
    | with_reducible apply setApll_only (k := by decide)
    | dsimp only)
theorem holdApll_only {ws s u} {x0 x1} (h : Only ws s u) (k : [Part.synth, .host] ⊆ ws) :
    Only ws s (holdApll x0 x1 u) :=
  h.step (holdApll_core _ _ _) k
theorem applyOne_core : ∀ x0 x1 s, Only [.synth, .host] s (applyOne x0 x1 s) := by
  intro x0 x1 s
  unfold applyOne
  try dsimp only
  repeat (first
    | with_reducible exact Only.refl _ _
    | with_reducible assumption
    | split
    | with_reducible apply modApll_only (k := by decide)
    | with_reducible apply raise_only (k := by decide)
    | dsimp only)
theorem applyOne_only {ws s u} {x0 x1} (h : Only ws s u) (k : [Part.synth, .host] ⊆ ws) :
    Only ws s (applyOne x0 x1 u) :=
  h.step (applyOne_core _ _ _) k
theorem applyControl_core : ∀ x0 s, Only [.synth, .host] s (applyControl x0 s) := by
  intro x0 s
  unfold applyControl
  try dsimp only
  repeat (first
    | with_reducible exact Only.refl _ _
    | with_reducible assumption
    | split
    | with_reducible apply applyOne_only (k := by decide)
    | (with_reducible refine Only.each ?_ (fun _ _ => ?_))
    | dsimp only)
theorem applyControl_only {ws s u} {x0} (h : Only ws s u) (k : [Part.synth, .host] ⊆ ws) :
    Only ws s (applyControl x0 u) :=
  h.step (applyControl_core _ _) k
theorem freeControl_core : ∀ x0 s, Only [.ductus, .synth, .host] s (freeControl x0 s) := by
  intro x0 s
  unfold freeControl
  try dsimp only
  repeat (first
    | with_reducible exact Only.refl _ _
    | with_reducible assumption
    | split
    | with_reducible apply modDpll_only (k := by decide)
    | (with_reducible refine Only.pair ?_ (by assumption); apply freshInt_only (k := by decide))
    | with_reducible apply freshInt_only (k := by decide)
    | with_reducible apply applyControl_only (k := by decide)
    | dsimp only)
theorem freeControl_only {ws s u} {x0} (h : Only ws s u) (k : [Part.ductus, .synth, .host] ⊆ ws) :
    Only ws s (freeControl x0 u) :=
  h.step (freeControl_core _ _) k
theorem slewIncrement_core : ∀ x0 s, Only [.clock] s (slewIncrement x0 s) := by
  intro x0 s
  unfold slewIncrement
  try dsimp only
  repeat (first
    | with_reducible exact Only.refl _ _
    | with_reducible assumption
    | split
    | with_reducible apply modClock_only (k := by decide)
    | dsimp only)
theorem slewIncrement_only {ws s u} {x0} (h : Only ws s u) (k : [Part.clock] ⊆ ws) :
    Only ws s (slewIncrement x0 u) :=
  h.step (slewIncrement_core _ _) k
theorem settleSlew_core : ∀ x0 s, Only [.ductus] s (settleSlew x0 s) := by
  intro x0 s
  unfold settleSlew
  try dsimp only
  repeat (first
    | with_reducible exact Only.refl _ _
    | with_reducible assumption
    | split
    | with_reducible apply modDpll_only (k := by decide)
    | dsimp only)
theorem settleSlew_only {ws s u} {x0} (h : Only ws s u) (k : [Part.ductus] ⊆ ws) :
    Only ws s (settleSlew x0 u) :=
  h.step (settleSlew_core _ _) k
theorem dropItem_core : ∀ x0 x1 s, Only [.synth, .host] s (dropItem x0 x1 s) := by
  intro x0 x1 s
  unfold dropItem
  try dsimp only
  repeat (first
    | with_reducible exact Only.refl _ _
    | with_reducible assumption
    | split
    | with_reducible apply modSynth_only (k := by decide)
    | with_reducible apply completeCmd_only (k := by decide)
    | (with_reducible refine Only.each ?_ (fun _ _ => ?_))
    | dsimp only)
theorem dropItem_only {ws s u} {x0 x1} (h : Only ws s u) (k : [Part.synth, .host] ⊆ ws) :
    Only ws s (dropItem x0 x1 u) :=
  h.step (dropItem_core _ _ _) k
theorem itemDone_core : ∀ x0 x1 x2 s, Only [.synth, .host] s (itemDone x0 x1 x2 s) := by
  intro x0 x1 x2 s
  unfold itemDone
  try dsimp only
  repeat (first
    | with_reducible exact Only.refl _ _
    | with_reducible assumption
    | split
    | with_reducible apply dropItem_only (k := by decide)
    | with_reducible apply raise_only (k := by decide)
    | dsimp only)
theorem itemDone_only {ws s u} {x0 x1 x2} (h : Only ws s u) (k : [Part.synth, .host] ⊆ ws) :
    Only ws s (itemDone x0 x1 x2 u) :=
  h.step (itemDone_core _ _ _ _) k
theorem abortRealign_core : ∀ x0 s, Only [.clock, .ductus, .synth, .host] s (abortRealign x0 s) := by
  intro x0 s
  unfold abortRealign
  try dsimp only
  repeat (first
    | with_reducible exact Only.refl _ _
    | with_reducible assumption
    | split
    | with_reducible apply modDpll_only (k := by decide)
    | with_reducible apply settleSlew_only (k := by decide)
    | with_reducible apply slewIncrement_only (k := by decide)
    | with_reducible apply dropItem_only (k := by decide)
    | with_reducible apply raise_only (k := by decide)
    | dsimp only)
theorem abortRealign_only {ws s u} {x0} (h : Only ws s u) (k : [Part.clock, .ductus, .synth, .host] ⊆ ws) :
    Only ws s (abortRealign x0 u) :=
  h.step (abortRealign_core _ _) k
theorem freezeOne_core : ∀ x0 s, Only [.clock, .ductus, .synth, .host] s (freezeOne x0 s) := by
  intro x0 s
  unfold freezeOne
  try dsimp only
  repeat (first
    | with_reducible exact Only.refl _ _
    | with_reducible assumption
    | split
    | with_reducible apply modDpll_only (k := by decide)
    | with_reducible apply freeControl_only (k := by decide)
    | with_reducible apply abortRealign_only (k := by decide)
    | with_reducible apply holdApll_only (k := by decide)
    | (with_reducible refine Only.each ?_ (fun _ _ => ?_))
    | dsimp only)
theorem freezeOne_only {ws s u} {x0} (h : Only ws s u) (k : [Part.clock, .ductus, .synth, .host] ⊆ ws) :
    Only ws s (freezeOne x0 u) :=
  h.step (freezeOne_core _ _) k
theorem freezeSystem_core : ∀ s, Only [.clock, .ductus, .synth, .host] s (freezeSystem s) := by
  intro s
  unfold freezeSystem
  try dsimp only
  repeat (first
    | with_reducible exact Only.refl _ _
    | with_reducible assumption
    | split
    | with_reducible apply freezeOne_only (k := by decide)
    | (with_reducible refine Only.each ?_ (fun _ _ => ?_))
    | dsimp only)
theorem freezeSystem_only {ws s u} (h : Only ws s u) (k : [Part.clock, .ductus, .synth, .host] ⊆ ws) :
    Only ws s (freezeSystem u) :=
  h.step (freezeSystem_core _) k
theorem freezeDpll_core : ∀ x0 s, Only [.clock, .ductus, .synth, .host] s (freezeDpll x0 s) := by
  intro x0 s
  unfold freezeDpll
  try dsimp only
  repeat (first
    | with_reducible exact Only.refl _ _
    | with_reducible assumption
    | split
    | with_reducible apply freezeSystem_only (k := by decide)
    | with_reducible apply freezeOne_only (k := by decide)
    | dsimp only)
theorem freezeDpll_only {ws s u} {x0} (h : Only ws s u) (k : [Part.clock, .ductus, .synth, .host] ⊆ ws) :
    Only ws s (freezeDpll x0 u) :=
  h.step (freezeDpll_core _ _) k
theorem thawOne_core : ∀ x0 s, Only [.ductus, .synth, .host] s (thawOne x0 s) := by
  intro x0 s
  unfold thawOne
  try dsimp only
  repeat (first
    | with_reducible exact Only.refl _ _
    | with_reducible assumption
    | split
    | with_reducible apply modDpll_only (k := by decide)
    | with_reducible apply modApll_only (k := by decide)
    | (with_reducible refine Only.pair ?_ (by assumption); apply freshInt_only (k := by decide))
    | with_reducible apply freshInt_only (k := by decide)
    | with_reducible apply setApll_only (k := by decide)
    | (with_reducible refine Only.each ?_ (fun _ _ => ?_))
    | dsimp only)
theorem thawOne_only {ws s u} {x0} (h : Only ws s u) (k : [Part.ductus, .synth, .host] ⊆ ws) :
    Only ws s (thawOne x0 u) :=
  h.step (thawOne_core _ _) k
theorem thawSystem_core : ∀ s, Only [.ductus, .synth, .host] s (thawSystem s) := by
  intro s
  unfold thawSystem
  try dsimp only
  repeat (first
    | with_reducible exact Only.refl _ _
    | with_reducible assumption
    | split
    | with_reducible apply thawOne_only (k := by decide)
    | (with_reducible refine Only.each ?_ (fun _ _ => ?_))
    | dsimp only)
theorem thawSystem_only {ws s u} (h : Only ws s u) (k : [Part.ductus, .synth, .host] ⊆ ws) :
    Only ws s (thawSystem u) :=
  h.step (thawSystem_core _) k
theorem thawDpll_core : ∀ x0 s, Only [.ductus, .synth, .host] s (thawDpll x0 s) := by
  intro x0 s
  unfold thawDpll
  try dsimp only
  repeat (first
    | with_reducible exact Only.refl _ _
    | with_reducible assumption
    | split
    | with_reducible apply thawSystem_only (k := by decide)
    | with_reducible apply thawOne_only (k := by decide)
    | dsimp only)
theorem thawDpll_only {ws s u} {x0} (h : Only ws s u) (k : [Part.ductus, .synth, .host] ⊆ ws) :
    Only ws s (thawDpll x0 u) :=
  h.step (thawDpll_core _ _) k
theorem loadK_core : ∀ s, Only [.ductus] s (loadK s) := by
  intro s
  unfold loadK
  try dsimp only
  repeat (first
    | with_reducible exact Only.refl _ _
    | with_reducible assumption
    | split
    | with_reducible apply modDuctus_only (k := by decide)
    | dsimp only)
theorem loadK_only {ws s u} (h : Only ws s u) (k : [Part.ductus] ⊆ ws) :
    Only ws s (loadK u) :=
  h.step (loadK_core _) k
theorem setDuctus_core : ∀ x0 s, Only [.clock, .ductus, .synth, .host] s (setDuctus x0 s) := by
  intro x0 s
  unfold setDuctus
  try dsimp only
  repeat (first
    | with_reducible exact Only.refl _ _
    | with_reducible assumption
    | split
    | with_reducible apply modDuctus_only (k := by decide)
    | with_reducible apply modDpll_only (k := by decide)
    | with_reducible apply raise_only (k := by decide)
    | with_reducible apply freezeDpll_only (k := by decide)
    | with_reducible apply applyControl_only (k := by decide)
    | with_reducible apply thawDpll_only (k := by decide)
    | with_reducible apply loadK_only (k := by decide)
    | dsimp only)
theorem setDuctus_only {ws s u} {x0} (h : Only ws s u) (k : [Part.clock, .ductus, .synth, .host] ⊆ ws) :
    Only ws s (setDuctus x0 u) :=
  h.step (setDuctus_core _ _) k
theorem loseXo_core : ∀ s, Only [.clock, .ductus, .synth, .host] s (loseXo s) := by
  intro s
  unfold loseXo
  try dsimp only
  repeat (first
    | with_reducible exact Only.refl _ _
    | with_reducible assumption
    | split
    | with_reducible apply modDuctus_only (k := by decide)
    | with_reducible apply holdApll_only (k := by decide)
    | with_reducible apply freezeSystem_only (k := by decide)
    | with_reducible apply setDuctus_only (k := by decide)
    | (with_reducible refine Only.each ?_ (fun _ _ => ?_))
    | dsimp only)
theorem loseXo_only {ws s u} (h : Only ws s u) (k : [Part.clock, .ductus, .synth, .host] ⊆ ws) :
    Only ws s (loseXo u) :=
  h.step (loseXo_core _) k
theorem stopContribution_core : ∀ x0 s, Only [.clock, .refs, .ductus, .synth, .host] s (stopContribution x0 s) := by
  intro x0 s
  unfold stopContribution
  try dsimp only
  repeat (first
    | with_reducible exact Only.refl _ _
    | with_reducible assumption
    | split
    | with_reducible apply modRef_only (k := by decide)
    | with_reducible apply freezeDpll_only (k := by decide)
    | (with_reducible refine Only.each ?_ (fun _ _ => ?_))
    | dsimp only)
theorem stopContribution_only {ws s u} {x0} (h : Only ws s u) (k : [Part.clock, .refs, .ductus, .synth, .host] ⊆ ws) :
    Only ws s (stopContribution x0 u) :=
  h.step (stopContribution_core _ _) k
theorem startContribution_core : ∀ x0 s, Only [.refs, .ductus, .synth, .host] s (startContribution x0 s) := by
  intro x0 s
  unfold startContribution
  try dsimp only
  repeat (first
    | with_reducible exact Only.refl _ _
    | with_reducible assumption
    | split
    | with_reducible apply modRef_only (k := by decide)
    | with_reducible apply thawDpll_only (k := by decide)
    | (with_reducible refine Only.each ?_ (fun _ _ => ?_))
    | dsimp only)
theorem startContribution_only {ws s u} {x0} (h : Only ws s u) (k : [Part.refs, .ductus, .synth, .host] ⊆ ws) :
    Only ws s (startContribution x0 u) :=
  h.step (startContribution_core _ _) k
theorem addReason_core : ∀ x0 x1 s, Only [.clock, .refs, .ductus, .synth, .host] s (addReason x0 x1 s) := by
  intro x0 x1 s
  unfold addReason
  try dsimp only
  repeat (first
    | with_reducible exact Only.refl _ _
    | with_reducible assumption
    | split
    | with_reducible apply modRef_only (k := by decide)
    | with_reducible apply stopContribution_only (k := by decide)
    | dsimp only)
theorem addReason_only {ws s u} {x0 x1} (h : Only ws s u) (k : [Part.clock, .refs, .ductus, .synth, .host] ⊆ ws) :
    Only ws s (addReason x0 x1 u) :=
  h.step (addReason_core _ _ _) k
theorem clearReason_core : ∀ x0 x1 s, Only [.refs] s (clearReason x0 x1 s) := by
  intro x0 x1 s
  unfold clearReason
  try dsimp only
  repeat (first
    | with_reducible exact Only.refl _ _
    | with_reducible assumption
    | split
    | with_reducible apply modRef_only (k := by decide)
    | dsimp only)
theorem clearReason_only {ws s u} {x0 x1} (h : Only ws s u) (k : [Part.refs] ⊆ ws) :
    Only ws s (clearReason x0 x1 u) :=
  h.step (clearReason_core _ _ _) k
theorem refEvent_core : ∀ x0 x1 x2 x3 s, Only [.host] s (refEvent x0 x1 x2 x3 s) := by
  intro x0 x1 x2 x3 s
  unfold refEvent
  try dsimp only
  repeat (first
    | with_reducible exact Only.refl _ _
    | with_reducible assumption
    | split
    | with_reducible apply raise_only (k := by decide)
    | dsimp only)
theorem refEvent_only {ws s u} {x0 x1 x2 x3} (h : Only ws s u) (k : [Part.host] ⊆ ws) :
    Only ws s (refEvent x0 x1 x2 x3 u) :=
  h.step (refEvent_core _ _ _ _ _) k
theorem setRef_core : ∀ x0 x1 s, Only [.clock, .refs, .ductus, .synth, .host] s (setRef x0 x1 s) := by
  intro x0 x1 s
  unfold setRef
  try dsimp only
  repeat (first
    | with_reducible exact Only.refl _ _
    | with_reducible assumption
    | split
    | with_reducible apply modRef_only (k := by decide)
    | with_reducible apply startContribution_only (k := by decide)
    | with_reducible apply stopContribution_only (k := by decide)
    | dsimp only)
theorem setRef_only {ws s u} {x0 x1} (h : Only ws s u) (k : [Part.clock, .refs, .ductus, .synth, .host] ⊆ ws) :
    Only ws s (setRef x0 x1 u) :=
  h.step (setRef_core _ _ _) k
theorem restartTimer_core : ∀ x0 s, Only [.refs] s (restartTimer x0 s) := by
  intro x0 s
  unfold restartTimer
  try dsimp only
  repeat (first
    | with_reducible exact Only.refl _ _
    | with_reducible assumption
    | split
    | with_reducible apply modRef_only (k := by decide)
    | dsimp only)
theorem restartTimer_only {ws s u} {x0} (h : Only ws s u) (k : [Part.refs] ⊆ ws) :
    Only ws s (restartTimer x0 u) :=
  h.step (restartTimer_core _ _) k
theorem toMonitor_core : ∀ x0 s, Only [.clock, .refs, .ductus, .synth, .host] s (toMonitor x0 s) := by
  intro x0 s
  unfold toMonitor
  try dsimp only
  repeat (first
    | with_reducible exact Only.refl _ _
    | with_reducible assumption
    | split
    | with_reducible apply modRef_only (k := by decide)
    | with_reducible apply setRef_only (k := by decide)
    | dsimp only)
theorem toMonitor_only {ws s u} {x0} (h : Only ws s u) (k : [Part.clock, .refs, .ductus, .synth, .host] ⊆ ws) :
    Only ws s (toMonitor x0 u) :=
  h.step (toMonitor_core _ _) k
theorem idleChannels_core : ∀ x0 s, Only [.gnss] s (idleChannels x0 s) := by
  intro x0 s
  unfold idleChannels
  try dsimp only
  repeat (first
    | with_reducible exact Only.refl _ _
    | with_reducible assumption
    | split
    | with_reducible apply modGnss_only (k := by decide)
    | dsimp only)
theorem idleChannels_only {ws s u} {x0} (h : Only ws s u) (k : [Part.gnss] ⊆ ws) :
    Only ws s (idleChannels x0 u) :=
  h.step (idleChannels_core _ _) k
theorem toOff_core : ∀ x0 s, Only [.clock, .refs, .ductus, .synth, .nib, .gnss, .host] s (toOff x0 s) := by
  intro x0 s
  unfold toOff
  try dsimp only
  repeat (first
    | with_reducible exact Only.refl _ _
    | with_reducible assumption
    | split
    | with_reducible apply modRef_only (k := by decide)
    | with_reducible apply modDuctus_only (k := by decide)
    | with_reducible apply setRef_only (k := by decide)
    | with_reducible apply releaseOpt_only (k := by decide)
    | with_reducible apply idleChannels_only (k := by decide)
    | dsimp only)
theorem toOff_only {ws s u} {x0} (h : Only ws s u) (k : [Part.clock, .refs, .ductus, .synth, .nib, .gnss, .host] ⊆ ws) :
    Only ws s (toOff x0 u) :=
  h.step (toOff_core _ _) k
theorem addAct_core : ∀ x0 x1 s, Only [.sel] s (addAct x0 x1 s) := by
  intro x0 x1 s
  unfold addAct
  try dsimp only
  repeat (first
    | with_reducible exact Only.refl _ _
    | with_reducible assumption
    | split
    | with_reducible apply modSel_only (k := by decide)
    | dsimp only)
theorem addAct_only {ws s u} {x0 x1} (h : Only ws s u) (k : [Part.sel] ⊆ ws) :
    Only ws s (addAct x0 x1 u) :=
  h.step (addAct_core _ _ _) k
theorem refArrival_core : ∀ x0 s, Only [.refs, .synth] s (refArrival x0 s) := by
  intro x0 s
  unfold refArrival
  try dsimp only
  repeat (first
    | with_reducible exact Only.refl _ _
    | with_reducible assumption
    | split
    | with_reducible apply modRef_only (k := by decide)
    | with_reducible apply modApll_only (k := by decide)
    | with_reducible apply clearReason_only (k := by decide)
    | (with_reducible refine Only.each ?_ (fun _ _ => ?_))
    | dsimp only)
theorem refArrival_only {ws s u} {x0} (h : Only ws s u) (k : [Part.refs, .synth] ⊆ ws) :
    Only ws s (refArrival x0 u) :=
  h.step (refArrival_core _ _) k
theorem refMiss_core : ∀ x0 s, Only [.clock, .refs, .ductus, .synth, .host] s (refMiss x0 s) := by
  intro x0 s
  unfold refMiss
  try dsimp only
  repeat (first
    | with_reducible exact Only.refl _ _
    | with_reducible assumption
    | split
    | with_reducible apply modRef_only (k := by decide)
    | with_reducible apply restartTimer_only (k := by decide)
    | with_reducible apply addReason_only (k := by decide)
    | with_reducible apply loseXo_only (k := by decide)
    | dsimp only)
theorem refMiss_only {ws s u} {x0} (h : Only ws s u) (k : [Part.clock, .refs, .ductus, .synth, .host] ⊆ ws) :
    Only ws s (refMiss x0 u) :=
  h.step (refMiss_core _ _) k
theorem takeOffset_core : ∀ x0 x1 x2 s, Only [.refs, .ductus, .margin] s (takeOffset x0 x1 x2 s) := by
  intro x0 x1 x2 s
  unfold takeOffset
  try dsimp only
  repeat (first
    | with_reducible exact Only.refl _ _
    | with_reducible assumption
    | split
    | with_reducible apply modRef_only (k := by decide)
    | with_reducible apply modDuctus_only (k := by decide)
    | with_reducible apply modMargin_only (k := by decide)
    | dsimp only)
theorem takeOffset_only {ws s u} {x0 x1 x2} (h : Only ws s u) (k : [Part.refs, .ductus, .margin] ⊆ ws) :
    Only ws s (takeOffset x0 x1 x2 u) :=
  h.step (takeOffset_core _ _ _ _) k
theorem takePulse_core : ∀ x0 x1 s, Only [.refs, .ductus, .margin] s (takePulse x0 x1 s) := by
  intro x0 x1 s
  unfold takePulse
  try dsimp only
  repeat (first
    | with_reducible exact Only.refl _ _
    | with_reducible assumption
    | split
    | with_reducible apply takeOffset_only (k := by decide)
    | dsimp only)
theorem takePulse_only {ws s u} {x0 x1} (h : Only ws s u) (k : [Part.refs, .ductus, .margin] ⊆ ws) :
    Only ws s (takePulse x0 x1 u) :=
  h.step (takePulse_core _ _ _) k
theorem averagedOffset_core : ∀ x0 s, Only [.host] s (averagedOffset x0 s).2 := by
  intro x0 s
  unfold averagedOffset
  try dsimp only
  repeat (first
    | with_reducible exact Only.refl _ _
    | with_reducible assumption
    | split
    | (with_reducible refine Only.pair ?_ (by assumption); apply freshInt_only (k := by decide))
    | with_reducible apply freshInt_only (k := by decide)
    | dsimp only)
theorem averagedOffset_only {ws s u} {x0} (h : Only ws s u) (k : [Part.host] ⊆ ws) :
    Only ws s (averagedOffset x0 u).2 :=
  h.step (averagedOffset_core _ _) k
theorem setAnchor_core : ∀ x0 s, Only [.ductus, .margin] s (setAnchor x0 s) := by
  intro x0 s
  unfold setAnchor
  try dsimp only
  repeat (first
    | with_reducible exact Only.refl _ _
    | with_reducible assumption
    | split
    | with_reducible apply modMargin_only (k := by decide)
    | with_reducible apply modDuctus_only (k := by decide)
    | dsimp only)
theorem setAnchor_only {ws s u} {x0} (h : Only ws s u) (k : [Part.ductus, .margin] ⊆ ws) :
    Only ws s (setAnchor x0 u) :=
  h.step (setAnchor_core _ _) k
theorem loadB_core : ∀ x0 s, Only [.ductus] s (loadB x0 s) := by
  intro x0 s
  unfold loadB
  try dsimp only
  repeat (first
    | with_reducible exact Only.refl _ _
    | with_reducible assumption
    | split
    | with_reducible apply modDuctus_only (k := by decide)
    | dsimp only)
theorem loadB_only {ws s u} {x0} (h : Only ws s u) (k : [Part.ductus] ⊆ ws) :
    Only ws s (loadB x0 u) :=
  h.step (loadB_core _ _) k
theorem startSwitch_core : ∀ x0 s, Only [.sel, .ductus] s (startSwitch x0 s) := by
  intro x0 s
  unfold startSwitch
  try dsimp only
  repeat (first
    | with_reducible exact Only.refl _ _
    | with_reducible assumption
    | split
    | with_reducible apply modSel_only (k := by decide)
    | with_reducible apply modDuctus_only (k := by decide)
    | with_reducible apply loadK_only (k := by decide)
    | dsimp only)
theorem startSwitch_only {ws s u} {x0} (h : Only ws s u) (k : [Part.sel, .ductus] ⊆ ws) :
    Only ws s (startSwitch x0 u) :=
  h.step (startSwitch_core _ _) k
theorem abandonSwitch_core : ∀ s, Only [.clock, .sel, .ductus, .synth, .host] s (abandonSwitch s) := by
  intro s
  unfold abandonSwitch
  try dsimp only
  repeat (first
    | with_reducible exact Only.refl _ _
    | with_reducible assumption
    | split
    | with_reducible apply modSel_only (k := by decide)
    | with_reducible apply modDuctus_only (k := by decide)
    | with_reducible apply setDuctus_only (k := by decide)
    | dsimp only)
theorem abandonSwitch_only {ws s u} (h : Only ws s u) (k : [Part.clock, .sel, .ductus, .synth, .host] ⊆ ws) :
    Only ws s (abandonSwitch u) :=
  h.step (abandonSwitch_core _) k
theorem deselect_core : ∀ s, Only [.refs] s (deselect s) := by
  intro s
  unfold deselect
  try dsimp only
  repeat (first
    | with_reducible exact Only.refl _ _
    | with_reducible assumption
    | split
    | with_reducible apply modRef_only (k := by decide)
    | dsimp only)
theorem deselect_only {ws s u} (h : Only ws s u) (k : [Part.refs] ⊆ ws) :
    Only ws s (deselect u) :=
  h.step (deselect_core _) k
theorem buildOut_core : ∀ x0 x1 s, Only [.clock, .refs, .sel, .ductus, .margin, .synth, .host] s (buildOut x0 x1 s) := by
  intro x0 x1 s
  unfold buildOut
  try dsimp only
  repeat (first
    | with_reducible exact Only.refl _ _
    | with_reducible assumption
    | split
    | with_reducible apply modSel_only (k := by decide)
    | with_reducible apply modDuctus_only (k := by decide)
    | with_reducible apply setAnchor_only (k := by decide)
    | with_reducible apply setRef_only (k := by decide)
    | with_reducible apply deselect_only (k := by decide)
    | with_reducible apply setDuctus_only (k := by decide)
    | with_reducible apply loadB_only (k := by decide)
    | dsimp only)
theorem buildOut_only {ws s u} {x0 x1} (h : Only ws s u) (k : [Part.clock, .refs, .sel, .ductus, .margin, .synth, .host] ⊆ ws) :
    Only ws s (buildOut x0 x1 u) :=
  h.step (buildOut_core _ _ _) k
theorem retarget_core : ∀ x0 s, Only [.clock, .refs, .sel, .ductus, .margin, .synth, .host] s (retarget x0 s) := by
  intro x0 s
  unfold retarget
  try dsimp only
  repeat (first
    | with_reducible exact Only.refl _ _
    | with_reducible assumption
    | split
    | (with_reducible refine Only.pair ?_ (by assumption); apply averagedOffset_only (k := by decide))
    | with_reducible apply averagedOffset_only (k := by decide)
    | with_reducible apply buildOut_only (k := by decide)
    | with_reducible apply raise_only (k := by decide)
    | dsimp only)
theorem retarget_only {ws s u} {x0} (h : Only ws s u) (k : [Part.clock, .refs, .sel, .ductus, .margin, .synth, .host] ⊆ ws) :
    Only ws s (retarget x0 u) :=
  h.step (retarget_core _ _) k
theorem selectNow_core : ∀ x0 s, Only [.clock, .refs, .sel, .ductus, .margin, .synth, .host] s (selectNow x0 s) := by
  intro x0 s
  unfold selectNow
  try dsimp only
  repeat (first
    | with_reducible exact Only.refl _ _
    | with_reducible assumption
    | split
    | with_reducible apply modSel_only (k := by decide)
    | with_reducible apply setAnchor_only (k := by decide)
    | with_reducible apply setRef_only (k := by decide)
    | with_reducible apply deselect_only (k := by decide)
    | with_reducible apply setDuctus_only (k := by decide)
    | dsimp only)
theorem selectNow_only {ws s u} {x0} (h : Only ws s u) (k : [Part.clock, .refs, .sel, .ductus, .margin, .synth, .host] ⊆ ws) :
    Only ws s (selectNow x0 u) :=
  h.step (selectNow_core _ _) k
theorem stepDplls_core : ∀ x0 s, Only [.clock, .ductus] s (stepDplls x0 s) := by
  intro x0 s
  unfold stepDplls
  try dsimp only
  repeat (first
    | with_reducible exact Only.refl _ _
    | with_reducible assumption
    | split
    | with_reducible apply modDpll_only (k := by decide)
    | with_reducible apply settleSlew_only (k := by decide)
    | with_reducible apply slewIncrement_only (k := by decide)
    | (with_reducible refine Only.each ?_ (fun _ _ => ?_))
    | dsimp only)
theorem stepDplls_only {ws s u} {x0} (h : Only ws s u) (k : [Part.clock, .ductus] ⊆ ws) :
    Only ws s (stepDplls x0 u) :=
  h.step (stepDplls_core _ _) k
theorem stepEvouts_core : ∀ x0 s, Only [.synth] s (stepEvouts x0 s) := by
  intro x0 s
  unfold stepEvouts
  try dsimp only
  repeat (first
    | with_reducible exact Only.refl _ _
    | with_reducible assumption
    | split
    | with_reducible apply modSynth_only (k := by decide)
    | dsimp only)
theorem stepEvouts_only {ws s u} {x0} (h : Only ws s u) (k : [Part.synth] ⊆ ws) :
    Only ws s (stepEvouts x0 u) :=
  h.step (stepEvouts_core _ _) k
theorem stepRefs_core : ∀ x0 s, Only [.refs] s (stepRefs x0 s) := by
  intro x0 s; unfold stepRefs; (try dsimp only); (repeat (first | split | with_reducible exact Only.refl _ _)) <;> (exact ⟨fun p hp => by cases p <;> first | rfl | simp at hp⟩)
theorem stepRefs_only {ws s u} {x0} (h : Only ws s u) (k : [Part.refs] ⊆ ws) :
    Only ws s (stepRefs x0 u) :=
  h.step (stepRefs_core _ _) k
theorem stepClient_core : ∀ x0 s, Only [.net] s (stepClient x0 s) := by
  intro x0 s
  unfold stepClient
  try dsimp only
  repeat (first
    | with_reducible exact Only.refl _ _
    | with_reducible assumption
    | split
    | with_reducible apply modPtp_only (k := by decide)
    | dsimp only)
theorem stepClient_only {ws s u} {x0} (h : Only ws s u) (k : [Part.net] ⊆ ws) :
    Only ws s (stepClient x0 u) :=
  h.step (stepClient_core _ _) k
theorem stepStack_core : ∀ x0 s, Only [.stack] s (stepStack x0 s) := by
  intro x0 s
  unfold stepStack
  try dsimp only
  repeat (first
    | with_reducible exact Only.refl _ _
    | with_reducible assumption
    | split
    | with_reducible apply modStack_only (k := by decide)
    | dsimp only)
theorem stepStack_only {ws s u} {x0} (h : Only ws s u) (k : [Part.stack] ⊆ ws) :
    Only ws s (stepStack x0 u) :=
  h.step (stepStack_core _ _) k
theorem stepMacs_core : ∀ x0 s, Only [.net] s (stepMacs x0 s) := by
  intro x0 s
  unfold stepMacs
  try dsimp only
  repeat (first
    | with_reducible exact Only.refl _ _
    | with_reducible assumption
    | split
    | with_reducible apply modNet_only (k := by decide)
    | dsimp only)
theorem stepMacs_only {ws s u} {x0} (h : Only ws s u) (k : [Part.net] ⊆ ws) :
    Only ws s (stepMacs x0 u) :=
  h.step (stepMacs_core _ _) k
theorem stepReservations_core : ∀ x0 x1 s, Only [.net, .stack, .host] s (stepReservations x0 x1 s) := by
  intro x0 x1 s
  unfold stepReservations
  try dsimp only
  repeat (first
    | with_reducible exact Only.refl _ _
    | with_reducible assumption
    | split
    | with_reducible apply missSlot_only (k := by decide)
    | (with_reducible refine Only.each ?_ (fun _ _ => ?_))
    | dsimp only)
theorem stepReservations_only {ws s u} {x0 x1} (h : Only ws s u) (k : [Part.net, .stack, .host] ⊆ ws) :
    Only ws s (stepReservations x0 x1 u) :=
  h.step (stepReservations_core _ _ _) k
theorem stepTime_core : ∀ x0 s, Only [.clock, .refs, .sel, .ductus, .margin, .synth, .nib, .net, .stack, .host] s (stepTime x0 s) := by
  intro x0 s
  unfold stepTime
  try dsimp only
  repeat (first
    | with_reducible exact Only.refl _ _
    | with_reducible assumption
    | split
    | with_reducible apply modClock_only (k := by decide)
    | with_reducible apply modDuctus_only (k := by decide)
    | with_reducible apply modMargin_only (k := by decide)
    | with_reducible apply modSel_only (k := by decide)
    | with_reducible apply stepMacs_only (k := by decide)
    | with_reducible apply nibStep_only (k := by decide)
    | with_reducible apply stepStack_only (k := by decide)
    | with_reducible apply stepClient_only (k := by decide)
    | with_reducible apply stepRefs_only (k := by decide)
    | with_reducible apply stepEvouts_only (k := by decide)
    | with_reducible apply stepDplls_only (k := by decide)
    | with_reducible apply stepReservations_only (k := by decide)
    | dsimp only)
theorem stepTime_only {ws s u} {x0} (h : Only ws s u) (k : [Part.clock, .refs, .sel, .ductus, .margin, .synth, .nib, .net, .stack, .host] ⊆ ws) :
    Only ws s (stepTime x0 u) :=
  h.step (stepTime_core _ _) k
theorem setVirtual_core : ∀ x0 s, Only [.clock, .refs, .nib, .net, .stack] s (setVirtual x0 s) := by
  intro x0 s
  unfold setVirtual
  try dsimp only
  repeat (first
    | with_reducible exact Only.refl _ _
    | with_reducible assumption
    | split
    | with_reducible apply modClock_only (k := by decide)
    | with_reducible apply monitorStep_only (k := by decide)
    | with_reducible apply stepStack_only (k := by decide)
    | with_reducible apply stepClient_only (k := by decide)
    | with_reducible apply stepRefs_only (k := by decide)
    | dsimp only)
theorem setVirtual_only {ws s u} {x0} (h : Only ws s u) (k : [Part.clock, .refs, .nib, .net, .stack] ⊆ ws) :
    Only ws s (setVirtual x0 u) :=
  h.step (setVirtual_core _ _) k
theorem releaseHeld_core : ∀ s, Only [.host] s (releaseHeld s) := by
  intro s
  unfold releaseHeld
  try dsimp only
  repeat (first
    | with_reducible exact Only.refl _ _
    | with_reducible assumption
    | split
    | with_reducible apply modHost_only (k := by decide)
    | with_reducible apply modTx_only (k := by decide)
    | with_reducible apply hostDrop_only (k := by decide)
    | (with_reducible refine Only.each ?_ (fun _ _ => ?_))
    | dsimp only)
theorem releaseHeld_only {ws s u} (h : Only ws s u) (k : [Part.host] ⊆ ws) :
    Only ws s (releaseHeld u) :=
  h.step (releaseHeld_core _) k
theorem discardStep_core : ∀ s, Only [.clock, .host] s (discardStep s) := by
  intro s
  unfold discardStep
  try dsimp only
  repeat (first
    | with_reducible exact Only.refl _ _
    | with_reducible assumption
    | split
    | with_reducible apply modClock_only (k := by decide)
    | with_reducible apply completeCmd_only (k := by decide)
    | dsimp only)
theorem discardStep_only {ws s u} (h : Only ws s u) (k : [Part.clock, .host] ⊆ ws) :
    Only ws s (discardStep u) :=
  h.step (discardStep_core _) k
theorem killProgram_core : ∀ x0 x1 s, Only [.synth, .host] s (killProgram x0 x1 s) := by
  intro x0 x1 s
  unfold killProgram
  try dsimp only
  repeat (first
    | with_reducible exact Only.refl _ _
    | with_reducible assumption
    | split
    | with_reducible apply modEvout_only (k := by decide)
    | with_reducible apply raise_only (k := by decide)
    | dsimp only)
theorem killProgram_only {ws s u} {x0 x1} (h : Only ws s u) (k : [Part.synth, .host] ⊆ ws) :
    Only ws s (killProgram x0 x1 u) :=
  h.step (killProgram_core _ _ _) k
theorem killPrograms_core : ∀ s, Only [.synth, .host] s (killPrograms s) := by
  intro s
  unfold killPrograms
  try dsimp only
  repeat (first
    | with_reducible exact Only.refl _ _
    | with_reducible assumption
    | split
    | with_reducible apply modEvout_only (k := by decide)
    | with_reducible apply killProgram_only (k := by decide)
    | (with_reducible refine Only.each ?_ (fun _ _ => ?_))
    | dsimp only)
theorem killPrograms_only {ws s u} (h : Only ws s u) (k : [Part.synth, .host] ⊆ ws) :
    Only ws s (killPrograms u) :=
  h.step (killPrograms_core _) k
theorem stopFrames_core : ∀ s, Only [.synth] s (stopFrames s) := by
  intro s
  unfold stopFrames
  try dsimp only
  repeat (first
    | with_reducible exact Only.refl _ _
    | with_reducible assumption
    | split
    | with_reducible apply modSynth_only (k := by decide)
    | dsimp only)
theorem stopFrames_only {ws s u} (h : Only ws s u) (k : [Part.synth] ⊆ ws) :
    Only ws s (stopFrames u) :=
  h.step (stopFrames_core _) k
theorem beginRecovery_core : ∀ x0 s, Only [.clock, .synth, .nib, .net, .host] s (beginRecovery x0 s) := by
  intro x0 s
  unfold beginRecovery
  try dsimp only
  repeat (first
    | with_reducible exact Only.refl _ _
    | with_reducible assumption
    | split
    | with_reducible apply modNts_only (k := by decide)
    | with_reducible apply modPtp_only (k := by decide)
    | with_reducible apply modClock_only (k := by decide)
    | with_reducible apply dropAll_only (k := by decide)
    | with_reducible apply discardStep_only (k := by decide)
    | with_reducible apply stopFrames_only (k := by decide)
    | with_reducible apply killPrograms_only (k := by decide)
    | with_reducible apply nibRecovery_only (k := by decide)
    | with_reducible apply releaseHeld_only (k := by decide)
    | dsimp only)
theorem beginRecovery_only {ws s u} {x0} (h : Only ws s u) (k : [Part.clock, .synth, .nib, .net, .host] ⊆ ws) :
    Only ws s (beginRecovery x0 u) :=
  h.step (beginRecovery_core _ _) k
theorem unlockApll_core : ∀ x0 s, Only [.clock, .ductus, .synth, .nib, .net, .host] s (unlockApll x0 s) := by
  intro x0 s
  unfold unlockApll
  try dsimp only
  repeat (first
    | with_reducible exact Only.refl _ _
    | with_reducible assumption
    | split
    | with_reducible apply modApll_only (k := by decide)
    | with_reducible apply setApll_only (k := by decide)
    | with_reducible apply beginRecovery_only (k := by decide)
    | with_reducible apply freezeSystem_only (k := by decide)
    | dsimp only)
theorem unlockApll_only {ws s u} {x0} (h : Only ws s u) (k : [Part.clock, .ductus, .synth, .nib, .net, .host] ⊆ ws) :
    Only ws s (unlockApll x0 u) :=
  h.step (unlockApll_core _ _) k
theorem restartTicks_core : ∀ s, Only [.power, .clock, .margin, .gnss, .net, .keys, .host] s (restartTicks s) := by
  intro s
  unfold restartTicks
  try dsimp only
  repeat (first
    | with_reducible exact Only.refl _ _
    | with_reducible assumption
    | split
    | with_reducible apply modNet_only (k := by decide)
    | with_reducible apply modNts_only (k := by decide)
    | with_reducible apply modKeys_only (k := by decide)
    | with_reducible apply modHost_only (k := by decide)
    | with_reducible apply modPower_only (k := by decide)
    | with_reducible apply modMargin_only (k := by decide)
    | with_reducible apply modGnss_only (k := by decide)
    | with_reducible apply modClock_only (k := by decide)
    | dsimp only)
theorem restartTicks_only {ws s u} (h : Only ws s u) (k : [Part.power, .clock, .margin, .gnss, .net, .keys, .host] ⊆ ws) :
    Only ws s (restartTicks u) :=
  h.step (restartTicks_core _) k
theorem ductusFree_core : ∀ s, Only [.clock, .refs, .sel, .ductus, .margin, .synth, .host] s (ductusFree s) := by
  intro s
  unfold ductusFree
  try dsimp only
  repeat (first
    | with_reducible exact Only.refl _ _
    | with_reducible assumption
    | split
    | with_reducible apply modRef_only (k := by decide)
    | with_reducible apply modSel_only (k := by decide)
    | with_reducible apply modDuctus_only (k := by decide)
    | with_reducible apply refEvent_only (k := by decide)
    | with_reducible apply setAnchor_only (k := by decide)
    | with_reducible apply setDuctus_only (k := by decide)
    | dsimp only)
theorem ductusFree_only {ws s u} (h : Only ws s u) (k : [Part.clock, .refs, .sel, .ductus, .margin, .synth, .host] ⊆ ws) :
    Only ws s (ductusFree u) :=
  h.step (ductusFree_core _) k
theorem setSlot_core : ∀ x0 x1 s, Only [.keys] s (setSlot x0 x1 s) := by
  intro x0 x1 s
  unfold setSlot
  try dsimp only
  repeat (first
    | with_reducible exact Only.refl _ _
    | with_reducible assumption
    | split
    | with_reducible apply modKeys_only (k := by decide)
    | dsimp only)
theorem setSlot_only {ws s u} {x0 x1} (h : Only ws s u) (k : [Part.keys] ⊆ ws) :
    Only ws s (setSlot x0 x1 u) :=
  h.step (setSlot_core _ _ _) k
theorem beginWrite_core : ∀ x0 s, Only [.keys] s (beginWrite x0 s) := by
  intro x0 s
  unfold beginWrite
  try dsimp only
  repeat (first
    | with_reducible exact Only.refl _ _
    | with_reducible assumption
    | split
    | with_reducible apply modKeys_only (k := by decide)
    | dsimp only)
theorem beginWrite_only {ws s u} {x0} (h : Only ws s u) (k : [Part.keys] ⊆ ws) :
    Only ws s (beginWrite x0 u) :=
  h.step (beginWrite_core _ _) k
theorem commitSlot_core : ∀ x0 x1 x2 s, Only [.keys, .host] s (commitSlot x0 x1 x2 s) := by
  intro x0 x1 x2 s
  unfold commitSlot
  try dsimp only
  repeat (first
    | with_reducible exact Only.refl _ _
    | with_reducible assumption
    | split
    | with_reducible apply modKeys_only (k := by decide)
    | (with_reducible refine Only.pair ?_ (by assumption); apply freshNat_only (k := by decide))
    | with_reducible apply freshNat_only (k := by decide)
    | with_reducible apply setSlot_only (k := by decide)
    | dsimp only)
theorem commitSlot_only {ws s u} {x0 x1 x2} (h : Only ws s u) (k : [Part.keys, .host] ⊆ ws) :
    Only ws s (commitSlot x0 x1 x2 u) :=
  h.step (commitSlot_core _ _ _ _) k
theorem zeroSlot_core : ∀ x0 s, Only [.keys] s (zeroSlot x0 s) := by
  intro x0 s
  unfold zeroSlot
  try dsimp only
  repeat (first
    | with_reducible exact Only.refl _ _
    | with_reducible assumption
    | split
    | with_reducible apply modKeys_only (k := by decide)
    | dsimp only)
theorem zeroSlot_only {ws s u} {x0} (h : Only ws s u) (k : [Part.keys] ⊆ ws) :
    Only ws s (zeroSlot x0 u) :=
  h.step (zeroSlot_core _ _) k
theorem countMac_core : ∀ x0 x1 s, Only [.net] s (countMac x0 x1 s) := by
  intro x0 x1 s
  unfold countMac
  try dsimp only
  repeat (first
    | with_reducible exact Only.refl _ _
    | with_reducible assumption
    | split
    | with_reducible apply modMac_only (k := by decide)
    | dsimp only)
theorem countMac_only {ws s u} {x0 x1} (h : Only ws s u) (k : [Part.net] ⊆ ws) :
    Only ws s (countMac x0 x1 u) :=
  h.step (countMac_core _ _ _) k
theorem dropFrame_core : ∀ x0 x1 s, Only [.net, .host] s (dropFrame x0 x1 s) := by
  intro x0 x1 s
  unfold dropFrame
  try dsimp only
  repeat (first
    | with_reducible exact Only.refl _ _
    | with_reducible assumption
    | split
    | with_reducible apply markSummary_only (k := by decide)
    | with_reducible apply countMac_only (k := by decide)
    | dsimp only)
theorem dropFrame_only {ws s u} {x0 x1} (h : Only ws s u) (k : [Part.net, .host] ⊆ ws) :
    Only ws s (dropFrame x0 x1 u) :=
  h.step (dropFrame_core _ _ _) k
theorem closeWindows_core : ∀ x0 x1 x2 s, Only [.net] s (closeWindows x0 x1 x2 s) := by
  intro x0 x1 x2 s
  unfold closeWindows
  try dsimp only
  repeat (first
    | with_reducible exact Only.refl _ _
    | with_reducible assumption
    | split
    | with_reducible apply modMac_only (k := by decide)
    | dsimp only)
theorem closeWindows_only {ws s u} {x0 x1 x2} (h : Only ws s u) (k : [Part.net] ⊆ ws) :
    Only ws s (closeWindows x0 x1 x2 u) :=
  h.step (closeWindows_core _ _ _ _) k
theorem dropQueues_core : ∀ x0 x1 s, Only [.net, .host] s (dropQueues x0 x1 s) := by
  intro x0 x1 s
  unfold dropQueues
  try dsimp only
  repeat (first
    | with_reducible exact Only.refl _ _
    | with_reducible assumption
    | split
    | with_reducible apply modMac_only (k := by decide)
    | with_reducible apply hostDrop_only (k := by decide)
    | (with_reducible refine Only.each ?_ (fun _ _ => ?_))
    | dsimp only)
theorem dropQueues_only {ws s u} {x0 x1} (h : Only ws s u) (k : [Part.net, .host] ⊆ ws) :
    Only ws s (dropQueues x0 x1 u) :=
  h.step (dropQueues_core _ _ _) k
theorem cutTx_core : ∀ x0 x1 s, Only [.net, .host] s (cutTx x0 x1 s) := by
  intro x0 x1 s
  unfold cutTx
  try dsimp only
  repeat (first
    | with_reducible exact Only.refl _ _
    | with_reducible assumption
    | split
    | with_reducible apply modMac_only (k := by decide)
    | with_reducible apply hostDrop_only (k := by decide)
    | dsimp only)
theorem cutTx_only {ws s u} {x0 x1} (h : Only ws s u) (k : [Part.net, .host] ⊆ ws) :
    Only ws s (cutTx x0 x1 u) :=
  h.step (cutTx_core _ _ _) k
theorem loseLink_core : ∀ x0 s, Only [.net, .host] s (loseLink x0 s) := by
  intro x0 s
  unfold loseLink
  try dsimp only
  repeat (first
    | with_reducible exact Only.refl _ _
    | with_reducible assumption
    | split
    | with_reducible apply modMac_only (k := by decide)
    | with_reducible apply modNts_only (k := by decide)
    | with_reducible apply modPtp_only (k := by decide)
    | with_reducible apply dropQueues_only (k := by decide)
    | with_reducible apply cutTx_only (k := by decide)
    | with_reducible apply dropAllOf_only (k := by decide)
    | dsimp only)
theorem loseLink_only {ws s u} {x0} (h : Only ws s u) (k : [Part.net, .host] ⊆ ws) :
    Only ws s (loseLink x0 u) :=
  h.step (loseLink_core _ _) k
theorem leaveUp_core : ∀ x0 x1 x2 s, Only [.net, .host] s (leaveUp x0 x1 x2 s) := by
  intro x0 x1 x2 s
  unfold leaveUp
  try dsimp only
  repeat (first
    | with_reducible exact Only.refl _ _
    | with_reducible assumption
    | split
    | with_reducible apply modMac_only (k := by decide)
    | with_reducible apply raise_only (k := by decide)
    | with_reducible apply countMac_only (k := by decide)
    | with_reducible apply loseLink_only (k := by decide)
    | dsimp only)
theorem leaveUp_only {ws s u} {x0 x1 x2} (h : Only ws s u) (k : [Part.net, .host] ⊆ ws) :
    Only ws s (leaveUp x0 x1 x2 u) :=
  h.step (leaveUp_core _ _ _ _) k
theorem setLead_core : ∀ x0 x1 s, Only [.power] s (setLead x0 x1 s) := by
  intro x0 x1 s
  unfold setLead
  try dsimp only
  repeat (first
    | with_reducible exact Only.refl _ _
    | with_reducible assumption
    | split
    | with_reducible apply modPower_only (k := by decide)
    | dsimp only)
theorem setLead_only {ws s u} {x0 x1} (h : Only ws s u) (k : [Part.power] ⊆ ws) :
    Only ws s (setLead x0 x1 u) :=
  h.step (setLead_core _ _ _) k
theorem judgePath_core : ∀ x0 s, Only [.power, .host] s (judgePath x0 s) := by
  intro x0 s
  unfold judgePath
  try dsimp only
  repeat (first
    | with_reducible exact Only.refl _ _
    | with_reducible assumption
    | split
    | with_reducible apply raise_only (k := by decide)
    | with_reducible apply setLead_only (k := by decide)
    | dsimp only)
theorem judgePath_only {ws s u} {x0} (h : Only ws s u) (k : [Part.power, .host] ⊆ ws) :
    Only ws s (judgePath x0 u) :=
  h.step (judgePath_core _ _) k
theorem judgePace_core : ∀ s, Only [.power, .host] s (judgePace s) := by
  intro s
  unfold judgePace
  try dsimp only
  repeat (first
    | with_reducible exact Only.refl _ _
    | with_reducible assumption
    | split
    | with_reducible apply judgePath_only (k := by decide)
    | dsimp only)
theorem judgePace_only {ws s u} (h : Only ws s u) (k : [Part.power, .host] ⊆ ws) :
    Only ws s (judgePace u) :=
  h.step (judgePace_core _) k
theorem modQ_core : ∀ x0 x1 x2 s, Only [.net] s (modQ x0 x1 x2 s) := by
  intro x0 x1 x2 s
  unfold modQ
  try dsimp only
  repeat (first
    | with_reducible exact Only.refl _ _
    | with_reducible assumption
    | split
    | with_reducible apply modMac_only (k := by decide)
    | dsimp only)
theorem modQ_only {ws s u} {x0 x1 x2} (h : Only ws s u) (k : [Part.net] ⊆ ws) :
    Only ws s (modQ x0 x1 x2 u) :=
  h.step (modQ_core _ _ _ _) k
theorem pushFrame_core : ∀ x0 x1 x2 s, Only [.net] s (pushFrame x0 x1 x2 s) := by
  intro x0 x1 x2 s
  unfold pushFrame
  try dsimp only
  repeat (first
    | with_reducible exact Only.refl _ _
    | with_reducible assumption
    | split
    | with_reducible apply modQ_only (k := by decide)
    | dsimp only)
theorem pushFrame_only {ws s u} {x0 x1 x2} (h : Only ws s u) (k : [Part.net] ⊆ ws) :
    Only ws s (pushFrame x0 x1 x2 u) :=
  h.step (pushFrame_core _ _ _ _) k
theorem hostReserve_core : ∀ x0 x1 x2 x3 x4 x5 s, OnlyOpt [.net, .stack, .wear, .host] s (hostReserve x0 x1 x2 x3 x4 x5 s) := by
  intro x0 x1 x2 x3 x4 x5 s
  unfold hostReserve
  try dsimp only
  repeat (first
    | with_reducible exact Only.refl _ _
    | with_reducible assumption
    | split
    | with_reducible apply countAdmitted_only (k := by decide)
    | (with_reducible refine Only.ofOpt2 ?_ (by assumption); apply reserve_only (k := by decide))
    | with_reducible apply reserve_only (k := by decide)
    | with_reducible apply onlyOpt_map
    | with_reducible apply onlyOpt_mapW
    | intro _
    | with_reducible apply onlyOpt_some
    | with_reducible apply onlyOpt_none
    | dsimp only)
theorem hostReserve_only {ws s u} {x0 x1 x2 x3 x4 x5} (h : Only ws s u) (k : [Part.net, .stack, .wear, .host] ⊆ ws) :
    OnlyOpt ws s (hostReserve x0 x1 x2 x3 x4 x5 u) :=
  onlyOpt_mono (hostReserve_core _ _ _ _ _ _ _) k h
theorem offerGap_core : ∀ x0 x1 x2 x3 x4 x5 s, OnlyOpt2 [.net] s (offerGap x0 x1 x2 x3 x4 x5 s) := by
  intro x0 x1 x2 x3
  induction x3 with
  | zero => intro x4 x5 s; exact onlyOpt2_none
  | succ n ih =>
    intro x4 x5 s
    unfold offerGap
    split
    · exact ih _ _ _
    · dsimp only
      have h : ∀ f, Only [.net] s (modQ x0 x4 f s) := fun f => modQ_core x0 x4 f s
      split
      · exact onlyOpt2_some (h _)
      · exact onlyOpt2_mono (ih _ _ _) (by decide) (h _)
theorem offerGap_only {ws s u} {x0 x1 x2 x3 x4 x5} (h : Only ws s u) (k : [Part.net] ⊆ ws) :
    OnlyOpt2 ws s (offerGap x0 x1 x2 x3 x4 x5 u) :=
  onlyOpt2_mono (offerGap_core _ _ _ _ _ _ _) k h
theorem setRound_core : ∀ x0 x1 x2 s, Only [.net] s (setRound x0 x1 x2 s) := by
  intro x0 x1 x2 s
  unfold setRound
  try dsimp only
  repeat (first
    | with_reducible exact Only.refl _ _
    | with_reducible assumption
    | split
    | with_reducible apply modMac_only (k := by decide)
    | dsimp only)
theorem setRound_only {ws s u} {x0 x1 x2} (h : Only ws s u) (k : [Part.net] ⊆ ws) :
    Only ws s (setRound x0 x1 x2 u) :=
  h.step (setRound_core _ _ _ _) k
theorem pickQueue_core : ∀ x0 x1 x2 x3 x4 s, OnlyOpt2 [.net] s (pickQueue x0 x1 x2 x3 x4 s) := by
  intro x0 x1 x2
  induction x2 with
  | zero => intro x3 x4 s; exact onlyOpt2_none
  | succ n ih =>
    intro x3 x4 s
    unfold pickQueue
    split
    · exact ih _ _ _
    · dsimp only
      have h : ∀ f, Only [.net] s (modQ x0 x3 f s) := fun f => modQ_core x0 x3 f s
      split
      · exact onlyOpt2_mono (ih _ _ _) (by decide) (h _)
      · split
        · exact onlyOpt2_some (setRound_only (h _) (by decide))
        · split
          · exact onlyOpt2_none
          · split
            · rename_i e
              exact onlyOpt2_some (setRound_only (Only.ofOpt2 (offerGap_only (h _) (by decide)) e) (by decide))
            · exact onlyOpt2_none
theorem pickQueue_only {ws s u} {x0 x1 x2 x3 x4} (h : Only ws s u) (k : [Part.net] ⊆ ws) :
    OnlyOpt2 ws s (pickQueue x0 x1 x2 x3 x4 u) :=
  onlyOpt2_mono (pickQueue_core _ _ _ _ _ _) k h
theorem chooseFrame_only {m : Fin 16} {s : State} {c : Nat} {q : Fin 32} {t : State} (h : chooseFrame m s = some (c, q, t)) :
    Only [.net] s t := by
  unfold chooseFrame at h
  generalize (if (fins 32).any (eligible s m 1) = true then 1 else 2) = cls at h
  dsimp only at h
  by_cases e : (!(fins 32).any (eligible s m cls)) = true
  · rw [if_pos e] at h; cases h
  · rw [if_neg e] at h
    obtain ⟨x, hx, e⟩ := Option.map_eq_some_iff.mp h
    cases e
    exact (pickQueue_core _ _ _ _ _ _).some _ hx
theorem sendOn_core : ∀ x0 x1 x2 x3 x4 x5 x6 s, Only [.net, .stack, .host] s (sendOn x0 x1 x2 x3 x4 x5 x6 s) := by
  intro x0 x1 x2 x3 x4 x5 x6 s
  unfold sendOn
  try dsimp only
  repeat (first
    | with_reducible exact Only.refl _ _
    | with_reducible assumption
    | split
    | with_reducible apply modStack_only (k := by decide)
    | with_reducible apply modLink_only (k := by decide)
    | (with_reducible refine Only.pair ?_ (by assumption); apply takeIv_only (k := by decide))
    | with_reducible apply takeIv_only (k := by decide)
    | dsimp only)
theorem sendOn_only {ws s u} {x0 x1 x2 x3 x4 x5 x6} (h : Only ws s u) (k : [Part.net, .stack, .host] ⊆ ws) :
    Only ws s (sendOn x0 x1 x2 x3 x4 x5 x6 u) :=
  h.step (sendOn_core _ _ _ _ _ _ _ _) k
theorem sendTo_core : ∀ x0 x1 x2 x3 x4 s, Only [.net, .stack, .host] s (sendTo x0 x1 x2 x3 x4 s) := by
  intro x0 x1 x2 x3 x4 s
  unfold sendTo
  try dsimp only
  repeat (first
    | with_reducible exact Only.refl _ _
    | with_reducible assumption
    | split
    | with_reducible apply sendOn_only (k := by decide)
    | dsimp only)
theorem sendTo_only {ws s u} {x0 x1 x2 x3 x4} (h : Only ws s u) (k : [Part.net, .stack, .host] ⊆ ws) :
    Only ws s (sendTo x0 x1 x2 x3 x4 u) :=
  h.step (sendTo_core _ _ _ _ _ _) k
theorem sendRepl_core : ∀ x0 x1 s, Only [.net, .stack, .host] s (sendRepl x0 x1 s) := by
  intro x0 x1 s
  unfold sendRepl
  try dsimp only
  repeat (first
    | with_reducible exact Only.refl _ _
    | with_reducible assumption
    | split
    | with_reducible apply modStack_only (k := by decide)
    | with_reducible apply sendTo_only (k := by decide)
    | dsimp only)
theorem sendRepl_only {ws s u} {x0 x1} (h : Only ws s u) (k : [Part.net, .stack, .host] ⊆ ws) :
    Only ws s (sendRepl x0 x1 u) :=
  h.step (sendRepl_core _ _ _) k
theorem replicate_core : ∀ x0 x1 s, Only [.net, .stack, .host] s (replicate x0 x1 s) := by
  intro x0 x1 s
  unfold replicate
  try dsimp only
  repeat (first
    | with_reducible exact Only.refl _ _
    | with_reducible assumption
    | split
    | with_reducible apply sendRepl_only (k := by decide)
    | (with_reducible refine Only.each ?_ (fun _ _ => ?_))
    | dsimp only)
theorem replicate_only {ws s u} {x0 x1} (h : Only ws s u) (k : [Part.net, .stack, .host] ⊆ ws) :
    Only ws s (replicate x0 x1 u) :=
  h.step (replicate_core _ _ _) k
theorem replicateConfig_core : ∀ x0 x1 s, Only [.net, .stack, .host] s (replicateConfig x0 x1 s) := by
  intro x0 x1 s
  unfold replicateConfig
  try dsimp only
  repeat (first
    | with_reducible exact Only.refl _ _
    | with_reducible assumption
    | split
    | with_reducible apply replicate_only (k := by decide)
    | dsimp only)
theorem replicateConfig_only {ws s u} {x0 x1} (h : Only ws s u) (k : [Part.net, .stack, .host] ⊆ ws) :
    Only ws s (replicateConfig x0 x1 u) :=
  h.step (replicateConfig_core _ _ _) k
theorem judgeAlarm_core : ∀ x0 s, Only [.margin] s (judgeAlarm x0 s) := by
  intro x0 s
  unfold judgeAlarm
  try dsimp only
  repeat (first
    | with_reducible exact Only.refl _ _
    | with_reducible assumption
    | split
    | with_reducible apply modMargin_only (k := by decide)
    | dsimp only)
theorem judgeAlarm_only {ws s u} {x0} (h : Only ws s u) (k : [Part.margin] ⊆ ws) :
    Only ws s (judgeAlarm x0 u) :=
  h.step (judgeAlarm_core _ _) k
theorem judgeClass_core : ∀ x0 s, Only [.margin] s (judgeClass x0 s) := by
  intro x0 s
  unfold judgeClass
  try dsimp only
  repeat (first
    | with_reducible exact Only.refl _ _
    | with_reducible assumption
    | split
    | with_reducible apply modMargin_only (k := by decide)
    | dsimp only)
theorem judgeClass_only {ws s u} {x0} (h : Only ws s u) (k : [Part.margin] ⊆ ws) :
    Only ws s (judgeClass x0 u) :=
  h.step (judgeClass_core _ _) k
theorem judgeAll_core : ∀ s, Only [.margin] s (judgeAll s) := by
  intro s
  unfold judgeAll
  try dsimp only
  repeat (first
    | with_reducible exact Only.refl _ _
    | with_reducible assumption
    | split
    | with_reducible apply judgeClass_only (k := by decide)
    | with_reducible apply judgeAlarm_only (k := by decide)
    | (with_reducible refine Only.each ?_ (fun _ _ => ?_))
    | dsimp only)
theorem judgeAll_only {ws s u} (h : Only ws s u) (k : [Part.margin] ⊆ ws) :
    Only ws s (judgeAll u) :=
  h.step (judgeAll_core _) k
theorem modAddress_core : ∀ x0 x1 s, Only [.net] s (modAddress x0 x1 s) := by
  intro x0 x1 s
  unfold modAddress
  try dsimp only
  repeat (first
    | with_reducible exact Only.refl _ _
    | with_reducible assumption
    | split
    | with_reducible apply modNts_only (k := by decide)
    | dsimp only)
theorem modAddress_only {ws s u} {x0 x1} (h : Only ws s u) (k : [Part.net] ⊆ ws) :
    Only ws s (modAddress x0 x1 u) :=
  h.step (modAddress_core _ _ _) k
theorem countNts_core : ∀ x0 x1 s, Only [.net] s (countNts x0 x1 s) := by
  intro x0 x1 s
  unfold countNts
  try dsimp only
  repeat (first
    | with_reducible exact Only.refl _ _
    | with_reducible assumption
    | split
    | with_reducible apply modAddress_only (k := by decide)
    | dsimp only)
theorem countNts_only {ws s u} {x0 x1} (h : Only ws s u) (k : [Part.net] ⊆ ws) :
    Only ws s (countNts x0 x1 u) :=
  h.step (countNts_core _ _ _) k
theorem ntsDrop_core : ∀ x0 x1 x2 s, Only [.net, .host] s (ntsDrop x0 x1 x2 s) := by
  intro x0 x1 x2 s
  unfold ntsDrop
  try dsimp only
  repeat (first
    | with_reducible exact Only.refl _ _
    | with_reducible assumption
    | split
    | with_reducible apply markSummary_only (k := by decide)
    | with_reducible apply countNts_only (k := by decide)
    | dsimp only)
theorem ntsDrop_only {ws s u} {x0 x1 x2} (h : Only ws s u) (k : [Part.net, .host] ⊆ ws) :
    Only ws s (ntsDrop x0 x1 x2 u) :=
  h.step (ntsDrop_core _ _ _ _) k
theorem stopService_core : ∀ s, Only [.net, .host] s (stopService s) := by
  intro s
  unfold stopService
  try dsimp only
  repeat (first
    | with_reducible exact Only.refl _ _
    | with_reducible assumption
    | split
    | with_reducible apply modNet_only (k := by decide)
    | with_reducible apply modNts_only (k := by decide)
    | with_reducible apply modPtp_only (k := by decide)
    | with_reducible apply dropAll_only (k := by decide)
    | dsimp only)
theorem stopService_only {ws s u} (h : Only ws s u) (k : [Part.net, .host] ⊆ ws) :
    Only ws s (stopService u) :=
  h.step (stopService_core _) k
theorem modGen_core : ∀ x0 x1 s, Only [.net] s (modGen x0 x1 s) := by
  intro x0 x1 s
  unfold modGen
  try dsimp only
  repeat (first
    | with_reducible exact Only.refl _ _
    | with_reducible assumption
    | split
    | with_reducible apply modNts_only (k := by decide)
    | dsimp only)
theorem modGen_only {ws s u} {x0 x1} (h : Only ws s u) (k : [Part.net] ⊆ ws) :
    Only ws s (modGen x0 x1 u) :=
  h.step (modGen_core _ _ _) k
theorem dropGen_core : ∀ x0 s, Only [.net, .keys, .stack] s (dropGen x0 s) := by
  intro x0 s
  unfold dropGen
  try dsimp only
  repeat (first
    | with_reducible exact Only.refl _ _
    | with_reducible assumption
    | split
    | with_reducible apply dropBases_only (k := by decide)
    | with_reducible apply zeroSlot_only (k := by decide)
    | with_reducible apply modGen_only (k := by decide)
    | dsimp only)
theorem dropGen_only {ws s u} {x0} (h : Only ws s u) (k : [Part.net, .keys, .stack] ⊆ ws) :
    Only ws s (dropGen x0 u) :=
  h.step (dropGen_core _ _) k
theorem evict_core : ∀ s, Only [.net, .keys, .stack, .host] s (evict s) := by
  intro s
  unfold evict
  try dsimp only
  repeat (first
    | with_reducible exact Only.refl _ _
    | with_reducible assumption
    | split
    | with_reducible apply raise_only (k := by decide)
    | with_reducible apply dropGen_only (k := by decide)
    | dsimp only)
theorem evict_only {ws s u} (h : Only ws s u) (k : [Part.net, .keys, .stack, .host] ⊆ ws) :
    Only ws s (evict u) :=
  h.step (evict_core _) k
theorem newKey_core : ∀ x0 s, Only [.net, .keys, .stack, .host] s (newKey x0 s) := by
  intro x0 s
  unfold newKey
  try dsimp only
  repeat (first
    | with_reducible exact Only.refl _ _
    | with_reducible assumption
    | split
    | with_reducible apply modNts_only (k := by decide)
    | with_reducible apply evict_only (k := by decide)
    | (with_reducible refine Only.pair ?_ (by assumption); apply freshBytes_only (k := by decide))
    | with_reducible apply freshBytes_only (k := by decide)
    | with_reducible apply beginWrite_only (k := by decide)
    | with_reducible apply modGen_only (k := by decide)
    | dsimp only)
theorem newKey_only {ws s u} {x0} (h : Only ws s u) (k : [Part.net, .keys, .stack, .host] ⊆ ws) :
    Only ws s (newKey x0 u) :=
  h.step (newKey_core _ _) k
theorem endRotateNow_core : ∀ x0 s, Only [.net, .host] s (endRotateNow x0 s) := by
  intro x0 s
  unfold endRotateNow
  try dsimp only
  repeat (first
    | with_reducible exact Only.refl _ _
    | with_reducible assumption
    | split
    | with_reducible apply modNts_only (k := by decide)
    | with_reducible apply completeCmd_only (k := by decide)
    | (with_reducible refine Only.each ?_ (fun _ _ => ?_))
    | dsimp only)
theorem endRotateNow_only {ws s u} {x0} (h : Only ws s u) (k : [Part.net, .host] ⊆ ws) :
    Only ws s (endRotateNow x0 u) :=
  h.step (endRotateNow_core _ _) k
theorem makeCurrent_core : ∀ x0 x1 x2 s, Only [.net, .keys, .stack, .host] s (makeCurrent x0 x1 x2 s) := by
  intro x0 x1 x2 s
  unfold makeCurrent
  try dsimp only
  repeat (first
    | with_reducible exact Only.refl _ _
    | with_reducible assumption
    | split
    | with_reducible apply modNts_only (k := by decide)
    | with_reducible apply evict_only (k := by decide)
    | with_reducible apply modGen_only (k := by decide)
    | with_reducible apply endRotateNow_only (k := by decide)
    | with_reducible apply raise_only (k := by decide)
    | dsimp only)
theorem makeCurrent_only {ws s u} {x0 x1 x2} (h : Only ws s u) (k : [Part.net, .keys, .stack, .host] ⊆ ws) :
    Only ws s (makeCurrent x0 x1 x2 u) :=
  h.step (makeCurrent_core _ _ _ _) k
theorem genWritten_core : ∀ x0 s, Only [.net, .keys, .stack, .host] s (genWritten x0 s) := by
  intro x0 s
  unfold genWritten
  try dsimp only
  repeat (first
    | with_reducible exact Only.refl _ _
    | with_reducible assumption
    | split
    | with_reducible apply modGen_only (k := by decide)
    | with_reducible apply replicate_only (k := by decide)
    | with_reducible apply raise_only (k := by decide)
    | with_reducible apply makeCurrent_only (k := by decide)
    | dsimp only)
theorem genWritten_only {ws s u} {x0} (h : Only ws s u) (k : [Part.net, .keys, .stack, .host] ⊆ ws) :
    Only ws s (genWritten x0 u) :=
  h.step (genWritten_core _ _) k
theorem settleBuckets_core : ∀ s, Only [.net] s (settleBuckets s) := by
  intro s
  unfold settleBuckets
  try dsimp only
  repeat (first
    | with_reducible exact Only.refl _ _
    | with_reducible assumption
    | split
    | with_reducible apply modNts_only (k := by decide)
    | dsimp only)
theorem settleBuckets_only {ws s u} (h : Only ws s u) (k : [Part.net] ⊆ ws) :
    Only ws s (settleBuckets u) :=
  h.step (settleBuckets_core _) k
theorem modProfile_core : ∀ x0 x1 s, Only [.net] s (modProfile x0 x1 s) := by
  intro x0 x1 s
  unfold modProfile
  try dsimp only
  repeat (first
    | with_reducible exact Only.refl _ _
    | with_reducible assumption
    | split
    | with_reducible apply modNts_only (k := by decide)
    | dsimp only)
theorem modProfile_only {ws s u} {x0 x1} (h : Only ws s u) (k : [Part.net] ⊆ ws) :
    Only ws s (modProfile x0 x1 u) :=
  h.step (modProfile_core _ _ _) k
theorem police_core : ∀ x0 x1 s, Only [.net] s (police x0 x1 s).2 := by
  intro x0 x1 s
  unfold police
  try dsimp only
  repeat (first
    | with_reducible exact Only.refl _ _
    | with_reducible assumption
    | split
    | with_reducible apply modNts_only (k := by decide)
    | dsimp only)
theorem police_only {ws s u} {x0 x1} (h : Only ws s u) (k : [Part.net] ⊆ ws) :
    Only ws s (police x0 x1 u).2 :=
  h.step (police_core _ _ _) k
theorem ntsShareDrop_core : ∀ x0 s, Only [.net, .host] s (ntsShareDrop x0 s) := by
  intro x0 s
  unfold ntsShareDrop
  try dsimp only
  repeat (first
    | with_reducible exact Only.refl _ _
    | with_reducible assumption
    | split
    | with_reducible apply modNts_only (k := by decide)
    | with_reducible apply markMask_only (k := by decide)
    | dsimp only)
theorem ntsShareDrop_only {ws s u} {x0} (h : Only ws s u) (k : [Part.net, .host] ⊆ ws) :
    Only ws s (ntsShareDrop x0 u) :=
  h.step (ntsShareDrop_core _ _) k
theorem admitNts_core : ∀ x0 x1 s, OnlyOpt [.net, .wear, .host] s (admitNts x0 x1 s) := by
  intro x0 x1 s
  unfold admitNts
  try dsimp only
  repeat (first
    | with_reducible exact Only.refl _ _
    | with_reducible assumption
    | split
    | with_reducible apply modNts_only (k := by decide)
    | with_reducible apply countAdmitted_only (k := by decide)
    | with_reducible apply settleBuckets_only (k := by decide)
    | with_reducible apply onlyOpt_map
    | with_reducible apply onlyOpt_mapW
    | intro _
    | with_reducible apply onlyOpt_some
    | with_reducible apply onlyOpt_none
    | dsimp only)
theorem admitNts_only {ws s u} {x0 x1} (h : Only ws s u) (k : [Part.net, .wear, .host] ⊆ ws) :
    OnlyOpt ws s (admitNts x0 x1 u) :=
  onlyOpt_mono (admitNts_core _ _ _) k h
theorem policeRequest_core : ∀ x0 x1 x2 x3 s, Only [.net, .host] s (policeRequest x0 x1 x2 x3 s).2 := by
  intro x0 x1 x2 x3 s
  unfold policeRequest
  try dsimp only
  repeat (first
    | with_reducible exact Only.refl _ _
    | with_reducible assumption
    | split
    | (with_reducible refine Only.pair ?_ (by assumption); apply police_only (k := by decide))
    | with_reducible apply police_only (k := by decide)
    | with_reducible apply markSummary_only (k := by decide)
    | with_reducible apply ntsDrop_only (k := by decide)
    | with_reducible apply countNts_only (k := by decide)
    | with_reducible apply modProfile_only (k := by decide)
    | dsimp only)
theorem policeRequest_only {ws s u} {x0 x1 x2 x3} (h : Only ws s u) (k : [Part.net, .host] ⊆ ws) :
    Only ws s (policeRequest x0 x1 x2 x3 u).2 :=
  h.step (policeRequest_core _ _ _ _ _) k
theorem ntsRequest_core : ∀ x0 x1 x2 x3 x4 x5 s, Only [.net, .wear, .host] s (ntsRequest x0 x1 x2 x3 x4 x5 s) := by
  intro x0 x1 x2 x3 x4 x5 s
  unfold ntsRequest
  try dsimp only
  repeat (first
    | with_reducible exact Only.refl _ _
    | with_reducible assumption
    | split
    | with_reducible apply ntsDrop_only (k := by decide)
    | (with_reducible refine Only.pair ?_ (by assumption); apply policeRequest_only (k := by decide))
    | with_reducible apply policeRequest_only (k := by decide)
    | (with_reducible refine Only.ofOpt ?_ (by assumption); apply admitNts_only (k := by decide))
    | with_reducible apply admitNts_only (k := by decide)
    | with_reducible apply Only.getD
    | with_reducible apply modProfile_only (k := by decide)
    | with_reducible apply ntsShareDrop_only (k := by decide)
    | dsimp only)
theorem ntsRequest_only {ws s u} {x0 x1 x2 x3 x4 x5} (h : Only ws s u) (k : [Part.net, .wear, .host] ⊆ ws) :
    Only ws s (ntsRequest x0 x1 x2 x3 x4 x5 u) :=
  h.step (ntsRequest_core _ _ _ _ _ _ _) k
theorem putNts_core : ∀ x0 x1 x2 s, OnlyExc [.net, .stack, .host] s (putNts x0 x1 x2 s) := by
  intro x0 x1 x2 s
  unfold putNts
  try dsimp only
  repeat (first
    | with_reducible exact Only.refl _ _
    | with_reducible assumption
    | split
    | with_reducible apply replicateConfig_only (k := by decide)
    | with_reducible apply modAddress_only (k := by decide)
    | with_reducible apply onlyExc_need
    | with_reducible apply onlyExc_pure
    | with_reducible apply onlyExc_ok
    | with_reducible apply onlyExc_error
    | dsimp only)
theorem putNts_only {ws s u} {x0 x1 x2} (h : Only ws s u) (k : [Part.net, .stack, .host] ⊆ ws) :
    OnlyExc ws s (putNts x0 x1 x2 u) :=
  onlyExc_mono (putNts_core _ _ _ _) k h
theorem putProfile_core : ∀ x0 x1 s, OnlyExc [.net, .stack, .host] s (putProfile x0 x1 s) := by
  intro x0 x1 s
  unfold putProfile
  try dsimp only
  repeat (first
    | with_reducible exact Only.refl _ _
    | with_reducible assumption
    | split
    | with_reducible apply replicateConfig_only (k := by decide)
    | with_reducible apply modProfile_only (k := by decide)
    | with_reducible apply onlyExc_need
    | with_reducible apply onlyExc_pure
    | with_reducible apply onlyExc_ok
    | with_reducible apply onlyExc_error
    | dsimp only)
theorem putProfile_only {ws s u} {x0 x1} (h : Only ws s u) (k : [Part.net, .stack, .host] ⊆ ws) :
    OnlyExc ws s (putProfile x0 x1 u) :=
  onlyExc_mono (putProfile_core _ _ _) k h
theorem modRotation_core : ∀ x0 s, Only [.net] s (modRotation x0 s) := by
  intro x0 s
  unfold modRotation
  try dsimp only
  repeat (first
    | with_reducible exact Only.refl _ _
    | with_reducible assumption
    | split
    | with_reducible apply modNts_only (k := by decide)
    | dsimp only)
theorem modRotation_only {ws s u} {x0} (h : Only ws s u) (k : [Part.net] ⊆ ws) :
    Only ws s (modRotation x0 u) :=
  h.step (modRotation_core _ _) k
theorem putRotation_core : ∀ x0 s, OnlyExc [.net, .stack, .host] s (putRotation x0 s) := by
  intro x0 s
  unfold putRotation
  try dsimp only
  repeat (first
    | with_reducible exact Only.refl _ _
    | with_reducible assumption
    | split
    | with_reducible apply replicateConfig_only (k := by decide)
    | with_reducible apply modRotation_only (k := by decide)
    | with_reducible apply onlyExc_need
    | with_reducible apply onlyExc_pure
    | with_reducible apply onlyExc_ok
    | with_reducible apply onlyExc_error
    | dsimp only)
theorem putRotation_only {ws s u} {x0} (h : Only ws s u) (k : [Part.net, .stack, .host] ⊆ ws) :
    OnlyExc ws s (putRotation x0 u) :=
  onlyExc_mono (putRotation_core _ _) k h
theorem reachInstant_core : ∀ x0 s, Only [.net] s (reachInstant x0 s) := by
  intro x0 s
  unfold reachInstant
  try dsimp only
  repeat (first
    | with_reducible exact Only.refl _ _
    | with_reducible assumption
    | split
    | with_reducible apply modRotation_only (k := by decide)
    | dsimp only)
theorem reachInstant_only {ws s u} {x0} (h : Only ws s u) (k : [Part.net] ⊆ ws) :
    Only ws s (reachInstant x0 u) :=
  h.step (reachInstant_core _ _) k
theorem reachAsked_core : ∀ s, Only [.net, .keys, .stack, .host] s (reachAsked s) := by
  intro s
  unfold reachAsked
  try dsimp only
  repeat (first
    | with_reducible exact Only.refl _ _
    | with_reducible assumption
    | split
    | with_reducible apply newKey_only (k := by decide)
    | with_reducible apply modRotation_only (k := by decide)
    | with_reducible apply endRotateNow_only (k := by decide)
    | dsimp only)
theorem reachAsked_only {ws s u} (h : Only ws s u) (k : [Part.net, .keys, .stack, .host] ⊆ ws) :
    Only ws s (reachAsked u) :=
  h.step (reachAsked_core _) k
theorem settleDue_core : ∀ s, Only [.net, .stack, .host] s (settleDue s) := by
  intro s
  unfold settleDue
  try dsimp only
  repeat (first
    | with_reducible exact Only.refl _ _
    | with_reducible assumption
    | split
    | with_reducible apply modRotation_only (k := by decide)
    | with_reducible apply replicate_only (k := by decide)
    | with_reducible apply raise_only (k := by decide)
    | dsimp only)
theorem settleDue_only {ws s u} (h : Only ws s u) (k : [Part.net, .stack, .host] ⊆ ws) :
    Only ws s (settleDue u) :=
  h.step (settleDue_core _) k
theorem discardReaders_core : ∀ x0 s, Only [.net] s (discardReaders x0 s) := by
  intro x0 s
  unfold discardReaders
  try dsimp only
  repeat (first
    | with_reducible exact Only.refl _ _
    | with_reducible assumption
    | split
    | with_reducible apply modNet_only (k := by decide)
    | with_reducible apply modNts_only (k := by decide)
    | dsimp only)
theorem discardReaders_only {ws s u} {x0} (h : Only ws s u) (k : [Part.net] ⊆ ws) :
    Only ws s (discardReaders x0 u) :=
  h.step (discardReaders_core _ _) k
theorem replaceCurrent_core : ∀ x0 s, Only [.net, .keys, .stack, .host] s (replaceCurrent x0 s) := by
  intro x0 s
  unfold replaceCurrent
  try dsimp only
  repeat (first
    | with_reducible exact Only.refl _ _
    | with_reducible assumption
    | split
    | with_reducible apply makeCurrent_only (k := by decide)
    | with_reducible apply replicate_only (k := by decide)
    | with_reducible apply newKey_only (k := by decide)
    | dsimp only)
theorem replaceCurrent_only {ws s u} {x0} (h : Only ws s u) (k : [Part.net, .keys, .stack, .host] ⊆ ws) :
    Only ws s (replaceCurrent x0 u) :=
  h.step (replaceCurrent_core _ _) k
theorem emptyOnMembers_core : ∀ x0 x1 s, Only [.net, .stack, .host] s (emptyOnMembers x0 x1 s) := by
  intro x0 x1 s
  unfold emptyOnMembers
  try dsimp only
  repeat (first
    | with_reducible exact Only.refl _ _
    | with_reducible assumption
    | split
    | with_reducible apply replicate_only (k := by decide)
    | dsimp only)
theorem emptyOnMembers_only {ws s u} {x0 x1} (h : Only ws s u) (k : [Part.net, .stack, .host] ⊆ ws) :
    Only ws s (emptyOnMembers x0 x1 u) :=
  h.step (emptyOnMembers_core _ _ _) k
theorem invalidate_core : ∀ x0 s, Only [.net, .keys, .stack, .host] s (invalidate x0 s) := by
  intro x0 s
  unfold invalidate
  try dsimp only
  repeat (first
    | with_reducible exact Only.refl _ _
    | with_reducible assumption
    | split
    | with_reducible apply discardReaders_only (k := by decide)
    | with_reducible apply emptyOnMembers_only (k := by decide)
    | with_reducible apply dropGen_only (k := by decide)
    | with_reducible apply modRotation_only (k := by decide)
    | with_reducible apply replaceCurrent_only (k := by decide)
    | with_reducible apply raise_only (k := by decide)
    | with_reducible apply newKey_only (k := by decide)
    | with_reducible apply endRotateNow_only (k := by decide)
    | dsimp only)
theorem invalidate_only {ws s u} {x0} (h : Only ws s u) (k : [Part.net, .keys, .stack, .host] ⊆ ws) :
    Only ws s (invalidate x0 u) :=
  h.step (invalidate_core _ _) k
theorem mintCookie_core : ∀ x0 x1 x2 x3 s, Only [.net, .stack, .host] s (mintCookie x0 x1 x2 x3 s).2 := by
  intro x0 x1 x2 x3 s
  unfold mintCookie
  try dsimp only
  repeat (first
    | with_reducible exact Only.refl _ _
    | with_reducible assumption
    | split
    | (with_reducible refine Only.pair ?_ (by assumption); apply takeNonce_only (k := by decide))
    | with_reducible apply takeNonce_only (k := by decide)
    | dsimp only)
theorem mintCookie_only {ws s u} {x0 x1 x2 x3} (h : Only ws s u) (k : [Part.net, .stack, .host] ⊆ ws) :
    Only ws s (mintCookie x0 x1 x2 x3 u).2 :=
  h.step (mintCookie_core _ _ _ _ _) k
theorem mintCookies_core : ∀ x0 x1 x2 x3 x4 s, Only [.net, .stack, .host] s (mintCookies x0 x1 x2 x3 x4 s).2 := by
  intro x0 x1 x2 x3 x4
  induction x4 with
  | zero => intro s; exact .refl _ _
  | succ n ih => intro s; exact (mintCookie_core x0 x1 x2 x3 s).trans (ih _)
theorem mintCookies_only {ws s u} {x0 x1 x2 x3 x4} (h : Only ws s u) (k : [Part.net, .stack, .host] ⊆ ws) :
    Only ws s (mintCookies x0 x1 x2 x3 x4 u).2 :=
  h.step (mintCookies_core _ _ _ _ _ _) k
theorem ntsReserve_core : ∀ x0 x1 x2 x3 s, OnlyOpt [.net, .stack, .host] s (ntsReserve x0 x1 x2 x3 s) := by
  intro x0 x1 x2 x3 s
  unfold ntsReserve
  try dsimp only
  repeat (first
    | with_reducible exact Only.refl _ _
    | with_reducible assumption
    | split
    | (with_reducible refine Only.ofOpt2 ?_ (by assumption); apply reserve_only (k := by decide))
    | with_reducible apply reserve_only (k := by decide)
    | with_reducible apply onlyOpt_map
    | with_reducible apply onlyOpt_mapW
    | intro _
    | with_reducible apply onlyOpt_some
    | with_reducible apply onlyOpt_none
    | dsimp only)
theorem ntsReserve_only {ws s u} {x0 x1 x2 x3} (h : Only ws s u) (k : [Part.net, .stack, .host] ⊆ ws) :
    OnlyOpt ws s (ntsReserve x0 x1 x2 x3 u) :=
  onlyOpt_mono (ntsReserve_core _ _ _ _ _) k h
theorem countTimes_core : ∀ x0 x1 x2 s, Only [.net] s (countTimes x0 x1 x2 s) := by
  intro x0 x1 x2 s
  unfold countTimes
  try dsimp only
  repeat (first
    | with_reducible exact Only.refl _ _
    | with_reducible assumption
    | split
    | with_reducible apply modAddress_only (k := by decide)
    | dsimp only)
theorem countTimes_only {ws s u} {x0 x1 x2} (h : Only ws s u) (k : [Part.net] ⊆ ws) :
    Only ws s (countTimes x0 x1 x2 u) :=
  h.step (countTimes_core _ _ _ _) k
theorem ntsFail_core : ∀ x0 x1 x2 x3 x4 x5 s, OnlyOpt [.net, .stack, .host] s (ntsFail x0 x1 x2 x3 x4 x5 s) := by
  intro x0 x1 x2 x3 x4 x5 s
  unfold ntsFail
  try dsimp only
  repeat (first
    | with_reducible exact Only.refl _ _
    | with_reducible assumption
    | split
    | with_reducible apply modProfile_only (k := by decide)
    | with_reducible apply markSummary_only (k := by decide)
    | with_reducible apply ntsDrop_only (k := by decide)
    | with_reducible apply countNts_only (k := by decide)
    | (with_reducible refine Only.ofOpt ?_ (by assumption); apply ntsReserve_only (k := by decide))
    | with_reducible apply ntsReserve_only (k := by decide)
    | with_reducible apply Only.getD
    | with_reducible apply onlyOpt_map
    | with_reducible apply onlyOpt_mapW
    | intro _
    | with_reducible apply onlyOpt_some
    | with_reducible apply onlyOpt_none
    | dsimp only)
theorem ntsFail_only {ws s u} {x0 x1 x2 x3 x4 x5} (h : Only ws s u) (k : [Part.net, .stack, .host] ⊆ ws) :
    OnlyOpt ws s (ntsFail x0 x1 x2 x3 x4 x5 u) :=
  onlyOpt_mono (ntsFail_core _ _ _ _ _ _ _) k h
theorem ntsOk_core : ∀ x0 x1 x2 x3 x4 x5 x6 s, OnlyOpt [.net, .stack, .host] s (ntsOk x0 x1 x2 x3 x4 x5 x6 s) := by
  intro x0 x1 x2 x3 x4 x5 x6 s
  unfold ntsOk
  try dsimp only
  repeat (first
    | with_reducible exact Only.refl _ _
    | with_reducible assumption
    | split
    | with_reducible apply modNts_only (k := by decide)
    | with_reducible apply countNts_only (k := by decide)
    | with_reducible apply countTimes_only (k := by decide)
    | with_reducible apply markSummary_only (k := by decide)
    | with_reducible apply ntsDrop_only (k := by decide)
    | (with_reducible refine Only.ofOpt ?_ (by assumption); apply ntsReserve_only (k := by decide))
    | with_reducible apply ntsReserve_only (k := by decide)
    | with_reducible apply Only.getD
    | with_reducible apply raise_only (k := by decide)
    | (with_reducible refine Only.pair ?_ (by assumption); apply mintCookies_only (k := by decide))
    | with_reducible apply mintCookies_only (k := by decide)
    | with_reducible apply onlyOpt_map
    | with_reducible apply onlyOpt_mapW
    | intro _
    | with_reducible apply onlyOpt_some
    | with_reducible apply onlyOpt_none
    | dsimp only)
theorem ntsOk_only {ws s u} {x0 x1 x2 x3 x4 x5 x6} (h : Only ws s u) (k : [Part.net, .stack, .host] ⊆ ws) :
    OnlyOpt ws s (ntsOk x0 x1 x2 x3 x4 x5 x6 u) :=
  onlyOpt_mono (ntsOk_core _ _ _ _ _ _ _ _) k h
theorem ntsAnswerTo_core : ∀ x0 x1 x2 s, OnlyOpt [.net, .stack, .host] s (ntsAnswerTo x0 x1 x2 s) := by
  intro x0 x1 x2 s
  unfold ntsAnswerTo
  try dsimp only
  repeat (first
    | with_reducible exact Only.refl _ _
    | with_reducible assumption
    | split
    | (with_reducible refine Only.ofOpt ?_ (by assumption); apply ntsReserve_only (k := by decide))
    | with_reducible apply ntsReserve_only (k := by decide)
    | with_reducible apply Only.getD
    | (with_reducible refine Only.ofOpt ?_ (by assumption); apply ntsFail_only (k := by decide))
    | with_reducible apply ntsFail_only (k := by decide)
    | (with_reducible refine Only.ofOpt ?_ (by assumption); apply ntsOk_only (k := by decide))
    | with_reducible apply ntsOk_only (k := by decide)
    | with_reducible apply onlyOpt_map
    | with_reducible apply onlyOpt_mapW
    | intro _
    | with_reducible apply onlyOpt_some
    | with_reducible apply onlyOpt_none
    | dsimp only)
theorem ntsAnswerTo_only {ws s u} {x0 x1 x2} (h : Only ws s u) (k : [Part.net, .stack, .host] ⊆ ws) :
    OnlyOpt ws s (ntsAnswerTo x0 x1 x2 u) :=
  onlyOpt_mono (ntsAnswerTo_core _ _ _ _) k h
theorem modPtpAddr_core : ∀ x0 x1 s, Only [.net] s (modPtpAddr x0 x1 s) := by
  intro x0 x1 s
  unfold modPtpAddr
  try dsimp only
  repeat (first
    | with_reducible exact Only.refl _ _
    | with_reducible assumption
    | split
    | with_reducible apply modPtp_only (k := by decide)
    | dsimp only)
theorem modPtpAddr_only {ws s u} {x0 x1} (h : Only ws s u) (k : [Part.net] ⊆ ws) :
    Only ws s (modPtpAddr x0 x1 u) :=
  h.step (modPtpAddr_core _ _ _) k
theorem modEntry_core : ∀ x0 x1 s, Only [.net] s (modEntry x0 x1 s) := by
  intro x0 x1 s
  unfold modEntry
  try dsimp only
  repeat (first
    | with_reducible exact Only.refl _ _
    | with_reducible assumption
    | split
    | with_reducible apply modPtp_only (k := by decide)
    | dsimp only)
theorem modEntry_only {ws s u} {x0 x1} (h : Only ws s u) (k : [Part.net] ⊆ ws) :
    Only ws s (modEntry x0 x1 u) :=
  h.step (modEntry_core _ _ _) k
theorem countPtp_core : ∀ x0 x1 s, Only [.net] s (countPtp x0 x1 s) := by
  intro x0 x1 s
  unfold countPtp
  try dsimp only
  repeat (first
    | with_reducible exact Only.refl _ _
    | with_reducible assumption
    | split
    | with_reducible apply modPtpAddr_only (k := by decide)
    | dsimp only)
theorem countPtp_only {ws s u} {x0 x1} (h : Only ws s u) (k : [Part.net] ⊆ ws) :
    Only ws s (countPtp x0 x1 u) :=
  h.step (countPtp_core _ _ _) k
theorem setSa_core : ∀ x0 x1 s, Only [.net] s (setSa x0 x1 s) := by
  intro x0 x1 s
  unfold setSa
  try dsimp only
  repeat (first
    | with_reducible exact Only.refl _ _
    | with_reducible assumption
    | split
    | with_reducible apply modPtp_only (k := by decide)
    | dsimp only)
theorem setSa_only {ws s u} {x0 x1} (h : Only ws s u) (k : [Part.net] ⊆ ws) :
    Only ws s (setSa x0 x1 u) :=
  h.step (setSa_core _ _ _) k
theorem pickEngine_core : ∀ x0 s, Only [.host] s (pickEngine x0 s).2 := by
  intro x0 s
  unfold pickEngine
  try dsimp only
  repeat (first
    | with_reducible exact Only.refl _ _
    | with_reducible assumption
    | split
    | (with_reducible refine Only.pair ?_ (by assumption); apply freshNat_only (k := by decide))
    | with_reducible apply freshNat_only (k := by decide)
    | dsimp only)
theorem pickEngine_only {ws s u} {x0} (h : Only ws s u) (k : [Part.host] ⊆ ws) :
    Only ws s (pickEngine x0 u).2 :=
  h.step (pickEngine_core _ _) k
theorem sendSignal_core : ∀ x0 x1 s, Only [.net, .stack, .host] s (sendSignal x0 x1 s) := by
  intro x0 x1 s
  unfold sendSignal
  try dsimp only
  repeat (first
    | with_reducible exact Only.refl _ _
    | with_reducible assumption
    | split
    | with_reducible apply modPtp_only (k := by decide)
    | with_reducible apply countPtp_only (k := by decide)
    | with_reducible apply countMac_only (k := by decide)
    | (with_reducible refine Only.pair ?_ (by assumption); apply pickEngine_only (k := by decide))
    | with_reducible apply pickEngine_only (k := by decide)
    | (with_reducible refine Only.pair ?_ (by assumption); apply withAuth_only (k := by decide))
    | with_reducible apply withAuth_only (k := by decide)
    | with_reducible apply pushFrame_only (k := by decide)
    | dsimp only)
theorem sendSignal_only {ws s u} {x0 x1} (h : Only ws s u) (k : [Part.net, .stack, .host] ⊆ ws) :
    Only ws s (sendSignal x0 x1 u) :=
  h.step (sendSignal_core _ _ _) k
theorem entryWire_core : ∀ x0 x1 s, Only [.host] s (entryWire x0 x1 s).2 := by
  intro x0 x1 s
  unfold entryWire
  try dsimp only
  repeat (first
    | with_reducible exact Only.refl _ _
    | with_reducible assumption
    | split
    | (with_reducible refine Only.pair ?_ (by assumption); apply freshNat_only (k := by decide))
    | with_reducible apply freshNat_only (k := by decide)
    | dsimp only)
theorem entryWire_only {ws s u} {x0 x1} (h : Only ws s u) (k : [Part.host] ⊆ ws) :
    Only ws s (entryWire x0 x1 u).2 :=
  h.step (entryWire_core _ _ _) k
theorem signalMaster_core : ∀ x0 x1 s, Only [.net, .stack, .host] s (signalMaster x0 x1 s) := by
  intro x0 x1 s
  unfold signalMaster
  try dsimp only
  repeat (first
    | with_reducible exact Only.refl _ _
    | with_reducible assumption
    | split
    | (with_reducible refine Only.pair ?_ (by assumption); apply entryWire_only (k := by decide))
    | with_reducible apply entryWire_only (k := by decide)
    | with_reducible apply sendSignal_only (k := by decide)
    | dsimp only)
theorem signalMaster_only {ws s u} {x0 x1} (h : Only ws s u) (k : [Part.net, .stack, .host] ⊆ ws) :
    Only ws s (signalMaster x0 x1 u) :=
  h.step (signalMaster_core _ _ _) k
theorem askGrants_core : ∀ x0 x1 s, Only [.net, .stack, .host] s (askGrants x0 x1 s) := by
  intro x0 x1 s
  unfold askGrants
  try dsimp only
  repeat (first
    | with_reducible exact Only.refl _ _
    | with_reducible assumption
    | split
    | with_reducible apply signalMaster_only (k := by decide)
    | dsimp only)
theorem askGrants_only {ws s u} {x0 x1} (h : Only ws s u) (k : [Part.net, .stack, .host] ⊆ ws) :
    Only ws s (askGrants x0 x1 u) :=
  h.step (askGrants_core _ _ _) k
theorem modPtpu_core : ∀ x0 x1 s, Only [.net] s (modPtpu x0 x1 s) := by
  intro x0 x1 s
  unfold modPtpu
  try dsimp only
  repeat (first
    | with_reducible exact Only.refl _ _
    | with_reducible assumption
    | split
    | with_reducible apply modPtp_only (k := by decide)
    | dsimp only)
theorem modPtpu_only {ws s u} {x0 x1} (h : Only ws s u) (k : [Part.net] ⊆ ws) :
    Only ws s (modPtpu x0 x1 u) :=
  h.step (modPtpu_core _ _ _) k
theorem parentEvent_core : ∀ x0 x1 x2 s, Only [.host] s (parentEvent x0 x1 x2 s) := by
  intro x0 x1 x2 s
  unfold parentEvent
  try dsimp only
  repeat (first
    | with_reducible exact Only.refl _ _
    | with_reducible assumption
    | split
    | with_reducible apply raise_only (k := by decide)
    | dsimp only)
theorem parentEvent_only {ws s u} {x0 x1 x2} (h : Only ws s u) (k : [Part.host] ⊆ ws) :
    Only ws s (parentEvent x0 x1 x2 u) :=
  h.step (parentEvent_core _ _ _ _) k
theorem releaseParent_core : ∀ x0 s, Only [.sel, .net, .host] s (releaseParent x0 s) := by
  intro x0 s
  unfold releaseParent
  try dsimp only
  repeat (first
    | with_reducible exact Only.refl _ _
    | with_reducible assumption
    | split
    | with_reducible apply modEntry_only (k := by decide)
    | with_reducible apply modPtpu_only (k := by decide)
    | with_reducible apply addAct_only (k := by decide)
    | with_reducible apply parentEvent_only (k := by decide)
    | dsimp only)
theorem releaseParent_only {ws s u} {x0} (h : Only ws s u) (k : [Part.sel, .net, .host] ⊆ ws) :
    Only ws s (releaseParent x0 u) :=
  h.step (releaseParent_core _ _) k
theorem takeParent_core : ∀ x0 s, Only [.sel, .net, .stack, .host] s (takeParent x0 s) := by
  intro x0 s
  unfold takeParent
  try dsimp only
  repeat (first
    | with_reducible exact Only.refl _ _
    | with_reducible assumption
    | split
    | with_reducible apply modEntry_only (k := by decide)
    | with_reducible apply modPtpu_only (k := by decide)
    | with_reducible apply askGrants_only (k := by decide)
    | with_reducible apply addAct_only (k := by decide)
    | with_reducible apply parentEvent_only (k := by decide)
    | dsimp only)
theorem takeParent_only {ws s u} {x0} (h : Only ws s u) (k : [Part.sel, .net, .stack, .host] ⊆ ws) :
    Only ws s (takeParent x0 u) :=
  h.step (takeParent_core _ _) k
theorem parentStep_core : ∀ s, OnlyOpt [.sel, .net, .stack, .host] s (parentStep s) := by
  intro s
  unfold parentStep
  try dsimp only
  repeat (first
    | with_reducible exact Only.refl _ _
    | with_reducible assumption
    | split
    | with_reducible apply releaseParent_only (k := by decide)
    | with_reducible apply takeParent_only (k := by decide)
    | with_reducible apply onlyOpt_map
    | with_reducible apply onlyOpt_mapW
    | intro _
    | with_reducible apply onlyOpt_some
    | with_reducible apply onlyOpt_none
    | dsimp only)
theorem parentStep_only {ws s u} (h : Only ws s u) (k : [Part.sel, .net, .stack, .host] ⊆ ws) :
    OnlyOpt ws s (parentStep u) :=
  onlyOpt_mono (parentStep_core _) k h
theorem settleParentsFor_core : ∀ x0 s, Only [.sel, .net, .stack, .host] s (settleParentsFor x0 s) := by
  intro x0
  induction x0 with
  | zero => intro s; exact .refl _ _
  | succ n ih =>
    intro s
    unfold settleParentsFor
    split
    · rename_i e
      exact (Only.ofOpt (parentStep_only (.refl _ _) (by decide)) e).trans (ih _)
    · exact .refl _ _
theorem settleParentsFor_only {ws s u} {x0} (h : Only ws s u) (k : [Part.sel, .net, .stack, .host] ⊆ ws) :
    Only ws s (settleParentsFor x0 u) :=
  h.step (settleParentsFor_core _ _) k
theorem settleParents_core : ∀ s, Only [.sel, .net, .stack, .host] s (settleParents s) := by
  intro s
  unfold settleParents
  try dsimp only
  repeat (first
    | with_reducible exact Only.refl _ _
    | with_reducible assumption
    | split
    | with_reducible apply settleParentsFor_only (k := by decide)
    | dsimp only)
theorem settleParents_only {ws s u} (h : Only ws s u) (k : [Part.sel, .net, .stack, .host] ⊆ ws) :
    Only ws s (settleParents u) :=
  h.step (settleParents_core _) k
theorem loseParent_core : ∀ x0 s, Only [.clock, .refs, .sel, .ductus, .synth, .net, .stack, .host] s (loseParent x0 s) := by
  intro x0 s
  unfold loseParent
  try dsimp only
  repeat (first
    | with_reducible exact Only.refl _ _
    | with_reducible assumption
    | split
    | with_reducible apply modEntry_only (k := by decide)
    | with_reducible apply settleParents_only (k := by decide)
    | with_reducible apply addReason_only (k := by decide)
    | with_reducible apply parentEvent_only (k := by decide)
    | dsimp only)
theorem loseParent_only {ws s u} {x0} (h : Only ws s u) (k : [Part.clock, .refs, .sel, .ductus, .synth, .net, .stack, .host] ⊆ ws) :
    Only ws s (loseParent x0 u) :=
  h.step (loseParent_core _ _) k
theorem joinPtpu_core : ∀ x0 s, Only [.clock, .refs, .ductus, .margin, .synth, .host] s (joinPtpu x0 s) := by
  intro x0 s
  unfold joinPtpu
  try dsimp only
  repeat (first
    | with_reducible exact Only.refl _ _
    | with_reducible assumption
    | split
    | with_reducible apply modMargin_only (k := by decide)
    | with_reducible apply modRef_only (k := by decide)
    | with_reducible apply toMonitor_only (k := by decide)
    | dsimp only)
theorem joinPtpu_only {ws s u} {x0} (h : Only ws s u) (k : [Part.clock, .refs, .ductus, .margin, .synth, .host] ⊆ ws) :
    Only ws s (joinPtpu x0 u) :=
  h.step (joinPtpu_core _ _) k
theorem markCompanions_core : ∀ s, Only [.refs] s (markCompanions s) := by
  intro s; exact ⟨fun p hp => by cases p <;> first | rfl | simp at hp⟩
theorem markCompanions_only {ws s u} (h : Only ws s u) (k : [Part.refs] ⊆ ws) :
    Only ws s (markCompanions u) :=
  h.step (markCompanions_core _) k
theorem enableRef_core : ∀ x0 s, OnlyExc [.clock, .refs, .ductus, .synth, .nib, .host] s (enableRef x0 s) := by
  intro x0 s
  unfold enableRef
  try dsimp only
  repeat (first
    | with_reducible exact Only.refl _ _
    | with_reducible assumption
    | split
    | with_reducible apply modRef_only (k := by decide)
    | (with_reducible refine Only.ofOpt2 ?_ (by assumption); apply takeChannel_only (k := by decide))
    | with_reducible apply takeChannel_only (k := by decide)
    | with_reducible apply toMonitor_only (k := by decide)
    | with_reducible apply onlyExc_need
    | with_reducible apply onlyExc_pure
    | with_reducible apply onlyExc_ok
    | with_reducible apply onlyExc_error
    | dsimp only)
theorem enableRef_only {ws s u} {x0} (h : Only ws s u) (k : [Part.clock, .refs, .ductus, .synth, .nib, .host] ⊆ ws) :
    OnlyExc ws s (enableRef x0 u) :=
  onlyExc_mono (enableRef_core _ _) k h
theorem applyAct_core : ∀ x0 s, OnlyExc [.clock, .refs, .sel, .ductus, .margin, .synth, .nib, .gnss, .host] s (applyAct x0 s) := by
  intro x0 s
  unfold applyAct
  try dsimp only
  repeat (first
    | with_reducible exact Only.refl _ _
    | with_reducible assumption
    | split
    | with_reducible apply modClock_only (k := by decide)
    | with_reducible apply modRef_only (k := by decide)
    | with_reducible apply modSel_only (k := by decide)
    | (with_reducible refine Only.ofExc ?_ (by assumption); apply enableRef_only (k := by decide))
    | with_reducible apply enableRef_only (k := by decide)
    | with_reducible apply toOff_only (k := by decide)
    | with_reducible apply setRef_only (k := by decide)
    | (with_reducible refine Only.pair ?_ (by assumption); apply averagedOffset_only (k := by decide))
    | with_reducible apply averagedOffset_only (k := by decide)
    | with_reducible apply addReason_only (k := by decide)
    | with_reducible apply joinPtpu_only (k := by decide)
    | with_reducible apply onlyExc_need
    | with_reducible apply onlyExc_pure
    | with_reducible apply onlyExc_ok
    | with_reducible apply onlyExc_error
    | dsimp only)
theorem applyAct_only {ws s u} {x0} (h : Only ws s u) (k : [Part.clock, .refs, .sel, .ductus, .margin, .synth, .nib, .gnss, .host] ⊆ ws) :
    OnlyExc ws s (applyAct x0 u) :=
  onlyExc_mono (applyAct_core _ _) k h
theorem stepRejects_core : ∀ s, Only [.clock, .refs, .ductus, .synth, .host] s (stepRejects s) := by
  intro s
  unfold stepRejects
  try dsimp only
  repeat (first
    | with_reducible exact Only.refl _ _
    | with_reducible assumption
    | split
    | with_reducible apply restartTimer_only (k := by decide)
    | with_reducible apply setRef_only (k := by decide)
    | (with_reducible refine Only.each ?_ (fun _ _ => ?_))
    | dsimp only)
theorem stepRejects_only {ws s u} (h : Only ws s u) (k : [Part.clock, .refs, .ductus, .synth, .host] ⊆ ws) :
    Only ws s (stepRejects u) :=
  h.step (stepRejects_core _) k
theorem stepClears_core : ∀ s, Only [.clock, .refs, .ductus, .synth, .host] s (stepClears s) := by
  intro s
  unfold stepClears
  try dsimp only
  repeat (first
    | with_reducible exact Only.refl _ _
    | with_reducible assumption
    | split
    | with_reducible apply restartTimer_only (k := by decide)
    | with_reducible apply setRef_only (k := by decide)
    | (with_reducible refine Only.each ?_ (fun _ _ => ?_))
    | dsimp only)
theorem stepClears_only {ws s u} (h : Only ws s u) (k : [Part.clock, .refs, .ductus, .synth, .host] ⊆ ws) :
    Only ws s (stepClears u) :=
  h.step (stepClears_core _) k
theorem qualify_core : ∀ x0 s, Only [.clock, .refs, .ductus, .synth, .host] s (qualify x0 s) := by
  intro x0 s
  unfold qualify
  try dsimp only
  repeat (first
    | with_reducible exact Only.refl _ _
    | with_reducible assumption
    | split
    | with_reducible apply setRef_only (k := by decide)
    | dsimp only)
theorem qualify_only {ws s u} {x0} (h : Only ws s u) (k : [Part.clock, .refs, .ductus, .synth, .host] ⊆ ws) :
    Only ws s (qualify x0 u) :=
  h.step (qualify_core _ _) k
theorem stepQualify_core : ∀ s, Only [.clock, .refs, .ductus, .synth, .host] s (stepQualify s) := by
  intro s
  unfold stepQualify
  try dsimp only
  repeat (first
    | with_reducible exact Only.refl _ _
    | with_reducible assumption
    | split
    | with_reducible apply qualify_only (k := by decide)
    | (with_reducible refine Only.each ?_ (fun _ _ => ?_))
    | dsimp only)
theorem stepQualify_only {ws s u} (h : Only ws s u) (k : [Part.clock, .refs, .ductus, .synth, .host] ⊆ ws) :
    Only ws s (stepQualify u) :=
  h.step (stepQualify_core _) k
theorem followSwitch_core : ∀ x0 s, Only [.clock, .refs, .sel, .ductus, .margin, .synth, .host] s (followSwitch x0 s) := by
  intro x0 s
  unfold followSwitch
  try dsimp only
  repeat (first
    | with_reducible exact Only.refl _ _
    | with_reducible assumption
    | split
    | with_reducible apply retarget_only (k := by decide)
    | with_reducible apply startSwitch_only (k := by decide)
    | with_reducible apply abandonSwitch_only (k := by decide)
    | dsimp only)
theorem followSwitch_only {ws s u} {x0} (h : Only ws s u) (k : [Part.clock, .refs, .sel, .ductus, .margin, .synth, .host] ⊆ ws) :
    Only ws s (followSwitch x0 u) :=
  h.step (followSwitch_core _ _) k
theorem chooseNew_core : ∀ s, Only [.clock, .refs, .sel, .ductus, .margin, .synth, .host] s (chooseNew s) := by
  intro s
  unfold chooseNew
  try dsimp only
  repeat (first
    | with_reducible exact Only.refl _ _
    | with_reducible assumption
    | split
    | with_reducible apply selectNow_only (k := by decide)
    | with_reducible apply startSwitch_only (k := by decide)
    | with_reducible apply abandonSwitch_only (k := by decide)
    | dsimp only)
theorem chooseNew_only {ws s u} (h : Only ws s u) (k : [Part.clock, .refs, .sel, .ductus, .margin, .synth, .host] ⊆ ws) :
    Only ws s (chooseNew u) :=
  h.step (chooseNew_core _) k
theorem stepSelect_core : ∀ s, Only [.clock, .refs, .sel, .ductus, .margin, .synth, .host] s (stepSelect s) := by
  intro s
  unfold stepSelect
  try dsimp only
  repeat (first
    | with_reducible exact Only.refl _ _
    | with_reducible assumption
    | split
    | with_reducible apply modSel_only (k := by decide)
    | with_reducible apply setAnchor_only (k := by decide)
    | with_reducible apply chooseNew_only (k := by decide)
    | with_reducible apply followSwitch_only (k := by decide)
    | dsimp only)
theorem stepSelect_only {ws s u} (h : Only ws s u) (k : [Part.clock, .refs, .sel, .ductus, .margin, .synth, .host] ⊆ ws) :
    Only ws s (stepSelect u) :=
  h.step (stepSelect_core _) k
theorem dropAlarm_core : ∀ s, Only [.refs, .sel, .host] s (dropAlarm s) := by
  intro s
  unfold dropAlarm
  try dsimp only
  repeat (first
    | with_reducible exact Only.refl _ _
    | with_reducible assumption
    | split
    | with_reducible apply modSel_only (k := by decide)
    | with_reducible apply modRef_only (k := by decide)
    | with_reducible apply raise_only (k := by decide)
    | dsimp only)
theorem dropAlarm_only {ws s u} (h : Only ws s u) (k : [Part.refs, .sel, .host] ⊆ ws) :
    Only ws s (dropAlarm u) :=
  h.step (dropAlarm_core _) k
theorem stepAlarm_core : ∀ s, Only [.refs, .sel, .host] s (stepAlarm s) := by
  intro s
  unfold stepAlarm
  try dsimp only
  repeat (first
    | with_reducible exact Only.refl _ _
    | with_reducible assumption
    | split
    | with_reducible apply dropAlarm_only (k := by decide)
    | dsimp only)
theorem stepAlarm_only {ws s u} (h : Only ws s u) (k : [Part.refs, .sel, .host] ⊆ ws) :
    Only ws s (stepAlarm u) :=
  h.step (stepAlarm_core _) k
theorem stepEvents_core : ∀ x0 s, Only [.host] s (stepEvents x0 s) := by
  intro x0 s
  unfold stepEvents
  try dsimp only
  repeat (first
    | with_reducible exact Only.refl _ _
    | with_reducible assumption
    | split
    | with_reducible apply refEvent_only (k := by decide)
    | (with_reducible refine Only.each ?_ (fun _ _ => ?_))
    | dsimp only)
theorem stepEvents_only {ws s u} {x0} (h : Only ws s u) (k : [Part.host] ⊆ ws) :
    Only ws s (stepEvents x0 u) :=
  h.step (stepEvents_core _ _) k
theorem finishEvaluation_only {ws : List Part} {s : State} {x : State × List RefChange} (h : Only ws s x.1)
    (k : [Part.clock, .refs, .sel, .ductus, .margin, .synth, .net, .stack, .host] ⊆ ws) :
    Only ws s (finishEvaluation x) := by
  refine h.step (a := [.clock, .refs, .sel, .ductus, .margin, .synth, .net, .stack, .host]) ?_ k
  obtain ⟨u, l⟩ := x
  unfold finishEvaluation
  dsimp only
  apply settleParents_only (k := by decide)
  apply modSel_only (k := by decide)
  apply stepEvents_only (k := by decide)
  unfold staged
  apply stepAlarm_only (k := by decide)
  apply stepSelect_only (k := by decide)
  exact .refl _ _
theorem raiseAlarm_core : ∀ x0 x1 s, Only [.refs, .sel, .host] s (raiseAlarm x0 x1 s) := by
  intro x0 x1 s
  unfold raiseAlarm
  try dsimp only
  repeat (first
    | with_reducible exact Only.refl _ _
    | with_reducible assumption
    | split
    | with_reducible apply modSel_only (k := by decide)
    | with_reducible apply modRef_only (k := by decide)
    | with_reducible apply raise_only (k := by decide)
    | dsimp only)
theorem raiseAlarm_only {ws s u} {x0 x1} (h : Only ws s u) (k : [Part.refs, .sel, .host] ⊆ ws) :
    Only ws s (raiseAlarm x0 x1 u) :=
  h.step (raiseAlarm_core _ _ _) k
theorem watchDisagreement_core : ∀ x0 s, Only [.refs, .sel, .host] s (watchDisagreement x0 s) := by
  intro x0 s
  unfold watchDisagreement
  try dsimp only
  repeat (first
    | with_reducible exact Only.refl _ _
    | with_reducible assumption
    | split
    | with_reducible apply dropAlarm_only (k := by decide)
    | with_reducible apply raiseAlarm_only (k := by decide)
    | dsimp only)
theorem watchDisagreement_only {ws s u} {x0} (h : Only ws s u) (k : [Part.refs, .sel, .host] ⊆ ws) :
    Only ws s (watchDisagreement x0 u) :=
  h.step (watchDisagreement_core _ _) k
theorem clearDisagree_core : ∀ s, Only [.refs] s (clearDisagree s) := by
  intro s
  unfold clearDisagree
  try dsimp only
  repeat (first
    | with_reducible exact Only.refl _ _
    | with_reducible assumption
    | split
    | with_reducible apply modRef_only (k := by decide)
    | with_reducible apply clearReason_only (k := by decide)
    | (with_reducible refine Only.each ?_ (fun _ _ => ?_))
    | dsimp only)
theorem clearDisagree_only {ws s u} (h : Only ws s u) (k : [Part.refs] ⊆ ws) :
    Only ws s (clearDisagree u) :=
  h.step (clearDisagree_core _) k
theorem nextGate_core : ∀ x0 s, Only [.nib] s (nextGate x0 s) := by
  intro x0 s
  unfold nextGate
  try dsimp only
  repeat (first
    | with_reducible exact Only.refl _ _
    | with_reducible assumption
    | split
    | with_reducible apply modNib_only (k := by decide)
    | dsimp only)
theorem nextGate_only {ws s u} {x0} (h : Only ws s u) (k : [Part.nib] ⊆ ws) :
    Only ws s (nextGate x0 u) :=
  h.step (nextGate_core _ _) k
theorem setWeights_core : ∀ s, Only [.ductus] s (setWeights s) := by
  intro s
  unfold setWeights
  try dsimp only
  repeat (first
    | with_reducible exact Only.refl _ _
    | with_reducible assumption
    | split
    | with_reducible apply modDuctus_only (k := by decide)
    | dsimp only)
theorem setWeights_only {ws s u} (h : Only ws s u) (k : [Part.ductus] ⊆ ws) :
    Only ws s (setWeights u) :=
  h.step (setWeights_core _) k
theorem learnAll_core : ∀ x0 x1 s, Only [.ductus, .host] s (learnAll x0 x1 s) := by
  intro x0 x1 s
  unfold learnAll
  try dsimp only
  repeat (first
    | with_reducible exact Only.refl _ _
    | with_reducible assumption
    | split
    | with_reducible apply modDuctus_only (k := by decide)
    | with_reducible apply raise_only (k := by decide)
    | (with_reducible refine Only.each ?_ (fun _ _ => ?_))
    | dsimp only)
theorem learnAll_only {ws s u} {x0 x1} (h : Only ws s u) (k : [Part.ductus, .host] ⊆ ws) :
    Only ws s (learnAll x0 x1 u) :=
  h.step (learnAll_core _ _ _) k
theorem notePrediction_core : ∀ x0 s, Only [.ductus] s (notePrediction x0 s) := by
  intro x0 s
  unfold notePrediction
  try dsimp only
  repeat (first
    | with_reducible exact Only.refl _ _
    | with_reducible assumption
    | split
    | with_reducible apply modDuctus_only (k := by decide)
    | dsimp only)
theorem notePrediction_only {ws s u} {x0} (h : Only ws s u) (k : [Part.ductus] ⊆ ws) :
    Only ws s (notePrediction x0 u) :=
  h.step (notePrediction_core _ _) k
theorem takeParams_core : ∀ x0 x1 s, Only [.ductus] s (takeParams x0 x1 s) := by
  intro x0 x1 s
  unfold takeParams
  try dsimp only
  repeat (first
    | with_reducible exact Only.refl _ _
    | with_reducible assumption
    | split
    | with_reducible apply modDuctus_only (k := by decide)
    | dsimp only)
theorem takeParams_only {ws s u} {x0 x1} (h : Only ws s u) (k : [Part.ductus] ⊆ ws) :
    Only ws s (takeParams x0 x1 u) :=
  h.step (takeParams_core _ _ _) k
theorem slew_core : ∀ x0 s, Only [.ductus] s (slew x0 s) := by
  intro x0 s
  unfold slew
  try dsimp only
  repeat (first
    | with_reducible exact Only.refl _ _
    | with_reducible assumption
    | split
    | with_reducible apply modDuctus_only (k := by decide)
    | dsimp only)
theorem slew_only {ws s u} {x0} (h : Only ws s u) (k : [Part.ductus] ⊆ ws) :
    Only ws s (slew x0 u) :=
  h.step (slew_core _ _) k
theorem applyRebase_core : ∀ s, Only [.clock, .refs, .sel, .ductus, .margin, .synth, .nib, .net, .stack, .host] s (applyRebase s) := by
  intro s
  unfold applyRebase
  try dsimp only
  repeat (first
    | with_reducible exact Only.refl _ _
    | with_reducible assumption
    | split
    | with_reducible apply modClock_only (k := by decide)
    | with_reducible apply modSel_only (k := by decide)
    | with_reducible apply modDuctus_only (k := by decide)
    | with_reducible apply stepTime_only (k := by decide)
    | with_reducible apply setAnchor_only (k := by decide)
    | with_reducible apply setRef_only (k := by decide)
    | with_reducible apply deselect_only (k := by decide)
    | with_reducible apply refEvent_only (k := by decide)
    | with_reducible apply raise_only (k := by decide)
    | with_reducible apply setDuctus_only (k := by decide)
    | dsimp only)
theorem applyRebase_only {ws s u} (h : Only ws s u) (k : [Part.clock, .refs, .sel, .ductus, .margin, .synth, .nib, .net, .stack, .host] ⊆ ws) :
    Only ws s (applyRebase u) :=
  h.step (applyRebase_core _) k
theorem resume_core : ∀ x0 x1 s, Only [.clock, .ductus, .synth, .host] s (resume x0 x1 s) := by
  intro x0 x1 s
  unfold resume
  try dsimp only
  repeat (first
    | with_reducible exact Only.refl _ _
    | with_reducible assumption
    | split
    | with_reducible apply modDuctus_only (k := by decide)
    | with_reducible apply setDuctus_only (k := by decide)
    | with_reducible apply loadB_only (k := by decide)
    | dsimp only)
theorem resume_only {ws s u} {x0 x1} (h : Only ws s u) (k : [Part.clock, .ductus, .synth, .host] ⊆ ws) :
    Only ws s (resume x0 x1 u) :=
  h.step (resume_core _ _ _) k
theorem acquire_core : ∀ x0 x1 s, Only [.clock, .refs, .nib, .net, .stack] s (acquire x0 x1 s) := by
  intro x0 x1 s
  unfold acquire
  try dsimp only
  repeat (first
    | with_reducible exact Only.refl _ _
    | with_reducible assumption
    | split
    | with_reducible apply modClock_only (k := by decide)
    | with_reducible apply setVirtual_only (k := by decide)
    | dsimp only)
theorem acquire_only {ws s u} {x0 x1} (h : Only ws s u) (k : [Part.clock, .refs, .nib, .net, .stack] ⊆ ws) :
    Only ws s (acquire x0 x1 u) :=
  h.step (acquire_core _ _ _) k
theorem settle_core : ∀ x0 s, Only [.ductus] s (settle x0 s) := by
  intro x0 s
  unfold settle
  try dsimp only
  repeat (first
    | with_reducible exact Only.refl _ _
    | with_reducible assumption
    | split
    | with_reducible apply modDuctus_only (k := by decide)
    | with_reducible apply loadB_only (k := by decide)
    | dsimp only)
theorem settle_only {ws s u} {x0} (h : Only ws s u) (k : [Part.ductus] ⊆ ws) :
    Only ws s (settle x0 u) :=
  h.step (settle_core _ _) k
theorem spreadPrediction_core : ∀ s, Only [.refs] s (spreadPrediction s) := by
  intro s; unfold spreadPrediction; (try dsimp only); (repeat (first | split | with_reducible exact Only.refl _ _)) <;> (exact ⟨fun p hp => by cases p <;> first | rfl | simp at hp⟩)
theorem spreadPrediction_only {ws s u} (h : Only ws s u) (k : [Part.refs] ⊆ ws) :
    Only ws s (spreadPrediction u) :=
  h.step (spreadPrediction_core _) k
theorem countTimers_core : ∀ x0 s, Only [.refs] s (countTimers x0 s) := by
  intro x0 s; unfold countTimers; (try dsimp only); (repeat (first | split | with_reducible exact Only.refl _ _)) <;> (exact ⟨fun p hp => by cases p <;> first | rfl | simp at hp⟩)
theorem countTimers_only {ws s u} {x0} (h : Only ws s u) (k : [Part.refs] ⊆ ws) :
    Only ws s (countTimers x0 u) :=
  h.step (countTimers_core _ _) k
theorem takeAplls_core : ∀ x0 x1 s, Only [.synth, .host] s (takeAplls x0 x1 s) := by
  intro x0 x1 s
  unfold takeAplls
  try dsimp only
  repeat (first
    | with_reducible exact Only.refl _ _
    | with_reducible assumption
    | split
    | with_reducible apply modApll_only (k := by decide)
    | with_reducible apply applyOne_only (k := by decide)
    | with_reducible apply holdApll_only (k := by decide)
    | with_reducible apply setApll_only (k := by decide)
    | (with_reducible refine Only.each ?_ (fun _ _ => ?_))
    | dsimp only)
theorem takeAplls_only {ws s u} {x0 x1} (h : Only ws s u) (k : [Part.synth, .host] ⊆ ws) :
    Only ws s (takeAplls x0 x1 u) :=
  h.step (takeAplls_core _ _ _) k
theorem followInput_core : ∀ x0 s, Only [.clock, .ductus, .synth, .host] s (followInput x0 s) := by
  intro x0 s
  unfold followInput
  try dsimp only
  repeat (first
    | with_reducible exact Only.refl _ _
    | with_reducible assumption
    | split
    | with_reducible apply thawDpll_only (k := by decide)
    | with_reducible apply freezeDpll_only (k := by decide)
    | dsimp only)
theorem followInput_only {ws s u} {x0} (h : Only ws s u) (k : [Part.clock, .ductus, .synth, .host] ⊆ ws) :
    Only ws s (followInput x0 u) :=
  h.step (followInput_core _ _) k
theorem putDpll_core : ∀ x0 x1 s, Only [.clock, .ductus, .synth, .host] s (putDpll x0 x1 s) := by
  intro x0 x1 s
  unfold putDpll
  try dsimp only
  repeat (first
    | with_reducible exact Only.refl _ _
    | with_reducible assumption
    | split
    | with_reducible apply modDuctus_only (k := by decide)
    | with_reducible apply followInput_only (k := by decide)
    | with_reducible apply takeAplls_only (k := by decide)
    | dsimp only)
theorem putDpll_only {ws s u} {x0 x1} (h : Only ws s u) (k : [Part.clock, .ductus, .synth, .host] ⊆ ws) :
    Only ws s (putDpll x0 x1 u) :=
  h.step (putDpll_core _ _ _) k
theorem dpllOff_core : ∀ x0 s, Only [.clock, .ductus, .synth, .host] s (dpllOff x0 s) := by
  intro x0 s
  unfold dpllOff
  try dsimp only
  repeat (first
    | with_reducible exact Only.refl _ _
    | with_reducible assumption
    | split
    | with_reducible apply modDpll_only (k := by decide)
    | with_reducible apply abortRealign_only (k := by decide)
    | with_reducible apply dropItem_only (k := by decide)
    | with_reducible apply takeAplls_only (k := by decide)
    | dsimp only)
theorem dpllOff_only {ws s u} {x0} (h : Only ws s u) (k : [Part.clock, .ductus, .synth, .host] ⊆ ws) :
    Only ws s (dpllOff x0 u) :=
  h.step (dpllOff_core _ _) k
theorem startCapture_core : ∀ x0 s, Only [.gnss] s (startCapture x0 s) := by
  intro x0 s
  unfold startCapture
  try dsimp only
  repeat (first
    | with_reducible exact Only.refl _ _
    | with_reducible assumption
    | split
    | with_reducible apply modGnss_only (k := by decide)
    | dsimp only)
theorem startCapture_only {ws s u} {x0} (h : Only ws s u) (k : [Part.gnss] ⊆ ws) :
    Only ws s (startCapture x0 u) :=
  h.step (startCapture_core _ _) k
theorem triggerCapture_core : ∀ x0 s, Only [.gnss, .host] s (triggerCapture x0 s) := by
  intro x0 s
  unfold triggerCapture
  try dsimp only
  repeat (first
    | with_reducible exact Only.refl _ _
    | with_reducible assumption
    | split
    | with_reducible apply modGnss_only (k := by decide)
    | with_reducible apply raise_only (k := by decide)
    | with_reducible apply startCapture_only (k := by decide)
    | dsimp only)
theorem triggerCapture_only {ws s u} {x0} (h : Only ws s u) (k : [Part.gnss, .host] ⊆ ws) :
    Only ws s (triggerCapture x0 u) :=
  h.step (triggerCapture_core _ _) k
theorem evinTrigger_core : ∀ x0 s, Only [.gnss, .host] s (evinTrigger x0 s) := by
  intro x0 s
  unfold evinTrigger
  try dsimp only
  repeat (first
    | with_reducible exact Only.refl _ _
    | with_reducible assumption
    | split
    | with_reducible apply triggerCapture_only (k := by decide)
    | dsimp only)
theorem evinTrigger_only {ws s u} {x0} (h : Only ws s u) (k : [Part.gnss, .host] ⊆ ws) :
    Only ws s (evinTrigger x0 u) :=
  h.step (evinTrigger_core _ _) k
theorem endGroupDelay_core : ∀ x0 x1 s, Only [.gnss, .host] s (endGroupDelay x0 x1 s) := by
  intro x0 x1 s
  unfold endGroupDelay
  try dsimp only
  repeat (first
    | with_reducible exact Only.refl _ _
    | with_reducible assumption
    | split
    | with_reducible apply modPort_only (k := by decide)
    | with_reducible apply completeCmd_only (k := by decide)
    | dsimp only)
theorem endGroupDelay_only {ws s u} {x0 x1} (h : Only ws s u) (k : [Part.gnss, .host] ⊆ ws) :
    Only ws s (endGroupDelay x0 x1 u) :=
  h.step (endGroupDelay_core _ _ _) k
theorem startClock_core : ∀ s, Only [.clock] s (startClock s) := by
  intro s
  unfold startClock
  try dsimp only
  repeat (first
    | with_reducible exact Only.refl _ _
    | with_reducible assumption
    | split
    | with_reducible apply modClock_only (k := by decide)
    | dsimp only)
theorem startClock_only {ws s u} (h : Only ws s u) (k : [Part.clock] ⊆ ws) :
    Only ws s (startClock u) :=
  h.step (startClock_core _) k
theorem limiterRelease_core : ∀ x0 s, Only [.synth, .host] s (limiterRelease x0 s) := by
  intro x0 s
  unfold limiterRelease
  try dsimp only
  repeat (first
    | with_reducible exact Only.refl _ _
    | with_reducible assumption
    | split
    | with_reducible apply modApll_only (k := by decide)
    | with_reducible apply restartOutputs_only (k := by decide)
    | dsimp only)
theorem limiterRelease_only {ws s u} {x0} (h : Only ws s u) (k : [Part.synth, .host] ⊆ ws) :
    Only ws s (limiterRelease x0 u) :=
  h.step (limiterRelease_core _ _) k
theorem putCkout_core : ∀ x0 x1 s, Only [.synth] s (putCkout x0 x1 s) := by
  intro x0 x1 s
  unfold putCkout
  try dsimp only
  repeat (first
    | with_reducible exact Only.refl _ _
    | with_reducible assumption
    | split
    | with_reducible apply modCkout_only (k := by decide)
    | dsimp only)
theorem putCkout_only {ws s u} {x0 x1} (h : Only ws s u) (k : [Part.synth] ⊆ ws) :
    Only ws s (putCkout x0 x1 u) :=
  h.step (putCkout_core _ _ _) k
theorem finishRealign_core : ∀ x0 s, Only [.ductus, .synth, .host] s (finishRealign x0 s) := by
  intro x0 s
  unfold finishRealign
  try dsimp only
  repeat (first
    | with_reducible exact Only.refl _ _
    | with_reducible assumption
    | split
    | with_reducible apply modDpll_only (k := by decide)
    | with_reducible apply modCkout_only (k := by decide)
    | with_reducible apply itemDone_only (k := by decide)
    | (with_reducible refine Only.each ?_ (fun _ _ => ?_))
    | dsimp only)
theorem finishRealign_only {ws s u} {x0} (h : Only ws s u) (k : [Part.ductus, .synth, .host] ⊆ ws) :
    Only ws s (finishRealign x0 u) :=
  h.step (finishRealign_core _ _) k
theorem endSlew_core : ∀ x0 s, Only [.clock, .ductus, .synth, .host] s (endSlew x0 s) := by
  intro x0 s
  unfold endSlew
  try dsimp only
  repeat (first
    | with_reducible exact Only.refl _ _
    | with_reducible assumption
    | split
    | with_reducible apply modDpll_only (k := by decide)
    | with_reducible apply modDuctus_only (k := by decide)
    | with_reducible apply modCkout_only (k := by decide)
    | with_reducible apply slewIncrement_only (k := by decide)
    | with_reducible apply finishRealign_only (k := by decide)
    | (with_reducible refine Only.each ?_ (fun _ _ => ?_))
    | dsimp only)
theorem endSlew_only {ws s u} {x0} (h : Only ws s u) (k : [Part.clock, .ductus, .synth, .host] ⊆ ws) :
    Only ws s (endSlew x0 u) :=
  h.step (endSlew_core _ _) k
theorem beginSlew_core : ∀ x0 x1 s, Only [.clock, .ductus, .synth, .host] s (beginSlew x0 x1 s) := by
  intro x0 x1 s
  unfold beginSlew
  try dsimp only
  repeat (first
    | with_reducible exact Only.refl _ _
    | with_reducible assumption
    | split
    | with_reducible apply modDpll_only (k := by decide)
    | with_reducible apply itemDone_only (k := by decide)
    | with_reducible apply endSlew_only (k := by decide)
    | with_reducible apply slewIncrement_only (k := by decide)
    | dsimp only)
theorem beginSlew_only {ws s u} {x0 x1} (h : Only ws s u) (k : [Part.clock, .ductus, .synth, .host] ⊆ ws) :
    Only ws s (beginSlew x0 x1 u) :=
  h.step (beginSlew_core _ _ _) k
theorem stepFrame_core : ∀ x0 x1 s, Only [.synth] s (stepFrame x0 x1 s) := by
  intro x0 x1 s
  unfold stepFrame
  try dsimp only
  repeat (first
    | with_reducible exact Only.refl _ _
    | with_reducible assumption
    | split
    | with_reducible apply modCkout_only (k := by decide)
    | dsimp only)
theorem stepFrame_only {ws s u} {x0 x1} (h : Only ws s u) (k : [Part.synth] ⊆ ws) :
    Only ws s (stepFrame x0 x1 u) :=
  h.step (stepFrame_core _ _ _) k
theorem stepEvout_core : ∀ x0 x1 s, Only [.synth] s (stepEvout x0 x1 s) := by
  intro x0 x1 s
  unfold stepEvout
  try dsimp only
  repeat (first
    | with_reducible exact Only.refl _ _
    | with_reducible assumption
    | split
    | with_reducible apply modEvout_only (k := by decide)
    | dsimp only)
theorem stepEvout_only {ws s u} {x0 x1} (h : Only ws s u) (k : [Part.synth] ⊆ ws) :
    Only ws s (stepEvout x0 x1 u) :=
  h.step (stepEvout_core _ _ _) k
theorem putProgram_core : ∀ x0 x1 x2 s, Only [.synth] s (putProgram x0 x1 x2 s) := by
  intro x0 x1 x2 s
  unfold putProgram
  try dsimp only
  repeat (first
    | with_reducible exact Only.refl _ _
    | with_reducible assumption
    | split
    | with_reducible apply modEvout_only (k := by decide)
    | dsimp only)
theorem putProgram_only {ws s u} {x0 x1 x2} (h : Only ws s u) (k : [Part.synth] ⊆ ws) :
    Only ws s (putProgram x0 x1 x2 u) :=
  h.step (putProgram_core _ _ _ _) k
theorem putMargin_core : ∀ x0 x1 x2 s, Only [.margin] s (putMargin x0 x1 x2 s) := by
  intro x0 x1 x2 s
  unfold putMargin
  try dsimp only
  repeat (first
    | with_reducible exact Only.refl _ _
    | with_reducible assumption
    | split
    | with_reducible apply modMargin_only (k := by decide)
    | dsimp only)
theorem putMargin_only {ws s u} {x0 x1 x2} (h : Only ws s u) (k : [Part.margin] ⊆ ws) :
    Only ws s (putMargin x0 x1 x2 u) :=
  h.step (putMargin_core _ _ _ _) k
theorem ageWiden_core : ∀ x0 s, Only [.margin] s (ageWiden x0 s) := by
  intro x0 s
  unfold ageWiden
  try dsimp only
  repeat (first
    | with_reducible exact Only.refl _ _
    | with_reducible assumption
    | split
    | with_reducible apply modMargin_only (k := by decide)
    | dsimp only)
theorem ageWiden_only {ws s u} {x0} (h : Only ws s u) (k : [Part.margin] ⊆ ws) :
    Only ws s (ageWiden x0 u) :=
  h.step (ageWiden_core _ _) k
theorem oweStatement_core : ∀ x0 s, Only [.margin] s (oweStatement x0 s) := by
  intro x0 s
  unfold oweStatement
  try dsimp only
  repeat (first
    | with_reducible exact Only.refl _ _
    | with_reducible assumption
    | split
    | with_reducible apply modMargin_only (k := by decide)
    | dsimp only)
theorem oweStatement_only {ws s u} {x0} (h : Only ws s u) (k : [Part.margin] ⊆ ws) :
    Only ws s (oweStatement x0 u) :=
  h.step (oweStatement_core _ _) k
theorem modSession_core : ∀ x0 x1 s, Only [.net] s (modSession x0 x1 s) := by
  intro x0 x1 s
  unfold modSession
  try dsimp only
  repeat (first
    | with_reducible exact Only.refl _ _
    | with_reducible assumption
    | split
    | with_reducible apply modPtp_only (k := by decide)
    | dsimp only)
theorem modSession_only {ws s u} {x0 x1} (h : Only ws s u) (k : [Part.net] ⊆ ws) :
    Only ws s (modSession x0 x1 u) :=
  h.step (modSession_core _ _ _) k
theorem dropSession_core : ∀ x0 s, Only [.net] s (dropSession x0 s) := by
  intro x0 s
  unfold dropSession
  try dsimp only
  repeat (first
    | with_reducible exact Only.refl _ _
    | with_reducible assumption
    | split
    | with_reducible apply modPtp_only (k := by decide)
    | dsimp only)
theorem dropSession_only {ws s u} {x0} (h : Only ws s u) (k : [Part.net] ⊆ ws) :
    Only ws s (dropSession x0 u) :=
  h.step (dropSession_core _ _) k
theorem settleCounts_core : ∀ s, Only [.net] s (settleCounts s) := by
  intro s
  unfold settleCounts
  try dsimp only
  repeat (first
    | with_reducible exact Only.refl _ _
    | with_reducible assumption
    | split
    | with_reducible apply modPtp_only (k := by decide)
    | dsimp only)
theorem settleCounts_only {ws s u} (h : Only ws s u) (k : [Part.net] ⊆ ws) :
    Only ws s (settleCounts u) :=
  h.step (settleCounts_core _) k
theorem replicateSession_core : ∀ x0 s, Only [.net, .stack, .host] s (replicateSession x0 s) := by
  intro x0 s
  unfold replicateSession
  try dsimp only
  repeat (first
    | with_reducible exact Only.refl _ _
    | with_reducible assumption
    | split
    | with_reducible apply replicate_only (k := by decide)
    | dsimp only)
theorem replicateSession_only {ws s u} {x0} (h : Only ws s u) (k : [Part.net, .stack, .host] ⊆ ws) :
    Only ws s (replicateSession x0 u) :=
  h.step (replicateSession_core _ _) k
theorem ptpDrop_core : ∀ x0 x1 s, Only [.net, .host] s (ptpDrop x0 x1 s) := by
  intro x0 x1 s
  unfold ptpDrop
  try dsimp only
  repeat (first
    | with_reducible exact Only.refl _ _
    | with_reducible assumption
    | split
    | with_reducible apply countPtp_only (k := by decide)
    | with_reducible apply markSummary_only (k := by decide)
    | dsimp only)
theorem ptpDrop_only {ws s u} {x0 x1} (h : Only ws s u) (k : [Part.net, .host] ⊆ ws) :
    Only ws s (ptpDrop x0 x1 u) :=
  h.step (ptpDrop_core _ _ _) k
theorem verifyIcv_core : ∀ x0 x1 x2 s, Only [.net, .host] s (verifyIcv x0 x1 x2 s).2 := by
  intro x0 x1 x2 s
  unfold verifyIcv
  try dsimp only
  repeat (first
    | with_reducible exact Only.refl _ _
    | with_reducible assumption
    | split
    | with_reducible apply ptpDrop_only (k := by decide)
    | with_reducible apply countPtp_only (k := by decide)
    | dsimp only)
theorem verifyIcv_only {ws s u} {x0 x1 x2} (h : Only ws s u) (k : [Part.net, .host] ⊆ ws) :
    Only ws s (verifyIcv x0 x1 x2 u).2 :=
  h.step (verifyIcv_core _ _ _ _) k
theorem countUnknown_core : ∀ x0 x1 s, Only [.net] s (countUnknown x0 x1 s) := by
  intro x0 x1 s
  unfold countUnknown
  try dsimp only
  repeat (first
    | with_reducible exact Only.refl _ _
    | with_reducible assumption
    | split
    | with_reducible apply modPtpAddr_only (k := by decide)
    | dsimp only)
theorem countUnknown_only {ws s u} {x0 x1} (h : Only ws s u) (k : [Part.net] ⊆ ws) :
    Only ws s (countUnknown x0 x1 u) :=
  h.step (countUnknown_core _ _ _) k
theorem ptpShareDrop_core : ∀ x0 s, Only [.net, .host] s (ptpShareDrop x0 s) := by
  intro x0 s
  unfold ptpShareDrop
  try dsimp only
  repeat (first
    | with_reducible exact Only.refl _ _
    | with_reducible assumption
    | split
    | with_reducible apply modPtp_only (k := by decide)
    | with_reducible apply markMask_only (k := by decide)
    | dsimp only)
theorem ptpShareDrop_only {ws s u} {x0} (h : Only ws s u) (k : [Part.net, .host] ⊆ ws) :
    Only ws s (ptpShareDrop x0 u) :=
  h.step (ptpShareDrop_core _ _) k
theorem admitDelayReq_core : ∀ x0 x1 x2 x3 x4 x5 s, Only [.net, .wear, .host] s (admitDelayReq x0 x1 x2 x3 x4 x5 s) := by
  intro x0 x1 x2 x3 x4 x5 s
  unfold admitDelayReq
  try dsimp only
  repeat (first
    | with_reducible exact Only.refl _ _
    | with_reducible assumption
    | split
    | with_reducible apply modPtp_only (k := by decide)
    | with_reducible apply settleCounts_only (k := by decide)
    | with_reducible apply ptpDrop_only (k := by decide)
    | with_reducible apply raiseOnce_only (k := by decide)
    | with_reducible apply countPtp_only (k := by decide)
    | with_reducible apply ptpShareDrop_only (k := by decide)
    | with_reducible apply modSession_only (k := by decide)
    | with_reducible apply countAdmitted_only (k := by decide)
    | dsimp only)
theorem admitDelayReq_only {ws s u} {x0 x1 x2 x3 x4 x5} (h : Only ws s u) (k : [Part.net, .wear, .host] ⊆ ws) :
    Only ws s (admitDelayReq x0 x1 x2 x3 x4 x5 u) :=
  h.step (admitDelayReq_core _ _ _ _ _ _ _) k
theorem admitClient_core : ∀ x0 x1 x2 x3 s, Only [.net] s (admitClient x0 x1 x2 x3 s) := by
  intro x0 x1 x2 x3 s
  unfold admitClient
  try dsimp only
  repeat (first
    | with_reducible exact Only.refl _ _
    | with_reducible assumption
    | split
    | with_reducible apply modPtp_only (k := by decide)
    | with_reducible apply modEntry_only (k := by decide)
    | dsimp only)
theorem admitClient_only {ws s u} {x0 x1 x2 x3} (h : Only ws s u) (k : [Part.net] ⊆ ws) :
    Only ws s (admitClient x0 x1 x2 x3 u) :=
  h.step (admitClient_core _ _ _ _ _) k
theorem ptpRequest_core : ∀ x0 x1 x2 x3 x4 x5 x6 s, Only [.net, .wear, .host] s (ptpRequest x0 x1 x2 x3 x4 x5 x6 s) := by
  intro x0 x1 x2 x3 x4 x5 x6 s
  unfold ptpRequest
  extract_lets c bad server client bit
  clear_value bad server client bit
  repeat (first
    | with_reducible exact Only.refl _ _
    | split
    | with_reducible apply ptpDrop_only (k := by decide)
    | with_reducible apply ptpShareDrop_only (k := by decide)
    | with_reducible apply admitClient_only (k := by decide)
    | with_reducible apply admitDelayReq_only (k := by decide)
    | with_reducible apply markMask_only (k := by decide)
    | with_reducible apply countPtp_only (k := by decide)
    | with_reducible apply modPtp_only (k := by decide))
theorem ptpRequest_only {ws s u} {x0 x1 x2 x3 x4 x5 x6} (h : Only ws s u) (k : [Part.net, .wear, .host] ⊆ ws) :
    Only ws s (ptpRequest x0 x1 x2 x3 x4 x5 x6 u) :=
  h.step (ptpRequest_core _ _ _ _ _ _ _ _) k
theorem judgePort_core : ∀ x0 s, Only [.margin] s (judgePort x0 s) := by
  intro x0 s
  unfold judgePort
  try dsimp only
  repeat (first
    | with_reducible exact Only.refl _ _
    | with_reducible assumption
    | split
    | with_reducible apply judgeClass_only (k := by decide)
    | with_reducible apply judgeAlarm_only (k := by decide)
    | dsimp only)
theorem judgePort_only {ws s u} {x0} (h : Only ws s u) (k : [Part.margin] ⊆ ws) :
    Only ws s (judgePort x0 u) :=
  h.step (judgePort_core _ _) k
theorem sessionWire_core : ∀ x0 x1 x2 s, Only [.host] s (sessionWire x0 x1 x2 s).2 := by
  intro x0 x1 x2 s
  unfold sessionWire
  try dsimp only
  repeat (first
    | with_reducible exact Only.refl _ _
    | with_reducible assumption
    | split
    | (with_reducible refine Only.pair ?_ (by assumption); apply freshNat_only (k := by decide))
    | with_reducible apply freshNat_only (k := by decide)
    | dsimp only)
theorem sessionWire_only {ws s u} {x0 x1 x2} (h : Only ws s u) (k : [Part.host] ⊆ ws) :
    Only ws s (sessionWire x0 x1 x2 u).2 :=
  h.step (sessionWire_core _ _ _ _) k
theorem signalSession_core : ∀ x0 x1 x2 s, Only [.net, .stack, .host] s (signalSession x0 x1 x2 s) := by
  intro x0 x1 x2 s
  unfold signalSession
  try dsimp only
  repeat (first
    | with_reducible exact Only.refl _ _
    | with_reducible assumption
    | split
    | (with_reducible refine Only.pair ?_ (by assumption); apply sessionWire_only (k := by decide))
    | with_reducible apply sessionWire_only (k := by decide)
    | with_reducible apply sendSignal_only (k := by decide)
    | dsimp only)
theorem signalSession_only {ws s u} {x0 x1 x2} (h : Only ws s u) (k : [Part.net, .stack, .host] ⊆ ws) :
    Only ws s (signalSession x0 x1 x2 u) :=
  h.step (signalSession_core _ _ _ _) k
theorem cancelSessions_core : ∀ x0 s, Only [.net, .stack, .host] s (cancelSessions x0 s) := by
  intro x0 s
  unfold cancelSessions
  try dsimp only
  repeat (first
    | with_reducible exact Only.refl _ _
    | with_reducible assumption
    | split
    | with_reducible apply signalSession_only (k := by decide)
    | with_reducible apply replicateSession_only (k := by decide)
    | with_reducible apply modSession_only (k := by decide)
    | (with_reducible refine Only.each ?_ (fun _ _ => ?_))
    | dsimp only)
theorem cancelSessions_only {ws s u} {x0} (h : Only ws s u) (k : [Part.net, .stack, .host] ⊆ ws) :
    Only ws s (cancelSessions x0 u) :=
  h.step (cancelSessions_core _ _) k
theorem applyPtp_core : ∀ x0 x1 s, Only [.sel, .net, .stack, .host] s (applyPtp x0 x1 s) := by
  intro x0 x1 s
  unfold applyPtp
  try dsimp only
  repeat (first
    | with_reducible exact Only.refl _ _
    | with_reducible assumption
    | split
    | with_reducible apply modPtpAddr_only (k := by decide)
    | with_reducible apply settleParents_only (k := by decide)
    | with_reducible apply cancelSessions_only (k := by decide)
    | dsimp only)
theorem applyPtp_only {ws s u} {x0 x1} (h : Only ws s u) (k : [Part.sel, .net, .stack, .host] ⊆ ws) :
    Only ws s (applyPtp x0 x1 u) :=
  h.step (applyPtp_core _ _ _) k
theorem putPtp_core : ∀ x0 x1 x2 s, OnlyExc [.sel, .net, .stack, .host] s (putPtp x0 x1 x2 s) := by
  intro x0 x1 x2 s
  unfold putPtp
  try dsimp only
  repeat (first
    | with_reducible exact Only.refl _ _
    | with_reducible assumption
    | split
    | with_reducible apply replicateConfig_only (k := by decide)
    | with_reducible apply applyPtp_only (k := by decide)
    | with_reducible apply onlyExc_need
    | with_reducible apply onlyExc_pure
    | with_reducible apply onlyExc_ok
    | with_reducible apply onlyExc_error
    | dsimp only)
theorem putPtp_only {ws s u} {x0 x1 x2} (h : Only ws s u) (k : [Part.sel, .net, .stack, .host] ⊆ ws) :
    OnlyExc ws s (putPtp x0 x1 x2 u) :=
  onlyExc_mono (putPtp_core _ _ _ _) k h
theorem putGlobal_core : ∀ x0 s, OnlyExc [.net, .stack, .host] s (putGlobal x0 s) := by
  intro x0 s
  unfold putGlobal
  try dsimp only
  repeat (first
    | with_reducible exact Only.refl _ _
    | with_reducible assumption
    | split
    | with_reducible apply modPtp_only (k := by decide)
    | with_reducible apply replicateConfig_only (k := by decide)
    | with_reducible apply onlyExc_need
    | with_reducible apply onlyExc_pure
    | with_reducible apply onlyExc_ok
    | with_reducible apply onlyExc_error
    | dsimp only)
theorem putGlobal_only {ws s u} {x0} (h : Only ws s u) (k : [Part.net, .stack, .host] ⊆ ws) :
    OnlyExc ws s (putGlobal x0 u) :=
  onlyExc_mono (putGlobal_core _ _) k h
theorem freeHandle_core : ∀ x0 s, Only [.keys] s (freeHandle x0 s) := by
  intro x0 s
  unfold freeHandle
  try dsimp only
  repeat (first
    | with_reducible exact Only.refl _ _
    | with_reducible assumption
    | split
    | with_reducible apply zeroSlot_only (k := by decide)
    | dsimp only)
theorem freeHandle_only {ws s u} {x0} (h : Only ws s u) (k : [Part.keys] ⊆ ws) :
    Only ws s (freeHandle x0 u) :=
  h.step (freeHandle_core _ _) k
theorem replicateSaKey_core : ∀ x0 x1 s, Only [.net, .stack, .host] s (replicateSaKey x0 x1 s) := by
  intro x0 x1 s
  unfold replicateSaKey
  try dsimp only
  repeat (first
    | with_reducible exact Only.refl _ _
    | with_reducible assumption
    | split
    | with_reducible apply replicate_only (k := by decide)
    | dsimp only)
theorem replicateSaKey_only {ws s u} {x0 x1} (h : Only ws s u) (k : [Part.net, .stack, .host] ⊆ ws) :
    Only ws s (replicateSaKey x0 x1 u) :=
  h.step (replicateSaKey_core _ _ _) k
theorem applySa_core : ∀ x0 x1 s, Only [.net, .keys, .stack, .host] s (applySa x0 x1 s) := by
  intro x0 x1 s
  unfold applySa
  try dsimp only
  repeat (first
    | with_reducible exact Only.refl _ _
    | with_reducible assumption
    | split
    | with_reducible apply setSa_only (k := by decide)
    | with_reducible apply raise_only (k := by decide)
    | with_reducible apply replicateSaKey_only (k := by decide)
    | with_reducible apply freeHandle_only (k := by decide)
    | dsimp only)
theorem applySa_only {ws s u} {x0 x1} (h : Only ws s u) (k : [Part.net, .keys, .stack, .host] ⊆ ws) :
    Only ws s (applySa x0 x1 u) :=
  h.step (applySa_core _ _ _) k
theorem replicateSa_core : ∀ x0 s, Only [.net, .stack, .host] s (replicateSa x0 s) := by
  intro x0 s
  unfold replicateSa
  try dsimp only
  repeat (first
    | with_reducible exact Only.refl _ _
    | with_reducible assumption
    | split
    | with_reducible apply replicateConfig_only (k := by decide)
    | dsimp only)
theorem replicateSa_only {ws s u} {x0} (h : Only ws s u) (k : [Part.net, .stack, .host] ⊆ ws) :
    Only ws s (replicateSa x0 u) :=
  h.step (replicateSa_core _ _) k
theorem putSa_core : ∀ x0 x1 s, OnlyExc [.net, .keys, .stack, .host] s (putSa x0 x1 s) := by
  intro x0 x1 s
  unfold putSa
  try dsimp only
  repeat (first
    | with_reducible exact Only.refl _ _
    | with_reducible assumption
    | split
    | with_reducible apply replicateSa_only (k := by decide)
    | with_reducible apply applySa_only (k := by decide)
    | with_reducible apply onlyExc_need
    | with_reducible apply onlyExc_pure
    | with_reducible apply onlyExc_ok
    | with_reducible apply onlyExc_error
    | dsimp only)
theorem putSa_only {ws s u} {x0 x1} (h : Only ws s u) (k : [Part.net, .keys, .stack, .host] ⊆ ws) :
    OnlyExc ws s (putSa x0 x1 u) :=
  onlyExc_mono (putSa_core _ _ _) k h
theorem replaceKey_core : ∀ x0 x1 x2 x3 s, Only [.net, .keys, .stack, .host] s (replaceKey x0 x1 x2 x3 s) := by
  intro x0 x1 x2 x3 s
  unfold replaceKey
  try dsimp only
  repeat (first
    | with_reducible exact Only.refl _ _
    | with_reducible assumption
    | split
    | with_reducible apply raise_only (k := by decide)
    | with_reducible apply replicateSaKey_only (k := by decide)
    | with_reducible apply setSa_only (k := by decide)
    | with_reducible apply freeHandle_only (k := by decide)
    | dsimp only)
theorem replaceKey_only {ws s u} {x0 x1 x2 x3} (h : Only ws s u) (k : [Part.net, .keys, .stack, .host] ⊆ ws) :
    Only ws s (replaceKey x0 x1 x2 x3 u) :=
  h.step (replaceKey_core _ _ _ _ _) k
theorem commitGrant_core : ∀ x0 x1 x2 x3 x4 s, Only [.net, .stack, .host] s (commitGrant x0 x1 x2 x3 x4 s) := by
  intro x0 x1 x2 x3 x4 s
  unfold commitGrant
  try dsimp only
  repeat (first
    | with_reducible exact Only.refl _ _
    | with_reducible assumption
    | split
    | with_reducible apply modPtp_only (k := by decide)
    | with_reducible apply replicateSession_only (k := by decide)
    | dsimp only)
theorem commitGrant_only {ws s u} {x0 x1 x2 x3 x4} (h : Only ws s u) (k : [Part.net, .stack, .host] ⊆ ws) :
    Only ws s (commitGrant x0 x1 x2 x3 x4 u) :=
  h.step (commitGrant_core _ _ _ _ _ _) k
theorem settleSession_core : ∀ x0 s, Only [.net, .stack, .host] s (settleSession x0 s) := by
  intro x0 s
  unfold settleSession
  try dsimp only
  repeat (first
    | with_reducible exact Only.refl _ _
    | with_reducible assumption
    | split
    | with_reducible apply replicateSession_only (k := by decide)
    | with_reducible apply dropSession_only (k := by decide)
    | dsimp only)
theorem settleSession_only {ws s u} {x0} (h : Only ws s u) (k : [Part.net, .stack, .host] ⊆ ws) :
    Only ws s (settleSession x0 u) :=
  h.step (settleSession_core _ _) k
theorem sweepSession_core : ∀ x0 s, Only [.net, .stack, .host] s (sweepSession x0 s) := by
  intro x0 s
  unfold sweepSession
  try dsimp only
  repeat (first
    | with_reducible exact Only.refl _ _
    | with_reducible assumption
    | split
    | with_reducible apply settleSession_only (k := by decide)
    | with_reducible apply modSession_only (k := by decide)
    | dsimp only)
theorem sweepSession_only {ws s u} {x0} (h : Only ws s u) (k : [Part.net, .stack, .host] ⊆ ws) :
    Only ws s (sweepSession x0 u) :=
  h.step (sweepSession_core _ _) k
theorem sweepEntry_core : ∀ x0 s, Only [.clock, .refs, .sel, .ductus, .synth, .net, .stack, .host] s (sweepEntry x0 s) := by
  intro x0 s
  unfold sweepEntry
  try dsimp only
  repeat (first
    | with_reducible exact Only.refl _ _
    | with_reducible assumption
    | split
    | with_reducible apply modEntry_only (k := by decide)
    | with_reducible apply loseParent_only (k := by decide)
    | dsimp only)
theorem sweepEntry_only {ws s u} {x0} (h : Only ws s u) (k : [Part.clock, .refs, .sel, .ductus, .synth, .net, .stack, .host] ⊆ ws) :
    Only ws s (sweepEntry x0 u) :=
  h.step (sweepEntry_core _ _) k
theorem ptpAnswer_core : ∀ x0 x1 x2 s, OnlyOpt [.margin, .net, .stack, .host] s (ptpAnswer x0 x1 x2 s) := by
  intro x0 x1 x2 s
  unfold ptpAnswer
  try dsimp only
  repeat (first
    | with_reducible exact Only.refl _ _
    | with_reducible assumption
    | split
    | (with_reducible refine Only.pair ?_ (by assumption); apply verifyIcv_only (k := by decide))
    | with_reducible apply verifyIcv_only (k := by decide)
    | with_reducible apply countUnknown_only (k := by decide)
    | with_reducible apply ptpDrop_only (k := by decide)
    | with_reducible apply countPtp_only (k := by decide)
    | with_reducible apply judgePort_only (k := by decide)
    | (with_reducible refine Only.pair ?_ (by assumption); apply sessionWire_only (k := by decide))
    | with_reducible apply sessionWire_only (k := by decide)
    | (with_reducible refine Only.ofOpt2 ?_ (by assumption); apply reserve_only (k := by decide))
    | with_reducible apply reserve_only (k := by decide)
    | with_reducible apply onlyOpt_map
    | with_reducible apply onlyOpt_mapW
    | intro _
    | with_reducible apply onlyOpt_some
    | with_reducible apply onlyOpt_none
    | dsimp only)
theorem ptpAnswer_only {ws s u} {x0 x1 x2} (h : Only ws s u) (k : [Part.margin, .net, .stack, .host] ⊆ ws) :
    OnlyOpt ws s (ptpAnswer x0 x1 x2 u) :=
  onlyOpt_mono (ptpAnswer_core _ _ _ _) k h
theorem reserveSched_core : ∀ x0 x1 x2 x3 s, OnlyOpt [.net, .stack, .host] s (reserveSched x0 x1 x2 x3 s) := by
  intro x0 x1 x2 x3 s
  unfold reserveSched
  try dsimp only
  repeat (first
    | with_reducible exact Only.refl _ _
    | with_reducible assumption
    | split
    | (with_reducible refine Only.pair ?_ (by assumption); apply pickEngine_only (k := by decide))
    | with_reducible apply pickEngine_only (k := by decide)
    | (with_reducible refine Only.ofOpt2 ?_ (by assumption); apply reserve_only (k := by decide))
    | with_reducible apply reserve_only (k := by decide)
    | with_reducible apply onlyOpt_map
    | with_reducible apply onlyOpt_mapW
    | intro _
    | with_reducible apply onlyOpt_some
    | with_reducible apply onlyOpt_none
    | dsimp only)
theorem reserveSched_only {ws s u} {x0 x1 x2 x3} (h : Only ws s u) (k : [Part.net, .stack, .host] ⊆ ws) :
    OnlyOpt ws s (reserveSched x0 x1 x2 x3 u) :=
  onlyOpt_mono (reserveSched_core _ _ _ _ _) k h
theorem advanceSeq_core : ∀ x0 x1 s, Only [.net] s (advanceSeq x0 x1 s) := by
  intro x0 x1 s
  unfold advanceSeq
  try dsimp only
  repeat (first
    | with_reducible exact Only.refl _ _
    | with_reducible assumption
    | split
    | with_reducible apply modSession_only (k := by decide)
    | dsimp only)
theorem advanceSeq_only {ws s u} {x0 x1} (h : Only ws s u) (k : [Part.net] ⊆ ws) :
    Only ws s (advanceSeq x0 x1 u) :=
  h.step (advanceSeq_core _ _ _) k
theorem sendTimed_core : ∀ x0 x1 x2 s, Only [.margin, .net, .stack, .host] s (sendTimed x0 x1 x2 s) := by
  intro x0 x1 x2 s
  unfold sendTimed
  try dsimp only
  repeat (first
    | with_reducible exact Only.refl _ _
    | with_reducible assumption
    | split
    | with_reducible apply advanceSeq_only (k := by decide)
    | with_reducible apply countPtp_only (k := by decide)
    | with_reducible apply judgePort_only (k := by decide)
    | (with_reducible refine Only.pair ?_ (by assumption); apply sessionWire_only (k := by decide))
    | with_reducible apply sessionWire_only (k := by decide)
    | (with_reducible refine Only.ofOpt ?_ (by assumption); apply reserveSched_only (k := by decide))
    | with_reducible apply reserveSched_only (k := by decide)
    | with_reducible apply Only.getD
    | dsimp only)
theorem sendTimed_only {ws s u} {x0 x1 x2} (h : Only ws s u) (k : [Part.margin, .net, .stack, .host] ⊆ ws) :
    Only ws s (sendTimed x0 x1 x2 u) :=
  h.step (sendTimed_core _ _ _ _) k
theorem sendDelayReq_core : ∀ x0 s, Only [.net, .stack, .host] s (sendDelayReq x0 s) := by
  intro x0 s
  unfold sendDelayReq
  try dsimp only
  repeat (first
    | with_reducible exact Only.refl _ _
    | with_reducible assumption
    | split
    | with_reducible apply countPtp_only (k := by decide)
    | (with_reducible refine Only.pair ?_ (by assumption); apply entryWire_only (k := by decide))
    | with_reducible apply entryWire_only (k := by decide)
    | (with_reducible refine Only.ofOpt ?_ (by assumption); apply reserveSched_only (k := by decide))
    | with_reducible apply reserveSched_only (k := by decide)
    | with_reducible apply Only.getD
    | with_reducible apply modEntry_only (k := by decide)
    | dsimp only)
theorem sendDelayReq_only {ws s u} {x0} (h : Only ws s u) (k : [Part.net, .stack, .host] ⊆ ws) :
    Only ws s (sendDelayReq x0 u) :=
  h.step (sendDelayReq_core _ _) k
theorem applyEntry_core : ∀ x0 x1 s, Only [.sel, .net, .stack, .host] s (applyEntry x0 x1 s) := by
  intro x0 x1 s
  unfold applyEntry
  try dsimp only
  repeat (first
    | with_reducible exact Only.refl _ _
    | with_reducible assumption
    | split
    | with_reducible apply settleParents_only (k := by decide)
    | with_reducible apply modEntry_only (k := by decide)
    | with_reducible apply releaseParent_only (k := by decide)
    | with_reducible apply askGrants_only (k := by decide)
    | dsimp only)
theorem applyEntry_only {ws s u} {x0 x1} (h : Only ws s u) (k : [Part.sel, .net, .stack, .host] ⊆ ws) :
    Only ws s (applyEntry x0 x1 u) :=
  h.step (applyEntry_core _ _ _) k
theorem completeExchange_core : ∀ x0 s, Only [.net] s (completeExchange x0 s) := by
  intro x0 s
  unfold completeExchange
  try dsimp only
  repeat (first
    | with_reducible exact Only.refl _ _
    | with_reducible assumption
    | split
    | with_reducible apply modEntry_only (k := by decide)
    | with_reducible apply modPtpu_only (k := by decide)
    | dsimp only)
theorem completeExchange_only {ws s u} {x0} (h : Only ws s u) (k : [Part.net] ⊆ ws) :
    Only ws s (completeExchange x0 u) :=
  h.step (completeExchange_core _ _) k
theorem takeAnnounce_core : ∀ x0 x1 x2 s, Only [.refs, .sel, .net, .stack, .host] s (takeAnnounce x0 x1 x2 s) := by
  intro x0 x1 x2 s
  unfold takeAnnounce
  try dsimp only
  repeat (first
    | with_reducible exact Only.refl _ _
    | with_reducible assumption
    | split
    | with_reducible apply modEntry_only (k := by decide)
    | with_reducible apply settleParents_only (k := by decide)
    | with_reducible apply clearReason_only (k := by decide)
    | dsimp only)
theorem takeAnnounce_only {ws s u} {x0 x1 x2} (h : Only ws s u) (k : [Part.refs, .sel, .net, .stack, .host] ⊆ ws) :
    Only ws s (takeAnnounce x0 x1 x2 u) :=
  h.step (takeAnnounce_core _ _ _ _) k
theorem takeSync_core : ∀ x0 x1 x2 s, Only [.net] s (takeSync x0 x1 x2 s) := by
  intro x0 x1 x2 s
  unfold takeSync
  try dsimp only
  repeat (first
    | with_reducible exact Only.refl _ _
    | with_reducible assumption
    | split
    | with_reducible apply modEntry_only (k := by decide)
    | dsimp only)
theorem takeSync_only {ws s u} {x0 x1 x2} (h : Only ws s u) (k : [Part.net] ⊆ ws) :
    Only ws s (takeSync x0 x1 x2 u) :=
  h.step (takeSync_core _ _ _ _) k
theorem takeFollowUp_core : ∀ x0 x1 s, Only [.net] s (takeFollowUp x0 x1 s) := by
  intro x0 x1 s
  unfold takeFollowUp
  try dsimp only
  repeat (first
    | with_reducible exact Only.refl _ _
    | with_reducible assumption
    | split
    | with_reducible apply completeExchange_only (k := by decide)
    | with_reducible apply modEntry_only (k := by decide)
    | dsimp only)
theorem takeFollowUp_only {ws s u} {x0 x1} (h : Only ws s u) (k : [Part.net] ⊆ ws) :
    Only ws s (takeFollowUp x0 x1 u) :=
  h.step (takeFollowUp_core _ _ _) k
theorem takeDelayResp_core : ∀ x0 x1 s, Only [.net] s (takeDelayResp x0 x1 s) := by
  intro x0 x1 s
  unfold takeDelayResp
  try dsimp only
  repeat (first
    | with_reducible exact Only.refl _ _
    | with_reducible assumption
    | split
    | with_reducible apply completeExchange_only (k := by decide)
    | with_reducible apply modEntry_only (k := by decide)
    | dsimp only)
theorem takeDelayResp_only {ws s u} {x0 x1} (h : Only ws s u) (k : [Part.net] ⊆ ws) :
    Only ws s (takeDelayResp x0 x1 u) :=
  h.step (takeDelayResp_core _ _ _) k
theorem takeNeg_core : ∀ x0 x1 s, Only [.clock, .refs, .sel, .ductus, .synth, .net, .stack, .host] s (takeNeg x0 x1 s) := by
  intro x0 x1 s
  unfold takeNeg
  try dsimp only
  repeat (first
    | with_reducible exact Only.refl _ _
    | with_reducible assumption
    | split
    | with_reducible apply modEntry_only (k := by decide)
    | with_reducible apply settleParents_only (k := by decide)
    | with_reducible apply loseParent_only (k := by decide)
    | with_reducible apply signalMaster_only (k := by decide)
    | dsimp only)
theorem takeNeg_only {ws s u} {x0 x1} (h : Only ws s u) (k : [Part.clock, .refs, .sel, .ductus, .synth, .net, .stack, .host] ⊆ ws) :
    Only ws s (takeNeg x0 x1 u) :=
  h.step (takeNeg_core _ _ _) k
theorem watchPath_core : ∀ x0 x1 s, Only [.clock, .refs, .ductus, .margin, .synth, .host] s (watchPath x0 x1 s) := by
  intro x0 x1 s
  unfold watchPath
  try dsimp only
  repeat (first
    | with_reducible exact Only.refl _ _
    | with_reducible assumption
    | split
    | with_reducible apply modRef_only (k := by decide)
    | with_reducible apply modMargin_only (k := by decide)
    | with_reducible apply raise_only (k := by decide)
    | with_reducible apply restartTimer_only (k := by decide)
    | with_reducible apply addReason_only (k := by decide)
    | dsimp only)
theorem watchPath_only {ws s u} {x0 x1} (h : Only ws s u) (k : [Part.clock, .refs, .ductus, .margin, .synth, .host] ⊆ ws) :
    Only ws s (watchPath x0 x1 u) :=
  h.step (watchPath_core _ _ _) k
theorem countLink_core : ∀ x0 x1 s, Only [.stack] s (countLink x0 x1 s) := by
  intro x0 x1 s
  unfold countLink
  try dsimp only
  repeat (first
    | with_reducible exact Only.refl _ _
    | with_reducible assumption
    | split
    | with_reducible apply modLink_only (k := by decide)
    | dsimp only)
theorem countLink_only {ws s u} {x0 x1} (h : Only ws s u) (k : [Part.stack] ⊆ ws) :
    Only ws s (countLink x0 x1 u) :=
  h.step (countLink_core _ _ _) k
theorem violation_core : ∀ x0 x1 x2 x3 s, Only [.net, .stack, .host] s (violation x0 x1 x2 x3 s) := by
  intro x0 x1 x2 x3 s
  unfold violation
  try dsimp only
  repeat (first
    | with_reducible exact Only.refl _ _
    | with_reducible assumption
    | split
    | with_reducible apply markSummary_only (k := by decide)
    | with_reducible apply countLink_only (k := by decide)
    | dsimp only)
theorem violation_only {ws s u} {x0 x1 x2 x3} (h : Only ws s u) (k : [Part.net, .stack, .host] ⊆ ws) :
    Only ws s (violation x0 x1 x2 x3 u) :=
  h.step (violation_core _ _ _ _ _) k
theorem setLastSeq_core : ∀ x0 x1 x2 s, Only [.stack] s (setLastSeq x0 x1 x2 s) := by
  intro x0 x1 x2 s
  unfold setLastSeq
  try dsimp only
  repeat (first
    | with_reducible exact Only.refl _ _
    | with_reducible assumption
    | split
    | with_reducible apply modStack_only (k := by decide)
    | dsimp only)
theorem setLastSeq_only {ws s u} {x0 x1 x2} (h : Only ws s u) (k : [Part.stack] ⊆ ws) :
    Only ws s (setLastSeq x0 x1 x2 u) :=
  h.step (setLastSeq_core _ _ _ _) k
theorem takeFrame_core : ∀ x0 s, Only [.net, .stack, .host] s (takeFrame x0 s).2 := by
  intro x0 s
  unfold takeFrame
  try dsimp only
  repeat (first
    | with_reducible exact Only.refl _ _
    | with_reducible assumption
    | split
    | with_reducible apply violation_only (k := by decide)
    | with_reducible apply setLastSeq_only (k := by decide)
    | dsimp only)
theorem takeFrame_only {ws s u} {x0} (h : Only ws s u) (k : [Part.net, .stack, .host] ⊆ ws) :
    Only ws s (takeFrame x0 u).2 :=
  h.step (takeFrame_core _ _) k
theorem upstreamLink_core : ∀ s, Only [.host] s (upstreamLink s).2 := by
  intro s
  unfold upstreamLink
  try dsimp only
  repeat (first
    | with_reducible exact Only.refl _ _
    | with_reducible assumption
    | split
    | (with_reducible refine Only.pair ?_ (by assumption); apply freshChoice_only (k := by decide))
    | with_reducible apply freshChoice_only (k := by decide)
    | dsimp only)
theorem upstreamLink_only {ws s u} (h : Only ws s u) (k : [Part.host] ⊆ ws) :
    Only ws s (upstreamLink u).2 :=
  h.step (upstreamLink_core _) k
theorem settleUpstream_core : ∀ s, Only [.clock, .refs, .ductus, .synth, .stack, .host] s (settleUpstream s) := by
  intro s
  unfold settleUpstream
  try dsimp only
  repeat (first
    | with_reducible exact Only.refl _ _
    | with_reducible assumption
    | split
    | with_reducible apply modStack_only (k := by decide)
    | (with_reducible refine Only.pair ?_ (by assumption); apply upstreamLink_only (k := by decide))
    | with_reducible apply upstreamLink_only (k := by decide)
    | with_reducible apply addReason_only (k := by decide)
    | dsimp only)
theorem settleUpstream_only {ws s u} (h : Only ws s u) (k : [Part.clock, .refs, .ductus, .synth, .stack, .host] ⊆ ws) :
    Only ws s (settleUpstream u) :=
  h.step (settleUpstream_core _) k
theorem takeLinkChannels_core : ∀ x0 s, OnlyOpt [.nib, .stack] s (takeLinkChannels x0 s) := by
  intro x0 s
  unfold takeLinkChannels
  try dsimp only
  repeat (first
    | with_reducible exact Only.refl _ _
    | with_reducible assumption
    | split
    | with_reducible apply modLink_only (k := by decide)
    | (with_reducible refine Only.ofOpt2 ?_ (by assumption); apply takeChannel_only (k := by decide))
    | with_reducible apply takeChannel_only (k := by decide)
    | with_reducible apply onlyOpt_map
    | with_reducible apply onlyOpt_mapW
    | intro _
    | with_reducible apply onlyOpt_some
    | with_reducible apply onlyOpt_none
    | dsimp only)
theorem takeLinkChannels_only {ws s u} {x0} (h : Only ws s u) (k : [Part.nib, .stack] ⊆ ws) :
    OnlyOpt ws s (takeLinkChannels x0 u) :=
  onlyOpt_mono (takeLinkChannels_core _ _) k h
theorem freeLinkChannels_core : ∀ x0 s, Only [.nib, .stack, .host] s (freeLinkChannels x0 s) := by
  intro x0 s
  unfold freeLinkChannels
  try dsimp only
  repeat (first
    | with_reducible exact Only.refl _ _
    | with_reducible assumption
    | split
    | with_reducible apply modLink_only (k := by decide)
    | with_reducible apply releaseChannel_only (k := by decide)
    | dsimp only)
theorem freeLinkChannels_only {ws s u} {x0} (h : Only ws s u) (k : [Part.nib, .stack, .host] ⊆ ws) :
    Only ws s (freeLinkChannels x0 u) :=
  h.step (freeLinkChannels_core _ _) k
theorem nameBoundary_core : ∀ s, Only [.net, .stack, .host] s (nameBoundary s) := by
  intro s
  unfold nameBoundary
  try dsimp only
  repeat (first
    | with_reducible exact Only.refl _ _
    | with_reducible assumption
    | split
    | with_reducible apply modStack_only (k := by decide)
    | with_reducible apply replicate_only (k := by decide)
    | dsimp only)
theorem nameBoundary_only {ws s u} (h : Only ws s u) (k : [Part.net, .stack, .host] ⊆ ws) :
    Only ws s (nameBoundary u) :=
  h.step (nameBoundary_core _) k
theorem newStackKey_core : ∀ s, Only [.net, .keys, .stack, .host] s (newStackKey s) := by
  intro s
  unfold newStackKey
  try dsimp only
  repeat (first
    | with_reducible exact Only.refl _ _
    | with_reducible assumption
    | split
    | with_reducible apply modStack_only (k := by decide)
    | (with_reducible refine Only.pair ?_ (by assumption); apply freshBytes_only (k := by decide))
    | with_reducible apply freshBytes_only (k := by decide)
    | with_reducible apply nameBoundary_only (k := by decide)
    | with_reducible apply replicate_only (k := by decide)
    | dsimp only)
theorem newStackKey_only {ws s u} (h : Only ws s u) (k : [Part.net, .keys, .stack, .host] ⊆ ws) :
    Only ws s (newStackKey u) :=
  h.step (newStackKey_core _) k
theorem fullReplication_core : ∀ x0 s, Only [.net, .stack, .host] s (fullReplication x0 s) := by
  intro x0 s
  unfold fullReplication
  try dsimp only
  repeat (first
    | with_reducible exact Only.refl _ _
    | with_reducible assumption
    | split
    | with_reducible apply sendRepl_only (k := by decide)
    | (with_reducible refine Only.each ?_ (fun _ _ => ?_))
    | dsimp only)
theorem fullReplication_only {ws s u} {x0} (h : Only ws s u) (k : [Part.net, .stack, .host] ⊆ ws) :
    Only ws s (fullReplication x0 u) :=
  h.step (fullReplication_core _ _) k
theorem sendAck_core : ∀ x0 x1 x2 x3 s, Only [.net, .stack, .host] s (sendAck x0 x1 x2 x3 s) := by
  intro x0 x1 x2 x3 s
  unfold sendAck
  try dsimp only
  repeat (first
    | with_reducible exact Only.refl _ _
    | with_reducible assumption
    | split
    | with_reducible apply modStack_only (k := by decide)
    | with_reducible apply sendTo_only (k := by decide)
    | dsimp only)
theorem sendAck_only {ws s u} {x0 x1 x2 x3} (h : Only ws s u) (k : [Part.net, .stack, .host] ⊆ ws) :
    Only ws s (sendAck x0 x1 x2 x3 u) :=
  h.step (sendAck_core _ _ _ _ _) k
theorem redrawBases_core : ∀ s, Only [.net] s (redrawBases s) := by
  intro s
  unfold redrawBases
  try dsimp only
  repeat (first
    | with_reducible exact Only.refl _ _
    | with_reducible assumption
    | split
    | with_reducible apply modNts_only (k := by decide)
    | dsimp only)
theorem redrawBases_only {ws s u} (h : Only ws s u) (k : [Part.net] ⊆ ws) :
    Only ws s (redrawBases u) :=
  h.step (redrawBases_core _) k
theorem zeroStackSlot_core : ∀ x0 s, Only [.net, .keys, .stack] s (zeroStackSlot x0 s) := by
  intro x0 s
  unfold zeroStackSlot
  try dsimp only
  repeat (first
    | with_reducible exact Only.refl _ _
    | with_reducible assumption
    | split
    | with_reducible apply dropBases_only (k := by decide)
    | with_reducible apply zeroSlot_only (k := by decide)
    | dsimp only)
theorem zeroStackSlot_only {ws s u} {x0} (h : Only ws s u) (k : [Part.net, .keys, .stack] ⊆ ws) :
    Only ws s (zeroStackSlot x0 u) :=
  h.step (zeroStackSlot_core _ _) k
theorem forgetMember_core : ∀ x0 s, Only [.net, .keys, .stack] s (forgetMember x0 s) := by
  intro x0 s
  unfold forgetMember
  try dsimp only
  repeat (first
    | with_reducible exact Only.refl _ _
    | with_reducible assumption
    | split
    | with_reducible apply modStack_only (k := by decide)
    | with_reducible apply zeroStackSlot_only (k := by decide)
    | dsimp only)
theorem forgetMember_only {ws s u} {x0} (h : Only ws s u) (k : [Part.net, .keys, .stack] ⊆ ws) :
    Only ws s (forgetMember x0 u) :=
  h.step (forgetMember_core _ _) k
theorem removeMember_core : ∀ x0 s, Only [.clock, .refs, .ductus, .synth, .net, .keys, .stack, .host] s (removeMember x0 s) := by
  intro x0 s
  unfold removeMember
  try dsimp only
  repeat (first
    | with_reducible exact Only.refl _ _
    | with_reducible assumption
    | split
    | with_reducible apply raise_only (k := by decide)
    | with_reducible apply forgetMember_only (k := by decide)
    | with_reducible apply replicate_only (k := by decide)
    | with_reducible apply newStackKey_only (k := by decide)
    | with_reducible apply settleUpstream_only (k := by decide)
    | dsimp only)
theorem removeMember_only {ws s u} {x0} (h : Only ws s u) (k : [Part.clock, .refs, .ductus, .synth, .net, .keys, .stack, .host] ⊆ ws) :
    Only ws s (removeMember x0 u) :=
  h.step (removeMember_core _ _) k
theorem dropReplicas_core : ∀ s, Only [.sel, .net, .stack, .host] s (dropReplicas s) := by
  intro s
  unfold dropReplicas
  try dsimp only
  repeat (first
    | with_reducible exact Only.refl _ _
    | with_reducible assumption
    | split
    | with_reducible apply modNts_only (k := by decide)
    | with_reducible apply modPtp_only (k := by decide)
    | with_reducible apply settleParents_only (k := by decide)
    | dsimp only)
theorem dropReplicas_only {ws s u} (h : Only ws s u) (k : [Part.sel, .net, .stack, .host] ⊆ ws) :
    Only ws s (dropReplicas u) :=
  h.step (dropReplicas_core _) k
theorem clearStack_core : ∀ s, Only [.sel, .nib, .net, .keys, .stack, .host] s (clearStack s) := by
  intro s
  unfold clearStack
  try dsimp only
  repeat (first
    | with_reducible exact Only.refl _ _
    | with_reducible assumption
    | split
    | with_reducible apply modStack_only (k := by decide)
    | with_reducible apply zeroStackSlot_only (k := by decide)
    | with_reducible apply freeLinkChannels_only (k := by decide)
    | with_reducible apply dropReplicas_only (k := by decide)
    | with_reducible apply addAct_only (k := by decide)
    | (with_reducible refine Only.each ?_ (fun _ _ => ?_))
    | dsimp only)
theorem clearStack_only {ws s u} (h : Only ws s u) (k : [Part.sel, .nib, .net, .keys, .stack, .host] ⊆ ws) :
    Only ws s (clearStack u) :=
  h.step (clearStack_core _) k
theorem roleEvent_core : ∀ x0 x1 s, Only [.host] s (roleEvent x0 x1 s) := by
  intro x0 x1 s
  unfold roleEvent
  try dsimp only
  repeat (first
    | with_reducible exact Only.refl _ _
    | with_reducible assumption
    | split
    | with_reducible apply raise_only (k := by decide)
    | dsimp only)
theorem roleEvent_only {ws s u} {x0 x1} (h : Only ws s u) (k : [Part.host] ⊆ ws) :
    Only ws s (roleEvent x0 x1 u) :=
  h.step (roleEvent_core _ _ _) k
theorem leaveStack_core : ∀ s, Only [.sel, .nib, .net, .keys, .stack, .host] s (leaveStack s) := by
  intro s
  unfold leaveStack
  try dsimp only
  repeat (first
    | with_reducible exact Only.refl _ _
    | with_reducible assumption
    | split
    | with_reducible apply roleEvent_only (k := by decide)
    | with_reducible apply clearStack_only (k := by decide)
    | with_reducible apply redrawBases_only (k := by decide)
    | with_reducible apply raise_only (k := by decide)
    | with_reducible apply completeCmd_only (k := by decide)
    | dsimp only)
theorem leaveStack_only {ws s u} (h : Only ws s u) (k : [Part.sel, .nib, .net, .keys, .stack, .host] ⊆ ws) :
    Only ws s (leaveStack u) :=
  h.step (leaveStack_core _) k
theorem markLost_core : ∀ x0 s, Only [.stack, .host] s (markLost x0 s) := by
  intro x0 s
  unfold markLost
  try dsimp only
  repeat (first
    | with_reducible exact Only.refl _ _
    | with_reducible assumption
    | split
    | with_reducible apply modMember_only (k := by decide)
    | with_reducible apply modStack_only (k := by decide)
    | with_reducible apply raise_only (k := by decide)
    | dsimp only)
theorem markLost_only {ws s u} {x0} (h : Only ws s u) (k : [Part.stack, .host] ⊆ ws) :
    Only ws s (markLost x0 u) :=
  h.step (markLost_core _ _) k
theorem suspectLink_core : ∀ x0 s, Only [.clock, .refs, .ductus, .synth, .stack, .host] s (suspectLink x0 s) := by
  intro x0 s
  unfold suspectLink
  try dsimp only
  repeat (first
    | with_reducible exact Only.refl _ _
    | with_reducible assumption
    | split
    | with_reducible apply modLink_only (k := by decide)
    | with_reducible apply markLost_only (k := by decide)
    | with_reducible apply addReason_only (k := by decide)
    | dsimp only)
theorem suspectLink_only {ws s u} {x0} (h : Only ws s u) (k : [Part.clock, .refs, .ductus, .synth, .stack, .host] ⊆ ws) :
    Only ws s (suspectLink x0 u) :=
  h.step (suspectLink_core _ _) k
theorem ownSessions_core : ∀ s, Only [.net] s (ownSessions s) := by
  intro s
  unfold ownSessions
  try dsimp only
  repeat (first
    | with_reducible exact Only.refl _ _
    | with_reducible assumption
    | split
    | with_reducible apply modPtp_only (k := by decide)
    | dsimp only)
theorem ownSessions_only {ws s u} (h : Only ws s u) (k : [Part.net] ⊆ ws) :
    Only ws s (ownSessions u) :=
  h.step (ownSessions_core _) k
theorem setStandby_core : ∀ x0 s, Only [.sel, .net, .stack, .host] s (setStandby x0 s) := by
  intro x0 s
  unfold setStandby
  try dsimp only
  repeat (first
    | with_reducible exact Only.refl _ _
    | with_reducible assumption
    | split
    | with_reducible apply modNts_only (k := by decide)
    | with_reducible apply modPtp_only (k := by decide)
    | with_reducible apply settleParents_only (k := by decide)
    | dsimp only)
theorem setStandby_only {ws s u} {x0} (h : Only ws s u) (k : [Part.sel, .net, .stack, .host] ⊆ ws) :
    Only ws s (setStandby x0 u) :=
  h.step (setStandby_core _ _) k
theorem takeover_core : ∀ x0 x1 s, Only [.clock, .refs, .sel, .ductus, .synth, .net, .keys, .stack, .host] s (takeover x0 x1 s) := by
  intro x0 x1 s
  unfold takeover
  try dsimp only
  repeat (first
    | with_reducible exact Only.refl _ _
    | with_reducible assumption
    | split
    | with_reducible apply modStack_only (k := by decide)
    | with_reducible apply roleEvent_only (k := by decide)
    | with_reducible apply redrawBases_only (k := by decide)
    | with_reducible apply ownSessions_only (k := by decide)
    | with_reducible apply setStandby_only (k := by decide)
    | with_reducible apply replicate_only (k := by decide)
    | with_reducible apply settleUpstream_only (k := by decide)
    | with_reducible apply newStackKey_only (k := by decide)
    | dsimp only)
theorem takeover_only {ws s u} {x0 x1} (h : Only ws s u) (k : [Part.clock, .refs, .sel, .ductus, .synth, .net, .keys, .stack, .host] ⊆ ws) :
    Only ws s (takeover x0 x1 u) :=
  h.step (takeover_core _ _ _) k
theorem fence_core : ∀ s, Only [.net, .stack, .host] s (fence s) := by
  intro s
  unfold fence
  try dsimp only
  repeat (first
    | with_reducible exact Only.refl _ _
    | with_reducible assumption
    | split
    | with_reducible apply modStack_only (k := by decide)
    | with_reducible apply stopService_only (k := by decide)
    | with_reducible apply raise_only (k := by decide)
    | dsimp only)
theorem fence_only {ws s u} (h : Only ws s u) (k : [Part.net, .stack, .host] ⊆ ws) :
    Only ws s (fence u) :=
  h.step (fence_core _) k
theorem rejoinAsTwin_core : ∀ x0 x1 x2 x3 s, Only [.clock, .refs, .sel, .ductus, .synth, .net, .keys, .stack, .host] s (rejoinAsTwin x0 x1 x2 x3 s) := by
  intro x0 x1 x2 x3 s
  unfold rejoinAsTwin
  try dsimp only
  repeat (first
    | with_reducible exact Only.refl _ _
    | with_reducible assumption
    | split
    | with_reducible apply modPtp_only (k := by decide)
    | with_reducible apply modStack_only (k := by decide)
    | with_reducible apply modLink_only (k := by decide)
    | with_reducible apply dropGen_only (k := by decide)
    | with_reducible apply zeroStackSlot_only (k := by decide)
    | with_reducible apply settleUpstream_only (k := by decide)
    | with_reducible apply setStandby_only (k := by decide)
    | with_reducible apply roleEvent_only (k := by decide)
    | with_reducible apply redrawBases_only (k := by decide)
    | (with_reducible refine Only.each ?_ (fun _ _ => ?_))
    | dsimp only)
theorem rejoinAsTwin_only {ws s u} {x0 x1 x2 x3} (h : Only ws s u) (k : [Part.clock, .refs, .sel, .ductus, .synth, .net, .keys, .stack, .host] ⊆ ws) :
    Only ws s (rejoinAsTwin x0 x1 x2 x3 u) :=
  h.step (rejoinAsTwin_core _ _ _ _ _) k
theorem adoptTerm_core : ∀ x0 s, Only [.net, .keys, .stack, .host] s (adoptTerm x0 s) := by
  intro x0 s
  unfold adoptTerm
  try dsimp only
  repeat (first
    | with_reducible exact Only.refl _ _
    | with_reducible assumption
    | split
    | with_reducible apply modStack_only (k := by decide)
    | with_reducible apply newStackKey_only (k := by decide)
    | dsimp only)
theorem adoptTerm_only {ws s u} {x0} (h : Only ws s u) (k : [Part.net, .keys, .stack, .host] ⊆ ws) :
    Only ws s (adoptTerm x0 u) :=
  h.step (adoptTerm_core _ _) k
theorem judgeWitness_core : ∀ x0 x1 s, OnlyExc [.clock, .refs, .sel, .ductus, .synth, .net, .keys, .stack, .host] s (judgeWitness x0 x1 s) := by
  intro x0 x1 s
  unfold judgeWitness
  try dsimp only
  repeat (first
    | with_reducible exact Only.refl _ _
    | with_reducible assumption
    | split
    | with_reducible apply modStack_only (k := by decide)
    | with_reducible apply takeover_only (k := by decide)
    | with_reducible apply removeMember_only (k := by decide)
    | with_reducible apply fence_only (k := by decide)
    | with_reducible apply adoptTerm_only (k := by decide)
    | with_reducible apply onlyExc_need
    | with_reducible apply onlyExc_pure
    | with_reducible apply onlyExc_ok
    | with_reducible apply onlyExc_error
    | dsimp only)
theorem judgeWitness_only {ws s u} {x0 x1} (h : Only ws s u) (k : [Part.clock, .refs, .sel, .ductus, .synth, .net, .keys, .stack, .host] ⊆ ws) :
    OnlyExc ws s (judgeWitness x0 x1 u) :=
  onlyExc_mono (judgeWitness_core _ _ _) k h
theorem modPairing_core : ∀ x0 s, Only [.stack] s (modPairing x0 s) := by
  intro x0 s
  unfold modPairing
  try dsimp only
  repeat (first
    | with_reducible exact Only.refl _ _
    | with_reducible assumption
    | split
    | with_reducible apply modStack_only (k := by decide)
    | dsimp only)
theorem modPairing_only {ws s u} {x0} (h : Only ws s u) (k : [Part.stack] ⊆ ws) :
    Only ws s (modPairing x0 u) :=
  h.step (modPairing_core _ _) k
theorem failPairing_core : ∀ s, Only [.sel, .nib, .net, .keys, .stack, .host] s (failPairing s) := by
  intro s
  unfold failPairing
  try dsimp only
  repeat (first
    | with_reducible exact Only.refl _ _
    | with_reducible assumption
    | split
    | with_reducible apply modStack_only (k := by decide)
    | with_reducible apply modKeys_only (k := by decide)
    | with_reducible apply violation_only (k := by decide)
    | with_reducible apply forgetMember_only (k := by decide)
    | with_reducible apply clearStack_only (k := by decide)
    | with_reducible apply completeCmd_only (k := by decide)
    | dsimp only)
theorem failPairing_only {ws s u} (h : Only ws s u) (k : [Part.sel, .nib, .net, .keys, .stack, .host] ⊆ ws) :
    Only ws s (failPairing u) :=
  h.step (failPairing_core _) k
theorem sendConfirm_core : ∀ x0 x1 s, Only [.net, .stack, .host] s (sendConfirm x0 x1 s) := by
  intro x0 x1 s
  unfold sendConfirm
  try dsimp only
  repeat (first
    | with_reducible exact Only.refl _ _
    | with_reducible assumption
    | split
    | with_reducible apply sendOn_only (k := by decide)
    | dsimp only)
theorem sendConfirm_only {ws s u} {x0 x1} (h : Only ws s u) (k : [Part.net, .stack, .host] ⊆ ws) :
    Only ws s (sendConfirm x0 x1 u) :=
  h.step (sendConfirm_core _ _ _) k
theorem sendAdmit_core : ∀ x0 x1 x2 s, Only [.net, .stack, .host] s (sendAdmit x0 x1 x2 s) := by
  intro x0 x1 x2 s
  unfold sendAdmit
  try dsimp only
  repeat (first
    | with_reducible exact Only.refl _ _
    | with_reducible assumption
    | split
    | with_reducible apply sendOn_only (k := by decide)
    | dsimp only)
theorem sendAdmit_only {ws s u} {x0 x1 x2} (h : Only ws s u) (k : [Part.net, .stack, .host] ⊆ ws) :
    Only ws s (sendAdmit x0 x1 x2 u) :=
  h.step (sendAdmit_core _ _ _ _) k
theorem helloOk_core : ∀ x0 s, Only [.net, .stack, .host] s (helloOk x0 s) := by
  intro x0 s
  unfold helloOk
  try dsimp only
  repeat (first
    | with_reducible exact Only.refl _ _
    | with_reducible assumption
    | split
    | with_reducible apply modMember_only (k := by decide)
    | with_reducible apply modPairing_only (k := by decide)
    | with_reducible apply sendConfirm_only (k := by decide)
    | dsimp only)
theorem helloOk_only {ws s u} {x0} (h : Only ws s u) (k : [Part.net, .stack, .host] ⊆ ws) :
    Only ws s (helloOk x0 u) :=
  h.step (helloOk_core _ _) k
theorem startReplication_core : ∀ s, Only [.net, .stack, .host] s (startReplication s) := by
  intro s
  unfold startReplication
  try dsimp only
  repeat (first
    | with_reducible exact Only.refl _ _
    | with_reducible assumption
    | split
    | with_reducible apply modStack_only (k := by decide)
    | with_reducible apply modPairing_only (k := by decide)
    | with_reducible apply fullReplication_only (k := by decide)
    | with_reducible apply replicate_only (k := by decide)
    | dsimp only)
theorem startReplication_only {ws s u} (h : Only ws s u) (k : [Part.net, .stack, .host] ⊆ ws) :
    Only ws s (startReplication u) :=
  h.step (startReplication_core _) k
theorem pairKeyWritten_core : ∀ x0 s, Only [.sel, .nib, .net, .keys, .stack, .host] s (pairKeyWritten x0 s) := by
  intro x0 s
  unfold pairKeyWritten
  try dsimp only
  repeat (first
    | with_reducible exact Only.refl _ _
    | with_reducible assumption
    | split
    | with_reducible apply modStack_only (k := by decide)
    | with_reducible apply sendAdmit_only (k := by decide)
    | with_reducible apply startReplication_only (k := by decide)
    | with_reducible apply failPairing_only (k := by decide)
    | (with_reducible refine Only.pair ?_ (by assumption); apply freshBytes_only (k := by decide))
    | with_reducible apply freshBytes_only (k := by decide)
    | with_reducible apply beginWrite_only (k := by decide)
    | dsimp only)
theorem pairKeyWritten_only {ws s u} {x0} (h : Only ws s u) (k : [Part.sel, .nib, .net, .keys, .stack, .host] ⊆ ws) :
    Only ws s (pairKeyWritten x0 u) :=
  h.step (pairKeyWritten_core _ _) k
theorem stackKeyWritten_core : ∀ s, Only [.net, .stack, .host] s (stackKeyWritten s) := by
  intro s
  unfold stackKeyWritten
  try dsimp only
  repeat (first
    | with_reducible exact Only.refl _ _
    | with_reducible assumption
    | split
    | with_reducible apply modStack_only (k := by decide)
    | with_reducible apply dropBases_only (k := by decide)
    | with_reducible apply startReplication_only (k := by decide)
    | dsimp only)
theorem stackKeyWritten_only {ws s u} (h : Only ws s u) (k : [Part.net, .stack, .host] ⊆ ws) :
    Only ws s (stackKeyWritten u) :=
  h.step (stackKeyWritten_core _) k
theorem joined_core : ∀ s, Only [.clock, .refs, .sel, .ductus, .synth, .net, .stack, .host] s (joined s) := by
  intro s
  unfold joined
  try dsimp only
  repeat (first
    | with_reducible exact Only.refl _ _
    | with_reducible assumption
    | split
    | with_reducible apply settleUpstream_only (k := by decide)
    | with_reducible apply addAct_only (k := by decide)
    | with_reducible apply redrawBases_only (k := by decide)
    | dsimp only)
theorem joined_only {ws s u} (h : Only ws s u) (k : [Part.clock, .refs, .sel, .ductus, .synth, .net, .stack, .host] ⊆ ws) :
    Only ws s (joined u) :=
  h.step (joined_core _) k
theorem settlePairing_core : ∀ s, Only [.clock, .refs, .sel, .ductus, .synth, .net, .stack, .host] s (settlePairing s) := by
  intro s
  unfold settlePairing
  try dsimp only
  repeat (first
    | with_reducible exact Only.refl _ _
    | with_reducible assumption
    | split
    | with_reducible apply modStack_only (k := by decide)
    | with_reducible apply joined_only (k := by decide)
    | with_reducible apply settleUpstream_only (k := by decide)
    | with_reducible apply raise_only (k := by decide)
    | with_reducible apply completeCmd_only (k := by decide)
    | dsimp only)
theorem settlePairing_only {ws s u} (h : Only ws s u) (k : [Part.clock, .refs, .sel, .ductus, .synth, .net, .stack, .host] ⊆ ws) :
    Only ws s (settlePairing u) :=
  h.step (settlePairing_core _) k
theorem joinDone_core : ∀ x0 x1 s, Only [.clock, .refs, .sel, .ductus, .synth, .net, .stack, .host] s (joinDone x0 x1 s) := by
  intro x0 x1 s
  unfold joinDone
  try dsimp only
  repeat (first
    | with_reducible exact Only.refl _ _
    | with_reducible assumption
    | split
    | with_reducible apply modStack_only (k := by decide)
    | with_reducible apply modLink_only (k := by decide)
    | with_reducible apply raise_only (k := by decide)
    | with_reducible apply joined_only (k := by decide)
    | with_reducible apply completeCmd_only (k := by decide)
    | dsimp only)
theorem joinDone_only {ws s u} {x0 x1} (h : Only ws s u) (k : [Part.clock, .refs, .sel, .ductus, .synth, .net, .stack, .host] ⊆ ws) :
    Only ws s (joinDone x0 x1 u) :=
  h.step (joinDone_core _ _ _) k
theorem unsuspect_core : ∀ x0 x1 s, Only [.net, .stack, .host] s (unsuspect x0 x1 s) := by
  intro x0 x1 s
  unfold unsuspect
  try dsimp only
  repeat (first
    | with_reducible exact Only.refl _ _
    | with_reducible assumption
    | split
    | with_reducible apply modLink_only (k := by decide)
    | with_reducible apply modMember_only (k := by decide)
    | with_reducible apply modStack_only (k := by decide)
    | with_reducible apply fullReplication_only (k := by decide)
    | dsimp only)
theorem unsuspect_only {ws s u} {x0 x1} (h : Only ws s u) (k : [Part.net, .stack, .host] ⊆ ws) :
    Only ws s (unsuspect x0 x1 u) :=
  h.step (unsuspect_core _ _ _) k
theorem adoptMask_core : ∀ x0 s, Only [.stack] s (adoptMask x0 s) := by
  intro x0 s
  unfold adoptMask
  try dsimp only
  repeat (first
    | with_reducible exact Only.refl _ _
    | with_reducible assumption
    | split
    | with_reducible apply modStack_only (k := by decide)
    | dsimp only)
theorem adoptMask_only {ws s u} {x0} (h : Only ws s u) (k : [Part.stack] ⊆ ws) :
    Only ws s (adoptMask x0 u) :=
  h.step (adoptMask_core _ _) k
theorem hearNeighbour_core : ∀ x0 x1 x2 s, Only [.clock, .refs, .ductus, .synth, .nib, .net, .stack, .host] s (hearNeighbour x0 x1 x2 s) := by
  intro x0 x1 x2 s
  unfold hearNeighbour
  try dsimp only
  repeat (first
    | with_reducible exact Only.refl _ _
    | with_reducible assumption
    | split
    | with_reducible apply modMember_only (k := by decide)
    | with_reducible apply modStack_only (k := by decide)
    | with_reducible apply unsuspect_only (k := by decide)
    | with_reducible apply adoptMask_only (k := by decide)
    | (with_reducible refine Only.ofOpt ?_ (by assumption); apply takeLinkChannels_only (k := by decide))
    | with_reducible apply takeLinkChannels_only (k := by decide)
    | with_reducible apply Only.getD
    | with_reducible apply settleUpstream_only (k := by decide)
    | with_reducible apply clearReason_only (k := by decide)
    | dsimp only)
theorem hearNeighbour_only {ws s u} {x0 x1 x2} (h : Only ws s u) (k : [Part.clock, .refs, .ductus, .synth, .nib, .net, .stack, .host] ⊆ ws) :
    Only ws s (hearNeighbour x0 x1 x2 u) :=
  h.step (hearNeighbour_core _ _ _ _) k
theorem applyRows_core {ws : List Part} {s : State} {t : List Fld} {rows : Rows} {g : GReq} {put : Rows → Except Nat State}
    (h : ∀ r, OnlyExc ws s (put r)) : OnlyOpt ws s (applyRows t rows g put) := by
  unfold applyRows
  split
  · exact onlyOpt_none
  · split
    · exact onlyOpt_none
    · split
      · rename_i e
        exact onlyOpt_some ((h _).ok _ e)
      · exact onlyOpt_none
theorem applyConfig_core : ∀ x0 s, OnlyOpt [.sel, .net, .keys, .stack, .host] s (applyConfig x0 s) := by
  intro x0 s
  unfold applyConfig
  dsimp only
  repeat (first
    | exact onlyOpt_none
    | (refine applyRows_core fun r => ?_)
    | with_reducible apply putNts_only (k := by decide)
    | with_reducible apply putRotation_only (k := by decide)
    | with_reducible apply putProfile_only (k := by decide)
    | with_reducible apply putPtp_only (k := by decide)
    | with_reducible apply putGlobal_only (k := by decide)
    | with_reducible apply putSa_only (k := by decide)
    | with_reducible apply modAddress_only (k := by decide)
    | with_reducible apply modPtpAddr_only (k := by decide)
    | with_reducible exact Only.refl _ _
    | split)
  · cases saIndexRows x0.body.index s with
    | none => exact onlyOpt_none
    | some rows => exact applyRows_core fun r => putSa_only (.refl _ _) (by decide)
  · exact onlyOpt_none
theorem applyConfig_only {ws s u} {x0} (h : Only ws s u) (k : [Part.sel, .net, .keys, .stack, .host] ⊆ ws) :
    OnlyOpt ws s (applyConfig x0 u) :=
  onlyOpt_mono (applyConfig_core _ _) k h
theorem takeRecord_core : ∀ x0 x1 s, Only [.sel, .net, .keys, .stack, .host] s (takeRecord x0 x1 s) := by
  intro x0 x1 s
  unfold takeRecord
  try dsimp only
  repeat (first
    | with_reducible exact Only.refl _ _
    | with_reducible assumption
    | split
    | (with_reducible refine Only.ofOpt ?_ (by assumption); apply applyConfig_only (k := by decide))
    | with_reducible apply applyConfig_only (k := by decide)
    | with_reducible apply Only.getD
    | with_reducible apply violation_only (k := by decide)
    | dsimp only)
theorem takeRecord_only {ws s u} {x0 x1} (h : Only ws s u) (k : [Part.sel, .net, .keys, .stack, .host] ⊆ ws) :
    Only ws s (takeRecord x0 x1 u) :=
  h.step (takeRecord_core _ _ _) k
theorem takeSession_core : ∀ x0 x1 s, Only [.net, .stack] s (takeSession x0 x1 s) := by
  intro x0 x1 s
  unfold takeSession
  try dsimp only
  repeat (first
    | with_reducible exact Only.refl _ _
    | with_reducible assumption
    | split
    | with_reducible apply modPtp_only (k := by decide)
    | with_reducible apply dropSession_only (k := by decide)
    | with_reducible apply modSession_only (k := by decide)
    | with_reducible apply countLink_only (k := by decide)
    | dsimp only)
theorem takeSession_only {ws s u} {x0 x1} (h : Only ws s u) (k : [Part.net, .stack] ⊆ ws) :
    Only ws s (takeSession x0 x1 u) :=
  h.step (takeSession_core _ _ _) k
theorem holdBases_core : ∀ x0 s, Only [.stack] s (holdBases x0 s) := by
  intro x0 s
  unfold holdBases
  try dsimp only
  repeat (first
    | with_reducible exact Only.refl _ _
    | with_reducible assumption
    | split
    | with_reducible apply modStack_only (k := by decide)
    | dsimp only)
theorem holdBases_only {ws s u} {x0} (h : Only ws s u) (k : [Part.stack] ⊆ ws) :
    Only ws s (holdBases x0 u) :=
  h.step (holdBases_core _ _) k
theorem setGeneration_core : ∀ x0 x1 s, Only [.net, .keys, .stack] s (setGeneration x0 x1 s) := by
  intro x0 x1 s
  unfold setGeneration
  try dsimp only
  repeat (first
    | with_reducible exact Only.refl _ _
    | with_reducible assumption
    | split
    | with_reducible apply modNts_only (k := by decide)
    | with_reducible apply dropGen_only (k := by decide)
    | with_reducible apply modGen_only (k := by decide)
    | (with_reducible refine Only.each ?_ (fun _ _ => ?_))
    | dsimp only)
theorem setGeneration_only {ws s u} {x0 x1} (h : Only ws s u) (k : [Part.net, .keys, .stack] ⊆ ws) :
    Only ws s (setGeneration x0 x1 u) :=
  h.step (setGeneration_core _ _ _) k
theorem replicatedWritten_core : ∀ x0 x1 s, Only [.net, .keys, .stack, .host] s (replicatedWritten x0 x1 s) := by
  intro x0 x1 s
  unfold replicatedWritten
  try dsimp only
  repeat (first
    | with_reducible exact Only.refl _ _
    | with_reducible assumption
    | split
    | with_reducible apply setGeneration_only (k := by decide)
    | with_reducible apply sendAck_only (k := by decide)
    | with_reducible apply holdBases_only (k := by decide)
    | dsimp only)
theorem replicatedWritten_only {ws s u} {x0 x1} (h : Only ws s u) (k : [Part.net, .keys, .stack, .host] ⊆ ws) :
    Only ws s (replicatedWritten x0 x1 u) :=
  h.step (replicatedWritten_core _ _ _) k
theorem takeKey_core : ∀ x0 x1 s, Only [.net, .keys, .stack, .host] s (takeKey x0 x1 s) := by
  intro x0 x1 s
  unfold takeKey
  try dsimp only
  repeat (first
    | with_reducible exact Only.refl _ _
    | with_reducible assumption
    | split
    | with_reducible apply modStack_only (k := by decide)
    | with_reducible apply sendAck_only (k := by decide)
    | with_reducible apply beginWrite_only (k := by decide)
    | with_reducible apply discardReaders_only (k := by decide)
    | with_reducible apply dropGen_only (k := by decide)
    | with_reducible apply replicatedWritten_only (k := by decide)
    | with_reducible apply zeroSlot_only (k := by decide)
    | with_reducible apply violation_only (k := by decide)
    | dsimp only)
theorem takeKey_only {ws s u} {x0 x1} (h : Only ws s u) (k : [Part.net, .keys, .stack, .host] ⊆ ws) :
    Only ws s (takeKey x0 x1 u) :=
  h.step (takeKey_core _ _ _) k
theorem acknowledged_core : ∀ x0 s, Only [.sel, .nib, .net, .keys, .stack, .host] s (acknowledged x0 s) := by
  intro x0 s
  unfold acknowledged
  try dsimp only
  repeat (first
    | with_reducible exact Only.refl _ _
    | with_reducible assumption
    | split
    | with_reducible apply modRotation_only (k := by decide)
    | with_reducible apply modGen_only (k := by decide)
    | with_reducible apply nameBoundary_only (k := by decide)
    | with_reducible apply leaveStack_only (k := by decide)
    | dsimp only)
theorem acknowledged_only {ws s u} {x0} (h : Only ws s u) (k : [Part.sel, .nib, .net, .keys, .stack, .host] ⊆ ws) :
    Only ws s (acknowledged x0 u) :=
  h.step (acknowledged_core _ _) k
theorem takeLeaps_core : ∀ x0 x1 s, Only [.gnss, .host] s (takeLeaps x0 x1 s) := by
  intro x0 x1 s
  unfold takeLeaps
  try dsimp only
  repeat (first
    | with_reducible exact Only.refl _ _
    | with_reducible assumption
    | split
    | with_reducible apply modPort_only (k := by decide)
    | with_reducible apply raise_only (k := by decide)
    | (with_reducible refine Only.each ?_ (fun _ _ => ?_))
    | dsimp only)
theorem takeLeaps_only {ws s u} {x0 x1} (h : Only ws s u) (k : [Part.gnss, .host] ⊆ ws) :
    Only ws s (takeLeaps x0 x1 u) :=
  h.step (takeLeaps_core _ _ _) k
theorem takeExclusions_core : ∀ x0 x1 s, Only [.gnss, .host] s (takeExclusions x0 x1 s) := by
  intro x0 x1 s
  unfold takeExclusions
  try dsimp only
  repeat (first
    | with_reducible exact Only.refl _ _
    | with_reducible assumption
    | split
    | with_reducible apply modPort_only (k := by decide)
    | (with_reducible refine Only.pair ?_ (by assumption); apply freshNat_only (k := by decide))
    | with_reducible apply freshNat_only (k := by decide)
    | with_reducible apply raise_only (k := by decide)
    | (with_reducible refine Only.each ?_ (fun _ _ => ?_))
    | dsimp only)
theorem takeExclusions_only {ws s u} {x0 x1} (h : Only ws s u) (k : [Part.gnss, .host] ⊆ ws) :
    Only ws s (takeExclusions x0 x1 u) :=
  h.step (takeExclusions_core _ _ _) k
theorem excludeConst_core : ∀ x0 x1 s, Only [.gnss, .host] s (excludeConst x0 x1 s) := by
  intro x0 x1 s
  unfold excludeConst
  try dsimp only
  repeat (first
    | with_reducible exact Only.refl _ _
    | with_reducible assumption
    | split
    | with_reducible apply modPort_only (k := by decide)
    | with_reducible apply raise_only (k := by decide)
    | dsimp only)
theorem excludeConst_only {ws s u} {x0 x1} (h : Only ws s u) (k : [Part.gnss, .host] ⊆ ws) :
    Only ws s (excludeConst x0 x1 u) :=
  h.step (excludeConst_core _ _ _) k
theorem raiseCross_core : ∀ x0 s, Only [.gnss, .host] s (raiseCross x0 s) := by
  intro x0 s
  unfold raiseCross
  try dsimp only
  repeat (first
    | with_reducible exact Only.refl _ _
    | with_reducible assumption
    | split
    | with_reducible apply modPort_only (k := by decide)
    | with_reducible apply raise_only (k := by decide)
    | dsimp only)
theorem raiseCross_only {ws s u} {x0} (h : Only ws s u) (k : [Part.gnss, .host] ⊆ ws) :
    Only ws s (raiseCross x0 u) :=
  h.step (raiseCross_core _ _) k
theorem rejectPort_core : ∀ x0 x1 s, Only [.clock, .refs, .ductus, .synth, .gnss, .host] s (rejectPort x0 x1 s) := by
  intro x0 x1 s
  unfold rejectPort
  try dsimp only
  repeat (first
    | with_reducible exact Only.refl _ _
    | with_reducible assumption
    | split
    | with_reducible apply modPort_only (k := by decide)
    | with_reducible apply raise_only (k := by decide)
    | with_reducible apply addReason_only (k := by decide)
    | dsimp only)
theorem rejectPort_only {ws s u} {x0 x1} (h : Only ws s u) (k : [Part.clock, .refs, .ductus, .synth, .gnss, .host] ⊆ ws) :
    Only ws s (rejectPort x0 x1 u) :=
  h.step (rejectPort_core _ _ _) k
theorem answerChecks_core : ∀ x0 x1 x2 s, Only [.clock, .refs, .ductus, .synth, .gnss, .host] s (answerChecks x0 x1 x2 s) := by
  intro x0 x1 x2 s
  unfold answerChecks
  try dsimp only
  repeat (first
    | with_reducible exact Only.refl _ _
    | with_reducible assumption
    | split
    | with_reducible apply excludeConst_only (k := by decide)
    | with_reducible apply raiseCross_only (k := by decide)
    | with_reducible apply rejectPort_only (k := by decide)
    | with_reducible apply triggerCapture_only (k := by decide)
    | (with_reducible refine Only.when ?_ ?_)
    | dsimp only)
theorem answerChecks_only {ws s u} {x0 x1 x2} (h : Only ws s u) (k : [Part.clock, .refs, .ductus, .synth, .gnss, .host] ⊆ ws) :
    Only ws s (answerChecks x0 x1 x2 u) :=
  h.step (answerChecks_core _ _ _ _) k
theorem deliver_core : ∀ x0 x1 x2 x3 s, Only [.clock, .refs, .ductus, .margin, .synth, .host] s (deliver x0 x1 x2 x3 s) := by
  intro x0 x1 x2 x3 s
  unfold deliver
  try dsimp only
  repeat (first
    | with_reducible exact Only.refl _ _
    | with_reducible assumption
    | split
    | with_reducible apply modRef_only (k := by decide)
    | with_reducible apply refArrival_only (k := by decide)
    | with_reducible apply clearReason_only (k := by decide)
    | with_reducible apply takeOffset_only (k := by decide)
    | with_reducible apply refMiss_only (k := by decide)
    | with_reducible apply addReason_only (k := by decide)
    | dsimp only)
theorem deliver_only {ws s u} {x0 x1 x2 x3} (h : Only ws s u) (k : [Part.clock, .refs, .ductus, .margin, .synth, .host] ⊆ ws) :
    Only ws s (deliver x0 x1 x2 x3 u) :=
  h.step (deliver_core _ _ _ _ _) k
theorem putEvin_core : ∀ x0 x1 s, OnlyExc [.clock, .nib, .host] s (putEvin x0 x1 s) := by
  intro x0 x1 s
  unfold putEvin
  try dsimp only
  repeat (first
    | with_reducible exact Only.refl _ _
    | with_reducible assumption
    | split
    | with_reducible apply modClock_only (k := by decide)
    | with_reducible apply modNib_only (k := by decide)
    | (with_reducible refine Only.ofOpt2 ?_ (by assumption); apply takeChannel_only (k := by decide))
    | with_reducible apply takeChannel_only (k := by decide)
    | with_reducible apply releaseOpt_only (k := by decide)
    | with_reducible apply onlyExc_need
    | with_reducible apply onlyExc_pure
    | with_reducible apply onlyExc_ok
    | with_reducible apply onlyExc_error
    | dsimp only)
theorem putEvin_only {ws s u} {x0 x1} (h : Only ws s u) (k : [Part.clock, .nib, .host] ⊆ ws) :
    OnlyExc ws s (putEvin x0 x1 u) :=
  onlyExc_mono (putEvin_core _ _ _) k h
theorem setOnEdge_core : ∀ x0 x1 s, Only [.clock, .refs, .nib, .net, .stack] s (setOnEdge x0 x1 s) := by
  intro x0 x1 s
  unfold setOnEdge
  try dsimp only
  repeat (first
    | with_reducible exact Only.refl _ _
    | with_reducible assumption
    | split
    | with_reducible apply modClock_only (k := by decide)
    | with_reducible apply setVirtual_only (k := by decide)
    | dsimp only)
theorem setOnEdge_only {ws s u} {x0 x1} (h : Only ws s u) (k : [Part.clock, .refs, .nib, .net, .stack] ⊆ ws) :
    Only ws s (setOnEdge x0 x1 u) :=
  h.step (setOnEdge_core _ _ _) k
theorem latchEdge_core : ∀ x0 x1 x2 s, Only [.clock, .host] s (latchEdge x0 x1 x2 s) := by
  intro x0 x1 x2 s
  unfold latchEdge
  try dsimp only
  repeat (first
    | with_reducible exact Only.refl _ _
    | with_reducible assumption
    | split
    | with_reducible apply modClock_only (k := by decide)
    | with_reducible apply enqueue_only (k := by decide)
    | dsimp only)
theorem latchEdge_only {ws s u} {x0 x1 x2} (h : Only ws s u) (k : [Part.clock, .host] ⊆ ws) :
    Only ws s (latchEdge x0 x1 x2 u) :=
  h.step (latchEdge_core _ _ _ _) k
theorem stopRunning_core : ∀ s, Only [.power, .clock, .sel, .ductus, .synth, .nib, .gnss, .net, .keys, .stack, .host] s (stopRunning s) := by
  intro s
  unfold stopRunning
  try dsimp only
  repeat (first
    | with_reducible exact Only.refl _ _
    | with_reducible assumption
    | split
    | with_reducible apply modPower_only (k := by decide)
    | with_reducible apply modClock_only (k := by decide)
    | with_reducible apply modSynth_only (k := by decide)
    | with_reducible apply modNts_only (k := by decide)
    | with_reducible apply modKeys_only (k := by decide)
    | with_reducible apply modGnss_only (k := by decide)
    | with_reducible apply modStack_only (k := by decide)
    | with_reducible apply abortRealign_only (k := by decide)
    | with_reducible apply releaseChannel_only (k := by decide)
    | with_reducible apply failPairing_only (k := by decide)
    | with_reducible apply modPairing_only (k := by decide)
    | with_reducible apply clearStack_only (k := by decide)
    | (with_reducible refine Only.each ?_ (fun _ _ => ?_))
    | dsimp only)
theorem stopRunning_only {ws s u} (h : Only ws s u) (k : [Part.power, .clock, .sel, .ductus, .synth, .nib, .gnss, .net, .keys, .stack, .host] ⊆ ws) :
    Only ws s (stopRunning u) :=
  h.step (stopRunning_core _) k
theorem endRunning_core : ∀ s, Only [.power, .clock, .sel, .ductus, .synth, .nib, .gnss, .net, .keys, .stack, .host] s (endRunning s) := by
  intro s
  unfold endRunning
  try dsimp only
  repeat (first
    | with_reducible exact Only.refl _ _
    | with_reducible assumption
    | split
    | with_reducible apply completeCmd_only (k := by decide)
    | with_reducible apply stopRunning_only (k := by decide)
    | (with_reducible refine Only.each ?_ (fun _ _ => ?_))
    | dsimp only)
theorem endRunning_only {ws s u} (h : Only ws s u) (k : [Part.power, .clock, .sel, .ductus, .synth, .nib, .gnss, .net, .keys, .stack, .host] ⊆ ws) :
    Only ws s (endRunning u) :=
  h.step (endRunning_core _) k
theorem clearMintArea_core : ∀ s, Only [.host] s (clearMintArea s) := by
  intro s
  unfold clearMintArea
  try dsimp only
  repeat (first
    | with_reducible exact Only.refl _ _
    | with_reducible assumption
    | split
    | with_reducible apply modHost_only (k := by decide)
    | dsimp only)
theorem clearMintArea_only {ws s u} (h : Only ws s u) (k : [Part.host] ⊆ ws) :
    Only ws s (clearMintArea u) :=
  h.step (clearMintArea_core _) k
theorem destroyKeys_core : ∀ s, Only [.sel, .margin, .nib, .net, .keys, .stack, .host] s (destroyKeys s) := by
  intro s
  unfold destroyKeys
  try dsimp only
  repeat (first
    | with_reducible exact Only.refl _ _
    | with_reducible assumption
    | split
    | with_reducible apply modKeys_only (k := by decide)
    | with_reducible apply modNts_only (k := by decide)
    | with_reducible apply modPtp_only (k := by decide)
    | with_reducible apply modMargin_only (k := by decide)
    | with_reducible apply finish_only (k := by decide)
    | with_reducible apply clearStack_only (k := by decide)
    | with_reducible apply settleParents_only (k := by decide)
    | with_reducible apply clearMintArea_only (k := by decide)
    | (with_reducible refine Only.each ?_ (fun _ _ => ?_))
    | dsimp only)
theorem destroyKeys_only {ws s u} (h : Only ws s u) (k : [Part.sel, .margin, .nib, .net, .keys, .stack, .host] ⊆ ws) :
    Only ws s (destroyKeys u) :=
  h.step (destroyKeys_core _) k
theorem eraseBanks_core : ∀ s, Only [.keys] s (eraseBanks s) := by
  intro s
  unfold eraseBanks
  try dsimp only
  repeat (first
    | with_reducible exact Only.refl _ _
    | with_reducible assumption
    | split
    | with_reducible apply modKeys_only (k := by decide)
    | dsimp only)
theorem eraseBanks_only {ws s u} (h : Only ws s u) (k : [Part.keys] ⊆ ws) :
    Only ws s (eraseBanks u) :=
  h.step (eraseBanks_core _) k
theorem makeRoot_core : ∀ x0 s, Only [.keys, .host] s (makeRoot x0 s) := by
  intro x0 s
  unfold makeRoot
  try dsimp only
  repeat (first
    | with_reducible exact Only.refl _ _
    | with_reducible assumption
    | split
    | with_reducible apply modKeys_only (k := by decide)
    | (with_reducible refine Only.pair ?_ (by assumption); apply freshBytes_only (k := by decide))
    | with_reducible apply freshBytes_only (k := by decide)
    | dsimp only)
theorem makeRoot_only {ws s u} {x0} (h : Only ws s u) (k : [Part.keys, .host] ⊆ ws) :
    Only ws s (makeRoot x0 u) :=
  h.step (makeRoot_core _ _) k
theorem addTamper_core : ∀ x0 s, Only [.keys] s (addTamper x0 s) := by
  intro x0 s
  unfold addTamper
  try dsimp only
  repeat (first
    | with_reducible exact Only.refl _ _
    | with_reducible assumption
    | split
    | with_reducible apply modKeys_only (k := by decide)
    | dsimp only)
theorem addTamper_only {ws s u} {x0} (h : Only ws s u) (k : [Part.keys] ⊆ ws) :
    Only ws s (addTamper x0 u) :=
  h.step (addTamper_core _ _) k
theorem latchTamper_core : ∀ x0 x1 s, Only [.keys] s (latchTamper x0 x1 s) := by
  intro x0 x1 s
  unfold latchTamper
  try dsimp only
  repeat (first
    | with_reducible exact Only.refl _ _
    | with_reducible assumption
    | split
    | with_reducible apply modKeys_only (k := by decide)
    | dsimp only)
theorem latchTamper_only {ws s u} {x0 x1} (h : Only ws s u) (k : [Part.keys] ⊆ ws) :
    Only ws s (latchTamper x0 x1 u) :=
  h.step (latchTamper_core _ _ _) k
theorem recordLatched_core : ∀ x0 s, Only [.keys, .host] s (recordLatched x0 s) := by
  intro x0 s
  unfold recordLatched
  try dsimp only
  repeat (first
    | with_reducible exact Only.refl _ _
    | with_reducible assumption
    | split
    | with_reducible apply modKeys_only (k := by decide)
    | with_reducible apply addTamper_only (k := by decide)
    | with_reducible apply raise_only (k := by decide)
    | (with_reducible refine Only.each ?_ (fun _ _ => ?_))
    | dsimp only)
theorem recordLatched_only {ws s u} {x0} (h : Only ws s u) (k : [Part.keys, .host] ⊆ ws) :
    Only ws s (recordLatched x0 u) :=
  h.step (recordLatched_core _ _) k
theorem tamperResponse_core : ∀ x0 s, Only [.power, .clock, .sel, .ductus, .margin, .synth, .nib, .gnss, .net, .keys, .stack, .host] s (tamperResponse x0 s) := by
  intro x0 s
  unfold tamperResponse
  try dsimp only
  repeat (first
    | with_reducible exact Only.refl _ _
    | with_reducible assumption
    | split
    | with_reducible apply modKeys_only (k := by decide)
    | with_reducible apply endRunning_only (k := by decide)
    | with_reducible apply latchTamper_only (k := by decide)
    | with_reducible apply destroyKeys_only (k := by decide)
    | with_reducible apply stopService_only (k := by decide)
    | with_reducible apply recordLatched_only (k := by decide)
    | dsimp only)
theorem tamperResponse_only {ws s u} {x0} (h : Only ws s u) (k : [Part.power, .clock, .sel, .ductus, .margin, .synth, .nib, .gnss, .net, .keys, .stack, .host] ⊆ ws) :
    Only ws s (tamperResponse x0 u) :=
  h.step (tamperResponse_core _ _) k
theorem takeSaKey_core : ∀ x0 x1 x2 x3 x4 x5 x6 s, Only [.keys] s (takeSaKey x0 x1 x2 x3 x4 x5 x6 s).1 := by
  intro x0 x1 x2 x3 x4 x5 x6 s
  unfold takeSaKey
  try dsimp only
  repeat (first
    | with_reducible exact Only.refl _ _
    | with_reducible assumption
    | split
    | with_reducible apply beginWrite_only (k := by decide)
    | dsimp only)
theorem takeSaKey_only {ws s u} {x0 x1 x2 x3 x4 x5 x6} (h : Only ws s u) (k : [Part.keys] ⊆ ws) :
    Only ws s (takeSaKey x0 x1 x2 x3 x4 x5 x6 u).1 :=
  h.step (takeSaKey_core _ _ _ _ _ _ _ _) k
theorem keyWritten_core : ∀ x0 s, Only [.sel, .nib, .net, .keys, .stack, .host] s (keyWritten x0 s) := by
  intro x0 s
  unfold keyWritten
  try dsimp only
  repeat (first
    | with_reducible exact Only.refl _ _
    | with_reducible assumption
    | split
    | with_reducible apply replaceKey_only (k := by decide)
    | with_reducible apply finish_only (k := by decide)
    | with_reducible apply genWritten_only (k := by decide)
    | with_reducible apply stackKeyWritten_only (k := by decide)
    | with_reducible apply pairKeyWritten_only (k := by decide)
    | with_reducible apply replicatedWritten_only (k := by decide)
    | dsimp only)
theorem keyWritten_only {ws s u} {x0} (h : Only ws s u) (k : [Part.sel, .nib, .net, .keys, .stack, .host] ⊆ ws) :
    Only ws s (keyWritten x0 u) :=
  h.step (keyWritten_core _ _) k
theorem putFilter_core : ∀ x0 x1 s, Only [.wear] s (putFilter x0 x1 s) := by
  intro x0 x1 s
  unfold putFilter
  try dsimp only
  repeat (first
    | with_reducible exact Only.refl _ _
    | with_reducible assumption
    | split
    | with_reducible apply modWear_only (k := by decide)
    | dsimp only)
theorem putFilter_only {ws s u} {x0 x1} (h : Only ws s u) (k : [Part.wear] ⊆ ws) :
    Only ws s (putFilter x0 x1 u) :=
  h.step (putFilter_core _ _ _) k
theorem wearRatio_core : ∀ x0 x1 s, Only [.host] s (wearRatio x0 x1 s).2 := by
  intro x0 x1 s
  unfold wearRatio
  try dsimp only
  repeat (first
    | with_reducible exact Only.refl _ _
    | with_reducible assumption
    | split
    | (with_reducible refine Only.pair ?_ (by assumption); apply freshNat_only (k := by decide))
    | with_reducible apply freshNat_only (k := by decide)
    | dsimp only)
theorem wearRatio_only {ws s u} {x0 x1} (h : Only ws s u) (k : [Part.host] ⊆ ws) :
    Only ws s (wearRatio x0 x1 u).2 :=
  h.step (wearRatio_core _ _ _) k
theorem warnUnit_core : ∀ x0 x1 s, Only [.wear, .host] s (warnUnit x0 x1 s) := by
  intro x0 x1 s
  unfold warnUnit
  try dsimp only
  repeat (first
    | with_reducible exact Only.refl _ _
    | with_reducible assumption
    | split
    | with_reducible apply modUnit_only (k := by decide)
    | with_reducible apply wearEvent_only (k := by decide)
    | with_reducible apply ledger_only (k := by decide)
    | dsimp only)
theorem warnUnit_only {ws s u} {x0 x1} (h : Only ws s u) (k : [Part.wear, .host] ⊆ ws) :
    Only ws s (warnUnit x0 x1 u) :=
  h.step (warnUnit_core _ _ _) k
theorem modArray_core : ∀ x0 x1 s, Only [.wear] s (modArray x0 x1 s) := by
  intro x0 x1 s
  unfold modArray
  try dsimp only
  repeat (first
    | with_reducible exact Only.refl _ _
    | with_reducible assumption
    | split
    | with_reducible apply modWear_only (k := by decide)
    | dsimp only)
theorem modArray_only {ws s u} {x0 x1} (h : Only ws s u) (k : [Part.wear] ⊆ ws) :
    Only ws s (modArray x0 x1 u) :=
  h.step (modArray_core _ _ _) k
theorem beginRepair_core : ∀ x0 x1 x2 x3 s, Only [.wear] s (beginRepair x0 x1 x2 x3 s) := by
  intro x0 x1 x2 x3 s
  unfold beginRepair
  try dsimp only
  repeat (first
    | with_reducible exact Only.refl _ _
    | with_reducible assumption
    | split
    | with_reducible apply modArray_only (k := by decide)
    | dsimp only)
theorem beginRepair_only {ws s u} {x0 x1 x2 x3} (h : Only ws s u) (k : [Part.wear] ⊆ ws) :
    Only ws s (beginRepair x0 x1 x2 x3 u) :=
  h.step (beginRepair_core _ _ _ _ _) k
theorem correctedError_core : ∀ x0 x1 x2 s, Only [.wear] s (correctedError x0 x1 x2 s) := by
  intro x0 x1 x2 s
  unfold correctedError
  try dsimp only
  repeat (first
    | with_reducible exact Only.refl _ _
    | with_reducible assumption
    | split
    | with_reducible apply modArray_only (k := by decide)
    | with_reducible apply beginRepair_only (k := by decide)
    | dsimp only)
theorem correctedError_only {ws s u} {x0 x1 x2} (h : Only ws s u) (k : [Part.wear] ⊆ ws) :
    Only ws s (correctedError x0 x1 x2 u) :=
  h.step (correctedError_core _ _ _ _) k
theorem unitError_core : ∀ x0 x1 s, Only [.gnss, .wear, .host] s (unitError x0 x1 s) := by
  intro x0 x1 s
  unfold unitError
  try dsimp only
  repeat (first
    | with_reducible exact Only.refl _ _
    | with_reducible assumption
    | split
    | with_reducible apply modUnit_only (k := by decide)
    | with_reducible apply bringIn_only (k := by decide)
    | dsimp only)
theorem unitError_only {ws s u} {x0 x1} (h : Only ws s u) (k : [Part.gnss, .wear, .host] ⊆ ws) :
    Only ws s (unitError x0 x1 u) :=
  h.step (unitError_core _ _ _) k
theorem countEcc_core : ∀ x0 x1 s, Only [.wear, .host] s (countEcc x0 x1 s) := by
  intro x0 x1 s
  unfold countEcc
  try dsimp only
  repeat (first
    | with_reducible exact Only.refl _ _
    | with_reducible assumption
    | split
    | with_reducible apply countOne_only (k := by decide)
    | (with_reducible refine Only.pair ?_ (by assumption); apply freshChoice_only (k := by decide))
    | with_reducible apply freshChoice_only (k := by decide)
    | (with_reducible refine Only.each ?_ (fun _ _ => ?_))
    | dsimp only)
theorem countEcc_only {ws s u} {x0 x1} (h : Only ws s u) (k : [Part.wear, .host] ⊆ ws) :
    Only ws s (countEcc x0 x1 u) :=
  h.step (countEcc_core _ _ _) k
theorem dropVictim_core : ∀ x0 s, Only [.net, .host] s (dropVictim x0 s) := by
  intro x0 s
  unfold dropVictim
  try dsimp only
  repeat (first
    | with_reducible exact Only.refl _ _
    | with_reducible assumption
    | split
    | with_reducible apply modNts_only (k := by decide)
    | with_reducible apply modPtp_only (k := by decide)
    | with_reducible apply modNet_only (k := by decide)
    | (with_reducible refine Only.pair ?_ (by assumption); apply freshNat_only (k := by decide))
    | with_reducible apply freshNat_only (k := by decide)
    | with_reducible apply dropReservation_only (k := by decide)
    | dsimp only)
theorem dropVictim_only {ws s u} {x0} (h : Only ws s u) (k : [Part.net, .host] ⊆ ws) :
    Only ws s (dropVictim x0 u) :=
  h.step (dropVictim_core _ _) k
theorem readEntries_core : ∀ x0 x1 x2 x3 s, Only [.host] s (readEntries x0 x1 x2 x3 s).2 := by
  intro x0 x1 x2 x3 s
  unfold readEntries
  try dsimp only
  repeat (first
    | with_reducible exact Only.refl _ _
    | with_reducible assumption
    | split
    | (with_reducible refine Only.pair ?_ (by assumption); apply freeOctets_only (k := by decide))
    | with_reducible apply freeOctets_only (k := by decide)
    | dsimp only)
theorem readEntries_only {ws s u} {x0 x1 x2 x3} (h : Only ws s u) (k : [Part.host] ⊆ ws) :
    Only ws s (readEntries x0 x1 x2 x3 u).2 :=
  h.step (readEntries_core _ _ _ _ _) k
theorem writeCal_core : ∀ x0 x1 s, Only [.wear, .host] s (writeCal x0 x1 s) := by
  intro x0 x1 s
  unfold writeCal
  try dsimp only
  repeat (first
    | with_reducible exact Only.refl _ _
    | with_reducible assumption
    | split
    | with_reducible apply modWear_only (k := by decide)
    | with_reducible apply modUnit_only (k := by decide)
    | with_reducible apply raise_only (k := by decide)
    | (with_reducible refine Only.each ?_ (fun _ _ => ?_))
    | dsimp only)
theorem writeCal_only {ws s u} {x0 x1} (h : Only ws s u) (k : [Part.wear, .host] ⊆ ws) :
    Only ws s (writeCal x0 x1 u) :=
  h.step (writeCal_core _ _ _) k
theorem serveEvent_core : ∀ x0 x1 x2 s, OnlyOpt [.host] s (serveEvent x0 x1 x2 s) := by
  intro x0 x1 x2 s
  unfold serveEvent
  try dsimp only
  repeat (first
    | with_reducible exact Only.refl _ _
    | with_reducible assumption
    | split
    | with_reducible apply modTask_only (k := by decide)
    | with_reducible apply taskAnswer_only (k := by decide)
    | with_reducible apply dpWrite_only (k := by decide)
    | with_reducible apply onlyOpt_map
    | with_reducible apply onlyOpt_mapW
    | intro _
    | with_reducible apply onlyOpt_some
    | with_reducible apply onlyOpt_none
    | dsimp only)
theorem serveEvent_only {ws s u} {x0 x1 x2} (h : Only ws s u) (k : [Part.host] ⊆ ws) :
    OnlyOpt ws s (serveEvent x0 x1 x2 u) :=
  onlyOpt_mono (serveEvent_core _ _ _ _) k h
theorem wakeTask_core : ∀ x0 s, Only [.host] s (wakeTask x0 s) := by
  intro x0 s
  unfold wakeTask
  try dsimp only
  repeat (first
    | with_reducible exact Only.refl _ _
    | with_reducible assumption
    | split
    | (with_reducible refine Only.ofOpt ?_ (by assumption); apply serveEvent_only (k := by decide))
    | with_reducible apply serveEvent_only (k := by decide)
    | with_reducible apply Only.getD
    | dsimp only)
theorem wakeTask_only {ws s u} {x0} (h : Only ws s u) (k : [Part.host] ⊆ ws) :
    Only ws s (wakeTask x0 u) :=
  h.step (wakeTask_core _ _) k
theorem afterCommit_core : ∀ x0 x1 s, Only [.host] s (afterCommit x0 x1 s) := by
  intro x0 x1 s
  unfold afterCommit
  try dsimp only
  repeat (first
    | with_reducible exact Only.refl _ _
    | with_reducible assumption
    | split
    | with_reducible apply modHost_only (k := by decide)
    | with_reducible apply wakeTask_only (k := by decide)
    | (with_reducible refine Only.each ?_ (fun _ _ => ?_))
    | dsimp only)
theorem afterCommit_only {ws s u} {x0 x1} (h : Only ws s u) (k : [Part.host] ⊆ ws) :
    Only ws s (afterCommit x0 x1 u) :=
  h.step (afterCommit_core _ _ _) k
theorem dpError_core : ∀ s, Only [.host] s (dpError s) := by
  intro s
  unfold dpError
  try dsimp only
  repeat (first
    | with_reducible exact Only.refl _ _
    | with_reducible assumption
    | split
    | with_reducible apply modHost_only (k := by decide)
    | dsimp only)
theorem dpError_only {ws s u} (h : Only ws s u) (k : [Part.host] ⊆ ws) :
    Only ws s (dpError u) :=
  h.step (dpError_core _) k
theorem answerRead_core : ∀ x0 s, Only [.host] s (answerRead x0 s) := by
  intro x0 s
  unfold answerRead
  try dsimp only
  repeat (first
    | with_reducible exact Only.refl _ _
    | with_reducible assumption
    | split
    | with_reducible apply modHost_only (k := by decide)
    | dsimp only)
theorem answerRead_only {ws s u} {x0} (h : Only ws s u) (k : [Part.host] ⊆ ws) :
    Only ws s (answerRead x0 u) :=
  h.step (answerRead_core _ _) k
theorem popQueue_core : ∀ x0 s, Only [.host] s (popQueue x0 s) := by
  intro x0 s
  unfold popQueue
  try dsimp only
  repeat (first
    | with_reducible exact Only.refl _ _
    | with_reducible assumption
    | split
    | with_reducible apply modQueue_only (k := by decide)
    | with_reducible apply answerRead_only (k := by decide)
    | with_reducible apply dpError_only (k := by decide)
    | dsimp only)
theorem popQueue_only {ws s u} {x0} (h : Only ws s u) (k : [Part.host] ⊆ ws) :
    Only ws s (popQueue x0 u) :=
  h.step (popQueue_core _ _) k
theorem flushQueue_core : ∀ x0 s, Only [.host] s (flushQueue x0 s) := by
  intro x0 s
  unfold flushQueue
  try dsimp only
  repeat (first
    | with_reducible exact Only.refl _ _
    | with_reducible assumption
    | split
    | with_reducible apply modQueue_only (k := by decide)
    | dsimp only)
theorem flushQueue_only {ws s u} {x0} (h : Only ws s u) (k : [Part.host] ⊆ ws) :
    Only ws s (flushQueue x0 u) :=
  h.step (flushQueue_core _ _) k
theorem writeConsumer_core : ∀ x0 x1 s, Only [.host] s (writeConsumer x0 x1 s) := by
  intro x0 x1 s
  unfold writeConsumer
  try dsimp only
  repeat (first
    | with_reducible exact Only.refl _ _
    | with_reducible assumption
    | split
    | with_reducible apply modQueue_only (k := by decide)
    | dsimp only)
theorem writeConsumer_only {ws s u} {x0 x1} (h : Only ws s u) (k : [Part.host] ⊆ ws) :
    Only ws s (writeConsumer x0 x1 u) :=
  h.step (writeConsumer_core _ _ _) k
theorem dpZero_core : ∀ x0 x1 s, Only [.host] s (dpZero x0 x1 s) := by
  intro x0 x1 s
  unfold dpZero
  try dsimp only
  repeat (first
    | with_reducible exact Only.refl _ _
    | with_reducible assumption
    | split
    | with_reducible apply modHost_only (k := by decide)
    | dsimp only)
theorem dpZero_only {ws s u} {x0 x1} (h : Only ws s u) (k : [Part.host] ⊆ ws) :
    Only ws s (dpZero x0 x1 u) :=
  h.step (dpZero_core _ _ _) k
theorem placeContext_core : ∀ x0 x1 s, Only [.host] s (placeContext x0 x1 s) := by
  intro x0 x1 s
  unfold placeContext
  try dsimp only
  repeat (first
    | with_reducible exact Only.refl _ _
    | with_reducible assumption
    | split
    | with_reducible apply dpWrite_only (k := by decide)
    | dsimp only)
theorem placeContext_only {ws s u} {x0 x1} (h : Only ws s u) (k : [Part.host] ⊆ ws) :
    Only ws s (placeContext x0 x1 u) :=
  h.step (placeContext_core _ _ _) k
theorem startTasks_core : ∀ x0 s, Only [.keys, .host] s (startTasks x0 s) := by
  intro x0 s
  unfold startTasks
  try dsimp only
  repeat (first
    | with_reducible exact Only.refl _ _
    | with_reducible assumption
    | split
    | with_reducible apply modHost_only (k := by decide)
    | with_reducible apply modKeys_only (k := by decide)
    | with_reducible apply placeContext_only (k := by decide)
    | with_reducible apply dpZero_only (k := by decide)
    | (with_reducible refine Only.each ?_ (fun _ _ => ?_))
    | dsimp only)
theorem startTasks_only {ws s u} {x0} (h : Only ws s u) (k : [Part.keys, .host] ⊆ ws) :
    Only ws s (startTasks x0 u) :=
  h.step (startTasks_core _ _) k
theorem releaseHook_core : ∀ s, Only [.clock, .refs, .sel, .ductus, .margin, .synth, .net, .stack, .host] s (releaseHook s) := by
  intro s
  unfold releaseHook
  split
  · exact finishEvaluation_only (.refl _ _) (by decide)
  · exact .refl _ _
theorem releaseHook_only {ws s u} (h : Only ws s u) (k : [Part.clock, .refs, .sel, .ductus, .margin, .synth, .net, .stack, .host] ⊆ ws) :
    Only ws s (releaseHook u) :=
  h.step (releaseHook_core _) k
theorem stopTask_core : ∀ x0 x1 s, Only [.clock, .refs, .sel, .ductus, .margin, .synth, .net, .stack, .wear, .host] s (stopTask x0 x1 s) := by
  intro x0 x1 s
  unfold stopTask
  try dsimp only
  repeat (first
    | with_reducible exact Only.refl _ _
    | with_reducible assumption
    | split
    | with_reducible apply modWear_only (k := by decide)
    | with_reducible apply modTask_only (k := by decide)
    | with_reducible apply modSel_only (k := by decide)
    | with_reducible apply raise_only (k := by decide)
    | with_reducible apply releaseHook_only (k := by decide)
    | dsimp only)
theorem stopTask_only {ws s u} {x0 x1} (h : Only ws s u) (k : [Part.clock, .refs, .sel, .ductus, .margin, .synth, .net, .stack, .wear, .host] ⊆ ws) :
    Only ws s (stopTask x0 x1 u) :=
  h.step (stopTask_core _ _ _) k
theorem hostRead_core : ∀ x0 x1 s, Only [.host] s (hostRead x0 x1 s).2 := by
  intro x0 x1 s
  unfold hostRead
  try dsimp only
  repeat (first
    | with_reducible exact Only.refl _ _
    | with_reducible assumption
    | split
    | with_reducible apply dpError_only (k := by decide)
    | dsimp only)
theorem hostRead_only {ws s u} {x0 x1} (h : Only ws s u) (k : [Part.host] ⊆ ws) :
    Only ws s (hostRead x0 x1 u).2 :=
  h.step (hostRead_core _ _ _) k
theorem writeOne_core : ∀ x0 x1 s, Only [.host] s (writeOne x0 x1 s) := by
  intro x0 x1 s
  unfold writeOne
  try dsimp only
  repeat (first
    | with_reducible exact Only.refl _ _
    | with_reducible assumption
    | split
    | with_reducible apply modHost_only (k := by decide)
    | dsimp only)
theorem writeOne_only {ws s u} {x0 x1} (h : Only ws s u) (k : [Part.host] ⊆ ws) :
    Only ws s (writeOne x0 x1 u) :=
  h.step (writeOne_core _ _ _) k
theorem hostWrite_core : ∀ x0 x1 s, Only [.host] s (hostWrite x0 x1 s) := by
  intro x0 x1 s
  unfold hostWrite
  try dsimp only
  repeat (first
    | with_reducible exact Only.refl _ _
    | with_reducible assumption
    | split
    | with_reducible apply dpWrite_only (k := by decide)
    | with_reducible apply writeOne_only (k := by decide)
    | with_reducible apply dpError_only (k := by decide)
    | (with_reducible refine Only.each ?_ (fun _ _ => ?_))
    | dsimp only)
theorem hostWrite_only {ws s u} {x0 x1} (h : Only ws s u) (k : [Part.host] ⊆ ws) :
    Only ws s (hostWrite x0 x1 u) :=
  h.step (hostWrite_core _ _ _) k
theorem advance_core : ∀ s, Only [.host] s (advance s) := by
  intro s
  unfold advance
  try dsimp only
  repeat (first
    | with_reducible exact Only.refl _ _
    | with_reducible assumption
    | split
    | with_reducible apply modHost_only (k := by decide)
    | dsimp only)
theorem advance_only {ws s u} (h : Only ws s u) (k : [Part.host] ⊆ ws) :
    Only ws s (advance u) :=
  h.step (advance_core _) k
theorem readDpData_core : ∀ s, Only [.host] s (readDpData s).2 := by
  intro s
  unfold readDpData
  try dsimp only
  repeat (first
    | with_reducible exact Only.refl _ _
    | with_reducible assumption
    | split
    | (with_reducible refine Only.pair ?_ (by assumption); apply hostRead_only (k := by decide))
    | with_reducible apply hostRead_only (k := by decide)
    | with_reducible apply advance_only (k := by decide)
    | with_reducible apply dpError_only (k := by decide)
    | dsimp only)
theorem readDpData_only {ws s u} (h : Only ws s u) (k : [Part.host] ⊆ ws) :
    Only ws s (readDpData u).2 :=
  h.step (readDpData_core _) k
theorem writeDpData_core : ∀ x0 s, Only [.host] s (writeDpData x0 s) := by
  intro x0 s
  unfold writeDpData
  try dsimp only
  repeat (first
    | with_reducible exact Only.refl _ _
    | with_reducible assumption
    | split
    | with_reducible apply advance_only (k := by decide)
    | with_reducible apply hostWrite_only (k := by decide)
    | with_reducible apply dpError_only (k := by decide)
    | dsimp only)
theorem writeDpData_only {ws s u} {x0} (h : Only ws s u) (k : [Part.host] ⊆ ws) :
    Only ws s (writeDpData x0 u) :=
  h.step (writeDpData_core _ _) k
theorem writeDmaCtrl_core : ∀ x0 s, Only [.host] s (writeDmaCtrl x0 s) := by
  intro x0 s
  unfold writeDmaCtrl
  try dsimp only
  repeat (first
    | with_reducible exact Only.refl _ _
    | with_reducible assumption
    | split
    | with_reducible apply modHost_only (k := by decide)
    | with_reducible apply dpError_only (k := by decide)
    | dsimp only)
theorem writeDmaCtrl_only {ws s u} {x0} (h : Only ws s u) (k : [Part.host] ⊆ ws) :
    Only ws s (writeDmaCtrl x0 u) :=
  h.step (writeDmaCtrl_core _ _) k
theorem copyIn_core : ∀ x0 x1 x2 s, Only [.host] s (copyIn x0 x1 x2 s).2 := by
  intro x0 x1 x2 s
  induction x2 generalizing x0 x1 s with
  | zero => exact .refl _ _
  | succ n ih =>
    unfold copyIn
    split
    · exact (dpWrite_only (.refl _ _) (by decide) : Only [Part.host] _ _).trans (ih _ _ _)
    · exact .refl _ _
theorem copyIn_only {ws s u} {x0 x1 x2} (h : Only ws s u) (k : [Part.host] ⊆ ws) :
    Only ws s (copyIn x0 x1 x2 u).2 :=
  h.step (copyIn_core _ _ _ _) k
theorem injReserve_core : ∀ x0 x1 x2 s, OnlyOpt [.net, .stack, .wear, .host] s (injReserve x0 x1 x2 s) := by
  intro x0 x1 x2 s
  unfold injReserve
  try dsimp only
  repeat (first
    | with_reducible exact Only.refl _ _
    | with_reducible assumption
    | split
    | (with_reducible refine Only.ofOpt ?_ (by assumption); apply hostReserve_only (k := by decide))
    | with_reducible apply hostReserve_only (k := by decide)
    | with_reducible apply Only.getD
    | with_reducible apply onlyOpt_map
    | with_reducible apply onlyOpt_mapW
    | intro _
    | with_reducible apply onlyOpt_some
    | with_reducible apply onlyOpt_none
    | dsimp only)
theorem injReserve_only {ws s u} {x0 x1 x2} (h : Only ws s u) (k : [Part.net, .stack, .wear, .host] ⊆ ws) :
    OnlyOpt ws s (injReserve x0 x1 x2 u) :=
  onlyOpt_mono (injReserve_core _ _ _ _) k h
theorem inject_core : ∀ x0 s, Only [.net, .stack, .wear, .host] s (inject x0 s) := by
  intro x0 s
  unfold inject
  try dsimp only
  repeat (first
    | with_reducible exact Only.refl _ _
    | with_reducible assumption
    | split
    | with_reducible apply modHost_only (k := by decide)
    | with_reducible apply hostDrop_only (k := by decide)
    | (with_reducible refine Only.ofOpt ?_ (by assumption); apply injReserve_only (k := by decide))
    | with_reducible apply injReserve_only (k := by decide)
    | with_reducible apply Only.getD
    | with_reducible apply pushFrame_only (k := by decide)
    | dsimp only)
theorem inject_only {ws s u} {x0} (h : Only ws s u) (k : [Part.net, .stack, .wear, .host] ⊆ ws) :
    Only ws s (inject x0 u) :=
  h.step (inject_core _ _) k
theorem writeInject_core : ∀ x0 s, Only [.net, .stack, .wear, .host] s (writeInject x0 s) := by
  intro x0 s
  unfold writeInject
  try dsimp only
  repeat (first
    | with_reducible exact Only.refl _ _
    | with_reducible assumption
    | split
    | with_reducible apply modHost_only (k := by decide)
    | with_reducible apply dpError_only (k := by decide)
    | with_reducible apply inject_only (k := by decide)
    | dsimp only)
theorem writeInject_only {ws s u} {x0} (h : Only ws s u) (k : [Part.net, .stack, .wear, .host] ⊆ ws) :
    Only ws s (writeInject x0 u) :=
  h.step (writeInject_core _ _) k
theorem retryInjections_core : ∀ s, Only [.net, .stack, .wear, .host] s (retryInjections s) := by
  intro s
  unfold retryInjections
  try dsimp only
  repeat (first
    | with_reducible exact Only.refl _ _
    | with_reducible assumption
    | split
    | with_reducible apply modHost_only (k := by decide)
    | with_reducible apply inject_only (k := by decide)
    | (with_reducible refine Only.each ?_ (fun _ _ => ?_))
    | dsimp only)
theorem retryInjections_only {ws s u} (h : Only ws s u) (k : [Part.net, .stack, .wear, .host] ⊆ ws) :
    Only ws s (retryInjections u) :=
  h.step (retryInjections_core _) k
theorem acceptGate_core : ∀ x0 x1 x2 s, Only [.net, .host] s (acceptGate x0 x1 x2 s) := by
  intro x0 x1 x2 s
  unfold acceptGate
  try dsimp only
  repeat (first
    | with_reducible exact Only.refl _ _
    | with_reducible assumption
    | split
    | with_reducible apply modMac_only (k := by decide)
    | with_reducible apply raise_only (k := by decide)
    | (with_reducible refine Only.each ?_ (fun _ _ => ?_))
    | dsimp only)
theorem acceptGate_only {ws s u} {x0 x1 x2} (h : Only ws s u) (k : [Part.net, .host] ⊆ ws) :
    Only ws s (acceptGate x0 x1 x2 u) :=
  h.step (acceptGate_core _ _ _ _) k
theorem countSent_core : ∀ x0 x1 x2 s, Only [.net] s (countSent x0 x1 x2 s) := by
  intro x0 x1 x2 s
  unfold countSent
  try dsimp only
  repeat (first
    | with_reducible exact Only.refl _ _
    | with_reducible assumption
    | split
    | with_reducible apply modQ_only (k := by decide)
    | dsimp only)
theorem countSent_only {ws s u} {x0 x1 x2} (h : Only ws s u) (k : [Part.net] ⊆ ws) :
    Only ws s (countSent x0 x1 x2 u) :=
  h.step (countSent_core _ _ _ _) k
theorem launch_core : ∀ x0 x1 s, Only [.net, .host] s (launch x0 x1 s) := by
  intro x0 x1 s
  unfold launch
  try dsimp only
  repeat (first
    | with_reducible exact Only.refl _ _
    | with_reducible assumption
    | split
    | with_reducible apply modMac_only (k := by decide)
    | with_reducible apply countSent_only (k := by decide)
    | with_reducible apply raise_only (k := by decide)
    | dsimp only)
theorem launch_only {ws s u} {x0 x1} (h : Only ws s u) (k : [Part.net, .host] ⊆ ws) :
    Only ws s (launch x0 x1 u) :=
  h.step (launch_core _ _ _) k
theorem reserveDesc_core : ∀ x0 x1 x2 x3 s, OnlyOpt [.net, .stack, .wear, .host] s (reserveDesc x0 x1 x2 x3 s) := by
  intro x0 x1 x2 x3 s
  unfold reserveDesc
  try dsimp only
  repeat (first
    | with_reducible exact Only.refl _ _
    | with_reducible assumption
    | split
    | (with_reducible refine Only.ofOpt ?_ (by assumption); apply hostReserve_only (k := by decide))
    | with_reducible apply hostReserve_only (k := by decide)
    | with_reducible apply Only.getD
    | with_reducible apply onlyOpt_map
    | with_reducible apply onlyOpt_mapW
    | intro _
    | with_reducible apply onlyOpt_some
    | with_reducible apply onlyOpt_none
    | dsimp only)
theorem reserveDesc_only {ws s u} {x0 x1 x2 x3} (h : Only ws s u) (k : [Part.net, .stack, .wear, .host] ⊆ ws) :
    OnlyOpt ws s (reserveDesc x0 x1 x2 x3 u) :=
  onlyOpt_mono (reserveDesc_core _ _ _ _ _) k h
theorem takeDesc_core : ∀ x0 s, Only [.host] s (takeDesc x0 s) := by
  intro x0 s
  unfold takeDesc
  try dsimp only
  repeat (first
    | with_reducible exact Only.refl _ _
    | with_reducible assumption
    | split
    | with_reducible apply modTx_only (k := by decide)
    | dsimp only)
theorem takeDesc_only {ws s u} {x0} (h : Only ws s u) (k : [Part.host] ⊆ ws) :
    Only ws s (takeDesc x0 u) :=
  h.step (takeDesc_core _ _) k
theorem dropOversize_core : ∀ x0 x1 x2 s, Only [.net, .host] s (dropOversize x0 x1 x2 s) := by
  intro x0 x1 x2 s
  induction x2 generalizing s with
  | zero => exact .refl _ _
  | succ n ih =>
    unfold dropOversize
    dsimp only
    split
    · split
      · refine Only.trans ?_ (ih _)
        exact hostDrop_only (modQ_only (freshNat_only (.refl _ _) (by decide)) (by decide)) (by decide)
      · exact .refl _ _
    · exact .refl _ _
theorem dropOversize_only {ws s u} {x0 x1 x2} (h : Only ws s u) (k : [Part.net, .host] ⊆ ws) :
    Only ws s (dropOversize x0 x1 x2 u) :=
  h.step (dropOversize_core _ _ _ _) k
theorem dropHeads_core : ∀ x0 s, Only [.net, .host] s (dropHeads x0 s) := by
  intro x0 s
  unfold dropHeads
  try dsimp only
  repeat (first
    | with_reducible exact Only.refl _ _
    | with_reducible assumption
    | split
    | with_reducible apply dropOversize_only (k := by decide)
    | (with_reducible refine Only.each ?_ (fun _ _ => ?_))
    | dsimp only)
theorem dropHeads_only {ws s u} {x0} (h : Only ws s u) (k : [Part.net, .host] ⊆ ws) :
    Only ws s (dropHeads x0 u) :=
  h.step (dropHeads_core _ _) k
theorem passTurn_core : ∀ x0 x1 x2 s, Only [.net] s (passTurn x0 x1 x2 s) := by
  intro x0 x1 x2 s
  unfold passTurn
  try dsimp only
  repeat (first
    | with_reducible exact Only.refl _ _
    | with_reducible assumption
    | split
    | with_reducible apply setRound_only (k := by decide)
    | dsimp only)
theorem passTurn_only {ws s u} {x0 x1 x2} (h : Only ws s u) (k : [Part.net] ⊆ ws) :
    Only ws s (passTurn x0 x1 x2 u) :=
  h.step (passTurn_core _ _ _ _) k
theorem startFrame_core : ∀ x0 x1 x2 x3 s, Only [.net] s (startFrame x0 x1 x2 x3 s) := by
  intro x0 x1 x2 x3 s
  unfold startFrame
  try dsimp only
  repeat (first
    | with_reducible exact Only.refl _ _
    | with_reducible assumption
    | split
    | with_reducible apply modMac_only (k := by decide)
    | with_reducible apply modQ_only (k := by decide)
    | with_reducible apply passTurn_only (k := by decide)
    | with_reducible apply countSent_only (k := by decide)
    | dsimp only)
theorem startFrame_only {ws s u} {x0 x1 x2 x3} (h : Only ws s u) (k : [Part.net] ⊆ ws) :
    Only ws s (startFrame x0 x1 x2 x3 u) :=
  h.step (startFrame_core _ _ _ _ _) k
theorem noteSent_core : ∀ x0 x1 s, Only [.net] s (noteSent x0 x1 s) := by
  intro x0 x1 s
  unfold noteSent
  try dsimp only
  repeat (first
    | with_reducible exact Only.refl _ _
    | with_reducible assumption
    | split
    | with_reducible apply modPtp_only (k := by decide)
    | dsimp only)
theorem noteSent_only {ws s u} {x0 x1} (h : Only ws s u) (k : [Part.net] ⊆ ws) :
    Only ws s (noteSent x0 x1 u) :=
  h.step (noteSent_core _ _ _) k
theorem streamStamp_core : ∀ x0 x1 x2 x3 s, Only [.nib, .host] s (streamStamp x0 x1 x2 x3 s) := by
  intro x0 x1 x2 x3 s
  unfold streamStamp
  try dsimp only
  repeat (first
    | with_reducible exact Only.refl _ _
    | with_reducible assumption
    | split
    | with_reducible apply modNib_only (k := by decide)
    | with_reducible apply modHost_only (k := by decide)
    | with_reducible apply enqueue_only (k := by decide)
    | dsimp only)
theorem streamStamp_only {ws s u} {x0 x1 x2 x3} (h : Only ws s u) (k : [Part.nib, .host] ⊆ ws) :
    Only ws s (streamStamp x0 x1 x2 x3 u) :=
  h.step (streamStamp_core _ _ _ _ _) k
theorem pairEdges_core : ∀ x0 x1 x2 x3 s, Only [.nib, .host] s (pairEdges x0 x1 x2 x3 s) := by
  intro x0 x1 x2 x3 s
  unfold pairEdges
  try dsimp only
  repeat (first
    | with_reducible exact Only.refl _ _
    | with_reducible assumption
    | split
    | with_reducible apply pairEdge_only (k := by decide)
    | (with_reducible refine Only.each ?_ (fun _ _ => ?_))
    | dsimp only)
theorem pairEdges_only {ws s u} {x0 x1 x2 x3} (h : Only ws s u) (k : [Part.nib, .host] ⊆ ws) :
    Only ws s (pairEdges x0 x1 x2 x3 u) :=
  h.step (pairEdges_core _ _ _ _ _) k
theorem gateEdge_core : ∀ x0 x1 x2 s, Only [.nib] s (gateEdge x0 x1 x2 s) := by
  intro x0 x1 x2 s
  unfold gateEdge
  try dsimp only
  repeat (first
    | with_reducible exact Only.refl _ _
    | with_reducible assumption
    | split
    | with_reducible apply modNib_only (k := by decide)
    | dsimp only)
theorem gateEdge_only {ws s u} {x0 x1 x2} (h : Only ws s u) (k : [Part.nib] ⊆ ws) :
    Only ws s (gateEdge x0 x1 x2 u) :=
  h.step (gateEdge_core _ _ _ _) k
theorem retireTap_core : ∀ x0 x1 x2 s, Only [.nib, .wear, .host] s (retireTap x0 x1 x2 s) := by
  intro x0 x1 x2 s
  unfold retireTap
  try dsimp only
  repeat (first
    | with_reducible exact Only.refl _ _
    | with_reducible assumption
    | split
    | with_reducible apply modNib_only (k := by decide)
    | with_reducible apply raise_only (k := by decide)
    | with_reducible apply ledger_only (k := by decide)
    | dsimp only)
theorem retireTap_only {ws s u} {x0 x1 x2} (h : Only ws s u) (k : [Part.nib, .wear, .host] ⊆ ws) :
    Only ws s (retireTap x0 x1 x2 u) :=
  h.step (retireTap_core _ _ _ _) k
theorem applyMode_core : ∀ x0 s, Only [.net] s (applyMode x0 s) := by
  intro x0 s
  unfold applyMode
  try dsimp only
  repeat (first
    | with_reducible exact Only.refl _ _
    | with_reducible assumption
    | split
    | with_reducible apply modNet_only (k := by decide)
    | dsimp only)
theorem applyMode_only {ws s u} {x0} (h : Only ws s u) (k : [Part.net] ⊆ ws) :
    Only ws s (applyMode x0 u) :=
  h.step (applyMode_core _ _) k
theorem followEnable_core : ∀ x0 s, Only [.net, .host] s (followEnable x0 s) := by
  intro x0 s
  unfold followEnable
  try dsimp only
  repeat (first
    | with_reducible exact Only.refl _ _
    | with_reducible assumption
    | split
    | with_reducible apply modMac_only (k := by decide)
    | with_reducible apply leaveUp_only (k := by decide)
    | dsimp only)
theorem followEnable_only {ws s u} {x0} (h : Only ws s u) (k : [Part.net, .host] ⊆ ws) :
    Only ws s (followEnable x0 u) :=
  h.step (followEnable_core _ _) k
theorem fixWindow_core : ∀ x0 x1 x2 x3 s, Only [.net] s (fixWindow x0 x1 x2 x3 s) := by
  intro x0 x1 x2 x3 s
  unfold fixWindow
  try dsimp only
  repeat (first
    | with_reducible exact Only.refl _ _
    | with_reducible assumption
    | split
    | with_reducible apply modMac_only (k := by decide)
    | dsimp only)
theorem fixWindow_only {ws s u} {x0 x1 x2 x3} (h : Only ws s u) (k : [Part.net] ⊆ ws) :
    Only ws s (fixWindow x0 x1 x2 x3 u) :=
  h.step (fixWindow_core _ _ _ _ _) k
theorem pfcClasses_core : ∀ x0 x1 s, Only [.net] s (pfcClasses x0 x1 s) := by
  intro x0 x1 s
  unfold pfcClasses
  try dsimp only
  repeat (first
    | with_reducible exact Only.refl _ _
    | with_reducible assumption
    | split
    | with_reducible apply fixWindow_only (k := by decide)
    | with_reducible apply countMac_only (k := by decide)
    | (with_reducible refine Only.each ?_ (fun _ _ => ?_))
    | dsimp only)
theorem pfcClasses_only {ws s u} {x0 x1} (h : Only ws s u) (k : [Part.net] ⊆ ws) :
    Only ws s (pfcClasses x0 x1 u) :=
  h.step (pfcClasses_core _ _ _) k
theorem takePause_core : ∀ x0 x1 s, Only [.net, .host] s (takePause x0 x1 s) := by
  intro x0 x1 s
  unfold takePause
  try dsimp only
  repeat (first
    | with_reducible exact Only.refl _ _
    | with_reducible assumption
    | split
    | with_reducible apply raise_only (k := by decide)
    | with_reducible apply countMac_only (k := by decide)
    | with_reducible apply fixWindow_only (k := by decide)
    | with_reducible apply pfcClasses_only (k := by decide)
    | dsimp only)
theorem takePause_only {ws s u} {x0 x1} (h : Only ws s u) (k : [Part.net, .host] ⊆ ws) :
    Only ws s (takePause x0 x1 u) :=
  h.step (takePause_core _ _ _) k
theorem sweepPaused_core : ∀ x0 s, Only [.net, .stack, .host] s (sweepPaused x0 s) := by
  intro x0 s
  unfold sweepPaused
  try dsimp only
  repeat (first
    | with_reducible exact Only.refl _ _
    | with_reducible assumption
    | split
    | with_reducible apply missSlot_only (k := by decide)
    | (with_reducible refine Only.each ?_ (fun _ _ => ?_))
    | dsimp only)
theorem sweepPaused_only {ws s u} {x0} (h : Only ws s u) (k : [Part.net, .stack, .host] ⊆ ws) :
    Only ws s (sweepPaused x0 u) :=
  h.step (sweepPaused_core _ _) k
theorem changeRule_core : ∀ x0 s, Only [.power, .net, .host] s (changeRule x0 s) := by
  intro x0 s
  unfold changeRule
  try dsimp only
  repeat (first
    | with_reducible exact Only.refl _ _
    | with_reducible assumption
    | split
    | with_reducible apply modPower_only (k := by decide)
    | with_reducible apply judgePace_only (k := by decide)
    | with_reducible apply settleBuckets_only (k := by decide)
    | dsimp only)
theorem changeRule_only {ws s u} {x0} (h : Only ws s u) (k : [Part.power, .net, .host] ⊆ ws) :
    Only ws s (changeRule x0 u) :=
  h.step (changeRule_core _ _) k
theorem beginChange_core : ∀ x0 x1 x2 s, Only [.power, .net, .wear, .host] s (beginChange x0 x1 x2 s) := by
  intro x0 x1 x2 s
  unfold beginChange
  try dsimp only
  repeat (first
    | with_reducible exact Only.refl _ _
    | with_reducible assumption
    | split
    | with_reducible apply modWear_only (k := by decide)
    | with_reducible apply changeRule_only (k := by decide)
    | dsimp only)
theorem beginChange_only {ws s u} {x0 x1 x2} (h : Only ws s u) (k : [Part.power, .net, .wear, .host] ⊆ ws) :
    Only ws s (beginChange x0 x1 x2 u) :=
  h.step (beginChange_core _ _ _ _) k
theorem endChange_core : ∀ x0 x1 s, Only [.power, .net, .wear, .host] s (endChange x0 x1 s) := by
  intro x0 x1 s
  unfold endChange
  try dsimp only
  repeat (first
    | with_reducible exact Only.refl _ _
    | with_reducible assumption
    | split
    | with_reducible apply modWear_only (k := by decide)
    | with_reducible apply changeRule_only (k := by decide)
    | with_reducible apply raise_only (k := by decide)
    | with_reducible apply completeCmd_only (k := by decide)
    | dsimp only)
theorem endChange_only {ws s u} {x0 x1} (h : Only ws s u) (k : [Part.power, .net, .wear, .host] ⊆ ws) :
    Only ws s (endChange x0 x1 u) :=
  h.step (endChange_core _ _ _) k
theorem rxDeliver_core : ∀ x0 x1 x2 x3 s, Only [.host] s (rxDeliver x0 x1 x2 x3 s) := by
  intro x0 x1 x2 x3 s
  unfold rxDeliver
  try dsimp only
  repeat (first
    | with_reducible exact Only.refl _ _
    | with_reducible assumption
    | split
    | with_reducible apply modHost_only (k := by decide)
    | with_reducible apply modRx_only (k := by decide)
    | with_reducible apply signalVector_only (k := by decide)
    | dsimp only)
theorem rxDeliver_only {ws s u} {x0 x1 x2 x3} (h : Only ws s u) (k : [Part.host] ⊆ ws) :
    Only ws s (rxDeliver x0 x1 x2 x3 u) :=
  h.step (rxDeliver_core _ _ _ _ _) k
theorem rxHost_core : ∀ x0 x1 s, Only [.net, .host] s (rxHost x0 x1 s) := by
  intro x0 x1 s
  unfold rxHost
  try dsimp only
  repeat (first
    | with_reducible exact Only.refl _ _
    | with_reducible assumption
    | split
    | with_reducible apply dropFrame_only (k := by decide)
    | with_reducible apply rxDeliver_only (k := by decide)
    | dsimp only)
theorem rxHost_only {ws s u} {x0 x1} (h : Only ws s u) (k : [Part.net, .host] ⊆ ws) :
    Only ws s (rxHost x0 x1 u) :=
  h.step (rxHost_core _ _ _) k
theorem rxService_core : ∀ x0 x1 x2 x3 s, Only [.net, .wear, .host] s (rxService x0 x1 x2 x3 s) := by
  intro x0 x1 x2 x3 s
  unfold rxService
  try dsimp only
  repeat (first
    | with_reducible exact Only.refl _ _
    | with_reducible assumption
    | split
    | with_reducible apply dropFrame_only (k := by decide)
    | with_reducible apply ntsRequest_only (k := by decide)
    | with_reducible apply ptpRequest_only (k := by decide)
    | dsimp only)
theorem rxService_only {ws s u} {x0 x1 x2 x3} (h : Only ws s u) (k : [Part.net, .wear, .host] ⊆ ws) :
    Only ws s (rxService x0 x1 x2 x3 u) :=
  h.step (rxService_core _ _ _ _ _) k
theorem submit_core : ∀ x0 x1 s, Only [.host] s (submit x0 x1 s) := by
  intro x0 x1 s
  unfold submit
  try dsimp only
  repeat (first
    | with_reducible exact Only.refl _ _
    | with_reducible assumption
    | split
    | with_reducible apply setBehind_only (k := by decide)
    | with_reducible apply takeUp_only (k := by decide)
    | with_reducible apply setHand_only (k := by decide)
    | dsimp only)
theorem submit_only {ws s u} {x0 x1} (h : Only ws s u) (k : [Part.host] ⊆ ws) :
    Only ws s (submit x0 x1 u) :=
  h.step (submit_core _ _ _) k
theorem mailboxGo_core : ∀ x0 s, Only [.host] s (mailboxGo x0 s) := by
  intro x0 s
  unfold mailboxGo
  try dsimp only
  repeat (first
    | with_reducible exact Only.refl _ _
    | with_reducible assumption
    | split
    | with_reducible apply modBox_only (k := by decide)
    | with_reducible apply submit_only (k := by decide)
    | dsimp only)
theorem mailboxGo_only {ws s u} {x0} (h : Only ws s u) (k : [Part.host] ⊆ ws) :
    Only ws s (mailboxGo x0 u) :=
  h.step (mailboxGo_core _ _) k
theorem emergencyGo_core : ∀ x0 s, Only [.host] s (emergencyGo x0 s) := by
  intro x0 s
  unfold emergencyGo
  try dsimp only
  repeat (first
    | with_reducible exact Only.refl _ _
    | with_reducible assumption
    | split
    | with_reducible apply modEm_only (k := by decide)
    | with_reducible apply submit_only (k := by decide)
    | dsimp only)
theorem emergencyGo_only {ws s u} {x0} (h : Only ws s u) (k : [Part.host] ⊆ ws) :
    Only ws s (emergencyGo x0 u) :=
  h.step (emergencyGo_core _ _) k
theorem claimEm_core : ∀ x0 s, Only [.host] s (claimEm x0 s) := by
  intro x0 s
  unfold claimEm
  try dsimp only
  repeat (first
    | with_reducible exact Only.refl _ _
    | with_reducible assumption
    | split
    | with_reducible apply modHost_only (k := by decide)
    | dsimp only)
theorem claimEm_only {ws s u} {x0} (h : Only ws s u) (k : [Part.host] ⊆ ws) :
    Only ws s (claimEm x0 u) :=
  h.step (claimEm_core _ _) k
theorem loseEm_core : ∀ s, Only [.host] s (loseEm s) := by
  intro s
  unfold loseEm
  try dsimp only
  repeat (first
    | with_reducible exact Only.refl _ _
    | with_reducible assumption
    | split
    | with_reducible apply modHost_only (k := by decide)
    | dsimp only)
theorem loseEm_only {ws s u} (h : Only ws s u) (k : [Part.host] ⊆ ws) :
    Only ws s (loseEm u) :=
  h.step (loseEm_core _) k
theorem releaseEm_core : ∀ x0 s, Only [.host] s (releaseEm x0 s) := by
  intro x0 s
  unfold releaseEm
  try dsimp only
  repeat (first
    | with_reducible exact Only.refl _ _
    | with_reducible assumption
    | split
    | with_reducible apply loseEm_only (k := by decide)
    | dsimp only)
theorem releaseEm_only {ws s u} {x0} (h : Only ws s u) (k : [Part.host] ⊆ ws) :
    Only ws s (releaseEm x0 u) :=
  h.step (releaseEm_core _ _) k
theorem lockAdmin_core : ∀ s, Only [.host] s (lockAdmin s) := by
  intro s
  unfold lockAdmin
  try dsimp only
  repeat (first
    | with_reducible exact Only.refl _ _
    | with_reducible assumption
    | split
    | with_reducible apply modHost_only (k := by decide)
    | dsimp only)
theorem lockAdmin_only {ws s u} (h : Only ws s u) (k : [Part.host] ⊆ ws) :
    Only ws s (lockAdmin u) :=
  h.step (lockAdmin_core _) k
theorem unmask_core : ∀ x0 x1 s, Only [.host] s (unmask x0 x1 s) := by
  intro x0 x1 s
  unfold unmask
  try dsimp only
  repeat (first
    | with_reducible exact Only.refl _ _
    | with_reducible assumption
    | split
    | with_reducible apply signalVector_only (k := by decide)
    | (with_reducible refine Only.each ?_ (fun _ _ => ?_))
    | dsimp only)
theorem unmask_only {ws s u} {x0 x1} (h : Only ws s u) (k : [Part.host] ⊆ ws) :
    Only ws s (unmask x0 x1 u) :=
  h.step (unmask_core _ _ _) k
theorem writeInterrupt_core : ∀ x0 x1 x2 s, Only [.host] s (writeInterrupt x0 x1 x2 s) := by
  intro x0 x1 x2 s
  unfold writeInterrupt
  try dsimp only
  repeat (first
    | with_reducible exact Only.refl _ _
    | with_reducible assumption
    | split
    | with_reducible apply modHost_only (k := by decide)
    | with_reducible apply unmask_only (k := by decide)
    | with_reducible apply lockAdmin_only (k := by decide)
    | dsimp only)
theorem writeInterrupt_only {ws s u} {x0 x1 x2} (h : Only ws s u) (k : [Part.host] ⊆ ws) :
    Only ws s (writeInterrupt x0 x1 x2 u) :=
  h.step (writeInterrupt_core _ _ _ _) k
theorem writeMailboxes_core : ∀ x0 x1 x2 s, Only [.host] s (writeMailboxes x0 x1 x2 s) := by
  intro x0 x1 x2 s
  unfold writeMailboxes
  try dsimp only
  repeat (first
    | with_reducible exact Only.refl _ _
    | with_reducible assumption
    | split
    | with_reducible apply mailboxGo_only (k := by decide)
    | with_reducible apply modBox_only (k := by decide)
    | dsimp only)
theorem writeMailboxes_only {ws s u} {x0 x1 x2} (h : Only ws s u) (k : [Part.host] ⊆ ws) :
    Only ws s (writeMailboxes x0 x1 x2 u) :=
  h.step (writeMailboxes_core _ _ _ _) k
theorem writeEmergency_core : ∀ x0 x1 x2 x3 s, Only [.host] s (writeEmergency x0 x1 x2 x3 s) := by
  intro x0 x1 x2 x3 s
  unfold writeEmergency
  try dsimp only
  repeat (first
    | with_reducible exact Only.refl _ _
    | with_reducible assumption
    | split
    | with_reducible apply emergencyGo_only (k := by decide)
    | with_reducible apply modEm_only (k := by decide)
    | with_reducible apply claimEm_only (k := by decide)
    | with_reducible apply releaseEm_only (k := by decide)
    | dsimp only)
theorem writeEmergency_only {ws s u} {x0 x1 x2 x3} (h : Only ws s u) (k : [Part.host] ⊆ ws) :
    Only ws s (writeEmergency x0 x1 x2 x3 u) :=
  h.step (writeEmergency_core _ _ _ _ _) k
theorem writeDataPort_core : ∀ x0 x1 x2 x3 s, Only [.net, .stack, .wear, .host] s (writeDataPort x0 x1 x2 x3 s) := by
  intro x0 x1 x2 x3 s
  unfold writeDataPort
  try dsimp only
  repeat (first
    | with_reducible exact Only.refl _ _
    | with_reducible assumption
    | split
    | with_reducible apply modHost_only (k := by decide)
    | with_reducible apply writeDpData_only (k := by decide)
    | with_reducible apply writeDmaCtrl_only (k := by decide)
    | with_reducible apply writeInject_only (k := by decide)
    | dsimp only)
theorem writeDataPort_only {ws s u} {x0 x1 x2 x3} (h : Only ws s u) (k : [Part.net, .stack, .wear, .host] ⊆ ws) :
    Only ws s (writeDataPort x0 x1 x2 x3 u) :=
  h.step (writeDataPort_core _ _ _ _ _) k
theorem writeQueue_core : ∀ x0 x1 x2 x3 s, Only [.host] s (writeQueue x0 x1 x2 x3 s) := by
  intro x0 x1 x2 x3 s
  unfold writeQueue
  try dsimp only
  repeat (first
    | with_reducible exact Only.refl _ _
    | with_reducible assumption
    | split
    | with_reducible apply modQueue_only (k := by decide)
    | with_reducible apply flushQueue_only (k := by decide)
    | with_reducible apply writeConsumer_only (k := by decide)
    | dsimp only)
theorem writeQueue_only {ws s u} {x0 x1 x2 x3} (h : Only ws s u) (k : [Part.host] ⊆ ws) :
    Only ws s (writeQueue x0 x1 x2 x3 u) :=
  h.step (writeQueue_core _ _ _ _ _) k
theorem modRing_core : ∀ x0 x1 x2 s, Only [.host] s (modRing x0 x1 x2 s) := by
  intro x0 x1 x2 s
  unfold modRing
  try dsimp only
  repeat (first
    | with_reducible exact Only.refl _ _
    | with_reducible assumption
    | split
    | with_reducible apply modTx_only (k := by decide)
    | with_reducible apply modRx_only (k := by decide)
    | dsimp only)
theorem modRing_only {ws s u} {x0 x1 x2} (h : Only ws s u) (k : [Part.host] ⊆ ws) :
    Only ws s (modRing x0 x1 x2 u) :=
  h.step (modRing_core _ _ _ _) k
theorem writeRingCtrl_core : ∀ x0 x1 x2 s, Only [.host] s (writeRingCtrl x0 x1 x2 s) := by
  intro x0 x1 x2 s
  unfold writeRingCtrl
  try dsimp only
  repeat (first
    | with_reducible exact Only.refl _ _
    | with_reducible assumption
    | split
    | with_reducible apply modRing_only (k := by decide)
    | dsimp only)
theorem writeRingCtrl_only {ws s u} {x0 x1 x2} (h : Only ws s u) (k : [Part.host] ⊆ ws) :
    Only ws s (writeRingCtrl x0 x1 x2 u) :=
  h.step (writeRingCtrl_core _ _ _ _) k
theorem writeTail_core : ∀ x0 x1 x2 s, Only [.host] s (writeTail x0 x1 x2 s) := by
  intro x0 x1 x2 s
  unfold writeTail
  try dsimp only
  repeat (first
    | with_reducible exact Only.refl _ _
    | with_reducible assumption
    | split
    | with_reducible apply modRing_only (k := by decide)
    | dsimp only)
theorem writeTail_only {ws s u} {x0 x1 x2} (h : Only ws s u) (k : [Part.host] ⊆ ws) :
    Only ws s (writeTail x0 x1 x2 u) :=
  h.step (writeTail_core _ _ _ _) k
theorem writeRing_core : ∀ x0 x1 x2 x3 x4 s, Only [.host] s (writeRing x0 x1 x2 x3 x4 s) := by
  intro x0 x1 x2 x3 x4 s
  unfold writeRing
  try dsimp only
  repeat (first
    | with_reducible exact Only.refl _ _
    | with_reducible assumption
    | split
    | with_reducible apply modRing_only (k := by decide)
    | with_reducible apply writeRingCtrl_only (k := by decide)
    | with_reducible apply writeTail_only (k := by decide)
    | dsimp only)
theorem writeRing_only {ws s u} {x0 x1 x2 x3 x4} (h : Only ws s u) (k : [Part.host] ⊆ ws) :
    Only ws s (writeRing x0 x1 x2 x3 x4 u) :=
  h.step (writeRing_core _ _ _ _ _ _) k
theorem regWrite_core : ∀ x0 x1 x2 x3 s, Only [.net, .stack, .wear, .host] s (regWrite x0 x1 x2 x3 s) := by
  intro x0 x1 x2 x3 s
  unfold regWrite
  try dsimp only
  repeat (first
    | with_reducible exact Only.refl _ _
    | with_reducible assumption
    | split
    | with_reducible apply modHost_only (k := by decide)
    | with_reducible apply writeInterrupt_only (k := by decide)
    | with_reducible apply writeMailboxes_only (k := by decide)
    | with_reducible apply writeEmergency_only (k := by decide)
    | with_reducible apply writeDataPort_only (k := by decide)
    | with_reducible apply writeQueue_only (k := by decide)
    | with_reducible apply writeRing_only (k := by decide)
    | dsimp only)
theorem regWrite_only {ws s u} {x0 x1 x2 x3} (h : Only ws s u) (k : [Part.net, .stack, .wear, .host] ⊆ ws) :
    Only ws s (regWrite x0 x1 x2 x3 u) :=
  h.step (regWrite_core _ _ _ _ _) k
theorem readWord_core : ∀ x0 s, Only [.host] s (readWord x0 s).2 := by
  intro x0 s
  unfold readWord
  try dsimp only
  repeat (first
    | with_reducible exact Only.refl _ _
    | with_reducible assumption
    | split
    | (with_reducible refine Only.pair ?_ (by assumption); apply readDpData_only (k := by decide))
    | with_reducible apply readDpData_only (k := by decide)
    | with_reducible apply popQueue_only (k := by decide)
    | dsimp only)
theorem readWord_only {ws s u} {x0} (h : Only ws s u) (k : [Part.host] ⊆ ws) :
    Only ws s (readWord x0 u).2 :=
  h.step (readWord_core _ _) k
theorem spiReads_core : ∀ x0 x1 s, Only [.host] s (spiReads x0 x1 s).2 := by
  intro x0 x1 s
  induction x0 generalizing x1 s with
  | zero => exact .refl _ _
  | succ n ih =>
    unfold spiReads
    have h : Only [.host] s (if spiReach x1 = true ∧ ¬(16408 ≤ x1 ∧ x1 < 16432) then readWord x1 s else (0, s)).2 := by
      split
      · exact readWord_core _ _
      · exact .refl _ _
    exact h.trans (ih _ _)
theorem spiReads_only {ws s u} {x0 x1} (h : Only ws s u) (k : [Part.host] ⊆ ws) :
    Only ws s (spiReads x0 x1 u).2 :=
  h.step (spiReads_core _ _ _) k
theorem spiWrites_core : ∀ x0 x1 s, Only [.net, .stack, .wear, .host] s (spiWrites x0 x1 s) := by
  intro x0 x1 s
  induction x1 generalizing x0 s with
  | nil => exact .refl _ _
  | cons v vs ih =>
    unfold spiWrites
    split
    · exact (regWrite_only (.refl _ _) (by decide) : Only [Part.net, Part.stack, Part.wear, Part.host] _ _).trans (ih _ _)
    · exact ih _ _
theorem spiWrites_only {ws s u} {x0 x1} (h : Only ws s u) (k : [Part.net, .stack, .wear, .host] ⊆ ws) :
    Only ws s (spiWrites x0 x1 u) :=
  h.step (spiWrites_core _ _ _) k
theorem hostReset_core : ∀ s, Only [.net, .host] s (hostReset s) := by
  intro s
  unfold hostReset
  try dsimp only
  repeat (first
    | with_reducible exact Only.refl _ _
    | with_reducible assumption
    | split
    | with_reducible apply modHost_only (k := by decide)
    | with_reducible apply modNet_only (k := by decide)
    | dsimp only)
theorem hostReset_only {ws s u} (h : Only ws s u) (k : [Part.net, .host] ⊆ ws) :
    Only ws s (hostReset u) :=
  h.step (hostReset_core _) k
theorem dropTaken_core : ∀ s, Only [.clock, .sel, .ductus, .margin, .gnss, .net, .keys] s (dropTaken s) := by
  intro s
  unfold dropTaken
  try dsimp only
  repeat (first
    | with_reducible exact Only.refl _ _
    | with_reducible assumption
    | split
    | with_reducible apply modSel_only (k := by decide)
    | with_reducible apply modDuctus_only (k := by decide)
    | with_reducible apply modMargin_only (k := by decide)
    | with_reducible apply modClock_only (k := by decide)
    | with_reducible apply modNts_only (k := by decide)
    | with_reducible apply modGnss_only (k := by decide)
    | with_reducible apply modKeys_only (k := by decide)
    | dsimp only)
theorem dropTaken_only {ws s u} (h : Only ws s u) (k : [Part.clock, .sel, .ductus, .margin, .gnss, .net, .keys] ⊆ ws) :
    Only ws s (dropTaken u) :=
  h.step (dropTaken_core _) k
theorem beginRestart_core : ∀ s, Only [.power, .clock, .sel, .ductus, .margin, .synth, .nib, .gnss, .net, .keys, .stack, .host] s (beginRestart s) := by
  intro s
  unfold beginRestart
  try dsimp only
  repeat (first
    | with_reducible exact Only.refl _ _
    | with_reducible assumption
    | split
    | with_reducible apply modHost_only (k := by decide)
    | with_reducible apply dropTaken_only (k := by decide)
    | with_reducible apply stopRunning_only (k := by decide)
    | dsimp only)
theorem beginRestart_only {ws s u} (h : Only ws s u) (k : [Part.power, .clock, .sel, .ductus, .margin, .synth, .nib, .gnss, .net, .keys, .stack, .host] ⊆ ws) :
    Only ws s (beginRestart u) :=
  h.step (beginRestart_core _) k
theorem resetRegions_core : ∀ x0 s, Only [.clock, .ductus, .gnss] s (resetRegions x0 s) := by
  intro x0 s
  unfold resetRegions
  try dsimp only
  repeat (first
    | with_reducible exact Only.refl _ _
    | with_reducible assumption
    | split
    | with_reducible apply modGnss_only (k := by decide)
    | with_reducible apply modDuctus_only (k := by decide)
    | with_reducible apply modClock_only (k := by decide)
    | dsimp only)
theorem resetRegions_only {ws s u} {x0} (h : Only ws s u) (k : [Part.clock, .ductus, .gnss] ⊆ ws) :
    Only ws s (resetRegions x0 u) :=
  h.step (resetRegions_core _ _) k
theorem takeHeld_core : ∀ s, Only [.host] s (takeHeld s) := by
  intro s
  unfold takeHeld
  try dsimp only
  repeat (first
    | with_reducible exact Only.refl _ _
    | with_reducible assumption
    | split
    | with_reducible apply takeUp_only (k := by decide)
    | (with_reducible refine Only.each ?_ (fun _ _ => ?_))
    | dsimp only)
theorem takeHeld_only {ws s u} (h : Only ws s u) (k : [Part.host] ⊆ ws) :
    Only ws s (takeHeld u) :=
  h.step (takeHeld_core _) k
theorem modFw_core : ∀ x0 x1 s, Only [.keys] s (modFw x0 x1 s) := by
  intro x0 x1 s
  unfold modFw
  try dsimp only
  repeat (first
    | with_reducible exact Only.refl _ _
    | with_reducible assumption
    | split
    | with_reducible apply modKeys_only (k := by decide)
    | dsimp only)
theorem modFw_only {ws s u} {x0 x1} (h : Only ws s u) (k : [Part.keys] ⊆ ws) :
    Only ws s (modFw x0 x1 u) :=
  h.step (modFw_core _ _ _) k
theorem bootStraps_core : ∀ x0 s, Only [.power, .refs, .keys] s (bootStraps x0 s) := by
  intro x0 s
  unfold bootStraps
  try dsimp only
  repeat (first
    | with_reducible exact Only.refl _ _
    | with_reducible assumption
    | split
    | with_reducible apply modPower_only (k := by decide)
    | with_reducible apply modRef_only (k := by decide)
    | with_reducible apply modKeys_only (k := by decide)
    | dsimp only)
theorem bootStraps_only {ws s u} {x0} (h : Only ws s u) (k : [Part.power, .refs, .keys] ⊆ ws) :
    Only ws s (bootStraps x0 u) :=
  h.step (bootStraps_core _ _) k
theorem settleCells_core : ∀ s, Only [.keys] s (settleCells s) := by
  intro s
  unfold settleCells
  try dsimp only
  repeat (first
    | with_reducible exact Only.refl _ _
    | with_reducible assumption
    | split
    | with_reducible apply modKeys_only (k := by decide)
    | dsimp only)
theorem settleCells_only {ws s u} (h : Only ws s u) (k : [Part.keys] ⊆ ws) :
    Only ws s (settleCells u) :=
  h.step (settleCells_core _) k
theorem settleWipe_core : ∀ s, Only [.keys, .host] s (settleWipe s) := by
  intro s
  unfold settleWipe
  try dsimp only
  repeat (first
    | with_reducible exact Only.refl _ _
    | with_reducible assumption
    | split
    | with_reducible apply modKeys_only (k := by decide)
    | with_reducible apply eraseBanks_only (k := by decide)
    | (with_reducible refine Only.pair ?_ (by assumption); apply freshNat_only (k := by decide))
    | with_reducible apply freshNat_only (k := by decide)
    | with_reducible apply raise_only (k := by decide)
    | dsimp only)
theorem settleWipe_only {ws s u} (h : Only ws s u) (k : [Part.keys, .host] ⊆ ws) :
    Only ws s (settleWipe u) :=
  h.step (settleWipe_core _) k
theorem settleTampers_core : ∀ s, Only [.keys, .host] s (settleTampers s) := by
  intro s
  unfold settleTampers
  try dsimp only
  repeat (first
    | with_reducible exact Only.refl _ _
    | with_reducible assumption
    | split
    | with_reducible apply modKeys_only (k := by decide)
    | with_reducible apply recordLatched_only (k := by decide)
    | dsimp only)
theorem settleTampers_only {ws s u} (h : Only ws s u) (k : [Part.keys, .host] ⊆ ws) :
    Only ws s (settleTampers u) :=
  h.step (settleTampers_core _) k
theorem bootLife_core : ∀ x0 s, Only [.keys, .host] s (bootLife x0 s) := by
  intro x0 s
  unfold bootLife
  try dsimp only
  repeat (first
    | with_reducible exact Only.refl _ _
    | with_reducible assumption
    | split
    | with_reducible apply settleCells_only (k := by decide)
    | with_reducible apply settleWipe_only (k := by decide)
    | with_reducible apply settleTampers_only (k := by decide)
    | with_reducible apply latchTamper_only (k := by decide)
    | dsimp only)
theorem bootLife_only {ws s u} {x0} (h : Only ws s u) (k : [Part.keys, .host] ⊆ ws) :
    Only ws s (bootLife x0 u) :=
  h.step (bootLife_core _ _) k
theorem failTrial_core : ∀ s, Only [.keys, .host] s (failTrial s) := by
  intro s
  unfold failTrial
  try dsimp only
  repeat (first
    | with_reducible exact Only.refl _ _
    | with_reducible assumption
    | split
    | with_reducible apply modKeys_only (k := by decide)
    | with_reducible apply raise_only (k := by decide)
    | with_reducible apply modFw_only (k := by decide)
    | (with_reducible refine Only.each ?_ (fun _ _ => ?_))
    | dsimp only)
theorem failTrial_only {ws s u} (h : Only ws s u) (k : [Part.keys, .host] ⊆ ws) :
    Only ws s (failTrial u) :=
  h.step (failTrial_core _) k
theorem judgeSlots_core : ∀ x0 s, Only [.keys] s (judgeSlots x0 s) := by
  intro x0 s
  unfold judgeSlots
  try dsimp only
  repeat (first
    | with_reducible exact Only.refl _ _
    | with_reducible assumption
    | split
    | with_reducible apply modFw_only (k := by decide)
    | (with_reducible refine Only.each ?_ (fun _ _ => ?_))
    | dsimp only)
theorem judgeSlots_only {ws s u} {x0} (h : Only ws s u) (k : [Part.keys] ⊆ ws) :
    Only ws s (judgeSlots x0 u) :=
  h.step (judgeSlots_core _ _) k
theorem chooseImage_core : ∀ s, Only [.host] s (chooseImage s).2 := by
  intro s
  unfold chooseImage
  try dsimp only
  repeat (first
    | with_reducible exact Only.refl _ _
    | with_reducible assumption
    | split
    | (with_reducible refine Only.pair ?_ (by assumption); apply freshChoice_only (k := by decide))
    | with_reducible apply freshChoice_only (k := by decide)
    | dsimp only)
theorem chooseImage_only {ws s u} (h : Only ws s u) (k : [Part.host] ⊆ ws) :
    Only ws s (chooseImage u).2 :=
  h.step (chooseImage_core _) k
theorem restoreSlot_core : ∀ x0 x1 s, Only [.keys, .host] s (restoreSlot x0 x1 s) := by
  intro x0 x1 s
  unfold restoreSlot
  try dsimp only
  repeat (first
    | with_reducible exact Only.refl _ _
    | with_reducible assumption
    | split
    | (with_reducible refine Only.pair ?_ (by assumption); apply freshNat_only (k := by decide))
    | with_reducible apply freshNat_only (k := by decide)
    | with_reducible apply setSlot_only (k := by decide)
    | with_reducible apply raise_only (k := by decide)
    | dsimp only)
theorem restoreSlot_only {ws s u} {x0 x1} (h : Only ws s u) (k : [Part.keys, .host] ⊆ ws) :
    Only ws s (restoreSlot x0 x1 u) :=
  h.step (restoreSlot_core _ _ _) k
theorem settleGens_core : ∀ s, Only [.net] s (settleGens s) := by
  intro s
  unfold settleGens
  try dsimp only
  repeat (first
    | with_reducible exact Only.refl _ _
    | with_reducible assumption
    | split
    | with_reducible apply modNts_only (k := by decide)
    | dsimp only)
theorem settleGens_only {ws s u} (h : Only ws s u) (k : [Part.net] ⊆ ws) :
    Only ws s (settleGens u) :=
  h.step (settleGens_core _) k
theorem bootKeys_core : ∀ x0 s, Only [.net, .keys, .host] s (bootKeys x0 s) := by
  intro x0 s
  unfold bootKeys
  try dsimp only
  repeat (first
    | with_reducible exact Only.refl _ _
    | with_reducible assumption
    | split
    | with_reducible apply modKeys_only (k := by decide)
    | with_reducible apply raise_only (k := by decide)
    | with_reducible apply makeRoot_only (k := by decide)
    | with_reducible apply restoreSlot_only (k := by decide)
    | with_reducible apply settleGens_only (k := by decide)
    | (with_reducible refine Only.each ?_ (fun _ _ => ?_))
    | dsimp only)
theorem bootKeys_only {ws s u} {x0} (h : Only ws s u) (k : [Part.net, .keys, .host] ⊆ ws) :
    Only ws s (bootKeys x0 u) :=
  h.step (bootKeys_core _ _) k
theorem setStage_core : ∀ x0 x1 s, Only [.host] s (setStage x0 x1 s) := by
  intro x0 x1 s
  unfold setStage
  try dsimp only
  repeat (first
    | with_reducible exact Only.refl _ _
    | with_reducible assumption
    | split
    | with_reducible apply modHost_only (k := by decide)
    | dsimp only)
theorem setStage_only {ws s u} {x0 x1} (h : Only ws s u) (k : [Part.host] ⊆ ws) :
    Only ws s (setStage x0 x1 u) :=
  h.step (setStage_core _ _ _) k
theorem afterTick_core : ∀ s, Only [.net, .stack, .wear, .host] s (afterTick s) := by
  intro s
  unfold afterTick
  try dsimp only
  repeat (first
    | with_reducible exact Only.refl _ _
    | with_reducible assumption
    | split
    | with_reducible apply retryInjections_only (k := by decide)
    | with_reducible apply flushSummaries_only (k := by decide)
    | with_reducible apply countEvent_only (k := by decide)
    | dsimp only)
theorem afterTick_only {ws s u} (h : Only ws s u) (k : [Part.net, .stack, .wear, .host] ⊆ ws) :
    Only ws s (afterTick u) :=
  h.step (afterTick_core _) k
theorem tick_core : ∀ s, Only [.clock, .net, .stack, .wear, .host] s (tick s) := by
  intro s
  unfold tick
  try dsimp only
  repeat (first
    | with_reducible exact Only.refl _ _
    | with_reducible assumption
    | split
    | with_reducible apply modClock_only (k := by decide)
    | with_reducible apply afterTick_only (k := by decide)
    | dsimp only)
theorem tick_only {ws s u} (h : Only ws s u) (k : [Part.clock, .net, .stack, .wear, .host] ⊆ ws) :
    Only ws s (tick u) :=
  h.step (tick_core _) k

/-! ### The shapes of commands -/

theorem onlyOut_runCommand {ws : List Part} {op : Nat} {ok : Bool} {r : Req} {f : Pend → State → State × Ans}
    {s : State} (h : ∀ p u, Only ws u (f p u).1) (k : [Part.host] ⊆ ws) :
    OnlyOut ws s (runCommand op ok r f s) := by
  unfold runCommand
  split
  · exact onlyOut_next (.refl _ _)
  · split
    · exact onlyOut_next ((h _ _).step (answer_core _ _ _) k)
    · exact onlyOut_next ((Only.refl _ _).step (answer_core _ _ _) k)

theorem onlyOut_runRead {ws : List Part} {op : Nat} {ok : Bool} {r : Req} {f : State → Except Nat Bytes}
    {s : State} (k : [Part.host] ⊆ ws) : OnlyOut ws s (runRead op ok r f s) := by
  refine onlyOut_runCommand (fun p u => ?_) k
  split <;> exact .refl _ _

theorem only_reply {ws : List Part} {s : State} {e : Except Nat State} (h : OnlyExc ws s e) :
    Only ws s (reply s e).1 := by
  cases e with
  | ok t => exact h.ok t rfl
  | error n => exact .refl _ _

theorem onlyOut_runSimple {ws : List Part} {op len : Nat} {r : Req} {f : State → Except Nat State}
    {s : State} (h : ∀ u, OnlyExc ws u (f u)) (k : [Part.host] ⊆ ws) : OnlyOut ws s (runSimple op len r f s) :=
  onlyOut_runCommand (fun _ u => only_reply (h u)) k

theorem onlyOut_runAccepted {ws : List Part} {op len : Nat} {r : Req} {f : Nat → State → Except Nat State}
    {s : State} (h : ∀ q u, OnlyExc ws u (f q u)) (k : [Part.host] ⊆ ws) :
    OnlyOut ws s (runAccepted op len r f s) := by
  refine onlyOut_runCommand (fun p u => ?_) k
  have e := h p.sequence u
  split
  · rename_i t ht
    exact e.ok t ht
  · exact .refl _ _

theorem onlyOut_runConfig {ws : List Part} {op : Nat} {flds : List Fld} {r : Req} {g : GReq}
    {get : State → Option Rows} {put : Rows → State → Except Nat State} {s : State}
    (h : ∀ rows u, OnlyExc ws u (put rows u)) (k : [Part.host] ⊆ ws) :
    OnlyOut ws s (runConfig op flds r g get put s) := by
  have no : ∀ e : Nat, OnlyOut ws s (.next (answer r.src (.err e) s)) := fun e =>
    onlyOut_next ((Only.refl _ _).step (answer_core _ _ _) k)
  unfold runConfig
  split
  · exact onlyOut_next (.refl _ _)
  · split
    · exact no _
    · split
      · exact no _
      · split
        · exact no _
        · split
          · exact no _
          · split
            · exact no _
            · exact onlyOut_next ((only_reply (h _ _)).step (answer_core _ _ _) k)

theorem onlyOut_runAct {ws : List Part} {op len : Nat} {r : Req} {a : Option RefAct} {s : State}
    (k : [Part.sel, .host] ⊆ ws) : OnlyOut ws s (runAct op len r a s) := by
  refine onlyOut_runCommand (fun p u => ?_) fun q hq => k (by simp_all)
  split
  · exact addAct_only (.refl _ _) fun q hq => k (by simp_all)
  · exact .refl _ _

end Sys2Proof.Machine
end

