-- ==== Sys2Proof/Laws/Frames.lean ====
section
/-! SUPPORT. Which parts of the state each command may write (`Only` of Laws.Writes). -/

namespace Sys2Proof.Machine

theorem Only.ite {ws : List Part} {c : Prop} [Decidable c] {s a b : State} (h : Only ws s a) (k : Only ws s b) :
    Only ws s (if c then a else b) := by
  split
  · exact h
  · exact k

theorem Only.ite2 {α : Type} {ws : List Part} {c : Prop} [Decidable c] {s : State} {a b : α × State}
    (h : Only ws s a.2) (k : Only ws s b.2) : Only ws s (if c then a else b).2 := by
  split
  · exact h
  · exact k

theorem only_foldl_snd {α β : Type} {ws : List Part} {f : β × State → α → β × State}
    (h : ∀ x a, Only ws x.2 (f x a).2) : ∀ (l : List α) (x : β × State), Only ws x.2 (l.foldl f x).2 := by
  intro l
  induction l with
  | nil => intro x; exact .refl _ _
  | cons a l ih => intro x; exact (h x a).trans (ih _)

theorem only_foldl_fst {α β : Type} {ws : List Part} {f : State × β → α → State × β}
    (h : ∀ x a, Only ws x.1 (f x a).1) : ∀ (l : List α) (x : State × β), Only ws x.1 (l.foldl f x).1 := by
  intro l
  induction l with
  | nil => intro x; exact .refl _ _
  | cons a l ih => intro x; exact (h x a).trans (ih _)

theorem onlyOut_systemCall {t : Fin 4} {block n : Nat} {f : State → State} {s : State}
    (h : ∀ u, Only [.clock, .refs, .sel, .ductus, .margin, .synth, .net, .stack, .wear, .host] u (f u)) :
    OnlyOut [.clock, .refs, .sel, .ductus, .margin, .synth, .net, .stack, .wear, .host] s
      (systemCall t block n f s) := by
  unfold systemCall
  dsimp only
  split
  · exact onlyOut_next (.refl _ _)
  · split
    · exact onlyOut_next ((countEvent_only (.refl _ _) (by decide)).trans (h _))
    · exact onlyOut_next (stopTask_only (countEvent_only (.refl _ _) (by decide)) (by decide))

theorem onlyOut_plainCall {ws : List Part} {t : Fin 4} {f : State → State} {s : State}
    (h : ∀ u, Only ws u (f u)) (k : [Part.wear, .host] ⊆ ws) : OnlyOut ws s (plainCall t f s) := by
  unfold plainCall
  split
  · exact onlyOut_next ((countEvent_only (.refl _ _) k).trans (h _))
  · exact onlyOut_next (.refl _ _)

theorem mintEntry_core (i : Nat) (x : Nat × State) : Only [.net, .stack, .host] x.2 (mintEntry i x).2 := by
  obtain ⟨n, s⟩ := x
  unfold mintEntry
  dsimp only
  split
  · exact dpWrite_only (dpWrite_only (.refl _ _) (by decide)) (by decide)
  · split
    · exact dpWrite_only (dpWrite_only (.refl _ _) (by decide)) (by decide)
    · exact dpWrite_only (mintCookies_only (dpWrite_only (.refl _ _) (by decide)) (by decide)) (by decide)

theorem denial_core (ty : Nat) (log : Int) (s : State) : Only [.net, .stack, .host] s (denial ty log s).2 := .refl _ _

theorem settleRequest_core (x : NegCtx) (ty : Nat) (log : Int) (d : Nat) (s : State) :
    Only [.net, .stack, .host] s (settleRequest x ty log d s).2 := by
  have c : ∀ i k u, Only [.net, .stack, .host] u (countPtp i k u) := fun i k u => countPtp_only (.refl _ _) (by decide)
  have o : ∀ a b d e u, Only [.net, .stack, .host] u (raiseOnce a b d e u) := fun a b d e u =>
    raiseOnce_only (.refl _ _) (by decide)
  have g : ∀ a b d e f u, Only [.net, .stack, .host] u (commitGrant a b d e f u) := fun a b d e f u =>
    commitGrant_only (.refl _ _) (by decide)
  unfold settleRequest
  dsimp only
  refine .ite2 (c _ _ _) (.ite2 ((c _ _ _).trans (o _ _ _ _ _)) (.ite2 ((c _ _ _).trans (o _ _ _ _ _)) (.ite2 (c _ _ _)
    (.ite2 (Only.trans (.ite (c _ _ _) (.refl _ _)) (g _ _ _ _ _ _)) ?_))))
  split
  · exact ((o _ _ _ _ _).trans (c _ _ _)).trans (g _ _ _ _ _ _)
  · exact (o _ _ _ _ _).trans (c _ _ _)

theorem settleCancel_core (x : NegCtx) (ty : Nat) (s : State) :
    Only [.net, .stack, .host] s (settleCancel x ty s).2 := by
  unfold settleCancel
  split
  · split
    · exact settleSession_only (modSession_only (.refl _ _) (by decide)) (by decide)
    · exact countPtp_only (.refl _ _) (by decide)
  · exact countPtp_only (.refl _ _) (by decide)

theorem settleTlv_core (x : NegCtx) (t : NegTlv) (a : List SignalTlv × State) :
    Only [.net, .stack, .host] a.2 (settleTlv x t a).2 := by
  obtain ⟨l, s⟩ := a
  unfold settleTlv
  dsimp only
  split
  · exact settleRequest_core _ _ _ _ _
  · exact settleCancel_core _ _ _
  · exact .refl _ _

theorem stepActs_core (x : State × List RefChange) :
    Only [.clock, .refs, .sel, .ductus, .margin, .synth, .nib, .gnss, .host] x.1 (stepActs x).1 := by
  have h : Only [.clock, .refs, .sel, .ductus, .margin, .synth, .nib, .gnss, .host] x.1
      (x.1.modSel fun z => { z with acts := [] }) := modSel_only (.refl _ _) (by decide)
  refine h.trans (only_foldl_fst (fun y a => ?_) x.1.sel.acts (_, x.2))
  split
  · rename_i t ht
    have := (applyAct_core a.act y.1).ok _ ht
    dsimp only
    split
    · exact finish_only this (by decide)
    · exact this
  · dsimp only
    split
    · exact finish_only (.refl _ _) (by decide)
    · exact .refl _ _

theorem staged_only {ws : List Part} {f : State → State} {s : State} {x : State × List RefChange}
    (h : Only ws s x.1) (k : ∀ u, Only ws u (f u)) : Only ws s (staged f x).1 := h.trans (k _)

theorem execServiceAddressConfigure_core : ∀ x0 x1 s,
    OnlyOut [.net, .stack, .host] s (execServiceAddressConfigure x0 x1 s) := by
  intro x0 x1 s
  unfold execServiceAddressConfigure
  try dsimp only
  repeat (first
    | (refine onlyOut_runConfig (fun _ _ => ?_) (by decide))
    | with_reducible exact Only.refl _ _
    | with_reducible assumption
    | split
    | (with_reducible refine Only.ofExc ?_ (by assumption); apply putNts_only (k := by decide))
    | with_reducible apply putNts_only (k := by decide)
    | with_reducible apply onlyExc_need
    | with_reducible apply onlyExc_pure
    | with_reducible apply onlyExc_ok
    | with_reducible apply onlyExc_error
    | with_reducible apply onlyOut_next
    | (with_reducible refine onlyExc_bind (fun _ => ?_))
    | dsimp only)

theorem execServiceAddressConfigReadBack_core : ∀ x0 x1 s,
    OnlyOut [.host] s (execServiceAddressConfigReadBack x0 x1 s) := by
  intro x0 x1 s
  unfold execServiceAddressConfigReadBack
  try dsimp only
  repeat (first
    | (refine onlyOut_runRead (by decide))
    | with_reducible exact Only.refl _ _
    | with_reducible assumption
    | split
    | with_reducible apply onlyOut_next
    | (with_reducible refine onlyExc_bind (fun _ => ?_))
    | dsimp only)

theorem execPolicingProfile_core : ∀ x0 x1 s,
    OnlyOut [.net, .stack, .host] s (execPolicingProfile x0 x1 s) := by
  intro x0 x1 s
  unfold execPolicingProfile
  try dsimp only
  repeat (first
    | (refine onlyOut_runConfig (fun _ _ => ?_) (by decide))
    | with_reducible exact Only.refl _ _
    | with_reducible assumption
    | split
    | (with_reducible refine Only.ofExc ?_ (by assumption); apply putProfile_only (k := by decide))
    | with_reducible apply putProfile_only (k := by decide)
    | with_reducible apply onlyExc_need
    | with_reducible apply onlyExc_pure
    | with_reducible apply onlyExc_ok
    | with_reducible apply onlyExc_error
    | with_reducible apply onlyOut_next
    | (with_reducible refine onlyExc_bind (fun _ => ?_))
    | dsimp only)

theorem execPolicingProfileReadBack_core : ∀ x0 x1 s,
    OnlyOut [.host] s (execPolicingProfileReadBack x0 x1 s) := by
  intro x0 x1 s
  unfold execPolicingProfileReadBack
  try dsimp only
  repeat (first
    | (refine onlyOut_runRead (by decide))
    | with_reducible exact Only.refl _ _
    | with_reducible assumption
    | split
    | with_reducible apply onlyOut_next
    | (with_reducible refine onlyExc_bind (fun _ => ?_))
    | dsimp only)

theorem execPolicingBankSwap_core : ∀ s, OnlyOut [.net] s (execPolicingBankSwap s) := by
  intro s
  unfold execPolicingBankSwap
  try dsimp only
  repeat (first
    | with_reducible exact Only.refl _ _
    | with_reducible assumption
    | split
    | with_reducible apply modNts_only (k := by decide)
    | with_reducible apply onlyOut_next
    | dsimp only)

theorem execRotationConfigure_core : ∀ x0 x1 s,
    OnlyOut [.net, .stack, .host] s (execRotationConfigure x0 x1 s) := by
  intro x0 x1 s
  unfold execRotationConfigure
  try dsimp only
  repeat (first
    | (refine onlyOut_runConfig (fun _ _ => ?_) (by decide))
    | with_reducible exact Only.refl _ _
    | with_reducible assumption
    | split
    | (with_reducible refine Only.ofExc ?_ (by assumption); apply putRotation_only (k := by decide))
    | with_reducible apply putRotation_only (k := by decide)
    | with_reducible apply onlyExc_need
    | with_reducible apply onlyExc_pure
    | with_reducible apply onlyExc_ok
    | with_reducible apply onlyExc_error
    | with_reducible apply onlyOut_next
    | (with_reducible refine onlyExc_bind (fun _ => ?_))
    | dsimp only)

theorem execRotationConfigureReadBack_core : ∀ x0 x1 s,
    OnlyOut [.host] s (execRotationConfigureReadBack x0 x1 s) := by
  intro x0 x1 s
  unfold execRotationConfigureReadBack
  try dsimp only
  repeat (first
    | (refine onlyOut_runRead (by decide))
    | with_reducible exact Only.refl _ _
    | with_reducible assumption
    | split
    | with_reducible apply onlyOut_next
    | (with_reducible refine onlyExc_bind (fun _ => ?_))
    | dsimp only)

theorem execRotateNow_core : ∀ x0 s, OnlyOut [.net, .keys, .stack, .host] s (execRotateNow x0 s) := by
  intro x0 s
  unfold execRotateNow
  try dsimp only
  repeat (first
    | (refine onlyOut_runAccepted (fun _ _ => ?_) (by decide))
    | with_reducible exact Only.refl _ _
    | with_reducible assumption
    | split
    | with_reducible apply newKey_only (k := by decide)
    | with_reducible apply modRotation_only (k := by decide)
    | with_reducible apply onlyExc_need
    | with_reducible apply onlyExc_pure
    | with_reducible apply onlyExc_ok
    | with_reducible apply onlyExc_error
    | with_reducible apply onlyOut_next
    | (with_reducible refine onlyExc_bind (fun _ => ?_))
    | dsimp only)

theorem execRotationCheck_core : ∀ s, OnlyOut [.net, .keys, .stack, .host] s (execRotationCheck s) := by
  intro s
  unfold execRotationCheck
  try dsimp only
  repeat (first
    | with_reducible exact Only.refl _ _
    | with_reducible assumption
    | split
    | with_reducible apply modRotation_only (k := by decide)
    | with_reducible apply newKey_only (k := by decide)
    | with_reducible apply reachInstant_only (k := by decide)
    | with_reducible apply settleDue_only (k := by decide)
    | with_reducible apply reachAsked_only (k := by decide)
    | with_reducible apply onlyOut_next
    | dsimp only)

theorem execKeyActivation_core : ∀ s, OnlyOut [.net, .keys, .stack, .host] s (execKeyActivation s) := by
  intro s
  unfold execKeyActivation
  try dsimp only
  repeat (first
    | with_reducible exact Only.refl _ _
    | with_reducible assumption
    | split
    | with_reducible apply makeCurrent_only (k := by decide)
    | with_reducible apply modRotation_only (k := by decide)
    | with_reducible apply onlyOut_next
    | dsimp only)

theorem execKeyRetire_core : ∀ s, OnlyOut [.net, .keys, .stack, .host] s (execKeyRetire s) := by
  intro s
  unfold execKeyRetire
  try dsimp only
  repeat (first
    | with_reducible exact Only.refl _ _
    | with_reducible assumption
    | split
    | with_reducible apply raise_only (k := by decide)
    | with_reducible apply dropGen_only (k := by decide)
    | (with_reducible refine Only.each ?_ (fun _ _ => ?_))
    | with_reducible apply onlyOut_next
    | dsimp only)

theorem execInvalidateKey_core : ∀ x0 x1 s,
    OnlyOut [.net, .keys, .stack, .host] s (execInvalidateKey x0 x1 s) := by
  intro x0 x1 s
  unfold execInvalidateKey
  try dsimp only
  repeat (first
    | (refine onlyOut_runSimple (fun _ => ?_) (by decide))
    | with_reducible exact Only.refl _ _
    | with_reducible assumption
    | split
    | with_reducible apply invalidate_only (k := by decide)
    | with_reducible apply onlyExc_need
    | with_reducible apply onlyExc_pure
    | with_reducible apply onlyExc_ok
    | with_reducible apply onlyExc_error
    | with_reducible apply onlyOut_next
    | (with_reducible refine onlyExc_bind (fun _ => ?_))
    | dsimp only)

theorem execCookieMint_core : ∀ x0 x1 s, OnlyOut [.net, .host] s (execCookieMint x0 x1 s) := by
  intro x0 x1 s
  unfold execCookieMint
  try dsimp only
  repeat (first
    | (refine onlyOut_runAccepted (fun _ _ => ?_) (by decide))
    | with_reducible exact Only.refl _ _
    | with_reducible assumption
    | split
    | with_reducible apply modNts_only (k := by decide)
    | with_reducible apply onlyExc_need
    | with_reducible apply onlyExc_pure
    | with_reducible apply onlyExc_ok
    | with_reducible apply onlyExc_error
    | with_reducible apply onlyOut_next
    | (with_reducible refine onlyExc_bind (fun _ => ?_))
    | dsimp only)

theorem execMintComplete_core : ∀ s, OnlyOut [.net, .stack, .host] s (execMintComplete s) := by
  intro s
  unfold execMintComplete
  split
  · exact onlyOut_next (.refl _ _)
  · rename_i n src q _
    have h := only_foldl_snd (ws := [.net, .stack, .host]) (fun x i => mintEntry_core i x) (List.range n) (0, s)
    exact onlyOut_next (completeCmd_only (raise_only (modNts_only h (by decide)) (by decide)) (by decide))

theorem execNtsStatus_core : ∀ x0 x1 s, OnlyOut [.host] s (execNtsStatus x0 x1 s) := by
  intro x0 x1 s
  unfold execNtsStatus
  try dsimp only
  repeat (first
    | (refine onlyOut_runRead (by decide))
    | with_reducible exact Only.refl _ _
    | with_reducible assumption
    | split
    | with_reducible apply onlyOut_next
    | (with_reducible refine onlyExc_bind (fun _ => ?_))
    | dsimp only)

theorem execNtsTransaction_core : ∀ x0 s,
    OnlyOut [.margin, .net, .stack, .host] s (execNtsTransaction x0 s) := by
  intro x0 s
  unfold execNtsTransaction
  try dsimp only
  repeat (first
    | with_reducible exact Only.refl _ _
    | with_reducible assumption
    | split
    | with_reducible apply modNts_only (k := by decide)
    | with_reducible apply judgeAlarm_only (k := by decide)
    | (with_reducible refine Only.ofOpt ?_ (by assumption); apply ntsAnswerTo_only (k := by decide))
    | with_reducible apply ntsAnswerTo_only (k := by decide)
    | with_reducible apply Only.getD
    | with_reducible apply onlyOut_next
    | dsimp only)

theorem execReferenceConfigure_core : ∀ x0 x1 s,
    OnlyOut [.refs, .ductus, .host] s (execReferenceConfigure x0 x1 s) := by
  intro x0 x1 s
  unfold execReferenceConfigure
  try dsimp only
  repeat (first
    | (refine onlyOut_runConfig (fun _ _ => ?_) (by decide))
    | with_reducible exact Only.refl _ _
    | with_reducible assumption
    | split
    | with_reducible apply modRef_only (k := by decide)
    | with_reducible apply modDuctus_only (k := by decide)
    | with_reducible apply markCompanions_only (k := by decide)
    | with_reducible apply onlyExc_need
    | with_reducible apply onlyExc_pure
    | with_reducible apply onlyExc_ok
    | with_reducible apply onlyExc_error
    | with_reducible apply onlyOut_next
    | (with_reducible refine onlyExc_bind (fun _ => ?_))
    | dsimp only)

theorem execReferenceConfigureReadBack_core : ∀ x0 x1 s,
    OnlyOut [.host] s (execReferenceConfigureReadBack x0 x1 s) := by
  intro x0 x1 s
  unfold execReferenceConfigureReadBack
  try dsimp only
  repeat (first
    | (refine onlyOut_runRead (by decide))
    | with_reducible exact Only.refl _ _
    | with_reducible assumption
    | split
    | with_reducible apply onlyOut_next
    | (with_reducible refine onlyExc_bind (fun _ => ?_))
    | dsimp only)

theorem execMonitorConfigure_core : ∀ x0 x1 s, OnlyOut [.refs, .host] s (execMonitorConfigure x0 x1 s) := by
  intro x0 x1 s
  unfold execMonitorConfigure
  try dsimp only
  repeat (first
    | (refine onlyOut_runConfig (fun _ _ => ?_) (by decide))
    | with_reducible exact Only.refl _ _
    | with_reducible assumption
    | split
    | with_reducible apply modRef_only (k := by decide)
    | with_reducible apply onlyExc_need
    | with_reducible apply onlyExc_pure
    | with_reducible apply onlyExc_ok
    | with_reducible apply onlyExc_error
    | with_reducible apply onlyOut_next
    | (with_reducible refine onlyExc_bind (fun _ => ?_))
    | dsimp only)

theorem execMonitorConfigureReadBack_core : ∀ x0 x1 s,
    OnlyOut [.host] s (execMonitorConfigureReadBack x0 x1 s) := by
  intro x0 x1 s
  unfold execMonitorConfigureReadBack
  try dsimp only
  repeat (first
    | (refine onlyOut_runRead (by decide))
    | with_reducible exact Only.refl _ _
    | with_reducible assumption
    | split
    | with_reducible apply onlyOut_next
    | (with_reducible refine onlyExc_bind (fun _ => ?_))
    | dsimp only)

theorem execSelectionConfigure_core : ∀ x0 x1 s,
    OnlyOut [.sel, .host] s (execSelectionConfigure x0 x1 s) := by
  intro x0 x1 s
  unfold execSelectionConfigure
  try dsimp only
  repeat (first
    | (refine onlyOut_runConfig (fun _ _ => ?_) (by decide))
    | with_reducible exact Only.refl _ _
    | with_reducible assumption
    | split
    | with_reducible apply modSel_only (k := by decide)
    | with_reducible apply onlyExc_need
    | with_reducible apply onlyExc_pure
    | with_reducible apply onlyExc_ok
    | with_reducible apply onlyExc_error
    | with_reducible apply onlyOut_next
    | (with_reducible refine onlyExc_bind (fun _ => ?_))
    | dsimp only)

theorem execSelectionConfigureReadBack_core : ∀ x0 x1 s,
    OnlyOut [.host] s (execSelectionConfigureReadBack x0 x1 s) := by
  intro x0 x1 s
  unfold execSelectionConfigureReadBack
  try dsimp only
  repeat (first
    | (refine onlyOut_runRead (by decide))
    | with_reducible exact Only.refl _ _
    | with_reducible assumption
    | split
    | with_reducible apply onlyOut_next
    | (with_reducible refine onlyExc_bind (fun _ => ?_))
    | dsimp only)

theorem execReferenceEnable_core : ∀ x0 x1 x2 s,
    OnlyOut [.sel, .host] s (execReferenceEnable x0 x1 x2 s) := by
  intro x0 x1 x2 s
  unfold execReferenceEnable
  try dsimp only
  repeat (first
    | (refine onlyOut_runAct (by decide))
    | with_reducible exact Only.refl _ _
    | with_reducible assumption
    | split
    | with_reducible apply onlyOut_next
    | (with_reducible refine onlyExc_bind (fun _ => ?_))
    | dsimp only)

theorem execReferenceRelease_core : ∀ x0 x1 x2 s,
    OnlyOut [.sel, .host] s (execReferenceRelease x0 x1 x2 s) := by
  intro x0 x1 x2 s
  unfold execReferenceRelease
  try dsimp only
  repeat (first
    | (refine onlyOut_runAct (by decide))
    | with_reducible exact Only.refl _ _
    | with_reducible assumption
    | split
    | with_reducible apply onlyOut_next
    | (with_reducible refine onlyExc_bind (fun _ => ?_))
    | dsimp only)

theorem execReferenceReject_core : ∀ x0 x1 s, OnlyOut [.sel, .host] s (execReferenceReject x0 x1 s) := by
  intro x0 x1 s
  unfold execReferenceReject
  try dsimp only
  repeat (first
    | (refine onlyOut_runAct (by decide))
    | with_reducible exact Only.refl _ _
    | with_reducible assumption
    | split
    | with_reducible apply onlyOut_next
    | (with_reducible refine onlyExc_bind (fun _ => ?_))
    | dsimp only)

theorem execForceSelect_core : ∀ x0 x1 s, OnlyOut [.sel, .host] s (execForceSelect x0 x1 s) := by
  intro x0 x1 s
  unfold execForceSelect
  try dsimp only
  repeat (first
    | (refine onlyOut_runAct (by decide))
    | with_reducible exact Only.refl _ _
    | with_reducible assumption
    | split
    | with_reducible apply onlyOut_next
    | (with_reducible refine onlyExc_bind (fun _ => ?_))
    | dsimp only)

theorem execSelectionHook_core : ∀ x0 x1 s, OnlyOut [.sel, .host] s (execSelectionHook x0 x1 s) := by
  intro x0 x1 s
  unfold execSelectionHook
  try dsimp only
  repeat (first
    | (refine onlyOut_runCommand (fun _ _ => ?_) (by decide))
    | with_reducible exact Only.refl _ _
    | with_reducible assumption
    | split
    | with_reducible apply modSel_only (k := by decide)
    | with_reducible apply onlyOut_next
    | (with_reducible refine onlyExc_bind (fun _ => ?_))
    | dsimp only)

theorem execReferenceStatus_core : ∀ x0 x1 x2 s, OnlyOut [.host] s (execReferenceStatus x0 x1 x2 s) := by
  intro x0 x1 x2 s
  unfold execReferenceStatus
  try dsimp only
  repeat (first
    | (refine onlyOut_runRead (by decide))
    | with_reducible exact Only.refl _ _
    | with_reducible assumption
    | split
    | with_reducible apply onlyOut_next
    | (with_reducible refine onlyExc_bind (fun _ => ?_))
    | dsimp only)

theorem execReferenceEvaluation_core : ∀ s,
    OnlyOut [.clock, .refs, .sel, .ductus, .margin, .synth, .nib, .gnss, .net, .stack, .host] s (execReferenceEvaluation s) := by
  intro s
  unfold execReferenceEvaluation
  split
  · exact onlyOut_next (.refl _ _)
  · dsimp only
    generalize hx : staged stepQualify _ = x
    have h : Only [.clock, .refs, .sel, .ductus, .margin, .synth, .nib, .gnss, .net, .stack, .host] s x.1 := by
      subst hx
      refine staged_only (staged_only (staged_only ?_ ?_) ?_) ?_
      · generalize hy : (s.modSel _) = y
        have b : Only [.clock, .refs, .sel, .ductus, .margin, .synth, .nib, .gnss, .net, .stack, .host] s y := by
          subst hy
          exact modSel_only (.refl _ _) (by decide)
        exact b.trans (Only.mono (stepActs_core (y, [])) (by decide))
      · exact fun u => stepRejects_only (.refl _ _) (by decide)
      · exact fun u => stepClears_only (.refl _ _) (by decide)
      · exact fun u => stepQualify_only (.refl _ _) (by decide)
    split
    · exact onlyOut_next (modSel_only (modTask_only (dpWrite_only h (by decide)) (by decide)) (by decide))
    · exact onlyOut_next (finishEvaluation_only h (by decide))

theorem execActivityDeadline_core : ∀ x0 s,
    OnlyOut [.clock, .refs, .ductus, .synth, .host] s (execActivityDeadline x0 s) := by
  intro x0 s
  unfold execActivityDeadline
  try dsimp only
  repeat (first
    | with_reducible exact Only.refl _ _
    | with_reducible assumption
    | split
    | with_reducible apply refMiss_only (k := by decide)
    | with_reducible apply onlyOut_next
    | dsimp only)

theorem execFrequencyGateEnd_core : ∀ x0 x1 s,
    OnlyOut [.clock, .refs, .sel, .ductus, .synth, .nib, .host] s (execFrequencyGateEnd x0 x1 s) := by
  intro x0 x1 s
  unfold execFrequencyGateEnd
  try dsimp only
  repeat (first
    | with_reducible exact Only.refl _ _
    | with_reducible assumption
    | split
    | with_reducible apply modRef_only (k := by decide)
    | with_reducible apply nextGate_only (k := by decide)
    | with_reducible apply addReason_only (k := by decide)
    | with_reducible apply clearReason_only (k := by decide)
    | with_reducible apply restartTimer_only (k := by decide)
    | with_reducible apply clearDisagree_only (k := by decide)
    | with_reducible apply watchDisagreement_only (k := by decide)
    | with_reducible apply onlyOut_next
    | dsimp only)

theorem execPhaseAverageEnd_core : ∀ x0 s,
    OnlyOut [.clock, .refs, .ductus, .synth, .host] s (execPhaseAverageEnd x0 s) := by
  intro x0 s
  unfold execPhaseAverageEnd
  try dsimp only
  repeat (first
    | with_reducible exact Only.refl _ _
    | with_reducible assumption
    | split
    | with_reducible apply modRef_only (k := by decide)
    | with_reducible apply clearReason_only (k := by decide)
    | with_reducible apply addReason_only (k := by decide)
    | with_reducible apply onlyOut_next
    | dsimp only)

theorem execQualTimeExpiry_core : ∀ x0 s, OnlyOut [.refs] s (execQualTimeExpiry x0 s) := by
  intro x0 s
  unfold execQualTimeExpiry
  try dsimp only
  repeat (first
    | with_reducible exact Only.refl _ _
    | with_reducible assumption
    | split
    | with_reducible apply modRef_only (k := by decide)
    | with_reducible apply onlyOut_next
    | dsimp only)

theorem execWtrExpiry_core : ∀ x0 s,
    OnlyOut [.clock, .refs, .sel, .ductus, .margin, .synth, .host] s (execWtrExpiry x0 s) := by
  intro x0 s
  unfold execWtrExpiry
  try dsimp only
  repeat (first
    | with_reducible exact Only.refl _ _
    | with_reducible assumption
    | split
    | with_reducible apply stepEvents_only (k := by decide)
    | with_reducible apply selectNow_only (k := by decide)
    | with_reducible apply startSwitch_only (k := by decide)
    | with_reducible apply onlyOut_next
    | dsimp only)

theorem execSwitchMeasureEnd_core : ∀ s,
    OnlyOut [.clock, .refs, .sel, .ductus, .margin, .synth, .host] s (execSwitchMeasureEnd s) := by
  intro s
  unfold execSwitchMeasureEnd
  try dsimp only
  repeat (first
    | with_reducible exact Only.refl _ _
    | with_reducible assumption
    | split
    | (with_reducible refine Only.pair ?_ (by assumption); apply averagedOffset_only (k := by decide))
    | with_reducible apply averagedOffset_only (k := by decide)
    | with_reducible apply buildOut_only (k := by decide)
    | with_reducible apply stepEvents_only (k := by decide)
    | with_reducible apply onlyOut_next
    | dsimp only)

theorem execSwitchComplete_core : ∀ s, OnlyOut [.sel, .ductus, .host] s (execSwitchComplete s) := by
  intro s
  unfold execSwitchComplete
  try dsimp only
  repeat (first
    | with_reducible exact Only.refl _ _
    | with_reducible assumption
    | split
    | with_reducible apply modDuctus_only (k := by decide)
    | with_reducible apply modSel_only (k := by decide)
    | with_reducible apply raise_only (k := by decide)
    | with_reducible apply onlyOut_next
    | dsimp only)

theorem execDisagreementCheck_core : ∀ x0 x1 s,
    OnlyOut [.clock, .refs, .sel, .ductus, .synth, .host] s (execDisagreementCheck x0 x1 s) := by
  intro x0 x1 s
  unfold execDisagreementCheck
  try dsimp only
  repeat (first
    | with_reducible exact Only.refl _ _
    | with_reducible assumption
    | split
    | with_reducible apply modRef_only (k := by decide)
    | with_reducible apply modSel_only (k := by decide)
    | with_reducible apply addReason_only (k := by decide)
    | with_reducible apply dropAlarm_only (k := by decide)
    | with_reducible apply onlyOut_next
    | dsimp only)

theorem execDuctusConfigure_core : ∀ x0 x1 s, OnlyOut [.ductus, .host] s (execDuctusConfigure x0 x1 s) := by
  intro x0 x1 s
  unfold execDuctusConfigure
  try dsimp only
  repeat (first
    | (refine onlyOut_runConfig (fun _ _ => ?_) (by decide))
    | with_reducible exact Only.refl _ _
    | with_reducible assumption
    | split
    | with_reducible apply modDuctus_only (k := by decide)
    | with_reducible apply onlyExc_need
    | with_reducible apply onlyExc_pure
    | with_reducible apply onlyExc_ok
    | with_reducible apply onlyExc_error
    | with_reducible apply onlyOut_next
    | (with_reducible refine onlyExc_bind (fun _ => ?_))
    | dsimp only)

theorem execDuctusConfigureReadBack_core : ∀ x0 x1 s,
    OnlyOut [.host] s (execDuctusConfigureReadBack x0 x1 s) := by
  intro x0 x1 s
  unfold execDuctusConfigureReadBack
  try dsimp only
  repeat (first
    | (refine onlyOut_runRead (by decide))
    | with_reducible exact Only.refl _ _
    | with_reducible assumption
    | split
    | with_reducible apply onlyOut_next
    | (with_reducible refine onlyExc_bind (fun _ => ?_))
    | dsimp only)

theorem execClockModel_core : ∀ x0 x1 s, OnlyOut [.ductus, .host] s (execClockModel x0 x1 s) := by
  intro x0 x1 s
  unfold execClockModel
  try dsimp only
  repeat (first
    | (refine onlyOut_runConfig (fun _ _ => ?_) (by decide))
    | with_reducible exact Only.refl _ _
    | with_reducible assumption
    | split
    | with_reducible apply modDuctus_only (k := by decide)
    | with_reducible apply onlyExc_need
    | with_reducible apply onlyExc_pure
    | with_reducible apply onlyExc_ok
    | with_reducible apply onlyExc_error
    | with_reducible apply onlyOut_next
    | (with_reducible refine onlyExc_bind (fun _ => ?_))
    | dsimp only)

theorem execClockModelReadBack_core : ∀ x0 x1 s, OnlyOut [.host] s (execClockModelReadBack x0 x1 s) := by
  intro x0 x1 s
  unfold execClockModelReadBack
  try dsimp only
  repeat (first
    | (refine onlyOut_runRead (by decide))
    | with_reducible exact Only.refl _ _
    | with_reducible assumption
    | split
    | with_reducible apply onlyOut_next
    | (with_reducible refine onlyExc_bind (fun _ => ?_))
    | dsimp only)

theorem execModelExport_core : ∀ x0 s, OnlyOut [.host] s (execModelExport x0 s) := by
  intro x0 s
  unfold execModelExport
  try dsimp only
  repeat (first
    | (refine onlyOut_runRead (by decide))
    | with_reducible exact Only.refl _ _
    | with_reducible assumption
    | split
    | with_reducible apply onlyOut_next
    | (with_reducible refine onlyExc_bind (fun _ => ?_))
    | dsimp only)

theorem execModelImport_core : ∀ x0 x1 s, OnlyOut [.ductus, .host] s (execModelImport x0 x1 s) := by
  intro x0 x1 s
  unfold execModelImport
  try dsimp only
  repeat (first
    | (refine onlyOut_runCommand (fun _ _ => ?_) (by decide))
    | with_reducible exact Only.refl _ _
    | with_reducible assumption
    | split
    | with_reducible apply modDuctus_only (k := by decide)
    | (with_reducible refine Only.each ?_ (fun _ _ => ?_))
    | with_reducible apply onlyOut_next
    | (with_reducible refine onlyExc_bind (fun _ => ?_))
    | dsimp only)

theorem execDuctusUpdate_core : ∀ x0 s,
    OnlyOut [.clock, .refs, .sel, .ductus, .margin, .synth, .nib, .net, .stack, .host] s (execDuctusUpdate x0 s) := by
  intro x0 s
  unfold execDuctusUpdate
  split
  · exact onlyOut_next (.refl _ _)
  · dsimp only
    apply onlyOut_next
    apply countTimers_only (k := by decide)
    apply spreadPrediction_only (k := by decide)
    refine Only.trans ?_ (.ite (applyControl_only (modDpll_only (.refl _ _) (by decide)) (by decide)) (.refl _ _))
    apply modDuctus_only (k := by decide)
    refine Only.each ?_ (fun _ _ => .ite (freeControl_only (.refl _ _) (by decide)) (.refl _ _))
    refine Only.trans ?_ (.ite (notePrediction_only (.refl _ _) (by decide)) (.refl _ _))
    apply setWeights_only (k := by decide)
    apply learnAll_only (k := by decide)
    apply applyRebase_only (k := by decide)
    apply settle_only (k := by decide)
    apply acquire_only (k := by decide)
    apply resume_only (k := by decide)
    apply takeParams_only (k := by decide)
    apply modDuctus_only (k := by decide)
    refine Only.trans ?_ (.ite (.refl _ _) (slew_only (.refl _ _) (by decide)))
    exact .ite (.refl _ _) (thawDpll_only (.refl _ _) (by decide))

theorem execLockDwellExpiry_core : ∀ s,
    OnlyOut [.clock, .ductus, .synth, .host] s (execLockDwellExpiry s) := by
  intro s
  unfold execLockDwellExpiry
  try dsimp only
  repeat (first
    | with_reducible exact Only.refl _ _
    | with_reducible assumption
    | split
    | with_reducible apply setDuctus_only (k := by decide)
    | with_reducible apply onlyOut_next
    | dsimp only)

theorem execXoLostClear_core : ∀ s, OnlyOut [.clock, .ductus, .synth, .host] s (execXoLostClear s) := by
  intro s
  unfold execXoLostClear
  try dsimp only
  repeat (first
    | with_reducible exact Only.refl _ _
    | with_reducible assumption
    | split
    | with_reducible apply modDuctus_only (k := by decide)
    | with_reducible apply setDuctus_only (k := by decide)
    | with_reducible apply loadB_only (k := by decide)
    | with_reducible apply onlyOut_next
    | dsimp only)

theorem execUpdateTimeout_core : ∀ s, OnlyOut [.clock, .ductus, .synth, .host] s (execUpdateTimeout s) := by
  intro s
  unfold execUpdateTimeout
  try dsimp only
  repeat (first
    | with_reducible exact Only.refl _ _
    | with_reducible assumption
    | split
    | with_reducible apply modDuctus_only (k := by decide)
    | with_reducible apply freezeDpll_only (k := by decide)
    | with_reducible apply onlyOut_next
    | dsimp only)

theorem execDuctusStatus_core : ∀ x0 s, OnlyOut [.host] s (execDuctusStatus x0 s) := by
  intro x0 s
  unfold execDuctusStatus
  try dsimp only
  repeat (first
    | (refine onlyOut_runRead (by decide))
    | with_reducible exact Only.refl _ _
    | with_reducible assumption
    | split
    | with_reducible apply onlyOut_next
    | (with_reducible refine onlyExc_bind (fun _ => ?_))
    | dsimp only)

theorem execDpllConfigure_core : ∀ x0 x1 s,
    OnlyOut [.clock, .ductus, .synth, .host] s (execDpllConfigure x0 x1 s) := by
  intro x0 x1 s
  unfold execDpllConfigure
  try dsimp only
  repeat (first
    | (refine onlyOut_runConfig (fun _ _ => ?_) (by decide))
    | with_reducible exact Only.refl _ _
    | with_reducible assumption
    | split
    | with_reducible apply putDpll_only (k := by decide)
    | with_reducible apply onlyExc_need
    | with_reducible apply onlyExc_pure
    | with_reducible apply onlyExc_ok
    | with_reducible apply onlyExc_error
    | with_reducible apply onlyOut_next
    | (with_reducible refine onlyExc_bind (fun _ => ?_))
    | dsimp only)

theorem execDpllConfigureReadBack_core : ∀ x0 x1 s,
    OnlyOut [.host] s (execDpllConfigureReadBack x0 x1 s) := by
  intro x0 x1 s
  unfold execDpllConfigureReadBack
  try dsimp only
  repeat (first
    | (refine onlyOut_runRead (by decide))
    | with_reducible exact Only.refl _ _
    | with_reducible assumption
    | split
    | with_reducible apply onlyOut_next
    | (with_reducible refine onlyExc_bind (fun _ => ?_))
    | dsimp only)

theorem execDpllEnable_core : ∀ x0 x1 x2 s,
    OnlyOut [.clock, .ductus, .synth, .host] s (execDpllEnable x0 x1 x2 s) := by
  intro x0 x1 x2 s
  unfold execDpllEnable
  try dsimp only
  repeat (first
    | (refine onlyOut_runSimple (fun _ => ?_) (by decide))
    | with_reducible exact Only.refl _ _
    | with_reducible assumption
    | split
    | with_reducible apply modDpll_only (k := by decide)
    | with_reducible apply dpllOff_only (k := by decide)
    | with_reducible apply freezeDpll_only (k := by decide)
    | with_reducible apply onlyExc_need
    | with_reducible apply onlyExc_pure
    | with_reducible apply onlyExc_ok
    | with_reducible apply onlyExc_error
    | with_reducible apply onlyOut_next
    | (with_reducible refine onlyExc_bind (fun _ => ?_))
    | dsimp only)

theorem execDpllTracking_core : ∀ x0 s, OnlyOut [.ductus] s (execDpllTracking x0 s) := by
  intro x0 s
  unfold execDpllTracking
  try dsimp only
  repeat (first
    | with_reducible exact Only.refl _ _
    | with_reducible assumption
    | split
    | with_reducible apply modDpll_only (k := by decide)
    | with_reducible apply onlyOut_next
    | dsimp only)

theorem execDpllPulling_core : ∀ x0 s, OnlyOut [.ductus] s (execDpllPulling x0 s) := by
  intro x0 s
  unfold execDpllPulling
  try dsimp only
  repeat (first
    | with_reducible exact Only.refl _ _
    | with_reducible assumption
    | split
    | with_reducible apply modDpll_only (k := by decide)
    | with_reducible apply onlyOut_next
    | dsimp only)

theorem execApllConfigure_core : ∀ x0 x1 s,
    OnlyOut [.clock, .ductus, .synth, .nib, .net, .host] s (execApllConfigure x0 x1 s) := by
  intro x0 x1 s
  unfold execApllConfigure
  try dsimp only
  repeat (first
    | (refine onlyOut_runConfig (fun _ _ => ?_) (by decide))
    | with_reducible exact Only.refl _ _
    | with_reducible assumption
    | split
    | with_reducible apply modApll_only (k := by decide)
    | with_reducible apply applyOne_only (k := by decide)
    | with_reducible apply unlockApll_only (k := by decide)
    | with_reducible apply onlyExc_need
    | with_reducible apply onlyExc_pure
    | with_reducible apply onlyExc_ok
    | with_reducible apply onlyExc_error
    | with_reducible apply onlyOut_next
    | (with_reducible refine onlyExc_bind (fun _ => ?_))
    | dsimp only)

theorem execApllConfigureReadBack_core : ∀ x0 x1 s,
    OnlyOut [.host] s (execApllConfigureReadBack x0 x1 s) := by
  intro x0 x1 s
  unfold execApllConfigureReadBack
  try dsimp only
  repeat (first
    | (refine onlyOut_runRead (by decide))
    | with_reducible exact Only.refl _ _
    | with_reducible assumption
    | split
    | with_reducible apply onlyOut_next
    | (with_reducible refine onlyExc_bind (fun _ => ?_))
    | dsimp only)

theorem execApllLock_core : ∀ x0 s, OnlyOut [.clock, .ductus, .synth, .host] s (execApllLock x0 s) := by
  intro x0 s
  unfold execApllLock
  try dsimp only
  repeat (first
    | with_reducible exact Only.refl _ _
    | with_reducible assumption
    | split
    | with_reducible apply modApll_only (k := by decide)
    | with_reducible apply setApll_only (k := by decide)
    | with_reducible apply thawSystem_only (k := by decide)
    | with_reducible apply startClock_only (k := by decide)
    | with_reducible apply limiterRelease_only (k := by decide)
    | with_reducible apply onlyOut_next
    | dsimp only)

theorem execApllSlip_core : ∀ x0 s, OnlyOut [.clock, .ductus, .synth, .host] s (execApllSlip x0 s) := by
  intro x0 s
  unfold execApllSlip
  try dsimp only
  repeat (first
    | with_reducible exact Only.refl _ _
    | with_reducible assumption
    | split
    | with_reducible apply holdApll_only (k := by decide)
    | with_reducible apply freezeSystem_only (k := by decide)
    | with_reducible apply onlyOut_next
    | dsimp only)

theorem execApllReengageTimeout_core : ∀ x0 s,
    OnlyOut [.clock, .ductus, .synth, .nib, .net, .host] s (execApllReengageTimeout x0 s) := by
  intro x0 s
  unfold execApllReengageTimeout
  try dsimp only
  repeat (first
    | with_reducible exact Only.refl _ _
    | with_reducible assumption
    | split
    | with_reducible apply unlockApll_only (k := by decide)
    | with_reducible apply onlyOut_next
    | dsimp only)

theorem execLimiterGate_core : ∀ x0 x1 s, OnlyOut [.synth, .host] s (execLimiterGate x0 x1 s) := by
  intro x0 x1 s
  unfold execLimiterGate
  try dsimp only
  repeat (first
    | with_reducible exact Only.refl _ _
    | with_reducible assumption
    | split
    | with_reducible apply modApll_only (k := by decide)
    | with_reducible apply stopOutputs_only (k := by decide)
    | with_reducible apply limiterRelease_only (k := by decide)
    | with_reducible apply onlyOut_next
    | dsimp only)

theorem execOutputConfigure_core : ∀ x0 x1 s, OnlyOut [.synth, .host] s (execOutputConfigure x0 x1 s) := by
  intro x0 x1 s
  unfold execOutputConfigure
  try dsimp only
  repeat (first
    | (refine onlyOut_runConfig (fun _ _ => ?_) (by decide))
    | with_reducible exact Only.refl _ _
    | with_reducible assumption
    | split
    | with_reducible apply putCkout_only (k := by decide)
    | with_reducible apply onlyExc_need
    | with_reducible apply onlyExc_pure
    | with_reducible apply onlyExc_ok
    | with_reducible apply onlyExc_error
    | with_reducible apply onlyOut_next
    | (with_reducible refine onlyExc_bind (fun _ => ?_))
    | dsimp only)

theorem execOutputConfigureReadBack_core : ∀ x0 x1 s,
    OnlyOut [.host] s (execOutputConfigureReadBack x0 x1 s) := by
  intro x0 x1 s
  unfold execOutputConfigureReadBack
  try dsimp only
  repeat (first
    | (refine onlyOut_runRead (by decide))
    | with_reducible exact Only.refl _ _
    | with_reducible assumption
    | split
    | with_reducible apply onlyOut_next
    | (with_reducible refine onlyExc_bind (fun _ => ?_))
    | dsimp only)

theorem execOutputAlignedStart_core : ∀ x0 s, OnlyOut [.synth] s (execOutputAlignedStart x0 s) := by
  intro x0 s
  unfold execOutputAlignedStart
  try dsimp only
  repeat (first
    | with_reducible exact Only.refl _ _
    | with_reducible assumption
    | split
    | with_reducible apply setCkout_only (k := by decide)
    | with_reducible apply onlyOut_next
    | dsimp only)

theorem execRealign_core : ∀ x0 x1 x2 x3 x4 s,
    OnlyOut [.clock, .ductus, .synth, .host] s (execRealign x0 x1 x2 x3 x4 s) := by
  intro x0 x1 x2 x3 x4 s
  unfold execRealign
  try dsimp only
  repeat (first
    | (refine onlyOut_runAccepted (fun _ _ => ?_) (by decide))
    | with_reducible exact Only.refl _ _
    | with_reducible assumption
    | split
    | with_reducible apply modSynth_only (k := by decide)
    | with_reducible apply modCkout_only (k := by decide)
    | with_reducible apply modEvout_only (k := by decide)
    | with_reducible apply beginSlew_only (k := by decide)
    | with_reducible apply itemDone_only (k := by decide)
    | with_reducible apply dropItem_only (k := by decide)
    | (with_reducible refine Only.each ?_ (fun _ _ => ?_))
    | with_reducible apply onlyExc_need
    | with_reducible apply onlyExc_pure
    | with_reducible apply onlyExc_ok
    | with_reducible apply onlyExc_error
    | with_reducible apply onlyOut_next
    | (with_reducible refine onlyExc_bind (fun _ => ?_))
    | dsimp only)

theorem execRealignSlewEnd_core : ∀ x0 s,
    OnlyOut [.clock, .ductus, .synth, .host] s (execRealignSlewEnd x0 s) := by
  intro x0 s
  unfold execRealignSlewEnd
  try dsimp only
  repeat (first
    | with_reducible exact Only.refl _ _
    | with_reducible assumption
    | split
    | with_reducible apply endSlew_only (k := by decide)
    | with_reducible apply settleSlew_only (k := by decide)
    | with_reducible apply onlyOut_next
    | dsimp only)

theorem execFrameStep_core : ∀ x0 x1 s, OnlyOut [.ductus, .synth, .host] s (execFrameStep x0 x1 s) := by
  intro x0 x1 s
  unfold execFrameStep
  try dsimp only
  repeat (first
    | with_reducible exact Only.refl _ _
    | with_reducible assumption
    | split
    | with_reducible apply itemDone_only (k := by decide)
    | with_reducible apply stepEvout_only (k := by decide)
    | with_reducible apply stepFrame_only (k := by decide)
    | with_reducible apply finishRealign_only (k := by decide)
    | with_reducible apply onlyOut_next
    | dsimp only)

theorem execEvoutProgram_core : ∀ x0 x1 s, OnlyOut [.synth, .host] s (execEvoutProgram x0 x1 s) := by
  intro x0 x1 s
  unfold execEvoutProgram
  try dsimp only
  repeat (first
    | (refine onlyOut_runConfig (fun _ _ => ?_) (by decide))
    | with_reducible exact Only.refl _ _
    | with_reducible assumption
    | split
    | with_reducible apply modEvout_only (k := by decide)
    | with_reducible apply putProgram_only (k := by decide)
    | with_reducible apply onlyExc_need
    | with_reducible apply onlyExc_pure
    | with_reducible apply onlyExc_ok
    | with_reducible apply onlyExc_error
    | with_reducible apply onlyOut_next
    | (with_reducible refine onlyExc_bind (fun _ => ?_))
    | dsimp only)

theorem execEvoutProgramReadBack_core : ∀ x0 x1 s, OnlyOut [.host] s (execEvoutProgramReadBack x0 x1 s) := by
  intro x0 x1 s
  unfold execEvoutProgramReadBack
  try dsimp only
  repeat (first
    | (refine onlyOut_runRead (by decide))
    | with_reducible exact Only.refl _ _
    | with_reducible assumption
    | split
    | with_reducible apply onlyOut_next
    | (with_reducible refine onlyExc_bind (fun _ => ?_))
    | dsimp only)

theorem execEvoutPulse_core : ∀ x0 s, OnlyOut [.synth, .host] s (execEvoutPulse x0 s) := by
  intro x0 s
  unfold execEvoutPulse
  try dsimp only
  repeat (first
    | with_reducible exact Only.refl _ _
    | with_reducible assumption
    | split
    | with_reducible apply modEvout_only (k := by decide)
    | with_reducible apply raise_only (k := by decide)
    | with_reducible apply onlyOut_next
    | dsimp only)

theorem execLoopbackCheck_core : ∀ x0 x1 x2 x3 s,
    OnlyOut [.synth, .nib, .host] s (execLoopbackCheck x0 x1 x2 x3 s) := by
  intro x0 x1 x2 x3 s
  unfold execLoopbackCheck
  try dsimp only
  repeat (first
    | (refine onlyOut_runAccepted (fun _ _ => ?_) (by decide))
    | with_reducible exact Only.refl _ _
    | with_reducible assumption
    | split
    | with_reducible apply modSynth_only (k := by decide)
    | (with_reducible refine Only.ofOpt2 ?_ (by assumption); apply takeChannel_only (k := by decide))
    | with_reducible apply takeChannel_only (k := by decide)
    | with_reducible apply onlyExc_need
    | with_reducible apply onlyExc_pure
    | with_reducible apply onlyExc_ok
    | with_reducible apply onlyExc_error
    | with_reducible apply onlyOut_next
    | (with_reducible refine onlyExc_bind (fun _ => ?_))
    | dsimp only)

theorem execLoopbackComplete_core : ∀ x0 x1 x2 s,
    OnlyOut [.synth, .nib, .host] s (execLoopbackComplete x0 x1 x2 s) := by
  intro x0 x1 x2 s
  unfold execLoopbackComplete
  try dsimp only
  repeat (first
    | with_reducible exact Only.refl _ _
    | with_reducible assumption
    | split
    | with_reducible apply modSynth_only (k := by decide)
    | with_reducible apply releaseChannel_only (k := by decide)
    | with_reducible apply completeCmd_only (k := by decide)
    | with_reducible apply raise_only (k := by decide)
    | with_reducible apply onlyOut_next
    | dsimp only)

theorem execOutputStatus_core : ∀ x0 s, OnlyOut [.host] s (execOutputStatus x0 s) := by
  intro x0 s
  unfold execOutputStatus
  try dsimp only
  repeat (first
    | (refine onlyOut_runRead (by decide))
    | with_reducible exact Only.refl _ _
    | with_reducible assumption
    | split
    | with_reducible apply onlyOut_next
    | (with_reducible refine onlyExc_bind (fun _ => ?_))
    | dsimp only)

theorem execMarginConfigure_core : ∀ x0 x1 s, OnlyOut [.margin, .host] s (execMarginConfigure x0 x1 s) := by
  intro x0 x1 s
  unfold execMarginConfigure
  try dsimp only
  repeat (first
    | (refine onlyOut_runConfig (fun _ _ => ?_) (by decide))
    | with_reducible exact Only.refl _ _
    | with_reducible assumption
    | split
    | with_reducible apply putMargin_only (k := by decide)
    | with_reducible apply onlyExc_need
    | with_reducible apply onlyExc_pure
    | with_reducible apply onlyExc_ok
    | with_reducible apply onlyExc_error
    | with_reducible apply onlyOut_next
    | (with_reducible refine onlyExc_bind (fun _ => ?_))
    | dsimp only)

theorem execMarginConfigureReadBack_core : ∀ x0 x1 s,
    OnlyOut [.host] s (execMarginConfigureReadBack x0 x1 s) := by
  intro x0 x1 s
  unfold execMarginConfigureReadBack
  try dsimp only
  repeat (first
    | (refine onlyOut_runRead (by decide))
    | with_reducible exact Only.refl _ _
    | with_reducible assumption
    | split
    | with_reducible apply onlyOut_next
    | (with_reducible refine onlyExc_bind (fun _ => ?_))
    | dsimp only)

theorem execTemperatureReport_core : ∀ x0 x1 x2 s,
    OnlyOut [.margin, .host] s (execTemperatureReport x0 x1 x2 s) := by
  intro x0 x1 x2 s
  unfold execTemperatureReport
  try dsimp only
  repeat (first
    | (refine onlyOut_runSimple (fun _ => ?_) (by decide))
    | with_reducible exact Only.refl _ _
    | with_reducible assumption
    | split
    | with_reducible apply modMargin_only (k := by decide)
    | with_reducible apply onlyExc_need
    | with_reducible apply onlyExc_pure
    | with_reducible apply onlyExc_ok
    | with_reducible apply onlyExc_error
    | with_reducible apply onlyOut_next
    | (with_reducible refine onlyExc_bind (fun _ => ?_))
    | dsimp only)

theorem execMarginEvaluation_core : ∀ x0 s,
    OnlyOut [.ductus, .margin, .host] s (execMarginEvaluation x0 s) := by
  intro x0 s
  unfold execMarginEvaluation
  split
  · exact onlyOut_next (.refl _ _)
  · dsimp only
    apply onlyOut_next
    refine Only.trans ?_ (.ite (oweStatement_only (.refl _ _) (by decide)) (.refl _ _))
    apply modDuctus_only (k := by decide)
    apply enqueue_only (k := by decide)
    apply judgeAll_only (k := by decide)
    apply modMargin_only (k := by decide)
    refine Only.trans ?_ (.ite (raise_only (.refl _ _) (by decide)) (.refl _ _))
    apply modMargin_only (k := by decide)
    apply ageWiden_only (k := by decide)
    exact modMargin_only (.refl _ _) (by decide)

theorem execStatementSigned_core : ∀ s, OnlyOut [.margin, .host] s (execStatementSigned s) := by
  intro s
  unfold execStatementSigned
  try dsimp only
  repeat (first
    | with_reducible exact Only.refl _ _
    | with_reducible assumption
    | split
    | with_reducible apply modMargin_only (k := by decide)
    | with_reducible apply enqueue_only (k := by decide)
    | with_reducible apply onlyOut_next
    | dsimp only)

theorem execBoundStale_core : ∀ s, OnlyOut [.margin, .host] s (execBoundStale s) := by
  intro s
  unfold execBoundStale
  try dsimp only
  repeat (first
    | with_reducible exact Only.refl _ _
    | with_reducible assumption
    | split
    | with_reducible apply modMargin_only (k := by decide)
    | with_reducible apply judgeAll_only (k := by decide)
    | with_reducible apply raise_only (k := by decide)
    | with_reducible apply onlyOut_next
    | dsimp only)

theorem execBoundStaleSaturation_core : ∀ s, OnlyOut [.margin] s (execBoundStaleSaturation s) := by
  intro s
  unfold execBoundStaleSaturation
  try dsimp only
  repeat (first
    | with_reducible exact Only.refl _ _
    | with_reducible assumption
    | split
    | with_reducible apply modMargin_only (k := by decide)
    | with_reducible apply judgeAll_only (k := by decide)
    | with_reducible apply onlyOut_next
    | dsimp only)

theorem execClassHoldExpiry_core : ∀ x0 s, OnlyOut [.margin] s (execClassHoldExpiry x0 s) := by
  intro x0 s
  unfold execClassHoldExpiry
  try dsimp only
  repeat (first
    | with_reducible exact Only.refl _ _
    | with_reducible assumption
    | split
    | with_reducible apply modMargin_only (k := by decide)
    | with_reducible apply judgeClass_only (k := by decide)
    | with_reducible apply onlyOut_next
    | dsimp only)

theorem execMarginStatus_core : ∀ x0 s, OnlyOut [.host] s (execMarginStatus x0 s) := by
  intro x0 s
  unfold execMarginStatus
  try dsimp only
  repeat (first
    | (refine onlyOut_runRead (by decide))
    | with_reducible exact Only.refl _ _
    | with_reducible assumption
    | split
    | with_reducible apply onlyOut_next
    | (with_reducible refine onlyExc_bind (fun _ => ?_))
    | dsimp only)

theorem execPtpServiceConfigure_core : ∀ x0 x1 s,
    OnlyOut [.sel, .net, .stack, .host] s (execPtpServiceConfigure x0 x1 s) := by
  intro x0 x1 s
  unfold execPtpServiceConfigure
  try dsimp only
  repeat (first
    | (refine onlyOut_runConfig (fun _ _ => ?_) (by decide))
    | with_reducible exact Only.refl _ _
    | with_reducible assumption
    | split
    | (with_reducible refine Only.ofExc ?_ (by assumption); apply putPtp_only (k := by decide))
    | with_reducible apply putPtp_only (k := by decide)
    | with_reducible apply onlyExc_need
    | with_reducible apply onlyExc_pure
    | with_reducible apply onlyExc_ok
    | with_reducible apply onlyExc_error
    | with_reducible apply onlyOut_next
    | (with_reducible refine onlyExc_bind (fun _ => ?_))
    | dsimp only)

theorem execPtpServiceConfigureReadBack_core : ∀ x0 x1 s,
    OnlyOut [.host] s (execPtpServiceConfigureReadBack x0 x1 s) := by
  intro x0 x1 s
  unfold execPtpServiceConfigureReadBack
  try dsimp only
  repeat (first
    | (refine onlyOut_runRead (by decide))
    | with_reducible exact Only.refl _ _
    | with_reducible assumption
    | split
    | with_reducible apply onlyOut_next
    | (with_reducible refine onlyExc_bind (fun _ => ?_))
    | dsimp only)

theorem execCancellingTimeout_core : ∀ x0 s,
    OnlyOut [.net, .stack, .host] s (execCancellingTimeout x0 s) := by
  intro x0 s
  unfold execCancellingTimeout
  try dsimp only
  repeat (first
    | with_reducible exact Only.refl _ _
    | with_reducible assumption
    | split
    | with_reducible apply replicateSession_only (k := by decide)
    | with_reducible apply dropSession_only (k := by decide)
    | (with_reducible refine Only.each ?_ (fun _ _ => ?_))
    | with_reducible apply onlyOut_next
    | dsimp only)

theorem execPtpGlobalConfigure_core : ∀ x0 x1 s,
    OnlyOut [.net, .stack, .host] s (execPtpGlobalConfigure x0 x1 s) := by
  intro x0 x1 s
  unfold execPtpGlobalConfigure
  try dsimp only
  repeat (first
    | (refine onlyOut_runConfig (fun _ _ => ?_) (by decide))
    | with_reducible exact Only.refl _ _
    | with_reducible assumption
    | split
    | (with_reducible refine Only.ofExc ?_ (by assumption); apply putGlobal_only (k := by decide))
    | with_reducible apply putGlobal_only (k := by decide)
    | with_reducible apply onlyExc_need
    | with_reducible apply onlyExc_pure
    | with_reducible apply onlyExc_ok
    | with_reducible apply onlyExc_error
    | with_reducible apply onlyOut_next
    | (with_reducible refine onlyExc_bind (fun _ => ?_))
    | dsimp only)

theorem execPtpGlobalConfigureReadBack_core : ∀ x0 x1 s,
    OnlyOut [.host] s (execPtpGlobalConfigureReadBack x0 x1 s) := by
  intro x0 x1 s
  unfold execPtpGlobalConfigureReadBack
  try dsimp only
  repeat (first
    | (refine onlyOut_runRead (by decide))
    | with_reducible exact Only.refl _ _
    | with_reducible assumption
    | split
    | with_reducible apply onlyOut_next
    | (with_reducible refine onlyExc_bind (fun _ => ?_))
    | dsimp only)

theorem execSessionRead_core : ∀ x0 x1 x2 s, OnlyOut [.net, .host] s (execSessionRead x0 x1 x2 s) := by
  intro x0 x1 x2 s
  unfold execSessionRead
  try dsimp only
  repeat (first
    | (refine onlyOut_runRead (by decide))
    | with_reducible exact Only.refl _ _
    | with_reducible assumption
    | split
    | with_reducible apply settleCounts_only (k := by decide)
    | with_reducible apply onlyOut_next
    | (with_reducible refine onlyExc_bind (fun _ => ?_))
    | dsimp only)

theorem execPtpStatus_core : ∀ x0 x1 s, OnlyOut [.host] s (execPtpStatus x0 x1 s) := by
  intro x0 x1 s
  unfold execPtpStatus
  try dsimp only
  repeat (first
    | (refine onlyOut_runRead (by decide))
    | with_reducible exact Only.refl _ _
    | with_reducible assumption
    | split
    | with_reducible apply onlyOut_next
    | (with_reducible refine onlyExc_bind (fun _ => ?_))
    | dsimp only)

theorem execSaConfigure_core : ∀ x0 x1 s,
    OnlyOut [.net, .keys, .stack, .host] s (execSaConfigure x0 x1 s) := by
  intro x0 x1 s
  unfold execSaConfigure
  try dsimp only
  repeat (first
    | (refine onlyOut_runConfig (fun _ _ => ?_) (by decide))
    | with_reducible exact Only.refl _ _
    | with_reducible assumption
    | split
    | (with_reducible refine Only.ofExc ?_ (by assumption); apply putSa_only (k := by decide))
    | with_reducible apply putSa_only (k := by decide)
    | with_reducible apply onlyExc_need
    | with_reducible apply onlyExc_pure
    | with_reducible apply onlyExc_ok
    | with_reducible apply onlyExc_error
    | with_reducible apply onlyOut_next
    | (with_reducible refine onlyExc_bind (fun _ => ?_))
    | dsimp only)

theorem execSaConfigureReadBack_core : ∀ x0 x1 s, OnlyOut [.host] s (execSaConfigureReadBack x0 x1 s) := by
  intro x0 x1 s
  unfold execSaConfigureReadBack
  try dsimp only
  repeat (first
    | (refine onlyOut_runRead (by decide))
    | with_reducible exact Only.refl _ _
    | with_reducible assumption
    | split
    | with_reducible apply onlyOut_next
    | (with_reducible refine onlyExc_bind (fun _ => ?_))
    | dsimp only)

theorem execKeyReplace_core : ∀ x0 x1 x2 x3 x4 s,
    OnlyOut [.net, .keys, .stack, .host] s (execKeyReplace x0 x1 x2 x3 x4 s) := by
  intro x0 x1 x2 x3 x4 s
  unfold execKeyReplace
  try dsimp only
  repeat (first
    | (refine onlyOut_runSimple (fun _ => ?_) (by decide))
    | with_reducible exact Only.refl _ _
    | with_reducible assumption
    | split
    | with_reducible apply replaceKey_only (k := by decide)
    | with_reducible apply onlyExc_need
    | with_reducible apply onlyExc_pure
    | with_reducible apply onlyExc_ok
    | with_reducible apply onlyExc_error
    | with_reducible apply onlyOut_next
    | (with_reducible refine onlyExc_bind (fun _ => ?_))
    | dsimp only)

theorem execSaInvalidate_core : ∀ x0 x1 s,
    OnlyOut [.net, .keys, .stack, .host] s (execSaInvalidate x0 x1 s) := by
  intro x0 x1 s
  unfold execSaInvalidate
  try dsimp only
  repeat (first
    | (refine onlyOut_runSimple (fun _ => ?_) (by decide))
    | with_reducible exact Only.refl _ _
    | with_reducible assumption
    | split
    | with_reducible apply freeHandle_only (k := by decide)
    | with_reducible apply raise_only (k := by decide)
    | with_reducible apply replicateSaKey_only (k := by decide)
    | with_reducible apply setSa_only (k := by decide)
    | with_reducible apply onlyExc_need
    | with_reducible apply onlyExc_pure
    | with_reducible apply onlyExc_ok
    | with_reducible apply onlyExc_error
    | with_reducible apply onlyOut_next
    | (with_reducible refine onlyExc_bind (fun _ => ?_))
    | dsimp only)

theorem execNegotiation_core : ∀ s, OnlyOut [.net, .stack, .host] s (execNegotiation s) := by
  intro s
  unfold execNegotiation
  split
  · exact onlyOut_next (.refl _ _)
  · split
    · exact onlyOut_next (.refl _ _)
    · dsimp only
      split
      · split
        · exact onlyOut_next (modPtp_only (.refl _ _) (by decide))
        · split
          · rename_i e
            exact onlyOut_next (Only.pair (verifyIcv_only (modPtp_only (.refl _ _) (by decide)) (by decide)) e)
          · rename_i e
            have h := Only.pair (ws := [.net, .stack, .host])
              (verifyIcv_only (modPtp_only (.refl _ _) (by decide)) (by decide)) e
            have k := fun y l u => only_foldl_snd (ws := [.net, .stack, .host]) (f := fun x a => settleTlv y a x)
              (fun x a => settleTlv_core y a x) l u
            split
            · exact onlyOut_next ((countUnknown_only h (by decide)).trans (k _ _ (_, _)))
            · exact onlyOut_next (sendSignal_only ((countUnknown_only h (by decide)).trans (k _ _ (_, _))) (by decide))
      · exact onlyOut_next (modPtp_only (.refl _ _) (by decide))

theorem execGrantExpirySweep_core : ∀ s,
    OnlyOut [.clock, .refs, .sel, .ductus, .synth, .net, .stack, .host] s (execGrantExpirySweep s) := by
  intro s
  unfold execGrantExpirySweep
  try dsimp only
  repeat (first
    | with_reducible exact Only.refl _ _
    | with_reducible assumption
    | split
    | with_reducible apply sweepSession_only (k := by decide)
    | with_reducible apply settleCounts_only (k := by decide)
    | with_reducible apply sweepEntry_only (k := by decide)
    | (with_reducible refine Only.each ?_ (fun _ _ => ?_))
    | with_reducible apply onlyOut_next
    | dsimp only)

theorem execPtpTransaction_core : ∀ x0 s,
    OnlyOut [.margin, .net, .stack, .host] s (execPtpTransaction x0 s) := by
  intro x0 s
  unfold execPtpTransaction
  try dsimp only
  repeat (first
    | with_reducible exact Only.refl _ _
    | with_reducible assumption
    | split
    | with_reducible apply modPtp_only (k := by decide)
    | (with_reducible refine Only.ofOpt ?_ (by assumption); apply ptpAnswer_only (k := by decide))
    | with_reducible apply ptpAnswer_only (k := by decide)
    | with_reducible apply Only.getD
    | with_reducible apply onlyOut_next
    | dsimp only)

theorem execScheduledMessage_core : ∀ x0 x1 x2 s,
    OnlyOut [.margin, .net, .stack, .host] s (execScheduledMessage x0 x1 x2 s) := by
  intro x0 x1 x2 s
  unfold execScheduledMessage
  try dsimp only
  repeat (first
    | with_reducible exact Only.refl _ _
    | with_reducible assumption
    | split
    | with_reducible apply sendDelayReq_only (k := by decide)
    | with_reducible apply sendTimed_only (k := by decide)
    | with_reducible apply onlyOut_next
    | dsimp only)

theorem execClientEntry_core : ∀ x0 x1 s,
    OnlyOut [.sel, .net, .stack, .host] s (execClientEntry x0 x1 s) := by
  intro x0 x1 s
  unfold execClientEntry
  try dsimp only
  repeat (first
    | (refine onlyOut_runConfig (fun _ _ => ?_) (by decide))
    | with_reducible exact Only.refl _ _
    | with_reducible assumption
    | split
    | with_reducible apply applyEntry_only (k := by decide)
    | with_reducible apply onlyExc_need
    | with_reducible apply onlyExc_pure
    | with_reducible apply onlyExc_ok
    | with_reducible apply onlyExc_error
    | with_reducible apply onlyOut_next
    | (with_reducible refine onlyExc_bind (fun _ => ?_))
    | dsimp only)

theorem execClientEntryReadBack_core : ∀ x0 x1 s, OnlyOut [.host] s (execClientEntryReadBack x0 x1 s) := by
  intro x0 x1 s
  unfold execClientEntryReadBack
  try dsimp only
  repeat (first
    | (refine onlyOut_runRead (by decide))
    | with_reducible exact Only.refl _ _
    | with_reducible assumption
    | split
    | with_reducible apply onlyOut_next
    | (with_reducible refine onlyExc_bind (fun _ => ?_))
    | dsimp only)

theorem execClientConfigure_core : ∀ x0 x1 s,
    OnlyOut [.sel, .net, .stack, .host] s (execClientConfigure x0 x1 s) := by
  intro x0 x1 s
  unfold execClientConfigure
  try dsimp only
  repeat (first
    | (refine onlyOut_runConfig (fun _ _ => ?_) (by decide))
    | with_reducible exact Only.refl _ _
    | with_reducible assumption
    | split
    | with_reducible apply modPtp_only (k := by decide)
    | with_reducible apply settleParents_only (k := by decide)
    | with_reducible apply onlyExc_need
    | with_reducible apply onlyExc_pure
    | with_reducible apply onlyExc_ok
    | with_reducible apply onlyExc_error
    | with_reducible apply onlyOut_next
    | (with_reducible refine onlyExc_bind (fun _ => ?_))
    | dsimp only)

theorem execClientConfigureReadBack_core : ∀ x0 x1 s,
    OnlyOut [.host] s (execClientConfigureReadBack x0 x1 s) := by
  intro x0 x1 s
  unfold execClientConfigureReadBack
  try dsimp only
  repeat (first
    | (refine onlyOut_runRead (by decide))
    | with_reducible exact Only.refl _ _
    | with_reducible assumption
    | split
    | with_reducible apply onlyOut_next
    | (with_reducible refine onlyExc_bind (fun _ => ?_))
    | dsimp only)

theorem execPtpClientMessage_core : ∀ x0 s,
    OnlyOut [.clock, .refs, .sel, .ductus, .synth, .net, .stack, .host] s (execPtpClientMessage x0 s) := by
  intro x0 s
  unfold execPtpClientMessage
  try dsimp only
  repeat (first
    | with_reducible exact Only.refl _ _
    | with_reducible assumption
    | split
    | with_reducible apply modPtp_only (k := by decide)
    | (with_reducible refine Only.pair ?_ (by assumption); apply verifyIcv_only (k := by decide))
    | with_reducible apply verifyIcv_only (k := by decide)
    | with_reducible apply settleParents_only (k := by decide)
    | with_reducible apply modEntry_only (k := by decide)
    | with_reducible apply countUnknown_only (k := by decide)
    | with_reducible apply takeSync_only (k := by decide)
    | with_reducible apply takeFollowUp_only (k := by decide)
    | with_reducible apply takeDelayResp_only (k := by decide)
    | with_reducible apply takeAnnounce_only (k := by decide)
    | with_reducible apply takeNeg_only (k := by decide)
    | (with_reducible refine Only.each ?_ (fun _ _ => ?_))
    | with_reducible apply onlyOut_next
    | dsimp only)

theorem execGrantRenewal_core : ∀ x0 x1 s,
    OnlyOut [.clock, .refs, .sel, .ductus, .synth, .net, .stack, .host] s (execGrantRenewal x0 x1 s) := by
  intro x0 x1 s
  unfold execGrantRenewal
  try dsimp only
  repeat (first
    | with_reducible exact Only.refl _ _
    | with_reducible assumption
    | split
    | with_reducible apply loseParent_only (k := by decide)
    | with_reducible apply askGrants_only (k := by decide)
    | with_reducible apply onlyOut_next
    | dsimp only)

theorem execAnnounceTimeout_core : ∀ x0 s,
    OnlyOut [.clock, .refs, .sel, .ductus, .synth, .net, .stack, .host] s (execAnnounceTimeout x0 s) := by
  intro x0 s
  unfold execAnnounceTimeout
  try dsimp only
  repeat (first
    | with_reducible exact Only.refl _ _
    | with_reducible assumption
    | split
    | with_reducible apply loseParent_only (k := by decide)
    | with_reducible apply settleParents_only (k := by decide)
    | with_reducible apply modEntry_only (k := by decide)
    | with_reducible apply onlyOut_next
    | dsimp only)

theorem execFollowUpTimeout_core : ∀ x0 s, OnlyOut [.net] s (execFollowUpTimeout x0 s) := by
  intro x0 s
  unfold execFollowUpTimeout
  try dsimp only
  repeat (first
    | with_reducible exact Only.refl _ _
    | with_reducible assumption
    | split
    | with_reducible apply completeExchange_only (k := by decide)
    | with_reducible apply modEntry_only (k := by decide)
    | with_reducible apply onlyOut_next
    | dsimp only)

theorem execMeasIntervalEnd_core : ∀ x0 s,
    OnlyOut [.clock, .refs, .ductus, .margin, .synth, .net, .host] s (execMeasIntervalEnd x0 s) := by
  intro x0 s
  unfold execMeasIntervalEnd
  try dsimp only
  repeat (first
    | with_reducible exact Only.refl _ _
    | with_reducible assumption
    | split
    | with_reducible apply modRef_only (k := by decide)
    | with_reducible apply modPtpu_only (k := by decide)
    | with_reducible apply refMiss_only (k := by decide)
    | with_reducible apply refArrival_only (k := by decide)
    | with_reducible apply takeOffset_only (k := by decide)
    | with_reducible apply watchPath_only (k := by decide)
    | with_reducible apply onlyOut_next
    | dsimp only)

theorem execPathStableExpiry_core : ∀ x0 s, OnlyOut [.refs] s (execPathStableExpiry x0 s) := by
  intro x0 s
  unfold execPathStableExpiry
  try dsimp only
  repeat (first
    | with_reducible exact Only.refl _ _
    | with_reducible assumption
    | split
    | with_reducible apply modRef_only (k := by decide)
    | with_reducible apply clearReason_only (k := by decide)
    | with_reducible apply onlyOut_next
    | dsimp only)

theorem execStackFrameRelay_core : ∀ x0 s, OnlyOut [.net, .stack, .host] s (execStackFrameRelay x0 s) := by
  intro x0 s
  unfold execStackFrameRelay
  try dsimp only
  repeat (first
    | with_reducible exact Only.refl _ _
    | with_reducible assumption
    | split
    | with_reducible apply modLink_only (k := by decide)
    | with_reducible apply violation_only (k := by decide)
    | with_reducible apply onlyOut_next
    | dsimp only)

theorem execStackConfigure_core : ∀ x0 x1 s, OnlyOut [.stack, .host] s (execStackConfigure x0 x1 s) := by
  intro x0 x1 s
  unfold execStackConfigure
  try dsimp only
  repeat (first
    | (refine onlyOut_runConfig (fun _ _ => ?_) (by decide))
    | with_reducible exact Only.refl _ _
    | with_reducible assumption
    | split
    | with_reducible apply modStack_only (k := by decide)
    | with_reducible apply onlyExc_need
    | with_reducible apply onlyExc_pure
    | with_reducible apply onlyExc_ok
    | with_reducible apply onlyExc_error
    | with_reducible apply onlyOut_next
    | (with_reducible refine onlyExc_bind (fun _ => ?_))
    | dsimp only)

theorem execStackConfigureReadBack_core : ∀ x0 x1 s,
    OnlyOut [.host] s (execStackConfigureReadBack x0 x1 s) := by
  intro x0 x1 s
  unfold execStackConfigureReadBack
  try dsimp only
  repeat (first
    | (refine onlyOut_runRead (by decide))
    | with_reducible exact Only.refl _ _
    | with_reducible assumption
    | split
    | with_reducible apply onlyOut_next
    | (with_reducible refine onlyExc_bind (fun _ => ?_))
    | dsimp only)

theorem execStackStatus_core : ∀ x0 s, OnlyOut [.host] s (execStackStatus x0 s) := by
  intro x0 s
  unfold execStackStatus
  try dsimp only
  repeat (first
    | (refine onlyOut_runRead (by decide))
    | with_reducible exact Only.refl _ _
    | with_reducible assumption
    | split
    | with_reducible apply onlyOut_next
    | (with_reducible refine onlyExc_bind (fun _ => ?_))
    | dsimp only)

theorem execStackKeySwitch_core : ∀ s, OnlyOut [.keys, .stack] s (execStackKeySwitch s) := by
  intro s
  unfold execStackKeySwitch
  try dsimp only
  repeat (first
    | with_reducible exact Only.refl _ _
    | with_reducible assumption
    | split
    | with_reducible apply modStack_only (k := by decide)
    | with_reducible apply beginWrite_only (k := by decide)
    | with_reducible apply onlyOut_next
    | dsimp only)

theorem execStackOldKeyExpiry_core : ∀ s, OnlyOut [.stack] s (execStackOldKeyExpiry s) := by
  intro s
  unfold execStackOldKeyExpiry
  try dsimp only
  repeat (first
    | with_reducible exact Only.refl _ _
    | with_reducible assumption
    | split
    | with_reducible apply modStack_only (k := by decide)
    | with_reducible apply onlyOut_next
    | dsimp only)

theorem execStackLinkUp_core : ∀ x0 s, OnlyOut [.stack, .host] s (execStackLinkUp x0 s) := by
  intro x0 s
  unfold execStackLinkUp
  try dsimp only
  repeat (first
    | with_reducible exact Only.refl _ _
    | with_reducible assumption
    | split
    | with_reducible apply modLink_only (k := by decide)
    | with_reducible apply raise_only (k := by decide)
    | with_reducible apply onlyOut_next
    | dsimp only)

theorem execStackLinkDown_core : ∀ x0 s,
    OnlyOut [.clock, .refs, .ductus, .synth, .stack, .host] s (execStackLinkDown x0 s) := by
  intro x0 s
  unfold execStackLinkDown
  try dsimp only
  repeat (first
    | with_reducible exact Only.refl _ _
    | with_reducible assumption
    | split
    | with_reducible apply modLink_only (k := by decide)
    | with_reducible apply suspectLink_only (k := by decide)
    | with_reducible apply raise_only (k := by decide)
    | with_reducible apply onlyOut_next
    | dsimp only)

theorem execHeartbeatMiss_core : ∀ x0 s,
    OnlyOut [.clock, .refs, .ductus, .synth, .stack, .host] s (execHeartbeatMiss x0 s) := by
  intro x0 s
  unfold execHeartbeatMiss
  try dsimp only
  repeat (first
    | with_reducible exact Only.refl _ _
    | with_reducible assumption
    | split
    | with_reducible apply suspectLink_only (k := by decide)
    | with_reducible apply countLink_only (k := by decide)
    | with_reducible apply onlyOut_next
    | dsimp only)

theorem execHeartbeatSend_core : ∀ s, OnlyOut [.net, .stack, .host] s (execHeartbeatSend s) := by
  intro s
  unfold execHeartbeatSend
  try dsimp only
  repeat (first
    | with_reducible exact Only.refl _ _
    | with_reducible assumption
    | split
    | with_reducible apply modStack_only (k := by decide)
    | with_reducible apply sendOn_only (k := by decide)
    | (with_reducible refine Only.each ?_ (fun _ _ => ?_))
    | with_reducible apply onlyOut_next
    | dsimp only)

theorem execWitnessTimeout_core : ∀ s,
    OnlyOut [.clock, .refs, .ductus, .synth, .net, .keys, .stack, .host] s (execWitnessTimeout s) := by
  intro s
  unfold execWitnessTimeout
  try dsimp only
  repeat (first
    | with_reducible exact Only.refl _ _
    | with_reducible assumption
    | split
    | with_reducible apply modStack_only (k := by decide)
    | with_reducible apply removeMember_only (k := by decide)
    | (with_reducible refine Only.each ?_ (fun _ _ => ?_))
    | with_reducible apply onlyOut_next
    | dsimp only)

theorem execWitness_core : ∀ x0 x1 x2 s,
    OnlyOut [.clock, .refs, .sel, .ductus, .synth, .net, .keys, .stack, .host] s (execWitness x0 x1 x2 s) := by
  intro x0 x1 x2 s
  unfold execWitness
  try dsimp only
  repeat (first
    | (refine onlyOut_runSimple (fun _ => ?_) (by decide))
    | with_reducible exact Only.refl _ _
    | with_reducible assumption
    | split
    | (with_reducible refine Only.ofExc ?_ (by assumption); apply judgeWitness_only (k := by decide))
    | with_reducible apply judgeWitness_only (k := by decide)
    | with_reducible apply onlyExc_need
    | with_reducible apply onlyExc_pure
    | with_reducible apply onlyExc_ok
    | with_reducible apply onlyExc_error
    | with_reducible apply onlyOut_next
    | (with_reducible refine onlyExc_bind (fun _ => ?_))
    | dsimp only)

theorem execPairingStepTimeout_core : ∀ s,
    OnlyOut [.sel, .nib, .net, .keys, .stack, .host] s (execPairingStepTimeout s) := by
  intro s
  unfold execPairingStepTimeout
  try dsimp only
  repeat (first
    | with_reducible exact Only.refl _ _
    | with_reducible assumption
    | split
    | with_reducible apply failPairing_only (k := by decide)
    | with_reducible apply onlyOut_next
    | dsimp only)

theorem execPair_core : ∀ x0 x1 x2 s, OnlyOut [.nib, .net, .stack, .host] s (execPair x0 x1 x2 s) := by
  intro x0 x1 x2 s
  unfold execPair
  try dsimp only
  repeat (first
    | (refine onlyOut_runAccepted (fun _ _ => ?_) (by decide))
    | with_reducible exact Only.refl _ _
    | with_reducible assumption
    | split
    | with_reducible apply modHost_only (k := by decide)
    | with_reducible apply modStack_only (k := by decide)
    | (with_reducible refine Only.ofOpt ?_ (by assumption); apply takeLinkChannels_only (k := by decide))
    | with_reducible apply takeLinkChannels_only (k := by decide)
    | with_reducible apply Only.getD
    | with_reducible apply sendOn_only (k := by decide)
    | with_reducible apply onlyExc_need
    | with_reducible apply onlyExc_pure
    | with_reducible apply onlyExc_ok
    | with_reducible apply onlyExc_error
    | with_reducible apply onlyOut_next
    | (with_reducible refine onlyExc_bind (fun _ => ?_))
    | dsimp only)

theorem execHello_core : ∀ x0 x1 s,
    OnlyOut [.sel, .nib, .net, .keys, .stack, .host] s (execHello x0 x1 s) := by
  intro x0 x1 s
  unfold execHello
  try dsimp only
  repeat (first
    | with_reducible exact Only.refl _ _
    | with_reducible assumption
    | split
    | with_reducible apply modHost_only (k := by decide)
    | with_reducible apply modStack_only (k := by decide)
    | (with_reducible refine Only.pair ?_ (by assumption); apply takeFrame_only (k := by decide))
    | with_reducible apply takeFrame_only (k := by decide)
    | with_reducible apply sendAdmit_only (k := by decide)
    | with_reducible apply violation_only (k := by decide)
    | with_reducible apply helloOk_only (k := by decide)
    | with_reducible apply failPairing_only (k := by decide)
    | with_reducible apply sendOn_only (k := by decide)
    | with_reducible apply onlyOut_next
    | dsimp only)

theorem execConfirm_core : ∀ x0 x1 s,
    OnlyOut [.sel, .nib, .net, .keys, .stack, .host] s (execConfirm x0 x1 s) := by
  intro x0 x1 s
  unfold execConfirm
  try dsimp only
  repeat (first
    | with_reducible exact Only.refl _ _
    | with_reducible assumption
    | split
    | (with_reducible refine Only.pair ?_ (by assumption); apply takeFrame_only (k := by decide))
    | with_reducible apply takeFrame_only (k := by decide)
    | with_reducible apply violation_only (k := by decide)
    | with_reducible apply failPairing_only (k := by decide)
    | with_reducible apply beginWrite_only (k := by decide)
    | with_reducible apply modPairing_only (k := by decide)
    | with_reducible apply sendAdmit_only (k := by decide)
    | with_reducible apply onlyOut_next
    | dsimp only)

theorem execAdmission_core : ∀ x0 x1 s,
    OnlyOut [.sel, .nib, .net, .keys, .stack, .host] s (execAdmission x0 x1 s) := by
  intro x0 x1 s
  unfold execAdmission
  try dsimp only
  repeat (first
    | with_reducible exact Only.refl _ _
    | with_reducible assumption
    | split
    | (with_reducible refine Only.pair ?_ (by assumption); apply takeFrame_only (k := by decide))
    | with_reducible apply takeFrame_only (k := by decide)
    | with_reducible apply violation_only (k := by decide)
    | with_reducible apply modPairing_only (k := by decide)
    | with_reducible apply failPairing_only (k := by decide)
    | with_reducible apply onlyOut_next
    | dsimp only)

theorem execHeartbeat_core : ∀ x0 x1 x2 x3 x4 x5 x6 s,
    OnlyOut [.clock, .refs, .sel, .ductus, .synth, .nib, .net, .keys, .stack, .host] s (execHeartbeat x0 x1 x2 x3 x4 x5 x6 s) := by
  intro x0 x1 x2 x3 x4 x5 x6 s
  unfold execHeartbeat
  try dsimp only
  repeat (first
    | with_reducible exact Only.refl _ _
    | with_reducible assumption
    | split
    | with_reducible apply modLink_only (k := by decide)
    | (with_reducible refine Only.pair ?_ (by assumption); apply takeFrame_only (k := by decide))
    | with_reducible apply takeFrame_only (k := by decide)
    | with_reducible apply joinDone_only (k := by decide)
    | with_reducible apply fence_only (k := by decide)
    | with_reducible apply countLink_only (k := by decide)
    | with_reducible apply rejoinAsTwin_only (k := by decide)
    | with_reducible apply hearNeighbour_only (k := by decide)
    | with_reducible apply onlyOut_next
    | dsimp only)

theorem execMarkerSend_core : ∀ x0 x1 s, OnlyOut [.net, .stack, .host] s (execMarkerSend x0 x1 s) := by
  intro x0 x1 s
  unfold execMarkerSend
  try dsimp only
  repeat (first
    | with_reducible exact Only.refl _ _
    | with_reducible assumption
    | split
    | with_reducible apply modLink_only (k := by decide)
    | with_reducible apply sendOn_only (k := by decide)
    | with_reducible apply onlyOut_next
    | dsimp only)

theorem execMarkerReceived_core : ∀ x0 x1 x2 x3 s,
    OnlyOut [.net, .stack, .host] s (execMarkerReceived x0 x1 x2 x3 s) := by
  intro x0 x1 x2 x3 s
  unfold execMarkerReceived
  try dsimp only
  repeat (first
    | with_reducible exact Only.refl _ _
    | with_reducible assumption
    | split
    | with_reducible apply modLink_only (k := by decide)
    | with_reducible apply violation_only (k := by decide)
    | with_reducible apply onlyOut_next
    | dsimp only)

theorem execTt_core : ∀ x0 x1 x2 x3 x4 x5 x6 x7 x8 x9 x10 x11 s,
    OnlyOut [.net, .stack, .host] s (execTt x0 x1 x2 x3 x4 x5 x6 x7 x8 x9 x10 x11 s) := by
  intro x0 x1 x2 x3 x4 x5 x6 x7 x8 x9 x10 x11 s
  unfold execTt
  try dsimp only
  repeat (first
    | with_reducible exact Only.refl _ _
    | with_reducible assumption
    | split
    | with_reducible apply modLink_only (k := by decide)
    | (with_reducible refine Only.pair ?_ (by assumption); apply takeFrame_only (k := by decide))
    | with_reducible apply takeFrame_only (k := by decide)
    | with_reducible apply onlyOut_next
    | dsimp only)

theorem execStackTransferInterval_core : ∀ x0 s,
    OnlyOut [.clock, .refs, .ductus, .margin, .synth, .stack, .host] s (execStackTransferInterval x0 s) := by
  intro x0 s
  unfold execStackTransferInterval
  try dsimp only
  repeat (first
    | with_reducible exact Only.refl _ _
    | with_reducible assumption
    | split
    | with_reducible apply modLink_only (k := by decide)
    | with_reducible apply modMember_only (k := by decide)
    | with_reducible apply modRef_only (k := by decide)
    | with_reducible apply refMiss_only (k := by decide)
    | with_reducible apply countLink_only (k := by decide)
    | with_reducible apply refArrival_only (k := by decide)
    | with_reducible apply takeOffset_only (k := by decide)
    | with_reducible apply onlyOut_next
    | dsimp only)

theorem execStateSend_core : ∀ s, OnlyOut [.net, .stack, .host] s (execStateSend s) := by
  intro s
  unfold execStateSend
  try dsimp only
  repeat (first
    | with_reducible exact Only.refl _ _
    | with_reducible assumption
    | split
    | with_reducible apply sendOn_only (k := by decide)
    | (with_reducible refine Only.each ?_ (fun _ _ => ?_))
    | with_reducible apply onlyOut_next
    | dsimp only)

theorem execState_core : ∀ x0 x1 s, OnlyOut [.net, .stack, .host] s (execState x0 x1 s) := by
  intro x0 x1 s
  unfold execState
  try dsimp only
  repeat (first
    | with_reducible exact Only.refl _ _
    | with_reducible assumption
    | split
    | with_reducible apply modLink_only (k := by decide)
    | (with_reducible refine Only.pair ?_ (by assumption); apply takeFrame_only (k := by decide))
    | with_reducible apply takeFrame_only (k := by decide)
    | with_reducible apply onlyOut_next
    | dsimp only)

theorem execConfig_core : ∀ x0 x1 s, OnlyOut [.sel, .net, .keys, .stack, .host] s (execConfig x0 x1 s) := by
  intro x0 x1 s
  unfold execConfig
  try dsimp only
  repeat (first
    | with_reducible exact Only.refl _ _
    | with_reducible assumption
    | split
    | (with_reducible refine Only.pair ?_ (by assumption); apply takeFrame_only (k := by decide))
    | with_reducible apply takeFrame_only (k := by decide)
    | with_reducible apply sendAck_only (k := by decide)
    | with_reducible apply takeRecord_only (k := by decide)
    | (with_reducible refine Only.each ?_ (fun _ _ => ?_))
    | with_reducible apply onlyOut_next
    | dsimp only)

theorem execSession_core : ∀ x0 x1 s, OnlyOut [.net, .stack, .host] s (execSession x0 x1 s) := by
  intro x0 x1 s
  unfold execSession
  try dsimp only
  repeat (first
    | with_reducible exact Only.refl _ _
    | with_reducible assumption
    | split
    | (with_reducible refine Only.pair ?_ (by assumption); apply takeFrame_only (k := by decide))
    | with_reducible apply takeFrame_only (k := by decide)
    | with_reducible apply sendAck_only (k := by decide)
    | with_reducible apply takeSession_only (k := by decide)
    | (with_reducible refine Only.each ?_ (fun _ _ => ?_))
    | with_reducible apply onlyOut_next
    | dsimp only)

theorem execKey_core : ∀ x0 x1 s, OnlyOut [.net, .keys, .stack, .host] s (execKey x0 x1 s) := by
  intro x0 x1 s
  unfold execKey
  try dsimp only
  repeat (first
    | with_reducible exact Only.refl _ _
    | with_reducible assumption
    | split
    | (with_reducible refine Only.pair ?_ (by assumption); apply takeFrame_only (k := by decide))
    | with_reducible apply takeFrame_only (k := by decide)
    | with_reducible apply takeKey_only (k := by decide)
    | with_reducible apply onlyOut_next
    | dsimp only)

theorem execActivate_core : ∀ x0 x1 x2 x3 x4 s,
    OnlyOut [.net, .keys, .stack, .host] s (execActivate x0 x1 x2 x3 x4 s) := by
  intro x0 x1 x2 x3 x4 s
  unfold execActivate
  try dsimp only
  repeat (first
    | with_reducible exact Only.refl _ _
    | with_reducible assumption
    | split
    | (with_reducible refine Only.pair ?_ (by assumption); apply takeFrame_only (k := by decide))
    | with_reducible apply takeFrame_only (k := by decide)
    | with_reducible apply makeCurrent_only (k := by decide)
    | with_reducible apply modRotation_only (k := by decide)
    | with_reducible apply sendAck_only (k := by decide)
    | with_reducible apply onlyOut_next
    | dsimp only)

theorem execResign_core : ∀ x0 x1 s,
    OnlyOut [.clock, .refs, .sel, .ductus, .synth, .net, .keys, .stack, .host] s (execResign x0 x1 s) := by
  intro x0 x1 s
  unfold execResign
  try dsimp only
  repeat (first
    | with_reducible exact Only.refl _ _
    | with_reducible assumption
    | split
    | (with_reducible refine Only.pair ?_ (by assumption); apply takeFrame_only (k := by decide))
    | with_reducible apply takeFrame_only (k := by decide)
    | with_reducible apply sendAck_only (k := by decide)
    | with_reducible apply takeover_only (k := by decide)
    | with_reducible apply onlyOut_next
    | dsimp only)

theorem execLeave_core : ∀ x0 x1 s,
    OnlyOut [.clock, .refs, .ductus, .synth, .net, .keys, .stack, .host] s (execLeave x0 x1 s) := by
  intro x0 x1 s
  unfold execLeave
  try dsimp only
  repeat (first
    | with_reducible exact Only.refl _ _
    | with_reducible assumption
    | split
    | (with_reducible refine Only.pair ?_ (by assumption); apply takeFrame_only (k := by decide))
    | with_reducible apply takeFrame_only (k := by decide)
    | with_reducible apply sendAck_only (k := by decide)
    | with_reducible apply removeMember_only (k := by decide)
    | with_reducible apply onlyOut_next
    | dsimp only)

theorem execAck_core : ∀ x0 x1 x2 x3 s,
    OnlyOut [.clock, .refs, .sel, .ductus, .synth, .nib, .net, .keys, .stack, .host] s (execAck x0 x1 x2 x3 s) := by
  intro x0 x1 x2 x3 s
  unfold execAck
  try dsimp only
  repeat (first
    | with_reducible exact Only.refl _ _
    | with_reducible assumption
    | split
    | with_reducible apply modStack_only (k := by decide)
    | (with_reducible refine Only.pair ?_ (by assumption); apply takeFrame_only (k := by decide))
    | with_reducible apply takeFrame_only (k := by decide)
    | with_reducible apply settlePairing_only (k := by decide)
    | with_reducible apply acknowledged_only (k := by decide)
    | with_reducible apply onlyOut_next
    | dsimp only)

theorem execReplicationRetransmit_core : ∀ x0 s,
    OnlyOut [.clock, .refs, .sel, .ductus, .synth, .nib, .net, .keys, .stack, .host] s (execReplicationRetransmit x0 s) := by
  intro x0 s
  unfold execReplicationRetransmit
  try dsimp only
  repeat (first
    | with_reducible exact Only.refl _ _
    | with_reducible assumption
    | split
    | with_reducible apply modStack_only (k := by decide)
    | with_reducible apply countLink_only (k := by decide)
    | with_reducible apply failPairing_only (k := by decide)
    | with_reducible apply markLost_only (k := by decide)
    | with_reducible apply suspectLink_only (k := by decide)
    | with_reducible apply sendTo_only (k := by decide)
    | with_reducible apply onlyOut_next
    | dsimp only)

theorem execDetach_core : ∀ x0 s, OnlyOut [.sel, .nib, .net, .keys, .stack, .host] s (execDetach x0 s) := by
  intro x0 s
  unfold execDetach
  try dsimp only
  repeat (first
    | (refine onlyOut_runAccepted (fun _ _ => ?_) (by decide))
    | with_reducible exact Only.refl _ _
    | with_reducible assumption
    | split
    | with_reducible apply modStack_only (k := by decide)
    | with_reducible apply leaveStack_only (k := by decide)
    | with_reducible apply replicate_only (k := by decide)
    | with_reducible apply sendRepl_only (k := by decide)
    | with_reducible apply onlyExc_need
    | with_reducible apply onlyExc_pure
    | with_reducible apply onlyExc_ok
    | with_reducible apply onlyExc_error
    | with_reducible apply onlyOut_next
    | (with_reducible refine onlyExc_bind (fun _ => ?_))
    | dsimp only)

theorem execDetachAckTimeout_core : ∀ s,
    OnlyOut [.sel, .nib, .net, .keys, .stack, .host] s (execDetachAckTimeout s) := by
  intro s
  unfold execDetachAckTimeout
  try dsimp only
  repeat (first
    | with_reducible exact Only.refl _ _
    | with_reducible assumption
    | split
    | with_reducible apply leaveStack_only (k := by decide)
    | with_reducible apply onlyOut_next
    | dsimp only)

theorem execGnssPortConfigure_core : ∀ x0 x1 s, OnlyOut [.gnss, .host] s (execGnssPortConfigure x0 x1 s) := by
  intro x0 x1 s
  unfold execGnssPortConfigure
  try dsimp only
  repeat (first
    | (refine onlyOut_runConfig (fun _ _ => ?_) (by decide))
    | with_reducible exact Only.refl _ _
    | with_reducible assumption
    | split
    | with_reducible apply modPort_only (k := by decide)
    | with_reducible apply onlyExc_need
    | with_reducible apply onlyExc_pure
    | with_reducible apply onlyExc_ok
    | with_reducible apply onlyExc_error
    | with_reducible apply onlyOut_next
    | (with_reducible refine onlyExc_bind (fun _ => ?_))
    | dsimp only)

theorem execGnssPortConfigureReadBack_core : ∀ x0 x1 s,
    OnlyOut [.host] s (execGnssPortConfigureReadBack x0 x1 s) := by
  intro x0 x1 s
  unfold execGnssPortConfigureReadBack
  try dsimp only
  repeat (first
    | (refine onlyOut_runRead (by decide))
    | with_reducible exact Only.refl _ _
    | with_reducible assumption
    | split
    | with_reducible apply onlyOut_next
    | (with_reducible refine onlyExc_bind (fun _ => ?_))
    | dsimp only)

theorem execTrackingConfigure_core : ∀ x0 x1 s, OnlyOut [.gnss, .host] s (execTrackingConfigure x0 x1 s) := by
  intro x0 x1 s
  unfold execTrackingConfigure
  try dsimp only
  repeat (first
    | (refine onlyOut_runConfig (fun _ _ => ?_) (by decide))
    | with_reducible exact Only.refl _ _
    | with_reducible assumption
    | split
    | with_reducible apply modPort_only (k := by decide)
    | with_reducible apply onlyExc_need
    | with_reducible apply onlyExc_pure
    | with_reducible apply onlyExc_ok
    | with_reducible apply onlyExc_error
    | with_reducible apply onlyOut_next
    | (with_reducible refine onlyExc_bind (fun _ => ?_))
    | dsimp only)

theorem execTrackingConfigureReadBack_core : ∀ x0 x1 s,
    OnlyOut [.host] s (execTrackingConfigureReadBack x0 x1 s) := by
  intro x0 x1 s
  unfold execTrackingConfigureReadBack
  try dsimp only
  repeat (first
    | (refine onlyOut_runRead (by decide))
    | with_reducible exact Only.refl _ _
    | with_reducible assumption
    | split
    | with_reducible apply onlyOut_next
    | (with_reducible refine onlyExc_bind (fun _ => ?_))
    | dsimp only)

theorem execConsistencyConfigure_core : ∀ x0 x1 s,
    OnlyOut [.gnss, .host] s (execConsistencyConfigure x0 x1 s) := by
  intro x0 x1 s
  unfold execConsistencyConfigure
  try dsimp only
  repeat (first
    | (refine onlyOut_runConfig (fun _ _ => ?_) (by decide))
    | with_reducible exact Only.refl _ _
    | with_reducible assumption
    | split
    | with_reducible apply modPort_only (k := by decide)
    | with_reducible apply onlyExc_need
    | with_reducible apply onlyExc_pure
    | with_reducible apply onlyExc_ok
    | with_reducible apply onlyExc_error
    | with_reducible apply onlyOut_next
    | (with_reducible refine onlyExc_bind (fun _ => ?_))
    | dsimp only)

theorem execConsistencyConfigureReadBack_core : ∀ x0 x1 s,
    OnlyOut [.host] s (execConsistencyConfigureReadBack x0 x1 s) := by
  intro x0 x1 s
  unfold execConsistencyConfigureReadBack
  try dsimp only
  repeat (first
    | (refine onlyOut_runRead (by decide))
    | with_reducible exact Only.refl _ _
    | with_reducible assumption
    | split
    | with_reducible apply onlyOut_next
    | (with_reducible refine onlyExc_bind (fun _ => ?_))
    | dsimp only)

theorem execFixConfigure_core : ∀ x0 x1 s, OnlyOut [.gnss, .host] s (execFixConfigure x0 x1 s) := by
  intro x0 x1 s
  unfold execFixConfigure
  try dsimp only
  repeat (first
    | (refine onlyOut_runConfig (fun _ _ => ?_) (by decide))
    | with_reducible exact Only.refl _ _
    | with_reducible assumption
    | split
    | with_reducible apply modPort_only (k := by decide)
    | with_reducible apply endGroupDelay_only (k := by decide)
    | with_reducible apply onlyExc_need
    | with_reducible apply onlyExc_pure
    | with_reducible apply onlyExc_ok
    | with_reducible apply onlyExc_error
    | with_reducible apply onlyOut_next
    | (with_reducible refine onlyExc_bind (fun _ => ?_))
    | dsimp only)

theorem execFixConfigureReadBack_core : ∀ x0 x1 s, OnlyOut [.host] s (execFixConfigureReadBack x0 x1 s) := by
  intro x0 x1 s
  unfold execFixConfigureReadBack
  try dsimp only
  repeat (first
    | (refine onlyOut_runRead (by decide))
    | with_reducible exact Only.refl _ _
    | with_reducible assumption
    | split
    | with_reducible apply onlyOut_next
    | (with_reducible refine onlyExc_bind (fun _ => ?_))
    | dsimp only)

theorem execExclusionList_core : ∀ x0 x1 s, OnlyOut [.gnss, .host] s (execExclusionList x0 x1 s) := by
  intro x0 x1 s
  unfold execExclusionList
  try dsimp only
  repeat (first
    | (refine onlyOut_runCommand (fun _ _ => ?_) (by decide))
    | with_reducible exact Only.refl _ _
    | with_reducible assumption
    | split
    | with_reducible apply modGnss_only (k := by decide)
    | with_reducible apply onlyOut_next
    | (with_reducible refine onlyExc_bind (fun _ => ?_))
    | dsimp only)

theorem execPositionSet_core : ∀ x0 x1 x2 x3 x4 x5 s,
    OnlyOut [.gnss, .host] s (execPositionSet x0 x1 x2 x3 x4 x5 s) := by
  intro x0 x1 x2 x3 x4 x5 s
  unfold execPositionSet
  try dsimp only
  repeat (first
    | (refine onlyOut_runSimple (fun _ => ?_) (by decide))
    | with_reducible exact Only.refl _ _
    | with_reducible assumption
    | split
    | with_reducible apply modPort_only (k := by decide)
    | with_reducible apply onlyExc_need
    | with_reducible apply onlyExc_pure
    | with_reducible apply onlyExc_ok
    | with_reducible apply onlyExc_error
    | with_reducible apply onlyOut_next
    | (with_reducible refine onlyExc_bind (fun _ => ?_))
    | dsimp only)

theorem execOrbitExport_core : ∀ x0 s, OnlyOut [.host] s (execOrbitExport x0 s) := by
  intro x0 s
  unfold execOrbitExport
  try dsimp only
  repeat (first
    | (refine onlyOut_runRead (by decide))
    | with_reducible exact Only.refl _ _
    | with_reducible assumption
    | split
    | with_reducible apply onlyOut_next
    | (with_reducible refine onlyExc_bind (fun _ => ?_))
    | dsimp only)

theorem execOrbitImport_core : ∀ x0 x1 s, OnlyOut [.gnss, .host] s (execOrbitImport x0 x1 s) := by
  intro x0 x1 s
  unfold execOrbitImport
  try dsimp only
  repeat (first
    | (refine onlyOut_runCommand (fun _ _ => ?_) (by decide))
    | with_reducible exact Only.refl _ _
    | with_reducible assumption
    | split
    | with_reducible apply modGnss_only (k := by decide)
    | with_reducible apply onlyOut_next
    | (with_reducible refine onlyExc_bind (fun _ => ?_))
    | dsimp only)

theorem execGroupDelayMeasure_core : ∀ x0 x1 x2 s,
    OnlyOut [.gnss, .host] s (execGroupDelayMeasure x0 x1 x2 s) := by
  intro x0 x1 x2 s
  unfold execGroupDelayMeasure
  try dsimp only
  repeat (first
    | (refine onlyOut_runAccepted (fun _ _ => ?_) (by decide))
    | with_reducible exact Only.refl _ _
    | with_reducible assumption
    | split
    | with_reducible apply modPort_only (k := by decide)
    | with_reducible apply onlyExc_need
    | with_reducible apply onlyExc_pure
    | with_reducible apply onlyExc_ok
    | with_reducible apply onlyExc_error
    | with_reducible apply onlyOut_next
    | (with_reducible refine onlyExc_bind (fun _ => ?_))
    | dsimp only)

theorem execGroupDelayMeasureEnd_core : ∀ x0 x1 x2 s,
    OnlyOut [.gnss, .host] s (execGroupDelayMeasureEnd x0 x1 x2 s) := by
  intro x0 x1 x2 s
  unfold execGroupDelayMeasureEnd
  try dsimp only
  repeat (first
    | with_reducible exact Only.refl _ _
    | with_reducible assumption
    | split
    | with_reducible apply modPort_only (k := by decide)
    | with_reducible apply endGroupDelay_only (k := by decide)
    | with_reducible apply onlyOut_next
    | dsimp only)

theorem execGroupDelayResult_core : ∀ x0 x1 s, OnlyOut [.host] s (execGroupDelayResult x0 x1 s) := by
  intro x0 x1 s
  unfold execGroupDelayResult
  try dsimp only
  repeat (first
    | (refine onlyOut_runRead (by decide))
    | with_reducible exact Only.refl _ _
    | with_reducible assumption
    | split
    | with_reducible apply onlyOut_next
    | (with_reducible refine onlyExc_bind (fun _ => ?_))
    | dsimp only)

theorem execGnssStatus_core : ∀ x0 x1 s, OnlyOut [.host] s (execGnssStatus x0 x1 s) := by
  intro x0 x1 s
  unfold execGnssStatus
  try dsimp only
  repeat (first
    | (refine onlyOut_runRead (by decide))
    | with_reducible exact Only.refl _ _
    | with_reducible assumption
    | split
    | with_reducible apply onlyOut_next
    | (with_reducible refine onlyExc_bind (fun _ => ?_))
    | dsimp only)

theorem execSnapshot_core : ∀ x0 x1 x2 x3 x4 x5 s,
    OnlyOut [.gnss, .host] s (execSnapshot x0 x1 x2 x3 x4 x5 s) := by
  intro x0 x1 x2 x3 x4 x5 s
  unfold execSnapshot
  try dsimp only
  repeat (first
    | (refine onlyOut_runSimple (fun _ => ?_) (by decide))
    | with_reducible exact Only.refl _ _
    | with_reducible assumption
    | split
    | with_reducible apply modGnss_only (k := by decide)
    | with_reducible apply startCapture_only (k := by decide)
    | with_reducible apply onlyExc_need
    | with_reducible apply onlyExc_pure
    | with_reducible apply onlyExc_ok
    | with_reducible apply onlyExc_error
    | with_reducible apply onlyOut_next
    | (with_reducible refine onlyExc_bind (fun _ => ?_))
    | dsimp only)

theorem execSnapshotArmedStart_core : ∀ s, OnlyOut [.gnss, .host] s (execSnapshotArmedStart s) := by
  intro s
  unfold execSnapshotArmedStart
  try dsimp only
  repeat (first
    | with_reducible exact Only.refl _ _
    | with_reducible assumption
    | split
    | with_reducible apply triggerCapture_only (k := by decide)
    | with_reducible apply onlyOut_next
    | dsimp only)

theorem execSnapshotComplete_core : ∀ x0 x1 x2 x3 x4 s,
    OnlyOut [.gnss, .host] s (execSnapshotComplete x0 x1 x2 x3 x4 s) := by
  intro x0 x1 x2 x3 x4 s
  unfold execSnapshotComplete
  try dsimp only
  repeat (first
    | with_reducible exact Only.refl _ _
    | with_reducible assumption
    | split
    | with_reducible apply modGnss_only (k := by decide)
    | (with_reducible refine Only.pair ?_ (by assumption); apply freshNat_only (k := by decide))
    | with_reducible apply freshNat_only (k := by decide)
    | with_reducible apply onlyOut_next
    | dsimp only)

theorem execSnapshotRelease_core : ∀ x0 s, OnlyOut [.gnss, .host] s (execSnapshotRelease x0 s) := by
  intro x0 s
  unfold execSnapshotRelease
  try dsimp only
  repeat (first
    | (refine onlyOut_runCommand (fun _ _ => ?_) (by decide))
    | with_reducible exact Only.refl _ _
    | with_reducible assumption
    | split
    | with_reducible apply modGnss_only (k := by decide)
    | with_reducible apply onlyOut_next
    | (with_reducible refine onlyExc_bind (fun _ => ?_))
    | dsimp only)

theorem execSnapshotExport_core : ∀ x0 x1 x2 s, OnlyOut [.gnss, .host] s (execSnapshotExport x0 x1 x2 s) := by
  intro x0 x1 x2 s
  unfold execSnapshotExport
  try dsimp only
  repeat (first
    | (refine onlyOut_runAccepted (fun _ _ => ?_) (by decide))
    | with_reducible exact Only.refl _ _
    | with_reducible assumption
    | split
    | with_reducible apply modGnss_only (k := by decide)
    | with_reducible apply onlyExc_need
    | with_reducible apply onlyExc_pure
    | with_reducible apply onlyExc_ok
    | with_reducible apply onlyExc_error
    | with_reducible apply onlyOut_next
    | (with_reducible refine onlyExc_bind (fun _ => ?_))
    | dsimp only)

theorem execSnapshotExportComplete_core : ∀ s, OnlyOut [.gnss, .host] s (execSnapshotExportComplete s) := by
  intro s
  unfold execSnapshotExportComplete
  try dsimp only
  repeat (first
    | with_reducible exact Only.refl _ _
    | with_reducible assumption
    | split
    | with_reducible apply modGnss_only (k := by decide)
    | with_reducible apply finish_only (k := by decide)
    | with_reducible apply completeCmd_only (k := by decide)
    | with_reducible apply raise_only (k := by decide)
    | (with_reducible refine Only.each ?_ (fun _ _ => ?_))
    | with_reducible apply onlyOut_next
    | dsimp only)

theorem execCorrelatorDump_core : ∀ x0 x1 x2 x3 x4 x5 s,
    OnlyOut [.gnss] s (execCorrelatorDump x0 x1 x2 x3 x4 x5 s) := by
  intro x0 x1 x2 x3 x4 x5 s
  unfold execCorrelatorDump
  try dsimp only
  repeat (first
    | with_reducible exact Only.refl _ _
    | with_reducible assumption
    | split
    | with_reducible apply modGnss_only (k := by decide)
    | with_reducible apply onlyOut_next
    | dsimp only)

theorem execChannelTimeout_core : ∀ x0 s, OnlyOut [.gnss] s (execChannelTimeout x0 s) := by
  intro x0 s
  unfold execChannelTimeout
  try dsimp only
  repeat (first
    | with_reducible exact Only.refl _ _
    | with_reducible assumption
    | split
    | with_reducible apply modGnss_only (k := by decide)
    | with_reducible apply onlyOut_next
    | dsimp only)

theorem execGnssClockFault_core : ∀ x0 s,
    OnlyOut [.clock, .refs, .ductus, .synth, .gnss, .host] s (execGnssClockFault x0 s) := by
  intro x0 s
  unfold execGnssClockFault
  try dsimp only
  repeat (first
    | with_reducible exact Only.refl _ _
    | with_reducible assumption
    | split
    | with_reducible apply modGnss_only (k := by decide)
    | with_reducible apply modPort_only (k := by decide)
    | with_reducible apply addReason_only (k := by decide)
    | with_reducible apply onlyOut_next
    | dsimp only)

theorem execGnssClockRestored_core : ∀ x0 s, OnlyOut [.gnss] s (execGnssClockRestored x0 s) := by
  intro x0 s
  unfold execGnssClockRestored
  try dsimp only
  repeat (first
    | with_reducible exact Only.refl _ _
    | with_reducible assumption
    | split
    | with_reducible apply modPort_only (k := by decide)
    | with_reducible apply onlyOut_next
    | dsimp only)

theorem execGnssHistogram_core : ∀ x0 x1 x2 s, OnlyOut [.gnss] s (execGnssHistogram x0 x1 x2 s) := by
  intro x0 x1 x2 s
  unfold execGnssHistogram
  try dsimp only
  repeat (first
    | with_reducible exact Only.refl _ _
    | with_reducible assumption
    | split
    | with_reducible apply modPort_only (k := by decide)
    | with_reducible apply onlyOut_next
    | dsimp only)

theorem execSurveyComplete_core : ∀ x0 x1 x2 x3 x4 x5 x6 s,
    OnlyOut [.gnss, .host] s (execSurveyComplete x0 x1 x2 x3 x4 x5 x6 s) := by
  intro x0 x1 x2 x3 x4 x5 x6 s
  unfold execSurveyComplete
  try dsimp only
  repeat (first
    | with_reducible exact Only.refl _ _
    | with_reducible assumption
    | split
    | with_reducible apply modPort_only (k := by decide)
    | with_reducible apply raise_only (k := by decide)
    | with_reducible apply onlyOut_next
    | dsimp only)

theorem execGnssEpoch_core : ∀ x0 s,
    OnlyOut [.clock, .refs, .ductus, .margin, .synth, .gnss, .host] s (execGnssEpoch x0 s) := by
  intro x0 s
  unfold execGnssEpoch
  try dsimp only
  repeat (first
    | with_reducible exact Only.refl _ _
    | with_reducible assumption
    | split
    | with_reducible apply modPort_only (k := by decide)
    | with_reducible apply modGnss_only (k := by decide)
    | with_reducible apply takeExclusions_only (k := by decide)
    | with_reducible apply takeLeaps_only (k := by decide)
    | with_reducible apply deliver_only (k := by decide)
    | with_reducible apply answerChecks_only (k := by decide)
    | with_reducible apply enqueue_only (k := by decide)
    | with_reducible apply onlyOut_next
    | dsimp only)

theorem execSatelliteExclusionEnd_core : ∀ x0 x1 s,
    OnlyOut [.gnss] s (execSatelliteExclusionEnd x0 x1 s) := by
  intro x0 x1 s
  unfold execSatelliteExclusionEnd
  try dsimp only
  repeat (first
    | with_reducible exact Only.refl _ _
    | with_reducible assumption
    | split
    | with_reducible apply modPort_only (k := by decide)
    | with_reducible apply onlyOut_next
    | dsimp only)

theorem execCheckClear_core : ∀ x0 x1 s, OnlyOut [.refs, .gnss, .host] s (execCheckClear x0 x1 s) := by
  intro x0 x1 s
  unfold execCheckClear
  try dsimp only
  repeat (first
    | with_reducible exact Only.refl _ _
    | with_reducible assumption
    | split
    | with_reducible apply modPort_only (k := by decide)
    | with_reducible apply raise_only (k := by decide)
    | with_reducible apply clearReason_only (k := by decide)
    | with_reducible apply onlyOut_next
    | dsimp only)

theorem execTimeSet_core : ∀ x0 x1 x2 s,
    OnlyOut [.clock, .refs, .nib, .net, .stack, .host] s (execTimeSet x0 x1 x2 s) := by
  intro x0 x1 x2 s
  unfold execTimeSet
  try dsimp only
  repeat (first
    | (refine onlyOut_runSimple (fun _ => ?_) (by decide))
    | with_reducible exact Only.refl _ _
    | with_reducible assumption
    | split
    | with_reducible apply modClock_only (k := by decide)
    | with_reducible apply setVirtual_only (k := by decide)
    | with_reducible apply onlyExc_need
    | with_reducible apply onlyExc_pure
    | with_reducible apply onlyExc_ok
    | with_reducible apply onlyExc_error
    | with_reducible apply onlyOut_next
    | (with_reducible refine onlyExc_bind (fun _ => ?_))
    | dsimp only)

theorem execTimeStep_core : ∀ x0 x1 s, OnlyOut [.clock, .host] s (execTimeStep x0 x1 s) := by
  intro x0 x1 s
  unfold execTimeStep
  try dsimp only
  repeat (first
    | (refine onlyOut_runAccepted (fun _ _ => ?_) (by decide))
    | with_reducible exact Only.refl _ _
    | with_reducible assumption
    | split
    | with_reducible apply modClock_only (k := by decide)
    | with_reducible apply onlyExc_need
    | with_reducible apply onlyExc_pure
    | with_reducible apply onlyExc_ok
    | with_reducible apply onlyExc_error
    | with_reducible apply onlyOut_next
    | (with_reducible refine onlyExc_bind (fun _ => ?_))
    | dsimp only)

theorem execTimeRestart_core : ∀ x0 s,
    OnlyOut [.clock, .synth, .nib, .net, .host] s (execTimeRestart x0 s) := by
  intro x0 s
  unfold execTimeRestart
  try dsimp only
  repeat (first
    | (refine onlyOut_runAccepted (fun _ _ => ?_) (by decide))
    | with_reducible exact Only.refl _ _
    | with_reducible assumption
    | split
    | with_reducible apply modClock_only (k := by decide)
    | with_reducible apply beginRecovery_only (k := by decide)
    | with_reducible apply onlyExc_need
    | with_reducible apply onlyExc_pure
    | with_reducible apply onlyExc_ok
    | with_reducible apply onlyExc_error
    | with_reducible apply onlyOut_next
    | (with_reducible refine onlyExc_bind (fun _ => ?_))
    | dsimp only)

theorem execLeapTable_core : ∀ x0 x1 x2 x3 s, OnlyOut [.clock, .host] s (execLeapTable x0 x1 x2 x3 s) := by
  intro x0 x1 x2 x3 s
  unfold execLeapTable
  try dsimp only
  repeat (first
    | (refine onlyOut_runSimple (fun _ => ?_) (by decide))
    | with_reducible exact Only.refl _ _
    | with_reducible assumption
    | split
    | with_reducible apply modClock_only (k := by decide)
    | with_reducible apply onlyExc_need
    | with_reducible apply onlyExc_pure
    | with_reducible apply onlyExc_ok
    | with_reducible apply onlyExc_error
    | with_reducible apply onlyOut_next
    | (with_reducible refine onlyExc_bind (fun _ => ?_))
    | dsimp only)

theorem execLeapTableExpiry_core : ∀ s, OnlyOut [.clock] s (execLeapTableExpiry s) := by
  intro s
  unfold execLeapTableExpiry
  try dsimp only
  repeat (first
    | with_reducible exact Only.refl _ _
    | with_reducible assumption
    | split
    | with_reducible apply modClock_only (k := by decide)
    | with_reducible apply onlyOut_next
    | dsimp only)

theorem execCwLatch_core : ∀ s, OnlyOut [.clock] s (execCwLatch s) := by
  intro s
  unfold execCwLatch
  try dsimp only
  repeat (first
    | with_reducible exact Only.refl _ _
    | with_reducible assumption
    | split
    | with_reducible apply modClock_only (k := by decide)
    | with_reducible apply onlyOut_next
    | dsimp only)

theorem execHandover_core : ∀ s, OnlyOut [.clock, .host] s (execHandover s) := by
  intro s
  unfold execHandover
  try dsimp only
  repeat (first
    | with_reducible exact Only.refl _ _
    | with_reducible assumption
    | split
    | with_reducible apply modClock_only (k := by decide)
    | with_reducible apply raise_only (k := by decide)
    | with_reducible apply completeCmd_only (k := by decide)
    | (with_reducible refine Only.each ?_ (fun _ _ => ?_))
    | with_reducible apply onlyOut_next
    | dsimp only)

theorem execTimeStepApply_core : ∀ s,
    OnlyOut [.clock, .refs, .sel, .ductus, .margin, .synth, .nib, .net, .stack, .host] s (execTimeStepApply s) := by
  intro s
  unfold execTimeStepApply
  try dsimp only
  repeat (first
    | with_reducible exact Only.refl _ _
    | with_reducible assumption
    | split
    | with_reducible apply modClock_only (k := by decide)
    | with_reducible apply modDuctus_only (k := by decide)
    | with_reducible apply stepTime_only (k := by decide)
    | with_reducible apply raiseAt_only (k := by decide)
    | with_reducible apply completeCmd_only (k := by decide)
    | with_reducible apply onlyOut_next
    | dsimp only)

theorem execRecoveryStart_core : ∀ s,
    OnlyOut [.clock, .ductus, .synth, .nib, .net, .host] s (execRecoveryStart s) := by
  intro s
  unfold execRecoveryStart
  try dsimp only
  repeat (first
    | with_reducible exact Only.refl _ _
    | with_reducible assumption
    | split
    | with_reducible apply unlockApll_only (k := by decide)
    | with_reducible apply onlyOut_next
    | dsimp only)

theorem execClockRestart_core : ∀ x0 x1 s,
    OnlyOut [.power, .clock, .refs, .sel, .ductus, .margin, .synth, .gnss, .net, .keys, .host] s (execClockRestart x0 x1 s) := by
  intro x0 x1 s
  unfold execClockRestart
  try dsimp only
  repeat (first
    | with_reducible exact Only.refl _ _
    | with_reducible assumption
    | split
    | with_reducible apply modClock_only (k := by decide)
    | with_reducible apply restartTicks_only (k := by decide)
    | with_reducible apply raiseAt_only (k := by decide)
    | with_reducible apply ductusFree_only (k := by decide)
    | with_reducible apply onlyOut_next
    | dsimp only)

theorem execEvinConfigure_core : ∀ x0 x1 s, OnlyOut [.clock, .nib, .host] s (execEvinConfigure x0 x1 s) := by
  intro x0 x1 s
  unfold execEvinConfigure
  try dsimp only
  repeat (first
    | (refine onlyOut_runConfig (fun _ _ => ?_) (by decide))
    | with_reducible exact Only.refl _ _
    | with_reducible assumption
    | split
    | (with_reducible refine Only.ofExc ?_ (by assumption); apply putEvin_only (k := by decide))
    | with_reducible apply putEvin_only (k := by decide)
    | with_reducible apply onlyExc_need
    | with_reducible apply onlyExc_pure
    | with_reducible apply onlyExc_ok
    | with_reducible apply onlyExc_error
    | with_reducible apply onlyOut_next
    | (with_reducible refine onlyExc_bind (fun _ => ?_))
    | dsimp only)

theorem execEvinConfigureReadBack_core : ∀ x0 x1 s,
    OnlyOut [.host] s (execEvinConfigureReadBack x0 x1 s) := by
  intro x0 x1 s
  unfold execEvinConfigureReadBack
  try dsimp only
  repeat (first
    | (refine onlyOut_runRead (by decide))
    | with_reducible exact Only.refl _ _
    | with_reducible assumption
    | split
    | with_reducible apply onlyOut_next
    | (with_reducible refine onlyExc_bind (fun _ => ?_))
    | dsimp only)

theorem execEvinEdge_core : ∀ x0 x1 x2 s,
    OnlyOut [.clock, .refs, .nib, .gnss, .net, .stack, .host] s (execEvinEdge x0 x1 x2 s) := by
  intro x0 x1 x2 s
  unfold execEvinEdge
  try dsimp only
  repeat (first
    | with_reducible exact Only.refl _ _
    | with_reducible assumption
    | split
    | with_reducible apply setOnEdge_only (k := by decide)
    | with_reducible apply latchEdge_only (k := by decide)
    | with_reducible apply evinTrigger_only (k := by decide)
    | with_reducible apply onlyOut_next
    | dsimp only)

theorem execTamperDetected_core : ∀ x0 x1 s,
    OnlyOut [.power, .clock, .sel, .ductus, .margin, .synth, .nib, .gnss, .net, .keys, .stack, .host] s (execTamperDetected x0 x1 s) := by
  intro x0 x1 s
  unfold execTamperDetected
  try dsimp only
  repeat (first
    | with_reducible exact Only.refl _ _
    | with_reducible assumption
    | split
    | with_reducible apply latchTamper_only (k := by decide)
    | with_reducible apply tamperResponse_only (k := by decide)
    | with_reducible apply onlyOut_next
    | dsimp only)

theorem execZeroise_core : ∀ x0 x1 s,
    OnlyOut [.power, .clock, .sel, .ductus, .margin, .synth, .nib, .gnss, .net, .keys, .stack, .host] s (execZeroise x0 x1 s) := by
  intro x0 x1 s
  unfold execZeroise
  try dsimp only
  repeat (first
    | (refine onlyOut_runSimple (fun _ => ?_) (by decide))
    | with_reducible exact Only.refl _ _
    | with_reducible assumption
    | split
    | with_reducible apply tamperResponse_only (k := by decide)
    | with_reducible apply onlyExc_need
    | with_reducible apply onlyExc_pure
    | with_reducible apply onlyExc_ok
    | with_reducible apply onlyExc_error
    | with_reducible apply onlyOut_next
    | (with_reducible refine onlyExc_bind (fun _ => ?_))
    | dsimp only)

theorem execTamperConfigure_core : ∀ x0 x1 s, OnlyOut [.keys, .host] s (execTamperConfigure x0 x1 s) := by
  intro x0 x1 s
  unfold execTamperConfigure
  try dsimp only
  repeat (first
    | (refine onlyOut_runConfig (fun _ _ => ?_) (by decide))
    | with_reducible exact Only.refl _ _
    | with_reducible assumption
    | split
    | with_reducible apply modKeys_only (k := by decide)
    | with_reducible apply onlyExc_need
    | with_reducible apply onlyExc_pure
    | with_reducible apply onlyExc_ok
    | with_reducible apply onlyExc_error
    | with_reducible apply onlyOut_next
    | (with_reducible refine onlyExc_bind (fun _ => ?_))
    | dsimp only)

theorem execTamperConfigureReadBack_core : ∀ x0 x1 s,
    OnlyOut [.host] s (execTamperConfigureReadBack x0 x1 s) := by
  intro x0 x1 s
  unfold execTamperConfigureReadBack
  try dsimp only
  repeat (first
    | (refine onlyOut_runRead (by decide))
    | with_reducible exact Only.refl _ _
    | with_reducible assumption
    | split
    | with_reducible apply onlyOut_next
    | (with_reducible refine onlyExc_bind (fun _ => ?_))
    | dsimp only)

theorem execLifeCycle_core : ∀ x0 x1 x2 x3 s,
    OnlyOut [.power, .clock, .sel, .ductus, .synth, .nib, .gnss, .net, .keys, .stack, .host] s (execLifeCycle x0 x1 x2 x3 s) := by
  intro x0 x1 x2 x3 s
  unfold execLifeCycle
  try dsimp only
  repeat (first
    | (refine onlyOut_runAccepted (fun _ _ => ?_) (by decide))
    | with_reducible exact Only.refl _ _
    | with_reducible assumption
    | split
    | with_reducible apply modKeys_only (k := by decide)
    | with_reducible apply stopService_only (k := by decide)
    | with_reducible apply endRunning_only (k := by decide)
    | with_reducible apply onlyExc_need
    | with_reducible apply onlyExc_pure
    | with_reducible apply onlyExc_ok
    | with_reducible apply onlyExc_error
    | with_reducible apply onlyOut_next
    | (with_reducible refine onlyExc_bind (fun _ => ?_))
    | dsimp only)

theorem execLifeCycleComplete_core : ∀ s,
    OnlyOut [.sel, .margin, .nib, .net, .keys, .stack, .host] s (execLifeCycleComplete s) := by
  intro s
  unfold execLifeCycleComplete
  try dsimp only
  repeat (first
    | with_reducible exact Only.refl _ _
    | with_reducible assumption
    | split
    | with_reducible apply modKeys_only (k := by decide)
    | with_reducible apply completeCmd_only (k := by decide)
    | with_reducible apply eraseBanks_only (k := by decide)
    | with_reducible apply destroyKeys_only (k := by decide)
    | with_reducible apply makeRoot_only (k := by decide)
    | with_reducible apply raise_only (k := by decide)
    | with_reducible apply onlyOut_next
    | dsimp only)

theorem execAttestation_core : ∀ x0 x1 x2 s, OnlyOut [.keys, .host] s (execAttestation x0 x1 x2 s) := by
  intro x0 x1 x2 s
  unfold execAttestation
  try dsimp only
  repeat (first
    | (refine onlyOut_runAccepted (fun _ _ => ?_) (by decide))
    | with_reducible exact Only.refl _ _
    | with_reducible assumption
    | split
    | with_reducible apply modKeys_only (k := by decide)
    | with_reducible apply onlyExc_need
    | with_reducible apply onlyExc_pure
    | with_reducible apply onlyExc_ok
    | with_reducible apply onlyExc_error
    | with_reducible apply onlyOut_next
    | (with_reducible refine onlyExc_bind (fun _ => ?_))
    | dsimp only)

theorem execAttestationReady_core : ∀ s, OnlyOut [.keys, .host] s (execAttestationReady s) := by
  intro s
  unfold execAttestationReady
  try dsimp only
  repeat (first
    | with_reducible exact Only.refl _ _
    | with_reducible assumption
    | split
    | with_reducible apply modKeys_only (k := by decide)
    | with_reducible apply dpWrite_only (k := by decide)
    | with_reducible apply completeCmd_only (k := by decide)
    | with_reducible apply raise_only (k := by decide)
    | with_reducible apply onlyOut_next
    | dsimp only)

theorem execIdentityRead_core : ∀ x0 s, OnlyOut [.host] s (execIdentityRead x0 s) := by
  intro x0 s
  unfold execIdentityRead
  try dsimp only
  repeat (first
    | (refine onlyOut_runRead (by decide))
    | with_reducible exact Only.refl _ _
    | with_reducible assumption
    | split
    | with_reducible apply onlyOut_next
    | (with_reducible refine onlyExc_bind (fun _ => ?_))
    | dsimp only)

theorem execAttestRotate_core : ∀ x0 s, OnlyOut [.keys, .host] s (execAttestRotate x0 s) := by
  intro x0 s
  unfold execAttestRotate
  try dsimp only
  repeat (first
    | (refine onlyOut_runSimple (fun _ => ?_) (by decide))
    | with_reducible exact Only.refl _ _
    | with_reducible assumption
    | split
    | with_reducible apply modKeys_only (k := by decide)
    | with_reducible apply raise_only (k := by decide)
    | with_reducible apply onlyExc_need
    | with_reducible apply onlyExc_pure
    | with_reducible apply onlyExc_ok
    | with_reducible apply onlyExc_error
    | with_reducible apply onlyOut_next
    | (with_reducible refine onlyExc_bind (fun _ => ?_))
    | dsimp only)

theorem execImportRotate_core : ∀ x0 s, OnlyOut [.keys, .host] s (execImportRotate x0 s) := by
  intro x0 s
  unfold execImportRotate
  try dsimp only
  repeat (first
    | (refine onlyOut_runSimple (fun _ => ?_) (by decide))
    | with_reducible exact Only.refl _ _
    | with_reducible assumption
    | split
    | with_reducible apply modKeys_only (k := by decide)
    | with_reducible apply onlyExc_need
    | with_reducible apply onlyExc_pure
    | with_reducible apply onlyExc_ok
    | with_reducible apply onlyExc_error
    | with_reducible apply onlyOut_next
    | (with_reducible refine onlyExc_bind (fun _ => ?_))
    | dsimp only)

theorem execKeyImport_core : ∀ x0 x1 x2 x3 x4 s,
    OnlyOut [.keys, .host] s (execKeyImport x0 x1 x2 x3 x4 s) := by
  intro x0 x1 x2 x3 x4 s
  unfold execKeyImport
  try dsimp only
  repeat (first
    | (refine onlyOut_runCommand (fun _ _ => ?_) (by decide))
    | with_reducible exact Only.refl _ _
    | with_reducible assumption
    | split
    | (with_reducible refine Only.pairL ?_ (by assumption); apply takeSaKey_only (k := by decide))
    | with_reducible apply takeSaKey_only (k := by decide)
    | with_reducible apply onlyOut_next
    | (with_reducible refine onlyExc_bind (fun _ => ?_))
    | dsimp only)

theorem execSaKeyDerive_core : ∀ x0 x1 x2 x3 x4 s,
    OnlyOut [.keys, .host] s (execSaKeyDerive x0 x1 x2 x3 x4 s) := by
  intro x0 x1 x2 x3 x4 s
  unfold execSaKeyDerive
  try dsimp only
  repeat (first
    | (refine onlyOut_runCommand (fun _ _ => ?_) (by decide))
    | with_reducible exact Only.refl _ _
    | with_reducible assumption
    | split
    | (with_reducible refine Only.pairL ?_ (by assumption); apply takeSaKey_only (k := by decide))
    | with_reducible apply takeSaKey_only (k := by decide)
    | with_reducible apply onlyOut_next
    | (with_reducible refine onlyExc_bind (fun _ => ?_))
    | dsimp only)

theorem execSaKeyExport_core : ∀ x0 x1 s, OnlyOut [.keys, .host] s (execSaKeyExport x0 x1 s) := by
  intro x0 x1 s
  unfold execSaKeyExport
  try dsimp only
  repeat (first
    | (refine onlyOut_runSimple (fun _ => ?_) (by decide))
    | with_reducible exact Only.refl _ _
    | with_reducible assumption
    | split
    | (with_reducible refine Only.pair ?_ (by assumption); apply freshBytes_only (k := by decide))
    | with_reducible apply freshBytes_only (k := by decide)
    | with_reducible apply dpWrite_only (k := by decide)
    | with_reducible apply onlyExc_need
    | with_reducible apply onlyExc_pure
    | with_reducible apply onlyExc_ok
    | with_reducible apply onlyExc_error
    | with_reducible apply onlyOut_next
    | (with_reducible refine onlyExc_bind (fun _ => ?_))
    | dsimp only)

theorem execSeal_core : ∀ x0 x1 x2 s, OnlyOut [.host] s (execSeal x0 x1 x2 s) := by
  intro x0 x1 x2 s
  unfold execSeal
  try dsimp only
  repeat (first
    | (refine onlyOut_runCommand (fun _ _ => ?_) (by decide))
    | with_reducible exact Only.refl _ _
    | with_reducible assumption
    | split
    | with_reducible apply dpWrite_only (k := by decide)
    | with_reducible apply onlyOut_next
    | (with_reducible refine onlyExc_bind (fun _ => ?_))
    | dsimp only)

theorem execUnseal_core : ∀ x0 x1 s, OnlyOut [.host] s (execUnseal x0 x1 s) := by
  intro x0 x1 s
  unfold execUnseal
  try dsimp only
  repeat (first
    | (refine onlyOut_runCommand (fun _ _ => ?_) (by decide))
    | with_reducible exact Only.refl _ _
    | with_reducible assumption
    | split
    | with_reducible apply dpWrite_only (k := by decide)
    | with_reducible apply onlyOut_next
    | (with_reducible refine onlyExc_bind (fun _ => ?_))
    | dsimp only)

theorem execKeyStatus_core : ∀ x0 x1 x2 s, OnlyOut [.host] s (execKeyStatus x0 x1 x2 s) := by
  intro x0 x1 x2 s
  unfold execKeyStatus
  try dsimp only
  repeat (first
    | (refine onlyOut_runRead (by decide))
    | with_reducible exact Only.refl _ _
    | with_reducible assumption
    | split
    | with_reducible apply onlyOut_next
    | (with_reducible refine onlyExc_bind (fun _ => ?_))
    | dsimp only)

theorem execEntropySample_core : ∀ x0 x1 s, OnlyOut [.keys, .host] s (execEntropySample x0 x1 s) := by
  intro x0 x1 s
  unfold execEntropySample
  try dsimp only
  repeat (first
    | (refine onlyOut_runAccepted (fun _ _ => ?_) (by decide))
    | with_reducible exact Only.refl _ _
    | with_reducible assumption
    | split
    | with_reducible apply modKeys_only (k := by decide)
    | with_reducible apply onlyExc_need
    | with_reducible apply onlyExc_pure
    | with_reducible apply onlyExc_ok
    | with_reducible apply onlyExc_error
    | with_reducible apply onlyOut_next
    | (with_reducible refine onlyExc_bind (fun _ => ?_))
    | dsimp only)

theorem execEntropySampleComplete_core : ∀ x0 s,
    OnlyOut [.keys, .host] s (execEntropySampleComplete x0 s) := by
  intro x0 s
  unfold execEntropySampleComplete
  try dsimp only
  repeat (first
    | with_reducible exact Only.refl _ _
    | with_reducible assumption
    | split
    | with_reducible apply modKeys_only (k := by decide)
    | with_reducible apply completeCmd_only (k := by decide)
    | with_reducible apply dpWrite_only (k := by decide)
    | with_reducible apply onlyOut_next
    | dsimp only)

theorem execDrbgReseed_core : ∀ s, OnlyOut [.keys] s (execDrbgReseed s) := by
  intro s
  unfold execDrbgReseed
  try dsimp only
  repeat (first
    | with_reducible exact Only.refl _ _
    | with_reducible assumption
    | split
    | with_reducible apply modKeys_only (k := by decide)
    | with_reducible apply onlyOut_next
    | dsimp only)

theorem execHealthTestFailure_core : ∀ x0 s, OnlyOut [.net, .keys, .host] s (execHealthTestFailure x0 s) := by
  intro x0 s
  unfold execHealthTestFailure
  try dsimp only
  repeat (first
    | with_reducible exact Only.refl _ _
    | with_reducible assumption
    | split
    | with_reducible apply modKeys_only (k := by decide)
    | with_reducible apply raise_only (k := by decide)
    | with_reducible apply endRotateNow_only (k := by decide)
    | with_reducible apply onlyOut_next
    | dsimp only)

theorem execKeyWriteCommit_core : ∀ x0 s,
    OnlyOut [.sel, .nib, .net, .keys, .stack, .host] s (execKeyWriteCommit x0 s) := by
  intro x0 s
  unfold execKeyWriteCommit
  try dsimp only
  repeat (first
    | with_reducible exact Only.refl _ _
    | with_reducible assumption
    | split
    | with_reducible apply modKeys_only (k := by decide)
    | with_reducible apply keyWritten_only (k := by decide)
    | with_reducible apply commitSlot_only (k := by decide)
    | with_reducible apply onlyOut_next
    | dsimp only)

theorem execCompactionComplete_core : ∀ s, OnlyOut [.keys] s (execCompactionComplete s) := by
  intro s
  unfold execCompactionComplete
  try dsimp only
  repeat (first
    | with_reducible exact Only.refl _ _
    | with_reducible assumption
    | split
    | with_reducible apply modKeys_only (k := by decide)
    | with_reducible apply onlyOut_next
    | dsimp only)

theorem execCounterRead_core : ∀ x0 x1 x2 s, OnlyOut [.host] s (execCounterRead x0 x1 x2 s) := by
  intro x0 x1 x2 s
  unfold execCounterRead
  try dsimp only
  repeat (first
    | (refine onlyOut_runCommand (fun _ _ => ?_) (by decide))
    | with_reducible exact Only.refl _ _
    | with_reducible assumption
    | split
    | with_reducible apply modHost_only (k := by decide)
    | with_reducible apply onlyOut_next
    | (with_reducible refine onlyExc_bind (fun _ => ?_))
    | dsimp only)

theorem execFilterConfigure_core : ∀ x0 x1 s, OnlyOut [.wear, .host] s (execFilterConfigure x0 x1 s) := by
  intro x0 x1 s
  unfold execFilterConfigure
  try dsimp only
  repeat (first
    | (refine onlyOut_runConfig (fun _ _ => ?_) (by decide))
    | with_reducible exact Only.refl _ _
    | with_reducible assumption
    | split
    | with_reducible apply putFilter_only (k := by decide)
    | (exact onlyExc_error _)
    | with_reducible apply onlyExc_need
    | with_reducible apply onlyExc_pure
    | with_reducible apply onlyExc_ok
    | with_reducible apply onlyExc_error
    | with_reducible apply onlyOut_next
    | (with_reducible refine onlyExc_bind (fun _ => ?_))
    | dsimp only)

theorem execFilterConfigureReadBack_core : ∀ x0 x1 s,
    OnlyOut [.host] s (execFilterConfigureReadBack x0 x1 s) := by
  intro x0 x1 s
  unfold execFilterConfigureReadBack
  try dsimp only
  repeat (first
    | (refine onlyOut_runRead (by decide))
    | with_reducible exact Only.refl _ _
    | with_reducible assumption
    | split
    | with_reducible apply onlyOut_next
    | (with_reducible refine onlyExc_bind (fun _ => ?_))
    | dsimp only)

theorem execFilteredCounterWrap_core : ∀ x0 s, OnlyOut [.wear, .host] s (execFilteredCounterWrap x0 s) := by
  intro x0 s
  unfold execFilteredCounterWrap
  try dsimp only
  repeat (first
    | with_reducible exact Only.refl _ _
    | with_reducible assumption
    | split
    | with_reducible apply wrapCounter_only (k := by decide)
    | with_reducible apply onlyOut_next
    | dsimp only)

theorem execCounterOverflowSignal_core : ∀ x0 x1 s,
    OnlyOut [.wear, .host] s (execCounterOverflowSignal x0 x1 s) := by
  intro x0 x1 s
  unfold execCounterOverflowSignal
  try dsimp only
  repeat (first
    | with_reducible exact Only.refl _ _
    | with_reducible assumption
    | split
    | with_reducible apply modWear_only (k := by decide)
    | with_reducible apply modHost_only (k := by decide)
    | with_reducible apply modTask_only (k := by decide)
    | with_reducible apply onlyOut_next
    | dsimp only)

theorem execWearRatioUpdate_core : ∀ x0 x1 s,
    OnlyOut [.gnss, .wear, .host] s (execWearRatioUpdate x0 x1 s) := by
  intro x0 x1 s
  unfold execWearRatioUpdate
  try dsimp only
  repeat (first
    | with_reducible exact Only.refl _ _
    | with_reducible assumption
    | split
    | with_reducible apply modWear_only (k := by decide)
    | (with_reducible refine Only.pair ?_ (by assumption); apply wearRatio_only (k := by decide))
    | with_reducible apply wearRatio_only (k := by decide)
    | with_reducible apply modUnit_only (k := by decide)
    | with_reducible apply warnUnit_only (k := by decide)
    | with_reducible apply bringIn_only (k := by decide)
    | (with_reducible refine Only.each ?_ (fun _ _ => ?_))
    | with_reducible apply onlyOut_next
    | dsimp only)

theorem execBistFailure_core : ∀ x0 x1 s, OnlyOut [.gnss, .wear, .host] s (execBistFailure x0 x1 s) := by
  intro x0 x1 s
  unfold execBistFailure
  try dsimp only
  repeat (first
    | with_reducible exact Only.refl _ _
    | with_reducible assumption
    | split
    | with_reducible apply setUnit_only (k := by decide)
    | with_reducible apply ledger_only (k := by decide)
    | with_reducible apply bringIn_only (k := by decide)
    | with_reducible apply onlyOut_next
    | dsimp only)

theorem execWornUnitRetired_core : ∀ x0 x1 s, OnlyOut [.wear] s (execWornUnitRetired x0 x1 s) := by
  intro x0 x1 s
  unfold execWornUnitRetired
  try dsimp only
  repeat (first
    | with_reducible exact Only.refl _ _
    | with_reducible assumption
    | split
    | with_reducible apply setUnit_only (k := by decide)
    | with_reducible apply onlyOut_next
    | dsimp only)

theorem execScribeCoreTakeover_core : ∀ x0 s,
    OnlyOut [.gnss, .wear, .host] s (execScribeCoreTakeover x0 s) := by
  intro x0 s
  unfold execScribeCoreTakeover
  try dsimp only
  repeat (first
    | with_reducible exact Only.refl _ _
    | with_reducible assumption
    | split
    | with_reducible apply modUnit_only (k := by decide)
    | with_reducible apply setUnit_only (k := by decide)
    | with_reducible apply wearEvent_only (k := by decide)
    | with_reducible apply ledger_only (k := by decide)
    | with_reducible apply bringIn_only (k := by decide)
    | with_reducible apply onlyOut_next
    | dsimp only)

theorem execEccError_core : ∀ x0 x1 x2 x3 x4 x5 s,
    OnlyOut [.gnss, .net, .wear, .host] s (execEccError x0 x1 x2 x3 x4 x5 s) := by
  intro x0 x1 x2 x3 x4 x5 s
  unfold execEccError
  try dsimp only
  repeat (first
    | with_reducible exact Only.refl _ _
    | with_reducible assumption
    | split
    | with_reducible apply countEcc_only (k := by decide)
    | with_reducible apply correctedError_only (k := by decide)
    | with_reducible apply beginRepair_only (k := by decide)
    | with_reducible apply unitError_only (k := by decide)
    | with_reducible apply fatal_only (k := by decide)
    | with_reducible apply dropVictim_only (k := by decide)
    | with_reducible apply onlyOut_next
    | dsimp only)

theorem execSramRepairComplete_core : ∀ x0 s, OnlyOut [.wear, .host] s (execSramRepairComplete x0 s) := by
  intro x0 s
  unfold execSramRepairComplete
  try dsimp only
  repeat (first
    | with_reducible exact Only.refl _ _
    | with_reducible assumption
    | split
    | with_reducible apply modArray_only (k := by decide)
    | with_reducible apply wearEvent_only (k := by decide)
    | with_reducible apply ledger_only (k := by decide)
    | with_reducible apply onlyOut_next
    | dsimp only)

theorem execWearLedgerRead_core : ∀ x0 x1 x2 s, OnlyOut [.host] s (execWearLedgerRead x0 x1 x2 s) := by
  intro x0 x1 x2 s
  unfold execWearLedgerRead
  try dsimp only
  repeat (first
    | (refine onlyOut_runCommand (fun _ _ => ?_) (by decide))
    | with_reducible exact Only.refl _ _
    | with_reducible assumption
    | split
    | (with_reducible refine Only.pair ?_ (by assumption); apply readEntries_only (k := by decide))
    | with_reducible apply readEntries_only (k := by decide)
    | with_reducible apply onlyOut_next
    | (with_reducible refine onlyExc_bind (fun _ => ?_))
    | dsimp only)

theorem execCalibrationRead_core : ∀ x0 x1 x2 s, OnlyOut [.host] s (execCalibrationRead x0 x1 x2 s) := by
  intro x0 x1 x2 s
  unfold execCalibrationRead
  try dsimp only
  repeat (first
    | (refine onlyOut_runRead (by decide))
    | with_reducible exact Only.refl _ _
    | with_reducible assumption
    | split
    | with_reducible apply onlyOut_next
    | (with_reducible refine onlyExc_bind (fun _ => ?_))
    | dsimp only)

theorem execCalibrationWrite_core : ∀ x0 x1 x2 x3 s,
    OnlyOut [.wear, .host] s (execCalibrationWrite x0 x1 x2 x3 s) := by
  intro x0 x1 x2 x3 s
  unfold execCalibrationWrite
  try dsimp only
  repeat (first
    | (refine onlyOut_runCommand (fun _ _ => ?_) (by decide))
    | with_reducible exact Only.refl _ _
    | with_reducible assumption
    | split
    | with_reducible apply writeCal_only (k := by decide)
    | with_reducible apply onlyOut_next
    | (with_reducible refine onlyExc_bind (fun _ => ?_))
    | dsimp only)

theorem execCalibrationDigest_core : ∀ x0 s, OnlyOut [.host] s (execCalibrationDigest x0 s) := by
  intro x0 s
  unfold execCalibrationDigest
  try dsimp only
  repeat (first
    | (refine onlyOut_runRead (by decide))
    | with_reducible exact Only.refl _ _
    | with_reducible assumption
    | split
    | with_reducible apply onlyOut_next
    | (with_reducible refine onlyExc_bind (fun _ => ?_))
    | dsimp only)

theorem execPanQueueItemCommit_core : ∀ x0 s, OnlyOut [.host] s (execPanQueueItemCommit x0 s) := by
  intro x0 s
  unfold execPanQueueItemCommit
  try dsimp only
  repeat (first
    | with_reducible exact Only.refl _ _
    | with_reducible assumption
    | split
    | with_reducible apply modQueue_only (k := by decide)
    | with_reducible apply afterCommit_only (k := by decide)
    | with_reducible apply setCause_only (k := by decide)
    | with_reducible apply onlyOut_next
    | dsimp only)

theorem execPanQueueDelivery_core : ∀ x0 s, OnlyOut [.host] s (execPanQueueDelivery x0 s) := by
  intro x0 s
  unfold execPanQueueDelivery
  try dsimp only
  repeat (first
    | with_reducible exact Only.refl _ _
    | with_reducible assumption
    | split
    | with_reducible apply modQueue_only (k := by decide)
    | with_reducible apply onlyOut_next
    | dsimp only)

theorem execPanQueuePop_core : ∀ x0 s, OnlyOut [.host] s (execPanQueuePop x0 s) := by
  intro x0 s
  unfold execPanQueuePop
  try dsimp only
  repeat (first
    | with_reducible exact Only.refl _ _
    | with_reducible assumption
    | split
    | with_reducible apply popQueue_only (k := by decide)
    | with_reducible apply onlyOut_next
    | dsimp only)

theorem execPqFlush_core : ∀ x0 s, OnlyOut [.host] s (execPqFlush x0 s) := by
  intro x0 s
  unfold execPqFlush
  try dsimp only
  repeat (first
    | with_reducible exact Only.refl _ _
    | with_reducible assumption
    | split
    | with_reducible apply flushQueue_only (k := by decide)
    | with_reducible apply onlyOut_next
    | dsimp only)

theorem execPqConsumerWrite_core : ∀ x0 x1 s, OnlyOut [.host] s (execPqConsumerWrite x0 x1 s) := by
  intro x0 x1 s
  unfold execPqConsumerWrite
  try dsimp only
  repeat (first
    | with_reducible exact Only.refl _ _
    | with_reducible assumption
    | split
    | with_reducible apply writeConsumer_only (k := by decide)
    | with_reducible apply onlyOut_next
    | dsimp only)

theorem execPersistentLog_core : ∀ x0 x1 x2 s, OnlyOut [.host] s (execPersistentLog x0 x1 x2 s) := by
  intro x0 x1 x2 s
  unfold execPersistentLog
  try dsimp only
  repeat (first
    | (refine onlyOut_runCommand (fun _ _ => ?_) (by decide))
    | with_reducible exact Only.refl _ _
    | with_reducible assumption
    | split
    | (with_reducible refine Only.pair ?_ (by assumption); apply readEntries_only (k := by decide))
    | with_reducible apply readEntries_only (k := by decide)
    | with_reducible apply onlyOut_next
    | (with_reducible refine onlyExc_bind (fun _ => ?_))
    | dsimp only)

theorem execUserLoad_core : ∀ x0 x1 x2 s, OnlyOut [.keys, .host] s (execUserLoad x0 x1 x2 s) := by
  intro x0 x1 x2 s
  unfold execUserLoad
  try dsimp only
  repeat (first
    | (refine onlyOut_runSimple (fun _ => ?_) (by decide))
    | with_reducible exact Only.refl _ _
    | with_reducible assumption
    | split
    | with_reducible apply startTasks_only (k := by decide)
    | with_reducible apply onlyExc_need
    | with_reducible apply onlyExc_pure
    | with_reducible apply onlyExc_ok
    | with_reducible apply onlyExc_error
    | with_reducible apply onlyOut_next
    | (with_reducible refine onlyExc_bind (fun _ => ?_))
    | dsimp only)

theorem execUserUnload_core : ∀ x0 s,
    OnlyOut [.clock, .refs, .sel, .ductus, .margin, .synth, .net, .keys, .stack, .wear, .host] s (execUserUnload x0 s) := by
  intro x0 s
  unfold execUserUnload
  try dsimp only
  repeat (first
    | (refine onlyOut_runSimple (fun _ => ?_) (by decide))
    | with_reducible exact Only.refl _ _
    | with_reducible assumption
    | split
    | with_reducible apply modWear_only (k := by decide)
    | with_reducible apply modHost_only (k := by decide)
    | with_reducible apply modKeys_only (k := by decide)
    | with_reducible apply modSel_only (k := by decide)
    | with_reducible apply releaseHook_only (k := by decide)
    | with_reducible apply onlyExc_need
    | with_reducible apply onlyExc_pure
    | with_reducible apply onlyExc_ok
    | with_reducible apply onlyExc_error
    | with_reducible apply onlyOut_next
    | (with_reducible refine onlyExc_bind (fun _ => ?_))
    | dsimp only)

theorem execCommandCall_core : ∀ x0 x1 x2 x3 x4 x5 s,
    OnlyOut [.clock, .refs, .sel, .ductus, .margin, .synth, .net, .stack, .wear, .host] s (execCommandCall x0 x1 x2 x3 x4 x5 s) := by
  intro x0 x1 x2 x3 x4 x5 s
  unfold execCommandCall
  try dsimp only
  repeat (first
    | with_reducible exact Only.refl _ _
    | with_reducible assumption
    | split
    | with_reducible apply modTask_only (k := by decide)
    | with_reducible apply takeUp_only (k := by decide)
    | (refine onlyOut_systemCall (fun _ => ?_))
    | with_reducible apply onlyOut_next
    | dsimp only)

theorem execEventWait_core : ∀ x0 x1 x2 x3 s,
    OnlyOut [.clock, .refs, .sel, .ductus, .margin, .synth, .net, .stack, .wear, .host] s (execEventWait x0 x1 x2 x3 s) := by
  intro x0 x1 x2 x3 s
  unfold execEventWait
  try dsimp only
  repeat (first
    | with_reducible exact Only.refl _ _
    | with_reducible assumption
    | split
    | with_reducible apply modTask_only (k := by decide)
    | (with_reducible refine Only.ofOpt ?_ (by assumption); apply serveEvent_only (k := by decide))
    | with_reducible apply serveEvent_only (k := by decide)
    | with_reducible apply Only.getD
    | with_reducible apply taskAnswer_only (k := by decide)
    | (refine onlyOut_systemCall (fun _ => ?_))
    | with_reducible apply onlyOut_next
    | dsimp only)

theorem execTimeCall_core : ∀ x0 x1 s,
    OnlyOut [.clock, .refs, .sel, .ductus, .margin, .synth, .net, .stack, .wear, .host] s (execTimeCall x0 x1 s) := by
  intro x0 x1 s
  unfold execTimeCall
  try dsimp only
  repeat (first
    | with_reducible exact Only.refl _ _
    | with_reducible assumption
    | split
    | with_reducible apply taskAnswer_only (k := by decide)
    | with_reducible apply dpWrite_only (k := by decide)
    | (refine onlyOut_systemCall (fun _ => ?_))
    | with_reducible apply onlyOut_next
    | dsimp only)

theorem execSleep_core : ∀ x0 x1 x2 s,
    OnlyOut [.clock, .refs, .sel, .ductus, .margin, .synth, .net, .stack, .wear, .host] s (execSleep x0 x1 x2 s) := by
  intro x0 x1 x2 s
  unfold execSleep
  try dsimp only
  repeat (first
    | with_reducible exact Only.refl _ _
    | with_reducible assumption
    | split
    | with_reducible apply modTask_only (k := by decide)
    | with_reducible apply taskAnswer_only (k := by decide)
    | (refine onlyOut_systemCall (fun _ => ?_))
    | with_reducible apply onlyOut_next
    | dsimp only)

theorem execHookWait_core : ∀ x0 x1 s,
    OnlyOut [.clock, .refs, .sel, .ductus, .margin, .synth, .net, .stack, .wear, .host] s (execHookWait x0 x1 s) := by
  intro x0 x1 s
  unfold execHookWait
  try dsimp only
  repeat (first
    | with_reducible exact Only.refl _ _
    | with_reducible assumption
    | split
    | with_reducible apply modTask_only (k := by decide)
    | with_reducible apply taskAnswer_only (k := by decide)
    | (refine onlyOut_systemCall (fun _ => ?_))
    | with_reducible apply onlyOut_next
    | dsimp only)

theorem execHookAnswer_core : ∀ x0 x1 x2 s,
    OnlyOut [.clock, .refs, .sel, .ductus, .margin, .synth, .net, .stack, .wear, .host] s (execHookAnswer x0 x1 x2 s) := by
  intro x0 x1 x2 s
  unfold execHookAnswer
  refine onlyOut_systemCall (fun u => ?_)
  split
  · exact taskAnswer_only (.refl _ _) (by decide)
  · split
    · exact taskAnswer_only (.refl _ _) (by decide)
    · exact finishEvaluation_only (taskAnswer_only (modSel_only (.refl _ _) (by decide)) (by decide)) (by decide)

theorem execSignalSet_core : ∀ x0 x1 x2 s,
    OnlyOut [.clock, .refs, .sel, .ductus, .margin, .synth, .net, .stack, .wear, .host] s (execSignalSet x0 x1 x2 s) := by
  intro x0 x1 x2 s
  unfold execSignalSet
  try dsimp only
  repeat (first
    | with_reducible exact Only.refl _ _
    | with_reducible assumption
    | split
    | with_reducible apply modTask_only (k := by decide)
    | with_reducible apply taskAnswer_only (k := by decide)
    | (refine onlyOut_systemCall (fun _ => ?_))
    | with_reducible apply onlyOut_next
    | dsimp only)

theorem execSignalReturn_core : ∀ x0 s, OnlyOut [.wear, .host] s (execSignalReturn x0 s) := by
  intro x0 s
  unfold execSignalReturn
  try dsimp only
  repeat (first
    | with_reducible exact Only.refl _ _
    | with_reducible assumption
    | split
    | with_reducible apply modTask_only (k := by decide)
    | (refine onlyOut_plainCall (fun _ => ?_) (by decide))
    | with_reducible apply onlyOut_next
    | dsimp only)

theorem execExit_core : ∀ x0 s,
    OnlyOut [.clock, .refs, .sel, .ductus, .margin, .synth, .net, .stack, .wear, .host] s (execExit x0 s) := by
  intro x0 s
  unfold execExit
  try dsimp only
  repeat (first
    | with_reducible exact Only.refl _ _
    | with_reducible assumption
    | split
    | with_reducible apply stopTask_only (k := by decide)
    | (refine onlyOut_plainCall (fun _ => ?_) (by decide))
    | with_reducible apply onlyOut_next
    | dsimp only)

theorem execUnknownSystemCall_core : ∀ x0 x1 s, OnlyOut [.wear, .host] s (execUnknownSystemCall x0 x1 s) := by
  intro x0 x1 s
  unfold execUnknownSystemCall
  try dsimp only
  repeat (first
    | with_reducible exact Only.refl _ _
    | with_reducible assumption
    | split
    | with_reducible apply modHost_only (k := by decide)
    | with_reducible apply taskAnswer_only (k := by decide)
    | (refine onlyOut_plainCall (fun _ => ?_) (by decide))
    | with_reducible apply onlyOut_next
    | dsimp only)

theorem execTaskReturn_core : ∀ x0 s,
    OnlyOut [.clock, .refs, .sel, .ductus, .margin, .synth, .net, .stack, .wear, .host] s (execTaskReturn x0 s) := by
  intro x0 s
  unfold execTaskReturn
  try dsimp only
  repeat (first
    | with_reducible exact Only.refl _ _
    | with_reducible assumption
    | split
    | with_reducible apply stopTask_only (k := by decide)
    | with_reducible apply onlyOut_next
    | dsimp only)

theorem execUserTaskFault_core : ∀ x0 x1 s,
    OnlyOut [.clock, .refs, .sel, .ductus, .margin, .synth, .net, .stack, .wear, .host] s (execUserTaskFault x0 x1 s) := by
  intro x0 x1 s
  unfold execUserTaskFault
  try dsimp only
  repeat (first
    | with_reducible exact Only.refl _ _
    | with_reducible assumption
    | split
    | with_reducible apply stopTask_only (k := by decide)
    | with_reducible apply onlyOut_next
    | dsimp only)

theorem execSleepExpiry_core : ∀ x0 s, OnlyOut [.host] s (execSleepExpiry x0 s) := by
  intro x0 s
  unfold execSleepExpiry
  try dsimp only
  repeat (first
    | with_reducible exact Only.refl _ _
    | with_reducible assumption
    | split
    | with_reducible apply taskAnswer_only (k := by decide)
    | with_reducible apply onlyOut_next
    | dsimp only)

theorem execEventWaitTimeout_core : ∀ x0 s, OnlyOut [.host] s (execEventWaitTimeout x0 s) := by
  intro x0 s
  unfold execEventWaitTimeout
  try dsimp only
  repeat (first
    | with_reducible exact Only.refl _ _
    | with_reducible assumption
    | split
    | with_reducible apply taskAnswer_only (k := by decide)
    | with_reducible apply onlyOut_next
    | dsimp only)

theorem execHookTimeout_core : ∀ x0 s,
    OnlyOut [.clock, .refs, .sel, .ductus, .margin, .synth, .net, .stack, .wear, .host] s (execHookTimeout x0 s) := by
  intro x0 s
  unfold execHookTimeout
  try dsimp only
  repeat (first
    | with_reducible exact Only.refl _ _
    | with_reducible assumption
    | split
    | with_reducible apply modSel_only (k := by decide)
    | with_reducible apply stopTask_only (k := by decide)
    | with_reducible apply releaseHook_only (k := by decide)
    | with_reducible apply onlyOut_next
    | dsimp only)

theorem execBar2Access_core : ∀ x0 x1 x2 s, OnlyOut [.host] s (execBar2Access x0 x1 x2 s) := by
  intro x0 x1 x2 s
  unfold execBar2Access
  try dsimp only
  repeat (first
    | with_reducible exact Only.refl _ _
    | with_reducible assumption
    | split
    | with_reducible apply hostWrite_only (k := by decide)
    | (with_reducible refine Only.pair ?_ (by assumption); apply hostRead_only (k := by decide))
    | with_reducible apply hostRead_only (k := by decide)
    | with_reducible apply answerRead_only (k := by decide)
    | with_reducible apply onlyOut_next
    | dsimp only)

theorem execDpDataRead_core : ∀ s, OnlyOut [.host] s (execDpDataRead s) := by
  intro s
  unfold execDpDataRead
  try dsimp only
  repeat (first
    | with_reducible exact Only.refl _ _
    | with_reducible assumption
    | split
    | (with_reducible refine Only.pair ?_ (by assumption); apply readDpData_only (k := by decide))
    | with_reducible apply readDpData_only (k := by decide)
    | with_reducible apply answerRead_only (k := by decide)
    | with_reducible apply onlyOut_next
    | dsimp only)

theorem execDpDataWrite_core : ∀ x0 s, OnlyOut [.host] s (execDpDataWrite x0 s) := by
  intro x0 s
  unfold execDpDataWrite
  try dsimp only
  repeat (first
    | with_reducible exact Only.refl _ _
    | with_reducible assumption
    | split
    | with_reducible apply writeDpData_only (k := by decide)
    | with_reducible apply onlyOut_next
    | dsimp only)

theorem execDpDmaGo_core : ∀ x0 s, OnlyOut [.host] s (execDpDmaGo x0 s) := by
  intro x0 s
  unfold execDpDmaGo
  try dsimp only
  repeat (first
    | with_reducible exact Only.refl _ _
    | with_reducible assumption
    | split
    | with_reducible apply writeDmaCtrl_only (k := by decide)
    | with_reducible apply onlyOut_next
    | dsimp only)

theorem execDpDmaComplete_core : ∀ x0 s, OnlyOut [.host] s (execDpDmaComplete x0 s) := by
  intro x0 s
  unfold execDpDmaComplete
  try dsimp only
  repeat (first
    | with_reducible exact Only.refl _ _
    | with_reducible assumption
    | split
    | with_reducible apply modHost_only (k := by decide)
    | (with_reducible refine Only.pair ?_ (by assumption); apply copyIn_only (k := by decide))
    | with_reducible apply copyIn_only (k := by decide)
    | with_reducible apply dpError_only (k := by decide)
    | with_reducible apply setCause_only (k := by decide)
    | with_reducible apply onlyOut_next
    | dsimp only)

theorem execDpInject_core : ∀ x0 s, OnlyOut [.net, .stack, .wear, .host] s (execDpInject x0 s) := by
  intro x0 s
  unfold execDpInject
  try dsimp only
  repeat (first
    | with_reducible exact Only.refl _ _
    | with_reducible assumption
    | split
    | with_reducible apply writeInject_only (k := by decide)
    | with_reducible apply onlyOut_next
    | dsimp only)

theorem execQueueConfigure_core : ∀ x0 x1 s, OnlyOut [.net, .host] s (execQueueConfigure x0 x1 s) := by
  intro x0 x1 s
  unfold execQueueConfigure
  try dsimp only
  repeat (first
    | (refine onlyOut_runConfig (fun _ _ => ?_) (by decide))
    | with_reducible exact Only.refl _ _
    | with_reducible assumption
    | split
    | with_reducible apply modQ_only (k := by decide)
    | with_reducible apply onlyExc_need
    | with_reducible apply onlyExc_pure
    | with_reducible apply onlyExc_ok
    | with_reducible apply onlyExc_error
    | with_reducible apply onlyOut_next
    | (with_reducible refine onlyExc_bind (fun _ => ?_))
    | dsimp only)

theorem execQueueConfigureReadBack_core : ∀ x0 x1 s,
    OnlyOut [.host] s (execQueueConfigureReadBack x0 x1 s) := by
  intro x0 x1 s
  unfold execQueueConfigureReadBack
  try dsimp only
  repeat (first
    | (refine onlyOut_runRead (by decide))
    | with_reducible exact Only.refl _ _
    | with_reducible assumption
    | split
    | with_reducible apply onlyOut_next
    | (with_reducible refine onlyExc_bind (fun _ => ?_))
    | dsimp only)

theorem execEgressConfigure_core : ∀ x0 x1 s,
    OnlyOut [.power, .net, .host] s (execEgressConfigure x0 x1 s) := by
  intro x0 x1 s
  unfold execEgressConfigure
  try dsimp only
  repeat (first
    | (refine onlyOut_runConfig (fun _ _ => ?_) (by decide))
    | with_reducible exact Only.refl _ _
    | with_reducible assumption
    | split
    | with_reducible apply modMac_only (k := by decide)
    | with_reducible apply modNet_only (k := by decide)
    | with_reducible apply judgePace_only (k := by decide)
    | with_reducible apply onlyExc_need
    | with_reducible apply onlyExc_pure
    | with_reducible apply onlyExc_ok
    | with_reducible apply onlyExc_error
    | with_reducible apply onlyOut_next
    | (with_reducible refine onlyExc_bind (fun _ => ?_))
    | dsimp only)

theorem execEgressConfigureReadBack_core : ∀ x0 x1 s,
    OnlyOut [.host] s (execEgressConfigureReadBack x0 x1 s) := by
  intro x0 x1 s
  unfold execEgressConfigureReadBack
  try dsimp only
  repeat (first
    | (refine onlyOut_runRead (by decide))
    | with_reducible exact Only.refl _ _
    | with_reducible assumption
    | split
    | with_reducible apply onlyOut_next
    | (with_reducible refine onlyExc_bind (fun _ => ?_))
    | dsimp only)

theorem execGateList_core : ∀ x0 x1 x2 x3 x4 s, OnlyOut [.net, .host] s (execGateList x0 x1 x2 x3 x4 s) := by
  intro x0 x1 x2 x3 x4 s
  unfold execGateList
  try dsimp only
  repeat (first
    | (refine onlyOut_runSimple (fun _ => ?_) (by decide))
    | with_reducible exact Only.refl _ _
    | with_reducible assumption
    | split
    | with_reducible apply acceptGate_only (k := by decide)
    | with_reducible apply onlyExc_need
    | with_reducible apply onlyExc_pure
    | with_reducible apply onlyExc_ok
    | with_reducible apply onlyExc_error
    | with_reducible apply onlyOut_next
    | (with_reducible refine onlyExc_bind (fun _ => ?_))
    | dsimp only)

theorem execGateListStart_core : ∀ x0 s, OnlyOut [.net, .host] s (execGateListStart x0 s) := by
  intro x0 s
  unfold execGateListStart
  try dsimp only
  repeat (first
    | with_reducible exact Only.refl _ _
    | with_reducible assumption
    | split
    | with_reducible apply modMac_only (k := by decide)
    | with_reducible apply raiseAt_only (k := by decide)
    | with_reducible apply onlyOut_next
    | dsimp only)

theorem execEgressStatus_core : ∀ x0 x1 s, OnlyOut [.host] s (execEgressStatus x0 x1 s) := by
  intro x0 x1 s
  unfold execEgressStatus
  try dsimp only
  repeat (first
    | (refine onlyOut_runRead (by decide))
    | with_reducible exact Only.refl _ _
    | with_reducible assumption
    | split
    | with_reducible apply onlyOut_next
    | (with_reducible refine onlyExc_bind (fun _ => ?_))
    | dsimp only)

theorem execSealDeadlineMissed_core : ∀ x0 x1 s,
    OnlyOut [.net, .stack, .host] s (execSealDeadlineMissed x0 x1 s) := by
  intro x0 x1 s
  unfold execSealDeadlineMissed
  try dsimp only
  repeat (first
    | with_reducible exact Only.refl _ _
    | with_reducible assumption
    | split
    | with_reducible apply missSlot_only (k := by decide)
    | with_reducible apply onlyOut_next
    | dsimp only)

theorem execStrokeLaunch_core : ∀ x0 x1 s, OnlyOut [.net, .stack, .host] s (execStrokeLaunch x0 x1 s) := by
  intro x0 x1 s
  unfold execStrokeLaunch
  try dsimp only
  repeat (first
    | with_reducible exact Only.refl _ _
    | with_reducible assumption
    | split
    | with_reducible apply missSlot_only (k := by decide)
    | with_reducible apply launch_only (k := by decide)
    | with_reducible apply onlyOut_next
    | dsimp only)

theorem execTransmitDescriptor_core : ∀ x0 x1 s,
    OnlyOut [.net, .stack, .wear, .host] s (execTransmitDescriptor x0 x1 s) := by
  intro x0 x1 s
  unfold execTransmitDescriptor
  try dsimp only
  repeat (first
    | with_reducible exact Only.refl _ _
    | with_reducible assumption
    | split
    | with_reducible apply modTx_only (k := by decide)
    | with_reducible apply takeDesc_only (k := by decide)
    | with_reducible apply hostDrop_only (k := by decide)
    | (with_reducible refine Only.ofOpt ?_ (by assumption); apply reserveDesc_only (k := by decide))
    | with_reducible apply reserveDesc_only (k := by decide)
    | with_reducible apply Only.getD
    | with_reducible apply pushFrame_only (k := by decide)
    | with_reducible apply onlyOut_next
    | dsimp only)

theorem execHostTimedReserve_core : ∀ x0 s,
    OnlyOut [.net, .stack, .wear, .host] s (execHostTimedReserve x0 s) := by
  intro x0 s
  unfold execHostTimedReserve
  try dsimp only
  repeat (first
    | with_reducible exact Only.refl _ _
    | with_reducible assumption
    | split
    | with_reducible apply modTx_only (k := by decide)
    | with_reducible apply hostDrop_only (k := by decide)
    | (with_reducible refine Only.ofOpt ?_ (by assumption); apply reserveDesc_only (k := by decide))
    | with_reducible apply reserveDesc_only (k := by decide)
    | with_reducible apply Only.getD
    | with_reducible apply onlyOut_next
    | dsimp only)

theorem execUntimedFrameStart_core : ∀ x0 s, OnlyOut [.net, .host] s (execUntimedFrameStart x0 s) := by
  intro x0 s
  unfold execUntimedFrameStart
  dsimp only
  split
  · exact onlyOut_next (.refl _ _)
  · have h : Only [.net, .host] s (dropHeads x0 s) := dropHeads_only (.refl _ _) (by decide)
    split
    · exact onlyOut_next h
    · rename_i e
      have k := h.trans ((chooseFrame_only e).mono (by decide))
      split
      · exact onlyOut_next (startFrame_only k (by decide))
      · exact onlyOut_next k

theorem execFrameTransmitted_core : ∀ x0 s, OnlyOut [.net, .host] s (execFrameTransmitted x0 s) := by
  intro x0 s
  unfold execFrameTransmitted
  try dsimp only
  repeat (first
    | with_reducible exact Only.refl _ _
    | with_reducible assumption
    | split
    | with_reducible apply modMac_only (k := by decide)
    | with_reducible apply noteSent_only (k := by decide)
    | with_reducible apply hostReport_only (k := by decide)
    | with_reducible apply onlyOut_next
    | dsimp only)

theorem execChannelAllocate_core : ∀ x0 s, OnlyOut [.nib, .host] s (execChannelAllocate x0 s) := by
  intro x0 s
  unfold execChannelAllocate
  try dsimp only
  repeat (first
    | (refine onlyOut_runCommand (fun _ _ => ?_) (by decide))
    | with_reducible exact Only.refl _ _
    | with_reducible assumption
    | split
    | (with_reducible refine Only.ofOpt2 ?_ (by assumption); apply takeChannel_only (k := by decide))
    | with_reducible apply takeChannel_only (k := by decide)
    | with_reducible apply onlyOut_next
    | (with_reducible refine onlyExc_bind (fun _ => ?_))
    | dsimp only)

theorem execChannelRelease_core : ∀ x0 x1 s, OnlyOut [.nib, .host] s (execChannelRelease x0 x1 s) := by
  intro x0 x1 s
  unfold execChannelRelease
  try dsimp only
  repeat (first
    | (refine onlyOut_runSimple (fun _ => ?_) (by decide))
    | with_reducible exact Only.refl _ _
    | with_reducible assumption
    | split
    | with_reducible apply releaseChannel_only (k := by decide)
    | with_reducible apply onlyExc_need
    | with_reducible apply onlyExc_pure
    | with_reducible apply onlyExc_ok
    | with_reducible apply onlyExc_error
    | with_reducible apply onlyOut_next
    | (with_reducible refine onlyExc_bind (fun _ => ?_))
    | dsimp only)

theorem execChannelConfigure_core : ∀ x0 x1 s, OnlyOut [.nib, .host] s (execChannelConfigure x0 x1 s) := by
  intro x0 x1 s
  unfold execChannelConfigure
  try dsimp only
  repeat (first
    | (refine onlyOut_runConfig (fun _ _ => ?_) (by decide))
    | with_reducible exact Only.refl _ _
    | with_reducible assumption
    | split
    | with_reducible apply modNib_only (k := by decide)
    | with_reducible apply endPairing_only (k := by decide)
    | with_reducible apply onlyExc_need
    | with_reducible apply onlyExc_pure
    | with_reducible apply onlyExc_ok
    | with_reducible apply onlyExc_error
    | with_reducible apply onlyOut_next
    | (with_reducible refine onlyExc_bind (fun _ => ?_))
    | dsimp only)

theorem execChannelConfigureReadBack_core : ∀ x0 x1 s,
    OnlyOut [.host] s (execChannelConfigureReadBack x0 x1 s) := by
  intro x0 x1 s
  unfold execChannelConfigureReadBack
  try dsimp only
  repeat (first
    | (refine onlyOut_runRead (by decide))
    | with_reducible exact Only.refl _ _
    | with_reducible assumption
    | split
    | with_reducible apply onlyOut_next
    | (with_reducible refine onlyExc_bind (fun _ => ?_))
    | dsimp only)

theorem execStreamConfigure_core : ∀ x0 x1 s, OnlyOut [.nib, .host] s (execStreamConfigure x0 x1 s) := by
  intro x0 x1 s
  unfold execStreamConfigure
  try dsimp only
  repeat (first
    | (refine onlyOut_runConfig (fun _ _ => ?_) (by decide))
    | with_reducible exact Only.refl _ _
    | with_reducible assumption
    | split
    | with_reducible apply modNib_only (k := by decide)
    | with_reducible apply onlyExc_need
    | with_reducible apply onlyExc_pure
    | with_reducible apply onlyExc_ok
    | with_reducible apply onlyExc_error
    | with_reducible apply onlyOut_next
    | (with_reducible refine onlyExc_bind (fun _ => ?_))
    | dsimp only)

theorem execStreamConfigureReadBack_core : ∀ x0 x1 s,
    OnlyOut [.host] s (execStreamConfigureReadBack x0 x1 s) := by
  intro x0 x1 s
  unfold execStreamConfigureReadBack
  try dsimp only
  repeat (first
    | (refine onlyOut_runRead (by decide))
    | with_reducible exact Only.refl _ _
    | with_reducible assumption
    | split
    | with_reducible apply onlyOut_next
    | (with_reducible refine onlyExc_bind (fun _ => ?_))
    | dsimp only)

theorem execChannelStatus_core : ∀ x0 x1 x2 s, OnlyOut [.host] s (execChannelStatus x0 x1 x2 s) := by
  intro x0 x1 x2 s
  unfold execChannelStatus
  try dsimp only
  repeat (first
    | (refine onlyOut_runRead (by decide))
    | with_reducible exact Only.refl _ _
    | with_reducible assumption
    | split
    | with_reducible apply onlyOut_next
    | (with_reducible refine onlyExc_bind (fun _ => ?_))
    | dsimp only)

theorem execNibEdge_core : ∀ x0 x1 x2 s,
    OnlyOut [.refs, .ductus, .margin, .synth, .nib, .host] s (execNibEdge x0 x1 x2 s) := by
  intro x0 x1 x2 s
  unfold execNibEdge
  dsimp only
  generalize ht : (if edgeFate (s.nib[x0]) (edgePos s x2) = .stamped then some (nibStamp _ x0 x2) else none) = t
  generalize hp : pairEdges _ _ _ _ _ = p
  have h : Only [.refs, .ductus, .margin, .synth, .nib, .host] s p := by
    subst hp
    apply pairEdges_only (k := by decide)
    split
    · exact modNib_only (streamStamp_only (modNib_only (.refl _ _) (by decide)) (by decide)) (by decide)
    · exact modNib_only (modNib_only (.refl _ _) (by decide)) (by decide)
  split
  · exact onlyOut_next (.refl _ _)
  · have k : ∀ (b : Prop) [Decidable b] q, Only [.refs, .ductus, .margin, .synth, .nib, .host] s
        (if b then p else gateEdge x0 (edgeOrdinal s.nib[x0] x1) q p) := fun b _ q =>
      .ite h (gateEdge_only h (by decide))
    split
    · split
      · exact onlyOut_next (refArrival_only (.ite (takePulse_only (k _ _) (by decide)) (k _ _)) (by decide))
      · exact onlyOut_next (k _ _)
    · exact onlyOut_next (k _ _)

theorem execNibLockUpdate_core : ∀ x0 x1 x2 x3 s, OnlyOut [.nib] s (execNibLockUpdate x0 x1 x2 x3 s) := by
  intro x0 x1 x2 x3 s
  unfold execNibLockUpdate
  try dsimp only
  repeat (first
    | with_reducible exact Only.refl _ _
    | with_reducible assumption
    | split
    | with_reducible apply modNib_only (k := by decide)
    | with_reducible apply onlyOut_next
    | dsimp only)

theorem execNibLineSwap_core : ∀ x0 x1 s, OnlyOut [.nib, .wear, .host] s (execNibLineSwap x0 x1 s) := by
  intro x0 x1 s
  unfold execNibLineSwap
  try dsimp only
  repeat (first
    | with_reducible exact Only.refl _ _
    | with_reducible assumption
    | split
    | with_reducible apply modNib_only (k := by decide)
    | with_reducible apply retireTap_only (k := by decide)
    | with_reducible apply onlyOut_next
    | dsimp only)

theorem execNibPairTimeout_core : ∀ x0 s, OnlyOut [.nib, .host] s (execNibPairTimeout x0 s) := by
  intro x0 s
  unfold execNibPairTimeout
  try dsimp only
  repeat (first
    | with_reducible exact Only.refl _ _
    | with_reducible assumption
    | split
    | with_reducible apply modNib_only (k := by decide)
    | with_reducible apply reportPair_only (k := by decide)
    | with_reducible apply onlyOut_next
    | dsimp only)

theorem execNibGateEnd_core : ∀ x0 s, OnlyOut [.nib, .host] s (execNibGateEnd x0 s) := by
  intro x0 s
  unfold execNibGateEnd
  try dsimp only
  repeat (first
    | with_reducible exact Only.refl _ _
    | with_reducible assumption
    | split
    | with_reducible apply modNib_only (k := by decide)
    | with_reducible apply nibResult_only (k := by decide)
    | with_reducible apply onlyOut_next
    | dsimp only)

theorem execPortMode_core : ∀ x0 x1 s, OnlyOut [.net, .host] s (execPortMode x0 x1 s) := by
  intro x0 x1 s
  unfold execPortMode
  try dsimp only
  repeat (first
    | (refine onlyOut_runSimple (fun _ => ?_) (by decide))
    | with_reducible exact Only.refl _ _
    | with_reducible assumption
    | split
    | with_reducible apply applyMode_only (k := by decide)
    | with_reducible apply onlyExc_need
    | with_reducible apply onlyExc_pure
    | with_reducible apply onlyExc_ok
    | with_reducible apply onlyExc_error
    | with_reducible apply onlyOut_next
    | (with_reducible refine onlyExc_bind (fun _ => ?_))
    | dsimp only)

theorem execPortConfigure_core : ∀ x0 x1 s, OnlyOut [.net, .host] s (execPortConfigure x0 x1 s) := by
  intro x0 x1 s
  unfold execPortConfigure
  try dsimp only
  repeat (first
    | (refine onlyOut_runConfig (fun _ _ => ?_) (by decide))
    | with_reducible exact Only.refl _ _
    | with_reducible assumption
    | split
    | with_reducible apply modMac_only (k := by decide)
    | with_reducible apply followEnable_only (k := by decide)
    | with_reducible apply onlyExc_need
    | with_reducible apply onlyExc_pure
    | with_reducible apply onlyExc_ok
    | with_reducible apply onlyExc_error
    | with_reducible apply onlyOut_next
    | (with_reducible refine onlyExc_bind (fun _ => ?_))
    | dsimp only)

theorem execPortConfigureReadBack_core : ∀ x0 x1 s,
    OnlyOut [.host] s (execPortConfigureReadBack x0 x1 s) := by
  intro x0 x1 s
  unfold execPortConfigureReadBack
  try dsimp only
  repeat (first
    | (refine onlyOut_runRead (by decide))
    | with_reducible exact Only.refl _ _
    | with_reducible assumption
    | split
    | with_reducible apply onlyOut_next
    | (with_reducible refine onlyExc_bind (fun _ => ?_))
    | dsimp only)

theorem execVlanList_core : ∀ x0 x1 x2 s, OnlyOut [.net, .host] s (execVlanList x0 x1 x2 s) := by
  intro x0 x1 x2 s
  unfold execVlanList
  try dsimp only
  repeat (first
    | (refine onlyOut_runSimple (fun _ => ?_) (by decide))
    | with_reducible exact Only.refl _ _
    | with_reducible assumption
    | split
    | with_reducible apply modMac_only (k := by decide)
    | with_reducible apply onlyExc_need
    | with_reducible apply onlyExc_pure
    | with_reducible apply onlyExc_ok
    | with_reducible apply onlyExc_error
    | with_reducible apply onlyOut_next
    | (with_reducible refine onlyExc_bind (fun _ => ?_))
    | dsimp only)

theorem execSteeringTable_core : ∀ x0 x1 s, OnlyOut [.net, .host] s (execSteeringTable x0 x1 s) := by
  intro x0 x1 s
  unfold execSteeringTable
  try dsimp only
  repeat (first
    | (refine onlyOut_runSimple (fun _ => ?_) (by decide))
    | with_reducible exact Only.refl _ _
    | with_reducible assumption
    | split
    | with_reducible apply modNet_only (k := by decide)
    | with_reducible apply onlyExc_need
    | with_reducible apply onlyExc_pure
    | with_reducible apply onlyExc_ok
    | with_reducible apply onlyExc_error
    | with_reducible apply onlyOut_next
    | (with_reducible refine onlyExc_bind (fun _ => ?_))
    | dsimp only)

theorem execPortStatus_core : ∀ x0 x1 s, OnlyOut [.host] s (execPortStatus x0 x1 s) := by
  intro x0 x1 s
  unfold execPortStatus
  try dsimp only
  repeat (first
    | (refine onlyOut_runRead (by decide))
    | with_reducible exact Only.refl _ _
    | with_reducible assumption
    | split
    | with_reducible apply onlyOut_next
    | (with_reducible refine onlyExc_bind (fun _ => ?_))
    | dsimp only)

theorem execLinkUp_core : ∀ x0 s, OnlyOut [.net, .host] s (execLinkUp x0 s) := by
  intro x0 s
  unfold execLinkUp
  try dsimp only
  repeat (first
    | with_reducible exact Only.refl _ _
    | with_reducible assumption
    | split
    | with_reducible apply modMac_only (k := by decide)
    | (with_reducible refine Only.pair ?_ (by assumption); apply freshNat_only (k := by decide))
    | with_reducible apply freshNat_only (k := by decide)
    | with_reducible apply raise_only (k := by decide)
    | with_reducible apply onlyOut_next
    | dsimp only)

theorem execLinkDown_core : ∀ x0 x1 s, OnlyOut [.net, .host] s (execLinkDown x0 x1 s) := by
  intro x0 x1 s
  unfold execLinkDown
  try dsimp only
  repeat (first
    | with_reducible exact Only.refl _ _
    | with_reducible assumption
    | split
    | with_reducible apply leaveUp_only (k := by decide)
    | with_reducible apply onlyOut_next
    | dsimp only)

theorem execLaneSkewChange_core : ∀ x0 x1 x2 s, OnlyOut [.net, .host] s (execLaneSkewChange x0 x1 x2 s) := by
  intro x0 x1 x2 s
  unfold execLaneSkewChange
  try dsimp only
  repeat (first
    | with_reducible exact Only.refl _ _
    | with_reducible assumption
    | split
    | with_reducible apply modMac_only (k := by decide)
    | with_reducible apply raise_only (k := by decide)
    | with_reducible apply countMac_only (k := by decide)
    | with_reducible apply onlyOut_next
    | dsimp only)

theorem execPauseFrame_core : ∀ x0 x1 s, OnlyOut [.net, .host] s (execPauseFrame x0 x1 s) := by
  intro x0 x1 s
  unfold execPauseFrame
  try dsimp only
  repeat (first
    | with_reducible exact Only.refl _ _
    | with_reducible assumption
    | split
    | with_reducible apply dropFrame_only (k := by decide)
    | with_reducible apply takePause_only (k := by decide)
    | with_reducible apply onlyOut_next
    | dsimp only)

theorem execPauseWindowOpen_core : ∀ x0 x1 s,
    OnlyOut [.net, .stack, .host] s (execPauseWindowOpen x0 x1 s) := by
  intro x0 x1 s
  unfold execPauseWindowOpen
  try dsimp only
  repeat (first
    | with_reducible exact Only.refl _ _
    | with_reducible assumption
    | split
    | with_reducible apply modMac_only (k := by decide)
    | with_reducible apply sweepPaused_only (k := by decide)
    | with_reducible apply onlyOut_next
    | dsimp only)

theorem execPauseWindowClose_core : ∀ x0 x1 s, OnlyOut [.net] s (execPauseWindowClose x0 x1 s) := by
  intro x0 x1 s
  unfold execPauseWindowClose
  try dsimp only
  repeat (first
    | with_reducible exact Only.refl _ _
    | with_reducible assumption
    | split
    | with_reducible apply closeWindows_only (k := by decide)
    | with_reducible apply onlyOut_next
    | dsimp only)

theorem execPauseBudgetExhausted_core : ∀ x0 s, OnlyOut [.net, .host] s (execPauseBudgetExhausted x0 s) := by
  intro x0 s
  unfold execPauseBudgetExhausted
  try dsimp only
  repeat (first
    | with_reducible exact Only.refl _ _
    | with_reducible assumption
    | split
    | with_reducible apply modMac_only (k := by decide)
    | with_reducible apply closeWindows_only (k := by decide)
    | with_reducible apply raise_only (k := by decide)
    | with_reducible apply onlyOut_next
    | dsimp only)

theorem execPauseBudgetRestore_core : ∀ x0 s, OnlyOut [.net, .host] s (execPauseBudgetRestore x0 s) := by
  intro x0 s
  unfold execPauseBudgetRestore
  try dsimp only
  repeat (first
    | with_reducible exact Only.refl _ _
    | with_reducible assumption
    | split
    | with_reducible apply modMac_only (k := by decide)
    | with_reducible apply raise_only (k := by decide)
    | with_reducible apply onlyOut_next
    | dsimp only)

theorem execLpiEntry_core : ∀ x0 s, OnlyOut [.net] s (execLpiEntry x0 s) := by
  intro x0 s
  unfold execLpiEntry
  try dsimp only
  repeat (first
    | with_reducible exact Only.refl _ _
    | with_reducible assumption
    | split
    | with_reducible apply modMac_only (k := by decide)
    | with_reducible apply onlyOut_next
    | dsimp only)

theorem execLpiWake_core : ∀ x0 s, OnlyOut [.net] s (execLpiWake x0 s) := by
  intro x0 s
  unfold execLpiWake
  try dsimp only
  repeat (first
    | with_reducible exact Only.refl _ _
    | with_reducible assumption
    | split
    | with_reducible apply modMac_only (k := by decide)
    | with_reducible apply onlyOut_next
    | dsimp only)

theorem execSpeedMode_core : ∀ x0 x1 s, OnlyOut [.power, .net, .wear, .host] s (execSpeedMode x0 x1 s) := by
  intro x0 x1 s
  unfold execSpeedMode
  try dsimp only
  repeat (first
    | (refine onlyOut_runCommand (fun _ _ => ?_) (by decide))
    | with_reducible exact Only.refl _ _
    | with_reducible assumption
    | split
    | with_reducible apply completeCmd_only (k := by decide)
    | with_reducible apply raise_only (k := by decide)
    | with_reducible apply beginChange_only (k := by decide)
    | with_reducible apply onlyOut_next
    | (with_reducible refine onlyExc_bind (fun _ => ?_))
    | dsimp only)

theorem execModeReservationsDrained_core : ∀ s, OnlyOut [.power] s (execModeReservationsDrained s) := by
  intro s
  unfold execModeReservationsDrained
  try dsimp only
  repeat (first
    | with_reducible exact Only.refl _ _
    | with_reducible assumption
    | split
    | with_reducible apply modPower_only (k := by decide)
    | with_reducible apply onlyOut_next
    | dsimp only)

theorem execSupplySetPointReached_core : ∀ s,
    OnlyOut [.power, .net, .wear, .host] s (execSupplySetPointReached s) := by
  intro s
  unfold execSupplySetPointReached
  try dsimp only
  repeat (first
    | with_reducible exact Only.refl _ _
    | with_reducible assumption
    | split
    | with_reducible apply modPower_only (k := by decide)
    | with_reducible apply endChange_only (k := by decide)
    | with_reducible apply onlyOut_next
    | dsimp only)

theorem execPaceWithinGoverningRatio_core : ∀ s,
    OnlyOut [.power, .net, .wear, .host] s (execPaceWithinGoverningRatio s) := by
  intro s
  unfold execPaceWithinGoverningRatio
  try dsimp only
  repeat (first
    | with_reducible exact Only.refl _ _
    | with_reducible assumption
    | split
    | with_reducible apply endChange_only (k := by decide)
    | with_reducible apply onlyOut_next
    | dsimp only)

theorem execGoverningWaitTimeout_core : ∀ s,
    OnlyOut [.power, .net, .wear, .host] s (execGoverningWaitTimeout s) := by
  intro s
  unfold execGoverningWaitTimeout
  try dsimp only
  repeat (first
    | with_reducible exact Only.refl _ _
    | with_reducible assumption
    | split
    | with_reducible apply endChange_only (k := by decide)
    | with_reducible apply onlyOut_next
    | dsimp only)

theorem execRegulatorTimeout_core : ∀ s, OnlyOut [.power, .net, .host] s (execRegulatorTimeout s) := by
  intro s
  unfold execRegulatorTimeout
  try dsimp only
  repeat (first
    | with_reducible exact Only.refl _ _
    | with_reducible assumption
    | split
    | with_reducible apply modPower_only (k := by decide)
    | with_reducible apply changeRule_only (k := by decide)
    | with_reducible apply completeCmd_only (k := by decide)
    | with_reducible apply onlyOut_next
    | dsimp only)

theorem execThermalGuard_core : ∀ s, OnlyOut [.power, .net, .wear, .host] s (execThermalGuard s) := by
  intro s
  unfold execThermalGuard
  try dsimp only
  repeat (first
    | with_reducible exact Only.refl _ _
    | with_reducible assumption
    | split
    | with_reducible apply beginChange_only (k := by decide)
    | with_reducible apply raise_only (k := by decide)
    | with_reducible apply onlyOut_next
    | dsimp only)

theorem execThermtrip_core : ∀ s, OnlyOut [.power] s (execThermtrip s) := by
  intro s
  unfold execThermtrip
  try dsimp only
  repeat (first
    | with_reducible exact Only.refl _ _
    | with_reducible assumption
    | split
    | with_reducible apply modPower_only (k := by decide)
    | with_reducible apply onlyOut_next
    | dsimp only)

theorem execTemperatureSample_core : ∀ x0 s, OnlyOut [.power] s (execTemperatureSample x0 s) := by
  intro x0 s
  unfold execTemperatureSample
  try dsimp only
  repeat (first
    | with_reducible exact Only.refl _ _
    | with_reducible assumption
    | split
    | with_reducible apply modPower_only (k := by decide)
    | with_reducible apply onlyOut_next
    | dsimp only)

theorem execPaceUpdate_core : ∀ x0 x1 x2 x3 x4 s,
    OnlyOut [.power, .host] s (execPaceUpdate x0 x1 x2 x3 x4 s) := by
  intro x0 x1 x2 x3 x4 s
  unfold execPaceUpdate
  try dsimp only
  repeat (first
    | with_reducible exact Only.refl _ _
    | with_reducible assumption
    | split
    | with_reducible apply modPower_only (k := by decide)
    | with_reducible apply judgePace_only (k := by decide)
    | with_reducible apply onlyOut_next
    | dsimp only)

theorem execPaceMirrorUpdate_core : ∀ x0 s, OnlyOut [.power] s (execPaceMirrorUpdate x0 s) := by
  intro x0 s
  unfold execPaceMirrorUpdate
  try dsimp only
  repeat (first
    | with_reducible exact Only.refl _ _
    | with_reducible assumption
    | split
    | with_reducible apply modPower_only (k := by decide)
    | with_reducible apply onlyOut_next
    | dsimp only)

theorem execFrameReceived_core : ∀ x0 s, OnlyOut [.net, .wear, .host] s (execFrameReceived x0 s) := by
  intro x0 s
  unfold execFrameReceived
  try dsimp only
  repeat (first
    | with_reducible exact Only.refl _ _
    | with_reducible assumption
    | split
    | with_reducible apply dropFrame_only (k := by decide)
    | with_reducible apply takePause_only (k := by decide)
    | with_reducible apply rxService_only (k := by decide)
    | with_reducible apply rxHost_only (k := by decide)
    | with_reducible apply onlyOut_next
    | dsimp only)

theorem execMailboxDoorbell_core : ∀ x0 s, OnlyOut [.host] s (execMailboxDoorbell x0 s) := by
  intro x0 s
  unfold execMailboxDoorbell
  try dsimp only
  repeat (first
    | with_reducible exact Only.refl _ _
    | with_reducible assumption
    | split
    | with_reducible apply mailboxGo_only (k := by decide)
    | with_reducible apply onlyOut_next
    | dsimp only)

theorem execEmergencyDoorbell_core : ∀ x0 s, OnlyOut [.host] s (execEmergencyDoorbell x0 s) := by
  intro x0 s
  unfold execEmergencyDoorbell
  try dsimp only
  repeat (first
    | with_reducible exact Only.refl _ _
    | with_reducible assumption
    | split
    | with_reducible apply emergencyGo_only (k := by decide)
    | with_reducible apply onlyOut_next
    | dsimp only)

theorem execEmClaim_core : ∀ x0 s, OnlyOut [.host] s (execEmClaim x0 s) := by
  intro x0 s
  unfold execEmClaim
  try dsimp only
  repeat (first
    | with_reducible exact Only.refl _ _
    | with_reducible assumption
    | split
    | with_reducible apply claimEm_only (k := by decide)
    | with_reducible apply onlyOut_next
    | dsimp only)

theorem execEmRelease_core : ∀ x0 s, OnlyOut [.host] s (execEmRelease x0 s) := by
  intro x0 s
  unfold execEmRelease
  try dsimp only
  repeat (first
    | with_reducible exact Only.refl _ _
    | with_reducible assumption
    | split
    | with_reducible apply releaseEm_only (k := by decide)
    | with_reducible apply onlyOut_next
    | dsimp only)

theorem execEmOwnershipTimeout_core : ∀ s, OnlyOut [.host] s (execEmOwnershipTimeout s) := by
  intro s
  unfold execEmOwnershipTimeout
  try dsimp only
  repeat (first
    | with_reducible exact Only.refl _ _
    | with_reducible assumption
    | split
    | with_reducible apply loseEm_only (k := by decide)
    | with_reducible apply onlyOut_next
    | dsimp only)

theorem execAdminLock_core : ∀ s, OnlyOut [.host] s (execAdminLock s) := by
  intro s
  unfold execAdminLock
  try dsimp only
  repeat (first
    | with_reducible exact Only.refl _ _
    | with_reducible assumption
    | split
    | with_reducible apply lockAdmin_only (k := by decide)
    | with_reducible apply onlyOut_next
    | dsimp only)

theorem execRingEnable_core : ∀ x0 x1 x2 s, OnlyOut [.host] s (execRingEnable x0 x1 x2 s) := by
  intro x0 x1 x2 s
  unfold execRingEnable
  try dsimp only
  repeat (first
    | with_reducible exact Only.refl _ _
    | with_reducible assumption
    | split
    | with_reducible apply modRing_only (k := by decide)
    | with_reducible apply onlyOut_next
    | dsimp only)

theorem execRingDisable_core : ∀ x0 x1 x2 s, OnlyOut [.host] s (execRingDisable x0 x1 x2 s) := by
  intro x0 x1 x2 s
  unfold execRingDisable
  try dsimp only
  repeat (first
    | with_reducible exact Only.refl _ _
    | with_reducible assumption
    | split
    | with_reducible apply modRing_only (k := by decide)
    | with_reducible apply onlyOut_next
    | dsimp only)

theorem execRingTailWrite_core : ∀ x0 x1 x2 s, OnlyOut [.host] s (execRingTailWrite x0 x1 x2 s) := by
  intro x0 x1 x2 s
  unfold execRingTailWrite
  try dsimp only
  repeat (first
    | with_reducible exact Only.refl _ _
    | with_reducible assumption
    | split
    | with_reducible apply writeTail_only (k := by decide)
    | with_reducible apply onlyOut_next
    | dsimp only)

theorem execRegisterWrite_core : ∀ x0 x1 x2 s,
    OnlyOut [.net, .stack, .wear, .host] s (execRegisterWrite x0 x1 x2 s) := by
  intro x0 x1 x2 s
  unfold execRegisterWrite
  try dsimp only
  repeat (first
    | with_reducible exact Only.refl _ _
    | with_reducible assumption
    | split
    | with_reducible apply regWrite_only (k := by decide)
    | with_reducible apply onlyOut_next
    | dsimp only)

theorem execLowHalfRead_core : ∀ x0 s, OnlyOut [.host] s (execLowHalfRead x0 s) := by
  intro x0 s
  unfold execLowHalfRead
  try dsimp only
  repeat (first
    | with_reducible exact Only.refl _ _
    | with_reducible assumption
    | split
    | with_reducible apply modHost_only (k := by decide)
    | with_reducible apply answerRead_only (k := by decide)
    | (with_reducible refine Only.pair ?_ (by assumption); apply readWord_only (k := by decide))
    | with_reducible apply readWord_only (k := by decide)
    | with_reducible apply onlyOut_next
    | dsimp only)

theorem execSpiRead_core : ∀ x0 x1 s, OnlyOut [.host] s (execSpiRead x0 x1 s) := by
  intro x0 x1 s
  unfold execSpiRead
  try dsimp only
  repeat (first
    | with_reducible exact Only.refl _ _
    | with_reducible assumption
    | split
    | (with_reducible refine Only.pair ?_ (by assumption); apply spiReads_only (k := by decide))
    | with_reducible apply spiReads_only (k := by decide)
    | with_reducible apply answerRead_only (k := by decide)
    | with_reducible apply onlyOut_next
    | dsimp only)

theorem execSpiWrite_core : ∀ x0 x1 s, OnlyOut [.net, .stack, .wear, .host] s (execSpiWrite x0 x1 s) := by
  intro x0 x1 s
  unfold execSpiWrite
  try dsimp only
  repeat (first
    | with_reducible exact Only.refl _ _
    | with_reducible assumption
    | split
    | with_reducible apply spiWrites_only (k := by decide)
    | with_reducible apply onlyOut_next
    | dsimp only)

theorem execInterruptHoldoffEnd_core : ∀ x0 s, OnlyOut [.host] s (execInterruptHoldoffEnd x0 s) := by
  intro x0 s
  unfold execInterruptHoldoffEnd
  try dsimp only
  repeat (first
    | with_reducible exact Only.refl _ _
    | with_reducible assumption
    | split
    | with_reducible apply modHost_only (k := by decide)
    | with_reducible apply signalVector_only (k := by decide)
    | with_reducible apply setCause_only (k := by decide)
    | (with_reducible refine Only.each ?_ (fun _ _ => ?_))
    | with_reducible apply onlyOut_next
    | dsimp only)

theorem execWatchdogExpiry_core : ∀ s, OnlyOut [.host] s (execWatchdogExpiry s) := by
  intro s
  unfold execWatchdogExpiry
  try dsimp only
  repeat (first
    | with_reducible exact Only.refl _ _
    | with_reducible assumption
    | split
    | with_reducible apply modHost_only (k := by decide)
    | with_reducible apply setCause_only (k := by decide)
    | with_reducible apply onlyOut_next
    | dsimp only)

theorem execAliveIncrement_core : ∀ s, OnlyOut [.host] s (execAliveIncrement s) := by
  intro s
  unfold execAliveIncrement
  try dsimp only
  repeat (first
    | with_reducible exact Only.refl _ _
    | with_reducible assumption
    | split
    | with_reducible apply modHost_only (k := by decide)
    | with_reducible apply onlyOut_next
    | dsimp only)

theorem execHostSideReset_core : ∀ s, OnlyOut [.net, .host] s (execHostSideReset s) := by
  intro s
  unfold execHostSideReset
  try dsimp only
  repeat (first
    | with_reducible exact Only.refl _ _
    | with_reducible assumption
    | split
    | with_reducible apply hostReset_only (k := by decide)
    | with_reducible apply onlyOut_next
    | dsimp only)

theorem execD3hotEntry_core : ∀ s, OnlyOut [.net, .host] s (execD3hotEntry s) := by
  intro s
  unfold execD3hotEntry
  try dsimp only
  repeat (first
    | with_reducible exact Only.refl _ _
    | with_reducible assumption
    | split
    | with_reducible apply modHost_only (k := by decide)
    | with_reducible apply hostReset_only (k := by decide)
    | with_reducible apply onlyOut_next
    | dsimp only)

theorem execPcieLinkReturn_core : ∀ s, OnlyOut [.host] s (execPcieLinkReturn s) := by
  intro s
  unfold execPcieLinkReturn
  try dsimp only
  repeat (first
    | with_reducible exact Only.refl _ _
    | with_reducible assumption
    | split
    | with_reducible apply modHost_only (k := by decide)
    | with_reducible apply onlyOut_next
    | dsimp only)

theorem execBootReport_core : ∀ x0 s, OnlyOut [.host] s (execBootReport x0 s) := by
  intro x0 s
  unfold execBootReport
  try dsimp only
  repeat (first
    | (refine onlyOut_runRead (by decide))
    | with_reducible exact Only.refl _ _
    | with_reducible assumption
    | split
    | with_reducible apply onlyOut_next
    | (with_reducible refine onlyExc_bind (fun _ => ?_))
    | dsimp only)

theorem execDeviceReset_core : ∀ x0 x1 s, OnlyOut [.host] s (execDeviceReset x0 x1 s) := by
  intro x0 x1 s
  unfold execDeviceReset
  try dsimp only
  repeat (first
    | (refine onlyOut_runSimple (fun _ => ?_) (by decide))
    | with_reducible exact Only.refl _ _
    | with_reducible assumption
    | split
    | with_reducible apply modHost_only (k := by decide)
    | with_reducible apply onlyExc_need
    | with_reducible apply onlyExc_pure
    | with_reducible apply onlyExc_ok
    | with_reducible apply onlyExc_error
    | with_reducible apply onlyOut_next
    | (with_reducible refine onlyExc_bind (fun _ => ?_))
    | dsimp only)

theorem execMailboxReset_core : ∀ x0 s, OnlyOut [.host] s (execMailboxReset x0 s) := by
  intro x0 s
  unfold execMailboxReset
  try dsimp only
  repeat (first
    | (refine onlyOut_runSimple (fun _ => ?_) (by decide))
    | with_reducible exact Only.refl _ _
    | with_reducible assumption
    | split
    | with_reducible apply modHost_only (k := by decide)
    | with_reducible apply onlyExc_need
    | with_reducible apply onlyExc_pure
    | with_reducible apply onlyExc_ok
    | with_reducible apply onlyExc_error
    | with_reducible apply onlyOut_next
    | (with_reducible refine onlyExc_bind (fun _ => ?_))
    | dsimp only)

theorem execScribeRestart_core : ∀ x0 s,
    OnlyOut [.power, .clock, .sel, .ductus, .margin, .synth, .nib, .gnss, .net, .keys, .stack, .host] s (execScribeRestart x0 s) := by
  intro x0 s
  unfold execScribeRestart
  try dsimp only
  repeat (first
    | with_reducible exact Only.refl _ _
    | with_reducible assumption
    | split
    | with_reducible apply answer_only (k := by decide)
    | with_reducible apply beginRestart_only (k := by decide)
    | with_reducible apply onlyOut_next
    | dsimp only)

theorem execScribeRestartComplete_core : ∀ x0 s,
    OnlyOut [.clock, .ductus, .gnss, .host] s (execScribeRestartComplete x0 s) := by
  intro x0 s
  unfold execScribeRestartComplete
  try dsimp only
  repeat (first
    | with_reducible exact Only.refl _ _
    | with_reducible assumption
    | split
    | with_reducible apply modHost_only (k := by decide)
    | with_reducible apply resetRegions_only (k := by decide)
    | with_reducible apply raise_only (k := by decide)
    | with_reducible apply takeHeld_only (k := by decide)
    | with_reducible apply completeCmd_only (k := by decide)
    | (with_reducible refine Only.each ?_ (fun _ _ => ?_))
    | with_reducible apply onlyOut_next
    | dsimp only)

theorem execFirmwareWrite_core : ∀ x0 x1 x2 x3 s,
    OnlyOut [.keys, .host] s (execFirmwareWrite x0 x1 x2 x3 s) := by
  intro x0 x1 x2 x3 s
  unfold execFirmwareWrite
  try dsimp only
  repeat (first
    | (refine onlyOut_runAccepted (fun _ _ => ?_) (by decide))
    | with_reducible exact Only.refl _ _
    | with_reducible assumption
    | split
    | with_reducible apply modKeys_only (k := by decide)
    | with_reducible apply onlyExc_need
    | with_reducible apply onlyExc_pure
    | with_reducible apply onlyExc_ok
    | with_reducible apply onlyExc_error
    | with_reducible apply onlyOut_next
    | (with_reducible refine onlyExc_bind (fun _ => ?_))
    | dsimp only)

theorem execFirmwareWriteComplete_core : ∀ s, OnlyOut [.keys, .host] s (execFirmwareWriteComplete s) := by
  intro s
  unfold execFirmwareWriteComplete
  try dsimp only
  repeat (first
    | with_reducible exact Only.refl _ _
    | with_reducible assumption
    | split
    | with_reducible apply modKeys_only (k := by decide)
    | with_reducible apply modFw_only (k := by decide)
    | with_reducible apply completeCmd_only (k := by decide)
    | with_reducible apply onlyOut_next
    | dsimp only)

theorem execFirmwareStage_core : ∀ x0 x1 s, OnlyOut [.keys, .host] s (execFirmwareStage x0 x1 s) := by
  intro x0 x1 s
  unfold execFirmwareStage
  try dsimp only
  repeat (first
    | (refine onlyOut_runAccepted (fun _ _ => ?_) (by decide))
    | with_reducible exact Only.refl _ _
    | with_reducible assumption
    | split
    | with_reducible apply modKeys_only (k := by decide)
    | with_reducible apply onlyExc_need
    | with_reducible apply onlyExc_pure
    | with_reducible apply onlyExc_ok
    | with_reducible apply onlyExc_error
    | with_reducible apply onlyOut_next
    | (with_reducible refine onlyExc_bind (fun _ => ?_))
    | dsimp only)

theorem execFirmwareStageComplete_core : ∀ x0 s,
    OnlyOut [.keys, .host] s (execFirmwareStageComplete x0 s) := by
  intro x0 s
  unfold execFirmwareStageComplete
  try dsimp only
  repeat (first
    | with_reducible exact Only.refl _ _
    | with_reducible assumption
    | split
    | with_reducible apply modKeys_only (k := by decide)
    | with_reducible apply modFw_only (k := by decide)
    | with_reducible apply completeCmd_only (k := by decide)
    | with_reducible apply onlyOut_next
    | dsimp only)

theorem execFirmwareConfirm_core : ∀ x0 s, OnlyOut [.keys, .host] s (execFirmwareConfirm x0 s) := by
  intro x0 s
  unfold execFirmwareConfirm
  try dsimp only
  repeat (first
    | (refine onlyOut_runSimple (fun _ => ?_) (by decide))
    | with_reducible exact Only.refl _ _
    | with_reducible assumption
    | split
    | with_reducible apply modKeys_only (k := by decide)
    | with_reducible apply modFw_only (k := by decide)
    | with_reducible apply onlyExc_need
    | with_reducible apply onlyExc_pure
    | with_reducible apply onlyExc_ok
    | with_reducible apply onlyExc_error
    | with_reducible apply onlyOut_next
    | (with_reducible refine onlyExc_bind (fun _ => ?_))
    | dsimp only)

theorem execResetRelease_core : ∀ x0 s,
    OnlyOut [.power, .refs, .net, .keys, .host] s (execResetRelease x0 s) := by
  intro x0 s
  unfold execResetRelease
  try dsimp only
  repeat (first
    | with_reducible exact Only.refl _ _
    | with_reducible assumption
    | split
    | with_reducible apply modHost_only (k := by decide)
    | with_reducible apply modKeys_only (k := by decide)
    | with_reducible apply judgeSlots_only (k := by decide)
    | with_reducible apply failTrial_only (k := by decide)
    | with_reducible apply bootLife_only (k := by decide)
    | with_reducible apply bootStraps_only (k := by decide)
    | (with_reducible refine Only.pair ?_ (by assumption); apply chooseImage_only (k := by decide))
    | with_reducible apply chooseImage_only (k := by decide)
    | with_reducible apply setStage_only (k := by decide)
    | with_reducible apply bootKeys_only (k := by decide)
    | with_reducible apply onlyOut_next
    | dsimp only)

theorem execSupervisorStart_core : ∀ s, OnlyOut [.host] s (execSupervisorStart s) := by
  intro s
  unfold execSupervisorStart
  try dsimp only
  repeat (first
    | with_reducible exact Only.refl _ _
    | with_reducible assumption
    | split
    | with_reducible apply modHost_only (k := by decide)
    | with_reducible apply setStage_only (k := by decide)
    | with_reducible apply takeHeld_only (k := by decide)
    | with_reducible apply raise_only (k := by decide)
    | with_reducible apply onlyOut_next
    | dsimp only)

theorem execResetAssert_core : ∀ s,
    OnlyOut [.power, .clock, .refs, .sel, .ductus, .margin, .synth, .nib, .gnss, .net, .keys, .stack, .wear, .host] s (execResetAssert s) := by
  intro s
  exact onlyOut_next ⟨fun p hp => by cases p <;> first | rfl | simp at hp⟩

theorem execPowerFailure_core : ∀ s,
    OnlyOut [.power, .clock, .refs, .sel, .ductus, .margin, .synth, .nib, .gnss, .net, .keys, .stack, .wear, .host] s (execPowerFailure s) := by
  intro s
  exact onlyOut_next ⟨fun p hp => by cases p <;> first | rfl | simp at hp⟩

theorem execGateEntryBoundary_core : ∀ x0 s, OnlyOut [] s (execGateEntryBoundary x0 s) := by
  intro x0 s
  exact onlyOut_next (.refl _ _)

end Sys2Proof.Machine
end

