-- ==== Sys2Proof/Laws/Memory.lean ====
section
/-! SUPPORT. The addressed buffers: a read after a write, and the canonical form that every operation over a memory
keeps (14 R408, 17 R476). -/

namespace Sys2Proof.Machine

/-- The canonical form, said of the list: addresses strictly rise, and no cell holds what its address reads as
unlisted. -/
theorem cellsWf_iff {d : Nat → Byte} {l : List Host.Cell} :
    cellsWf d l = true ↔ l.Pairwise (fun a b => a.1 < b.1) ∧ ∀ c ∈ l, c.2 ≠ d c.1 := by
  induction l with
  | nil => simp [cellsWf]
  | cons c cs ih =>
    cases cs with
    | nil => simp [cellsWf]
    | cons c' cs =>
      simp only [cellsWf, Bool.and_eq_true, decide_eq_true_eq, ih, List.pairwise_cons, List.mem_cons,
        forall_eq_or_imp]
      constructor
      · rintro ⟨⟨h1, h2⟩, ⟨h3, h4⟩, h5, h6⟩
        exact ⟨⟨⟨h2, fun a ha => by have := h3 a ha; omega⟩, h3, h4⟩, h1, h5, h6⟩
      · rintro ⟨⟨⟨h2, -⟩, h3, h4⟩, h1, h5, h6⟩
        exact ⟨⟨h1, h2⟩, ⟨h3, h4⟩, h5, h6⟩

/-- Every cell after a write is the written one or was there before. -/
theorem mem_writeCells {d : Nat → Byte} {l : List Host.Cell} {a : Nat} {b : Byte} {c : Host.Cell}
    (h : c ∈ writeCells d l a b) : (c = (a, b) ∧ b ≠ d a) ∨ c ∈ l := by
  induction l with
  | nil =>
    simp only [writeCells] at h
    split at h <;> simp_all
  | cons x xs ih =>
    simp only [writeCells] at h
    repeat' split at h
    · rcases List.mem_cons.mp h with h | h
      · exact .inr (by simp [h])
      · rcases ih h with h | h
        · exact .inl h
        · exact .inr (by simp [h])
    · exact .inr (by simp [h])
    · rename_i hb
      rcases List.mem_cons.mp h with h | h
      · exact .inl ⟨h, hb⟩
      · exact .inr (by simp [h])
    · exact .inr h
    · rename_i hb
      rcases List.mem_cons.mp h with h | h
      · exact .inl ⟨h, hb⟩
      · exact .inr h

/-- A write keeps the canonical form. -/
theorem writeCells_wf {d : Nat → Byte} {l : List Host.Cell} (a : Nat) (b : Byte) (h : cellsWf d l = true) :
    cellsWf d (writeCells d l a b) = true := by
  rw [cellsWf_iff] at h ⊢
  refine ⟨?_, fun c hc => ?_⟩
  · have hp := h.1
    clear h
    induction l with
    | nil => simp only [writeCells]; split <;> simp
    | cons x xs ih =>
      obtain ⟨h1, h2⟩ := List.pairwise_cons.mp hp
      simp only [writeCells]
      repeat' split
      · rename_i hlt
        refine List.pairwise_cons.mpr ⟨fun c hc => ?_, ih h2⟩
        rcases mem_writeCells hc with ⟨rfl, -⟩ | hc
        · exact hlt
        · exact h1 c hc
      · exact h2
      · rename_i he _
        exact List.pairwise_cons.mpr ⟨fun c hc => by have := h1 c hc; simp only; omega, h2⟩
      · exact hp
      · rename_i hl he _
        refine List.pairwise_cons.mpr ⟨fun c hc => ?_, hp⟩
        rcases List.mem_cons.mp hc with rfl | hc
        · simp only; omega
        · have := h1 c hc; simp only; omega
  · rcases mem_writeCells hc with ⟨rfl, hb⟩ | hc
    · exact hb
    · exact h.2 c hc

theorem Memory.write_wf {d : Nat → Byte} {m : Memory} (a : Nat) (b : Byte) (h : m.wf d = true) :
    (m.write d a b).wf d = true := writeCells_wf a b h

theorem Memory.writeBytes_wf {d : Nat → Byte} (bs : Bytes) : ∀ {m : Memory} (a : Nat), m.wf d = true →
    (m.writeBytes d a bs).wf d = true := by
  induction bs with
  | nil => intro m a h; exact h
  | cons b bs ih => intro m a h; exact ih (a + 1) (Memory.write_wf a b h)

/-- Clearing the cells of an area keeps it too. -/
theorem Memory.filter_wf {d : Nat → Byte} {m : Memory} (keep : Host.Cell → Bool) (h : m.wf d = true) :
    Memory.wf d ⟨m.cells.filter keep⟩ = true := by
  unfold Memory.wf at h ⊢
  rw [cellsWf_iff] at h ⊢
  exact ⟨h.1.filter _, fun c hc => h.2 c ((List.mem_filter.mp hc).1)⟩

/-- An address below every listed one reads as unlisted. -/
theorem readCells_below {d : Nat → Byte} {l : List Host.Cell} {a : Nat} (h : ∀ c ∈ l, a < c.1) :
    readCells d l a = d a := by
  induction l with
  | nil => rfl
  | cons c cs ih =>
    have := h c (by simp)
    simp only [readCells]
    rw [if_neg (by omega)]
    exact ih fun x hx => h x (by simp [hx])

/-- What a memory in canonical form reads after a write of one octet. -/
theorem readCells_writeCells {d : Nat → Byte} {l : List Host.Cell} (a : Nat) (b : Byte) (x : Nat)
    (h : cellsWf d l = true) : readCells d (writeCells d l a b) x = if x = a then b else readCells d l x := by
  have hp := (cellsWf_iff.mp h).1
  clear h
  induction l with
  | nil =>
    simp only [writeCells]
    by_cases hb : b = d a
    · simp only [hb, if_true, readCells]; split <;> simp_all
    · simp only [hb, if_false, readCells]
      by_cases hx : a = x <;> simp [hx, eq_comm]
  | cons c cs ih =>
    obtain ⟨h1, h2⟩ := List.pairwise_cons.mp hp
    simp only [writeCells]
    by_cases hlt : c.1 < a
    · rw [if_pos hlt]
      simp only [readCells, ih h2]
      by_cases hx : c.1 = x
      · rw [if_pos hx, if_pos hx, if_neg (by omega)]
      · rw [if_neg hx, if_neg hx]
    · rw [if_neg hlt]
      have low : a ≤ c.1 → (a ≠ c.1) → readCells d (c :: cs) a = d a := fun g e =>
        readCells_below fun y hy => by
          rcases List.mem_cons.mp hy with rfl | hy
          · omega
          · have := h1 y hy; omega
      by_cases he : c.1 = a
      · rw [if_pos he]
        have tail : readCells d cs a = d a := readCells_below fun y hy => by have := h1 y hy; omega
        by_cases hx : x = a
        · subst hx
          by_cases hb : b = d x
          · rw [if_pos hb, if_pos rfl, tail, hb]
          · rw [if_neg hb, if_pos rfl]; simp [readCells]
        · by_cases hb : b = d a
          · rw [if_pos hb, if_neg hx]; simp only [readCells]; rw [if_neg (by omega)]
          · rw [if_neg hb, if_neg hx]
            simp only [readCells]
            rw [if_neg (by omega), if_neg (by omega)]
      · rw [if_neg he]
        by_cases hx : x = a
        · subst hx
          by_cases hb : b = d x
          · rw [if_pos hb, if_pos rfl, low (by omega) (by omega), hb]
          · rw [if_neg hb, if_pos rfl]; simp [readCells]
        · by_cases hb : b = d a
          · rw [if_pos hb, if_neg hx]
          · rw [if_neg hb, if_neg hx]
            conv => lhs; rw [readCells]
            rw [if_neg (by simp only; omega)]

theorem Memory.read_write {d : Nat → Byte} {m : Memory} (a : Nat) (b : Byte) (x : Nat) (h : m.wf d = true) :
    (m.write d a b).read d x = if x = a then b else m.read d x := readCells_writeCells a b x h

/-- A write of a run of octets leaves every address outside the run as it was. -/
theorem Memory.read_writeBytes_outside {d : Nat → Byte} (bs : Bytes) : ∀ {m : Memory} (a x : Nat), m.wf d = true →
    (x < a ∨ a + bs.length ≤ x) → (m.writeBytes d a bs).read d x = m.read d x := by
  induction bs with
  | nil => intro m a x _ _; rfl
  | cons b bs ih =>
    intro m a x h k
    simp only [List.length_cons] at k
    show ((m.write d a b).writeBytes d (a + 1) bs).read d x = _
    rw [ih (a + 1) x (Memory.write_wf a b h) (by omega), Memory.read_write a b x h, if_neg (by omega)]

/-- Inside the run it reads the octet written there. -/
theorem Memory.read_writeBytes_inside {d : Nat → Byte} (bs : Bytes) : ∀ {m : Memory} (a k : Nat), m.wf d = true →
    (hk : k < bs.length) → (m.writeBytes d a bs).read d (a + k) = bs[k] := by
  induction bs with
  | nil => intro m a k _ hk; simp at hk
  | cons b bs ih =>
    intro m a k h hk
    show ((m.write d a b).writeBytes d (a + 1) bs).read d (a + k) = _
    cases k with
    | zero =>
      rw [Memory.read_writeBytes_outside bs (a + 1) (a + 0) (Memory.write_wf a b h) (by omega),
        Memory.read_write a b _ h]
      simp
    | succ k =>
      have := ih (a + 1) k (m := m.write d a b) (Memory.write_wf a b h) (by simpa using hk)
      rw [show a + (k + 1) = a + 1 + k by omega, this]
      simp

/-- The memories of the state after reset list nothing. -/
theorem empty_wf (d : Nat → Byte) : Memory.wf d {} = true := rfl

end Sys2Proof.Machine
end

