-- ==== Sys2Proof/Laws/State.lean ====
section
/-! SUPPORT. What each named update of a part of the state leaves in every field, so that no later proof
unfolds a record update. -/

namespace Sys2Proof.Machine

/-! ### modPower -/

@[simp] theorem modPower_pending (s : State) (f : Power → Power) :
    (s.modPower f).pending = s.pending := rfl
@[simp] theorem modPower_power (s : State) (f : Power → Power) :
    (s.modPower f).power = f s.power := rfl
@[simp] theorem modPower_clock (s : State) (f : Power → Power) :
    (s.modPower f).clock = s.clock := rfl
@[simp] theorem modPower_refs (s : State) (f : Power → Power) :
    (s.modPower f).refs = s.refs := rfl
@[simp] theorem modPower_sel (s : State) (f : Power → Power) :
    (s.modPower f).sel = s.sel := rfl
@[simp] theorem modPower_ductus (s : State) (f : Power → Power) :
    (s.modPower f).ductus = s.ductus := rfl
@[simp] theorem modPower_margin (s : State) (f : Power → Power) :
    (s.modPower f).margin = s.margin := rfl
@[simp] theorem modPower_synth (s : State) (f : Power → Power) :
    (s.modPower f).synth = s.synth := rfl
@[simp] theorem modPower_nib (s : State) (f : Power → Power) :
    (s.modPower f).nib = s.nib := rfl
@[simp] theorem modPower_gnss (s : State) (f : Power → Power) :
    (s.modPower f).gnss = s.gnss := rfl
@[simp] theorem modPower_net (s : State) (f : Power → Power) :
    (s.modPower f).net = s.net := rfl
@[simp] theorem modPower_keys (s : State) (f : Power → Power) :
    (s.modPower f).keys = s.keys := rfl
@[simp] theorem modPower_stack (s : State) (f : Power → Power) :
    (s.modPower f).stack = s.stack := rfl
@[simp] theorem modPower_wear (s : State) (f : Power → Power) :
    (s.modPower f).wear = s.wear := rfl
@[simp] theorem modPower_host (s : State) (f : Power → Power) :
    (s.modPower f).host = s.host := rfl

/-! ### modClock -/

@[simp] theorem modClock_pending (s : State) (f : Clock → Clock) :
    (s.modClock f).pending = s.pending := rfl
@[simp] theorem modClock_power (s : State) (f : Clock → Clock) :
    (s.modClock f).power = s.power := rfl
@[simp] theorem modClock_clock (s : State) (f : Clock → Clock) :
    (s.modClock f).clock = f s.clock := rfl
@[simp] theorem modClock_refs (s : State) (f : Clock → Clock) :
    (s.modClock f).refs = s.refs := rfl
@[simp] theorem modClock_sel (s : State) (f : Clock → Clock) :
    (s.modClock f).sel = s.sel := rfl
@[simp] theorem modClock_ductus (s : State) (f : Clock → Clock) :
    (s.modClock f).ductus = s.ductus := rfl
@[simp] theorem modClock_margin (s : State) (f : Clock → Clock) :
    (s.modClock f).margin = s.margin := rfl
@[simp] theorem modClock_synth (s : State) (f : Clock → Clock) :
    (s.modClock f).synth = s.synth := rfl
@[simp] theorem modClock_nib (s : State) (f : Clock → Clock) :
    (s.modClock f).nib = s.nib := rfl
@[simp] theorem modClock_gnss (s : State) (f : Clock → Clock) :
    (s.modClock f).gnss = s.gnss := rfl
@[simp] theorem modClock_net (s : State) (f : Clock → Clock) :
    (s.modClock f).net = s.net := rfl
@[simp] theorem modClock_keys (s : State) (f : Clock → Clock) :
    (s.modClock f).keys = s.keys := rfl
@[simp] theorem modClock_stack (s : State) (f : Clock → Clock) :
    (s.modClock f).stack = s.stack := rfl
@[simp] theorem modClock_wear (s : State) (f : Clock → Clock) :
    (s.modClock f).wear = s.wear := rfl
@[simp] theorem modClock_host (s : State) (f : Clock → Clock) :
    (s.modClock f).host = s.host := rfl

/-! ### modSel -/

@[simp] theorem modSel_pending (s : State) (f : Selection → Selection) :
    (s.modSel f).pending = s.pending := rfl
@[simp] theorem modSel_power (s : State) (f : Selection → Selection) :
    (s.modSel f).power = s.power := rfl
@[simp] theorem modSel_clock (s : State) (f : Selection → Selection) :
    (s.modSel f).clock = s.clock := rfl
@[simp] theorem modSel_refs (s : State) (f : Selection → Selection) :
    (s.modSel f).refs = s.refs := rfl
@[simp] theorem modSel_sel (s : State) (f : Selection → Selection) :
    (s.modSel f).sel = f s.sel := rfl
@[simp] theorem modSel_ductus (s : State) (f : Selection → Selection) :
    (s.modSel f).ductus = s.ductus := rfl
@[simp] theorem modSel_margin (s : State) (f : Selection → Selection) :
    (s.modSel f).margin = s.margin := rfl
@[simp] theorem modSel_synth (s : State) (f : Selection → Selection) :
    (s.modSel f).synth = s.synth := rfl
@[simp] theorem modSel_nib (s : State) (f : Selection → Selection) :
    (s.modSel f).nib = s.nib := rfl
@[simp] theorem modSel_gnss (s : State) (f : Selection → Selection) :
    (s.modSel f).gnss = s.gnss := rfl
@[simp] theorem modSel_net (s : State) (f : Selection → Selection) :
    (s.modSel f).net = s.net := rfl
@[simp] theorem modSel_keys (s : State) (f : Selection → Selection) :
    (s.modSel f).keys = s.keys := rfl
@[simp] theorem modSel_stack (s : State) (f : Selection → Selection) :
    (s.modSel f).stack = s.stack := rfl
@[simp] theorem modSel_wear (s : State) (f : Selection → Selection) :
    (s.modSel f).wear = s.wear := rfl
@[simp] theorem modSel_host (s : State) (f : Selection → Selection) :
    (s.modSel f).host = s.host := rfl

/-! ### modDuctus -/

@[simp] theorem modDuctus_pending (s : State) (f : Ductus → Ductus) :
    (s.modDuctus f).pending = s.pending := rfl
@[simp] theorem modDuctus_power (s : State) (f : Ductus → Ductus) :
    (s.modDuctus f).power = s.power := rfl
@[simp] theorem modDuctus_clock (s : State) (f : Ductus → Ductus) :
    (s.modDuctus f).clock = s.clock := rfl
@[simp] theorem modDuctus_refs (s : State) (f : Ductus → Ductus) :
    (s.modDuctus f).refs = s.refs := rfl
@[simp] theorem modDuctus_sel (s : State) (f : Ductus → Ductus) :
    (s.modDuctus f).sel = s.sel := rfl
@[simp] theorem modDuctus_ductus (s : State) (f : Ductus → Ductus) :
    (s.modDuctus f).ductus = f s.ductus := rfl
@[simp] theorem modDuctus_margin (s : State) (f : Ductus → Ductus) :
    (s.modDuctus f).margin = s.margin := rfl
@[simp] theorem modDuctus_synth (s : State) (f : Ductus → Ductus) :
    (s.modDuctus f).synth = s.synth := rfl
@[simp] theorem modDuctus_nib (s : State) (f : Ductus → Ductus) :
    (s.modDuctus f).nib = s.nib := rfl
@[simp] theorem modDuctus_gnss (s : State) (f : Ductus → Ductus) :
    (s.modDuctus f).gnss = s.gnss := rfl
@[simp] theorem modDuctus_net (s : State) (f : Ductus → Ductus) :
    (s.modDuctus f).net = s.net := rfl
@[simp] theorem modDuctus_keys (s : State) (f : Ductus → Ductus) :
    (s.modDuctus f).keys = s.keys := rfl
@[simp] theorem modDuctus_stack (s : State) (f : Ductus → Ductus) :
    (s.modDuctus f).stack = s.stack := rfl
@[simp] theorem modDuctus_wear (s : State) (f : Ductus → Ductus) :
    (s.modDuctus f).wear = s.wear := rfl
@[simp] theorem modDuctus_host (s : State) (f : Ductus → Ductus) :
    (s.modDuctus f).host = s.host := rfl

/-! ### modMargin -/

@[simp] theorem modMargin_pending (s : State) (f : Margin → Margin) :
    (s.modMargin f).pending = s.pending := rfl
@[simp] theorem modMargin_power (s : State) (f : Margin → Margin) :
    (s.modMargin f).power = s.power := rfl
@[simp] theorem modMargin_clock (s : State) (f : Margin → Margin) :
    (s.modMargin f).clock = s.clock := rfl
@[simp] theorem modMargin_refs (s : State) (f : Margin → Margin) :
    (s.modMargin f).refs = s.refs := rfl
@[simp] theorem modMargin_sel (s : State) (f : Margin → Margin) :
    (s.modMargin f).sel = s.sel := rfl
@[simp] theorem modMargin_ductus (s : State) (f : Margin → Margin) :
    (s.modMargin f).ductus = s.ductus := rfl
@[simp] theorem modMargin_margin (s : State) (f : Margin → Margin) :
    (s.modMargin f).margin = f s.margin := rfl
@[simp] theorem modMargin_synth (s : State) (f : Margin → Margin) :
    (s.modMargin f).synth = s.synth := rfl
@[simp] theorem modMargin_nib (s : State) (f : Margin → Margin) :
    (s.modMargin f).nib = s.nib := rfl
@[simp] theorem modMargin_gnss (s : State) (f : Margin → Margin) :
    (s.modMargin f).gnss = s.gnss := rfl
@[simp] theorem modMargin_net (s : State) (f : Margin → Margin) :
    (s.modMargin f).net = s.net := rfl
@[simp] theorem modMargin_keys (s : State) (f : Margin → Margin) :
    (s.modMargin f).keys = s.keys := rfl
@[simp] theorem modMargin_stack (s : State) (f : Margin → Margin) :
    (s.modMargin f).stack = s.stack := rfl
@[simp] theorem modMargin_wear (s : State) (f : Margin → Margin) :
    (s.modMargin f).wear = s.wear := rfl
@[simp] theorem modMargin_host (s : State) (f : Margin → Margin) :
    (s.modMargin f).host = s.host := rfl

/-! ### modSynth -/

@[simp] theorem modSynth_pending (s : State) (f : Synth → Synth) :
    (s.modSynth f).pending = s.pending := rfl
@[simp] theorem modSynth_power (s : State) (f : Synth → Synth) :
    (s.modSynth f).power = s.power := rfl
@[simp] theorem modSynth_clock (s : State) (f : Synth → Synth) :
    (s.modSynth f).clock = s.clock := rfl
@[simp] theorem modSynth_refs (s : State) (f : Synth → Synth) :
    (s.modSynth f).refs = s.refs := rfl
@[simp] theorem modSynth_sel (s : State) (f : Synth → Synth) :
    (s.modSynth f).sel = s.sel := rfl
@[simp] theorem modSynth_ductus (s : State) (f : Synth → Synth) :
    (s.modSynth f).ductus = s.ductus := rfl
@[simp] theorem modSynth_margin (s : State) (f : Synth → Synth) :
    (s.modSynth f).margin = s.margin := rfl
@[simp] theorem modSynth_synth (s : State) (f : Synth → Synth) :
    (s.modSynth f).synth = f s.synth := rfl
@[simp] theorem modSynth_nib (s : State) (f : Synth → Synth) :
    (s.modSynth f).nib = s.nib := rfl
@[simp] theorem modSynth_gnss (s : State) (f : Synth → Synth) :
    (s.modSynth f).gnss = s.gnss := rfl
@[simp] theorem modSynth_net (s : State) (f : Synth → Synth) :
    (s.modSynth f).net = s.net := rfl
@[simp] theorem modSynth_keys (s : State) (f : Synth → Synth) :
    (s.modSynth f).keys = s.keys := rfl
@[simp] theorem modSynth_stack (s : State) (f : Synth → Synth) :
    (s.modSynth f).stack = s.stack := rfl
@[simp] theorem modSynth_wear (s : State) (f : Synth → Synth) :
    (s.modSynth f).wear = s.wear := rfl
@[simp] theorem modSynth_host (s : State) (f : Synth → Synth) :
    (s.modSynth f).host = s.host := rfl

/-! ### modGnss -/

@[simp] theorem modGnss_pending (s : State) (f : Gnss → Gnss) :
    (s.modGnss f).pending = s.pending := rfl
@[simp] theorem modGnss_power (s : State) (f : Gnss → Gnss) :
    (s.modGnss f).power = s.power := rfl
@[simp] theorem modGnss_clock (s : State) (f : Gnss → Gnss) :
    (s.modGnss f).clock = s.clock := rfl
@[simp] theorem modGnss_refs (s : State) (f : Gnss → Gnss) :
    (s.modGnss f).refs = s.refs := rfl
@[simp] theorem modGnss_sel (s : State) (f : Gnss → Gnss) :
    (s.modGnss f).sel = s.sel := rfl
@[simp] theorem modGnss_ductus (s : State) (f : Gnss → Gnss) :
    (s.modGnss f).ductus = s.ductus := rfl
@[simp] theorem modGnss_margin (s : State) (f : Gnss → Gnss) :
    (s.modGnss f).margin = s.margin := rfl
@[simp] theorem modGnss_synth (s : State) (f : Gnss → Gnss) :
    (s.modGnss f).synth = s.synth := rfl
@[simp] theorem modGnss_nib (s : State) (f : Gnss → Gnss) :
    (s.modGnss f).nib = s.nib := rfl
@[simp] theorem modGnss_gnss (s : State) (f : Gnss → Gnss) :
    (s.modGnss f).gnss = f s.gnss := rfl
@[simp] theorem modGnss_net (s : State) (f : Gnss → Gnss) :
    (s.modGnss f).net = s.net := rfl
@[simp] theorem modGnss_keys (s : State) (f : Gnss → Gnss) :
    (s.modGnss f).keys = s.keys := rfl
@[simp] theorem modGnss_stack (s : State) (f : Gnss → Gnss) :
    (s.modGnss f).stack = s.stack := rfl
@[simp] theorem modGnss_wear (s : State) (f : Gnss → Gnss) :
    (s.modGnss f).wear = s.wear := rfl
@[simp] theorem modGnss_host (s : State) (f : Gnss → Gnss) :
    (s.modGnss f).host = s.host := rfl

/-! ### modNet -/

@[simp] theorem modNet_pending (s : State) (f : Net → Net) :
    (s.modNet f).pending = s.pending := rfl
@[simp] theorem modNet_power (s : State) (f : Net → Net) :
    (s.modNet f).power = s.power := rfl
@[simp] theorem modNet_clock (s : State) (f : Net → Net) :
    (s.modNet f).clock = s.clock := rfl
@[simp] theorem modNet_refs (s : State) (f : Net → Net) :
    (s.modNet f).refs = s.refs := rfl
@[simp] theorem modNet_sel (s : State) (f : Net → Net) :
    (s.modNet f).sel = s.sel := rfl
@[simp] theorem modNet_ductus (s : State) (f : Net → Net) :
    (s.modNet f).ductus = s.ductus := rfl
@[simp] theorem modNet_margin (s : State) (f : Net → Net) :
    (s.modNet f).margin = s.margin := rfl
@[simp] theorem modNet_synth (s : State) (f : Net → Net) :
    (s.modNet f).synth = s.synth := rfl
@[simp] theorem modNet_nib (s : State) (f : Net → Net) :
    (s.modNet f).nib = s.nib := rfl
@[simp] theorem modNet_gnss (s : State) (f : Net → Net) :
    (s.modNet f).gnss = s.gnss := rfl
@[simp] theorem modNet_net (s : State) (f : Net → Net) :
    (s.modNet f).net = f s.net := rfl
@[simp] theorem modNet_keys (s : State) (f : Net → Net) :
    (s.modNet f).keys = s.keys := rfl
@[simp] theorem modNet_stack (s : State) (f : Net → Net) :
    (s.modNet f).stack = s.stack := rfl
@[simp] theorem modNet_wear (s : State) (f : Net → Net) :
    (s.modNet f).wear = s.wear := rfl
@[simp] theorem modNet_host (s : State) (f : Net → Net) :
    (s.modNet f).host = s.host := rfl

/-! ### modKeys -/

@[simp] theorem modKeys_pending (s : State) (f : Keys → Keys) :
    (s.modKeys f).pending = s.pending := rfl
@[simp] theorem modKeys_power (s : State) (f : Keys → Keys) :
    (s.modKeys f).power = s.power := rfl
@[simp] theorem modKeys_clock (s : State) (f : Keys → Keys) :
    (s.modKeys f).clock = s.clock := rfl
@[simp] theorem modKeys_refs (s : State) (f : Keys → Keys) :
    (s.modKeys f).refs = s.refs := rfl
@[simp] theorem modKeys_sel (s : State) (f : Keys → Keys) :
    (s.modKeys f).sel = s.sel := rfl
@[simp] theorem modKeys_ductus (s : State) (f : Keys → Keys) :
    (s.modKeys f).ductus = s.ductus := rfl
@[simp] theorem modKeys_margin (s : State) (f : Keys → Keys) :
    (s.modKeys f).margin = s.margin := rfl
@[simp] theorem modKeys_synth (s : State) (f : Keys → Keys) :
    (s.modKeys f).synth = s.synth := rfl
@[simp] theorem modKeys_nib (s : State) (f : Keys → Keys) :
    (s.modKeys f).nib = s.nib := rfl
@[simp] theorem modKeys_gnss (s : State) (f : Keys → Keys) :
    (s.modKeys f).gnss = s.gnss := rfl
@[simp] theorem modKeys_net (s : State) (f : Keys → Keys) :
    (s.modKeys f).net = s.net := rfl
@[simp] theorem modKeys_keys (s : State) (f : Keys → Keys) :
    (s.modKeys f).keys = f s.keys := rfl
@[simp] theorem modKeys_stack (s : State) (f : Keys → Keys) :
    (s.modKeys f).stack = s.stack := rfl
@[simp] theorem modKeys_wear (s : State) (f : Keys → Keys) :
    (s.modKeys f).wear = s.wear := rfl
@[simp] theorem modKeys_host (s : State) (f : Keys → Keys) :
    (s.modKeys f).host = s.host := rfl

/-! ### modStack -/

@[simp] theorem modStack_pending (s : State) (f : Stack → Stack) :
    (s.modStack f).pending = s.pending := rfl
@[simp] theorem modStack_power (s : State) (f : Stack → Stack) :
    (s.modStack f).power = s.power := rfl
@[simp] theorem modStack_clock (s : State) (f : Stack → Stack) :
    (s.modStack f).clock = s.clock := rfl
@[simp] theorem modStack_refs (s : State) (f : Stack → Stack) :
    (s.modStack f).refs = s.refs := rfl
@[simp] theorem modStack_sel (s : State) (f : Stack → Stack) :
    (s.modStack f).sel = s.sel := rfl
@[simp] theorem modStack_ductus (s : State) (f : Stack → Stack) :
    (s.modStack f).ductus = s.ductus := rfl
@[simp] theorem modStack_margin (s : State) (f : Stack → Stack) :
    (s.modStack f).margin = s.margin := rfl
@[simp] theorem modStack_synth (s : State) (f : Stack → Stack) :
    (s.modStack f).synth = s.synth := rfl
@[simp] theorem modStack_nib (s : State) (f : Stack → Stack) :
    (s.modStack f).nib = s.nib := rfl
@[simp] theorem modStack_gnss (s : State) (f : Stack → Stack) :
    (s.modStack f).gnss = s.gnss := rfl
@[simp] theorem modStack_net (s : State) (f : Stack → Stack) :
    (s.modStack f).net = s.net := rfl
@[simp] theorem modStack_keys (s : State) (f : Stack → Stack) :
    (s.modStack f).keys = s.keys := rfl
@[simp] theorem modStack_stack (s : State) (f : Stack → Stack) :
    (s.modStack f).stack = f s.stack := rfl
@[simp] theorem modStack_wear (s : State) (f : Stack → Stack) :
    (s.modStack f).wear = s.wear := rfl
@[simp] theorem modStack_host (s : State) (f : Stack → Stack) :
    (s.modStack f).host = s.host := rfl

/-! ### modWear -/

@[simp] theorem modWear_pending (s : State) (f : Wear → Wear) :
    (s.modWear f).pending = s.pending := rfl
@[simp] theorem modWear_power (s : State) (f : Wear → Wear) :
    (s.modWear f).power = s.power := rfl
@[simp] theorem modWear_clock (s : State) (f : Wear → Wear) :
    (s.modWear f).clock = s.clock := rfl
@[simp] theorem modWear_refs (s : State) (f : Wear → Wear) :
    (s.modWear f).refs = s.refs := rfl
@[simp] theorem modWear_sel (s : State) (f : Wear → Wear) :
    (s.modWear f).sel = s.sel := rfl
@[simp] theorem modWear_ductus (s : State) (f : Wear → Wear) :
    (s.modWear f).ductus = s.ductus := rfl
@[simp] theorem modWear_margin (s : State) (f : Wear → Wear) :
    (s.modWear f).margin = s.margin := rfl
@[simp] theorem modWear_synth (s : State) (f : Wear → Wear) :
    (s.modWear f).synth = s.synth := rfl
@[simp] theorem modWear_nib (s : State) (f : Wear → Wear) :
    (s.modWear f).nib = s.nib := rfl
@[simp] theorem modWear_gnss (s : State) (f : Wear → Wear) :
    (s.modWear f).gnss = s.gnss := rfl
@[simp] theorem modWear_net (s : State) (f : Wear → Wear) :
    (s.modWear f).net = s.net := rfl
@[simp] theorem modWear_keys (s : State) (f : Wear → Wear) :
    (s.modWear f).keys = s.keys := rfl
@[simp] theorem modWear_stack (s : State) (f : Wear → Wear) :
    (s.modWear f).stack = s.stack := rfl
@[simp] theorem modWear_wear (s : State) (f : Wear → Wear) :
    (s.modWear f).wear = f s.wear := rfl
@[simp] theorem modWear_host (s : State) (f : Wear → Wear) :
    (s.modWear f).host = s.host := rfl

/-! ### modHost -/

@[simp] theorem modHost_pending (s : State) (f : HostIf → HostIf) :
    (s.modHost f).pending = s.pending := rfl
@[simp] theorem modHost_power (s : State) (f : HostIf → HostIf) :
    (s.modHost f).power = s.power := rfl
@[simp] theorem modHost_clock (s : State) (f : HostIf → HostIf) :
    (s.modHost f).clock = s.clock := rfl
@[simp] theorem modHost_refs (s : State) (f : HostIf → HostIf) :
    (s.modHost f).refs = s.refs := rfl
@[simp] theorem modHost_sel (s : State) (f : HostIf → HostIf) :
    (s.modHost f).sel = s.sel := rfl
@[simp] theorem modHost_ductus (s : State) (f : HostIf → HostIf) :
    (s.modHost f).ductus = s.ductus := rfl
@[simp] theorem modHost_margin (s : State) (f : HostIf → HostIf) :
    (s.modHost f).margin = s.margin := rfl
@[simp] theorem modHost_synth (s : State) (f : HostIf → HostIf) :
    (s.modHost f).synth = s.synth := rfl
@[simp] theorem modHost_nib (s : State) (f : HostIf → HostIf) :
    (s.modHost f).nib = s.nib := rfl
@[simp] theorem modHost_gnss (s : State) (f : HostIf → HostIf) :
    (s.modHost f).gnss = s.gnss := rfl
@[simp] theorem modHost_net (s : State) (f : HostIf → HostIf) :
    (s.modHost f).net = s.net := rfl
@[simp] theorem modHost_keys (s : State) (f : HostIf → HostIf) :
    (s.modHost f).keys = s.keys := rfl
@[simp] theorem modHost_stack (s : State) (f : HostIf → HostIf) :
    (s.modHost f).stack = s.stack := rfl
@[simp] theorem modHost_wear (s : State) (f : HostIf → HostIf) :
    (s.modHost f).wear = s.wear := rfl
@[simp] theorem modHost_host (s : State) (f : HostIf → HostIf) :
    (s.modHost f).host = f s.host := rfl

/-! ### modRef -/

@[simp] theorem modRef_pending (s : State) (i : Fin 20) (f : Ref → Ref) :
    (s.modRef i f).pending = s.pending := rfl
@[simp] theorem modRef_power (s : State) (i : Fin 20) (f : Ref → Ref) :
    (s.modRef i f).power = s.power := rfl
@[simp] theorem modRef_clock (s : State) (i : Fin 20) (f : Ref → Ref) :
    (s.modRef i f).clock = s.clock := rfl
@[simp] theorem modRef_refs (s : State) (i : Fin 20) (f : Ref → Ref) :
    (s.modRef i f).refs = upd s.refs i f := rfl
@[simp] theorem modRef_sel (s : State) (i : Fin 20) (f : Ref → Ref) :
    (s.modRef i f).sel = s.sel := rfl
@[simp] theorem modRef_ductus (s : State) (i : Fin 20) (f : Ref → Ref) :
    (s.modRef i f).ductus = s.ductus := rfl
@[simp] theorem modRef_margin (s : State) (i : Fin 20) (f : Ref → Ref) :
    (s.modRef i f).margin = s.margin := rfl
@[simp] theorem modRef_synth (s : State) (i : Fin 20) (f : Ref → Ref) :
    (s.modRef i f).synth = s.synth := rfl
@[simp] theorem modRef_nib (s : State) (i : Fin 20) (f : Ref → Ref) :
    (s.modRef i f).nib = s.nib := rfl
@[simp] theorem modRef_gnss (s : State) (i : Fin 20) (f : Ref → Ref) :
    (s.modRef i f).gnss = s.gnss := rfl
@[simp] theorem modRef_net (s : State) (i : Fin 20) (f : Ref → Ref) :
    (s.modRef i f).net = s.net := rfl
@[simp] theorem modRef_keys (s : State) (i : Fin 20) (f : Ref → Ref) :
    (s.modRef i f).keys = s.keys := rfl
@[simp] theorem modRef_stack (s : State) (i : Fin 20) (f : Ref → Ref) :
    (s.modRef i f).stack = s.stack := rfl
@[simp] theorem modRef_wear (s : State) (i : Fin 20) (f : Ref → Ref) :
    (s.modRef i f).wear = s.wear := rfl
@[simp] theorem modRef_host (s : State) (i : Fin 20) (f : Ref → Ref) :
    (s.modRef i f).host = s.host := rfl

/-! ### modNib -/

@[simp] theorem modNib_pending (s : State) (c : Fin 24) (f : NibChannel → NibChannel) :
    (s.modNib c f).pending = s.pending := rfl
@[simp] theorem modNib_power (s : State) (c : Fin 24) (f : NibChannel → NibChannel) :
    (s.modNib c f).power = s.power := rfl
@[simp] theorem modNib_clock (s : State) (c : Fin 24) (f : NibChannel → NibChannel) :
    (s.modNib c f).clock = s.clock := rfl
@[simp] theorem modNib_refs (s : State) (c : Fin 24) (f : NibChannel → NibChannel) :
    (s.modNib c f).refs = s.refs := rfl
@[simp] theorem modNib_sel (s : State) (c : Fin 24) (f : NibChannel → NibChannel) :
    (s.modNib c f).sel = s.sel := rfl
@[simp] theorem modNib_ductus (s : State) (c : Fin 24) (f : NibChannel → NibChannel) :
    (s.modNib c f).ductus = s.ductus := rfl
@[simp] theorem modNib_margin (s : State) (c : Fin 24) (f : NibChannel → NibChannel) :
    (s.modNib c f).margin = s.margin := rfl
@[simp] theorem modNib_synth (s : State) (c : Fin 24) (f : NibChannel → NibChannel) :
    (s.modNib c f).synth = s.synth := rfl
@[simp] theorem modNib_nib (s : State) (c : Fin 24) (f : NibChannel → NibChannel) :
    (s.modNib c f).nib = upd s.nib c f := rfl
@[simp] theorem modNib_gnss (s : State) (c : Fin 24) (f : NibChannel → NibChannel) :
    (s.modNib c f).gnss = s.gnss := rfl
@[simp] theorem modNib_net (s : State) (c : Fin 24) (f : NibChannel → NibChannel) :
    (s.modNib c f).net = s.net := rfl
@[simp] theorem modNib_keys (s : State) (c : Fin 24) (f : NibChannel → NibChannel) :
    (s.modNib c f).keys = s.keys := rfl
@[simp] theorem modNib_stack (s : State) (c : Fin 24) (f : NibChannel → NibChannel) :
    (s.modNib c f).stack = s.stack := rfl
@[simp] theorem modNib_wear (s : State) (c : Fin 24) (f : NibChannel → NibChannel) :
    (s.modNib c f).wear = s.wear := rfl
@[simp] theorem modNib_host (s : State) (c : Fin 24) (f : NibChannel → NibChannel) :
    (s.modNib c f).host = s.host := rfl

/-! ### modNts -/

@[simp] theorem modNts_pending (s : State) (f : Nts → Nts) :
    (s.modNts f).pending = s.pending := rfl
@[simp] theorem modNts_power (s : State) (f : Nts → Nts) :
    (s.modNts f).power = s.power := rfl
@[simp] theorem modNts_clock (s : State) (f : Nts → Nts) :
    (s.modNts f).clock = s.clock := rfl
@[simp] theorem modNts_refs (s : State) (f : Nts → Nts) :
    (s.modNts f).refs = s.refs := rfl
@[simp] theorem modNts_sel (s : State) (f : Nts → Nts) :
    (s.modNts f).sel = s.sel := rfl
@[simp] theorem modNts_ductus (s : State) (f : Nts → Nts) :
    (s.modNts f).ductus = s.ductus := rfl
@[simp] theorem modNts_margin (s : State) (f : Nts → Nts) :
    (s.modNts f).margin = s.margin := rfl
@[simp] theorem modNts_synth (s : State) (f : Nts → Nts) :
    (s.modNts f).synth = s.synth := rfl
@[simp] theorem modNts_nib (s : State) (f : Nts → Nts) :
    (s.modNts f).nib = s.nib := rfl
@[simp] theorem modNts_gnss (s : State) (f : Nts → Nts) :
    (s.modNts f).gnss = s.gnss := rfl
@[simp] theorem modNts_net (s : State) (f : Nts → Nts) :
    (s.modNts f).net = { s.net with nts := f s.net.nts } := rfl
@[simp] theorem modNts_keys (s : State) (f : Nts → Nts) :
    (s.modNts f).keys = s.keys := rfl
@[simp] theorem modNts_stack (s : State) (f : Nts → Nts) :
    (s.modNts f).stack = s.stack := rfl
@[simp] theorem modNts_wear (s : State) (f : Nts → Nts) :
    (s.modNts f).wear = s.wear := rfl
@[simp] theorem modNts_host (s : State) (f : Nts → Nts) :
    (s.modNts f).host = s.host := rfl

/-! ### modPtp -/

@[simp] theorem modPtp_pending (s : State) (f : Ptp → Ptp) :
    (s.modPtp f).pending = s.pending := rfl
@[simp] theorem modPtp_power (s : State) (f : Ptp → Ptp) :
    (s.modPtp f).power = s.power := rfl
@[simp] theorem modPtp_clock (s : State) (f : Ptp → Ptp) :
    (s.modPtp f).clock = s.clock := rfl
@[simp] theorem modPtp_refs (s : State) (f : Ptp → Ptp) :
    (s.modPtp f).refs = s.refs := rfl
@[simp] theorem modPtp_sel (s : State) (f : Ptp → Ptp) :
    (s.modPtp f).sel = s.sel := rfl
@[simp] theorem modPtp_ductus (s : State) (f : Ptp → Ptp) :
    (s.modPtp f).ductus = s.ductus := rfl
@[simp] theorem modPtp_margin (s : State) (f : Ptp → Ptp) :
    (s.modPtp f).margin = s.margin := rfl
@[simp] theorem modPtp_synth (s : State) (f : Ptp → Ptp) :
    (s.modPtp f).synth = s.synth := rfl
@[simp] theorem modPtp_nib (s : State) (f : Ptp → Ptp) :
    (s.modPtp f).nib = s.nib := rfl
@[simp] theorem modPtp_gnss (s : State) (f : Ptp → Ptp) :
    (s.modPtp f).gnss = s.gnss := rfl
@[simp] theorem modPtp_net (s : State) (f : Ptp → Ptp) :
    (s.modPtp f).net = { s.net with ptp := f s.net.ptp } := rfl
@[simp] theorem modPtp_keys (s : State) (f : Ptp → Ptp) :
    (s.modPtp f).keys = s.keys := rfl
@[simp] theorem modPtp_stack (s : State) (f : Ptp → Ptp) :
    (s.modPtp f).stack = s.stack := rfl
@[simp] theorem modPtp_wear (s : State) (f : Ptp → Ptp) :
    (s.modPtp f).wear = s.wear := rfl
@[simp] theorem modPtp_host (s : State) (f : Ptp → Ptp) :
    (s.modPtp f).host = s.host := rfl

/-! ### modMac -/

@[simp] theorem modMac_pending (s : State) (m : Fin 16) (f : Mac → Mac) :
    (s.modMac m f).pending = s.pending := rfl
@[simp] theorem modMac_power (s : State) (m : Fin 16) (f : Mac → Mac) :
    (s.modMac m f).power = s.power := rfl
@[simp] theorem modMac_clock (s : State) (m : Fin 16) (f : Mac → Mac) :
    (s.modMac m f).clock = s.clock := rfl
@[simp] theorem modMac_refs (s : State) (m : Fin 16) (f : Mac → Mac) :
    (s.modMac m f).refs = s.refs := rfl
@[simp] theorem modMac_sel (s : State) (m : Fin 16) (f : Mac → Mac) :
    (s.modMac m f).sel = s.sel := rfl
@[simp] theorem modMac_ductus (s : State) (m : Fin 16) (f : Mac → Mac) :
    (s.modMac m f).ductus = s.ductus := rfl
@[simp] theorem modMac_margin (s : State) (m : Fin 16) (f : Mac → Mac) :
    (s.modMac m f).margin = s.margin := rfl
@[simp] theorem modMac_synth (s : State) (m : Fin 16) (f : Mac → Mac) :
    (s.modMac m f).synth = s.synth := rfl
@[simp] theorem modMac_nib (s : State) (m : Fin 16) (f : Mac → Mac) :
    (s.modMac m f).nib = s.nib := rfl
@[simp] theorem modMac_gnss (s : State) (m : Fin 16) (f : Mac → Mac) :
    (s.modMac m f).gnss = s.gnss := rfl
@[simp] theorem modMac_net (s : State) (m : Fin 16) (f : Mac → Mac) :
    (s.modMac m f).net = { s.net with macs := upd s.net.macs m f } := rfl
@[simp] theorem modMac_keys (s : State) (m : Fin 16) (f : Mac → Mac) :
    (s.modMac m f).keys = s.keys := rfl
@[simp] theorem modMac_stack (s : State) (m : Fin 16) (f : Mac → Mac) :
    (s.modMac m f).stack = s.stack := rfl
@[simp] theorem modMac_wear (s : State) (m : Fin 16) (f : Mac → Mac) :
    (s.modMac m f).wear = s.wear := rfl
@[simp] theorem modMac_host (s : State) (m : Fin 16) (f : Mac → Mac) :
    (s.modMac m f).host = s.host := rfl

/-! ### modApll -/

@[simp] theorem modApll_pending (s : State) (i : Fin 8) (f : Apll → Apll) :
    (s.modApll i f).pending = s.pending := rfl
@[simp] theorem modApll_power (s : State) (i : Fin 8) (f : Apll → Apll) :
    (s.modApll i f).power = s.power := rfl
@[simp] theorem modApll_clock (s : State) (i : Fin 8) (f : Apll → Apll) :
    (s.modApll i f).clock = s.clock := rfl
@[simp] theorem modApll_refs (s : State) (i : Fin 8) (f : Apll → Apll) :
    (s.modApll i f).refs = s.refs := rfl
@[simp] theorem modApll_sel (s : State) (i : Fin 8) (f : Apll → Apll) :
    (s.modApll i f).sel = s.sel := rfl
@[simp] theorem modApll_ductus (s : State) (i : Fin 8) (f : Apll → Apll) :
    (s.modApll i f).ductus = s.ductus := rfl
@[simp] theorem modApll_margin (s : State) (i : Fin 8) (f : Apll → Apll) :
    (s.modApll i f).margin = s.margin := rfl
@[simp] theorem modApll_synth (s : State) (i : Fin 8) (f : Apll → Apll) :
    (s.modApll i f).synth = { s.synth with aplls := upd s.synth.aplls i f } := rfl
@[simp] theorem modApll_nib (s : State) (i : Fin 8) (f : Apll → Apll) :
    (s.modApll i f).nib = s.nib := rfl
@[simp] theorem modApll_gnss (s : State) (i : Fin 8) (f : Apll → Apll) :
    (s.modApll i f).gnss = s.gnss := rfl
@[simp] theorem modApll_net (s : State) (i : Fin 8) (f : Apll → Apll) :
    (s.modApll i f).net = s.net := rfl
@[simp] theorem modApll_keys (s : State) (i : Fin 8) (f : Apll → Apll) :
    (s.modApll i f).keys = s.keys := rfl
@[simp] theorem modApll_stack (s : State) (i : Fin 8) (f : Apll → Apll) :
    (s.modApll i f).stack = s.stack := rfl
@[simp] theorem modApll_wear (s : State) (i : Fin 8) (f : Apll → Apll) :
    (s.modApll i f).wear = s.wear := rfl
@[simp] theorem modApll_host (s : State) (i : Fin 8) (f : Apll → Apll) :
    (s.modApll i f).host = s.host := rfl

/-! ### modCkout -/

@[simp] theorem modCkout_pending (s : State) (i : Fin 16) (f : Ckout → Ckout) :
    (s.modCkout i f).pending = s.pending := rfl
@[simp] theorem modCkout_power (s : State) (i : Fin 16) (f : Ckout → Ckout) :
    (s.modCkout i f).power = s.power := rfl
@[simp] theorem modCkout_clock (s : State) (i : Fin 16) (f : Ckout → Ckout) :
    (s.modCkout i f).clock = s.clock := rfl
@[simp] theorem modCkout_refs (s : State) (i : Fin 16) (f : Ckout → Ckout) :
    (s.modCkout i f).refs = s.refs := rfl
@[simp] theorem modCkout_sel (s : State) (i : Fin 16) (f : Ckout → Ckout) :
    (s.modCkout i f).sel = s.sel := rfl
@[simp] theorem modCkout_ductus (s : State) (i : Fin 16) (f : Ckout → Ckout) :
    (s.modCkout i f).ductus = s.ductus := rfl
@[simp] theorem modCkout_margin (s : State) (i : Fin 16) (f : Ckout → Ckout) :
    (s.modCkout i f).margin = s.margin := rfl
@[simp] theorem modCkout_synth (s : State) (i : Fin 16) (f : Ckout → Ckout) :
    (s.modCkout i f).synth = { s.synth with ckouts := upd s.synth.ckouts i f } := rfl
@[simp] theorem modCkout_nib (s : State) (i : Fin 16) (f : Ckout → Ckout) :
    (s.modCkout i f).nib = s.nib := rfl
@[simp] theorem modCkout_gnss (s : State) (i : Fin 16) (f : Ckout → Ckout) :
    (s.modCkout i f).gnss = s.gnss := rfl
@[simp] theorem modCkout_net (s : State) (i : Fin 16) (f : Ckout → Ckout) :
    (s.modCkout i f).net = s.net := rfl
@[simp] theorem modCkout_keys (s : State) (i : Fin 16) (f : Ckout → Ckout) :
    (s.modCkout i f).keys = s.keys := rfl
@[simp] theorem modCkout_stack (s : State) (i : Fin 16) (f : Ckout → Ckout) :
    (s.modCkout i f).stack = s.stack := rfl
@[simp] theorem modCkout_wear (s : State) (i : Fin 16) (f : Ckout → Ckout) :
    (s.modCkout i f).wear = s.wear := rfl
@[simp] theorem modCkout_host (s : State) (i : Fin 16) (f : Ckout → Ckout) :
    (s.modCkout i f).host = s.host := rfl

/-! ### modEvout -/

@[simp] theorem modEvout_pending (s : State) (i : Fin 8) (f : Evout → Evout) :
    (s.modEvout i f).pending = s.pending := rfl
@[simp] theorem modEvout_power (s : State) (i : Fin 8) (f : Evout → Evout) :
    (s.modEvout i f).power = s.power := rfl
@[simp] theorem modEvout_clock (s : State) (i : Fin 8) (f : Evout → Evout) :
    (s.modEvout i f).clock = s.clock := rfl
@[simp] theorem modEvout_refs (s : State) (i : Fin 8) (f : Evout → Evout) :
    (s.modEvout i f).refs = s.refs := rfl
@[simp] theorem modEvout_sel (s : State) (i : Fin 8) (f : Evout → Evout) :
    (s.modEvout i f).sel = s.sel := rfl
@[simp] theorem modEvout_ductus (s : State) (i : Fin 8) (f : Evout → Evout) :
    (s.modEvout i f).ductus = s.ductus := rfl
@[simp] theorem modEvout_margin (s : State) (i : Fin 8) (f : Evout → Evout) :
    (s.modEvout i f).margin = s.margin := rfl
@[simp] theorem modEvout_synth (s : State) (i : Fin 8) (f : Evout → Evout) :
    (s.modEvout i f).synth = { s.synth with evouts := upd s.synth.evouts i f } := rfl
@[simp] theorem modEvout_nib (s : State) (i : Fin 8) (f : Evout → Evout) :
    (s.modEvout i f).nib = s.nib := rfl
@[simp] theorem modEvout_gnss (s : State) (i : Fin 8) (f : Evout → Evout) :
    (s.modEvout i f).gnss = s.gnss := rfl
@[simp] theorem modEvout_net (s : State) (i : Fin 8) (f : Evout → Evout) :
    (s.modEvout i f).net = s.net := rfl
@[simp] theorem modEvout_keys (s : State) (i : Fin 8) (f : Evout → Evout) :
    (s.modEvout i f).keys = s.keys := rfl
@[simp] theorem modEvout_stack (s : State) (i : Fin 8) (f : Evout → Evout) :
    (s.modEvout i f).stack = s.stack := rfl
@[simp] theorem modEvout_wear (s : State) (i : Fin 8) (f : Evout → Evout) :
    (s.modEvout i f).wear = s.wear := rfl
@[simp] theorem modEvout_host (s : State) (i : Fin 8) (f : Evout → Evout) :
    (s.modEvout i f).host = s.host := rfl

/-! ### modDpll -/

@[simp] theorem modDpll_pending (s : State) (i : Fin 6) (f : Dpll → Dpll) :
    (s.modDpll i f).pending = s.pending := rfl
@[simp] theorem modDpll_power (s : State) (i : Fin 6) (f : Dpll → Dpll) :
    (s.modDpll i f).power = s.power := rfl
@[simp] theorem modDpll_clock (s : State) (i : Fin 6) (f : Dpll → Dpll) :
    (s.modDpll i f).clock = s.clock := rfl
@[simp] theorem modDpll_refs (s : State) (i : Fin 6) (f : Dpll → Dpll) :
    (s.modDpll i f).refs = s.refs := rfl
@[simp] theorem modDpll_sel (s : State) (i : Fin 6) (f : Dpll → Dpll) :
    (s.modDpll i f).sel = s.sel := rfl
@[simp] theorem modDpll_ductus (s : State) (i : Fin 6) (f : Dpll → Dpll) :
    (s.modDpll i f).ductus = { s.ductus with dplls := upd s.ductus.dplls i f } := rfl
@[simp] theorem modDpll_margin (s : State) (i : Fin 6) (f : Dpll → Dpll) :
    (s.modDpll i f).margin = s.margin := rfl
@[simp] theorem modDpll_synth (s : State) (i : Fin 6) (f : Dpll → Dpll) :
    (s.modDpll i f).synth = s.synth := rfl
@[simp] theorem modDpll_nib (s : State) (i : Fin 6) (f : Dpll → Dpll) :
    (s.modDpll i f).nib = s.nib := rfl
@[simp] theorem modDpll_gnss (s : State) (i : Fin 6) (f : Dpll → Dpll) :
    (s.modDpll i f).gnss = s.gnss := rfl
@[simp] theorem modDpll_net (s : State) (i : Fin 6) (f : Dpll → Dpll) :
    (s.modDpll i f).net = s.net := rfl
@[simp] theorem modDpll_keys (s : State) (i : Fin 6) (f : Dpll → Dpll) :
    (s.modDpll i f).keys = s.keys := rfl
@[simp] theorem modDpll_stack (s : State) (i : Fin 6) (f : Dpll → Dpll) :
    (s.modDpll i f).stack = s.stack := rfl
@[simp] theorem modDpll_wear (s : State) (i : Fin 6) (f : Dpll → Dpll) :
    (s.modDpll i f).wear = s.wear := rfl
@[simp] theorem modDpll_host (s : State) (i : Fin 6) (f : Dpll → Dpll) :
    (s.modDpll i f).host = s.host := rfl

/-! ### modPort -/

@[simp] theorem modPort_pending (s : State) (p : Fin 2) (f : GnssPort → GnssPort) :
    (s.modPort p f).pending = s.pending := rfl
@[simp] theorem modPort_power (s : State) (p : Fin 2) (f : GnssPort → GnssPort) :
    (s.modPort p f).power = s.power := rfl
@[simp] theorem modPort_clock (s : State) (p : Fin 2) (f : GnssPort → GnssPort) :
    (s.modPort p f).clock = s.clock := rfl
@[simp] theorem modPort_refs (s : State) (p : Fin 2) (f : GnssPort → GnssPort) :
    (s.modPort p f).refs = s.refs := rfl
@[simp] theorem modPort_sel (s : State) (p : Fin 2) (f : GnssPort → GnssPort) :
    (s.modPort p f).sel = s.sel := rfl
@[simp] theorem modPort_ductus (s : State) (p : Fin 2) (f : GnssPort → GnssPort) :
    (s.modPort p f).ductus = s.ductus := rfl
@[simp] theorem modPort_margin (s : State) (p : Fin 2) (f : GnssPort → GnssPort) :
    (s.modPort p f).margin = s.margin := rfl
@[simp] theorem modPort_synth (s : State) (p : Fin 2) (f : GnssPort → GnssPort) :
    (s.modPort p f).synth = s.synth := rfl
@[simp] theorem modPort_nib (s : State) (p : Fin 2) (f : GnssPort → GnssPort) :
    (s.modPort p f).nib = s.nib := rfl
@[simp] theorem modPort_gnss (s : State) (p : Fin 2) (f : GnssPort → GnssPort) :
    (s.modPort p f).gnss = { s.gnss with ports := upd s.gnss.ports p f } := rfl
@[simp] theorem modPort_net (s : State) (p : Fin 2) (f : GnssPort → GnssPort) :
    (s.modPort p f).net = s.net := rfl
@[simp] theorem modPort_keys (s : State) (p : Fin 2) (f : GnssPort → GnssPort) :
    (s.modPort p f).keys = s.keys := rfl
@[simp] theorem modPort_stack (s : State) (p : Fin 2) (f : GnssPort → GnssPort) :
    (s.modPort p f).stack = s.stack := rfl
@[simp] theorem modPort_wear (s : State) (p : Fin 2) (f : GnssPort → GnssPort) :
    (s.modPort p f).wear = s.wear := rfl
@[simp] theorem modPort_host (s : State) (p : Fin 2) (f : GnssPort → GnssPort) :
    (s.modPort p f).host = s.host := rfl

/-! ### modLink -/

@[simp] theorem modLink_pending (s : State) (l : Fin 2) (f : StackLink → StackLink) :
    (s.modLink l f).pending = s.pending := rfl
@[simp] theorem modLink_power (s : State) (l : Fin 2) (f : StackLink → StackLink) :
    (s.modLink l f).power = s.power := rfl
@[simp] theorem modLink_clock (s : State) (l : Fin 2) (f : StackLink → StackLink) :
    (s.modLink l f).clock = s.clock := rfl
@[simp] theorem modLink_refs (s : State) (l : Fin 2) (f : StackLink → StackLink) :
    (s.modLink l f).refs = s.refs := rfl
@[simp] theorem modLink_sel (s : State) (l : Fin 2) (f : StackLink → StackLink) :
    (s.modLink l f).sel = s.sel := rfl
@[simp] theorem modLink_ductus (s : State) (l : Fin 2) (f : StackLink → StackLink) :
    (s.modLink l f).ductus = s.ductus := rfl
@[simp] theorem modLink_margin (s : State) (l : Fin 2) (f : StackLink → StackLink) :
    (s.modLink l f).margin = s.margin := rfl
@[simp] theorem modLink_synth (s : State) (l : Fin 2) (f : StackLink → StackLink) :
    (s.modLink l f).synth = s.synth := rfl
@[simp] theorem modLink_nib (s : State) (l : Fin 2) (f : StackLink → StackLink) :
    (s.modLink l f).nib = s.nib := rfl
@[simp] theorem modLink_gnss (s : State) (l : Fin 2) (f : StackLink → StackLink) :
    (s.modLink l f).gnss = s.gnss := rfl
@[simp] theorem modLink_net (s : State) (l : Fin 2) (f : StackLink → StackLink) :
    (s.modLink l f).net = s.net := rfl
@[simp] theorem modLink_keys (s : State) (l : Fin 2) (f : StackLink → StackLink) :
    (s.modLink l f).keys = s.keys := rfl
@[simp] theorem modLink_stack (s : State) (l : Fin 2) (f : StackLink → StackLink) :
    (s.modLink l f).stack = { s.stack with links := upd s.stack.links l f } := rfl
@[simp] theorem modLink_wear (s : State) (l : Fin 2) (f : StackLink → StackLink) :
    (s.modLink l f).wear = s.wear := rfl
@[simp] theorem modLink_host (s : State) (l : Fin 2) (f : StackLink → StackLink) :
    (s.modLink l f).host = s.host := rfl

/-! ### modMember -/

@[simp] theorem modMember_pending (s : State) (p : Fin 8) (f : StackMember → StackMember) :
    (s.modMember p f).pending = s.pending := rfl
@[simp] theorem modMember_power (s : State) (p : Fin 8) (f : StackMember → StackMember) :
    (s.modMember p f).power = s.power := rfl
@[simp] theorem modMember_clock (s : State) (p : Fin 8) (f : StackMember → StackMember) :
    (s.modMember p f).clock = s.clock := rfl
@[simp] theorem modMember_refs (s : State) (p : Fin 8) (f : StackMember → StackMember) :
    (s.modMember p f).refs = s.refs := rfl
@[simp] theorem modMember_sel (s : State) (p : Fin 8) (f : StackMember → StackMember) :
    (s.modMember p f).sel = s.sel := rfl
@[simp] theorem modMember_ductus (s : State) (p : Fin 8) (f : StackMember → StackMember) :
    (s.modMember p f).ductus = s.ductus := rfl
@[simp] theorem modMember_margin (s : State) (p : Fin 8) (f : StackMember → StackMember) :
    (s.modMember p f).margin = s.margin := rfl
@[simp] theorem modMember_synth (s : State) (p : Fin 8) (f : StackMember → StackMember) :
    (s.modMember p f).synth = s.synth := rfl
@[simp] theorem modMember_nib (s : State) (p : Fin 8) (f : StackMember → StackMember) :
    (s.modMember p f).nib = s.nib := rfl
@[simp] theorem modMember_gnss (s : State) (p : Fin 8) (f : StackMember → StackMember) :
    (s.modMember p f).gnss = s.gnss := rfl
@[simp] theorem modMember_net (s : State) (p : Fin 8) (f : StackMember → StackMember) :
    (s.modMember p f).net = s.net := rfl
@[simp] theorem modMember_keys (s : State) (p : Fin 8) (f : StackMember → StackMember) :
    (s.modMember p f).keys = s.keys := rfl
@[simp] theorem modMember_stack (s : State) (p : Fin 8) (f : StackMember → StackMember) :
    (s.modMember p f).stack = { s.stack with members := upd s.stack.members p f } := rfl
@[simp] theorem modMember_wear (s : State) (p : Fin 8) (f : StackMember → StackMember) :
    (s.modMember p f).wear = s.wear := rfl
@[simp] theorem modMember_host (s : State) (p : Fin 8) (f : StackMember → StackMember) :
    (s.modMember p f).host = s.host := rfl

/-! ### modQueue -/

@[simp] theorem modQueue_pending (s : State) (q : Fin 5) (f : PanQueue → PanQueue) :
    (s.modQueue q f).pending = s.pending := rfl
@[simp] theorem modQueue_power (s : State) (q : Fin 5) (f : PanQueue → PanQueue) :
    (s.modQueue q f).power = s.power := rfl
@[simp] theorem modQueue_clock (s : State) (q : Fin 5) (f : PanQueue → PanQueue) :
    (s.modQueue q f).clock = s.clock := rfl
@[simp] theorem modQueue_refs (s : State) (q : Fin 5) (f : PanQueue → PanQueue) :
    (s.modQueue q f).refs = s.refs := rfl
@[simp] theorem modQueue_sel (s : State) (q : Fin 5) (f : PanQueue → PanQueue) :
    (s.modQueue q f).sel = s.sel := rfl
@[simp] theorem modQueue_ductus (s : State) (q : Fin 5) (f : PanQueue → PanQueue) :
    (s.modQueue q f).ductus = s.ductus := rfl
@[simp] theorem modQueue_margin (s : State) (q : Fin 5) (f : PanQueue → PanQueue) :
    (s.modQueue q f).margin = s.margin := rfl
@[simp] theorem modQueue_synth (s : State) (q : Fin 5) (f : PanQueue → PanQueue) :
    (s.modQueue q f).synth = s.synth := rfl
@[simp] theorem modQueue_nib (s : State) (q : Fin 5) (f : PanQueue → PanQueue) :
    (s.modQueue q f).nib = s.nib := rfl
@[simp] theorem modQueue_gnss (s : State) (q : Fin 5) (f : PanQueue → PanQueue) :
    (s.modQueue q f).gnss = s.gnss := rfl
@[simp] theorem modQueue_net (s : State) (q : Fin 5) (f : PanQueue → PanQueue) :
    (s.modQueue q f).net = s.net := rfl
@[simp] theorem modQueue_keys (s : State) (q : Fin 5) (f : PanQueue → PanQueue) :
    (s.modQueue q f).keys = s.keys := rfl
@[simp] theorem modQueue_stack (s : State) (q : Fin 5) (f : PanQueue → PanQueue) :
    (s.modQueue q f).stack = s.stack := rfl
@[simp] theorem modQueue_wear (s : State) (q : Fin 5) (f : PanQueue → PanQueue) :
    (s.modQueue q f).wear = s.wear := rfl
@[simp] theorem modQueue_host (s : State) (q : Fin 5) (f : PanQueue → PanQueue) :
    (s.modQueue q f).host = { s.host with queues := upd s.host.queues q f } := rfl

/-! ### modTask -/

@[simp] theorem modTask_pending (s : State) (t : Fin 4) (f : Task → Task) :
    (s.modTask t f).pending = s.pending := rfl
@[simp] theorem modTask_power (s : State) (t : Fin 4) (f : Task → Task) :
    (s.modTask t f).power = s.power := rfl
@[simp] theorem modTask_clock (s : State) (t : Fin 4) (f : Task → Task) :
    (s.modTask t f).clock = s.clock := rfl
@[simp] theorem modTask_refs (s : State) (t : Fin 4) (f : Task → Task) :
    (s.modTask t f).refs = s.refs := rfl
@[simp] theorem modTask_sel (s : State) (t : Fin 4) (f : Task → Task) :
    (s.modTask t f).sel = s.sel := rfl
@[simp] theorem modTask_ductus (s : State) (t : Fin 4) (f : Task → Task) :
    (s.modTask t f).ductus = s.ductus := rfl
@[simp] theorem modTask_margin (s : State) (t : Fin 4) (f : Task → Task) :
    (s.modTask t f).margin = s.margin := rfl
@[simp] theorem modTask_synth (s : State) (t : Fin 4) (f : Task → Task) :
    (s.modTask t f).synth = s.synth := rfl
@[simp] theorem modTask_nib (s : State) (t : Fin 4) (f : Task → Task) :
    (s.modTask t f).nib = s.nib := rfl
@[simp] theorem modTask_gnss (s : State) (t : Fin 4) (f : Task → Task) :
    (s.modTask t f).gnss = s.gnss := rfl
@[simp] theorem modTask_net (s : State) (t : Fin 4) (f : Task → Task) :
    (s.modTask t f).net = s.net := rfl
@[simp] theorem modTask_keys (s : State) (t : Fin 4) (f : Task → Task) :
    (s.modTask t f).keys = s.keys := rfl
@[simp] theorem modTask_stack (s : State) (t : Fin 4) (f : Task → Task) :
    (s.modTask t f).stack = s.stack := rfl
@[simp] theorem modTask_wear (s : State) (t : Fin 4) (f : Task → Task) :
    (s.modTask t f).wear = s.wear := rfl
@[simp] theorem modTask_host (s : State) (t : Fin 4) (f : Task → Task) :
    (s.modTask t f).host = { s.host with tasks := upd s.host.tasks t f } := rfl

/-! ### modTx -/

@[simp] theorem modTx_pending (s : State) (r : Fin 64) (f : Ring → Ring) :
    (s.modTx r f).pending = s.pending := rfl
@[simp] theorem modTx_power (s : State) (r : Fin 64) (f : Ring → Ring) :
    (s.modTx r f).power = s.power := rfl
@[simp] theorem modTx_clock (s : State) (r : Fin 64) (f : Ring → Ring) :
    (s.modTx r f).clock = s.clock := rfl
@[simp] theorem modTx_refs (s : State) (r : Fin 64) (f : Ring → Ring) :
    (s.modTx r f).refs = s.refs := rfl
@[simp] theorem modTx_sel (s : State) (r : Fin 64) (f : Ring → Ring) :
    (s.modTx r f).sel = s.sel := rfl
@[simp] theorem modTx_ductus (s : State) (r : Fin 64) (f : Ring → Ring) :
    (s.modTx r f).ductus = s.ductus := rfl
@[simp] theorem modTx_margin (s : State) (r : Fin 64) (f : Ring → Ring) :
    (s.modTx r f).margin = s.margin := rfl
@[simp] theorem modTx_synth (s : State) (r : Fin 64) (f : Ring → Ring) :
    (s.modTx r f).synth = s.synth := rfl
@[simp] theorem modTx_nib (s : State) (r : Fin 64) (f : Ring → Ring) :
    (s.modTx r f).nib = s.nib := rfl
@[simp] theorem modTx_gnss (s : State) (r : Fin 64) (f : Ring → Ring) :
    (s.modTx r f).gnss = s.gnss := rfl
@[simp] theorem modTx_net (s : State) (r : Fin 64) (f : Ring → Ring) :
    (s.modTx r f).net = s.net := rfl
@[simp] theorem modTx_keys (s : State) (r : Fin 64) (f : Ring → Ring) :
    (s.modTx r f).keys = s.keys := rfl
@[simp] theorem modTx_stack (s : State) (r : Fin 64) (f : Ring → Ring) :
    (s.modTx r f).stack = s.stack := rfl
@[simp] theorem modTx_wear (s : State) (r : Fin 64) (f : Ring → Ring) :
    (s.modTx r f).wear = s.wear := rfl
@[simp] theorem modTx_host (s : State) (r : Fin 64) (f : Ring → Ring) :
    (s.modTx r f).host = { s.host with tx := upd s.host.tx r f } := rfl

/-! ### modRx -/

@[simp] theorem modRx_pending (s : State) (r : Fin 64) (f : Ring → Ring) :
    (s.modRx r f).pending = s.pending := rfl
@[simp] theorem modRx_power (s : State) (r : Fin 64) (f : Ring → Ring) :
    (s.modRx r f).power = s.power := rfl
@[simp] theorem modRx_clock (s : State) (r : Fin 64) (f : Ring → Ring) :
    (s.modRx r f).clock = s.clock := rfl
@[simp] theorem modRx_refs (s : State) (r : Fin 64) (f : Ring → Ring) :
    (s.modRx r f).refs = s.refs := rfl
@[simp] theorem modRx_sel (s : State) (r : Fin 64) (f : Ring → Ring) :
    (s.modRx r f).sel = s.sel := rfl
@[simp] theorem modRx_ductus (s : State) (r : Fin 64) (f : Ring → Ring) :
    (s.modRx r f).ductus = s.ductus := rfl
@[simp] theorem modRx_margin (s : State) (r : Fin 64) (f : Ring → Ring) :
    (s.modRx r f).margin = s.margin := rfl
@[simp] theorem modRx_synth (s : State) (r : Fin 64) (f : Ring → Ring) :
    (s.modRx r f).synth = s.synth := rfl
@[simp] theorem modRx_nib (s : State) (r : Fin 64) (f : Ring → Ring) :
    (s.modRx r f).nib = s.nib := rfl
@[simp] theorem modRx_gnss (s : State) (r : Fin 64) (f : Ring → Ring) :
    (s.modRx r f).gnss = s.gnss := rfl
@[simp] theorem modRx_net (s : State) (r : Fin 64) (f : Ring → Ring) :
    (s.modRx r f).net = s.net := rfl
@[simp] theorem modRx_keys (s : State) (r : Fin 64) (f : Ring → Ring) :
    (s.modRx r f).keys = s.keys := rfl
@[simp] theorem modRx_stack (s : State) (r : Fin 64) (f : Ring → Ring) :
    (s.modRx r f).stack = s.stack := rfl
@[simp] theorem modRx_wear (s : State) (r : Fin 64) (f : Ring → Ring) :
    (s.modRx r f).wear = s.wear := rfl
@[simp] theorem modRx_host (s : State) (r : Fin 64) (f : Ring → Ring) :
    (s.modRx r f).host = { s.host with rx := upd s.host.rx r f } := rfl

end Sys2Proof.Machine
end

