-- ==== Sys2Proof/WellFormed.lean ====
section
/-! DEFINITION. Which commands are terms that a sender can give: every value fits the widest field that
could carry it (00 R10, 15 R408 to R410). The meanings do not assume it. -/

namespace Sys2Proof

/-- An unsigned operand is a value of at most 16 octets. -/
def wfNat (n : Nat) : Bool := decide (n < 2 ^ 128)

/-- A body is shorter than 2^32 bytes. -/
def wfReq (r : Req) : Bool := decide (r.len < 2 ^ 32)

/-- A signed operand is a 64-bit value. -/
def wfInt (i : Int) : Bool := decide (-2 ^ 63 ≤ i) && decide (i < 2 ^ 63)

/-- A ZT128 as supplied: 64-bit SECONDS, 32-bit NANOSECONDS, 16-bit FRACTION (00 R10). -/
def wfZt (t : ZT128) : Bool :=
  decide (t.seconds < 2 ^ 64) && decide (t.nanoseconds < 2 ^ 32) && decide (t.fraction < 2 ^ 16)

/-- INDEX is 16-bit and MASK 32-bit (15 R409). -/
def wfGReq (g : GReq) : Bool := decide (g.index < 2 ^ 16) && decide (g.mask < 2 ^ 32)

/-- A received frame: its addresses are 48-bit, the sub-tick is below one tick. -/
def wfFrame (f : Frame) : Bool :=
  decide (f.sub < 2 ^ 40) && decide (f.da < 2 ^ 48) && decide (f.sa < 2 ^ 48) &&
  decide (f.etherType < 2 ^ 16)

/-- The well-formed commands. -/
def Instr.wf : Instr → Bool
  | .speedMode r mode => wfReq r && wfNat mode
  | .timeSet r t0 setAt => wfReq r && wfZt t0 && wfNat setAt
  | .timeStep r amount => wfReq r && wfInt amount
  | .timeRestart r => wfReq r
  | .leapTable r base expiry _ => wfReq r && wfInt base && wfNat expiry
  | .bootReport r => wfReq r
  | .scribeRestart r => wfReq r
  | .deviceReset r deviceId => wfReq r && wfNat deviceId
  | .mailboxReset r => wfReq r
  | .firmwareWrite r slot slotOffset length =>
    wfReq r &&
    wfNat slot &&
    wfNat slotOffset &&
    wfNat length
  | .firmwareStage r slot => wfReq r && wfNat slot
  | .firmwareConfirm r => wfReq r
  | .userLoad r length header => wfReq r && wfNat length && wfNat header
  | .userUnload r => wfReq r
  | .referenceConfigure r g => wfReq r && wfGReq g
  | .monitorConfigure r g => wfReq r && wfGReq g
  | .selectionConfigure r g => wfReq r && wfGReq g
  | .referenceEnable r index enable => wfReq r && wfNat index && wfNat enable
  | .referenceRelease r index action => wfReq r && wfNat index && wfNat action
  | .referenceReject r index => wfReq r && wfNat index
  | .forceSelect r index => wfReq r && wfNat index
  | .temperatureReport r index temp => wfReq r && wfNat index && wfInt temp
  | .selectionHook r action => wfReq r && wfNat action
  | .referenceStatus r first count => wfReq r && wfNat first && wfNat count
  | .ductusConfigure r g => wfReq r && wfGReq g
  | .clockModel r g => wfReq r && wfGReq g
  | .dpllConfigure r g => wfReq r && wfGReq g
  | .dpllEnable r channel enable => wfReq r && wfNat channel && wfNat enable
  | .modelExport r => wfReq r
  | .modelImport r _ => wfReq r
  | .marginConfigure r g => wfReq r && wfGReq g
  | .ductusStatus r => wfReq r
  | .marginStatus r => wfReq r
  | .apllConfigure r g => wfReq r && wfGReq g
  | .outputConfigure r g => wfReq r && wfGReq g
  | .realign r channelMask evoutMask frameMask rate =>
    wfReq r &&
    wfNat channelMask &&
    wfNat evoutMask &&
    wfNat frameMask &&
    wfNat rate
  | .evoutProgram r g => wfReq r && wfGReq g
  | .evinConfigure r g => wfReq r && wfGReq g
  | .loopbackCheck r source count tolerance =>
    wfReq r &&
    wfNat source &&
    wfNat count &&
    wfInt tolerance
  | .outputStatus r => wfReq r
  | .portMode r mode => wfReq r && wfNat mode
  | .portConfigure r g => wfReq r && wfGReq g
  | .vlanList r mac _ => wfReq r && wfNat mac
  | .steeringTable r _ => wfReq r
  | .queueConfigure r g => wfReq r && wfGReq g
  | .egressConfigure r g => wfReq r && wfGReq g
  | .gateList r mac cycle base _ => wfReq r && wfNat mac && wfNat cycle && wfZt base
  | .portStatus r mac => wfReq r && wfNat mac
  | .egressStatus r mac => wfReq r && wfNat mac
  | .serviceAddressConfigure r g => wfReq r && wfGReq g
  | .rotationConfigure r g => wfReq r && wfGReq g
  | .rotateNow r => wfReq r
  | .invalidateKey r keyId => wfReq r && wfNat keyId
  | .cookieMint r entries => wfReq r && wfNat entries
  | .policingProfile r g => wfReq r && wfGReq g
  | .ntsStatus r address => wfReq r && wfNat address
  | .ptpServiceConfigure r g => wfReq r && wfGReq g
  | .ptpGlobalConfigure r g => wfReq r && wfGReq g
  | .sessionRead r first count => wfReq r && wfNat first && wfNat count
  | .saConfigure r g => wfReq r && wfGReq g
  | .keyReplace r sa which keyId handle =>
    wfReq r &&
    wfNat sa &&
    wfNat which &&
    wfNat keyId &&
    wfNat handle
  | .saInvalidate r sa => wfReq r && wfNat sa
  | .clientEntry r g => wfReq r && wfGReq g
  | .clientConfigure r g => wfReq r && wfGReq g
  | .ptpStatus r address => wfReq r && wfNat address
  | .lifeCycle r fromState target deviceId =>
    wfReq r &&
    wfNat fromState &&
    wfNat target &&
    wfNat deviceId
  | .zeroise r deviceId => wfReq r && wfNat deviceId
  | .tamperConfigure r g => wfReq r && wfGReq g
  | .attestation r _ sigAlg => wfReq r && wfNat sigAlg
  | .identityRead r => wfReq r
  | .attestRotate r => wfReq r
  | .importRotate r => wfReq r
  | .keyImport r sa which algorithm keyId =>
    wfReq r &&
    wfNat sa &&
    wfNat which &&
    wfNat algorithm &&
    wfNat keyId
  | .saKeyDerive r sa which keyId _ => wfReq r && wfNat sa && wfNat which && wfNat keyId
  | .saKeyExport r sa => wfReq r && wfNat sa
  | .seal r length _ => wfReq r && wfNat length
  | .unseal r length => wfReq r && wfNat length
  | .entropySample r count => wfReq r && wfNat count
  | .keyStatus r first count => wfReq r && wfNat first && wfNat count
  | .gnssPortConfigure r g => wfReq r && wfGReq g
  | .trackingConfigure r g => wfReq r && wfGReq g
  | .consistencyConfigure r g => wfReq r && wfGReq g
  | .exclusionList r _ => wfReq r
  | .positionSet r port x y z unc =>
    wfReq r &&
    wfNat port &&
    wfInt x &&
    wfInt y &&
    wfInt z &&
    wfNat unc
  | .fixConfigure r g => wfReq r && wfGReq g
  | .orbitExport r => wfReq r
  | .orbitImport r _ => wfReq r
  | .groupDelayMeasure r port duration => wfReq r && wfNat port && wfNat duration
  | .snapshot r trigger evin duration overwrite start =>
    wfReq r &&
    wfNat trigger &&
    wfNat evin &&
    wfNat duration &&
    wfNat overwrite &&
    wfZt start
  | .snapshotRelease r => wfReq r
  | .snapshotExport r hostAddr length => wfReq r && wfNat hostAddr && wfNat length
  | .gnssStatus r port => wfReq r && wfNat port
  | .groupDelayResult r port => wfReq r && wfNat port
  | .channelAllocate r => wfReq r
  | .channelRelease r channel => wfReq r && wfNat channel
  | .channelConfigure r g => wfReq r && wfGReq g
  | .streamConfigure r g => wfReq r && wfGReq g
  | .channelStatus r first count => wfReq r && wfNat first && wfNat count
  | .stackConfigure r g => wfReq r && wfGReq g
  | .pair r link peerDeviceId => wfReq r && wfNat link && wfNat peerDeviceId
  | .detach r => wfReq r
  | .witness r verdict term => wfReq r && wfNat verdict && wfNat term
  | .stackStatus r => wfReq r
  | .calibrationRead r offset length => wfReq r && wfNat offset && wfNat length
  | .calibrationWrite r generation offset _ => wfReq r && wfNat generation && wfNat offset
  | .calibrationDigest r => wfReq r
  | .counterRead r first count => wfReq r && wfNat first && wfNat count
  | .filterConfigure r g => wfReq r && wfGReq g
  | .wearLedgerRead r first count => wfReq r && wfNat first && wfNat count
  | .persistentLog r first count => wfReq r && wfNat first && wfNat count
  | .referenceConfigureReadBack r index => wfReq r && wfNat index
  | .monitorConfigureReadBack r index => wfReq r && wfNat index
  | .selectionConfigureReadBack r index => wfReq r && wfNat index
  | .ductusConfigureReadBack r index => wfReq r && wfNat index
  | .clockModelReadBack r index => wfReq r && wfNat index
  | .dpllConfigureReadBack r index => wfReq r && wfNat index
  | .marginConfigureReadBack r index => wfReq r && wfNat index
  | .apllConfigureReadBack r index => wfReq r && wfNat index
  | .outputConfigureReadBack r index => wfReq r && wfNat index
  | .evoutProgramReadBack r index => wfReq r && wfNat index
  | .evinConfigureReadBack r index => wfReq r && wfNat index
  | .portConfigureReadBack r index => wfReq r && wfNat index
  | .queueConfigureReadBack r index => wfReq r && wfNat index
  | .egressConfigureReadBack r index => wfReq r && wfNat index
  | .serviceAddressConfigReadBack r index => wfReq r && wfNat index
  | .rotationConfigureReadBack r index => wfReq r && wfNat index
  | .policingProfileReadBack r index => wfReq r && wfNat index
  | .ptpServiceConfigureReadBack r index => wfReq r && wfNat index
  | .ptpGlobalConfigureReadBack r index => wfReq r && wfNat index
  | .saConfigureReadBack r index => wfReq r && wfNat index
  | .clientEntryReadBack r index => wfReq r && wfNat index
  | .clientConfigureReadBack r index => wfReq r && wfNat index
  | .tamperConfigureReadBack r index => wfReq r && wfNat index
  | .gnssPortConfigureReadBack r index => wfReq r && wfNat index
  | .trackingConfigureReadBack r index => wfReq r && wfNat index
  | .consistencyConfigureReadBack r index => wfReq r && wfNat index
  | .fixConfigureReadBack r index => wfReq r && wfNat index
  | .channelConfigureReadBack r index => wfReq r && wfNat index
  | .streamConfigureReadBack r index => wfReq r && wfNat index
  | .stackConfigureReadBack r index => wfReq r && wfNat index
  | .filterConfigureReadBack r index => wfReq r && wfNat index
  | .commandCall _ block opcode sequence length flags =>
    wfNat block &&
    wfNat opcode &&
    wfNat sequence &&
    wfNat length &&
    wfNat flags
  | .eventWait _ block areaMask timeout => wfNat block && wfNat areaMask && wfNat timeout
  | .timeCall _ block => wfNat block
  | .sleep _ block microseconds => wfNat block && wfNat microseconds
  | .hookWait _ block => wfNat block
  | .hookAnswer _ block _ => wfNat block
  | .signalSet _ block handler => wfNat block && wfNat handler
  | .signalReturn _ => true
  | .exit _ => true
  | .unknownSystemCall _ number => wfNat number
  | .taskReturn _ => true
  | .userTaskFault _ _ => true
  | .sleepExpiry _ => true
  | .eventWaitTimeout _ => true
  | .hookTimeout _ => true
  | .mailboxDoorbell _ => true
  | .emergencyDoorbell _ => true
  | .emClaim _ => true
  | .emRelease _ => true
  | .emOwnershipTimeout => true
  | .adminLock => true
  | .cwLatch => true
  | .dpDataRead => true
  | .dpDataWrite value => wfNat value
  | .bar2Access addr size _ => wfNat addr && wfNat size
  | .dpDmaGo value => wfNat value
  | .dpDmaComplete _ => true
  | .dpInject _ => true
  | .ringEnable _ _ value => wfNat value
  | .ringDisable _ _ value => wfNat value
  | .ringTailWrite _ _ tail => wfNat tail
  | .pqFlush _ => true
  | .pqConsumerWrite _ value => wfNat value
  | .panQueuePop _ => true
  | .lowHalfRead addr => wfNat addr
  | .registerWrite addr size value => wfNat addr && wfNat size && wfNat value
  | .spiRead addr words => wfNat addr && wfNat words
  | .spiWrite addr words => wfNat addr && words.all wfNat
  | .interruptHoldoffEnd _ => true
  | .watchdogExpiry => true
  | .hostSideReset => true
  | .d3hotEntry => true
  | .resetAssert => true
  | .resetRelease b => b.vddo.length == 9
  | .supervisorStart => true
  | .scribeRestartComplete regions => wfNat regions
  | .tamperDetected detector _ => wfNat detector
  | .lifeCycleComplete => true
  | .thermtrip => true
  | .thermalGuard => true
  | .temperatureSample sensors => sensors.all wfInt
  | .modeReservationsDrained => true
  | .supplySetPointReached => true
  | .paceWithinGoverningRatio => true
  | .governingWaitTimeout => true
  | .regulatorTimeout => true
  | .paceUpdate nts ptp sched host device =>
    wfNat nts &&
    wfNat ptp &&
    wfNat sched &&
    wfNat host &&
    wfNat device
  | .paceMirrorUpdate largest => largest.all wfNat
  | .wearRatioUpdate means junctionMean => means.all wfNat && wfInt junctionMean
  | .bistFailure cls unit => wfNat cls && wfNat unit
  | .wornUnitRetired cls unit => wfNat cls && wfNat unit
  | .scribeCoreTakeover core => wfNat core
  | .eccError _ row column _ _ _ => wfNat row && wfNat column
  | .sramRepairComplete _ => true
  | .filteredCounterWrap _ => true
  | .counterOverflowSignal _ resume => wfNat resume
  | .frameReceived f => wfFrame f
  | .pauseFrame _ _ => true
  | .pauseWindowOpen _ _ => true
  | .pauseWindowClose _ _ => true
  | .pauseBudgetExhausted _ => true
  | .pauseBudgetRestore _ => true
  | .linkUp _ => true
  | .linkDown _ reason => wfNat reason
  | .laneSkewChange _ lane skew => wfNat lane && wfInt skew
  | .lpiEntry _ => true
  | .lpiWake _ => true
  | .ntsTransaction _ => true
  | .ptpTransaction engine => wfNat engine
  | .negotiation => true
  | .grantExpirySweep => true
  | .cancellingTimeout _ => true
  | .scheduledMessage _ index msgType => wfNat index && wfNat msgType
  | .ptpClientMessage _ => true
  | .grantRenewal _ msgType => wfNat msgType
  | .announceTimeout _ => true
  | .followUpTimeout _ => true
  | .measIntervalEnd _ => true
  | .pathStableExpiry _ => true
  | .policingBankSwap => true
  | .sealDeadlineMissed _ id => wfNat id
  | .strokeLaunch _ id => wfNat id
  | .hostTimedReserve _ => true
  | .transmitDescriptor _ d => wfZt d.launchAt
  | .untimedFrameStart _ => true
  | .frameTransmitted _ => true
  | .gateListStart _ => true
  | .gateEntryBoundary _ => true
  | .panQueueItemCommit _ => true
  | .panQueueDelivery _ => true
  | .handover => true
  | .timeStepApply => true
  | .recoveryStart => true
  | .clockRestart xoEdges _ => wfNat xoEdges
  | .leapTableExpiry => true
  | .evinEdge _ _ sub => wfNat sub
  | .evoutPulse _ => true
  | .nibEdge _ _ sub => wfNat sub
  | .nibLockUpdate _ _ _ _ => true
  | .nibLineSwap _ _ => true
  | .nibPairTimeout _ => true
  | .nibGateEnd _ => true
  | .referenceEvaluation => true
  | .activityDeadline _ => true
  | .frequencyGateEnd _ ensemble => wfInt ensemble
  | .phaseAverageEnd _ => true
  | .qualTimeExpiry _ => true
  | .wtrExpiry _ => true
  | .switchMeasureEnd => true
  | .switchComplete => true
  | .disagreementCheck _ _ => true
  | .gnssEpoch _ => true
  | .satelliteExclusionEnd _ _ => true
  | .checkClear _ _ => true
  | .gnssClockFault _ => true
  | .gnssClockRestored _ => true
  | .correlatorDump _ codeWord carrierWord next cn0 _ =>
    wfNat codeWord &&
    wfNat carrierWord &&
    wfNat next &&
    wfNat cn0
  | .channelTimeout _ => true
  | .gnssHistogram _ inPhase quadrature => inPhase.all wfNat && quadrature.all wfNat
  | .surveyComplete _ x y z unc horizontal vertical =>
    wfInt x &&
    wfInt y &&
    wfInt z &&
    wfNat unc &&
    wfNat horizontal &&
    wfNat vertical
  | .snapshotArmedStart => true
  | .snapshotComplete samplesA samplesB periodA periodB octets =>
    wfNat samplesA &&
    wfNat samplesB &&
    wfInt periodA &&
    wfInt periodB &&
    wfNat octets
  | .snapshotExportComplete => true
  | .groupDelayMeasureEnd _ means errors => means.all wfInt && errors.all wfNat
  | .ductusUpdate _ => true
  | .lockDwellExpiry => true
  | .xoLostClear => true
  | .updateTimeout => true
  | .dpllTracking _ => true
  | .dpllPulling _ => true
  | .marginEvaluation freezeGap => wfNat freezeGap
  | .statementSigned => true
  | .boundStale => true
  | .boundStaleSaturation => true
  | .classHoldExpiry _ => true
  | .apllLock _ => true
  | .apllSlip _ => true
  | .apllReengageTimeout _ => true
  | .limiterGate _ excursion => wfNat excursion
  | .outputAlignedStart _ => true
  | .realignSlewEnd _ => true
  | .frameStep _ index => wfNat index
  | .loopbackComplete source mean std => wfNat source && wfInt mean && wfInt std
  | .rotationCheck => true
  | .keyActivation => true
  | .keyRetire => true
  | .mintComplete => true
  | .keyWriteCommit slot => wfNat slot
  | .compactionComplete => true
  | .drbgReseed => true
  | .healthTestFailure _ => true
  | .attestationReady => true
  | .entropySampleComplete _ => true
  | .firmwareWriteComplete => true
  | .firmwareStageComplete result => wfNat result
  | .stackLinkUp _ => true
  | .stackLinkDown _ => true
  | .markerSend _ sub => wfNat sub
  | .markerReceived _ number _ sub => wfNat number && wfNat sub
  | .stackTransferInterval _ => true
  | .hello _ _ => true
  | .confirm _ _ => true
  | .admission _ verdict => wfNat verdict
  | .heartbeat _ role position ductusState flags members deviceId =>
    wfNat role &&
    wfNat position &&
    wfNat ductusState &&
    wfNat flags &&
    wfNat members &&
    wfNat deviceId
  | .tt _ txMarker rxMarker tTx tRx coreBound growth horizon recordSeq bootCount anchorKind chain =>
    wfNat txMarker &&
    wfNat rxMarker &&
    wfNat tTx &&
    wfNat tRx &&
    wfNat coreBound &&
    wfNat growth &&
    wfNat horizon &&
    wfNat recordSeq &&
    wfNat bootCount &&
    wfNat anchorKind &&
    wfNat chain
  | .state _ _ => true
  | .config _ _ => true
  | .session _ _ => true
  | .key _ _ => true
  | .ack _ ackedType ackedSeq _ => wfNat ackedType && wfNat ackedSeq
  | .activate _ keyId oldKeyId a retireAt =>
    wfNat keyId &&
    wfNat oldKeyId &&
    wfZt a &&
    wfNat retireAt
  | .resign _ newTerm => wfNat newTerm
  | .leave _ _ => true
  | .stackFrameRelay _ => true
  | .heartbeatSend => true
  | .heartbeatMiss _ => true
  | .replicationRetransmit id => wfNat id
  | .stateSend => true
  | .pairingStepTimeout => true
  | .witnessTimeout => true
  | .stackKeySwitch => true
  | .stackOldKeyExpiry => true
  | .detachAckTimeout => true
  | .powerFailure => true
  | .pcieLinkReturn => true
  | .aliveIncrement => true

end Sys2Proof
end

