-- ==== Sys2Proof/Tests/Slice0.lean ====
section
/-! SUPPORT. The model's own tests: ill-formed terms, single steps with values from the manual, and for each
obligation a witness that its clauses' hypotheses can be met. -/

namespace Sys2Proof.Tests

open Sys2Proof.Machine

/-- The request in hand: opcode `op` with a body of `len` octets, screened and not taken. -/
def pd (op len : Nat) : Pend :=
  { opcode := op, sequence := 7, length := len, bulk := false, rspOffset := 0, rspCapacity := 0, screened := true }
/-- A request of mailbox 0. -/
def rq (len : Nat) : Req := ⟨.mailbox 0, len⟩
/-- `s` with the supervisor running and that request in hand of mailbox 0. -/
def hold (s : State) (op len : Nat) : State :=
  s.modHost fun h => { h with supervisor := true, boxes := upd h.boxes 0 fun b => { b with inHand := some (pd op len) } }
/-- The machine right after reset. -/
abbrev S0 : State := State.reset
/-! Small values for the witnesses. -/
def img : TaskImage := ⟨0, 64, 64, 128, 4096, 8192, 4096, 1⟩
def ev0 : EventItem := ⟨0x0101, 0, 0, 0, 0, 0⟩
def item0 : QItem := ⟨0, false, .event ev0⟩
def ip0 : IpHdr := ⟨false, 1, 2, false, true, false, 17⟩
def udp0 (d : Nat) : UdpHdr := ⟨5000, d, .ok⟩
def ntp0 : NtpMsg := ⟨48, 4, 3, 6, 9, [], false, []⟩
def ann0 : AnnounceData := ⟨6, 0x21, 0x4E5D, 128, 0, 77, none⟩
def ptp0 (ty : Nat) : PtpMsg := ⟨ty, true, 2, 1, 44, 5, 1, 1, false, 0, {}, 0, 0, 0, ann0, [], 0, [], true, []⟩
def frame0 : Frame := ⟨0, 0, false, true, 100, 2 ^ 48 - 1, 6, 0x0900, [], none, none, .other 60⟩
def ntpFrame0 : Frame := { frame0 with da := 2, etherType := 0x0800, ip := some ip0, udp := some (udp0 123), payload := .ntp ntp0 }
def ptpFrame0 (ty : Nat) : Frame := { frame0 with da := 2, etherType := 0x0800, ip := some ip0, udp := some (udp0 319), payload := .ptp (ptp0 ty) }
def cmsg0 (ty : Nat) : ClientMsg := ⟨0, ptp0 ty, 5⟩
def nreq0 : NtsRequest := ⟨0, ntpFrame0, 5, false, true, {}⟩
def hdr0 : StackHdr := ⟨0, true, 1, true, 1, 0xFF, 3, 0, 0, 5, true⟩
def hello0 : HelloMsg := ⟨1, 2, 0, 8, 9, 0, 0, 1, 0, 0, true, true, true, []⟩
def pairing0 : Pairing := ⟨.hello, 0, 9, 0, none, 0, [], none⟩
def sat0 : SatMeas := ⟨⟨0, 3⟩, false, 400, 0, 0, 0, 0, 0, 0, false⟩
def epoch0 : GnssEpoch := ⟨0, some 3, 0, [sat0], 150, 10, 10, 4000, 0, 0, false, 0, none, [], []⟩
def desc0 : TxDesc := ⟨0, 64, 0, 0, 0, 0, {}, 1⟩
def pause0 : PauseFrame := ⟨false, true, 64, pauseAddress, 1, 5, 0, []⟩
def ctx0 : NegCtx := ⟨0, frame0, ip0, 320, ptp0 0xC, 0xFFFF⟩
def boot0 : BootInputs := ⟨5, [1800, 1800, 1800, 1800, 1800, 1800, 1800, 1800, 1800], 0, 0, true, [], false⟩
def bound0 : BoundRecord := ⟨0, 0, 0, 0, 0, 0, 0, 0, 0, 0, 0, 0, 0, 0, [], [], 0, 0, 0, none⟩
def res0 (id t : Nat) : Reservation :=
  { id := id, queue := 0, requester := 0, tReq := 0, t := t, start := t, stop := t + 1, length := 64, origin := .inject 0 }
/-- A request in hand of user task 0. -/
def taskHold (op len : Nat) : State :=
  (hold S0 0 0).modTask 0 fun k => { k with state := .ready, inHand := some (pd op len) }
def runS : State := { S0 with clock := { S0.clock with form := .counter } }
def ask0 : Ask := ⟨0, 0, 0, 0, 64, .inject 0, {}, 0, false⟩
def txS : State := runS.modMac 0 fun y =>
  { y with state := .up, queues := upd y.queues 4 fun z => { z with frames := [⟨64, .ring 0 0, 0, {}, []⟩] } }
theorem some_of_isSome {α : Type} {o : Option α} (h : o.isSome = true) : ∃ x, o = some x :=
  Option.isSome_iff_exists.mp h
def ntsS (q : NtsRequest) : State := S0.modNts fun n => { n with requests := [q] }
def ptpS : State := S0.modPtp fun p => { p with requests := [⟨0, ptpFrame0 1, 5⟩] }
def negMsg : PtpMsg := { ptp0 0xC with neg := [.request 2 0 300] }
def negQ : NegItem := ⟨0, { ptpFrame0 0xC with payload := .ptp negMsg }⟩
def negS : State := { S0 with host := { S0.host with supervisor := true }, net := { S0.net with ptp := { S0.net.ptp with
  negotiation := [negQ], addresses := upd S0.net.ptp.addresses 0 fun a => { a with cfg := { a.cfg with enable := 1 } } } } }
def negU : State := (verifyIcv 0 0 negMsg (negS.modPtp fun p => { p with negotiation := [] })).2
def negX : NegCtx := ⟨0, negQ.frame, ip0, 5000, negMsg, saOf (countUnknown 0 negMsg negU) 0 0 negMsg⟩
def negR : NegAnswer := settleRequest negX 2 0 300 (countUnknown 0 negMsg negU)
def svcS : State := { S0 with keys := { S0.keys with life := 2, ladder := true, drbgReady := true, roots := upd S0.keys.roots 2 fun k => { k with present := true } } }
/-- An import blob with its magic and generation stands at its place. -/
def impS : State := hold (svcS.modHost fun h =>
  { h with memory := h.memory.writeBytes zeroByte blobArea [0x5A, 0x4B, 0x49, 0x31, 1] }) 0x0808 8
/-- A derived SA key in slot 64. -/
def expS : State := hold { svcS with
  keys := { svcS.keys with slots := [(64, { state := 1, alloc := 1 })] },
  net := { svcS.net with ptp := { svcS.net.ptp with sas := [(0, { derived := true, current := ⟨1, 64 + 4096⟩ })] } } } 0x080A 2
def fullSlots : List (Nat × KeySlot) := (List.range 4032).map fun i => (i + 64, { state := 1 })
def slotS (l : List (Nat × KeySlot)) : State := hold { svcS with keys := { svcS.keys with slots := l } } 0x0809 40
theorem slotS_slotAt (l : List (Nat × KeySlot)) (n : Nat) : slotAt (slotS l) n = (assoc l n).getD {} := rfl
def fullS : State := slotS fullSlots
theorem assoc_map_range {α : Type} (v : α) (n j : Nat) (h : j < n) :
    assoc ((List.range n).map fun i => (i + 64, v)) (j + 64) = some v := by
  have key : ∀ l : List Nat, j ∈ l → assoc (l.map fun i => (i + 64, v)) (j + 64) = some v := by
    intro l
    induction l with
    | nil => intro h; cases h
    | cons a l ih =>
      intro h
      simp only [List.map_cons, assoc]
      split
      · rfl
      · next hne =>
        rcases List.mem_cons.mp h with rfl | h
        · exact absurd rfl hne
        · exact ih h
  exact key _ (List.mem_range.mpr h)
theorem fullS_freeSlot : freeSlot fullS = none := by
  unfold freeSlot
  rw [List.findSome?_eq_none_iff]
  intro i hi
  have hi : i < 4032 := Nat.lt_of_lt_of_le (List.mem_range.mp hi) (Nat.min_le_left _ _)
  have : slotAt fullS (i + 64) = { state := 1 } := by
    rw [fullS, slotS_slotAt, fullSlots, assoc_map_range _ _ _ hi]; rfl
  show (if (slotAt fullS (i + 64)).state = 0 ∧ _ then _ else _) = none
  rw [this]; rfl
/-- SEAL data of 32 octets stands at its place. -/
def unsealS : State := hold svcS 0x080C 2
def pair17 : Pairing := { pairing0 with step := .confirm, peer := some hello0 }
def pairS : State := { S0 with stack := { S0.stack with
  cfg := { S0.stack.cfg with linkE := 1, linkW := 1 }, links := Vector.replicate 2 { up := true }, pairing := some pair17 } }

/-! ### Ill-formed terms are refused -/

theorem test_wf_body_length : Instr.wf (.timeRestart ⟨.emergency, 2 ^ 32⟩) = false := by decide
theorem test_wf_operand : Instr.wf (.speedMode (rq 1) (2 ^ 128)) = false := by decide
theorem test_wf_signed_operand : Instr.wf (.timeStep (rq 8) (2 ^ 63)) = false := by decide
theorem test_wf_time : Instr.wf (.timeSet (rq 17) { nanoseconds := 2 ^ 32 } 0xFF) = false := by decide
theorem test_wf_configure_index : Instr.wf (.apllConfigure (rq 8) ⟨2 ^ 16, 0, []⟩) = false := by decide
theorem test_wf_configure_mask : Instr.wf (.apllConfigure (rq 8) ⟨0, 2 ^ 32, []⟩) = false := by decide
theorem test_wf_frame : Instr.wf (.frameReceived { frame0 with da := 2 ^ 48 }) = false := by decide
theorem test_wf_accepts : Instr.wf (.frameReceived frame0) = true := by decide

/-- No row of the table gives bits. -/
theorem test_no_word_spells_a_command : decodeTableWord 16 0x0101 = none := rfl

/-! ### Single steps. Expected values are worked out by hand from the rules named. -/

/-- What a field of the next state is, for a command at the front of the queue. -/
def after {α : Type} (c : Instr) (f : State → α) (s : State) : Option α :=
  match step { s with pending := [c] } with
  | .next t => some (f t)
  | _ => none

/-- 14 R383, 18 R501: opcode 0x0101, SEQUENCE 7, LENGTH 0, STATUS E_RANGE for mode 3 (01 R46). -/
theorem test_response_header : after (.speedMode (rq 1) 3) (fun t => t.host.boxes[(0 : Fin 16)].response.take 8)
    (hold S0 0x0101 1) = some [0x01, 0x01, 0x07, 0x00, 0x00, 0x00, 0x02, 0x01] := by decide
/-- 18 R500: 115 °C is 14,720 units of 1/128 °C. -/
theorem test_thermtrip : after .thermtrip (fun t => t.power.thermtripLow)
    { S0 with power := { S0.power with inReset := false, junction := 14720 } } = some true := by decide
theorem test_no_thermtrip_below : after .thermtrip (fun t => t.power.thermtripLow)
    { S0 with power := { S0.power with inReset := false, junction := 14719 } } = some false := by decide
/-- 14 R388 (EM_CLAIM): owner 2 is the SPI. -/
theorem test_claim : after (.emClaim .spi) (fun t => t.host.em.owner)
    { S0 with power := { S0.power with inReset := false } } = some 2 := by decide
/-- 07 R205, R206: one tick of V, and the register adds the nominal INCREMENT, 1 ns. -/
theorem test_idle_tick : (match step runS with
    | .next t => some (t.clock.ticks.toNat, t.clock.reg)
    | _ => none) = some (1, 2 ^ 40) := by decide
/-- 07 R214: a step of 1.5 ns is 98,304 units of 2^-16 ns and moves the register by 3 x 2^39. -/
theorem test_step_applies : after .timeStepApply (fun t => t.clock.reg)
    { runS with clock := { runS.clock with step := some ⟨98304, 0, .mailbox 0, 7⟩ } } = some (3 * 2 ^ 39) := by decide
/-- 09 R261: a frame shorter than 64 B is dropped as RUNT, the third reason. -/
theorem test_short_frame : after (.frameReceived { frame0 with length := 63 })
    (fun t => t.net.macs[(0 : Fin 16)].counters.toList.take 3) (S0.modMac 0 fun m => { m with state := .up }) =
    some [0, 0, 1] := by decide
/-- 14 R401: a pop takes the oldest item. -/
theorem test_pop : after (.panQueuePop 0) (fun t => t.host.queues[(0 : Fin 5)].items.length)
    (S0.modHost fun h => { h with linkUp := true, queues := upd h.queues 0 fun q => { q with items := [item0, item0] } }) =
    some 1 := by decide
/-- 04's worked example of coasting on one rubidium: 130,477 ps after 6 h. -/
theorem test_prediction_of_one_rubidium : sigmaSix
    { S0 with
      refs := upd S0.refs 0 fun r => { r with state := .qualified, cfg := { r.cfg with kind := 0, atomic := 1 } }
      ductus := { S0.ductus with
        sigmaX := 2305843009, varY := 2 ^ 32 * 1152922 ^ 2, varD := 2 ^ 32 * 115292 ^ 2
        members := upd S0.ductus.members 0 fun m => { m with weight := 65536 } } }
    (21600 * secUnit) = 130477 := by decide

/-! ### Witnesses: states and operands that meet the hypotheses of each clause. A clause whose only hypothesis is
that the command is asked for is met by `test_asks` at its opcode and length. -/

theorem test_asks (op len : Nat) : ∃ s r, Asks op len r s :=
  ⟨hold S0 op len, rq len, rfl, pd op len, by simp [hold, rq, pd, ready, hand, served, State.modHost, upd]⟩

theorem witness_ReferenceCommandsActAtTheNextEvaluation :
    (∃ (s : State) (r : Req) (p : Pend) (i : Fin 20) (e : Nat), e ≤ 1 ∧ r.len = 2 ∧ ready 0x0204 r s = some p) ∧
    (∃ (s : State) (r : Req) (p : Pend) (i : Fin 20) (a : Nat), a ≤ 2 ∧ r.len = 2 ∧ ready 0x0205 r s = some p) ∧
    (∃ (s : State) (r : Req) (p : Pend) (i : Fin 20), r.len = 1 ∧ ready 0x0206 r s = some p) ∧
    (∃ (s : State) (r : Req) (p : Pend) (i : Fin 20), r.len = 1 ∧ ready 0x0207 r s = some p) ∧
    (∃ (s : State) (r : Req) (p : Pend), r.len = 1 ∧ ready 0x0207 r s = some p) ∧
    (∃ (s : State) (i : Fin 20), s.refs[i].state ≠ .off) ∧
    (∃ (s : State) (i : Fin 20), s.refs[i].state = .off) ∧
    (∃ (s : State) (p : Fin 2), s.refs[gnssRef p].state = .off ∧ s.refs[gnssRef p].companion = false) ∧
    (∃ (s : State) (i : Fin 20), s.refs[i].state ≠ .off ∧ i ≠ xoRef) ∧
    (∃ (s : State) (i : Fin 20) (a : Nat), s.refs[i].state ≠ .held) ∧
    (∃ (s : State) (i : Fin 20), s.refs[i].state = .held) ∧
    (∃ (s : State), s.sel.waiting = none) :=
  ⟨⟨hold (State.reset) 0x0204 (2), rq (2), pd 0x0204 (2), (0 : Fin 20), 1, by first | rfl | decide, by first | rfl | decide, rfl⟩,
   ⟨hold (State.reset) 0x0205 (2), rq (2), pd 0x0205 (2), (0 : Fin 20), 2, by first | rfl | decide, by first | rfl | decide, rfl⟩,
   ⟨hold (State.reset) 0x0206 (1), rq (1), pd 0x0206 (1), (0 : Fin 20), by first | rfl | decide, rfl⟩,
   ⟨hold (State.reset) 0x0207 (1), rq (1), pd 0x0207 (1), (0 : Fin 20), by first | rfl | decide, rfl⟩,
   ⟨hold (State.reset) 0x0207 (1), rq (1), pd 0x0207 (1), by first | rfl | decide, rfl⟩,
   ⟨(State.reset.modRef 0 fun x => { x with state := .monitor }), (0 : Fin 20), by first | rfl | decide⟩,
   ⟨{ S0 with refs := upd (S0.refs) (((0 : Fin 20))) (fun y0 => { y0 with state := (.off) }) }, (0 : Fin 20), by first | rfl | decide⟩,
   ⟨State.reset, (0 : Fin 2), by first | rfl | decide, by first | rfl | decide⟩,
   ⟨(State.reset.modRef 0 fun x => { x with state := .selected }), (0 : Fin 20), by first | rfl | decide, by first | rfl | decide⟩,
   ⟨State.reset, (0 : Fin 20), 0, by first | rfl | decide⟩,
   ⟨(fun S0 : State => { S0 with refs := upd (S0.refs) (((19 : Fin 20))) (fun y0 => { y0 with state := (.held) }) }) ((State.reset.modRef 19 fun x => { x with state := .held })), (19 : Fin 20), by first | rfl | decide⟩,
   ⟨{ S0 with sel := { S0.sel with waiting := (none) } }, by first | rfl | decide⟩⟩

theorem witness_MonitorsMoveAsTheirRulesSay :
    (∃ (s : State) (i : Fin 20), s.refs[i].state ≠ .off) ∧
    (∃ (s : State) (i : Fin 20) (e : Int) (f : Int), s.refs[i].state ≠ .off ∧ freqBinds s i = true ∧ gateEstimate s i = some f ∧ (s.ductus.mode = 0 ∨ s.refs[i].state ≠ .selected)) ∧
    (∃ (s : State) (i : Fin 20) (e : Int) (f : Int), s.refs[i].state = .selected ∧ s.ductus.mode = 1 ∧ gateEstimate s i = some f) ∧
    (∃ (s : State) (i : Fin 20) (e : Int), s.refs[i].state ≠ .off ∧ gateEstimate s i = none) ∧
    (∃ (s : State) (i : Fin 20) (a : Int), s.refs[i].state ≠ .off ∧ timeBearing s i = true ∧ meanOffset s i (ms16 s.refs[i].mon.phaseAvg) = some a) ∧
    (∃ (s : State) (i : Fin 20), s.refs[i].state = .monitor ∧ s.refs[i].active = true ∧ freqAccepted s i = true) :=
  ⟨⟨(State.reset.modRef 0 fun x => { x with state := .monitor }), (0 : Fin 20), by first | rfl | decide⟩,
   ⟨(State.reset.modRef 13 fun x => { x with state := .qualified, offsets := [(3, 0), (2, 0), (1, 0), (0, 0)] }), (13 : Fin 20), 0, (0 : Int), by first | rfl | decide, by first | rfl | decide, by first | rfl | decide, by first | rfl | decide⟩,
   ⟨(fun S0 : State => { S0 with refs := upd (S0.refs) (((13 : Fin 20))) (fun y0 => { y0 with state := (.selected) }), ductus := { S0.ductus with mode := (1) } }) (((State.reset.modRef 13 fun x => { x with state := .selected, offsets := [(3, 0), (2, 0), (1, 0), (0, 0)] }).modDuctus fun x => { x with mode := 1 })), (13 : Fin 20), 0, (0 : Int), by first | rfl | decide, by first | rfl | decide, by first | rfl | decide⟩,
   ⟨(State.reset.modRef 0 fun x => { x with state := .monitor }), (0 : Fin 20), 0, by first | rfl | decide, by first | rfl | decide⟩,
   ⟨(State.reset.modRef 13 fun x => { x with state := .qualified, offsets := [(3, 0), (2, 0), (1, 0), (0, 0)] }), (13 : Fin 20), (0 : Int), by first | rfl | decide, by first | rfl | decide, by first | rfl | decide⟩,
   ⟨(fun S0 : State => { S0 with refs := upd (S0.refs) (((0 : Fin 20))) (fun y0 => { y0 with state := (.monitor), active := (true) }) }) ((State.reset.modRef 0 fun x => { x with state := .monitor, active := true, verdict := .accept })), (0 : Fin 20), by first | rfl | decide, by first | rfl | decide, by first | rfl | decide⟩⟩

theorem witness_StagedSwitchRunsItsStages :
    (∃ (s : State) (old : Fin 20) (new : Fin 20), selected s = some old ∧ s.sel.cfg.revertive = 1 ∧ s.sel.stage = .idle ∧ forcedNow s = none ∧ candidate s new = true ∧ s.refs[new].mon.rank < s.refs[old].mon.rank ∧ s.ductus.state ≠ .acquire) ∧
    (∃ (s : State) (i : Fin 20) (o : Int), s.sel.stage = .measure ∧ s.sel.target = some i ∧ candidate s i = true ∧ s.ductus.state ≠ .coast ∧ meanOffset s i (ms16 s.sel.cfg.switchMeas) = some o) ∧
    (∃ (s : State) (i : Fin 20), s.sel.stage = .slew ∧ s.sel.target = some i) ∧
    (∃ (s : State) (d : Disagreement) (p : Option Int) (q : Option Int) (x : Int) (y : Int), s.sel.alarm = some d ∧ d.a ≠ d.b ∧ opinionOf s d.a d.b d.a p = some x ∧ opinionOf s d.a d.b d.b q = some y ∧ thirdOpinion s d.a d.b ≠ none ∧ s.refs[d.a].state ≠ .off ∧ (monOf s d.a).freqReject < x.natAbs ∧ (monOf s d.b).freqReject ≥ y.natAbs ∧ y.natAbs ≤ (monOf s d.b).freqAccept) :=
  ⟨⟨(fun S0 : State => { S0 with sel := { S0.sel with cfg := { S0.sel.cfg with revertive := (1) }, stage := (.idle) } }) ((((State.reset.modRef 13 fun x => { x with state := .selected, uncertainty := 5, mon := { x.mon with rank := 3 } }).modRef 14 fun x => { x with state := .qualified, uncertainty := 5, mon := { x.mon with rank := 0 } }).modSel fun x => { x with cfg := { x.cfg with revertive := 1 } })), (13 : Fin 20), (14 : Fin 20), by first | rfl | decide, by first | rfl | decide, by first | rfl | decide, by first | rfl | decide, by first | rfl | decide, by first | rfl | decide, by first | rfl | decide⟩,
   ⟨(fun S0 : State => { S0 with sel := { S0.sel with stage := (.measure), target := (some ((14 : Fin 20))) } }) ((((State.reset.modRef 13 fun x => { x with state := .selected, uncertainty := 5, mon := { x.mon with rank := 3 } }).modRef 14 fun x => { x with state := .qualified, uncertainty := 5, offsets := [(2, 9), (1, 5)], mon := { x.mon with rank := 0 } }).modSel fun x => { x with stage := .measure, target := some 14 })), (14 : Fin 20), (7 : Int), by first | rfl | decide, by first | rfl | decide, by first | rfl | decide, by first | rfl | decide, by first | rfl | decide⟩,
   ⟨(fun S0 : State => { S0 with sel := { S0.sel with stage := (.slew), target := (some ((14 : Fin 20))) } }) ((((State.reset.modRef 13 fun x => { x with state := .selected, uncertainty := 5, mon := { x.mon with rank := 3 } }).modRef 14 fun x => { x with state := .qualified, uncertainty := 5, mon := { x.mon with rank := 0 } }).modSel fun x => { x with stage := .slew, target := some 14 })), (14 : Fin 20), by first | rfl | decide, by first | rfl | decide⟩,
   ⟨(fun S0 : State => { S0 with sel := { S0.sel with alarm := (some (⟨13, 14, none, 0⟩)) } }) (((((State.reset.modRef 13 fun x => { x with state := .selected, freq := some 2305843009213695, uncertainty := 5, mon := { x.mon with rank := 3 } }).modRef 14 fun x => { x with state := .qualified, freq := some 0, uncertainty := 5, mon := { x.mon with rank := 0 } }).modRef 19 fun x => { x with state := .qualified, uncertainty := 5, freq := some 0 }).modSel fun x => { x with alarm := some ⟨13, 14, none, 0⟩ })), ⟨13, 14, none, 0⟩, none, none, (2305843009213695 : Int), (0 : Int), by first | rfl | decide, by first | rfl | decide, by first | rfl | decide, by first | rfl | decide, by first | rfl | decide, by first | rfl | decide, by first | rfl | decide, by first | rfl | decide, by first | rfl | decide⟩⟩

theorem witness_TimingConfigurationsApplyTheMergedRows :
    (∃ (s : State) (r : Req) (g : GReq) (rows : Rows) (i : Fin 20), g.index = i.val ∧ i.val < 12 ∧ Fits 0x0201 refinTable.flds r g (refinTable.rows (refinOf s.refs[i])) rows s ∧ (let set := s.refs[i].cfgSet ||| g.mask; let c := refinOf { s.refs[i] with cfg := refinTable.ofRows rows, cfgSet := set }; refinValid c (selects g) = true ∧ (s.refs[i].state = .off ∨ refinFixed c (refinOf s.refs[i]) = true) ∧ (c.companion = 0xFF ∨ c.companion = s.refs[i].cfg.companion ∨ companionOk s i c.companion = true) ∧ (c.atomic = 0 ∨ otherAtomics s i < 4))) ∧
    (∃ (s : State) (r : Req) (g : GReq) (rows : Rows) (i : Fin 20), g.index = i.val ∧ Fits 0x0202 monTable.flds r g (monTable.rows (monOf s i)) rows s ∧ monValid (monTable.ofRows rows) = true ∧ gateHolds s i (monTable.ofRows rows).freqGate = true) ∧
    (∃ (s : State) (r : Req) (g : GReq) (rows : Rows) (i : Fin 20), g.index = i.val ∧ Fits 0x0202 monTable.flds r g (monTable.rows (monOf s i)) rows s ∧ gateHolds s i (monTable.ofRows rows).freqGate = false) ∧
    (∃ (s : State) (i : Fin 20) (gate : Nat), i.val ≤ 12) ∧
    (∃ (s : State) (i : Fin 20) (p : Fin 2) (gate : Nat), i.val = 13 + p.val) ∧
    (∃ (s : State) (i : Fin 20) (gate : Nat), 15 ≤ i.val ∧ i.val ≤ 18) ∧
    (∃ (s : State) (r : Req) (g : GReq) (rows : Rows), g.index = 0xFFFF ∧ Fits 0x0203 selTable.flds r g (selTable.rows s.sel.cfg) rows s ∧ selValid (selTable.ofRows rows) = true) ∧
    (∃ (s : State) (r : Req) (g : GReq) (rows : Rows), g.index = 0xFFFF ∧ Fits 0x0301 ductusTable.flds r g (ductusTable.rows (ductusCfg s)) rows s ∧ ductusValid (ductusTable.ofRows rows) = true) ∧
    (∃ (s : State) (r : Req) (g : GReq) (rows : Rows) (k : Fin 13) (i : Fin 20), g.index = k.val ∧ i.val = k.val ∧ Fits 0x0302 modelTable.flds r g (modelTable.rows (modelOf s i)) rows s ∧ modelValid (modelTable.ofRows rows) = true) ∧
    (∃ (s : State) (r : Req) (g : GReq) (rows : Rows) (c : Fin 6), g.index = c.val ∧ Fits 0x0303 dpllTable.flds r g (dpllTable.rows s.ductus.dplls[c].cfg) rows s ∧ (c = 0 → (dpllTable.ofRows rows).input = s.ductus.dplls[c].cfg.input ∧ (dpllTable.ofRows rows).apllMask = s.ductus.dplls[c].cfg.apllMask) ∧ dpllValid s c s.ductus.dplls[c].cfg (dpllTable.ofRows rows) (selects g) = true) ∧
    (∃ (s : State) (r : Req) (g : GReq) (rows : Rows), Fits 0x0307 marginFlds r g (marginRows g.index s) rows s ∧ marginValid g.index rows (selects g) = true) :=
  ⟨⟨hold (State.reset) 0x0201 (8), rq (8), ⟨((0 : Fin 20)).val, 0, []⟩, _, (0 : Fin 20), by first | rfl | decide, by first | rfl | decide, ⟨_, 0, rfl, by decide, rfl, rfl, rfl⟩, by first | rfl | decide, by first | rfl | decide, by first | rfl | decide, by first | rfl | decide⟩,
   ⟨hold (State.reset) 0x0202 (8), rq (8), ⟨((0 : Fin 20)).val, 0, []⟩, _, (0 : Fin 20), by first | rfl | decide, ⟨_, 0, rfl, by decide, rfl, rfl, rfl⟩, by first | rfl | decide, by first | rfl | decide⟩,
   ⟨hold (State.reset) 0x0202 (12), rq (12), ⟨19, 4, [[10]]⟩, _, (19 : Fin 20), by first | rfl | decide, (⟨_, 4, rfl, by decide, rfl, rfl, rfl⟩), by first | rfl | decide⟩,
   ⟨State.reset, (0 : Fin 20), 0, by first | rfl | decide⟩,
   ⟨State.reset, (14 : Fin 20), (1 : Fin 2), 0, by first | rfl | decide⟩,
   ⟨State.reset, (18 : Fin 20), 0, by first | rfl | decide, by first | rfl | decide⟩,
   ⟨hold (State.reset) 0x0203 (8), rq (8), ⟨0xFFFF, 0, []⟩, _, by first | rfl | decide, ⟨_, 0, rfl, by decide, rfl, rfl, rfl⟩, by first | rfl | decide⟩,
   ⟨hold (State.reset) 0x0301 (8), rq (8), ⟨0xFFFF, 0, []⟩, _, by first | rfl | decide, ⟨_, 0, rfl, by decide, rfl, rfl, rfl⟩, by first | rfl | decide⟩,
   ⟨hold (State.reset) 0x0302 (8), rq (8), ⟨((0 : Fin 13)).val, 0, []⟩, _, (0 : Fin 13), (0 : Fin 20), by first | rfl | decide, by first | rfl | decide, ⟨_, 0, rfl, by decide, rfl, rfl, rfl⟩, by first | rfl | decide⟩,
   ⟨hold (State.reset) 0x0303 (8), rq (8), ⟨((0 : Fin 6)).val, 0, []⟩, _, (0 : Fin 6), by first | rfl | decide, ⟨_, 0, rfl, by decide, rfl, rfl, rfl⟩, by first | rfl | decide, by first | rfl | decide⟩,
   ⟨hold (State.reset) 0x0307 (8), rq (8), ⟨0, 0, []⟩, _, ⟨_, 0, rfl, by decide, rfl, rfl, rfl⟩, by first | rfl | decide⟩⟩

theorem witness_SignalConfigurationsApplyTheMergedRows :
    (∃ (s : State) (r : Req) (g : GReq) (rows : Rows) (a : Fin 8), g.index = a.val ∧ Fits 0x0401 apllTable.flds r g (apllTable.rows s.synth.aplls[a].cfg) rows s ∧ (let c := apllTable.ofRows rows; within 9800000000000 11200000000000 c.vcoFreq = true ∧ 1 ≤ c.ceiling ∧ c.ceiling ≤ 1000 ∧ (c.vcoFreq = s.synth.aplls[a].cfg.vcoFreq ∨ (a ≠ 0 ∧ realigning s a = false ∧ (ckoutsOf a).any (feRefOf s) = false)))) ∧
    (∃ (s : State) (r : Req) (g : GReq) (rows : Rows) (k : Fin 16), g.index = k.val ∧ Fits 0x0402 ckoutTable.flds r g (ckoutTable.rows s.synth.ckouts[k].cfg) rows s ∧ ckoutValid s k (ckoutTable.ofRows rows) (selects g) = true ∧ (feRefOf s k = false ∨ ((ckoutTable.ofRows rows).enable = 1 ∧ (ckoutTable.ofRows rows).hsDiv = s.synth.ckouts[k].cfg.hsDiv ∧ (ckoutTable.ofRows rows).lsDiv = s.synth.ckouts[k].cfg.lsDiv))) ∧
    (∃ (s : State) (r : Req) (g : GReq) (old : Rows) (rows : Rows) (e : Fin 8) (slot : Fin 2), g.index = 2 * e.val + slot.val ∧ evoutRows g.index s = some old ∧ Fits 0x0404 evoutFlds r g old rows s ∧ (let p := evProgramOf rows; evoutValid slot.val p rows (selects g) = true ∧ s.clock.form = .counter ∧ (slot.val = 1 ∨ p.enable = 0 ∨ ((now s + armLead : Nat) : Int) ≤ edgeAt p s.synth.evouts[e].pending 0))) ∧
    (∃ (s : State) (r : Req) (g : GReq) (rows : Rows) (n : Fin 8), g.index = n.val ∧ Fits 0x0405 evinTable.flds r g (evinTable.rows s.clock.evins[n]) rows s ∧ evinValid (evinTable.ofRows rows) = true) ∧
    (∃ (s : State) (r : Req) (g : GReq) (rows : Rows) (p : Fin 2), g.index = p.val ∧ Fits 0x0901 gnssTable.flds r g (gnssTable.rows (gnssCfgOf s.gnss.ports[p])) rows s ∧ (let set := s.gnss.ports[p].cfgSet ||| g.mask; let c := gnssCfgOf { s.gnss.ports[p] with cfg := gnssTable.ofRows rows, cfgSet := set }; gnssValid s c = true ∧ (s.refs[gnssRef p].state = .off ∨ gnssFixed c (gnssCfgOf s.gnss.ports[p]) = true))) ∧
    (∃ (s : State) (r : Req) (g : GReq) (rows : Rows) (p : Fin 2) (k : Fin 6), g.index = 6 * p.val + k.val ∧ Fits 0x0902 trackTable.flds r g (trackTable.rows s.gnss.ports[p].track[k]) rows s ∧ trackValid k.val (trackTable.ofRows rows) (decide (g.mask % 32 ≠ 0)) = true) ∧
    (∃ (s : State) (r : Req) (g : GReq) (rows : Rows) (p : Fin 2), g.index = p.val ∧ Fits 0x0903 consistTable.flds r g (consistTable.rows s.gnss.ports[p].consist) rows s ∧ consistValid (consistTable.ofRows rows) = true) ∧
    (∃ (s : State) (r : Req) (g : GReq) (rows : Rows) (p : Fin 2), g.index = p.val ∧ Fits 0x0906 fixTable.flds r g (fixTable.rows s.gnss.ports[p].fix) rows s ∧ fixValid (fixTable.ofRows rows) s.gnss.ports[p].position.isSome = true) ∧
    (∃ (s : State) (r : Req) (g : GReq) (rows : Rows) (c : Fin 24), g.index = c.val ∧ Fits 0x0A03 nibTable.flds r g (nibTable.rows s.nib[c].cfg) rows s ∧ nibValid (nibTable.ofRows rows) c.val = true ∧ s.nib[c].owner = ownHost) ∧
    (∃ (s : State) (r : Req) (g : GReq) (rows : Rows) (c : Fin 24), g.index = c.val ∧ Fits 0x0A04 streamFlds r g [[s.nib[c].cfg.stream], [s.nib[c].cfg.decimate]] rows s ∧ val rows 0 ≤ 3 ∧ 1 ≤ val rows 1 ∧ val rows 1 ≤ 65535) :=
  ⟨⟨hold (State.reset) 0x0401 (8), rq (8), ⟨((0 : Fin 8)).val, 0, []⟩, _, (0 : Fin 8), by first | rfl | decide, ⟨_, 0, rfl, by decide, rfl, rfl, rfl⟩, by first | rfl | decide, by first | rfl | decide, by first | rfl | decide, by first | rfl | decide⟩,
   ⟨hold (State.reset) 0x0402 (8), rq (8), ⟨((0 : Fin 16)).val, 0, []⟩, _, (0 : Fin 16), by first | rfl | decide, ⟨_, 0, rfl, by decide, rfl, rfl, rfl⟩, by first | rfl | decide, by first | rfl | decide⟩,
   ⟨hold ((fun S0 : State => { S0 with clock := { S0.clock with form := (.counter) } }) ((State.reset.modClock fun c => { c with form := .counter }))) 0x0404 (8), rq (8), ⟨2 * ((0 : Fin 8)).val + ((0 : Fin 2)).val, 0, []⟩, _, _, (0 : Fin 8), (0 : Fin 2), by first | rfl | decide, by first | rfl | decide, ⟨_, 0, rfl, by decide, rfl, rfl, rfl⟩, by first | rfl | decide, by first | rfl | decide, by first | rfl | decide⟩,
   ⟨hold (State.reset) 0x0405 (8), rq (8), ⟨((0 : Fin 8)).val, 0, []⟩, _, (0 : Fin 8), by first | rfl | decide, ⟨_, 0, rfl, by decide, rfl, rfl, rfl⟩, by first | rfl | decide⟩,
   ⟨hold (State.reset) 0x0901 (8), rq (8), ⟨((0 : Fin 2)).val, 0, []⟩, _, (0 : Fin 2), by first | rfl | decide, ⟨_, 0, rfl, by decide, rfl, rfl, rfl⟩, by first | rfl | decide, by first | rfl | decide⟩,
   ⟨hold (State.reset) 0x0902 (8), rq (8), ⟨6 * ((0 : Fin 2)).val + ((0 : Fin 6)).val, 0, []⟩, _, (0 : Fin 2), (0 : Fin 6), by first | rfl | decide, ⟨_, 0, rfl, by decide, rfl, rfl, rfl⟩, by first | rfl | decide⟩,
   ⟨hold (State.reset) 0x0903 (8), rq (8), ⟨((0 : Fin 2)).val, 0, []⟩, _, (0 : Fin 2), by first | rfl | decide, ⟨_, 0, rfl, by decide, rfl, rfl, rfl⟩, by first | rfl | decide⟩,
   ⟨hold (State.reset) 0x0906 (8), rq (8), ⟨((0 : Fin 2)).val, 0, []⟩, _, (0 : Fin 2), by first | rfl | decide, ⟨_, 0, rfl, by decide, rfl, rfl, rfl⟩, by first | rfl | decide⟩,
   ⟨hold ((fun S0 : State => { S0 with nib := upd (S0.nib) (((3 : Fin 24))) (fun y0 => { y0 with owner := (ownHost) }) }) ((State.reset.modNib 3 fun c => { c with owner := ownHost }))) 0x0A03 (8), rq (8), ⟨((3 : Fin 24)).val, 0, []⟩, _, (3 : Fin 24), by first | rfl | decide, ⟨_, 0, rfl, by decide, rfl, rfl, rfl⟩, by first | rfl | decide, by first | rfl | decide⟩,
   ⟨hold (State.reset) 0x0A04 (8), rq (8), ⟨((0 : Fin 24)).val, 0, []⟩, _, (0 : Fin 24), by first | rfl | decide, ⟨_, 0, rfl, by decide, rfl, rfl, rfl⟩, by first | rfl | decide, by first | rfl | decide, by first | rfl | decide⟩⟩

theorem witness_ServiceConfigurationsApplyTheMergedRows :
    (∃ (s : State) (r : Req) (g : GReq) (rows : Rows) (m : Fin 16), g.index = m.val ∧ macPresent s m = true ∧ Fits 0x0502 macTable.flds r g (macTable.rows s.net.macs[m].cfg) rows s ∧ (let c := withLanes s.net.portMode m s.net.macs[m].cfg (macTable.ofRows rows) (selects g 4); macValid s.net.portMode m c (selects g) = true ∧ (c.split = s.net.macs[m].cfg.split ∨ (s.net.macs[m].state = .off ∧ s.net.macs[pairOf m].state = .off)) ∧ (s.net.macs[m].state = .off ∨ macFixed c s.net.macs[m].cfg = true))) ∧
    (∃ (s : State) (r : Req) (g : GReq) (rows : Rows) (m : Fin 16) (q : Fin 32), g.index = 32 * m.val + q.val ∧ macPresent s m = true ∧ Fits 0x0505 queueTable.flds r g (queueTable.rows s.net.macs[m].queues[q].cfg) rows s ∧ queueValid q s.net.macs[m].queues[q].cfg (queueTable.ofRows rows) (selects g) = true) ∧
    (∃ (s : State) (r : Req) (g : GReq) (rows : Rows) (m : Fin 16), g.index = m.val ∧ macPresent s m = true ∧ selects g 0 = true ∧ Fits 0x0506 egressFlds r g [[s.net.macs[m].overhead], [s.net.guardNs]] rows s ∧ 20 ≤ val rows 0 ∧ val rows 0 ≤ 255 ∧ val rows 1 ≤ 1000) ∧
    (∃ (s : State) (r : Req) (g : GReq) (old : Rows) (rows : Rows), selects g 0 = false ∧ egressRows g.index false s = some old ∧ Fits 0x0506 egressFlds r g old rows s ∧ 20 ≤ val rows 0 ∧ val rows 0 ≤ 255 ∧ val rows 1 ≤ 1000) ∧
    (∃ (s : State) (r : Req) (g : GReq) (rows : Rows) (i : Fin 64), g.index = i.val ∧ Fits 0x0601 ntsTable.flds r g (ntsTable.rows s.net.nts.addresses[i].cfg) rows s ∧ ntsValid (ntsTable.ofRows rows) (selects g) = true ∧ ntsConflict s i (ntsTable.ofRows rows) = false) ∧
    (∃ (s : State) (r : Req) (g : GReq) (rows : Rows), g.index = 0xFFFF ∧ Fits 0x0602 rotationTable.flds r g (rotationTable.rows (rotationCfg s)) rows s ∧ rotationValid (rotationTable.ofRows rows) = true) ∧
    (∃ (s : State) (r : Req) (g : GReq) (rows : Rows) (p : Fin 8), g.index = p.val ∧ Fits 0x0606 profileTable.flds r g (profileTable.rows s.net.nts.profiles[p].cfg) rows s ∧ profileValid (profileTable.ofRows rows) = true) ∧
    (∃ (s : State) (r : Req) (g : GReq) (rows : Rows) (i : Fin 16), g.index = i.val ∧ Fits 0x0701 ptpTable.flds r g (ptpTable.rows s.net.ptp.addresses[i].cfg) rows s ∧ ptpValid (ptpTable.ofRows rows) (selects g) = true ∧ (s.net.ptp.addresses[i].cfg.enable = 0 ∨ ptpFixed (ptpTable.ofRows rows) s.net.ptp.addresses[i].cfg = true) ∧ ptpConflict s i (ptpTable.ofRows rows) = false) ∧
    (∃ (s : State) (r : Req) (g : GReq) (rows : Rows), g.index = 0xFFFF ∧ Fits 0x0702 globalFlds r g (globalRows s) rows s ∧ 1 ≤ val rows 2 ∧ val rows 2 ≤ 100 ∧ (∀ i : Fin 16, s.net.ptp.addresses[i].cfg.enable = 0)) ∧
    (∃ (s : State) (r : Req) (g : GReq) (rows : Rows), g.index < 2048 ∧ Fits 0x0704 saTable.flds r g (saTable.rows (saOrNone s g.index)) rows s ∧ (let a := saTable.ofRows rows; a.algorithm ≤ 1 ∧ a.overlap ≤ 3600 ∧ a.policy ≤ 1 ∧ handleOk s a.current.handle = true ∧ handleOk s a.previous.handle = true ∧ handleOk s a.next.handle = true ∧ sppFree s g.index a = true)) ∧
    (∃ (s : State) (r : Req) (g : GReq) (rows : Rows) (e : Fin 16), g.index = e.val ∧ Fits 0x0707 clientTable.flds r g (clientTable.rows s.net.ptp.entries[e].cfg) rows s ∧ clientValid s (clientTable.ofRows rows) (selects g) = true) ∧
    (∃ (s : State) (r : Req) (g : GReq) (rows : Rows), g.index = 0xFFFF ∧ Fits 0x0708 clientGlobalTable.flds r g (clientGlobalTable.rows s.net.ptp.client) rows s ∧ (let c := clientGlobalTable.ofRows rows; 1 ≤ c.maxParents ∧ c.maxParents ≤ 4 ∧ 2 ≤ c.announceTimeout ∧ c.announceTimeout ≤ 10 ∧ 100 ≤ c.measInterval ∧ c.measInterval ≤ 10000 ∧ c.filter ≤ 1)) ∧
    (∃ (s : State) (r : Req) (g : GReq) (rows : Rows), g.index = 0xFFFF ∧ Fits 0x0B01 stackTable.flds r g (stackTable.rows s.stack.cfg) rows s ∧ stackValid (stackTable.ofRows rows) = true ∧ s.stack.paired = false ∧ s.stack.pairing = none) ∧
    (∃ (s : State) (r : Req) (g : GReq) (rows : Rows) (n : Fin 32), g.index = n.val ∧ Fits 0x0C05 filterTable.flds r g (filterTable.rows s.wear.filters[n].cfg) rows s ∧ filterValid (filterTable.ofRows rows) = true) :=
  ⟨⟨hold (State.reset) 0x0502 (8), rq (8), ⟨((0 : Fin 16)).val, 0, []⟩, _, (0 : Fin 16), by first | rfl | decide, by first | rfl | decide, ⟨_, 0, rfl, by decide, rfl, rfl, rfl⟩, by first | rfl | decide, by first | rfl | decide, by first | rfl | decide⟩,
   ⟨hold (State.reset) 0x0505 (8), rq (8), ⟨32 * ((0 : Fin 16)).val + ((0 : Fin 32)).val, 0, []⟩, _, (0 : Fin 16), (0 : Fin 32), by first | rfl | decide, by first | rfl | decide, ⟨_, 0, rfl, by decide, rfl, rfl, rfl⟩, by first | rfl | decide⟩,
   ⟨hold (State.reset) 0x0506 (9), rq (9), ⟨0, 1, [[20]]⟩, _, (0 : Fin 16), by first | rfl | decide, by first | rfl | decide, by first | rfl | decide, (⟨_, 1, rfl, by decide, rfl, rfl, rfl⟩), by first | rfl | decide, by first | rfl | decide, by first | rfl | decide⟩,
   ⟨hold (State.reset) 0x0506 (8), rq (8), ⟨0, 0, []⟩, _, _, by first | rfl | decide, by first | rfl | decide, ⟨_, 0, rfl, by decide, rfl, rfl, rfl⟩, by first | rfl | decide, by first | rfl | decide, by first | rfl | decide⟩,
   ⟨hold (State.reset) 0x0601 (8), rq (8), ⟨((0 : Fin 64)).val, 0, []⟩, _, (0 : Fin 64), by first | rfl | decide, ⟨_, 0, rfl, by decide, rfl, rfl, rfl⟩, by first | rfl | decide, by first | rfl | decide⟩,
   ⟨hold (State.reset) 0x0602 (8), rq (8), ⟨0xFFFF, 0, []⟩, _, by first | rfl | decide, ⟨_, 0, rfl, by decide, rfl, rfl, rfl⟩, by first | rfl | decide⟩,
   ⟨hold (State.reset) 0x0606 (8), rq (8), ⟨((0 : Fin 8)).val, 0, []⟩, _, (0 : Fin 8), by first | rfl | decide, ⟨_, 0, rfl, by decide, rfl, rfl, rfl⟩, by first | rfl | decide⟩,
   ⟨hold (State.reset) 0x0701 (8), rq (8), ⟨((0 : Fin 16)).val, 0, []⟩, _, (0 : Fin 16), by first | rfl | decide, ⟨_, 0, rfl, by decide, rfl, rfl, rfl⟩, by first | rfl | decide, by first | rfl | decide, by first | rfl | decide⟩,
   ⟨hold (State.reset) 0x0702 (8), rq (8), ⟨0xFFFF, 0, []⟩, _, by first | rfl | decide, ⟨_, 0, rfl, by decide, rfl, rfl, rfl⟩, by first | rfl | decide, by first | rfl | decide, by first | rfl | decide⟩,
   ⟨hold (State.reset) 0x0704 (8), rq (8), ⟨0, 0, []⟩, _, by first | rfl | decide, ⟨_, 0, rfl, by decide, rfl, rfl, rfl⟩, by first | rfl | decide, by first | rfl | decide, by first | rfl | decide, by first | rfl | decide, by first | rfl | decide, by first | rfl | decide, by first | rfl | decide⟩,
   ⟨hold (State.reset) 0x0707 (8), rq (8), ⟨((0 : Fin 16)).val, 0, []⟩, _, (0 : Fin 16), by first | rfl | decide, ⟨_, 0, rfl, by decide, rfl, rfl, rfl⟩, by first | rfl | decide⟩,
   ⟨hold (State.reset) 0x0708 (8), rq (8), ⟨0xFFFF, 0, []⟩, _, by first | rfl | decide, ⟨_, 0, rfl, by decide, rfl, rfl, rfl⟩, by first | rfl | decide, by first | rfl | decide, by first | rfl | decide, by first | rfl | decide, by first | rfl | decide, by first | rfl | decide, by first | rfl | decide⟩,
   ⟨hold ({ S0 with stack := { S0.stack with paired := (false), pairing := (none) } }) 0x0B01 (8), rq (8), ⟨0xFFFF, 0, []⟩, _, by first | rfl | decide, ⟨_, 0, rfl, by decide, rfl, rfl, rfl⟩, by first | rfl | decide, by first | rfl | decide, by first | rfl | decide⟩,
   ⟨hold (State.reset) 0x0C05 (8), rq (8), ⟨((0 : Fin 32)).val, 0, []⟩, _, (0 : Fin 32), by first | rfl | decide, ⟨_, 0, rfl, by decide, rfl, rfl, rfl⟩, by first | rfl | decide⟩⟩

theorem witness_ReadBacksReturnAllFieldsAndMisfitsAreRefused :
    (∃ (s : State) (r : Req) (i : Fin 20), Asks 0x0281 4 r s ∧ i.val ≤ 12) ∧
    (∃ (s : State) (r : Req) (i : Fin 20), Asks 0x0382 4 r s ∧ i.val ≤ 12) ∧
    (∃ (s : State) (r : Req) (n : Nat) (rows : Rows), Asks 0x0484 4 r s ∧ evoutRows n s = some rows) ∧
    (∃ (s : State) (r : Req) (m : Fin 16), Asks 0x0582 4 r s ∧ macPresent s m = true) ∧
    (∃ (s : State) (r : Req) (m : Fin 16) (q : Fin 32), Asks 0x0585 4 r s ∧ macPresent s m = true) ∧
    (∃ (s : State) (r : Req) (m : Fin 16), Asks 0x0586 4 r s ∧ macPresent s m = true) ∧
    (∃ (s : State) (r : Req) (n : Nat), Asks 0x0784 4 r s ∧ n < 2048) :=
  ⟨⟨hold (State.reset) 0x0281 (4), rq (4), (0 : Fin 20), ⟨rfl, _, rfl⟩, by first | rfl | decide⟩,
   ⟨hold (State.reset) 0x0382 (4), rq (4), (0 : Fin 20), ⟨rfl, _, rfl⟩, by first | rfl | decide⟩,
   ⟨hold (State.reset) 0x0484 (4), rq (4), 0, _, ⟨rfl, _, rfl⟩, by first | rfl | decide⟩,
   ⟨hold (State.reset) 0x0582 (4), rq (4), (0 : Fin 16), ⟨rfl, _, rfl⟩, by first | rfl | decide⟩,
   ⟨hold (State.reset) 0x0585 (4), rq (4), (0 : Fin 16), (0 : Fin 32), ⟨rfl, _, rfl⟩, by first | rfl | decide⟩,
   ⟨hold (State.reset) 0x0586 (4), rq (4), (0 : Fin 16), ⟨rfl, _, rfl⟩, by first | rfl | decide⟩,
   ⟨hold (State.reset) 0x0784 (4), rq (4), 0, ⟨rfl, _, rfl⟩, by first | rfl | decide⟩⟩

theorem witness_TimeCommandsActAsTheirRulesSay :
    (∃ (s : State) (r : Req) (t0 : ZT128), Asks 0x0102 17 r s ∧ ztValid t0 = true ∧ s.clock.form = .virtual ∧ s.ductus.state = .free) ∧
    (∃ (s : State) (v : VirtualSet) (i : Fin 20) (o : Int), s.refs[i].measured = some o) ∧
    (∃ (s : State) (r : Req) (t0 : ZT128) (n : Fin 8), Asks 0x0102 17 r s ∧ ztValid t0 = true ∧ s.clock.form = .virtual ∧ s.ductus.state = .free) ∧
    (∃ (s : State) (r : Req) (t0 : ZT128) (setAt : Nat), Asks 0x0102 17 r s ∧ setAt ≤ 8 ∧ ztValid t0 = true ∧ (s.clock.form ≠ .virtual ∨ s.ductus.state ≠ .free)) ∧
    (∃ (s : State) (r : Req) (p : Pend) (a : Int), r.len = 8 ∧ ready 0x0103 r s = some p ∧ a ≠ 0 ∧ a.natAbs ≤ 1000 * secUnit ∧ 0 ≤ (now s : Int) + a ∧ s.clock.form = .counter ∧ s.clock.step = none ∧ s.clock.rebase = none) ∧
    (∃ (s : State) (r : Req) (p : Pend), r.len = 0 ∧ ready 0x0104 r s = some p) ∧
    (∃ (s : State) (r : Req) (base : Int) (expiry : Nat) (es : List LeapEntry), Asks 0x0105 (24 + 16 * es.length) r s ∧ leapFields base expiry es = true ∧ leapOk none base es = true ∧ (s.clock.leap.unset = true ∨ inProgress s.clock.leap (now s) = inProgress { base := base, expiry := expiry, entries := es, unset := false } (now s))) :=
  ⟨⟨hold ({ S0 with clock := { S0.clock with form := (.virtual) }, ductus := { S0.ductus with state := (.free) } }) 0x0102 (17), rq (17), {}, ⟨rfl, _, rfl⟩, by first | rfl | decide, by first | rfl | decide, by first | rfl | decide⟩,
   ⟨{ S0 with refs := upd (upd (S0.refs) (((0 : Fin 20))) (fun y0 => { y0 with measured := (some (0)) })) 0 (fun y0 => { y0 with measured := (some 0) }) }, ⟨5, 0, 0⟩, (0 : Fin 20), 0, by first | rfl | decide⟩,
   ⟨hold ({ S0 with clock := { S0.clock with form := (.virtual) }, ductus := { S0.ductus with state := (.free) } }) 0x0102 (17), rq (17), {}, (0 : Fin 8), ⟨rfl, _, rfl⟩, by first | rfl | decide, by first | rfl | decide, by first | rfl | decide⟩,
   ⟨hold (State.reset) 0x0102 (17), rq (17), {}, 0, ⟨rfl, _, rfl⟩, by first | rfl | decide, by first | rfl | decide, by first | rfl | decide⟩,
   ⟨hold ({ S0 with clock := { S0.clock with form := (.counter), step := (none), rebase := (none) } }) 0x0103 (8), rq (8), pd 0x0103 (8), (1 : Int), by first | rfl | decide, rfl, by first | rfl | decide, by first | rfl | decide, by first | rfl | decide, by first | rfl | decide, by first | rfl | decide, by first | rfl | decide⟩,
   ⟨hold (State.reset) 0x0104 (0), rq (0), pd 0x0104 (0), by first | rfl | decide, rfl⟩,
   ⟨hold (State.reset) 0x0105 ((24 + 16 * (([] : List LeapEntry)).length)), rq ((24 + 16 * (([] : List LeapEntry)).length)), 0, 0, ([] : List LeapEntry), (⟨rfl, _, rfl⟩), (rfl), (rfl), by exact .inl rfl⟩⟩

theorem witness_TimeRowsMoveTheCounterAsItsRulesSay :
    (∃ (s : State), s.clock.handoverAsked = true ∧ s.clock.form = .virtual ∧ s.clock.handedOver = false) ∧
    (∃ (s : State) (p : PendingStep), s.clock.step = some p ∧ s.clock.form = .counter ∧ p.boundary ≤ nowSec s) ∧
    (∃ (s : State), s.clock.recovery = none ∧ s.synth.aplls[0].state = .locked) ∧
    (∃ (s : State) (c : Recovery) (n : Nat) (lost : Bool), s.clock.recovery = some c ∧ s.synth.aplls[0].state ≠ .unlocked) ∧
    (∃ (s : State), s.clock.leap.unset = false ∧ s.clock.leap.expiry * secUnit < now s) ∧
    (∃ (s : State), s.clock.form ≠ .stopped ∧ s.host.linkUp = true ∧ s.host.d3hot = false) ∧
    (∃ (s : State) (e : Fin 8) (sub : Nat), s.clock.evins[e].enable = 1 ∧ s.clock.evins[e].edge = 0 ∧ s.clock.evins[e].path ≠ 1 ∧ s.clock.form ≠ .stopped) ∧
    (∃ (s : State) (e : Fin 8) (sub : Nat), s.clock.evins[e].enable = 1 ∧ s.clock.evins[e].edge = 1 ∧ s.clock.evins[e].path ≠ 1 ∧ s.clock.form ≠ .stopped ∧ s.clock.evins[e].lastEdge = none) ∧
    (∃ (s : State), s.pending = [] ∧ s.clock.form = .stopped) ∧
    (∃ (s : State), s.pending = [] ∧ s.clock.form = .counter) ∧
    (∃ (s : State), s.pending = [] ∧ s.clock.form = .virtual) :=
  ⟨⟨{ S0 with clock := { S0.clock with handoverAsked := (true), form := (.virtual), handedOver := (false) } }, by first | rfl | decide, by first | rfl | decide, by first | rfl | decide⟩,
   ⟨{ S0 with clock := { S0.clock with step := (some ((⟨1, 0, .mailbox 0, 7⟩))), form := (.counter) } }, (⟨1, 0, .mailbox 0, 7⟩), by first | rfl | decide, by first | rfl | decide, by first | rfl | decide⟩,
   ⟨{ S0 with clock := { S0.clock with recovery := (none) }, synth := { S0.synth with aplls := upd (S0.synth.aplls) 0 (fun y0 => { y0 with state := (.locked) }) } }, by first | rfl | decide, by first | rfl | decide⟩,
   ⟨{ S0 with clock := { S0.clock with recovery := (some ((⟨false, 0⟩))) }, synth := { S0.synth with aplls := upd (S0.synth.aplls) 0 (fun y0 => { y0 with state := (.locked) }) } }, (⟨false, 0⟩), 0, false, by first | rfl | decide, by first | rfl | decide⟩,
   ⟨{ S0 with clock := { S0.clock with leap := { S0.clock.leap with unset := (false), expiry := (0) }, form := (.counter), reg := (2^80) } }, by first | rfl | decide, by first | rfl | decide⟩,
   ⟨{ S0 with host := { S0.host with linkUp := (true), d3hot := (false) }, clock := { S0.clock with form := (.counter) } }, by first | rfl | decide, by first | rfl | decide, by first | rfl | decide⟩,
   ⟨{ S0 with clock := { S0.clock with evins := upd (S0.clock.evins) (((0 : Fin 8))) (fun y0 => { y0 with enable := (1), edge := (0) }), form := (.counter) } }, (0 : Fin 8), 0, by first | rfl | decide, by first | rfl | decide, by first | rfl | decide, by first | rfl | decide⟩,
   ⟨{ S0 with clock := { S0.clock with evins := upd (S0.clock.evins) (((0 : Fin 8))) (fun y0 => { y0 with enable := (1), edge := (1), lastEdge := (none) }), form := (.counter) } }, (0 : Fin 8), 0, by first | rfl | decide, by first | rfl | decide, by first | rfl | decide, by first | rfl | decide, by first | rfl | decide⟩,
   ⟨{ S0 with pending := ([]), clock := { S0.clock with form := (.stopped) } }, by first | rfl | decide, by first | rfl | decide⟩,
   ⟨{ S0 with pending := ([]), clock := { S0.clock with form := (.counter) } }, by first | rfl | decide, by first | rfl | decide⟩,
   ⟨{ S0 with pending := ([]), clock := { S0.clock with form := (.virtual) } }, by first | rfl | decide, by first | rfl | decide⟩⟩

theorem witness_StepRunsTheFrontCommand :
    ∃ (c : Instr) (cs : List Instr) (s : State), s.pending = c :: cs :=
  ⟨.apllLock 1, [], { S0 with pending := [.apllLock 1] }, (rfl)⟩

theorem witness_EveryCommandKeepsTheOtherParts :
    ∃ (c : Instr) (s : State) (t : State) (p : Part), exec c s = .next t ∧ p ∉ mayWrite c :=
  ⟨.apllLock 1, State.reset, _, .pending, (rfl), (by decide)⟩

theorem witness_ResetLeavesTheStatedValues :
    ∃ (i : Fin 20), i ≠ xoRef :=
  ⟨(0 : Fin 20), by first | rfl | decide⟩

theorem witness_EveryStepKeepsTheCalibrationRecord :
    ∃ (s : State) (t : State), CalRecordSound s ∧ step s = .next t :=
  ⟨State.reset, _, (⟨rfl, fun _ _ => rfl⟩), (rfl)⟩

theorem witness_ScreeningTakesItsChecksInOrder :
    (∃ (s : State) (p : Pend) (m : Fin 16), 4 ≤ m.val ∧ opGroup p.opcode = some 2) ∧
    (∃ (s : State) (p : Pend) (t : Fin 4) (g : Nat), opGroup p.opcode = some g ∧ 1 ≤ g) ∧
    (∃ (s : State) (p : Pend) (m : Fin 16), m.val < 4 ∧ s.host.adminLock = true) ∧
    (∃ (s : State) (p : Pend) (m : Fin 16) (g : Nat), opGroup p.opcode = some g ∧ g ≤ sourceGroup (.mailbox m) ∧ (s.host.adminLock = false ∨ 4 ≤ m.val)) ∧
    (∃ (s : State) (p : Pend) (m : Fin 16), opGroup p.opcode = none ∧ (s.host.adminLock = false ∨ 4 ≤ m.val)) ∧
    (∃ (s : State) (p : Pend), p.badHeader = false ∧ p.bulk = false) ∧
    (∃ (s : State) (p : Pend), p.bulk = true) :=
  ⟨⟨State.reset, (pd 0x0101 0), (4 : Fin 16), by first | rfl | decide, by first | rfl | decide⟩,
   ⟨State.reset, (pd 0x0201 0), (0 : Fin 4), 1, by first | rfl | decide, by first | rfl | decide⟩,
   ⟨{ S0 with host := { S0.host with adminLock := (true) } }, (pd 0x0101 0), (0 : Fin 16), by first | rfl | decide, by first | rfl | decide⟩,
   ⟨State.reset, (pd 0x0101 0), (0 : Fin 16), 2, by first | rfl | decide, by first | rfl | decide, by first | rfl | decide⟩,
   ⟨State.reset, (pd 0x0FFF 0), (0 : Fin 16), by first | rfl | decide, by first | rfl | decide⟩,
   ⟨State.reset, (pd 0x0101 0), by first | rfl | decide, by first | rfl | decide⟩,
   ⟨State.reset, ({ (pd 0x0101 16) with bulk := true } : Pend), by first | rfl | decide⟩⟩

theorem witness_AResponseEndsTheCommand :
    (∃ (s : State) (m : Fin 16) (p : Pend) (st : Nat) (body : Bytes), s.host.boxes[m].inHand = some p ∧ s.host.boxes[m].behind = [] ∧ p.discard = false ∧ body.length ≤ 56) ∧
    (∃ (s : State) (m : Fin 16) (p : Pend) (st : Nat) (body : Bytes), s.host.boxes[m].inHand = some p ∧ s.host.boxes[m].behind = [] ∧ p.discard = false ∧ 56 < body.length ∧ p.bulk = true ∧ body.length ≤ p.rspCapacity ∧ s.host.memory.wf zeroByte = true) ∧
    (∃ (s : State) (m : Fin 16) (p : Pend) (st : Nat) (body : Bytes), s.host.boxes[m].inHand = some p ∧ s.host.boxes[m].behind = [] ∧ p.discard = false ∧ 56 < body.length ∧ p.bulk = true ∧ p.rspCapacity < body.length) ∧
    (∃ (s : State) (m : Fin 16) (p : Pend) (st : Nat) (body : Bytes), s.host.boxes[m].inHand = some p ∧ s.host.boxes[m].behind = [] ∧ p.discard = true) :=
  ⟨⟨{ S0 with host := { S0.host with boxes := upd (S0.host.boxes) (((0 : Fin 16))) (fun y0 => { y0 with inHand := (some ((pd 0x0180 0))), behind := ([]) }) } }, (0 : Fin 16), (pd 0x0180 0), 0, (List.replicate 56 0), by first | rfl | decide, by first | rfl | decide, by first | rfl | decide, by first | rfl | decide⟩,
   ⟨{ S0 with host := { S0.host with boxes := upd (S0.host.boxes) (((0 : Fin 16))) (fun y0 => { y0 with inHand := (some (({ (pd 0x0180 16) with bulk := true, rspCapacity := 57 } : Pend))), behind := ([]) }) } }, (0 : Fin 16), ({ (pd 0x0180 16) with bulk := true, rspCapacity := 57 } : Pend), 0, (List.replicate 57 0), by first | rfl | decide, by first | rfl | decide, by first | rfl | decide, by first | rfl | decide, by first | rfl | decide, by first | rfl | decide, by first | rfl | decide⟩,
   ⟨{ S0 with host := { S0.host with boxes := upd (S0.host.boxes) (((0 : Fin 16))) (fun y0 => { y0 with inHand := (some (({ (pd 0x0180 16) with bulk := true, rspCapacity := 56 } : Pend))), behind := ([]) }) } }, (0 : Fin 16), ({ (pd 0x0180 16) with bulk := true, rspCapacity := 56 } : Pend), 0, (List.replicate 57 0), by first | rfl | decide, by first | rfl | decide, by first | rfl | decide, by first | rfl | decide, by first | rfl | decide, by first | rfl | decide⟩,
   ⟨{ S0 with host := { S0.host with boxes := upd (S0.host.boxes) (((0 : Fin 16))) (fun y0 => { y0 with inHand := (some (({ (pd 0x0180 0) with discard := true } : Pend))), behind := ([]) }) } }, (0 : Fin 16), ({ (pd 0x0180 0) with discard := true } : Pend), 0, ([] : Bytes), by first | rfl | decide, by first | rfl | decide, by first | rfl | decide⟩⟩

theorem witness_EventsBecomeItemsOfTheLog :
    (∃ (s : State) (q : Fin 5), s.host.queues[q].building = []) ∧
    (∃ (s : State) (q : Fin 5) (p : QPayload) (rest : List QPayload), s.host.queues[q].building = p :: rest ∧ s.host.queues[q].items.length < queueItems q ∧ s.host.image = none) ∧
    (∃ (s : State) (q : Fin 5) (p : QPayload) (rest : List QPayload), s.host.queues[q].building = p :: rest ∧ queueItems q ≤ s.host.queues[q].items.length ∧ s.host.image = none) :=
  ⟨⟨{ S0 with host := { S0.host with queues := upd (S0.host.queues) (((0 : Fin 5))) (fun y0 => { y0 with building := ([]) }) } }, (0 : Fin 5), by first | rfl | decide⟩,
   ⟨{ S0 with host := { S0.host with queues := upd (upd (S0.host.queues) (((3 : Fin 5))) (fun y0 => { y0 with building := (((.event ev0)) :: (([] : List QPayload))) })) ((3 : Fin 5)) (fun y0 => { y0 with items := (List.replicate 1023 item0) }), image := (none) } }, (3 : Fin 5), (.event ev0), ([] : List QPayload), by first | rfl | decide, (lt_of_eq_of_lt (List.length_replicate ..) (by decide)), by first | rfl | decide⟩,
   ⟨{ S0 with host := { S0.host with queues := upd (upd (S0.host.queues) (((3 : Fin 5))) (fun y0 => { y0 with building := (((.event ev0)) :: (([] : List QPayload))) })) ((3 : Fin 5)) (fun y0 => { y0 with items := (List.replicate 1024 item0) }), image := (none) } }, (3 : Fin 5), (.event ev0), ([] : List QPayload), by first | rfl | decide, (Nat.le_of_eq (List.length_replicate ..).symm), by first | rfl | decide⟩⟩

theorem witness_DoorbellsSubmitTheRequestOfThePayload :
    (∃ (s : State) (m : Fin 16), hostReachable s = true ∧ s.host.boxes[m].busy = true) ∧
    (∃ (s : State) (m : Fin 16), hostReachable s = true ∧ s.host.boxes[m].busy = false ∧ s.host.boxes[m].inHand = none ∧ s.host.supervisor = true ∧ screenStatus (.mailbox m) (parseRequest s.host.boxes[m].request) s = none) ∧
    (∃ (s : State) (m : Fin 16) (e : Nat), hostReachable s = true ∧ s.host.boxes[m].busy = false ∧ s.host.boxes[m].inHand = none ∧ s.host.supervisor = true ∧ screenStatus (.mailbox m) (parseRequest s.host.boxes[m].request) s = some e) ∧
    (∃ (s : State) (m : Fin 16), hostReachable s = true ∧ s.host.boxes[m].busy = false ∧ s.host.boxes[m].inHand = none ∧ s.host.supervisor = false) ∧
    (∃ (s : State) (p : Port), portReaches p s = true ∧ s.host.em.owner ≠ portCode p) ∧
    (∃ (s : State) (p : Port), portReaches p s = true ∧ s.power.inReset = false ∧ s.host.em.owner = portCode p ∧ s.host.em.mb.busy = false ∧ s.host.em.mb.inHand = none ∧ screenStatus .emergency (parseRequest s.host.em.mb.request) s = none) ∧
    (∃ (s : State) (p : Port), portReaches p s = true ∧ s.host.em.owner = 0) ∧
    (∃ (s : State) (p : Port), portReaches p s = true ∧ s.host.em.owner ≠ 0 ∧ s.host.em.owner ≠ portCode p) ∧
    (∃ (s : State) (p : Port), portReaches p s = true ∧ s.host.em.owner = portCode p) ∧
    (∃ (s : State), s.host.em.owner ≠ 0) ∧
    (∃ (s : State), hostReachable s = true) :=
  ⟨⟨{ S0 with host := { S0.host with linkUp := true, boxes := upd (S0.host.boxes) (((0 : Fin 16))) (fun y0 => { y0 with busy := (true) }) } }, (0 : Fin 16), by first | rfl | decide, by first | rfl | decide⟩,
   ⟨{ S0 with host := { S0.host with linkUp := true, boxes := upd (upd (S0.host.boxes) (((0 : Fin 16))) (fun y0 => { y0 with busy := (false), inHand := (none) })) ((0 : Fin 16)) (fun y0 => { y0 with request := ([0x01, 2, 7, 0]) }), supervisor := (true) } }, (0 : Fin 16), by first | rfl | decide, by first | rfl | decide, by first | rfl | decide, by first | rfl | decide, by first | rfl | decide⟩,
   ⟨{ S0 with host := { S0.host with linkUp := true, boxes := upd (upd (S0.host.boxes) (((0 : Fin 16))) (fun y0 => { y0 with busy := (false), inHand := (none) })) ((0 : Fin 16)) (fun y0 => { y0 with request := ([0xFF, 0x0F, 7, 0]) }), supervisor := (true) } }, (0 : Fin 16), 0x0100, by first | rfl | decide, by first | rfl | decide, by first | rfl | decide, by first | rfl | decide, by first | rfl | decide⟩,
   ⟨{ S0 with host := { S0.host with linkUp := true, boxes := upd (S0.host.boxes) (((0 : Fin 16))) (fun y0 => { y0 with busy := (false), inHand := (none) }), supervisor := (false) } }, (0 : Fin 16), by first | rfl | decide, by first | rfl | decide, by first | rfl | decide, by first | rfl | decide⟩,
   ⟨{ S0 with host := { S0.host with linkUp := (true) } }, .pcie, by first | rfl | decide, by first | rfl | decide⟩,
   ⟨{ S0 with host := { S0.host with linkUp := (true), em := { S0.host.em with owner := (portCode (.pcie)), mb := { S0.host.em.mb with busy := (false), inHand := (none), request := ([0x06,1,7,0]) } } }, power := { S0.power with inReset := (false) } }, .pcie, by first | rfl | decide, by first | rfl | decide, by first | rfl | decide, by first | rfl | decide, by first | rfl | decide, by first | rfl | decide⟩,
   ⟨{ S0 with host := { S0.host with linkUp := (true), em := { S0.host.em with owner := (0) } } }, .pcie, by first | rfl | decide, by first | rfl | decide⟩,
   ⟨{ S0 with host := { S0.host with linkUp := true, em := { S0.host.em with owner := (2) } } }, .pcie, by first | rfl | decide, by first | rfl | decide, by first | rfl | decide⟩,
   ⟨{ S0 with host := { S0.host with linkUp := true, em := { S0.host.em with owner := (1) } } }, .pcie, by first | rfl | decide, by first | rfl | decide⟩,
   ⟨{ S0 with host := { S0.host with em := { S0.host.em with owner := (1) } } }, by first | rfl | decide⟩,
   ⟨{ S0 with host := { S0.host with linkUp := true } }, by first | rfl | decide⟩⟩

theorem witness_RingsAndPanQueuesAnswerTheirRegisters :
    (∃ (s : State) (tx : Bool) (r : Fin 64) (v : Nat), hostReachable s = true ∧ bitOf v 0 = true ∧ (ringAt s tx r).enabled = false ∧ 6 ≤ bits v 1 5 ∧ bits v 1 5 ≤ 15) ∧
    (∃ (s : State) (tx : Bool) (r : Fin 64) (v : Nat), hostReachable s = true ∧ bitOf v 0 = true ∧ (ringAt s tx r).enabled = false ∧ (bits v 1 5 < 6 ∨ 15 < bits v 1 5)) ∧
    (∃ (s : State) (tx : Bool) (r : Fin 64) (v : Nat), hostReachable s = true ∧ bitOf v 0 = false) ∧
    (∃ (s : State) (tx : Bool) (r : Fin 64) (v : Nat), hostReachable s = true) ∧
    (∃ (s : State) (q : Fin 5), hostReachable s = true) ∧
    (∃ (s : State) (q : Fin 5) (v : Nat), hostReachable s = true ∧ (v + 2 ^ 32 - s.host.queues[q].consumer) % 2 ^ 32 ≤ (s.host.queues[q].producer + 2 ^ 32 - s.host.queues[q].consumer) % 2 ^ 32 ∧ v < 2 ^ 32) ∧
    (∃ (s : State) (q : Fin 5) (v : Nat), hostReachable s = true ∧ v < 2 ^ 32 ∧ (s.host.queues[q].producer + 2 ^ 32 - s.host.queues[q].consumer) % 2 ^ 32 < (v + 2 ^ 32 - s.host.queues[q].consumer) % 2 ^ 32) ∧
    (∃ (s : State) (q : Fin 5) (i : QItem) (rest : List QItem), hostReachable s = true ∧ s.host.queues[q].dma = false ∧ s.host.queues[q].items = i :: rest) ∧
    (∃ (s : State) (q : Fin 5), hostReachable s = true ∧ s.host.queues[q].dma = false ∧ s.host.queues[q].items = []) ∧
    (∃ (s : State) (q : Fin 5), hostReachable s = true ∧ s.host.queues[q].dma = true) ∧
    (∃ (s : State) (q : Fin 5) (i : QItem) (rest : List QItem), hostReachable s = true ∧ s.host.queues[q].dma = true ∧ s.host.queues[q].items = i :: rest ∧ (s.host.queues[q].producer + 2 ^ 32 - s.host.queues[q].consumer) % 2 ^ 32 < bufferSlots s.host.queues[q]) :=
  ⟨⟨{ S0 with host := { S0.host with linkUp := true } }, false, (0 : Fin 64), 13, by first | rfl | decide, by first | rfl | decide, by first | rfl | decide, by first | rfl | decide, by first | rfl | decide⟩,
   ⟨{ S0 with host := { S0.host with linkUp := true } }, false, (0 : Fin 64), 1, by first | rfl | decide, by first | rfl | decide, by first | rfl | decide, by first | rfl | decide⟩,
   ⟨{ S0 with host := { S0.host with linkUp := true } }, false, (0 : Fin 64), 0, by first | rfl | decide, by first | rfl | decide⟩,
   ⟨{ S0 with host := { S0.host with linkUp := true } }, false, (0 : Fin 64), 0, by first | rfl | decide⟩,
   ⟨{ S0 with host := { S0.host with linkUp := true } }, (0 : Fin 5), by first | rfl | decide⟩,
   ⟨{ S0 with host := { S0.host with linkUp := true, queues := upd (S0.host.queues) 0 (fun y0 => { y0 with producer := (5) }) } }, (0 : Fin 5), 5, by first | rfl | decide, by first | rfl | decide, by first | rfl | decide⟩,
   ⟨{ S0 with host := { S0.host with linkUp := true, queues := upd (S0.host.queues) 0 (fun y0 => { y0 with producer := (5) }) } }, (0 : Fin 5), 6, by first | rfl | decide, by first | rfl | decide, by first | rfl | decide⟩,
   ⟨{ S0 with host := { S0.host with linkUp := true, queues := upd (S0.host.queues) (((0 : Fin 5))) (fun y0 => { y0 with dma := (false), items := (((item0)) :: (([] : List QItem))) }) } }, (0 : Fin 5), (item0), ([] : List QItem), by first | rfl | decide, by first | rfl | decide, by first | rfl | decide⟩,
   ⟨{ S0 with host := { S0.host with linkUp := true, queues := upd (S0.host.queues) (((0 : Fin 5))) (fun y0 => { y0 with dma := (false), items := ([]) }) } }, (0 : Fin 5), by first | rfl | decide, by first | rfl | decide, by first | rfl | decide⟩,
   ⟨{ S0 with host := { S0.host with linkUp := true, queues := upd (S0.host.queues) (((0 : Fin 5))) (fun y0 => { y0 with dma := (true) }) } }, (0 : Fin 5), by first | rfl | decide, by first | rfl | decide⟩,
   ⟨{ S0 with host := { S0.host with linkUp := true, queues := upd (upd (S0.host.queues) (((0 : Fin 5))) (fun y0 => { y0 with dma := (true), items := (((item0)) :: (([] : List QItem))) })) 0 (fun y0 => { y0 with sizeLog2 := (10) }) } }, (0 : Fin 5), (item0), ([] : List QItem), by first | rfl | decide, by first | rfl | decide, by first | rfl | decide, by first | rfl | decide⟩⟩

theorem witness_TheDataPortReadsAndWritesItsAreas :
    (∃ (s : State) (a : Nat) (n : Nat) (v : Nat), hostReachable s = true ∧ bytesOk s dpWritable a n = true) ∧
    (∃ (s : State) (a : Nat) (v : Nat), hostReachable s = true ∧ dpWritable s a = false) ∧
    (∃ (s : State) (a : Nat) (n : Nat), hostReachable s = true ∧ bytesOk s dpReadable a n = true) ∧
    (∃ (s : State) (a : Nat), hostReachable s = true ∧ dpReadable s a = false) ∧
    (∃ (s : State), hostReachable s = true ∧ s.host.dp.addr % 8 = 0 ∧ bytesOk s dpReadable s.host.dp.addr 8 = true) ∧
    (∃ (s : State) (v : Nat), hostReachable s = true ∧ s.host.dp.addr % 8 = 0 ∧ bytesOk s dpWritable s.host.dp.addr 8 = true) ∧
    (∃ (s : State) (v : Nat), hostReachable s = true ∧ s.host.dp.addr % 8 ≠ 0) ∧
    (∃ (s : State) (v : Nat), hostReachable s = true ∧ s.host.dp.busy = false ∧ bitOf v 25 = true) ∧
    (∃ (s : State) (v : Nat), hostReachable s = true ∧ s.host.dp.busy = true) ∧
    (∃ (s : State) (d : Bytes), s.host.dp.busy = true ∧ s.host.dp.dmaDev % 8 = 0 ∧ s.host.dp.toHost = false) ∧
    (∃ (s : State) (d : Bytes), s.host.dp.busy = true ∧ s.host.dp.dmaDev % 8 = 0 ∧ s.host.dp.toHost = true ∧ (copyOut s s.host.dp.dmaDev (s.host.dp.length / 8)).1 = true) ∧
    (∃ (s : State) (k : Fin 64), hostReachable s = true ∧ s.host.dp.injectBusy.getLsbD k.val = false) ∧
    (∃ (s : State) (k : Fin 64), hostReachable s = true ∧ s.host.dp.injectBusy.getLsbD k.val = true) :=
  ⟨⟨{ S0 with host := { S0.host with linkUp := true } }, 0x04000000, 8, 0, by first | rfl | decide, by first | rfl | decide⟩,
   ⟨{ S0 with host := { S0.host with linkUp := true } }, 0, 0, by first | rfl | decide, by first | rfl | decide⟩,
   ⟨{ S0 with host := { S0.host with linkUp := true } }, 0x04000000, 8, by first | rfl | decide, by first | rfl | decide⟩,
   ⟨{ S0 with host := { S0.host with linkUp := true } }, 0, by first | rfl | decide, by first | rfl | decide⟩,
   ⟨{ S0 with host := { S0.host with linkUp := true, dp := { S0.host.dp with addr := (0x04000000) } } }, by first | rfl | decide, by first | rfl | decide, by first | rfl | decide⟩,
   ⟨{ S0 with host := { S0.host with linkUp := true, dp := { S0.host.dp with addr := (0x04000000) } } }, 0, by first | rfl | decide, by first | rfl | decide, by first | rfl | decide⟩,
   ⟨{ S0 with host := { S0.host with linkUp := true, dp := { S0.host.dp with addr := (0x04000004) } } }, 0, by first | rfl | decide, by first | rfl | decide⟩,
   ⟨{ S0 with host := { S0.host with linkUp := true, dp := { S0.host.dp with busy := (false) } } }, 2^25, by first | rfl | decide, by first | rfl | decide, by first | rfl | decide⟩,
   ⟨{ S0 with host := { S0.host with linkUp := true, dp := { S0.host.dp with busy := (true) } } }, 0, by first | rfl | decide, by first | rfl | decide⟩,
   ⟨{ S0 with host := { S0.host with dp := { S0.host.dp with busy := (true), toHost := (false) } } }, ([] : Bytes), by first | rfl | decide, by first | rfl | decide, by first | rfl | decide⟩,
   ⟨{ S0 with host := { S0.host with dp := { S0.host.dp with busy := (true), toHost := (true) } } }, ([] : Bytes), by first | rfl | decide, by first | rfl | decide, by first | rfl | decide, by first | rfl | decide⟩,
   ⟨{ S0 with host := { S0.host with linkUp := true } }, (0 : Fin 64), by first | rfl | decide, by first | rfl | decide⟩,
   ⟨{ S0 with host := { S0.host with linkUp := true, dp := { S0.host.dp with injectBusy := (1) } } }, (0 : Fin 64), by first | rfl | decide, by first | rfl | decide⟩⟩

theorem witness_RegistersActByTypeAndOnlyForAReachableHost :
    (∃ (s : State) (a : Nat) (v : Nat), hostReachable s = true ∧ a % 8 = 0) ∧
    (∃ (s : State) (a : Nat) (v : Nat), hostReachable s = true ∧ a % 8 = 4) ∧
    (∃ (s : State) (a : Nat) (z : Nat) (v : Nat), hostReachable s = true ∧ (z ≠ 4 ∧ z ≠ 8 ∨ a % z ≠ 0)) ∧
    (∃ (p : Port) (s : State) (v : Nat), v < 2 ^ 64) ∧
    (∃ (p : Port) (s : State) (a : Nat) (mask : Nat) (v : Nat), (a < 0x1000 ∨ (0x5000 ≤ a ∧ a < 0x6000) ∨ (0x7000 ≤ a ∧ a < 0x10000) ∨ (0x12000 ≤ a ∧ a < 0xF00000))) ∧
    (∃ (p : Port) (s : State) (v : Nat), 10 ≤ v ∧ v ≤ 10000) ∧
    (∃ (s : State) (a : Nat), hostReachable s = true ∧ a % 8 = 0 ∧ a < 0x38) ∧
    (∃ (s : State) (a : Nat) (v : Nat), hostReachable s = true ∧ a % 8 = 4 ∧ s.host.latchAddr = some (a, v)) ∧
    (∃ (s : State) (a : Nat), s.power.inReset = false ∧ a % 8 = 0 ∧ a < 0x1000) ∧
    (∃ (s : State) (a : Nat) (n : Nat), s.power.inReset = false ∧ a % 8 ≠ 0) ∧
    (∃ (s : State) (a : Nat) (v : Nat), s.power.inReset = false ∧ a % 8 = 0 ∧ 0x3000 ≤ a ∧ a < 0x6000) ∧
    (∃ (s : State) (a : Nat) (v : Nat), s.power.inReset = false ∧ (a % 8 ≠ 0 ∨ (0x1000 ≤ a ∧ a < 0x3000) ∨ 0x6000 ≤ a)) ∧
    (∃ (s : State), hostReachable s = false) :=
  ⟨⟨{ S0 with host := { S0.host with linkUp := true } }, 0, 0, by first | rfl | decide, by first | rfl | decide⟩,
   ⟨{ S0 with host := { S0.host with linkUp := true } }, 4, 0, by first | rfl | decide, by first | rfl | decide⟩,
   ⟨{ S0 with host := { S0.host with linkUp := true } }, 0, 2, 0, by first | rfl | decide, by first | rfl | decide⟩,
   ⟨.pcie, State.reset, 2^64-1, by first | rfl | decide⟩,
   ⟨.pcie, State.reset, 0xFFF, 0, 0, by first | rfl | decide⟩,
   ⟨.pcie, State.reset, 10, by first | rfl | decide, by first | rfl | decide⟩,
   ⟨{ S0 with host := { S0.host with linkUp := true } }, 0x30, by first | rfl | decide, by first | rfl | decide, by first | rfl | decide⟩,
   ⟨{ S0 with host := { S0.host with linkUp := true, latchAddr := (some ((4), (0))) } }, 4, 0, by first | rfl | decide, by first | rfl | decide, by first | rfl | decide⟩,
   ⟨{ S0 with power := { S0.power with inReset := (false) } }, 0xFF8, by first | rfl | decide, by first | rfl | decide, by first | rfl | decide⟩,
   ⟨{ S0 with power := { S0.power with inReset := (false) } }, 4, 0, by first | rfl | decide, by first | rfl | decide⟩,
   ⟨{ S0 with power := { S0.power with inReset := (false) } }, 0x5FF8, 0, by first | rfl | decide, by first | rfl | decide, by first | rfl | decide, by first | rfl | decide⟩,
   ⟨{ S0 with power := { S0.power with inReset := (false) } }, 0x2000, 0, by first | rfl | decide, by first | rfl | decide⟩,
   ⟨State.reset, by first | rfl | decide⟩⟩

theorem witness_InterruptsAndHostResetsFollowTheirRules :
    (∃ (s : State) (b : Nat), 0 < b ∧ b ≤ 10 ∧ s.host.mask.getLsbD b = true) ∧
    (∃ (s : State) (v : Fin 64), s.host.running[v] = false ∧ s.host.holdoff[v] ≠ 0) ∧
    (∃ (s : State) (v : Fin 64), s.host.running[v] = true) ∧
    (∃ (s : State) (v : Fin 64), 8 ≤ v.val ∧ s.host.running[v] = true ∧ s.host.owed[v] = true) ∧
    (∃ (s : State) (v : Fin 64), s.host.running[v] = false) ∧
    (∃ (s : State), s.power.inReset = false ∧ s.host.stalled = false) ∧
    (∃ (s : State), s.host.supervisor = true) ∧
    (∃ (s : State), s.host.linkUp = true) ∧
    (∃ (s : State), s.power.inReset = false) :=
  ⟨⟨{ S0 with host := { S0.host with mask := (2^10) } }, 10, by first | rfl | decide, by first | rfl | decide, by first | rfl | decide⟩,
   ⟨{ S0 with host := { S0.host with running := upd (S0.host.running) (((0 : Fin 64))) (fun _ => (false)), holdoff := upd (S0.host.holdoff) ((0 : Fin 64)) (fun _ => (1)) } }, (0 : Fin 64), by first | rfl | decide, by first | rfl | decide⟩,
   ⟨{ S0 with host := { S0.host with running := upd (S0.host.running) (((0 : Fin 64))) (fun _ => (true)) } }, (0 : Fin 64), by first | rfl | decide⟩,
   ⟨{ S0 with host := { S0.host with running := upd (S0.host.running) (((63 : Fin 64))) (fun _ => (true)), owed := upd (S0.host.owed) (((63 : Fin 64))) (fun _ => (true)) } }, (63 : Fin 64), by first | rfl | decide, by first | rfl | decide, by first | rfl | decide⟩,
   ⟨{ S0 with host := { S0.host with running := upd (S0.host.running) (((0 : Fin 64))) (fun _ => (false)) } }, (0 : Fin 64), by first | rfl | decide⟩,
   ⟨{ S0 with power := { S0.power with inReset := (false) }, host := { S0.host with stalled := (false) } }, by first | rfl | decide, by first | rfl | decide⟩,
   ⟨{ S0 with host := { S0.host with supervisor := (true) } }, by first | rfl | decide⟩,
   ⟨{ S0 with host := { S0.host with linkUp := (true) } }, by first | rfl | decide⟩,
   ⟨{ S0 with power := { S0.power with inReset := (false) } }, by first | rfl | decide⟩⟩

theorem witness_SystemCallsActAsTheirRulesSay :
    (∃ (s : State) (t : Fin 4) (block : Nat) (op : Nat) (q : Nat) (len : Nat), canCall s t = true ∧ blockOk s block 128 = true ∧ s.host.supervisor = true ∧ len ≤ 56 ∧ opGroup op = some 0) ∧
    (∃ (s : State) (t : Fin 4) (block : Nat) (op : Nat) (q : Nat) (len : Nat) (g : Nat), canCall s t = true ∧ blockOk s block 128 = true ∧ s.host.supervisor = true ∧ opGroup op = some g ∧ 1 ≤ g) ∧
    (∃ (s : State) (t : Fin 4) (block : Nat) (mask : Nat) (n : Nat), canCall s t = true ∧ blockOk s block 48 = true ∧ serveEvent t block mask (counted s) = none ∧ n ≠ 0) ∧
    (∃ (s : State) (u : State) (t : Fin 4) (block : Nat) (mask : Nat) (n : Nat), canCall s t = true ∧ blockOk s block 48 = true ∧ serveEvent t block mask (counted s) = some u) ∧
    (∃ (s : State) (t : Fin 4) (block : Nat), canCall s t = true ∧ blockOk s block 32 = true) ∧
    (∃ (s : State) (t : Fin 4) (block : Nat) (us : Nat), canCall s t = true ∧ blockOk s block 4 = true ∧ 1 ≤ us ∧ us ≤ 10000000) ∧
    (∃ (s : State) (t : Fin 4) (block : Nat) (us : Nat), canCall s t = true ∧ blockOk s block 4 = true ∧ (us = 0 ∨ 10000000 < us)) ∧
    (∃ (s : State) (t : Fin 4) (block : Nat), canCall s t = true ∧ blockOk s block 672 = true ∧ s.sel.hookTask = some t) ∧
    (∃ (s : State) (t : Fin 4) (block : Nat) (log : List RefChange), canCall s t = true ∧ blockOk s block 16 = true ∧ s.sel.waiting = some log ∧ s.sel.hookTask = some t) ∧
    (∃ (s : State) (t : Fin 4) (block : Nat) (a : HookAnswer) (log : List RefChange), canCall s t = true ∧ blockOk s block 16 = true ∧ s.sel.waiting = some log ∧ a.evalSeq ≠ s.sel.evalSeq) ∧
    (∃ (s : State) (t : Fin 4) (block : Nat) (h : Nat) (i : TaskImage), canCall s t = true ∧ blockOk s block 4 = true ∧ s.host.image = some i ∧ h < i.codeLen) ∧
    (∃ (s : State) (t : Fin 4), canCall s t = true) ∧
    (∃ (s : State) (t : Fin 4) (n : Nat), canCall s t = true ∧ (n = 0 ∨ 9 < n)) ∧
    (∃ (s : State) (t : Fin 4) (block : Nat), canCall s t = true ∧ blockOk s block 32 = false) :=
  ⟨⟨{ S0 with host := { S0.host with tasks := upd (S0.host.tasks) ((0 : Fin 4)) (fun y0 => { y0 with state := .ready }), image := some img, supervisor := (true) } }, (0 : Fin 4), 128, 0x0208, 0, 56, by first | rfl | decide, by first | rfl | decide, by first | rfl | decide, by first | rfl | decide, by first | rfl | decide⟩,
   ⟨{ S0 with host := { S0.host with tasks := upd (S0.host.tasks) ((0 : Fin 4)) (fun y0 => { y0 with state := .ready }), image := some img, supervisor := (true) } }, (0 : Fin 4), 128, 0x0101, 0, 0, 2, by first | rfl | decide, by first | rfl | decide, by first | rfl | decide, by first | rfl | decide, by first | rfl | decide⟩,
   ⟨{ S0 with host := { S0.host with tasks := upd (S0.host.tasks) ((0 : Fin 4)) (fun y0 => { y0 with state := .ready }), image := some img } }, (0 : Fin 4), 128, 0, 1, by first | rfl | decide, by first | rfl | decide, by first | rfl | decide, by first | rfl | decide⟩,
   ⟨{ S0 with host := { S0.host with tasks := upd (S0.host.tasks) ((0 : Fin 4)) (fun y0 => { y0 with state := .ready }), image := some img, eventLog := ([item0]) } }, ((serveEvent 0 128 0xFFFF (counted ({ S0 with host := { S0.host with tasks := upd (S0.host.tasks) ((0 : Fin 4)) (fun y0 => { y0 with state := .ready }), image := some img, eventLog := ([item0]) } }))).getD S0), (0 : Fin 4), 128, 0xFFFF, 0, by first | rfl | decide, by first | rfl | decide, by first | rfl | decide⟩,
   ⟨{ S0 with host := { S0.host with tasks := upd (S0.host.tasks) ((0 : Fin 4)) (fun y0 => { y0 with state := .ready }), image := some img } }, (0 : Fin 4), 128, by first | rfl | decide, by first | rfl | decide⟩,
   ⟨{ S0 with host := { S0.host with tasks := upd (S0.host.tasks) ((0 : Fin 4)) (fun y0 => { y0 with state := .ready }), image := some img } }, (0 : Fin 4), 128, 1, by first | rfl | decide, by first | rfl | decide, by first | rfl | decide, by first | rfl | decide⟩,
   ⟨{ S0 with host := { S0.host with tasks := upd (S0.host.tasks) ((0 : Fin 4)) (fun y0 => { y0 with state := .ready }), image := some img } }, (0 : Fin 4), 128, 10000001, by first | rfl | decide, by first | rfl | decide, by first | rfl | decide⟩,
   ⟨{ S0 with host := { S0.host with tasks := upd (S0.host.tasks) ((0 : Fin 4)) (fun y0 => { y0 with state := .ready }), image := some img }, sel := { S0.sel with hookTask := (some ((0 : Fin 4))) } }, (0 : Fin 4), 128, by first | rfl | decide, by first | rfl | decide, by first | rfl | decide⟩,
   ⟨{ S0 with host := { S0.host with tasks := upd (S0.host.tasks) ((0 : Fin 4)) (fun y0 => { y0 with state := .ready }), image := some img }, sel := { S0.sel with waiting := (some ([])), hookTask := (some ((0 : Fin 4))) } }, (0 : Fin 4), 128, [], by first | rfl | decide, by first | rfl | decide, by first | rfl | decide, by first | rfl | decide⟩,
   ⟨{ S0 with host := { S0.host with tasks := upd (S0.host.tasks) ((0 : Fin 4)) (fun y0 => { y0 with state := .ready }), image := some img }, sel := { S0.sel with waiting := (some ([])) } }, (0 : Fin 4), 128, ⟨1, 0, 0xFF, 0⟩, [], by first | rfl | decide, by first | rfl | decide, by first | rfl | decide, by first | rfl | decide⟩,
   ⟨{ S0 with host := { S0.host with tasks := upd (S0.host.tasks) ((0 : Fin 4)) (fun y0 => { y0 with state := .ready }), image := (some (img)) } }, (0 : Fin 4), 128, 63, img, by first | rfl | decide, by first | rfl | decide, by first | rfl | decide, by first | rfl | decide⟩,
   ⟨{ S0 with host := { S0.host with tasks := upd (S0.host.tasks) ((0 : Fin 4)) (fun y0 => { y0 with state := .ready }) } }, (0 : Fin 4), by first | rfl | decide⟩,
   ⟨{ S0 with host := { S0.host with tasks := upd (S0.host.tasks) ((0 : Fin 4)) (fun y0 => { y0 with state := .ready }) } }, (0 : Fin 4), 10, by first | rfl | decide, by first | rfl | decide⟩,
   ⟨{ S0 with host := { S0.host with tasks := upd (S0.host.tasks) ((0 : Fin 4)) (fun y0 => { y0 with state := .ready }) } }, (0 : Fin 4), 128, by first | rfl | decide, by first | rfl | decide⟩⟩

theorem witness_TasksStartStopAndWakeAsTheirRulesSay :
    (∃ (s : State) (r : Req) (len : Nat) (h : Nat) (i : TaskImage), Asks 0x010D 8 r s ∧ imageAt s h len = some i ∧ anyTask s = false) ∧
    (∃ (s : State) (r : Req) (len : Nat) (h : Nat), Asks 0x010D 8 r s ∧ imageAt s h len = none) ∧
    (∃ (s : State) (r : Req) (len : Nat) (h : Nat) (i : TaskImage), Asks 0x010D 8 r s ∧ imageAt s h len = some i ∧ anyTask s = true) ∧
    (∃ (s : State) (r : Req), Asks 0x010E 0 r s ∧ s.sel.hookTask = none) ∧
    (∃ (s : State) (t : Fin 4) (c : Nat), s.sel.hookTask ≠ some t) ∧
    (∃ (s : State) (t : Fin 4), canCall s t = true) ∧
    (∃ (s : State) (t : Fin 4), canCall s t = true) ∧
    (∃ (s : State) (t : Fin 4) (b : Bool), canCall s t = true) ∧
    (∃ (s : State) (t : Fin 4) (block : Nat), s.host.tasks[t].state = .sleeping block) ∧
    (∃ (s : State) (t : Fin 4) (block : Nat) (mask : Nat), s.host.tasks[t].state = .waitEvent block mask) ∧
    (∃ (s : State) (t : Fin 4) (log : List RefChange), s.sel.waiting = some log ∧ s.sel.hookTask = some t ∧ s.sel.hookOverruns < 2) ∧
    (∃ (s : State) (t : Fin 4) (log : List RefChange), s.sel.waiting = some log ∧ s.sel.hookTask = some t ∧ 2 ≤ s.sel.hookOverruns) :=
  ⟨⟨hold ({ S0 with host := { S0.host with memory := ((({} : Memory).writeBytes zeroByte 0x04000000 [0x5A, 0x55, 0x54, 0x31, 1, 0, 1, 1, 0, 2, 0, 0, 64, 0, 0, 0, 64, 0, 0, 0, 128, 0, 0, 0, 64, 0, 0, 0, 0, 16, 0, 0, 0, 0, 0, 0, 0, 16, 0, 0])) } }) 0x010D (8), rq (8), 1024, 0, ((imageAt ({ S0 with host := { S0.host with memory := (({} : Memory).writeBytes zeroByte 0x04000000 [0x5A, 0x55, 0x54, 0x31, 1, 0, 1, 1, 0, 2, 0, 0, 64, 0, 0, 0, 64, 0, 0, 0, 128, 0, 0, 0, 64, 0, 0, 0, 0, 16, 0, 0, 0, 0, 0, 0, 0, 16, 0, 0]) } }) 0 1024).getD img), ⟨rfl, _, rfl⟩, by first | rfl | decide, by first | rfl | decide⟩,
   ⟨hold (State.reset) 0x010D (8), rq (8), 0, 0, ⟨rfl, _, rfl⟩, by first | rfl | decide⟩,
   ⟨hold ({ S0 with host := { S0.host with memory := ((({} : Memory).writeBytes zeroByte 0x04000000 [0x5A, 0x55, 0x54, 0x31, 1, 0, 1, 1, 0, 2, 0, 0, 64, 0, 0, 0, 64, 0, 0, 0, 128, 0, 0, 0, 64, 0, 0, 0, 0, 16, 0, 0, 0, 0, 0, 0, 0, 16, 0, 0])), tasks := upd (S0.host.tasks) ((0 : Fin 4)) (fun y0 => { y0 with state := (.ready) }) } }) 0x010D (8), rq (8), 1024, 0, ((imageAt ({ S0 with host := { S0.host with memory := (({} : Memory).writeBytes zeroByte 0x04000000 [0x5A, 0x55, 0x54, 0x31, 1, 0, 1, 1, 0, 2, 0, 0, 64, 0, 0, 0, 64, 0, 0, 0, 128, 0, 0, 0, 64, 0, 0, 0, 0, 16, 0, 0, 0, 0, 0, 0, 0, 16, 0, 0]) } }) 0 1024).getD img), ⟨rfl, _, rfl⟩, by first | rfl | decide, by first | rfl | decide⟩,
   ⟨hold ({ S0 with sel := { S0.sel with hookTask := (none) } }) 0x010E (0), rq (0), ⟨rfl, _, rfl⟩, by first | rfl | decide⟩,
   ⟨State.reset, (0 : Fin 4), 0, by first | rfl | decide⟩,
   ⟨{ S0 with host := { S0.host with tasks := upd (S0.host.tasks) ((0 : Fin 4)) (fun y0 => { y0 with state := .ready }) } }, (0 : Fin 4), by first | rfl | decide⟩,
   ⟨{ S0 with host := { S0.host with tasks := upd (S0.host.tasks) ((0 : Fin 4)) (fun y0 => { y0 with state := .ready }) } }, (0 : Fin 4), by first | rfl | decide⟩,
   ⟨{ S0 with host := { S0.host with tasks := upd (S0.host.tasks) ((0 : Fin 4)) (fun y0 => { y0 with state := .ready }) } }, (0 : Fin 4), false, by first | rfl | decide⟩,
   ⟨{ S0 with host := { S0.host with tasks := upd (S0.host.tasks) 0 (fun y0 => { y0 with state := (.sleeping 128) }) } }, (0 : Fin 4), 128, by first | rfl | decide⟩,
   ⟨{ S0 with host := { S0.host with tasks := upd (S0.host.tasks) 0 (fun y0 => { y0 with state := (.waitEvent 128 0) }) } }, (0 : Fin 4), 128, 0, by first | rfl | decide⟩,
   ⟨{ S0 with sel := { S0.sel with waiting := (some ([])), hookTask := (some ((0 : Fin 4))), hookOverruns := (1) } }, (0 : Fin 4), [], by first | rfl | decide, by first | rfl | decide, by first | rfl | decide⟩,
   ⟨{ S0 with sel := { S0.sel with waiting := (some ([])), hookTask := (some ((0 : Fin 4))), hookOverruns := (2) } }, (0 : Fin 4), [], by first | rfl | decide, by first | rfl | decide, by first | rfl | decide⟩⟩

theorem witness_FirmwareMovesThroughItsStages :
    (∃ (s : State) (r : Req) (p : Pend) (i : Fin 2) (o : Nat) (n : Nat), r.len = 12 ∧ ready 0x010A r s = some p ∧ n ≤ 65536 ∧ o + n ≤ slotSize ∧ s.keys.running ≠ some i ∧ s.keys.fwJob = none) ∧
    (∃ (s : State) (r : Req) (o : Nat) (n : Nat) (i : Fin 2), Asks 0x010A 12 r s ∧ n ≤ 65536 ∧ o + n ≤ slotSize ∧ s.keys.running = some i) ∧
    (∃ (s : State) (j : FwJob), s.keys.fwJob = some j ∧ j.stage = false) ∧
    (∃ (s : State) (r : Req) (p : Pend) (i : Fin 2), r.len = 1 ∧ ready 0x010B r s = some p ∧ s.keys.running ≠ some i ∧ s.keys.fw[i].written = true ∧ s.keys.fwJob = none) ∧
    (∃ (s : State) (j : FwJob), s.keys.fwJob = some j ∧ j.stage = true) ∧
    (∃ (s : State) (j : FwJob) (result : Nat), s.keys.fwJob = some j ∧ j.stage = true ∧ result ≠ 0) ∧
    (∃ (s : State) (r : Req) (i : Fin 2), Asks 0x010C 0 r s ∧ s.keys.onTrial = true ∧ s.keys.running = some i) ∧
    (∃ (s : State) (r : Req), Asks 0x010C 0 r s ∧ s.keys.onTrial = false) :=
  ⟨⟨hold ({ S0 with keys := { S0.keys with fwJob := (none) } }) 0x010A (12), rq (12), pd 0x010A (12), (0 : Fin 2), 0, 0, by first | rfl | decide, rfl, by first | rfl | decide, by first | rfl | decide, by first | rfl | decide, by first | rfl | decide⟩,
   ⟨hold ({ S0 with keys := { S0.keys with running := (some ((0 : Fin 2))) } }) 0x010A (12), rq (12), (8 * 1024 * 1024 - 65536), 65536, (0 : Fin 2), ⟨rfl, _, rfl⟩, by first | rfl | decide, by first | rfl | decide, by first | rfl | decide⟩,
   ⟨{ S0 with keys := { S0.keys with fwJob := (some ((⟨0, false, 0, 4, .mailbox 0, 7⟩))) } }, (⟨0, false, 0, 4, .mailbox 0, 7⟩), by first | rfl | decide, by first | rfl | decide⟩,
   ⟨hold ({ S0 with keys := { S0.keys with fw := upd (S0.keys.fw) (((0 : Fin 2))) (fun y0 => { y0 with written := (true) }), fwJob := (none) } }) 0x010B (1), rq 1, pd 0x010B (1), (0 : Fin 2), by first | rfl | decide, rfl, by first | rfl | decide, by first | rfl | decide, by first | rfl | decide⟩,
   ⟨{ S0 with keys := { S0.keys with fwJob := (some (⟨0, true, 0, 4, .mailbox 0, 7⟩)) } }, ⟨0, true, 0, 4, .mailbox 0, 7⟩, by first | rfl | decide, by first | rfl | decide⟩,
   ⟨{ S0 with keys := { S0.keys with fwJob := (some (⟨0, true, 0, 4, .mailbox 0, 7⟩)) } }, ⟨0, true, 0, 4, .mailbox 0, 7⟩, 1, by first | rfl | decide, by first | rfl | decide, by first | rfl | decide⟩,
   ⟨hold ({ S0 with keys := { S0.keys with onTrial := (true), running := (some ((0 : Fin 2))) } }) 0x010C (0), rq (0), (0 : Fin 2), ⟨rfl, _, rfl⟩, by first | rfl | decide, by first | rfl | decide⟩,
   ⟨hold ({ S0 with keys := { S0.keys with onTrial := (false) } }) 0x010C (0), rq (0), ⟨rfl, _, rfl⟩, by first | rfl | decide⟩⟩

theorem witness_SystemCommandsActAsTheirRulesSay :
    (∃ (s : State) (r : Req) (d : Nat), Asks 0x0108 16 r s ∧ d ≠ Config.deviceId) ∧
    (∃ (s : State) (r : Req), Asks 0x0107 0 r s ∧ s.host.supervisor = true) ∧
    (∃ (s : State) (regions : Nat), s.host.restarting = true) :=
  ⟨⟨hold (State.reset) 0x0108 (16), rq (16), (Config.deviceId + 1), ⟨rfl, _, rfl⟩, (Nat.succ_ne_self _)⟩,
   ⟨hold ({ S0 with host := { S0.host with supervisor := (true) } }) 0x0107 (0), rq (0), ⟨rfl, _, rfl⟩, by first | rfl | decide⟩,
   ⟨{ S0 with host := { S0.host with restarting := (true) } }, 0, by first | rfl | decide⟩⟩

theorem witness_ResetsKeepWhatTheManualKeeps :
    (∃ (b : BootInputs) (s : State), s.power.inReset = false) ∧
    (∃ (b : BootInputs) (s : State), s.power.inReset = true ∧ (∀ i : Fin 2, s.keys.fw[i].trialFailed = true)) ∧
    (∃ (b : BootInputs) (s : State), s.power.inReset = true ∧ b.slot0Result = 0 ∧ b.slot1Result ≠ 0 ∧ s.keys.fw[0].trialFailed = false ∧ s.keys.onTrial = false) ∧
    (∃ (s : State), s.power.inReset = false ∧ s.host.halted = false ∧ s.host.em.stage = 8) :=
  ⟨⟨(boot0), { S0 with power := { S0.power with inReset := (false) } }, by first | rfl | decide⟩,
   ⟨(boot0), { S0 with power := { S0.power with inReset := (true) }, keys := { S0.keys with fw := upd (upd (S0.keys.fw) 0 (fun y0 => { y0 with trialFailed := (true) })) 1 (fun y0 => { y0 with trialFailed := (true) }) } }, by first | rfl | decide, by first | rfl | decide⟩,
   ⟨{ boot0 with slot1Result := 1 }, { S0 with power := { S0.power with inReset := (true) }, keys := { S0.keys with fw := upd (S0.keys.fw) 0 (fun y0 => { y0 with trialFailed := (false) }), onTrial := (false) } }, by first | rfl | decide, by first | rfl | decide, by first | rfl | decide, by first | rfl | decide, by first | rfl | decide⟩,
   ⟨{ S0 with power := { S0.power with inReset := (false) }, host := { S0.host with halted := (false), em := { S0.host.em with stage := (8) } } }, by first | rfl | decide, by first | rfl | decide, by first | rfl | decide⟩⟩

theorem witness_NibChannelsAreAllocatedAndReleased :
    (∃ (s : State) (r : Req) (c : Fin 24), Asks 0x0A01 0 r s ∧ s.nib[c].owner = ownFree ∧ s.nib[c].degraded = false ∧ (∀ d : Fin 24, d < c → s.nib[d].owner ≠ ownFree ∨ s.nib[d].degraded = true)) ∧
    (∃ (s : State) (r : Req), Asks 0x0A01 0 r s ∧ (∀ d : Fin 24, s.nib[d].owner ≠ ownFree ∨ s.nib[d].degraded = true)) ∧
    (∃ (s : State) (r : Req) (c : Fin 24), Asks 0x0A02 1 r s ∧ s.nib[c].owner = ownHost) ∧
    (∃ (s : State) (r : Req) (c : Fin 24), Asks 0x0A02 1 r s ∧ s.nib[c].owner ≠ ownHost) ∧
    (∃ (s : State) (r : Req) (a : Nat) (n : Nat), Asks 0x0A10 2 r s ∧ 1 ≤ n ∧ a + n ≤ 24) :=
  ⟨⟨hold ({ S0 with nib := upd (S0.nib) (((1 : Fin 24))) (fun y0 => { y0 with owner := (ownFree), degraded := (false) }) }) 0x0A01 (0), rq (0), (1 : Fin 24), ⟨rfl, _, rfl⟩, by first | rfl | decide, by first | rfl | decide, by first | rfl | decide⟩,
   ⟨hold ({ S0 with nib := (tab fun _ => { degraded := true }) }) 0x0A01 (0), rq (0), ⟨rfl, _, rfl⟩, by first | rfl | decide⟩,
   ⟨hold ({ S0 with nib := upd (S0.nib) (((0 : Fin 24))) (fun y0 => { y0 with owner := (ownHost) }) }) 0x0A02 (1), rq (1), (0 : Fin 24), ⟨rfl, _, rfl⟩, by first | rfl | decide⟩,
   ⟨hold (State.reset) 0x0A02 (1), rq (1), (0 : Fin 24), ⟨rfl, _, rfl⟩, by first | rfl | decide⟩,
   ⟨hold (State.reset) 0x0A10 (2), rq (2), 23, 1, ⟨rfl, _, rfl⟩, by first | rfl | decide, by first | rfl | decide⟩⟩

theorem witness_NibEdgesAndLinesFollowTheirRules :
    (∃ (s : State) (c : Fin 24) (sub : Nat), s.clock.form ≠ .stopped ∧ s.nib[c].owner ≠ ownFree ∧ s.nib[c].owner ≠ ownRetired ∧ s.nib[c].cfg.source ≠ 0xFF ∧ s.nib[c].cfg.edge ≠ 1) ∧
    (∃ (s : State) (c : Fin 24) (f : Bool) (sub : Nat), (s.clock.form = .stopped ∨ s.nib[c].owner = ownFree)) ∧
    (∃ (s : State) (c : Fin 24), s.nib[c].failA = 9) ∧
    (∃ (s : State) (c : Fin 24), s.clock.form ≠ .stopped ∧ s.nib[c].degraded = false ∧ s.nib[c].lastEdge = none) ∧
    (∃ (s : State) (c : Fin 24) (tap : Nat), s.clock.form ≠ .stopped ∧ s.nib[c].degraded = false ∧ s.nib[c].lastEdge = none ∧ s.nib[c].liveB = false ∧ s.nib[c].sparesB = 0) ∧
    (∃ (s : State) (c : Fin 24) (tap : Nat) (n : Nat), s.clock.form ≠ .stopped ∧ s.nib[c].degraded = false ∧ s.nib[c].lastEdge = none ∧ s.nib[c].liveB = false ∧ s.nib[c].sparesB = n + 1) ∧
    (∃ (s : State) (c : Fin 24) (p : NibPair) (ps : List NibPair), s.nib[c].pairs = p :: ps) ∧
    (∃ (s : State) (c : Fin 24), s.clock.form ≠ .stopped ∧ s.nib[c].owner = ownHost ∧ s.nib[c].cfg.mode = 2) :=
  ⟨⟨{ S0 with clock := { S0.clock with form := (.counter) }, nib := upd (S0.nib) 0 (fun y0 => { y0 with owner := (ownHost), cfg := { y0.cfg with source := (0x20) } }) }, (0 : Fin 24), 0, by first | rfl | decide, by first | rfl | decide, by first | rfl | decide, by first | rfl | decide, by first | rfl | decide⟩,
   ⟨State.reset, (0 : Fin 24), false, 0, by first | rfl | decide⟩,
   ⟨{ S0 with nib := upd (S0.nib) (((0 : Fin 24))) (fun y0 => { y0 with failA := (9) }) }, (0 : Fin 24), by first | rfl | decide⟩,
   ⟨{ S0 with nib := upd (S0.nib) (((0 : Fin 24))) (fun y0 => { y0 with degraded := (false), lastEdge := (none) }), clock := { S0.clock with form := (.counter) } }, (0 : Fin 24), by first | rfl | decide, by first | rfl | decide, by first | rfl | decide⟩,
   ⟨{ S0 with nib := upd (S0.nib) (((0 : Fin 24))) (fun y0 => { y0 with degraded := (false), lastEdge := (none), liveB := (false), sparesB := (0) }), clock := { S0.clock with form := (.counter) } }, (0 : Fin 24), 0, by first | rfl | decide, by first | rfl | decide, by first | rfl | decide, by first | rfl | decide, by first | rfl | decide⟩,
   ⟨{ S0 with nib := upd (S0.nib) (((0 : Fin 24))) (fun y0 => { y0 with degraded := (false), lastEdge := (none), liveB := (false), sparesB := ((0) + 1) }), clock := { S0.clock with form := (.counter) } }, (0 : Fin 24), 0, 0, by first | rfl | decide, by first | rfl | decide, by first | rfl | decide, by first | rfl | decide, by first | rfl | decide⟩,
   ⟨{ S0 with nib := upd (S0.nib) (((0 : Fin 24))) (fun y0 => { y0 with pairs := ((⟨0, none, none, false, false, 0, false, 0⟩) :: ([])) }) }, (0 : Fin 24), ⟨0, none, none, false, false, 0, false, 0⟩, [], by first | rfl | decide⟩,
   ⟨{ S0 with nib := upd (S0.nib) (((0 : Fin 24))) (fun y0 => { y0 with owner := (ownHost), cfg := { y0.cfg with mode := (2) } }), clock := { S0.clock with form := (.counter) } }, (0 : Fin 24), by first | rfl | decide, by first | rfl | decide, by first | rfl | decide⟩⟩

theorem witness_GnssCommandsActAsTheirRulesSay :
    (∃ (s : State) (r : Req) (l : List Sat), Asks 0x0904 (4 + 2 * l.length) r s ∧ l.length ≤ 64 ∧ (∀ e ∈ l, e.constellation ≤ 2)) ∧
    (∃ (s : State) (r : Req) (l : List Sat), Asks 0x0904 (4 + 2 * l.length) r s ∧ 64 < l.length) ∧
    (∃ (s : State) (r : Req) (l : List OrbitItem), Asks 0x0908 (4 + (l.map fun i => i.octets.length).foldl (· + ·) 0) r s) ∧
    (∃ (s : State) (r : Req) (q : Pend) (p : Fin 2) (d : Nat), r.len = 8 ∧ ready 0x0909 r s = some q ∧ 3600 ≤ d ∧ d ≤ 604800 ∧ s.gnss.ports[p].fix.mode = 2 ∧ s.gnss.ports[p].group = none) ∧
    (∃ (s : State) (r : Req) (p : Fin 2) (d : Nat), Asks 0x0909 8 r s ∧ 3600 ≤ d ∧ d ≤ 604800 ∧ s.gnss.ports[p].fix.mode ≠ 2) ∧
    (∃ (s : State) (r : Req) (e : Nat) (d : Nat) (o : Nat) (z : ZT128), Asks 0x090A 24 r s ∧ e ≤ 7 ∧ 1 ≤ d ∧ d ≤ 40 ∧ o ≤ 1 ∧ ztValid z = true ∧ captureBlocked s (decide (o = 1)) = false) ∧
    (∃ (s : State) (r : Req) (k : Nat) (e : Nat) (d : Nat) (o : Nat) (z : ZT128), Asks 0x090A 24 r s ∧ k ≤ 2 ∧ e ≤ 7 ∧ 1 ≤ d ∧ d ≤ 40 ∧ o ≤ 1 ∧ ztValid z = true ∧ captureBlocked s (decide (o = 1)) = true) ∧
    (∃ (s : State) (r : Req), Asks 0x090B 0 r s ∧ s.gnss.snap.exporting = none) ∧
    (∃ (s : State) (r : Req) (q : Pend) (a : Nat) (n : Nat), r.len = 12 ∧ ready 0x090C r s = some q ∧ s.gnss.snap.held ≠ none ∧ s.gnss.snap.exporting = none) :=
  ⟨⟨hold (State.reset) 0x0904 ((4 + 2 * ([(⟨2, 5⟩ : Sat)]).length)), rq ((4 + 2 * ([(⟨2, 5⟩ : Sat)]).length)), [(⟨2, 5⟩ : Sat)], ⟨rfl, _, rfl⟩, by first | rfl | decide, by first | rfl | decide⟩,
   ⟨hold (State.reset) 0x0904 ((4 + 2 * ((List.replicate 65 (⟨0, 1⟩ : Sat))).length)), rq ((4 + 2 * ((List.replicate 65 (⟨0, 1⟩ : Sat))).length)), (List.replicate 65 (⟨0, 1⟩ : Sat)), ⟨rfl, _, rfl⟩, by first | rfl | decide⟩,
   ⟨hold (State.reset) 0x0908 ((4 + ((([] : List OrbitItem)).map fun i => i.octets.length).foldl (· + ·) 0)), rq ((4 + ((([] : List OrbitItem)).map fun i => i.octets.length).foldl (· + ·) 0)), ([] : List OrbitItem), ⟨rfl, _, rfl⟩⟩,
   ⟨hold ({ S0 with gnss := { S0.gnss with ports := upd (S0.gnss.ports) (((0 : Fin 2))) (fun y0 => { y0 with fix := { y0.fix with mode := (2) }, group := (none) }) } }) 0x0909 (8), rq (8), pd 0x0909 8, (0 : Fin 2), 3600, by first | rfl | decide, rfl, by first | rfl | decide, by first | rfl | decide, by first | rfl | decide, by first | rfl | decide⟩,
   ⟨hold (State.reset) 0x0909 (8), rq (8), (0 : Fin 2), 604800, ⟨rfl, _, rfl⟩, by first | rfl | decide, by first | rfl | decide, by first | rfl | decide⟩,
   ⟨hold (State.reset) 0x090A (24), rq (24), 7, 40, 1, {}, ⟨rfl, _, rfl⟩, by first | rfl | decide, by first | rfl | decide, by first | rfl | decide, by first | rfl | decide, by first | rfl | decide, by first | rfl | decide⟩,
   ⟨hold ({ S0 with gnss := { S0.gnss with snap := { S0.gnss.snap with capturing := (some ⟨1, 0, 1, 0, 0, 0, 0, 0⟩) } } }) 0x090A (24), rq (24), 2, 7, 1, 0, {}, ⟨rfl, _, rfl⟩, by first | rfl | decide, by first | rfl | decide, by first | rfl | decide, by first | rfl | decide, by first | rfl | decide, by first | rfl | decide, by first | rfl | decide⟩,
   ⟨hold ({ S0 with gnss := { S0.gnss with snap := { S0.gnss.snap with exporting := (none) } } }) 0x090B (0), rq (0), ⟨rfl, _, rfl⟩, by first | rfl | decide⟩,
   ⟨hold ({ S0 with gnss := { S0.gnss with snap := { S0.gnss.snap with exporting := (none), held := (some (⟨0, 0, 0, 0, 0, 0, 0, 0, 0⟩, ⟨0, 0, 0, 0, 0, 0, 0, 0, 0⟩, 0)) } } }) 0x090C (12), rq (12), pd 0x090C 12, 0, 0, by first | rfl | decide, rfl, by first | rfl | decide, by first | rfl | decide⟩⟩

theorem witness_GnssRowsActAsTheirRulesSay :
    (∃ (s : State) (p : Fin 2) (m : List Int) (e : List Nat) (j : GroupJob), s.gnss.ports[p].group = some j ∧ j.begun + j.duration * 10 ^ 9 ≤ s.clock.ticks.toNat) ∧
    (∃ (s : State) (c : Fin 200), s.gnss.channels[c].state = 3) ∧
    (∃ (s : State) (c : Fin 200), s.gnss.channels[c].state = 1 ∧ 1 ≤ s.gnss.channels[c].tries) ∧
    (∃ (s : State) (c : Fin 200) (p : Fin 2) (x : Sat) (k : Fin 6) (a : Nat) (b : Nat) (n : Nat) (cn : Nat), s.gnss.channels[c].state = 0 ∧ s.wear.channels[c].state = .service ∧ s.refs[gnssRef p].state ≠ .off) ∧
    (∃ (s : State) (c : Fin 200) (a : Nat) (b : Nat) (cn : Nat) (w : Nat × Nat), s.gnss.channels[c].state = 2 ∧ s.gnss.channels[c].nextCode = some w) ∧
    (∃ (s : State) (p : Fin 2), s.gnss.ports[p].clockFault = true) ∧
    (∃ (s : State) (p : Fin 2) (i : List Nat) (q : List Nat), i.length = 16 ∧ q.length = 16) ∧
    (∃ (s : State) (p : Fin 2) (m : List Int) (e : List Nat) (j : GroupJob), s.gnss.ports[p].group = some j ∧ s.clock.ticks.toNat < j.begun + j.duration * 10 ^ 9) ∧
    (∃ (s : State) (p : Fin 2) (x : Int) (y : Int) (z : Int) (u : Nat) (h : Nat) (v : Nat), s.gnss.ports[p].fix.mode = 1 ∧ h < s.gnss.ports[p].fix.target ∧ v < s.gnss.ports[p].fix.target ∧ s.gnss.ports[p].surveyFrom + s.gnss.ports[p].fix.surveyMin * 10 ^ 9 ≤ s.clock.ticks.toNat) ∧
    (∃ (s : State) (c : Capture), s.gnss.snap.armed = some c ∧ c.trigger = 1 ∧ captureBlocked s (decide (c.overwrite = 1)) = false) ∧
    (∃ (s : State) (c : Capture), s.gnss.snap.armed = some c ∧ c.trigger = 1 ∧ captureBlocked s (decide (c.overwrite = 1)) = true) ∧
    (∃ (s : State) (c : Capture) (a : Nat) (b : Nat) (x : Int) (y : Int) (o : Nat), s.gnss.snap.capturing = some c ∧ c.lost = 0) ∧
    (∃ (s : State) (n : Nat) (q : Nat) (src : Source), s.gnss.snap.exporting = some (n, src, q) ∧ s.gnss.snap.releases = []) ∧
    (∃ (s : State) (p : Fin 2) (k : Fin 8), s.gnss.ports[p].clearing.getLsbD k.val = true ∧ s.gnss.ports[p].passSince[k] + s.gnss.ports[p].consist.clearTime * 10 ^ 9 ≤ s.clock.ticks.toNat) ∧
    (∃ (s : State) (e : GnssEpoch) (o : Int), s.refs[gnssRef e.port].state ≠ .off ∧ s.clock.form ≠ .stopped ∧ e.offset = some o ∧ enough s.gnss.ports[e.port].fix.mode (usedSats s e) = true) ∧
    (∃ (s : State) (e : GnssEpoch), s.refs[gnssRef e.port].state ≠ .off ∧ s.clock.form ≠ .stopped ∧ solution s e = none) ∧
    (∃ (s : State) (e : GnssEpoch), s.refs[gnssRef e.port].state ≠ .off ∧ s.clock.form ≠ .stopped ∧ 4 ≤ ((usedSats s e).filter fun m => decide (s.gnss.ports[e.port].consist.cn0High < m.cn0)).length) ∧
    (∃ (s : State) (e : GnssEpoch), s.refs[gnssRef e.port].state ≠ .off ∧ s.clock.form ≠ .stopped ∧ atomicGuard s = false) ∧
    (∃ (s : State) (e : GnssEpoch), (s.refs[gnssRef e.port].state = .off ∨ s.clock.form = .stopped)) ∧
    (∃ (s : State) (e : GnssEpoch), s.gnss.ports[e.port].fix.mode ≠ 2) :=
  ⟨⟨{ S0 with gnss := { S0.gnss with ports := upd (S0.gnss.ports) (((0 : Fin 2))) (fun y0 => { y0 with group := (some (⟨3600, 0, .mailbox 0, 7⟩)) }) }, clock := { S0.clock with ticks := (2^44) } }, (0 : Fin 2), ([] : List Int), ([] : List Nat), ⟨3600, 0, .mailbox 0, 7⟩, by first | rfl | decide, by first | rfl | decide⟩,
   ⟨{ S0 with gnss := { S0.gnss with channels := upd (S0.gnss.channels) (((0 : Fin 200))) (fun y0 => { y0 with state := (3) }) } }, (0 : Fin 200), by first | rfl | decide⟩,
   ⟨{ S0 with gnss := { S0.gnss with channels := upd (upd (S0.gnss.channels) (((0 : Fin 200))) (fun y0 => { y0 with state := (1) })) ((0 : Fin 200)) (fun y0 => { y0 with tries := (1) }) } }, (0 : Fin 200), by first | rfl | decide, by first | rfl | decide⟩,
   ⟨{ S0 with gnss := { S0.gnss with channels := upd (S0.gnss.channels) (((0 : Fin 200))) (fun y0 => { y0 with state := (0) }) }, wear := { S0.wear with channels := upd (S0.wear.channels) (((0 : Fin 200))) (fun y0 => { y0 with state := (.service) }) }, refs := upd (S0.refs) (gnssRef 0) (fun y0 => { y0 with state := (.monitor) }) }, (0 : Fin 200), (0 : Fin 2), (⟨0, 3⟩), (0 : Fin 6), 0, 0, 0, 0, by first | rfl | decide, by first | rfl | decide, by first | rfl | decide⟩,
   ⟨{ S0 with gnss := { S0.gnss with channels := upd (S0.gnss.channels) (((0 : Fin 200))) (fun y0 => { y0 with state := (2), nextCode := (some ((0, 0))) }) } }, (0 : Fin 200), 0, 0, 0, (0, 0), by first | rfl | decide, by first | rfl | decide⟩,
   ⟨{ S0 with gnss := { S0.gnss with ports := upd (S0.gnss.ports) (((0 : Fin 2))) (fun y0 => { y0 with clockFault := (true) }) } }, (0 : Fin 2), by first | rfl | decide⟩,
   ⟨State.reset, (0 : Fin 2), (List.replicate 16 0), (List.replicate 16 0), by first | rfl | decide, by first | rfl | decide⟩,
   ⟨{ S0 with gnss := { S0.gnss with ports := upd (S0.gnss.ports) (((0 : Fin 2))) (fun y0 => { y0 with group := (some (⟨3600, 0, .mailbox 0, 7⟩)) }) } }, (0 : Fin 2), ([] : List Int), ([] : List Nat), ⟨3600, 0, .mailbox 0, 7⟩, by first | rfl | decide, by first | rfl | decide⟩,
   ⟨{ S0 with gnss := { S0.gnss with ports := upd (S0.gnss.ports) (((0 : Fin 2))) (fun y0 => { y0 with fix := { y0.fix with mode := (1) } }) }, clock := { S0.clock with ticks := (2^44) } }, (0 : Fin 2), 0, 0, 0, 0, 0, 0, by first | rfl | decide, by first | rfl | decide, by first | rfl | decide, by first | rfl | decide⟩,
   ⟨{ S0 with gnss := { S0.gnss with snap := { S0.gnss.snap with armed := (some ((⟨1, 0, 1, 0, 0, 0, 0, 0⟩))) } } }, (⟨1, 0, 1, 0, 0, 0, 0, 0⟩), by first | rfl | decide, by first | rfl | decide, by first | rfl | decide⟩,
   ⟨{ S0 with gnss := { S0.gnss with snap := { S0.gnss.snap with armed := (some ((⟨1, 0, 1, 0, 0, 0, 0, 0⟩))), capturing := (some ⟨1, 0, 1, 0, 0, 0, 0, 0⟩) } } }, (⟨1, 0, 1, 0, 0, 0, 0, 0⟩), by first | rfl | decide, by first | rfl | decide, by first | rfl | decide⟩,
   ⟨{ S0 with gnss := { S0.gnss with snap := { S0.gnss.snap with capturing := (some ((⟨1, 0, 1, 0, 0, 0, 0, 0⟩))) } } }, (⟨1, 0, 1, 0, 0, 0, 0, 0⟩), 0, 0, 0, 0, 0, by first | rfl | decide, by first | rfl | decide⟩,
   ⟨{ S0 with gnss := { S0.gnss with snap := { S0.gnss.snap with exporting := (some ((0), (.mailbox 0), (0))), releases := ([]) } } }, 0, 0, .mailbox 0, by first | rfl | decide, by first | rfl | decide⟩,
   ⟨{ S0 with gnss := { S0.gnss with ports := upd (S0.gnss.ports) 0 (fun y0 => { y0 with clearing := (1) }) }, clock := { S0.clock with ticks := (2^44) } }, (0 : Fin 2), (0 : Fin 8), by first | rfl | decide, by first | rfl | decide⟩,
   ⟨{ S0 with refs := upd (S0.refs) (gnssRef 0) (fun y0 => { y0 with state := (.monitor) }), clock := { S0.clock with form := (.counter) }, gnss := { S0.gnss with ports := upd (S0.gnss.ports) 0 (fun y0 => { y0 with fix := { y0.fix with mode := (2) } }), channels := upd (S0.gnss.channels) ((0 : Fin 200)) (fun y0 => { y0 with state := (3), port := (0), sat := (⟨0, 3⟩) }) } }, (epoch0), (3 : Int), by first | rfl | decide, by first | rfl | decide, by first | rfl | decide, by first | rfl | decide⟩,
   ⟨{ S0 with refs := upd (S0.refs) (gnssRef 0) (fun y0 => { y0 with state := (.monitor) }), clock := { S0.clock with form := (.counter) } }, (epoch0), by first | rfl | decide, by first | rfl | decide, by first | rfl | decide⟩,
   ⟨{ S0 with refs := upd (S0.refs) (gnssRef 0) (fun y0 => { y0 with state := (.monitor) }), clock := { S0.clock with form := (.counter) }, gnss := { S0.gnss with channels := (Vector.replicate 200 { state := 3, port := 0, sat := ⟨0, 3⟩ }) } }, { epoch0 with sats := List.replicate 4 { sat0 with cn0 := 600 } }, by first | rfl | decide, by first | rfl | decide, by first | rfl | decide⟩,
   ⟨{ S0 with refs := upd (S0.refs) (gnssRef 0) (fun y0 => { y0 with state := (.monitor) }), clock := { S0.clock with form := (.counter) } }, (epoch0), by first | rfl | decide, by first | rfl | decide, by first | rfl | decide⟩,
   ⟨State.reset, (epoch0), by first | rfl | decide⟩,
   ⟨State.reset, (epoch0), by first | rfl | decide⟩⟩

theorem witness_DuctusCommandsActAsTheirRulesSay :
    (∃ (s : State) (r : Req) (c : Fin 6), Asks 0x0304 2 r s ∧ c.val ≠ 0 ∧ s.ductus.dplls[c].state = .off ∧ inputPresent (s.modDpll c fun x => { x with state := .pulling }) c = true) ∧
    (∃ (s : State) (r : Req) (c : Fin 6), Asks 0x0304 2 r s ∧ c.val ≠ 0 ∧ s.ductus.dplls[c].state ≠ .off) ∧
    (∃ (s : State) (r : Req) (c : Fin 6), Asks 0x0304 2 r s ∧ c.val ≠ 0) ∧
    (∃ (s : State) (r : Req) (e : Nat), Asks 0x0304 2 r s ∧ e ≤ 1) ∧
    (∃ (s : State) (r : Req) (l : List ModelItem), Asks 0x0306 (8 + 56 * l.length) r s ∧ (∀ it ∈ l, ztValid it.exportTime = true) ∧ s.ductus.state ≠ .free ∧ s.ductus.state ≠ .acquire) ∧
    (∃ (s : State) (r : Req) (l : List ModelItem), Asks 0x0306 (8 + 56 * l.length) r s ∧ (∀ it ∈ l, ztValid it.exportTime = true) ∧ (s.ductus.state = .free ∨ s.ductus.state = .acquire)) ∧
    (∃ (s : State) (r : Req) (a : Nat) (n : Nat), Asks 0x0210 2 r s ∧ 1 ≤ n ∧ a + n ≤ 20) ∧
    (∃ (s : State) (r : Req) (t : Fin 4), Asks 0x0209 1 r s ∧ r.src = .task t) ∧
    (∃ (s : State) (r : Req) (m : Fin 16) (a : Nat), Asks 0x0209 1 r s ∧ r.src = .mailbox m) :=
  ⟨⟨hold ({ S0 with ductus := { S0.ductus with dplls := upd (upd (S0.ductus.dplls) (((1 : Fin 6))) (fun y0 => { y0 with state := (.off) })) ((1 : Fin 6)) (fun y0 => { y0 with cfg := { y0.cfg with input := (1) }, state := (.off) }) }, clock := { S0.clock with form := (.counter) }, synth := { S0.synth with aplls := upd (S0.synth.aplls) 0 (fun y0 => { y0 with state := (.locked) }) } }) 0x0304 (2), rq (2), (1 : Fin 6), ⟨rfl, _, rfl⟩, by first | rfl | decide, by first | rfl | decide, by first | rfl | decide⟩,
   ⟨hold ({ S0 with ductus := { S0.ductus with dplls := upd (S0.ductus.dplls) ((1 : Fin 6)) (fun y0 => { y0 with state := (.tracking) }) } }) 0x0304 (2), rq (2), (1 : Fin 6), ⟨rfl, _, rfl⟩, by first | rfl | decide, by first | rfl | decide⟩,
   ⟨hold (State.reset) 0x0304 (2), rq (2), (5 : Fin 6), ⟨rfl, _, rfl⟩, by first | rfl | decide⟩,
   ⟨hold (State.reset) 0x0304 (2), rq (2), 0, ⟨rfl, _, rfl⟩, by first | rfl | decide⟩,
   ⟨hold ({ S0 with ductus := { S0.ductus with state := (.locked) } }) 0x0306 ((8 + 56 * (([] : List ModelItem)).length)), rq ((8 + 56 * (([] : List ModelItem)).length)), ([] : List ModelItem), ⟨rfl, _, rfl⟩, (fun _ h => nomatch h), by first | rfl | decide, by first | rfl | decide⟩,
   ⟨hold (State.reset) 0x0306 ((8 + 56 * (([] : List ModelItem)).length)), rq ((8 + 56 * (([] : List ModelItem)).length)), ([] : List ModelItem), ⟨rfl, _, rfl⟩, (fun _ h => nomatch h), by first | rfl | decide⟩,
   ⟨hold (State.reset) 0x0210 (2), rq (2), 19, 1, ⟨rfl, _, rfl⟩, by first | rfl | decide, by first | rfl | decide⟩,
   ⟨(taskHold 0x0209 1), ⟨.task 0, 1⟩, (0 : Fin 4), ⟨rfl, _, rfl⟩, by first | rfl | decide⟩,
   ⟨hold (State.reset) 0x0209 (1), rq (1), (0 : Fin 16), 0, ⟨rfl, _, rfl⟩, by first | rfl | decide⟩⟩

theorem witness_DuctusRowsActAsTheirRulesSay :
    (∃ (s : State) (f : FilterResult), s.host.supervisor = true ∧ s.clock.form = .counter ∧ s.clock.rebase = none ∧ s.ductus.silent = false ∧ s.ductus.next = none ∧ s.ductus.state ≠ .free ∧ s.ductus.state ≠ .acquire) ∧
    (∃ (s : State) (f : FilterResult), s.host.supervisor = false) ∧
    (∃ (s : State), s.ductus.state = .rejoin ∧ anchored s = true ∧ s.ductus.b = 0 ∧ s.ductus.loopError.natAbs ≤ s.ductus.cfg.lockPhase ∧ s.ductus.frequency.natAbs ≤ s.ductus.cfg.lockFreq) ∧
    (∃ (s : State), (s.ductus.state = .free ∨ s.ductus.state = .coast ∨ s.ductus.state = .locked)) ∧
    (∃ (s : State), s.ductus.xoLost = true ∧ s.refs[xoRef].contributing = true ∧ s.ductus.state = .coast ∧ selected s ≠ none) ∧
    (∃ (s : State), s.ductus.updated + s.ductus.dplls[0].cfg.timeout * secUnit ≤ now s) ∧
    (∃ (s : State) (c : Fin 6), s.ductus.dplls[c].state = .pulling) ∧
    (∃ (s : State) (c : Fin 6), s.ductus.dplls[c].state = .tracking) :=
  ⟨⟨{ S0 with host := { S0.host with supervisor := (true) }, clock := { S0.clock with form := (.counter), rebase := (none) }, ductus := { S0.ductus with silent := (false), next := (none), state := (.locked) } }, (⟨1, 2, 3, 4, 5, 6, []⟩), by first | rfl | decide, by first | rfl | decide, by first | rfl | decide, by first | rfl | decide, by first | rfl | decide, by first | rfl | decide, by first | rfl | decide⟩,
   ⟨{ S0 with host := { S0.host with supervisor := (false) } }, (⟨1, 2, 3, 4, 5, 6, []⟩), by first | rfl | decide⟩,
   ⟨{ S0 with ductus := { S0.ductus with state := (.rejoin), b := (0), anchor := (some 0) } }, by first | rfl | decide, by first | rfl | decide, by first | rfl | decide, by first | rfl | decide, by first | rfl | decide⟩,
   ⟨State.reset, by first | rfl | decide⟩,
   ⟨{ S0 with ductus := { S0.ductus with xoLost := (true), state := (.coast) }, refs := upd (upd (upd (S0.refs) xoRef (fun y0 => { y0 with contributing := (true) })) 13 (fun y0 => { y0 with state := (.selected) })) 12 (fun y0 => { y0 with contributing := (true) }) }, by first | rfl | decide, by first | rfl | decide, by first | rfl | decide, by first | rfl | decide⟩,
   ⟨{ S0 with ductus := { S0.ductus with dplls := upd (S0.ductus.dplls) 0 (fun y0 => { y0 with cfg := { y0.cfg with timeout := (0) } }) } }, by first | rfl | decide⟩,
   ⟨{ S0 with ductus := { S0.ductus with dplls := upd (S0.ductus.dplls) (((0 : Fin 6))) (fun y0 => { y0 with state := (.pulling) }) } }, (0 : Fin 6), by first | rfl | decide⟩,
   ⟨{ S0 with ductus := { S0.ductus with dplls := upd (S0.ductus.dplls) (((0 : Fin 6))) (fun y0 => { y0 with state := (.tracking) }) } }, (0 : Fin 6), by first | rfl | decide⟩⟩

theorem witness_PredictionsWidenAsTheClockModelSays :
    (∃ (s : State) (t : Nat) (u : Nat), t ≤ u) ∧
    (∃ (s : State) (t : Nat), (s.ductus.state = .free ∨ s.ductus.xoLost = true ∨ s.ductus.anchorMeas = 0)) ∧
    (∃ (s : State) (t : Nat), s.ductus.state ≠ .free ∧ s.ductus.xoLost = false ∧ s.ductus.anchorMeas ≠ 0) ∧
    (∃ (s : State), s.ductus.anchor = none) ∧
    (∃ (s : State), anchored s = true ∧ s.ductus.state ≠ .coast) ∧
    (∃ (s : State), s.ductus.anchor = none ∧ s.margin.lossAt = none) :=
  ⟨⟨State.reset, 0, 1, by first | rfl | decide⟩,
   ⟨State.reset, 0, by first | rfl | decide⟩,
   ⟨{ S0 with ductus := { S0.ductus with xoLost := (false), state := (.locked), anchorMeas := (1) } }, 0, by first | rfl | decide, by first | rfl | decide, by first | rfl | decide⟩,
   ⟨{ S0 with ductus := { S0.ductus with anchor := (none) } }, by first | rfl | decide⟩,
   ⟨{ S0 with ductus := { S0.ductus with anchor := (some 13) } }, by first | rfl | decide, by first | rfl | decide⟩,
   ⟨{ S0 with ductus := { S0.ductus with anchor := (none) }, margin := { S0.margin with lossAt := (none) } }, by first | rfl | decide, by first | rfl | decide⟩⟩

theorem witness_AnEvaluationPublishesTheLargestBound :
    ∃ (s : State) (gap : Nat), s.host.supervisor = true ∧ s.clock.form ≠ .stopped :=
  ⟨{ S0 with host := { S0.host with supervisor := (true) }, clock := { S0.clock with form := (.counter) } }, 0, by first | rfl | decide, by first | rfl | decide⟩

theorem witness_MarginRowsActAsTheirRulesSay :
    (∃ (s : State) (r : Req) (i : Fin 13) (x : Int), Asks 0x0208 4 r s ∧ -32768 ≤ x ∧ x ≤ 32767) ∧
    (∃ (s : State) (r : Req) (i : Nat) (x : Int), Asks 0x0208 4 r s ∧ 12 < i) ∧
    (∃ (s : State) (q : BoundRecord) (rest : List BoundRecord), s.margin.signing = q :: rest) ∧
    (∃ (s : State), s.margin.evalTime ≠ 0 ∧ s.margin.horizon < now s ∧ s.margin.stale = false) ∧
    (∃ (s : State), s.margin.stale = true ∧ s.margin.horizon + 60 * secUnit ≤ now s) ∧
    (∃ (s : State), s.margin.stale = true ∧ s.margin.horizon + 60 * secUnit ≤ now s) ∧
    (∃ (s : State) (m : Fin 16) (r : Nat), s.margin.classes[m].waiting = some r ∧ matchRow s m = r) :=
  ⟨⟨hold (State.reset) 0x0208 (4), rq (4), (0 : Fin 13), 0, ⟨rfl, _, rfl⟩, by first | rfl | decide, by first | rfl | decide⟩,
   ⟨hold (State.reset) 0x0208 (4), rq (4), 13, 0, ⟨rfl, _, rfl⟩, by first | rfl | decide⟩,
   ⟨{ S0 with margin := { S0.margin with signing := ((bound0) :: ([])) } }, bound0, [], by first | rfl | decide⟩,
   ⟨{ S0 with margin := { S0.margin with stale := (false), evalTime := (1) }, clock := { S0.clock with form := (.counter), reg := (2^60) } }, by first | rfl | decide, by first | rfl | decide, by first | rfl | decide⟩,
   ⟨{ S0 with margin := { S0.margin with stale := (true) }, clock := { S0.clock with form := (.counter), reg := (2^80) } }, by first | rfl | decide, by first | rfl | decide⟩,
   ⟨{ S0 with margin := { S0.margin with stale := (true) }, clock := { S0.clock with form := (.counter), reg := (2^80) } }, by first | rfl | decide, by first | rfl | decide⟩,
   ⟨{ S0 with margin := { S0.margin with classes := upd (S0.margin.classes) (((0 : Fin 16))) (fun y0 => { y0 with waiting := (some (8)) }) } }, (0 : Fin 16), 8, by first | rfl | decide, by first | rfl | decide⟩⟩

theorem witness_RootDispersionRoundsTheBoundUp :
    ∃ (b : Nat), b < unbounded :=
  ⟨0, by first | rfl | decide⟩

theorem witness_SpeedModeChangesKeepTheLaunches :
    (∃ (s : State) (t : State) (r : Req) (n : Nat), exec (.speedMode r n) s = .next t) ∧
    (∃ (s : State) (t : State), exec .thermalGuard s = .next t) ∧
    (∃ (s : State) (t : State), exec .modeReservationsDrained s = .next t) ∧
    (∃ (s : State) (t : State), exec .supplySetPointReached s = .next t) ∧
    (∃ (s : State) (t : State), exec .paceWithinGoverningRatio s = .next t) ∧
    (∃ (s : State) (t : State), exec .governingWaitTimeout s = .next t) ∧
    (∃ (s : State) (c : ModeChange) (p : Path), s.power.change = some c) ∧
    (∃ (s : State) (c : ModeChange), s.power.change = some c) ∧
    (∃ (s : State) (r : Req) (n : Nat), Asks 0x0101 1 r s ∧ n ≤ 2 ∧ s.power.change ≠ none) :=
  ⟨⟨State.reset, State.reset, rq (0), 0, by first | rfl | decide⟩,
   ⟨State.reset, State.reset, by first | rfl | decide⟩,
   ⟨State.reset, State.reset, by first | rfl | decide⟩,
   ⟨State.reset, State.reset, by first | rfl | decide⟩,
   ⟨State.reset, State.reset, by first | rfl | decide⟩,
   ⟨State.reset, State.reset, by first | rfl | decide⟩,
   ⟨{ S0 with power := { S0.power with change := (some (⟨.quiet, .drain, false, none, 0⟩)) } }, ⟨.quiet, .drain, false, none, 0⟩, .nts, by first | rfl | decide⟩,
   ⟨{ S0 with power := { S0.power with change := (some (⟨.quiet, .drain, false, none, 0⟩)) } }, ⟨.quiet, .drain, false, none, 0⟩, by first | rfl | decide⟩,
   ⟨hold ({ S0 with power := { S0.power with change := (some ⟨.quiet, .drain, false, none, 0⟩) } }) 0x0101 (1), rq (1), 2, ⟨rfl, _, rfl⟩, by first | rfl | decide, by first | rfl | decide⟩⟩

theorem witness_PowerPaceAndTemperatureFollowTheirRules :
    (∃ (s : State) (r : Req) (p : Pend) (n : Nat) (m : SpeedMode), r.len = 1 ∧ ready 0x0101 r s = some p ∧ modeOf n = some m ∧ s.power.change = none ∧ s.power.regulatorDead = false ∧ m ≠ s.power.mode) ∧
    (∃ (s : State) (r : Req) (p : Pend) (n : Nat) (m : SpeedMode), r.len = 1 ∧ ready 0x0101 r s = some p ∧ modeOf n = some m ∧ s.power.change = none ∧ s.power.regulatorDead = false ∧ m = s.power.mode) ∧
    (∃ (s : State) (r : Req) (n : Nat), Asks 0x0101 1 r s ∧ n ≤ 2 ∧ s.power.change ≠ none) ∧
    (∃ (s : State) (r : Req) (n : Nat), Asks 0x0101 1 r s ∧ n ≤ 2 ∧ s.power.change = none ∧ s.power.regulatorDead = true) ∧
    (∃ (s : State) (r : Req) (n : Nat), Asks 0x0101 1 r s ∧ 2 < n) ∧
    (∃ (s : State) (c : ModeChange), s.power.change = some c ∧ c.stage = .drain ∧ oldReservation c s = false) ∧
    (∃ (s : State) (c : ModeChange), s.power.change = some c ∧ c.stage = .drain ∧ oldReservation c s = true) ∧
    (∃ (s : State) (c : ModeChange), s.power.change = some c ∧ c.stage = .rampUp) ∧
    (∃ (s : State) (c : ModeChange), s.power.change = some c ∧ c.stage = .rampDown) ∧
    (∃ (s : State) (c : ModeChange), s.power.change = some c ∧ c.stage = .governing ∧ governs c.target s = true) ∧
    (∃ (s : State) (c : ModeChange), s.power.change = some c ∧ c.stage = .governing) ∧
    (∃ (s : State), s.power.mode = .sprint ∧ s.power.change = none ∧ 103 * 128 ≤ s.power.junction ∧ s.power.regulatorDead = false) ∧
    (∃ (s : State), s.power.junction < 103 * 128) ∧
    (∃ (s : State) (l : List Int), l.length = 16) ∧
    (∃ (s : State), 115 * 128 ≤ s.power.junction ∧ s.power.inReset = false) ∧
    (∃ (s : State), s.power.junction < 115 * 128) ∧
    (∃ (s : State) (a : Nat) (b : Nat) (c : Nat) (d : Nat) (e : Nat), a < 65536 ∧ b < 65536 ∧ c < 65536 ∧ d < 65536 ∧ e < 65536) ∧
    (∃ (s : State) (p : Path), pathLeads s p = false ∧ floorOf (ruleMode s) < paceLead s p) ∧
    (∃ (s : State) (p : Path), pathLeads s p = true ∧ paceLead s p ≤ floorOf (ruleMode s)) ∧
    (∃ (s : State) (l : List Nat), l.length = 11 ∧ (∀ x ∈ l, x < 65536)) :=
  ⟨⟨hold ({ S0 with power := { S0.power with change := (none), regulatorDead := (false) } }) 0x0101 (1), rq (1), pd 0x0101 (1), 0, _, by first | rfl | decide, rfl, by first | rfl | decide, by first | rfl | decide, by first | rfl | decide, by first | rfl | decide⟩,
   ⟨hold ({ S0 with power := { S0.power with change := (none), regulatorDead := (false) } }) 0x0101 (1), rq (1), pd 0x0101 (1), 1, .balanced, by first | rfl | decide, rfl, by first | rfl | decide, by first | rfl | decide, by first | rfl | decide, by first | rfl | decide⟩,
   ⟨hold ({ S0 with power := { S0.power with change := (some ⟨.quiet, .drain, false, none, 0⟩) } }) 0x0101 (1), rq (1), 2, ⟨rfl, _, rfl⟩, by first | rfl | decide, by first | rfl | decide⟩,
   ⟨hold ({ S0 with power := { S0.power with change := (none), regulatorDead := (true) } }) 0x0101 (1), rq (1), 2, ⟨rfl, _, rfl⟩, by first | rfl | decide, by first | rfl | decide, by first | rfl | decide⟩,
   ⟨hold (State.reset) 0x0101 (1), rq (1), 3, ⟨rfl, _, rfl⟩, by first | rfl | decide⟩,
   ⟨{ S0 with power := { S0.power with change := (some (⟨.quiet, .drain, false, none, 0⟩)) } }, ⟨.quiet, .drain, false, none, 0⟩, by first | rfl | decide, by first | rfl | decide, by first | rfl | decide⟩,
   ⟨{ S0 with power := { S0.power with change := (some (⟨.quiet, .drain, false, none, 1⟩)) }, net := { S0.net with macs := upd (S0.net.macs) ((0 : Fin 16)) (fun y0 => { y0 with calendar := ([res0 0 0]) }) } }, ⟨.quiet, .drain, false, none, 1⟩, by first | rfl | decide, by first | rfl | decide, by first | rfl | decide⟩,
   ⟨{ S0 with power := { S0.power with change := (some (⟨.sprint, .rampUp, false, none, 0⟩)) } }, ⟨.sprint, .rampUp, false, none, 0⟩, by first | rfl | decide, by first | rfl | decide⟩,
   ⟨{ S0 with power := { S0.power with change := (some (⟨.quiet, .rampDown, false, none, 0⟩)) } }, ⟨.quiet, .rampDown, false, none, 0⟩, by first | rfl | decide, by first | rfl | decide⟩,
   ⟨{ S0 with power := { S0.power with change := (some (⟨.quiet, .governing, false, none, 0⟩)) } }, ⟨.quiet, .governing, false, none, 0⟩, (rfl), by decide, by decide⟩,
   ⟨{ S0 with power := { S0.power with change := (some (⟨.sprint, .governing, false, none, 0⟩)) } }, ⟨.sprint, .governing, false, none, 0⟩, by first | rfl | decide, by first | rfl | decide⟩,
   ⟨{ S0 with power := { S0.power with mode := (.sprint), change := (none), regulatorDead := (false), junction := (103*128) } }, by first | rfl | decide, by first | rfl | decide, by first | rfl | decide, by first | rfl | decide⟩,
   ⟨State.reset, by first | rfl | decide⟩,
   ⟨State.reset, (List.replicate 16 0), by first | rfl | decide⟩,
   ⟨{ S0 with power := { S0.power with inReset := (false), junction := (115*128) } }, by first | rfl | decide, by first | rfl | decide⟩,
   ⟨State.reset, by first | rfl | decide⟩,
   ⟨State.reset, 0, 0, 0, 0, 0, by first | rfl | decide, by first | rfl | decide, by first | rfl | decide, by first | rfl | decide, by first | rfl | decide⟩,
   ⟨{ S0 with power := { S0.power with mode := (.sprint) }, net := { S0.net with guardNs := (1000) } }, .nts, by first | rfl | decide, by first | rfl | decide⟩,
   ⟨{ S0 with power := { S0.power with leadNts := (true) } }, .nts, by first | rfl | decide, by first | rfl | decide⟩,
   ⟨State.reset, (List.replicate 11 65535), by first | rfl | decide, by first | rfl | decide⟩⟩

theorem witness_CounterAndRecordCommandsActAsTheirRulesSay :
    (∃ (s : State) (r : Req) (first : Nat) (count : Nat), Asks 0x0C04 6 r s ∧ (counterNumber s first).isSome = true ∧ (isTask r.src = false ∨ ∀ k, k < count → hiddenCounter s (first + k) = false)) ∧
    (∃ (s : State) (r : Req) (first : Nat) (count : Nat), Asks 0x0C04 6 r s ∧ counterNumber s first = none) ∧
    (∃ (s : State) (r : Req) (first : Nat) (count : Nat) (k : Nat), Asks 0x0C04 6 r s ∧ (counterNumber s first).isSome = true ∧ isTask r.src = true ∧ k < count ∧ hiddenCounter s (first + k) = true) ∧
    (∃ (s : State) (r : Req) (first : Nat) (count : Nat), Asks 0x0C06 4 r s ∧ 1 ≤ count ∧ count ≤ 511 ∧ first + count ≤ s.wear.ledger.length) ∧
    (∃ (s : State) (r : Req) (first : Nat) (count : Nat), Asks 0x0C06 4 r s ∧ 1 ≤ count ∧ count ≤ 511 ∧ s.wear.ledger.length < first + count) ∧
    (∃ (s : State) (r : Req) (first : Nat) (count : Nat), Asks 0x0C06 4 r s ∧ (count = 0 ∨ 511 < count)) ∧
    (∃ (s : State) (r : Req) (offset : Nat) (len : Nat), Asks 0x0C01 8 r s ∧ len ≤ 16376 ∧ offset + len ≤ 32752) ∧
    (∃ (s : State) (r : Req) (offset : Nat) (len : Nat), Asks 0x0C01 8 r s ∧ (16376 < len ∨ 32752 < offset + len)) ∧
    (∃ (s : State) (r : Req) (offset : Nat) (data : Bytes), Asks 0x0C02 (16 + data.length) r s ∧ 64 ≤ offset ∧ offset + data.length ≤ 32752 ∧ data.length ≤ 16368) ∧
    (∃ (s : State) (r : Req) (g : Nat) (offset : Nat) (data : Bytes), Asks 0x0C02 (16 + data.length) r s ∧ 64 ≤ offset ∧ offset + data.length ≤ 32752 ∧ data.length ≤ 16368 ∧ g ≠ s.wear.calGeneration) ∧
    (∃ (s : State) (r : Req) (g : Nat) (offset : Nat) (data : Bytes), Asks 0x0C02 (16 + data.length) r s ∧ (offset < 64 ∨ 32752 < offset + data.length ∨ 16368 < data.length)) ∧
    (∃ (s : State) (r : Req) (first : Nat) (count : Nat), Asks 0x0C07 4 r s ∧ 1 ≤ count ∧ count ≤ 511 ∧ first + count ≤ s.host.persistent.length) ∧
    (∃ (s : State) (r : Req) (first : Nat) (count : Nat), Asks 0x0C07 4 r s ∧ (count = 0 ∨ 511 < count)) :=
  ⟨⟨hold (State.reset) 0x0C04 (6), rq (6), 0x0D000000, 1, ⟨rfl, _, rfl⟩, by first | rfl | decide, (.inl rfl)⟩,
   ⟨hold (State.reset) 0x0C04 (6), rq (6), 0, 0, ⟨rfl, _, rfl⟩, by first | rfl | decide⟩,
   ⟨(taskHold 0x0C04 6), ⟨.task 0, 6⟩, 0x0D000000, 1, 0, ⟨rfl, _, rfl⟩, by first | rfl | decide, by first | rfl | decide, by first | rfl | decide, by first | rfl | decide⟩,
   ⟨hold ({ S0 with wear := { S0.wear with ledger := ([⟨0, 0, 0, 0, 0, 0, 0, 0, 0, 0, 0⟩]) } }) 0x0C06 (4), rq (4), 0, 1, ⟨rfl, _, rfl⟩, by first | rfl | decide, by first | rfl | decide, by first | rfl | decide⟩,
   ⟨hold (State.reset) 0x0C06 (4), rq (4), 0, 511, ⟨rfl, _, rfl⟩, by first | rfl | decide, by first | rfl | decide, by first | rfl | decide⟩,
   ⟨hold (State.reset) 0x0C06 (4), rq (4), 0, 0, ⟨rfl, _, rfl⟩, by first | rfl | decide⟩,
   ⟨hold (State.reset) 0x0C01 (8), rq (8), 0, 0, ⟨rfl, _, rfl⟩, by first | rfl | decide, by first | rfl | decide⟩,
   ⟨hold (State.reset) 0x0C01 (8), rq (8), 0, 16377, ⟨rfl, _, rfl⟩, by first | rfl | decide⟩,
   ⟨hold (State.reset) 0x0C02 ((16 + ((List.replicate 2 0)).length)), rq ((16 + ((List.replicate 2 0)).length)), 64, (List.replicate 2 0), ⟨rfl, _, rfl⟩, by first | rfl | decide, by first | rfl | decide, by first | rfl | decide⟩,
   ⟨hold (State.reset) 0x0C02 ((16 + ((List.replicate 2 0)).length)), rq ((16 + ((List.replicate 2 0)).length)), 0, 32750, (List.replicate 2 0), ⟨rfl, _, rfl⟩, by first | rfl | decide, by first | rfl | decide, by first | rfl | decide, by first | rfl | decide⟩,
   ⟨hold (State.reset) 0x0C02 ((16 + (([] : Bytes)).length)), rq ((16 + (([] : Bytes)).length)), 0, 63, ([] : Bytes), ⟨rfl, _, rfl⟩, by first | rfl | decide⟩,
   ⟨hold ({ S0 with host := { S0.host with persistent := ([ev0]) } }) 0x0C07 (4), rq (4), 0, 1, ⟨rfl, _, rfl⟩, by first | rfl | decide, by first | rfl | decide, by first | rfl | decide⟩,
   ⟨hold (State.reset) 0x0C07 (4), rq (4), 0, 0, ⟨rfl, _, rfl⟩, by first | rfl | decide⟩⟩

theorem witness_WearActsAsItsRulesSay :
    (∃ (s : State) (p : Nat) (b : Int × Nat), 0 < b.1 ∧ rdiv (p * 4096 * b.2) b.1.toNat < 65536) ∧
    (∃ (p : Nat) (w : Nat) (u : WearUnit), 150 * 4096 ≤ w * 100) ∧
    (∃ (p : Nat) (w : Nat) (u : WearUnit), w * 100 < 130 * 4096) ∧
    (∃ (s : State) (l : List Nat) (j : Int), l.length = monitored.length) ∧
    (∃ (s : State) (cls : Nat) (unit : Nat) (cause : Nat) (w : Nat) (p : Nat) (u : WearUnit), cls ≤ 3 ∧ unitAt s cls unit = some u ∧ u.state = .service ∧ spareUnit s cls = some p) ∧
    (∃ (s : State) (cls : Nat) (unit : Nat) (w : Nat) (u : WearUnit), cls ≠ 4 ∧ unitAt s cls unit = some u ∧ u.state = .service ∧ spareUnit s cls = none) ∧
    (∃ (s : State) (cls : Nat) (unit : Nat) (u : WearUnit), unitAt s cls unit = some u ∧ u.state ≠ .spare) ∧
    (∃ (s : State) (cls : Nat) (unit : Nat) (u : WearUnit), unitAt s cls unit = some u ∧ u.state = .spare) ∧
    (∃ (s : State) (cls : Nat) (unit : Nat) (u : WearUnit), cls ≤ 3 ∧ unitAt s cls unit = some u ∧ u.state = .worn ∧ holdsWork s cls unit = false) ∧
    (∃ (s : State) (cls : Nat) (unit : Nat), holdsWork s cls unit = true) ∧
    (∃ (s : State) (core : Nat) (p : Nat) (u : WearUnit), unitAt s 5 core = some u ∧ u.state = .worn ∧ spareUnit s 5 = some p) :=
  ⟨⟨State.reset, 0, (1, 1), by first | rfl | decide, by first | rfl | decide⟩,
   ⟨0, 6144, {}, by first | rfl | decide⟩,
   ⟨0, 5324, {}, by first | rfl | decide⟩,
   ⟨State.reset, (List.replicate 47 4096), 0, by first | rfl | decide⟩,
   ⟨State.reset, 1, 0, 0, 0, 24, {}, by first | rfl | decide, by first | rfl | decide, by first | rfl | decide, by first | rfl | decide⟩,
   ⟨{ S0 with wear := { S0.wear with siv := (Vector.replicate 26 {}) } }, 1, 0, 0, {}, by first | rfl | decide, by first | rfl | decide, by first | rfl | decide, by first | rfl | decide⟩,
   ⟨State.reset, 1, 0, {}, by first | rfl | decide, by first | rfl | decide⟩,
   ⟨State.reset, 1, 24, { state := .spare }, by first | rfl | decide, by first | rfl | decide⟩,
   ⟨{ S0 with wear := { S0.wear with siv := upd (S0.wear.siv) 0 (fun y0 => { y0 with state := (.worn) }) } }, 1, 0, { state := .worn }, by first | rfl | decide, by first | rfl | decide, by first | rfl | decide, by first | rfl | decide⟩,
   ⟨{ S0 with net := { S0.net with macs := upd (S0.net.macs) ((0 : Fin 16)) (fun y0 => { y0 with calendar := ([res0 0 0]) }) } }, 1, 0, by first | rfl | decide⟩,
   ⟨{ S0 with wear := { S0.wear with cores := upd (S0.wear.cores) 0 (fun y0 => { y0 with state := (.worn) }) } }, 0, 2, { state := .worn }, by first | rfl | decide, by first | rfl | decide, by first | rfl | decide⟩⟩

theorem witness_CountersAndMemoryErrorsFollowTheirRules :
    (∃ (s : State) (n : Fin 32), s.wear.filters[n].cfg.enable = 1 ∧ s.wear.filters[n].cfg.event ∉ modelCounted) ∧
    (∃ (s : State) (n : Fin 32), s.wear.filters[n].cfg.enable ≠ 1) ∧
    (∃ (s : State) (n : Fin 32), s.wear.filters[n].count + 1 < 2 ^ 48) ∧
    (∃ (s : State) (n : Fin 32), 2 ^ 48 ≤ s.wear.filters[n].count + 1) ∧
    (∃ (s : State) (n : Fin 32) (resume : Nat) (t : Fin 4), s.wear.filters[n].owed = true ∧ owningTask s = some t ∧ s.host.tasks[t].handler ≠ 0) ∧
    (∃ (s : State) (n : Fin 32) (resume : Nat) (t : Fin 4), s.wear.filters[n].owed = true ∧ owningTask s = some t ∧ s.host.tasks[t].handler = 0) ∧
    (∃ (s : State) (n : Fin 32) (resume : Nat), s.wear.filters[n].owed = false) ∧
    (∃ (s : State) (a : Fin 256) (row : Nat) (column : Nat) (cls : Nat) (unit : Nat), unitAt (countEcc 0x04 a s) cls unit = none) ∧
    (∃ (s : State) (a : Fin 256) (column : Bool) (line : Nat) (cause : Nat), sparesOf (arrayOf s a) column = 0) ∧
    (∃ (s : State) (a : Fin 256) (x : SramRepair), (arrayOf s a).repairs.find? (·.running) = some x ∧ x.column = false) ∧
    (∃ (s : State) (a : Fin 256), (arrayOf s a).repairs.find? (·.running) = none) :=
  ⟨⟨{ S0 with wear := { S0.wear with filters := upd (upd (S0.wear.filters) (((0 : Fin 32))) (fun y0 => { y0 with cfg := { y0.cfg with enable := (1) } })) 0 (fun y0 => { y0 with cfg := { y0.cfg with event := (1) } }) } }, (0 : Fin 32), by first | rfl | decide, by first | rfl | decide⟩,
   ⟨State.reset, (0 : Fin 32), by first | rfl | decide⟩,
   ⟨State.reset, (0 : Fin 32), by first | rfl | decide⟩,
   ⟨{ S0 with wear := { S0.wear with filters := upd (S0.wear.filters) ((0 : Fin 32)) (fun y0 => { y0 with count := (2^48-1) }) } }, (0 : Fin 32), by first | rfl | decide⟩,
   ⟨{ S0 with wear := { S0.wear with filters := upd (S0.wear.filters) (((0 : Fin 32))) (fun y0 => { y0 with owed := (true) }) }, host := { S0.host with tasks := upd (S0.host.tasks) 0 (fun y0 => { y0 with state := (.ready), handler := (4) }) } }, (0 : Fin 32), 0, (0 : Fin 4), by first | rfl | decide, by first | rfl | decide, by first | rfl | decide⟩,
   ⟨{ S0 with wear := { S0.wear with filters := upd (S0.wear.filters) (((0 : Fin 32))) (fun y0 => { y0 with owed := (true) }) }, host := { S0.host with tasks := upd (upd (S0.host.tasks) (((0 : Fin 4))) (fun y0 => { y0 with handler := (0) })) 0 (fun y0 => { y0 with state := (.ready) }) } }, (0 : Fin 32), 0, (0 : Fin 4), by first | rfl | decide, by first | rfl | decide, by first | rfl | decide⟩,
   ⟨{ S0 with wear := { S0.wear with filters := upd (S0.wear.filters) (((0 : Fin 32))) (fun y0 => { y0 with owed := (false) }) } }, (0 : Fin 32), 0, by first | rfl | decide⟩,
   ⟨State.reset, (0 : Fin 256), 0, 0, 0, 0, by first | rfl | decide⟩,
   ⟨{ S0 with wear := { S0.wear with arrays := ([(255, { repairs := List.replicate 8 ⟨false, 1, 2, 0, false⟩ })]) } }, (255 : Fin 256), false, 0, 0, by first | rfl | decide⟩,
   ⟨{ S0 with wear := { S0.wear with arrays := ([(0, { repairs := [⟨false, 1, 2, 0, true⟩] })]) } }, (0 : Fin 256), (⟨false, 1, 2, 0, true⟩), by first | rfl | decide, by first | rfl | decide⟩,
   ⟨State.reset, (0 : Fin 256), by first | rfl | decide⟩⟩

theorem witness_ApllsLockSlipAndLimitTheirOutputs :
    (∃ (s : State) (a : Fin 8), a.val ≠ 0 ∧ s.power.inReset = false ∧ s.synth.aplls[a].causeXo = false ∧ s.synth.aplls[a].state = .unlocked ∧ (∀ c, dpllOf s a = some c → s.ductus.dplls[c].state ≠ .frozen)) ∧
    (∃ (s : State) (a : Fin 8) (c : Fin 6), a.val ≠ 0 ∧ s.power.inReset = false ∧ s.synth.aplls[a].causeXo = false ∧ s.synth.aplls[a].state = .unlocked ∧ dpllOf s a = some c ∧ s.ductus.dplls[c].state = .frozen) ∧
    (∃ (s : State) (a : Fin 8), s.synth.aplls[a].state = .locked) ∧
    (∃ (s : State) (a : Fin 8), a.val ≠ 0 ∧ s.power.inReset = false ∧ s.synth.aplls[a].causeXo = false ∧ s.synth.aplls[a].state = .frozen ∧ s.synth.aplls[a].causeDpll = false) ∧
    (∃ (s : State), s.power.inReset = false ∧ s.synth.aplls[(0 : Fin 8)].causeXo = false ∧ s.synth.aplls[(0 : Fin 8)].state = .unlocked ∧ s.clock.form = .stopped ∧ s.clock.recovery = none) ∧
    (∃ (s : State) (a : Fin 8), s.synth.aplls[a].state = .locked ∧ a.val ≠ 0) ∧
    (∃ (s : State) (a : Fin 8), s.synth.aplls[a].state = .unlocked) ∧
    (∃ (s : State) (a : Fin 8), s.synth.aplls[a].state = .frozen ∧ s.synth.aplls[a].engaging = true ∧ s.synth.aplls[a].causeXo = false) ∧
    (∃ (s : State) (a : Fin 8), s.synth.aplls[a].engaging = false) ∧
    (∃ (s : State) (a : Fin 8) (e : Nat), analogHold s.synth.aplls[a] = true ∧ (excursionRef s).isSome = true ∧ s.synth.aplls[a].limited = false ∧ 10 * s.synth.aplls[a].cfg.ceiling ≤ e + 2) ∧
    (∃ (s : State) (a : Fin 8) (e : Nat), analogHold s.synth.aplls[a] = true ∧ (excursionRef s).isSome = true ∧ s.synth.aplls[a].limited = true ∧ 1 ≤ s.synth.aplls[a].cfg.ceiling ∧ e + 10 ≤ 10 * s.synth.aplls[a].cfg.ceiling) ∧
    (∃ (s : State) (a : Fin 8) (e : Nat), analogHold s.synth.aplls[a] = false) ∧
    (∃ (s : State) (k : Fin 16), s.synth.ckouts[k].state = .waitAlign ∧ s.synth.aplls[apllOf k].state ≠ .unlocked ∧ s.synth.aplls[apllOf k].limited = false ∧ (s.synth.ckouts[k].cfg.role = 0 ∨ counterForm s = true)) ∧
    (∃ (s : State) (k : Fin 16), (s.synth.ckouts[k].state ≠ .waitAlign ∨ s.synth.aplls[apllOf k].state = .unlocked ∨ s.synth.aplls[apllOf k].limited = true)) :=
  ⟨⟨{ S0 with power := { S0.power with inReset := (false) }, synth := { S0.synth with aplls := upd (S0.synth.aplls) (((7 : Fin 8))) (fun y0 => { y0 with causeXo := (false), state := (.unlocked) }) } }, (7 : Fin 8), by first | rfl | decide, by first | rfl | decide, by first | rfl | decide, by first | rfl | decide, by first | rfl | decide⟩,
   ⟨{ S0 with power := { S0.power with inReset := (false) }, synth := { S0.synth with aplls := upd (S0.synth.aplls) (((1 : Fin 8))) (fun y0 => { y0 with causeXo := (false), state := (.unlocked) }) }, ductus := { S0.ductus with dplls := upd (upd (S0.ductus.dplls) (((1 : Fin 6))) (fun y0 => { y0 with state := (.frozen) })) ((1 : Fin 6)) (fun y0 => { y0 with state := (.frozen) }) } }, (1 : Fin 8), (1 : Fin 6), by first | rfl | decide, by first | rfl | decide, by first | rfl | decide, by first | rfl | decide, by first | rfl | decide, by first | rfl | decide⟩,
   ⟨{ S0 with synth := { S0.synth with aplls := upd (S0.synth.aplls) (((0 : Fin 8))) (fun y0 => { y0 with state := (.locked) }) } }, (0 : Fin 8), by first | rfl | decide⟩,
   ⟨{ S0 with power := { S0.power with inReset := (false) }, synth := { S0.synth with aplls := upd (S0.synth.aplls) (((1 : Fin 8))) (fun y0 => { y0 with causeXo := (false), state := (.frozen), causeDpll := (false) }) } }, (1 : Fin 8), by first | rfl | decide, by first | rfl | decide, by first | rfl | decide, by first | rfl | decide, by first | rfl | decide⟩,
   ⟨{ S0 with power := { S0.power with inReset := (false) }, clock := { S0.clock with form := (.stopped), recovery := (none) } }, by first | rfl | decide, by first | rfl | decide, by first | rfl | decide, by first | rfl | decide, by first | rfl | decide⟩,
   ⟨{ S0 with synth := { S0.synth with aplls := upd (S0.synth.aplls) (((1 : Fin 8))) (fun y0 => { y0 with state := (.locked) }) } }, (1 : Fin 8), by first | rfl | decide, by first | rfl | decide⟩,
   ⟨{ S0 with synth := { S0.synth with aplls := upd (S0.synth.aplls) (((0 : Fin 8))) (fun y0 => { y0 with state := (.unlocked) }) } }, (0 : Fin 8), by first | rfl | decide⟩,
   ⟨{ S0 with synth := { S0.synth with aplls := upd (S0.synth.aplls) (((0 : Fin 8))) (fun y0 => { y0 with state := (.frozen), engaging := (true), causeXo := (false) }) } }, (0 : Fin 8), by first | rfl | decide, by first | rfl | decide, by first | rfl | decide⟩,
   ⟨{ S0 with synth := { S0.synth with aplls := upd (S0.synth.aplls) (((0 : Fin 8))) (fun y0 => { y0 with engaging := (false) }) } }, (0 : Fin 8), by first | rfl | decide⟩,
   ⟨{ S0 with synth := { S0.synth with aplls := upd (upd (S0.synth.aplls) (((0 : Fin 8))) (fun y0 => { y0 with limited := (false) })) ((0 : Fin 8)) (fun y0 => { y0 with state := (.frozen), causeXo := (true) }) }, refs := upd (S0.refs) ((0 : Fin 20)) (fun y0 => { y0 with state := (.qualified) }) }, (0 : Fin 8), 498, by first | rfl | decide, by first | rfl | decide, by first | rfl | decide, by first | rfl | decide⟩,
   ⟨{ S0 with synth := { S0.synth with aplls := upd (S0.synth.aplls) ((0 : Fin 8)) (fun y0 => { y0 with state := (.frozen), causeXo := (true), limited := (true) }) }, refs := upd (S0.refs) ((0 : Fin 20)) (fun y0 => { y0 with state := (.qualified) }) }, (0 : Fin 8), 490, by first | rfl | decide, by first | rfl | decide, by first | rfl | decide, by first | rfl | decide, by first | rfl | decide⟩,
   ⟨State.reset, (0 : Fin 8), 0, by first | rfl | decide⟩,
   ⟨{ S0 with synth := { S0.synth with ckouts := upd (S0.synth.ckouts) (((0 : Fin 16))) (fun y0 => { y0 with state := (.waitAlign) }), aplls := upd (S0.synth.aplls) ((0 : Fin 8)) (fun y0 => { y0 with state := (.locked) }) } }, (0 : Fin 16), by first | rfl | decide, by first | rfl | decide, by first | rfl | decide, by first | rfl | decide⟩,
   ⟨State.reset, (0 : Fin 16), by first | rfl | decide⟩⟩

theorem witness_OutputsRealignStepAndPulse :
    (∃ (s : State) (r : Req) (p : Pend) (c : Fin 6) (rate : Nat), r.len = 16 ∧ ready 0x0403 r s = some p ∧ 6554 ≤ rate ∧ rate ≤ 65536000 ∧ s.ductus.dplls[c].state = .tracking ∧ s.ductus.dplls[c].realign = none ∧ s.ductus.dplls[c].misalign = 0 ∧ (∀ k ∈ outputsOf s c 1, s.synth.ckouts[k].c = 0)) ∧
    (∃ (s : State) (r : Req) (p : Pend) (e : Fin 8) (rate : Nat), r.len = 16 ∧ ready 0x0403 r s = some p ∧ 6554 ≤ rate ∧ rate ≤ 65536000 ∧ s.synth.evouts[e].pending ≠ 0) ∧
    (∃ (s : State) (r : Req) (m : Nat) (e : Nat) (rate : Nat), Asks 0x0403 16 r s ∧ m < 64 ∧ 6554 ≤ rate ∧ rate ≤ 65536000 ∧ mayRealign s m = false) ∧
    (∃ (s : State) (m : Nat) (c : Fin 6), m / 2 ^ c.val % 2 = 1 ∧ (s.ductus.dplls[c].state = .frozen ∨ s.ductus.dplls[c].state = .off ∨ s.ductus.dplls[c].realign ≠ none)) ∧
    (∃ (s : State) (r : Req) (m : Nat) (e : Nat) (rate : Nat), Asks 0x0403 16 r s ∧ (rate < 6554 ∨ 65536000 < rate)) ∧
    (∃ (s : State) (c : Fin 6) (x : Realign), s.ductus.dplls[c].realign = some x ∧ x.stepping = false) ∧
    (∃ (s : State) (c : Fin 6), s.ductus.dplls[c].realign = none) ∧
    (∃ (s : State) (e : Fin 8) (d : Int), s.synth.evouts[e].stepBy = some d) ∧
    (∃ (s : State) (k : Fin 16) (d : Int), s.synth.ckouts[k].stepBy = some d) ∧
    (∃ (s : State) (e : Fin 8), counterForm s = true ∧ slotDue s.synth.evouts[e].oneShot s.synth.evouts[e].pending (now s) = true) ∧
    (∃ (s : State) (e : Fin 8), counterForm s = false) ∧
    (∃ (s : State) (r : Req) (p : Pend) (e : Fin 8) (n : Nat) (tol : Int) (c : Fin 24) (t : State), r.len = 16 ∧ ready 0x0406 r s = some p ∧ 16 ≤ n ∧ n ≤ 2 ^ 24 ∧ 0 ≤ tol ∧ takeChannel ownLoopback (0x20 + e.val) (0x20 + e.val) 0 s = some (c, t)) ∧
    (∃ (s : State) (r : Req) (e : Fin 8) (n : Nat) (tol : Int), Asks 0x0406 16 r s ∧ 16 ≤ n ∧ n ≤ 2 ^ 24 ∧ 0 ≤ tol ∧ takeChannel ownLoopback (0x20 + e.val) (0x20 + e.val) 0 s = none) ∧
    (∃ (s : State) (source : Nat) (k : Loopback) (mean : Int) (std : Int), s.synth.checks.find? (fun k => decide (k.source = source)) = some k) :=
  ⟨⟨hold ({ S0 with ductus := { S0.ductus with dplls := upd (S0.ductus.dplls) (((0 : Fin 6))) (fun y0 => { y0 with state := (.tracking), realign := (none), misalign := (0) }) } }) 0x0403 (16), rq (16), pd 0x0403 (16), (0 : Fin 6), 6554, by first | rfl | decide, rfl, by first | rfl | decide, by first | rfl | decide, by first | rfl | decide, by first | rfl | decide, by first | rfl | decide, by first | rfl | decide⟩,
   ⟨hold ({ S0 with synth := { S0.synth with evouts := upd (S0.synth.evouts) ((0 : Fin 8)) (fun y0 => { y0 with pending := (5) }) } }) 0x0403 (16), rq (16), pd 0x0403 (16), (0 : Fin 8), 65536000, by first | rfl | decide, rfl, by first | rfl | decide, by first | rfl | decide, by first | rfl | decide⟩,
   ⟨hold (State.reset) 0x0403 (16), rq (16), 63, 0, 6554, ⟨rfl, _, rfl⟩, by first | rfl | decide, by first | rfl | decide, by first | rfl | decide, by first | rfl | decide⟩,
   ⟨State.reset, 1, (0 : Fin 6), by first | rfl | decide, by first | rfl | decide⟩,
   ⟨hold (State.reset) 0x0403 (16), rq (16), 0, 0, 0, ⟨rfl, _, rfl⟩, by first | rfl | decide⟩,
   ⟨{ S0 with ductus := { S0.ductus with dplls := upd (S0.ductus.dplls) (((0 : Fin 6))) (fun y0 => { y0 with realign := (some (⟨65536, 100, 0, 0, false⟩)) }) } }, (0 : Fin 6), ⟨65536, 100, 0, 0, false⟩, by first | rfl | decide, by first | rfl | decide⟩,
   ⟨{ S0 with ductus := { S0.ductus with dplls := upd (S0.ductus.dplls) (((0 : Fin 6))) (fun y0 => { y0 with realign := (none) }) } }, (0 : Fin 6), by first | rfl | decide⟩,
   ⟨{ S0 with synth := { S0.synth with evouts := upd (S0.synth.evouts) (((0 : Fin 8))) (fun y0 => { y0 with stepBy := (some (0)) }) } }, (0 : Fin 8), 0, by first | rfl | decide⟩,
   ⟨{ S0 with synth := { S0.synth with ckouts := upd (S0.synth.ckouts) (((0 : Fin 16))) (fun y0 => { y0 with stepBy := (some (0)) }) } }, (0 : Fin 16), 0, by first | rfl | decide⟩,
   ⟨{ S0 with clock := { S0.clock with form := (.counter) }, synth := { S0.synth with evouts := upd (S0.synth.evouts) ((0 : Fin 8)) (fun y0 => { y0 with oneShot := { y0.oneShot with program := { y0.oneShot.program with enable := (1) } } }) } }, (0 : Fin 8), by first | rfl | decide, by first | rfl | decide⟩,
   ⟨State.reset, (0 : Fin 8), by first | rfl | decide⟩,
   ⟨hold (State.reset) 0x0406 (16), rq (16), pd 0x0406 (16), (0 : Fin 8), 16, 0, (1 : Fin 24), _, by first | rfl | decide, rfl, by first | rfl | decide, by first | rfl | decide, by first | rfl | decide, by first | rfl | decide⟩,
   ⟨hold ({ S0 with nib := (tab fun _ => { degraded := true }) }) 0x0406 (16), rq (16), (0 : Fin 8), (2^24), 0, ⟨rfl, _, rfl⟩, by first | rfl | decide, by first | rfl | decide, by first | rfl | decide, by first | rfl | decide⟩,
   ⟨{ S0 with synth := { S0.synth with checks := ([⟨0x20, 0, 5, .mailbox 0, 7⟩]) } }, 0x20, ⟨0x20, 0, 5, .mailbox 0, 7⟩, 0, 0, by first | rfl | decide⟩⟩

theorem witness_PortsFollowTheirLinkAndTables :
    (∃ (s : State) (r : Req) (mode : Nat), Asks 0x0501 1 r s ∧ mode ≤ 4 ∧ (∀ m : Fin 16, s.net.macs[m].state = .off)) ∧
    (∃ (s : State) (r : Req) (mode : Nat), Asks 0x0501 1 r s ∧ 4 < mode) ∧
    (∃ (s : State) (r : Req) (mode : Nat) (m : Fin 16), Asks 0x0501 1 r s ∧ mode ≤ 4 ∧ s.net.macs[m].state ≠ .off) ∧
    (∃ (s : State) (r : Req) (m : Fin 16) (l : List VlanEntry), Asks 0x0503 (8 + 4 * l.length) r s ∧ macIndex s m.val = some m ∧ l.length ≤ 64 ∧ (∀ e ∈ l, e.outer < 4096 ∧ e.inner.getD 0 < 4096)) ∧
    (∃ (s : State) (r : Req) (m : Nat) (l : List VlanEntry), Asks 0x0503 (8 + 4 * l.length) r s ∧ macIndex s m = none) ∧
    (∃ (s : State) (r : Req) (l : List SteerRule), Asks 0x0504 (8 + 16 * l.length) r s ∧ l.length ≤ 64 ∧ l.all steerOk = true) ∧
    (∃ (s : State) (r : Req) (l : List SteerRule), Asks 0x0504 (8 + 16 * l.length) r s ∧ (64 < l.length ∨ l.all steerOk = false)) ∧
    (∃ (s : State) (r : Req) (m : Fin 16), Asks 0x0510 1 r s ∧ macIndex s m.val = some m) ∧
    (∃ (s : State) (r : Req) (m : Nat), Asks 0x0510 1 r s ∧ macIndex s m = none) ∧
    (∃ (s : State) (m : Fin 16), s.net.macs[m].state = .down) ∧
    (∃ (s : State) (m : Fin 16), s.net.macs[m].state ≠ .down) ∧
    (∃ (s : State) (m : Fin 16) (reason : Nat), s.net.macs[m].state = .up ∧ reason ≤ 4) ∧
    (∃ (s : State) (m : Fin 16) (reason : Nat), s.net.macs[m].state ≠ .up) ∧
    (∃ (s : State) (m : Fin 16) (lane : Nat) (skew : Int), s.net.macs[m].state = .up ∧ 0 < lane ∧ lane < lanesOf s m ∧ (assoc s.net.macs[m].skew lane).getD 0 ≠ skew) :=
  ⟨⟨hold (State.reset) 0x0501 (1), rq (1), 0, ⟨rfl, _, rfl⟩, by first | rfl | decide, by first | rfl | decide⟩,
   ⟨hold (State.reset) 0x0501 (1), rq (1), 5, ⟨rfl, _, rfl⟩, by first | rfl | decide⟩,
   ⟨hold ({ S0 with net := { S0.net with macs := upd (S0.net.macs) ((15 : Fin 16)) (fun y0 => { y0 with state := (.down) }) } }) 0x0501 (1), rq (1), 4, (15 : Fin 16), ⟨rfl, _, rfl⟩, by first | rfl | decide, by first | rfl | decide⟩,
   ⟨hold (State.reset) 0x0503 ((8 + 4 * ([(⟨4095, some 4095⟩ : VlanEntry)]).length)), rq ((8 + 4 * ([(⟨4095, some 4095⟩ : VlanEntry)]).length)), (0 : Fin 16), [(⟨4095, some 4095⟩ : VlanEntry)], ⟨rfl, _, rfl⟩, by first | rfl | decide, by first | rfl | decide, (fun e h => by cases h with | head => decide | tail _ h => cases h)⟩,
   ⟨hold ({ S0 with net := { S0.net with portMode := (4) } }) 0x0503 ((8 + 4 * (([] : List VlanEntry)).length)), rq ((8 + 4 * (([] : List VlanEntry)).length)), 15, ([] : List VlanEntry), ⟨rfl, _, rfl⟩, by first | rfl | decide⟩,
   ⟨hold (State.reset) 0x0504 ((8 + 16 * (([] : List SteerRule)).length)), rq ((8 + 16 * (([] : List SteerRule)).length)), ([] : List SteerRule), ⟨rfl, _, rfl⟩, by first | rfl | decide, by first | rfl | decide⟩,
   ⟨hold (State.reset) 0x0504 ((8 + 16 * ((List.replicate 65 (⟨0, 0, 0, 0, 0, 0, 0⟩ : SteerRule))).length)), rq ((8 + 16 * ((List.replicate 65 (⟨0, 0, 0, 0, 0, 0, 0⟩ : SteerRule))).length)), (List.replicate 65 (⟨0, 0, 0, 0, 0, 0, 0⟩ : SteerRule)), ⟨rfl, _, rfl⟩, (.inl (by decide))⟩,
   ⟨hold (State.reset) 0x0510 (1), rq (1), (0 : Fin 16), ⟨rfl, _, rfl⟩, by first | rfl | decide⟩,
   ⟨hold (State.reset) 0x0510 (1), rq (1), 99, ⟨rfl, _, rfl⟩, by first | rfl | decide⟩,
   ⟨{ S0 with net := { S0.net with macs := upd (S0.net.macs) (((0 : Fin 16))) (fun y0 => { y0 with state := (.down) }) } }, (0 : Fin 16), by first | rfl | decide⟩,
   ⟨State.reset, (0 : Fin 16), by first | rfl | decide⟩,
   ⟨{ S0 with net := { S0.net with macs := upd (S0.net.macs) (((0 : Fin 16))) (fun y0 => { y0 with state := (.up) }) } }, (0 : Fin 16), 4, by first | rfl | decide, by first | rfl | decide⟩,
   ⟨State.reset, (0 : Fin 16), 0, by first | rfl | decide⟩,
   ⟨{ S0 with net := { S0.net with macs := upd (S0.net.macs) (((0 : Fin 16))) (fun y0 => { y0 with state := (.up) }), portMode := (4) } }, (0 : Fin 16), 1, (5 : Int), by first | rfl | decide, by first | rfl | decide, by first | rfl | decide, by first | rfl | decide⟩⟩

theorem witness_PauseFramesAndLpiFollowTheirRules :
    (∃ (s : State) (m : Fin 16) (p : PauseFrame), s.net.macs[m].state ≠ .up) ∧
    (∃ (s : State) (m : Fin 16) (p : PauseFrame), s.net.macs[m].state = .up ∧ p.pcsError = true) ∧
    (∃ (s : State) (m : Fin 16) (p : PauseFrame), s.net.macs[m].state = .up ∧ p.pcsError = false ∧ p.fcsOk = false) ∧
    (∃ (s : State) (m : Fin 16) (p : PauseFrame), s.net.macs[m].state = .up ∧ p.pcsError = false ∧ p.fcsOk = true ∧ 64 ≤ p.length ∧ p.length ≤ s.net.macs[m].cfg.maxFrame ∧ daOk s.net.macs[m].cfg p.da 0x8808 = true) ∧
    (∃ (s : State) (m : Fin 16) (p : PauseFrame), p.opcode ≠ 0x0001 ∧ p.opcode ≠ 0x0101) ∧
    (∃ (s : State) (m : Fin 16) (p : PauseFrame), (p.opcode = 0x0001 ∨ p.opcode = 0x0101) ∧ s.net.macs[m].cfg.pauseMode = 0) ∧
    (∃ (s : State) (m : Fin 16) (p : PauseFrame), p.opcode = 0x0001 ∧ s.net.macs[m].cfg.pauseMode = 1 ∧ p.da = pauseAddress ∧ s.net.macs[m].budgetOut = true) ∧
    (∃ (s : State) (m : Fin 16) (p : PauseFrame), p.opcode = 0x0001 ∧ s.net.macs[m].cfg.pauseMode = 1 ∧ p.da = pauseAddress ∧ s.net.macs[m].budgetOut = false) ∧
    (∃ (s : State) (m : Fin 16) (cls : Nat) (queues : Nat) (time : Nat), 0 < time) ∧
    (∃ (s : State) (m : Fin 16) (c : Fin 8), (∀ w ∈ s.net.macs[m].windows, w.cls = c.val → w.opened = true ∨ physNow s < w.opening)) ∧
    (∃ (s : State) (m : Fin 16) (c : Fin 8) (w : PauseWin), s.net.macs[m].windows = [w] ∧ w.cls = c.val ∧ w.opened = false ∧ w.opening ≤ physNow s ∧ s.net.macs[m].calendar = []) ∧
    (∃ (s : State) (m : Fin 16), s.net.macs[m].budgetOut = false ∧ s.net.macs[m].cfg.pauseBudget < 1000 ∧ 0 < pausedSoFar s m ∧ s.net.macs[m].cfg.pauseBudget * 1000000 * calNs ≤ pausedSoFar s m) ∧
    (∃ (s : State) (m : Fin 16), pausedSoFar s m < s.net.macs[m].cfg.pauseBudget * 1000000 * calNs) ∧
    (∃ (s : State) (m : Fin 16), s.net.macs[m].budgetOut = true ∧ s.net.macs[m].pausedSec ≠ nowSec s) ∧
    (∃ (s : State) (m : Fin 16), s.net.macs[m].pausedSec = nowSec s) ∧
    (∃ (s : State) (m : Fin 16), s.net.macs[m].state = .up ∧ s.net.macs[m].cfg.lpiTx = 1 ∧ s.net.macs[m].lpi = .active ∧ (∀ q : Fin 32, s.net.macs[m].queues[q].frames = []) ∧ (∀ q : Fin 32, s.net.macs[m].queues[q].emptyAt + s.net.macs[m].cfg.lpiIdle ≤ s.clock.ticks.toNat) ∧ s.net.macs[m].tx = none ∧ s.net.macs[m].calendar = [] ∧ gateOpensIn s.net.macs[m] (calNow s + (s.net.macs[m].cfg.twTx + s.net.macs[m].cfg.lpiIdle) * calNs) (gateFuel s.net.macs[m]) (calNow s) = false) ∧
    (∃ (s : State) (m : Fin 16), s.net.macs[m].cfg.lpiTx ≠ 1) ∧
    (∃ (s : State) (m : Fin 16), s.net.macs[m].lpi = .asleep) ∧
    (∃ (s : State) (m : Fin 16), s.net.macs[m].lpi ≠ .asleep) :=
  ⟨⟨State.reset, (0 : Fin 16), (pause0), by first | rfl | decide⟩,
   ⟨{ S0 with net := { S0.net with macs := upd (S0.net.macs) (((0 : Fin 16))) (fun y0 => { y0 with state := (.up) }) } }, (0 : Fin 16), { pause0 with pcsError := true }, by first | rfl | decide, by first | rfl | decide⟩,
   ⟨{ S0 with net := { S0.net with macs := upd (S0.net.macs) (((0 : Fin 16))) (fun y0 => { y0 with state := (.up) }) } }, (0 : Fin 16), { pause0 with fcsOk := false }, by first | rfl | decide, by first | rfl | decide, by first | rfl | decide⟩,
   ⟨{ S0 with net := { S0.net with macs := upd (S0.net.macs) (((0 : Fin 16))) (fun y0 => { y0 with state := (.up) }) } }, (0 : Fin 16), (pause0), by first | rfl | decide, by first | rfl | decide, by first | rfl | decide, by first | rfl | decide, by first | rfl | decide, by first | rfl | decide⟩,
   ⟨State.reset, (0 : Fin 16), { pause0 with opcode := 2 }, by first | rfl | decide, by first | rfl | decide⟩,
   ⟨{ S0 with net := { S0.net with macs := upd (S0.net.macs) (((0 : Fin 16))) (fun y0 => { y0 with cfg := { y0.cfg with pauseMode := (0) } }) } }, (0 : Fin 16), (pause0), by first | rfl | decide, by first | rfl | decide⟩,
   ⟨{ S0 with net := { S0.net with macs := upd (S0.net.macs) (((0 : Fin 16))) (fun y0 => { y0 with cfg := { y0.cfg with pauseMode := (1) }, budgetOut := (true) }) } }, (0 : Fin 16), (pause0), by first | rfl | decide, by first | rfl | decide, by first | rfl | decide, by first | rfl | decide⟩,
   ⟨{ S0 with net := { S0.net with macs := upd (S0.net.macs) (((0 : Fin 16))) (fun y0 => { y0 with cfg := { y0.cfg with pauseMode := (1) }, budgetOut := (false) }) } }, (0 : Fin 16), (pause0), by first | rfl | decide, by first | rfl | decide, by first | rfl | decide, by first | rfl | decide⟩,
   ⟨State.reset, (0 : Fin 16), 0, 0, 1, by first | rfl | decide⟩,
   ⟨State.reset, (0 : Fin 16), (0 : Fin 8), by first | rfl | decide⟩,
   ⟨{ S0 with net := { S0.net with macs := upd (S0.net.macs) (((0 : Fin 16))) (fun y0 => { y0 with windows := ([(⟨7, 1, 0, 5, false⟩)]), calendar := ([]) }) } }, (0 : Fin 16), (7 : Fin 8), ⟨7, 1, 0, 5, false⟩, by first | rfl | decide, by first | rfl | decide, by first | rfl | decide, by first | rfl | decide, by first | rfl | decide⟩,
   ⟨{ S0 with net := { S0.net with macs := upd (upd (S0.net.macs) (((0 : Fin 16))) (fun y0 => { y0 with budgetOut := (false) })) ((0 : Fin 16)) (fun y0 => { y0 with cfg := { y0.cfg with pauseBudget := (0) }, pausedFrom := (some 0) }) }, clock := { S0.clock with ticks := (5), form := (.counter), reg := (2^60) } }, (0 : Fin 16), by first | rfl | decide, by first | rfl | decide, by first | rfl | decide, by first | rfl | decide⟩,
   ⟨State.reset, (0 : Fin 16), by first | rfl | decide⟩,
   ⟨{ S0 with net := { S0.net with macs := upd (upd (S0.net.macs) (((0 : Fin 16))) (fun y0 => { y0 with budgetOut := (true) })) ((0 : Fin 16)) (fun y0 => { y0 with pausedSec := (1) }) } }, (0 : Fin 16), by first | rfl | decide, by first | rfl | decide⟩,
   ⟨S0, (0 : Fin 16), by first | rfl | decide⟩,
   ⟨{ S0 with net := { S0.net with macs := upd (upd (S0.net.macs) (((0 : Fin 16))) (fun y0 => { y0 with state := (.up), cfg := { y0.cfg with lpiTx := (1) }, lpi := (.active), tx := (none), calendar := ([]) })) ((0 : Fin 16)) (fun y0 => { y0 with cfg := { y0.cfg with lpiTx := (1) } }) }, clock := { S0.clock with ticks := (2^40) } }, (0 : Fin 16), by first | rfl | decide, by first | rfl | decide, by first | rfl | decide, (by decide), by first | rfl | decide, by first | rfl | decide, by first | rfl | decide, by first | rfl | decide⟩,
   ⟨State.reset, (0 : Fin 16), by first | rfl | decide⟩,
   ⟨{ S0 with net := { S0.net with macs := upd (S0.net.macs) (((0 : Fin 16))) (fun y0 => { y0 with lpi := (.asleep) }) } }, (0 : Fin 16), by first | rfl | decide⟩,
   ⟨State.reset, (0 : Fin 16), by first | rfl | decide⟩⟩

theorem witness_EgressActsAsItsRulesSay :
    (∃ (s : State) (r : Req) (m : Fin 16) (cycle : Nat) (base : ZT128) (l : List GateEntry), Asks 0x0507 (24 + 8 * l.length) r s ∧ macPresent s m = true ∧ 1000 ≤ cycle ∧ cycle ≤ 1000000000 ∧ l.length ≤ 1024 ∧ ztValid base = true ∧ l.all gateEntryOk = true) ∧
    (∃ (base : Nat) (cycle : Nat) (from_ : Nat), 0 < cycle) ∧
    (∃ (s : State) (m : Fin 16) (l : GateList) (ls : List GateList), s.net.macs[m].nextGates = l :: ls ∧ clockRuns s = true ∧ l.start * calZt ≤ calNow s) ∧
    (∃ (s : State) (m : Fin 16), s.net.macs[m].nextGates = []) ∧
    (∃ (s : State) (r : Req) (m : Fin 16), Asks 0x0511 1 r s ∧ macPresent s m = true) ∧
    (∃ (s : State) (r : Req) (m : Nat), Asks 0x0511 1 r s ∧ 16 ≤ m) ∧
    (∃ (s : State) (m : Fin 16) (id : Nat) (x : Reservation), findRes s m id = some x ∧ counterForm s = true ∧ x.t ≤ calNow s + 14 * calNs) ∧
    (∃ (s : State) (m : Fin 16) (id : Nat) (x : Reservation), findRes s m id = some x ∧ calNow s + 14 * calNs < x.t) ∧
    (∃ (s : State) (m : Fin 16) (x : Reservation) (after : Nat) (p : Bool), x.recommitted = true) ∧
    (∃ (s : State) (m : Fin 16) (id : Nat) (x : Reservation), findRes s m id = some x ∧ counterForm s = true ∧ s.net.macs[m].tx = none ∧ s.net.macs[m].state = .up ∧ x.start < calNow s + calNs ∧ pausedAt s s.net.macs[m] x.queue x.start = none) ∧
    (∃ (s : State) (m : Fin 16) (id : Nat), s.net.macs[m].tx ≠ none) ∧
    (∃ (s : State) (ring : Fin 64) (d : TxDesc) (m : Fin 16) (q : Fin 32), s.host.tx[ring].enabled = true ∧ s.host.tx[ring].held = none ∧ s.host.tx[ring].fetched ≠ s.host.tx[ring].tail % 2 ^ s.host.tx[ring].size ∧ hostReachable s = true ∧ descMac (takeDesc ring s) d = some m ∧ isTimed d = false ∧ s.host.tx[ring].useQueue = q.val) ∧
    (∃ (s : State) (ring : Fin 64) (d : TxDesc), s.host.tx[ring].enabled = true ∧ s.host.tx[ring].held = none ∧ s.host.tx[ring].fetched ≠ s.host.tx[ring].tail % 2 ^ s.host.tx[ring].size ∧ hostReachable s = true ∧ descMac (takeDesc ring s) d = none) ∧
    (∃ (s : State) (ring : Fin 64) (d : TxDesc), s.host.tx[ring].enabled = false) ∧
    (∃ (s : State) (ring : Fin 64) (i : Nat) (d : TxDesc) (m : Fin 16) (t : State), s.host.tx[ring].held = some (i, d) ∧ counterForm s = true ∧ descMac s d = some m ∧ reserveDesc ring i m d s = some t) ∧
    (∃ (s : State) (ring : Fin 64), s.host.tx[ring].held = none) ∧
    (∃ (s : State) (u : State) (m : Fin 16) (cls : Nat) (q : Fin 32) (f : QFrame) (fs : List QFrame), clockRuns s = true ∧ s.net.macs[m].state = .up ∧ s.net.macs[m].tx = none ∧ awake s m = true ∧ chooseFrame m (dropHeads m s) = some (cls, q, u) ∧ u.net.macs[m].queues[q].frames = f :: fs) ∧
    (∃ (s : State) (m : Fin 16), s.net.macs[m].state ≠ .up) ∧
    (∃ (s : State) (m : Fin 16) (q : Fin 32) (f : QFrame) (a : Nat) (l : Latched), s.net.macs[m].tx = some (.untimed q f a l)) ∧
    (∃ (s : State) (m : Fin 16) (x : Reservation) (l : Latched), s.net.macs[m].tx = some (.timed x l) ∧ isHost x.origin = true) ∧
    (∃ (s : State) (m : Fin 16), s.net.macs[m].tx = none) :=
  ⟨⟨hold (State.reset) 0x0507 ((24 + 8 * ([(⟨255, 1000000000⟩ : GateEntry)]).length)), rq ((24 + 8 * ([(⟨255, 1000000000⟩ : GateEntry)]).length)), (0 : Fin 16), 1000000000, {}, [(⟨255, 1000000000⟩ : GateEntry)], ⟨rfl, _, rfl⟩, by first | rfl | decide, by first | rfl | decide, by first | rfl | decide, by first | rfl | decide, by first | rfl | decide, by first | rfl | decide⟩,
   ⟨0, 1, 0, by first | rfl | decide⟩,
   ⟨{ S0 with net := { S0.net with macs := upd (S0.net.macs) (((0 : Fin 16))) (fun y0 => { y0 with nextGates := ((⟨0, 1000, []⟩) :: ([])) }) }, clock := { S0.clock with form := (.counter) } }, (0 : Fin 16), ⟨0, 1000, []⟩, [], by first | rfl | decide, by first | rfl | decide, by first | rfl | decide⟩,
   ⟨{ S0 with net := { S0.net with macs := upd (S0.net.macs) (((0 : Fin 16))) (fun y0 => { y0 with nextGates := ([]) }) } }, (0 : Fin 16), by first | rfl | decide⟩,
   ⟨hold (State.reset) 0x0511 (1), rq (1), (0 : Fin 16), ⟨rfl, _, rfl⟩, by first | rfl | decide⟩,
   ⟨hold (State.reset) 0x0511 (1), rq (1), 16, ⟨rfl, _, rfl⟩, by first | rfl | decide⟩,
   ⟨{ S0 with clock := { S0.clock with form := (.counter) }, net := { S0.net with macs := upd (S0.net.macs) ((0 : Fin 16)) (fun y0 => { y0 with calendar := ([res0 3 0]) }) } }, (0 : Fin 16), 3, res0 3 0, by first | rfl | decide, by first | rfl | decide, by first | rfl | decide⟩,
   ⟨{ S0 with net := { S0.net with macs := upd (S0.net.macs) ((0 : Fin 16)) (fun y0 => { y0 with calendar := ([res0 3 (2^100)]) }) } }, (0 : Fin 16), 3, res0 3 (2^100), by first | rfl | decide, by first | rfl | decide⟩,
   ⟨State.reset, (0 : Fin 16), { res0 3 0 with recommitted := true }, 0, false, by first | rfl | decide⟩,
   ⟨{ S0 with clock := { S0.clock with form := (.counter) }, net := { S0.net with macs := upd (upd (S0.net.macs) (((0 : Fin 16))) (fun y0 => { y0 with tx := (none), state := (.up) })) ((0 : Fin 16)) (fun y0 => { y0 with calendar := ([res0 3 0]) }) } }, (0 : Fin 16), 3, res0 3 0, by first | rfl | decide, by first | rfl | decide, by first | rfl | decide, by first | rfl | decide, by first | rfl | decide, by first | rfl | decide⟩,
   ⟨{ S0 with net := { S0.net with macs := upd (S0.net.macs) ((0 : Fin 16)) (fun y0 => { y0 with tx := (some (.timed (res0 3 0) ⟨1, 0, 0⟩)) }) } }, (0 : Fin 16), 0, by first | rfl | decide⟩,
   ⟨{ S0 with host := { S0.host with tx := upd (upd (S0.host.tx) (((0 : Fin 64))) (fun y0 => { y0 with enabled := (true), held := (none), useQueue := (((31 : Fin 32)).val) })) ((0 : Fin 64)) (fun y0 => { y0 with tail := (1), size := (6), useQueue := (31) }), linkUp := true }, net := { S0.net with macs := upd (S0.net.macs) ((0 : Fin 16)) (fun y0 => { y0 with state := (.up) }) } }, (0 : Fin 64), (desc0), (0 : Fin 16), (31 : Fin 32), by first | rfl | decide, by first | rfl | decide, by first | rfl | decide, by first | rfl | decide, by first | rfl | decide, by first | rfl | decide, by first | rfl | decide⟩,
   ⟨{ S0 with host := { S0.host with tx := upd (upd (S0.host.tx) (((0 : Fin 64))) (fun y0 => { y0 with enabled := (true), held := (none) })) ((0 : Fin 64)) (fun y0 => { y0 with tail := (1), size := (6) }), linkUp := true } }, (0 : Fin 64), { desc0 with mac := 99 }, by first | rfl | decide, by first | rfl | decide, by first | rfl | decide, by first | rfl | decide, by first | rfl | decide⟩,
   ⟨{ S0 with host := { S0.host with tx := upd (S0.host.tx) (((0 : Fin 64))) (fun y0 => { y0 with enabled := (false) }) } }, (0 : Fin 64), (desc0), by first | rfl | decide⟩,
   ⟨{ S0 with host := { S0.host with tx := upd (S0.host.tx) (((0 : Fin 64))) (fun y0 => { y0 with held := (some ((0), (desc0))) }) }, clock := { S0.clock with form := (.counter) }, net := { S0.net with macs := upd (S0.net.macs) ((0 : Fin 16)) (fun y0 => { y0 with state := (.up) }) } }, (0 : Fin 64), 0, desc0, (0 : Fin 16), ((reserveDesc 0 0 0 desc0 ({ S0 with host := { S0.host with tx := upd (S0.host.tx) (((0 : Fin 64))) (fun y0 => { y0 with held := (some ((0), (desc0))) }) }, clock := { S0.clock with form := (.counter) }, net := { S0.net with macs := upd (S0.net.macs) ((0 : Fin 16)) (fun y0 => { y0 with state := (.up) }) } })).get (by decide)), by first | rfl | decide, by first | rfl | decide, by first | rfl | decide, ((Option.some_get _).symm)⟩,
   ⟨{ S0 with host := { S0.host with tx := upd (S0.host.tx) (((0 : Fin 64))) (fun y0 => { y0 with held := (none) }) } }, (0 : Fin 64), by first | rfl | decide⟩,
   (let ⟨x, h, e⟩ := Option.map_eq_some_iff.mp (show (chooseFrame 0 (dropHeads 0 txS)).map (fun x => x.2.2.net.macs[(0 : Fin 16)].queues[x.2.1].frames) = some [⟨64, .ring 0 0, 0, {}, []⟩] by decide +kernel); ⟨txS, x.2.2, 0, x.1, x.2.1, _, _, by decide +kernel, by decide +kernel, by decide +kernel, by decide +kernel, h, e⟩),
   ⟨State.reset, (0 : Fin 16), by first | rfl | decide⟩,
   ⟨{ S0 with net := { S0.net with macs := upd (S0.net.macs) (((0 : Fin 16))) (fun y0 => { y0 with tx := (some (.untimed ((0 : Fin 32)) (⟨64, .ring 0 0, 0, {}, []⟩) (0) ((⟨1, 0, 0⟩)))) }) } }, (0 : Fin 16), (0 : Fin 32), ⟨64, .ring 0 0, 0, {}, []⟩, 0, (⟨1, 0, 0⟩), by first | rfl | decide⟩,
   ⟨{ S0 with net := { S0.net with macs := upd (S0.net.macs) (((0 : Fin 16))) (fun y0 => { y0 with tx := (some (.timed (res0 3 0) ((⟨1, 0, 0⟩)))) }) } }, (0 : Fin 16), res0 3 0, (⟨1, 0, 0⟩), by first | rfl | decide, by first | rfl | decide⟩,
   ⟨{ S0 with net := { S0.net with macs := upd (S0.net.macs) (((0 : Fin 16))) (fun y0 => { y0 with tx := (none) }) } }, (0 : Fin 16), by first | rfl | decide⟩⟩

theorem witness_AGrantedSlotMeetsNoOther :
    ∃ (s : State) (t : State) (a : Ask) (c : Nat), reserve a s = some (c, t) :=
  let ⟨x, h⟩ := some_of_isSome (show (reserve ask0 runS).isSome = true by decide +kernel); ⟨runS, x.2, ask0, x.1, h⟩

theorem witness_ReceivedFramesPassTheirChecksInOrder :
    (∃ (s : State) (f : Frame), s.net.macs[f.mac].state ≠ .up) ∧
    (∃ (s : State) (f : Frame), s.net.macs[f.mac].state = .up ∧ f.pcsError = true) ∧
    (∃ (s : State) (f : Frame), s.net.macs[f.mac].state = .up ∧ f.pcsError = false ∧ f.fcsOk = false) ∧
    (∃ (s : State) (f : Frame), s.net.macs[f.mac].state = .up ∧ f.pcsError = false ∧ f.fcsOk = true ∧ f.length < 64) ∧
    (∃ (s : State) (f : Frame), s.net.macs[f.mac].state = .up ∧ f.pcsError = false ∧ f.fcsOk = true ∧ 64 ≤ f.length ∧ s.net.macs[f.mac].cfg.maxFrame < f.length) ∧
    (∃ (s : State) (f : Frame), s.net.macs[f.mac].state = .up ∧ f.pcsError = false ∧ f.fcsOk = true ∧ 64 ≤ f.length ∧ f.length ≤ s.net.macs[f.mac].cfg.maxFrame ∧ daOk s.net.macs[f.mac].cfg f.da f.etherType = false) ∧
    (∃ (s : State) (f : Frame), s.net.macs[f.mac].state = .up ∧ f.pcsError = false ∧ f.fcsOk = true ∧ 64 ≤ f.length ∧ f.length ≤ s.net.macs[f.mac].cfg.maxFrame ∧ daOk s.net.macs[f.mac].cfg f.da f.etherType = true ∧ f.etherType ≠ 0x8808 ∧ 2 < (realTags f).length) ∧
    (∃ (s : State) (f : Frame), s.net.macs[f.mac].state = .up ∧ f.pcsError = false ∧ f.fcsOk = true ∧ 64 ≤ f.length ∧ f.length ≤ s.net.macs[f.mac].cfg.maxFrame ∧ daOk s.net.macs[f.mac].cfg f.da f.etherType = true ∧ f.etherType ≠ 0x8808 ∧ (realTags f).length ≤ 2 ∧ vlanEntry s.net.macs[f.mac] (realTags f) = none) ∧
    (∃ (s : State) (f : Frame) (entry : Nat), s.net.macs[f.mac].state = .up ∧ f.pcsError = false ∧ f.fcsOk = true ∧ 64 ≤ f.length ∧ f.length ≤ s.net.macs[f.mac].cfg.maxFrame ∧ daOk s.net.macs[f.mac].cfg f.da f.etherType = true ∧ f.etherType ≠ 0x8808 ∧ (realTags f).length ≤ 2 ∧ vlanEntry s.net.macs[f.mac] (realTags f) = some entry ∧ serviceOf s f entry = none) ∧
    (∃ (s : State) (f : Frame) (entry : Nat) (v : Service) (ip : IpHdr) (u : UdpHdr), s.net.macs[f.mac].state = .up ∧ f.pcsError = false ∧ f.fcsOk = true ∧ 64 ≤ f.length ∧ f.length ≤ s.net.macs[f.mac].cfg.maxFrame ∧ daOk s.net.macs[f.mac].cfg f.da f.etherType = true ∧ f.etherType ≠ 0x8808 ∧ (realTags f).length ≤ 2 ∧ vlanEntry s.net.macs[f.mac] (realTags f) = some entry ∧ serviceOf s f entry = some (v, ip, u)) ∧
    (∃ (s : State) (f : Frame) (entry : Nat), (∀ x ∈ s.net.steering, steerMatch f entry x = false)) ∧
    (∃ (s : State) (f : Frame) (entry : Nat) (k : Nat) (x : SteerRule), s.net.steering[k]? = some x ∧ steerMatch f entry x = true ∧ (∀ j, j < k → ∀ y, s.net.steering[j]? = some y → steerMatch f entry y = false)) ∧
    (∃ (s : State) (f : Frame) (entry : Nat) (ring : Nat) (rule : Nat) (r : Fin 64), hostBufferFull s f.length = false ∧ steer s f entry = (ring, rule)) ∧
    (∃ (s : State) (f : Frame), s.net.macs[f.mac].state = .up ∧ f.pcsError = false ∧ f.fcsOk = true ∧ 64 ≤ f.length ∧ f.length ≤ s.net.macs[f.mac].cfg.maxFrame ∧ daOk s.net.macs[f.mac].cfg f.da f.etherType = true ∧ f.etherType = 0x8808) :=
  ⟨⟨State.reset, (frame0), by first | rfl | decide⟩,
   ⟨{ S0 with net := { S0.net with macs := upd (S0.net.macs) (({ frame0 with pcsError := true }).mac) (fun y0 => { y0 with state := (.up) }) } }, { frame0 with pcsError := true }, by first | rfl | decide, by first | rfl | decide⟩,
   ⟨{ S0 with net := { S0.net with macs := upd (S0.net.macs) (({ frame0 with fcsOk := false }).mac) (fun y0 => { y0 with state := (.up) }) } }, { frame0 with fcsOk := false }, by first | rfl | decide, by first | rfl | decide, by first | rfl | decide⟩,
   ⟨{ S0 with net := { S0.net with macs := upd (S0.net.macs) (({ frame0 with length := 63 }).mac) (fun y0 => { y0 with state := (.up) }) } }, { frame0 with length := 63 }, by first | rfl | decide, by first | rfl | decide, by first | rfl | decide, by first | rfl | decide⟩,
   ⟨{ S0 with net := { S0.net with macs := upd (S0.net.macs) (({ frame0 with length := 2001 }).mac) (fun y0 => { y0 with state := (.up) }) } }, { frame0 with length := 2001 }, by first | rfl | decide, by first | rfl | decide, by first | rfl | decide, by first | rfl | decide, by first | rfl | decide⟩,
   ⟨{ S0 with net := { S0.net with macs := upd (S0.net.macs) (({ frame0 with da := 2 }).mac) (fun y0 => { y0 with state := (.up) }) } }, { frame0 with da := 2 }, by first | rfl | decide, by first | rfl | decide, by first | rfl | decide, by first | rfl | decide, by first | rfl | decide, by first | rfl | decide⟩,
   ⟨{ S0 with net := { S0.net with macs := upd (S0.net.macs) ((0 : Fin 16)) (fun y0 => { y0 with state := (.up) }) } }, { frame0 with tags := [(⟨0x8100, 1, 0, 0⟩ : Tag), ⟨0x8100, 1, 0, 0⟩, ⟨0x8100, 1, 0, 0⟩] }, by first | rfl | decide, by first | rfl | decide, by first | rfl | decide, by first | rfl | decide, by first | rfl | decide, by first | rfl | decide, by first | rfl | decide, by first | rfl | decide⟩,
   ⟨{ S0 with net := { S0.net with macs := upd (S0.net.macs) ((0 : Fin 16)) (fun y0 => { y0 with state := (.up) }) } }, { frame0 with tags := [(⟨0x8100, 1, 0, 0⟩ : Tag)] }, by first | rfl | decide, by first | rfl | decide, by first | rfl | decide, by first | rfl | decide, by first | rfl | decide, by first | rfl | decide, by first | rfl | decide, by first | rfl | decide, by first | rfl | decide⟩,
   ⟨{ S0 with net := { S0.net with macs := upd (S0.net.macs) (((frame0)).mac) (fun y0 => { y0 with state := (.up) }) } }, (frame0), 0xFF, by first | rfl | decide, by first | rfl | decide, by first | rfl | decide, by first | rfl | decide, by first | rfl | decide, by first | rfl | decide, by first | rfl | decide, by first | rfl | decide, by first | rfl | decide, by first | rfl | decide⟩,
   ⟨{ S0 with net := { S0.net with macs := upd (S0.net.macs) (({ ntpFrame0 with da := 2^48-1 }).mac) (fun y0 => { y0 with state := (.up) }), nts := { S0.net.nts with addresses := upd (S0.net.nts.addresses) ((0 : Fin 64)) (fun y0 => { y0 with cfg := { y0.cfg with enable := (1), address := (2) } }) } } }, { ntpFrame0 with da := 2^48-1 }, 0xFF, .nts 0, (ip0), udp0 123, by first | rfl | decide, by first | rfl | decide, by first | rfl | decide, by first | rfl | decide, by first | rfl | decide, by first | rfl | decide, by first | rfl | decide, by first | rfl | decide, by first | rfl | decide, by first | rfl | decide⟩,
   ⟨State.reset, (frame0), 0, by first | rfl | decide⟩,
   ⟨{ S0 with net := { S0.net with steering := ([⟨0xFFFF, 0, 0xFE, 0, 0, 0, 3⟩]) } }, (frame0), 0, 0, ⟨0xFFFF, 0, 0xFE, 0, 0, 0, 3⟩, by first | rfl | decide, by first | rfl | decide, by first | rfl | decide⟩,
   ⟨State.reset, (frame0), 0xFF, 0, 0xFF, (0 : Fin 64), by first | rfl | decide, by first | rfl | decide⟩,
   ⟨{ S0 with net := { S0.net with macs := upd (S0.net.macs) (({ frame0 with etherType := 0x8808 }).mac) (fun y0 => { y0 with state := (.up) }) } }, { frame0 with etherType := 0x8808 }, by first | rfl | decide, by first | rfl | decide, by first | rfl | decide, by first | rfl | decide, by first | rfl | decide, by first | rfl | decide, by first | rfl | decide⟩⟩

theorem witness_CookieKeysFollowTheirLife :
    (∃ (s : State) (r : Req) (p : Pend), r.len = 0 ∧ ready 0x0603 r s = some p ∧ serviceState s = true ∧ ownsRotation s = true ∧ hasPending s = true) ∧
    (∃ (s : State) (r : Req) (p : Pend), r.len = 0 ∧ ready 0x0603 r s = some p ∧ serviceState s = true ∧ ownsRotation s = true ∧ hasPending s = false ∧ s.keys.entropyFail = false) ∧
    (∃ (s : State) (r : Req), Asks 0x0603 0 r s ∧ serviceState s = false) ∧
    (∃ (s : State) (r : Req), Asks 0x0603 0 r s ∧ serviceState s = true ∧ ownsRotation s = false) ∧
    (∃ (s : State) (r : Req), Asks 0x0603 0 r s ∧ serviceState s = true ∧ ownsRotation s = true ∧ hasPending s = false ∧ s.keys.entropyFail = true) ∧
    (∃ (s : State) (r : Req) (id : Nat) (g : Fin 8), Asks 0x0604 4 r s ∧ ownsRotation s = true ∧ genOf s id = some g) ∧
    (∃ (s : State) (r : Req) (id : Nat), Asks 0x0604 4 r s ∧ ownsRotation s = true ∧ genOf s id = none) ∧
    (∃ (s : State) (r : Req) (p : Pend) (n : Nat), r.len = 2 ∧ ready 0x0605 r s = some p ∧ 1 ≤ n ∧ n ≤ 256 ∧ serviceState s = true ∧ s.net.nts.mint = none) ∧
    (∃ (s : State) (r : Req) (n : Nat), Asks 0x0605 2 r s ∧ (n = 0 ∨ 256 < n)) ∧
    (∃ (s : State) (r : Req) (n : Nat), Asks 0x0605 2 r s ∧ 1 ≤ n ∧ n ≤ 256 ∧ s.net.nts.mint ≠ none) ∧
    (∃ (s : State) (n : Nat) (q : Nat) (src : Source), s.net.nts.mint = some (n, src, q)) ∧
    (∃ (s : State), s.net.nts.mint = none) ∧
    (∃ (s : State) (r : Req) (a : Nat), Asks 0x0610 1 r s ∧ 64 ≤ a) ∧
    (∃ (s : State), s.host.supervisor = true ∧ counterForm s = false) ∧
    (∃ (s : State), s.host.supervisor = true ∧ counterForm s = true ∧ instantNow s ≠ nowSec s ∧ (ownsRotation s && serviceState s) = false) ∧
    (∃ (s : State) (t : State), s.host.supervisor = true ∧ counterForm s = true ∧ nowSec s < instantNow s ∧ t = modRotation (fun x => { x with instant := some (instantNow s) }) s ∧ ownsRotation t = true ∧ serviceState t = true ∧ hasPending t = false ∧ instantNow s ≤ nowSec s + t.net.nts.rotation.cfg.lead) ∧
    (∃ (s : State) (x : Activation) (g : Fin 8), s.net.nts.rotation.commit = some x ∧ s.host.supervisor = true ∧ counterForm s = true ∧ x.a ≤ now s ∧ genOf s x.keyId = some g ∧ genState s g = 1) ∧
    (∃ (s : State), s.net.nts.rotation.commit = none) ∧
    (∃ (s : State) (g : Fin 8), s.host.supervisor = true ∧ clockRuns s = true ∧ genState s g = 3 ∧ s.net.nts.gens[g].retireAt ≤ now s ∧ (∀ h, h ≠ g → genState s h = 3 → now s < s.net.nts.gens[h].retireAt)) ∧
    (∃ (s : State), (∀ h, genState s h = 3 → now s < s.net.nts.gens[h].retireAt)) :=
  ⟨⟨hold ({ S0 with keys := { S0.keys with ladder := true, roots := upd (S0.keys.roots) ((2 : Fin 3)) (fun y0 => { y0 with present := true }), life := 2 }, net := { S0.net with nts := { S0.net.nts with gens := upd (S0.net.nts.gens) ((0 : Fin 8)) (fun y0 => { y0 with state := 1 }) } } }) 0x0603 (0), rq (0), pd 0x0603 (0), by first | rfl | decide, rfl, by first | rfl | decide, by first | rfl | decide, by first | rfl | decide⟩,
   ⟨hold ({ S0 with keys := { S0.keys with ladder := true, roots := upd (S0.keys.roots) ((2 : Fin 3)) (fun y0 => { y0 with present := true }), life := 2, entropyFail := (false) } }) 0x0603 (0), rq (0), pd 0x0603 (0), by first | rfl | decide, rfl, by first | rfl | decide, by first | rfl | decide, by first | rfl | decide, by first | rfl | decide⟩,
   ⟨hold (State.reset) 0x0603 (0), rq (0), ⟨rfl, _, rfl⟩, by first | rfl | decide⟩,
   ⟨hold ({ S0 with keys := { S0.keys with ladder := true, roots := upd (S0.keys.roots) ((2 : Fin 3)) (fun y0 => { y0 with present := true }), life := 2 }, stack := { S0.stack with paired := (true), role := (2) } }) 0x0603 (0), rq (0), ⟨rfl, _, rfl⟩, by first | rfl | decide, by first | rfl | decide⟩,
   ⟨hold ({ S0 with keys := { S0.keys with ladder := true, roots := upd (S0.keys.roots) ((2 : Fin 3)) (fun y0 => { y0 with present := true }), life := 2, entropyFail := (true) } }) 0x0603 (0), rq (0), ⟨rfl, _, rfl⟩, by first | rfl | decide, by first | rfl | decide, by first | rfl | decide, by first | rfl | decide⟩,
   ⟨hold ({ S0 with net := { S0.net with nts := { S0.net.nts with gens := upd (S0.net.nts.gens) ((0 : Fin 8)) (fun y0 => { y0 with state := (2), keyId := (5) }) } } }) 0x0604 (4), rq (4), 5, (0 : Fin 8), ⟨rfl, _, rfl⟩, by first | rfl | decide, by first | rfl | decide⟩,
   ⟨hold (State.reset) 0x0604 (4), rq (4), 0, ⟨rfl, _, rfl⟩, by first | rfl | decide, by first | rfl | decide⟩,
   ⟨hold ({ S0 with keys := { S0.keys with ladder := true, roots := upd (S0.keys.roots) ((2 : Fin 3)) (fun y0 => { y0 with present := true }), life := 2 }, net := { S0.net with nts := { S0.net.nts with mint := (none) } } }) 0x0605 (2), rq (2), pd 0x0605 (2), 256, by first | rfl | decide, rfl, by first | rfl | decide, by first | rfl | decide, by first | rfl | decide, by first | rfl | decide⟩,
   ⟨hold (State.reset) 0x0605 (2), rq (2), 0, ⟨rfl, _, rfl⟩, by first | rfl | decide⟩,
   ⟨hold ({ S0 with net := { S0.net with nts := { S0.net.nts with mint := (some (1, .mailbox 1, 0)) } } }) 0x0605 (2), rq (2), 1, ⟨rfl, _, rfl⟩, by first | rfl | decide, by first | rfl | decide, by first | rfl | decide⟩,
   ⟨{ S0 with net := { S0.net with nts := { S0.net.nts with mint := (some ((0), (.mailbox 0), (0))) } } }, 0, 0, .mailbox 0, by first | rfl | decide⟩,
   ⟨{ S0 with net := { S0.net with nts := { S0.net.nts with mint := (none) } } }, by first | rfl | decide⟩,
   ⟨hold (State.reset) 0x0610 (1), rq (1), 64, ⟨rfl, _, rfl⟩, by first | rfl | decide⟩,
   ⟨{ S0 with host := { S0.host with supervisor := (true) } }, by first | rfl | decide, by first | rfl | decide⟩,
   ⟨{ S0 with host := { S0.host with supervisor := (true) }, clock := { S0.clock with form := .counter }, net := { S0.net with nts := { S0.net.nts with rotation := { S0.net.nts.rotation with cfg := { S0.net.nts.rotation.cfg with phase := (5) } } } } }, by first | rfl | decide, by first | rfl | decide, by first | rfl | decide, by first | rfl | decide⟩,
   ⟨{ S0 with host := { S0.host with supervisor := (true) }, clock := { S0.clock with form := .counter }, keys := { S0.keys with life := (2), ladder := (true), roots := upd (S0.keys.roots) ((2 : Fin 3)) (fun y0 => { y0 with present := (true) }) }, net := { S0.net with nts := { S0.net.nts with rotation := { S0.net.nts.rotation with cfg := { S0.net.nts.rotation.cfg with phase := (5) } } } } }, _, by first | rfl | decide, by first | rfl | decide, by first | rfl | decide, by first | rfl | decide, by first | rfl | decide, by first | rfl | decide, by first | rfl | decide, by first | rfl | decide⟩,
   ⟨{ S0 with net := { S0.net with nts := { S0.net.nts with rotation := { S0.net.nts.rotation with commit := (some (⟨5, 4, 0, 0⟩)) }, gens := upd (S0.net.nts.gens) ((0 : Fin 8)) (fun y0 => { y0 with state := (1), keyId := (5) }) } }, host := { S0.host with supervisor := (true) }, clock := { S0.clock with form := .counter } }, ⟨5, 4, 0, 0⟩, (0 : Fin 8), by first | rfl | decide, by first | rfl | decide, by first | rfl | decide, by first | rfl | decide, by first | rfl | decide, by first | rfl | decide⟩,
   ⟨{ S0 with net := { S0.net with nts := { S0.net.nts with rotation := { S0.net.nts.rotation with commit := (none) } } } }, by first | rfl | decide⟩,
   ⟨{ S0 with host := { S0.host with supervisor := (true) }, clock := { S0.clock with form := .counter }, net := { S0.net with nts := { S0.net.nts with gens := upd (S0.net.nts.gens) ((0 : Fin 8)) (fun y0 => { y0 with state := (3), keyId := (5) }) } } }, (0 : Fin 8), by first | rfl | decide, by first | rfl | decide, by first | rfl | decide, by first | rfl | decide, (by decide)⟩,
   ⟨State.reset, by first | rfl | decide⟩⟩

theorem witness_NtsTransactionsAnswerTheFirstRequest :
    (∃ (s : State) (e : Fin 26), s.net.nts.requests = []) ∧
    (∃ (s : State) (e : Fin 26), s.wear.siv[e].state ≠ .service) ∧
    (∃ (s : State) (t : State) (e : Fin 26) (q : NtsRequest) (rest : List NtsRequest) (m : NtpMsg), s.net.nts.requests = q :: rest ∧ s.wear.siv[e].state = .service ∧ q.frame.payload = .ntp m ∧ ntsAnswerTo e.val q m (judgeAlarm q.frame.mac (s.modNts fun n => { n with requests := rest })) = some t) ∧
    (∃ (s : State) (e : Fin 26) (q : NtsRequest) (rest : List NtsRequest) (m : NtpMsg), s.net.nts.requests = q :: rest ∧ s.wear.siv[e].state = .service ∧ q.frame.payload = .ntp m ∧ ntsAnswerTo e.val q m (judgeAlarm q.frame.mac (s.modNts fun n => { n with requests := rest })) = none) ∧
    (∃ (s : State) (e : Nat) (q : NtsRequest) (m : NtpMsg), q.plain = true) ∧
    (∃ (s : State) (e : Nat) (q : NtsRequest) (m : NtpMsg), q.plain = false ∧ (cookieOf m).length ≠ 104) ∧
    (∃ (s : State) (e : Nat) (q : NtsRequest) (m : NtpMsg), q.plain = false ∧ (cookieOf m).length = 104 ∧ genOf s (ofLe ((cookieOf m).take 4).reverse) = none) ∧
    (∃ (s : State) (i : Fin 64) (f : Frame) (ip : IpHdr) (port : Nat) (m : NtpMsg) (stamp : Nat), counterForm s = false) ∧
    (∃ (s : State) (i : Fin 64) (f : Frame) (ip : IpHdr) (m : NtpMsg) (stamp : Nat), counterForm s = true ∧ s.clock.leap.unset = false ∧ serviceState s = true) ∧
    (∃ (cfg : NtsCfg) (m : NtpMsg), (m.length < 48 ∨ m.length % 4 ≠ 0)) ∧
    (∃ (cfg : NtsCfg) (m : NtpMsg), 48 ≤ m.length ∧ m.length % 4 = 0 ∧ m.version ≠ 4) ∧
    (∃ (cfg : NtsCfg) (m : NtpMsg), 48 ≤ m.length ∧ m.length % 4 = 0 ∧ m.version = 4 ∧ m.mode ≠ 3) :=
  ⟨⟨{ S0 with net := { S0.net with nts := { S0.net.nts with requests := ([]) } } }, (0 : Fin 26), by first | rfl | decide⟩,
   ⟨{ S0 with wear := { S0.wear with siv := upd (S0.wear.siv) 0 (fun y0 => { y0 with state := (.worn) }) } }, (0 : Fin 26), by first | rfl | decide⟩,
   (let ⟨t, h⟩ := some_of_isSome (show (ntsAnswerTo 0 (nreq0) ntp0 (judgeAlarm 0 ((ntsS (nreq0)).modNts fun n => { n with requests := [] }))).isSome = true by decide +kernel); ⟨ntsS nreq0, t, 0, nreq0, [], ntp0, rfl, by decide, rfl, h⟩),
   ⟨ntsS ({ nreq0 with stamp := 2 ^ 90 }), 0, { nreq0 with stamp := 2 ^ 90 }, [], ntp0, rfl, by decide, rfl, Option.isNone_iff_eq_none.mp (show (ntsAnswerTo 0 ({ nreq0 with stamp := 2 ^ 90 }) ntp0 (judgeAlarm 0 ((ntsS ({ nreq0 with stamp := 2 ^ 90 })).modNts fun n => { n with requests := [] }))).isNone = true by decide +kernel)⟩,
   ⟨State.reset, 0, (nreq0), (ntp0), by first | rfl | decide⟩,
   ⟨State.reset, 0, { nreq0 with plain := false }, (ntp0), by first | rfl | decide, by first | rfl | decide⟩,
   ⟨State.reset, 0, { nreq0 with plain := false }, { ntp0 with fields := [.cookie 108 (List.replicate 104 0)] }, by first | rfl | decide, by first | rfl | decide, by first | rfl | decide⟩,
   ⟨State.reset, (0 : Fin 64), (frame0), (ip0), 0, (ntp0), 0, by first | rfl | decide⟩,
   ⟨{ S0 with clock := { S0.clock with form := .counter, leap := { S0.clock.leap with unset := (false) } }, keys := { S0.keys with ladder := true, roots := upd (S0.keys.roots) ((2 : Fin 3)) (fun y0 => { y0 with present := true }), life := 2 } }, (0 : Fin 64), (frame0), (ip0), (ntp0), 0, by first | rfl | decide, by first | rfl | decide, by first | rfl | decide⟩,
   ⟨{}, { ntp0 with length := 47 }, by first | rfl | decide⟩,
   ⟨{}, { ntp0 with version := 3 }, by first | rfl | decide, by first | rfl | decide, by first | rfl | decide⟩,
   ⟨{}, { ntp0 with mode := 4 }, by first | rfl | decide, by first | rfl | decide, by first | rfl | decide, by first | rfl | decide⟩⟩

theorem witness_PtpSessionsAndMessagesFollowTheirRules :
    (∃ (s : State) (r : Req) (first : Nat) (count : Nat), Asks 0x0703 6 r s ∧ 1 ≤ count ∧ count ≤ 255 ∧ first + count ≤ 262144) ∧
    (∃ (s : State) (r : Req) (first : Nat) (count : Nat), Asks 0x0703 6 r s ∧ (count = 0 ∨ 255 < count ∨ 262144 < first + count)) ∧
    (∃ (s : State) (r : Req) (a : Nat), Asks 0x0710 1 r s ∧ 16 ≤ a) ∧
    (∃ (s : State), s.net.ptp.negotiation = []) ∧
    (∃ (s : State) (q : NegItem) (rest : List NegItem), s.net.ptp.negotiation = q :: rest ∧ s.host.supervisor = true ∧ ptpServes (s.modPtp fun p => { p with negotiation := rest }) q.address = false) ∧
    (∃ (s : State) (u : State) (v : State) (q : NegItem) (rest : List NegItem) (m : PtpMsg) (ip : IpHdr) (udp : UdpHdr) (ty : Nat) (log : Int) (d : Nat) (tlv : SignalTlv) (x : NegCtx), s.net.ptp.negotiation = q :: rest ∧ s.host.supervisor = true ∧ ptpServes (s.modPtp fun p => { p with negotiation := rest }) q.address = true ∧ q.frame.payload = .ptp m ∧ q.frame.ip = some ip ∧ q.frame.udp = some udp ∧ m.neg = [.request ty log d] ∧ verifyIcv q.address q.address.val m (s.modPtp fun p => { p with negotiation := rest }) = (true, u) ∧ x = ⟨q.address, q.frame, ip, udp.srcPort, m, saOf (countUnknown q.address m u) q.address q.address.val m⟩ ∧ settleRequest x ty log d (countUnknown q.address m u) = (some tlv, v)) ∧
    (∃ (x : NegCtx) (ty : Nat) (log : Int) (d : Nat) (s : State), ty ∉ grantTypes) ∧
    (∃ (s : State), s.host.supervisor = true ∧ clockRuns s = true) ∧
    (∃ (s : State), s.host.supervisor = false) ∧
    (∃ (s : State) (n : Nat) (x : Session), (∀ t ∈ grantTypes, expired s (grantOf x t).2 = false)) ∧
    (∃ (s : State) (i : Fin 16) (n : Nat) (x : Session), s.net.ptp.sessions = [(n, x)] ∧ x.service = i.val ∧ x.state = 2) ∧
    (∃ (s : State) (i : Fin 16), (∀ x ∈ s.net.ptp.sessions, x.2.service ≠ i.val ∨ x.2.state ≠ 2)) ∧
    (∃ (s : State) (t : State) (e : Nat) (q : PtpRequest) (rest : List PtpRequest) (m : PtpMsg), e ∈ ptpEngines s none ∧ takeRequest (fun q => decide (e ∈ ptpEngines s (requestAlg s q))) s.net.ptp.requests = some (q, rest) ∧ q.frame.payload = .ptp m ∧ ptpAnswer e q m (s.modPtp fun p => { p with requests := rest }) = some t) ∧
    (∃ (s : State) (e : Nat), e ∉ ptpEngines s none) ∧
    (∃ (s : State) (n : Nat) (ty : Nat) (x : Session), (ty = 0 ∨ ty = 0xB) ∧ sessionAt s n = some x ∧ hasGrant x ty = true) ∧
    (∃ (s : State) (n : Nat) (ty : Nat) (x : Session), sessionAt s n = some x ∧ hasGrant x ty = false) ∧
    (∃ (s : State) (n : Nat) (ty : Nat) (x : Session) (i : Fin 16), x.service = i.val ∧ s.net.ptp.addresses[i].standby = true) :=
  ⟨⟨hold (State.reset) 0x0703 (6), rq (6), 262143, 1, ⟨rfl, _, rfl⟩, by first | rfl | decide, by first | rfl | decide, by first | rfl | decide⟩,
   ⟨hold (State.reset) 0x0703 (6), rq (6), 0, 0, ⟨rfl, _, rfl⟩, by first | rfl | decide⟩,
   ⟨hold (State.reset) 0x0710 (1), rq (1), 16, ⟨rfl, _, rfl⟩, by first | rfl | decide⟩,
   ⟨{ S0 with net := { S0.net with ptp := { S0.net.ptp with negotiation := ([]) } } }, by first | rfl | decide⟩,
   ⟨{ S0 with net := { S0.net with ptp := { S0.net.ptp with negotiation := ((⟨0, frame0⟩) :: ([])) } }, host := { S0.host with supervisor := (true) } }, ⟨0, frame0⟩, [], by first | rfl | decide, by first | rfl | decide, by first | rfl | decide⟩,
   (let ⟨t, h⟩ := some_of_isSome (show negR.1.isSome = true by decide +kernel); ⟨negS, negU, negR.2, negQ, [], negMsg, ip0, udp0 319, 2, 0, 300, t, negX, rfl, rfl, by decide, rfl, rfl, rfl, rfl, rfl, rfl, Prod.ext h rfl⟩),
   ⟨(ctx0), 1, 0, 0, State.reset, by first | rfl | decide⟩,
   ⟨{ S0 with host := { S0.host with supervisor := (true) }, clock := { S0.clock with form := .counter } }, by first | rfl | decide, by first | rfl | decide⟩,
   ⟨{ S0 with host := { S0.host with supervisor := (false) } }, by first | rfl | decide⟩,
   ⟨State.reset, 0, {}, by first | rfl | decide⟩,
   ⟨{ S0 with net := { S0.net with ptp := { S0.net.ptp with sessions := ([((0), ({ state := 2 }))]) } } }, (0 : Fin 16), 0, { state := 2 }, by first | rfl | decide, by first | rfl | decide, by first | rfl | decide⟩,
   ⟨State.reset, (0 : Fin 16), by first | rfl | decide⟩,
   (let ⟨t, h⟩ := some_of_isSome (show (ptpAnswer 32 ⟨0, ptpFrame0 1, 5⟩ (ptp0 1) (ptpS.modPtp fun p => { p with requests := [] })).isSome = true by decide +kernel); ⟨ptpS, t, 32, ⟨0, ptpFrame0 1, 5⟩, [], ptp0 1, by decide, by decide, rfl, h⟩),
   ⟨State.reset, 0, by first | rfl | decide⟩,
   ⟨{ S0 with net := { S0.net with ptp := { S0.net.ptp with sessions := ([(0, { syncExpiry := 5 })]) } } }, 0, 0, { syncExpiry := 5 }, by first | rfl | decide, by first | rfl | decide, by first | rfl | decide⟩,
   ⟨{ S0 with net := { S0.net with ptp := { S0.net.ptp with sessions := ([(0, {})]) } } }, 0, 0, {}, by first | rfl | decide, by first | rfl | decide⟩,
   ⟨{ S0 with net := { S0.net with ptp := { S0.net.ptp with addresses := upd (S0.net.ptp.addresses) (((0 : Fin 16))) (fun y0 => { y0 with standby := (true) }) } } }, 0, 0, {}, (0 : Fin 16), by first | rfl | decide, by first | rfl | decide⟩⟩

theorem witness_SaKeysAndTheClientRoleFollowTheirRules :
    (∃ (s : State) (r : Req) (sa : Nat) (which : Nat) (id : Nat) (h : Nat), Asks 0x0705 12 r s ∧ sa < 2048 ∧ which ≤ 1 ∧ serviceState s = true ∧ h ≠ 0 ∧ handleOk s h = true) ∧
    (∃ (s : State) (r : Req) (sa : Nat) (which : Nat) (id : Nat), Asks 0x0705 12 r s ∧ sa < 2048 ∧ which ≤ 1 ∧ serviceState s = true) ∧
    (∃ (s : State) (r : Req) (sa : Nat) (which : Nat) (id : Nat) (h : Nat), Asks 0x0705 12 r s ∧ sa < 2048 ∧ which ≤ 1 ∧ serviceState s = false) ∧
    (∃ (s : State) (r : Req) (sa : Nat) (which : Nat) (id : Nat) (h : Nat), Asks 0x0705 12 r s ∧ (2048 ≤ sa ∨ 1 < which)) ∧
    (∃ (s : State) (r : Req) (sa : Nat), Asks 0x0706 2 r s ∧ sa < 2048 ∧ serviceState s = true) ∧
    (∃ (s : State) (r : Req) (sa : Nat), Asks 0x0706 2 r s ∧ 2048 ≤ sa) ∧
    (∃ (s : State) (m : ClientMsg), m ∉ s.net.ptp.inbox) ∧
    (∃ (s : State) (u : State) (m : ClientMsg), m ∈ s.net.ptp.inbox ∧ m.msg.msgType = 0 ∧ verifyIcv (entryAddr (s.modPtp fun p => { p with inbox := p.inbox.erase m }) m.entry) (16 + m.entry.val) m.msg (s.modPtp fun p => { p with inbox := p.inbox.erase m }) = (true, u)) ∧
    (∃ (s : State) (u : State) (m : ClientMsg), m ∈ s.net.ptp.inbox ∧ m.msg.msgType = 9 ∧ verifyIcv (entryAddr (s.modPtp fun p => { p with inbox := p.inbox.erase m }) m.entry) (16 + m.entry.val) m.msg (s.modPtp fun p => { p with inbox := p.inbox.erase m }) = (true, u)) ∧
    (∃ (s : State) (e : Fin 16) (ty : Nat), s.net.ptp.entries[e].cfg.enable ≠ 1) ∧
    (∃ (s : State) (e : Fin 16), s.host.supervisor = true ∧ s.net.ptp.entries[e].cfg.enable = 1 ∧ s.net.ptp.entries[e].denied = false ∧ 4 * (s.net.ptp.entries[e].annGrant - nowSec s) ≤ s.net.ptp.entries[e].annDur) ∧
    (∃ (s : State) (e : Fin 16) (u : Fin 4), s.host.supervisor = true ∧ s.net.ptp.entries[e].cfg.enable = 1 ∧ s.net.ptp.entries[e].denied = true ∧ s.net.ptp.entries[e].ptpu = some u ∧ s.net.ptp.entries[e].annGrant ≤ nowSec s) ∧
    (∃ (s : State) (e : Fin 16) (h : HeldSync), s.net.ptp.entries[e].syncs.reverse.find? (fun h => h.t1.isNone) = some h) ∧
    (∃ (s : State) (e : Fin 16), s.net.ptp.entries[e].syncs = []) ∧
    (∃ (s : State) (e : Fin 16), s.net.ptp.entries[e].announce = none) ∧
    (∃ (s : State) (e : Fin 16), s.net.ptp.entries[e].announce ≠ none ∧ s.net.ptp.entries[e].ptpu ≠ none) ∧
    (∃ (s : State) (e : Fin 16) (u : Fin 4), s.net.ptp.entries[e].ptpu = some u) ∧
    (∃ (s : State) (e : Fin 16), s.net.ptp.entries[e].announce ≠ none ∧ s.net.ptp.entries[e].ptpu = none) ∧
    (∃ (s : State) (u : Fin 4), s.net.ptp.ptpus[u].entry = none) ∧
    (∃ (s : State) (u : Fin 4) (e : Fin 16), s.net.ptp.ptpus[u].entry = some e ∧ s.net.ptp.ptpus[u].exchanges = []) ∧
    (∃ (s : State) (u : Fin 4) (e : Fin 16), s.net.ptp.ptpus[u].entry = some e ∧ s.net.ptp.ptpus[u].exchanges ≠ [] ∧ s.refs[ptpuRef u].state ≠ .off) ∧
    (∃ (s : State) (u : Fin 4), hasReason s.refs[ptpuRef u] 6 = true ∧ s.refs[ptpuRef u].pathSince = true) ∧
    (∃ (s : State) (u : Fin 4), hasReason s.refs[ptpuRef u] 6 = false) :=
  ⟨⟨hold ({ S0 with keys := { S0.keys with ladder := true, roots := upd (S0.keys.roots) ((2 : Fin 3)) (fun y0 => { y0 with present := true }), life := 2, slots := ([(64, { state := 1, alloc := 1 })]) } }) 0x0705 (12), rq (12), 2047, 1, 0, (64 + 4096), ⟨rfl, _, rfl⟩, by first | rfl | decide, by first | rfl | decide, by first | rfl | decide, by first | rfl | decide, by first | rfl | decide⟩,
   ⟨hold ({ S0 with keys := { S0.keys with ladder := true, roots := upd (S0.keys.roots) ((2 : Fin 3)) (fun y0 => { y0 with present := true }), life := 2 } }) 0x0705 (12), rq (12), 2047, 0, 0, ⟨rfl, _, rfl⟩, by first | rfl | decide, by first | rfl | decide, by first | rfl | decide⟩,
   ⟨hold (State.reset) 0x0705 (12), rq (12), 0, 0, 0, 0, ⟨rfl, _, rfl⟩, by first | rfl | decide, by first | rfl | decide, by first | rfl | decide⟩,
   ⟨hold (State.reset) 0x0705 (12), rq (12), 2048, 0, 0, 0, ⟨rfl, _, rfl⟩, by first | rfl | decide⟩,
   ⟨hold ({ S0 with keys := { S0.keys with ladder := true, roots := upd (S0.keys.roots) ((2 : Fin 3)) (fun y0 => { y0 with present := true }), life := 2 } }) 0x0706 (2), rq (2), 2047, ⟨rfl, _, rfl⟩, by first | rfl | decide, by first | rfl | decide⟩,
   ⟨hold (State.reset) 0x0706 (2), rq (2), 2048, ⟨rfl, _, rfl⟩, by first | rfl | decide⟩,
   ⟨State.reset, (cmsg0 0), by first | rfl | decide⟩,
   ⟨{ S0 with net := { S0.net with ptp := { S0.net.ptp with inbox := ([cmsg0 0]), addresses := upd (S0.net.ptp.addresses) ((0 : Fin 16)) (fun y0 => { y0 with cfg := { y0.cfg with authMode := (0) } }) } } }, _, cmsg0 0, by first | rfl | decide, by first | rfl | decide, by first | rfl | decide⟩,
   ⟨{ S0 with net := { S0.net with ptp := { S0.net.ptp with inbox := ([cmsg0 9]), addresses := upd (S0.net.ptp.addresses) ((0 : Fin 16)) (fun y0 => { y0 with cfg := { y0.cfg with authMode := (0) } }) } } }, _, cmsg0 9, by first | rfl | decide, by first | rfl | decide, by first | rfl | decide⟩,
   ⟨State.reset, (0 : Fin 16), 0, by first | rfl | decide⟩,
   ⟨{ S0 with host := { S0.host with supervisor := (true) }, net := { S0.net with ptp := { S0.net.ptp with entries := upd (upd (S0.net.ptp.entries) (((0 : Fin 16))) (fun y0 => { y0 with cfg := { y0.cfg with enable := (1) }, denied := (false) })) ((0 : Fin 16)) (fun y0 => { y0 with cfg := { y0.cfg with duration := (300) } }) } } }, (0 : Fin 16), by first | rfl | decide, by first | rfl | decide, by first | rfl | decide, by first | rfl | decide⟩,
   ⟨{ S0 with host := { S0.host with supervisor := (true) }, net := { S0.net with ptp := { S0.net.ptp with entries := upd (S0.net.ptp.entries) (((0 : Fin 16))) (fun y0 => { y0 with cfg := { y0.cfg with enable := (1) }, denied := (true), ptpu := (some ((3 : Fin 4))) }) } } }, (0 : Fin 16), (3 : Fin 4), by first | rfl | decide, by first | rfl | decide, by first | rfl | decide, by first | rfl | decide, by first | rfl | decide⟩,
   ⟨{ S0 with net := { S0.net with ptp := { S0.net.ptp with entries := upd (S0.net.ptp.entries) ((0 : Fin 16)) (fun y0 => { y0 with syncs := ([⟨1, none, 0, 2⟩]) }) } } }, (0 : Fin 16), ⟨1, none, 0, 2⟩, by first | rfl | decide⟩,
   ⟨{ S0 with net := { S0.net with ptp := { S0.net.ptp with entries := upd (S0.net.ptp.entries) (((0 : Fin 16))) (fun y0 => { y0 with syncs := ([]) }) } } }, (0 : Fin 16), by first | rfl | decide⟩,
   ⟨{ S0 with net := { S0.net with ptp := { S0.net.ptp with entries := upd (S0.net.ptp.entries) (((0 : Fin 16))) (fun y0 => { y0 with announce := (none) }) } } }, (0 : Fin 16), by first | rfl | decide⟩,
   ⟨{ S0 with net := { S0.net with ptp := { S0.net.ptp with entries := upd (S0.net.ptp.entries) ((0 : Fin 16)) (fun y0 => { y0 with announce := (some ann0), ptpu := (some 3) }) } } }, (0 : Fin 16), by first | rfl | decide, by first | rfl | decide⟩,
   ⟨{ S0 with net := { S0.net with ptp := { S0.net.ptp with entries := upd (S0.net.ptp.entries) (((0 : Fin 16))) (fun y0 => { y0 with ptpu := (some ((0 : Fin 4))) }) } } }, (0 : Fin 16), (0 : Fin 4), by first | rfl | decide⟩,
   ⟨{ S0 with net := { S0.net with ptp := { S0.net.ptp with entries := upd (upd (S0.net.ptp.entries) (((0 : Fin 16))) (fun y0 => { y0 with ptpu := (none) })) ((0 : Fin 16)) (fun y0 => { y0 with announce := (some ann0) }) } } }, (0 : Fin 16), by first | rfl | decide, by first | rfl | decide⟩,
   ⟨{ S0 with net := { S0.net with ptp := { S0.net.ptp with ptpus := upd (S0.net.ptp.ptpus) (((0 : Fin 4))) (fun y0 => { y0 with entry := (none) }) } } }, (0 : Fin 4), by first | rfl | decide⟩,
   ⟨{ S0 with net := { S0.net with ptp := { S0.net.ptp with ptpus := upd (S0.net.ptp.ptpus) (((0 : Fin 4))) (fun y0 => { y0 with entry := (some ((0 : Fin 16))), exchanges := ([]) }) } } }, (0 : Fin 4), (0 : Fin 16), by first | rfl | decide, by first | rfl | decide⟩,
   ⟨{ S0 with net := { S0.net with ptp := { S0.net.ptp with ptpus := upd (upd (S0.net.ptp.ptpus) (((0 : Fin 4))) (fun y0 => { y0 with entry := (some ((0 : Fin 16))) })) ((0 : Fin 4)) (fun y0 => { y0 with exchanges := ([(1, 1)]) }) } }, refs := upd (S0.refs) (ptpuRef 0) (fun y0 => { y0 with state := (.monitor) }) }, (0 : Fin 4), (0 : Fin 16), by first | rfl | decide, by first | rfl | decide, by first | rfl | decide⟩,
   ⟨{ S0 with refs := upd (S0.refs) (ptpuRef 0) (fun y0 => { y0 with reasons := (64), pathSince := (true) }) }, (0 : Fin 4), by first | rfl | decide, by first | rfl | decide⟩,
   ⟨State.reset, (0 : Fin 4), by first | rfl | decide⟩⟩

theorem witness_SecurityCommandsActAsTheirRulesSay :
    (∃ (s : State) (r : Req) (g : GReq) (rows : Rows) (i : Fin 2), g.index = i.val ∧ Fits 0x0803 [one 1, one 1] r g [[s.keys.tamperIn[i].1], [s.keys.tamperIn[i].2]] rows s ∧ val rows 0 ≤ 1 ∧ val rows 1 ≤ 1 ∧ s.keys.life.val < 2) ∧
    (∃ (s : State) (r : Req) (g : GReq) (rows : Rows) (i : Fin 2), g.index = i.val ∧ Fits 0x0803 [one 1, one 1] r g [[s.keys.tamperIn[i].1], [s.keys.tamperIn[i].2]] rows s ∧ val rows 0 ≤ 1 ∧ val rows 1 ≤ 1 ∧ (s.keys.life = 2 ∨ s.keys.life = 3)) ∧
    (∃ (s : State) (r : Req) (p : Pend) (t : Fin 4), r.len = 20 ∧ ready 0x0801 r s = some p ∧ lifeAllowed s.keys.life.val t.val = true ∧ s.keys.change = none ∧ (t = 3 ∨ rootDrawable s = true)) ∧
    (∃ (s : State) (r : Req) (f : Nat) (t : Nat) (d : Nat), Asks 0x0801 20 r s ∧ d ≠ Config.deviceId) ∧
    (∃ (s : State) (r : Req) (f : Nat) (t : Nat), Asks 0x0801 20 r s ∧ (f ≠ s.keys.life.val ∨ lifeAllowed f t = false)) ∧
    (∃ (s : State) (r : Req) (t : Fin 4), Asks 0x0801 20 r s ∧ lifeAllowed s.keys.life.val t.val = true ∧ s.keys.change = none ∧ t ≠ 3 ∧ rootDrawable s = false) ∧
    (∃ (s : State) (r : Req) (d : Nat), Asks 0x0802 16 r s ∧ d ≠ Config.deviceId) ∧
    (∃ (s : State) (r : Req) (p : Pend) (nonce : Bytes) (alg : Nat), r.len = 33 ∧ ready 0x0804 r s = some p ∧ nonce.length = 32 ∧ alg ≤ 1) ∧
    (∃ (s : State) (r : Req) (nonce : Bytes) (alg : Nat), Asks 0x0804 33 r s ∧ 1 < alg) ∧
    (∃ (s : State) (r : Req), Asks 0x0806 0 r s ∧ s.keys.life ≠ 3 ∧ ladderReady s = true ∧ s.keys.change = none) ∧
    (∃ (s : State) (r : Req), Asks 0x0806 0 r s ∧ ladderReady s = false) ∧
    (∃ (s : State) (r : Req), Asks 0x0807 0 r s ∧ serviceState s = true) ∧
    (∃ (s : State) (r : Req), Asks 0x0807 0 r s ∧ serviceState s = false) ∧
    (∀ k, importedKey impS = .ok k → ∃ (s : State) (r : Req) (p : Pend) (sa : Nat) (w : Nat) (alg : Nat) (id : Nat) (n : Nat) (k : Bytes), r.len = 8 ∧ ready 0x0808 r s = some p ∧ sa < 2048 ∧ w ≤ 1 ∧ alg ≤ 1 ∧ alg = (saOrNone s sa).algorithm ∧ serviceState s = true ∧ importedKey s = .ok k ∧ freeSlot s = some n) ∧
    (∃ (s : State) (r : Req) (sa : Nat) (w : Nat) (alg : Nat) (id : Nat), Asks 0x0808 8 r s ∧ (2048 ≤ sa ∨ 1 < w ∨ 1 < alg)) ∧
    (∃ (s : State) (r : Req) (sa : Nat) (w : Nat) (alg : Nat) (id : Nat) (e : Nat), Asks 0x0808 8 r s ∧ sa < 2048 ∧ w ≤ 1 ∧ alg ≤ 1 ∧ alg = (saOrNone s sa).algorithm ∧ serviceState s = true ∧ importedKey s = .error e) ∧
    (∃ (s : State) (r : Req) (p : Pend) (sa : Nat) (w : Nat) (id : Nat) (n : Nat) (c : Bytes), r.len = 40 ∧ ready 0x0809 r s = some p ∧ sa < 2048 ∧ w ≤ 1 ∧ serviceState s = true ∧ freeSlot s = some n ∧ c.length = 32) ∧
    (∃ (s : State) (r : Req) (sa : Nat) (w : Nat) (id : Nat) (c : Bytes), Asks 0x0809 40 r s ∧ sa < 2048 ∧ w ≤ 1 ∧ serviceState s = true ∧ freeSlot s = none) ∧
    (∀ z, Config.ecdh (freshBytes 48 expS).1 (dpRead (freshBytes 48 expS).2 blobArea 97) = some z → ∃ (s : State) (r : Req) (sa : Nat) (n : Nat) (z : Bytes), Asks 0x080A 2 r s ∧ sa < 2048 ∧ serviceState s = true ∧ (saOrNone s sa).derived = true ∧ slotOf s (saOrNone s sa).current.handle = some n ∧ rootDrawable s = true ∧ Config.ecdh (freshBytes 48 s).1 (dpRead (freshBytes 48 s).2 blobArea 97) = some z) ∧
    (∃ (s : State) (r : Req) (sa : Nat), Asks 0x080A 2 r s ∧ sa < 2048 ∧ (saOrNone s sa).derived = false) ∧
    (∃ (s : State) (r : Req) (n : Nat) (l : Bytes), Asks 0x080B 24 r s ∧ n ≤ 4096 ∧ maySeal s = true ∧ l.length = 16) ∧
    (∃ (s : State) (r : Req) (n : Nat) (l : Bytes), Asks 0x080B 24 r s ∧ n ≤ 4096 ∧ maySeal s = false) ∧
    (∀ p, Config.sivOpen (sealKey unsealS) [sealData unsealS ((dpRead unsealS sealIn 4128).take 16)] [] ((dpRead unsealS sealIn 4128).drop 16) = some p → ∃ (s : State) (r : Req) (n : Nat) (b : Bytes) (p : Bytes), Asks 0x080C 2 r s ∧ 32 ≤ n ∧ n ≤ 4128 ∧ maySeal s = true ∧ b = dpRead s sealIn n ∧ Config.sivOpen (sealKey s) [sealData s (b.take 16)] [] (b.drop 16) = some p) ∧
    (Config.sivOpen (sealKey unsealS) [sealData unsealS ((dpRead unsealS sealIn 32).take 16)] [] ((dpRead unsealS sealIn 32).drop 16) = none → ∃ (s : State) (r : Req) (n : Nat) (b : Bytes), Asks 0x080C 2 r s ∧ 32 ≤ n ∧ n ≤ 4128 ∧ maySeal s = true ∧ b = dpRead s sealIn n ∧ Config.sivOpen (sealKey s) [sealData s (b.take 16)] [] (b.drop 16) = none) ∧
    (∃ (s : State) (r : Req) (p : Pend) (n : Nat), r.len = 4 ∧ ready 0x080D r s = some p ∧ 1 ≤ n ∧ n ≤ 1000000 ∧ s.keys.life.val < 2) ∧
    (∃ (s : State) (r : Req) (n : Nat), Asks 0x080D 4 r s ∧ 1 ≤ n ∧ n ≤ 1000000 ∧ 2 ≤ s.keys.life.val) ∧
    (∃ (s : State) (r : Req) (first : Nat) (count : Nat), Asks 0x0810 4 r s ∧ 1 ≤ count ∧ count ≤ 1024 ∧ first + count ≤ 4096) ∧
    (∃ (s : State) (r : Req) (first : Nat) (count : Nat), Asks 0x0810 4 r s ∧ (count = 0 ∨ 1024 < count ∨ 4096 < first + count)) :=
  ⟨⟨hold (State.reset) 0x0803 (8), rq (8), ⟨((0 : Fin 2)).val, 0, []⟩, _, (0 : Fin 2), by first | rfl | decide, ⟨_, 0, rfl, by decide, rfl, rfl, rfl⟩, by first | rfl | decide, by first | rfl | decide, by first | rfl | decide⟩,
   ⟨hold ({ S0 with keys := { S0.keys with life := (2) } }) 0x0803 (8), rq (8), ⟨((1 : Fin 2)).val, 0, []⟩, _, (1 : Fin 2), by first | rfl | decide, ⟨_, 0, rfl, by decide, rfl, rfl, rfl⟩, by first | rfl | decide, by first | rfl | decide, by first | rfl | decide⟩,
   ⟨hold ({ S0 with keys := { S0.keys with change := (none), life := (1) } }) 0x0801 (20), rq (20), pd 0x0801 (20), (3 : Fin 4), by first | rfl | decide, rfl, by first | rfl | decide, by first | rfl | decide, (.inl rfl)⟩,
   ⟨hold (State.reset) 0x0801 (20), rq (20), 0, 0, (Config.deviceId + 1), ⟨rfl, _, rfl⟩, (Nat.succ_ne_self _)⟩,
   ⟨hold (State.reset) 0x0801 (20), rq (20), 0, 0, ⟨rfl, _, rfl⟩, by first | rfl | decide⟩,
   ⟨hold ({ S0 with keys := { S0.keys with change := (none) } }) 0x0801 (20), rq (20), (2 : Fin 4), ⟨rfl, _, rfl⟩, by first | rfl | decide, by first | rfl | decide, by first | rfl | decide, (by decide)⟩,
   ⟨hold (State.reset) 0x0802 (16), rq (16), (Config.deviceId + 1), ⟨rfl, _, rfl⟩, (Nat.succ_ne_self _)⟩,
   ⟨hold (State.reset) 0x0804 (33), rq (33), pd 0x0804 (33), (List.replicate 32 0), 1, by first | rfl | decide, rfl, by first | rfl | decide, by first | rfl | decide⟩,
   ⟨hold (State.reset) 0x0804 (33), rq (33), ([] : Bytes), 2, ⟨rfl, _, rfl⟩, by first | rfl | decide⟩,
   ⟨hold ({ S0 with keys := { S0.keys with ladder := true, roots := upd (S0.keys.roots) ((2 : Fin 3)) (fun y0 => { y0 with present := true }), change := (none) } }) 0x0806 (0), rq (0), ⟨rfl, _, rfl⟩, by first | rfl | decide, by first | rfl | decide, by first | rfl | decide⟩,
   ⟨hold (State.reset) 0x0806 (0), rq (0), ⟨rfl, _, rfl⟩, by first | rfl | decide⟩,
   ⟨hold ({ S0 with keys := { S0.keys with ladder := true, roots := upd (S0.keys.roots) ((2 : Fin 3)) (fun y0 => { y0 with present := true }), life := 2 } }) 0x0807 (0), rq (0), ⟨rfl, _, rfl⟩, by first | rfl | decide⟩,
   ⟨hold (State.reset) 0x0807 (0), rq (0), ⟨rfl, _, rfl⟩, by first | rfl | decide⟩,
   (fun k h => ⟨impS, rq 8, pd 0x0808 8, 2047, 1, 0, 7, 64, k, rfl, rfl, by decide, by decide, by decide, rfl, by decide, h, by decide⟩),
   ⟨hold (State.reset) 0x0808 (8), rq (8), 2048, 0, 0, 0, ⟨rfl, _, rfl⟩, by first | rfl | decide⟩,
   ⟨hold ({ S0 with keys := { S0.keys with ladder := true, roots := upd (S0.keys.roots) ((2 : Fin 3)) (fun y0 => { y0 with present := true }), life := 2 } }) 0x0808 (8), rq (8), 2047, 1, 0, 0, eKey, ⟨rfl, _, rfl⟩, by first | rfl | decide, by first | rfl | decide, by first | rfl | decide, by first | rfl | decide, by first | rfl | decide, (by rw [importedKey]; exact if_pos (Or.inl (by decide)))⟩,
   ⟨hold ({ S0 with keys := { S0.keys with ladder := true, roots := upd (S0.keys.roots) ((2 : Fin 3)) (fun y0 => { y0 with present := true }), life := 2 } }) 0x0809 (40), rq (40), pd 0x0809 (40), 2047, 1, 0, 64, (List.replicate 32 0), by first | rfl | decide, rfl, by first | rfl | decide, by first | rfl | decide, by first | rfl | decide, by first | rfl | decide, by first | rfl | decide⟩,
   ⟨fullS, rq 40, 2047, 1, 7, [], ⟨rfl, _, rfl⟩, by decide, by decide, rfl, fullS_freeSlot⟩,
   (fun z h => ⟨expS, rq 2, 0, 64, z, ⟨rfl, _, rfl⟩, by decide, rfl, rfl, by decide, rfl, h⟩),
   ⟨hold (State.reset) 0x080A (2), rq (2), 0, ⟨rfl, _, rfl⟩, by first | rfl | decide, by first | rfl | decide⟩,
   ⟨hold ({ S0 with keys := { S0.keys with ladder := true, roots := upd (S0.keys.roots) ((2 : Fin 3)) (fun y0 => { y0 with present := true }) } }) 0x080B (24), rq (24), 4096, (List.replicate 16 0), ⟨rfl, _, rfl⟩, by first | rfl | decide, by first | rfl | decide, by first | rfl | decide⟩,
   ⟨hold (State.reset) 0x080B (24), rq (24), 0, ([] : Bytes), ⟨rfl, _, rfl⟩, by first | rfl | decide, by first | rfl | decide⟩,
   (fun p h => ⟨unsealS, rq 2, 4128, _, p, ⟨rfl, _, rfl⟩, by decide, by decide, by decide, rfl, h⟩),
   (fun h => ⟨unsealS, rq 2, 32, _, ⟨rfl, _, rfl⟩, by decide, by decide, by decide, rfl, h⟩),
   ⟨hold ({ S0 with keys := { S0.keys with life := (1) } }) 0x080D (4), rq (4), pd 0x080D (4), 1000000, by first | rfl | decide, rfl, by first | rfl | decide, by first | rfl | decide, by first | rfl | decide⟩,
   ⟨hold ({ S0 with keys := { S0.keys with life := (3) } }) 0x080D (4), rq (4), 1, ⟨rfl, _, rfl⟩, by first | rfl | decide, by first | rfl | decide, by first | rfl | decide⟩,
   ⟨hold (State.reset) 0x0810 (4), rq (4), 3072, 1024, ⟨rfl, _, rfl⟩, by first | rfl | decide, by first | rfl | decide, by first | rfl | decide⟩,
   ⟨hold (State.reset) 0x0810 (4), rq (4), 0, 0, ⟨rfl, _, rfl⟩, by first | rfl | decide⟩⟩

theorem witness_TampersDestroyKeysAndWritesCommit :
    (∃ (s : State) (d : Nat), detectorArmed s d false = true ∧ s.power.powered = true ∧ s.power.inReset = false) ∧
    (∃ (s : State) (d : Nat), detectorArmed s d true = true ∧ s.power.powered = false) ∧
    (∃ (s : State) (d : Nat) (b : Bool), detectorArmed s d b = false) ∧
    (∃ (s : State) (r : TamperRecord), s.keys.firstTampers.length < 32) ∧
    (∃ (s : State) (c : LifeChange), s.keys.change = some c ∧ s.host.supervisor = true ∧ c.target = 3) ∧
    (∃ (s : State) (c : LifeChange) (src : Source) (q : Nat), s.keys.change = some c ∧ s.host.supervisor = true ∧ c.target ≠ 3 ∧ rootDrawable s = false ∧ c.tamper = false ∧ c.source = some (src, q)) ∧
    (∃ (s : State), s.keys.change = none) ∧
    (∃ (s : State) (j : AttestJob) (rest : List AttestJob), s.keys.attests = j :: rest) ∧
    (∃ (s : State), s.keys.attests = []) ∧
    (∃ (s : State) (n : Nat) (src : Source) (q : Nat) (rest : List (Nat × Source × Nat)) (b : Bytes), s.keys.entropyJobs = (n, src, q) :: rest) ∧
    (∃ (s : State), s.keys.drbgReady = true ∧ s.keys.entropyFail = false) ∧
    (∃ (s : State), s.keys.entropyFail = true) ∧
    (∃ (s : State) (a : Bool), s.power.inReset = false ∧ s.keys.failTicks = []) ∧
    (∃ (s : State) (a : Bool) (x : Nat) (y : Nat), s.power.inReset = false ∧ s.keys.failTicks = [x, y] ∧ s.clock.ticks.toNat < x + 10 ^ 9 ∧ s.clock.ticks.toNat < y + 10 ^ 9 ∧ s.keys.entropyFail = false ∧ s.net.nts.rotation.asked = []) ∧
    (∃ (s : State) (n : Nat) (w : KeyWrite) (rest : List KeyWrite), takeWrite n s.keys.writes = some (w, rest) ∧ s.host.supervisor = true ∧ s.keys.compacting = false ∧ ladderReady s = true ∧ (persistent n = false ∨ s.keys.position < bankSize)) ∧
    (∃ (s : State) (n : Nat) (w : KeyWrite) (rest : List KeyWrite), takeWrite n s.keys.writes = some (w, rest) ∧ s.host.supervisor = true ∧ s.keys.compacting = false ∧ ladderReady s = true ∧ persistent n = true ∧ bankSize ≤ s.keys.position) ∧
    (∃ (s : State) (n : Nat) (ty : Nat) (m : Bytes), m.length ≤ 64) ∧
    (∃ (s : State), s.keys.compacting = true) ∧
    (∃ (s : State), s.keys.compacting = false) :=
  ⟨⟨{ S0 with power := { S0.power with powered := (true), inReset := (false) } }, 3, by first | rfl | decide, by first | rfl | decide, by first | rfl | decide⟩,
   ⟨{ S0 with power := { S0.power with powered := (false) } }, 4, by first | rfl | decide, by first | rfl | decide⟩,
   ⟨State.reset, 0, false, by first | rfl | decide⟩,
   ⟨State.reset, (⟨1, 1, 0, 1, 0⟩), by first | rfl | decide⟩,
   ⟨{ S0 with keys := { S0.keys with change := (some (⟨3, false, none⟩)) }, host := { S0.host with supervisor := (true) } }, ⟨3, false, none⟩, by first | rfl | decide, by first | rfl | decide, by first | rfl | decide⟩,
   ⟨{ S0 with keys := { S0.keys with change := (some (⟨2, false, some (.mailbox 0, 0)⟩)) }, host := { S0.host with supervisor := (true) } }, ⟨2, false, some (.mailbox 0, 0)⟩, .mailbox 0, 0, by first | rfl | decide, by first | rfl | decide, by first | rfl | decide, by first | rfl | decide, by first | rfl | decide, by first | rfl | decide⟩,
   ⟨{ S0 with keys := { S0.keys with change := (none) } }, by first | rfl | decide⟩,
   ⟨{ S0 with keys := { S0.keys with attests := ((⟨[], 0, .mailbox 0, 7⟩) :: ([])) } }, ⟨[], 0, .mailbox 0, 7⟩, [], by first | rfl | decide⟩,
   ⟨{ S0 with keys := { S0.keys with attests := ([]) } }, by first | rfl | decide⟩,
   ⟨{ S0 with keys := { S0.keys with entropyJobs := (((0), (.mailbox 0), (0)) :: ([])) } }, 0, .mailbox 0, 0, [], ([] : Bytes), by first | rfl | decide⟩,
   ⟨{ S0 with keys := { S0.keys with drbgReady := (true), entropyFail := (false) } }, by first | rfl | decide, by first | rfl | decide⟩,
   ⟨{ S0 with keys := { S0.keys with entropyFail := (true) } }, by first | rfl | decide⟩,
   ⟨{ S0 with power := { S0.power with inReset := (false) }, keys := { S0.keys with failTicks := ([]) } }, false, by first | rfl | decide, by first | rfl | decide⟩,
   ⟨{ S0 with power := { S0.power with inReset := (false) }, keys := { S0.keys with failTicks := ([(0), (0)]), entropyFail := (false) }, net := { S0.net with nts := { S0.net.nts with rotation := { S0.net.nts.rotation with asked := ([]) } } } }, false, 0, 0, by first | rfl | decide, by first | rfl | decide, by first | rfl | decide, by first | rfl | decide, by first | rfl | decide, by first | rfl | decide⟩,
   ⟨{ S0 with host := { S0.host with supervisor := (true) }, keys := { S0.keys with compacting := (false), ladder := true, roots := upd (S0.keys.roots) ((2 : Fin 3)) (fun y0 => { y0 with present := true }), writes := ([⟨40, 1, [1], .cookie 0, none⟩]), position := (bankSize-1) } }, 40, ⟨40, 1, [1], .cookie 0, none⟩, [], by first | rfl | decide, by first | rfl | decide, by first | rfl | decide, by first | rfl | decide, (.inr (by decide))⟩,
   ⟨{ S0 with host := { S0.host with supervisor := (true) }, keys := { S0.keys with compacting := (false), ladder := true, roots := upd (S0.keys.roots) ((2 : Fin 3)) (fun y0 => { y0 with present := true }), writes := ([⟨32, 1, [1], .cookie 0, none⟩]), position := (bankSize) } }, 32, ⟨32, 1, [1], .cookie 0, none⟩, [], by first | rfl | decide, by first | rfl | decide, by first | rfl | decide, by first | rfl | decide, by first | rfl | decide, by first | rfl | decide⟩,
   ⟨State.reset, 0, 0, ([] : Bytes), by first | rfl | decide⟩,
   ⟨{ S0 with keys := { S0.keys with compacting := (true) } }, by first | rfl | decide⟩,
   ⟨{ S0 with keys := { S0.keys with compacting := (false) } }, by first | rfl | decide⟩⟩

theorem witness_ADrawnNonceBaseIsNew :
    ∃ (s : State) (engine : Nat) (slot : Nat) (keyId : Nat), (heldBases s slot keyId).length < 2 ^ 48 :=
  ⟨State.reset, 0, 0, 0, by first | rfl | decide⟩

theorem witness_StackFramesPassTheirChecksAndAct :
    (∃ (s : State) (h : StackHdr), linkLive s h.link = false) ∧
    (∃ (s : State) (h : StackHdr), linkLive s h.link = true ∧ h.crcOk = false) ∧
    (∃ (s : State) (h : StackHdr), linkLive s h.link = true ∧ h.crcOk = true ∧ (h.dst = 0xFF ∨ h.dst = ownPos s) ∧ h.version = 1 ∧ h.typeOk = true ∧ h.key = 0) ∧
    (∃ (s : State) (h : StackHdr), linkLive s h.link = true ∧ h.crcOk = true ∧ (h.dst = 0xFF ∨ h.dst = ownPos s) ∧ h.version = 1 ∧ h.typeOk = true ∧ h.key ≠ 0 ∧ h.tagOk = true ∧ stackKeyHeld s h.key h.src.val = true ∧ h.seq ≤ lastSeq s h.src.val h.key) ∧
    (∃ (s : State) (h : StackHdr), linkLive s h.link = true ∧ h.crcOk = true ∧ (h.dst = 0xFF ∨ h.dst = ownPos s) ∧ h.version = 1 ∧ h.typeOk = true ∧ h.key ≠ 0 ∧ h.tagOk = true ∧ stackKeyHeld s h.key h.src.val = true ∧ lastSeq s h.src.val h.key < h.seq ∧ s.stack.term ≤ h.term) ∧
    (∃ (s : State) (h : StackHdr) (t : State), takeFrame h s = (false, t)) ∧
    (∃ (s : State) (t : State) (h : StackHdr), takeFrame h s = (false, t)) ∧
    (∃ (s : State) (t : State) (h : StackHdr) (l : List ConfigRecord), takeFrame h s = (true, t) ∧ takesReplication t = true) ∧
    (∃ (s : State) (t : State) (h : StackHdr) (l : List Session), takeFrame h s = (true, t) ∧ takesReplication t = true) ∧
    (∃ (s : State) (t : State) (h : StackHdr) (k : KeyRecord), takeFrame h s = (true, t) ∧ takesReplication t = true) ∧
    (∃ (s : State) (t : State) (h : StackHdr) (id : Nat) (old : Nat) (at_ : Nat) (a : ZT128) (g : Fin 8), takeFrame h s = (true, t) ∧ takesReplication t = true ∧ genOf t id = some g ∧ genState t g = 1 ∧ ztUnits a ≤ now t) ∧
    (∃ (s : State) (t : State) (h : StackHdr) (id : Nat) (old : Nat) (at_ : Nat) (a : ZT128) (g : Fin 8), takeFrame h s = (true, t) ∧ takesReplication t = true ∧ genOf t id = some g ∧ genState t g = 1 ∧ now t < ztUnits a) ∧
    (∃ (s : State) (t : State) (h : StackHdr) (o : Bytes), takeFrame h s = (true, t)) ∧
    (∃ (s : State) (t : State) (h : StackHdr) (n : Nat), takeFrame h s = (true, t) ∧ t.stack.paired = true ∧ (sendAck h.src.val 1 0x30 h.seq t).stack.role = 2 ∧ h.src.val = 0 ∧ (sendAck h.src.val 1 0x30 h.seq t).stack.term < n) ∧
    (∃ (s : State) (t : State) (h : StackHdr), takeFrame h s = (true, t) ∧ t.stack.paired = true ∧ isPrimary (sendAck h.src.val 1 0x31 h.seq t) = true ∧ 2 ≤ (sendAck h.src.val 1 0x31 h.seq t).stack.members[h.src].state) ∧
    (∃ (s : State) (t : State) (h : StackHdr) (ty : Nat) (q : Nat) (f : ReplFrame), takeFrame h s = (true, t) ∧ t.stack.frames.find? (fun f => decide (f.dst = h.src) && decide (bodyType f.body = ty) && decide (q ∈ f.seqs)) = some f) ∧
    (∃ (s : State) (t : State) (h : StackHdr) (m : HelloMsg) (p : Pairing), takeFrame h s = (true, t) ∧ t.stack.pairing = some p ∧ p.step = .hello ∧ judgeHello t (some p.peerId) m = 0) ∧
    (∀ k, pairKey pairS pair17 hello0 = some k → ∃ (s : State) (t : State) (h : StackHdr) (p : Pairing) (m : HelloMsg) (k : Bytes) (q : Fin 8), takeFrame h s = (true, t) ∧ t.stack.pairing = some p ∧ p.peer = some m ∧ p.step = .confirm ∧ pairKey t p m = some k ∧ max (ownPos t) m.position = q.val) ∧
    (∃ (s : State) (t : State) (h : StackHdr) (p : Pairing), takeFrame h s = (true, t) ∧ t.stack.pairing = some p ∧ ownPos t ≠ 0 ∧ p.step = .admission) ∧
    (∃ (s : State) (t : State) (h : StackHdr) (p : Pairing) (v : Nat), takeFrame h s = (true, t) ∧ t.stack.pairing = some p ∧ ownPos t ≠ 0 ∧ v ≠ 0) ∧
    (∃ (s : State) (t : State) (h : StackHdr) (role : Nat) (pos : Nat) (st : Nat) (fl : Nat) (mem : Nat) (id : Nat), takeFrame h s = (true, t) ∧ t.stack.paired = true ∧ isPrimary t = false ∧ t.stack.fenced = false) ∧
    (∃ (s : State) (t : State) (h : StackHdr) (st : Nat) (fl : Nat) (mem : Nat) (id : Nat), takeFrame h s = (true, t) ∧ isPrimary t = true ∧ t.stack.fenced = false ∧ st ≤ 4 ∧ fl < 8 ∧ t.stack.term < h.term) ∧
    (∃ (s : State) (t : State) (h : StackHdr) (m : Nat) (rm : Nat) (a : Nat) (b : Nat) (t2 : Nat) (t3 : Nat) (x : PeerBound), takeFrame h s = (true, t) ∧ assoc t.stack.links[h.link].received m = some t2 ∧ assoc t.stack.links[h.link].sent rm = some t3) ∧
    (∃ (s : State) (h : StackHdr), linkLive s h.link = true ∧ h.dst ≠ 0xFF ∧ h.dst ≠ ownPos s ∧ h.crcOk = true ∧ h.hops ≠ 0 ∧ linkLive s (otherLink h.link) = true) ∧
    (∃ (s : State) (h : StackHdr), linkLive s h.link = true ∧ h.dst ≠ 0xFF ∧ h.dst ≠ ownPos s ∧ h.crcOk = true ∧ h.hops = 0) ∧
    (∃ (s : State) (l : Fin 2) (sub : Nat) (stamp : Nat), linkLive s l = true ∧ clockRuns s = true ∧ markerStamp s l true sub = some stamp ∧ s.stack.paired = false) ∧
    (∃ (s : State) (l : Fin 2) (n : Nat) (sub : Nat) (stamp : Nat), linkLive s l = true ∧ markerStamp s l false sub = some stamp) ∧
    (∃ (s : State) (l : Fin 2) (n : Nat) (sub : Nat), linkLive s l = true) :=
  ⟨⟨State.reset, (hdr0), by first | rfl | decide⟩,
   ⟨{ S0 with stack := { S0.stack with cfg := { S0.stack.cfg with linkE := 1, linkW := 1 }, links := upd (upd (S0.stack.links) ((0 : Fin 2)) (fun y0 => { y0 with up := true })) ((1 : Fin 2)) (fun y0 => { y0 with up := true }) } }, { hdr0 with crcOk := false }, by first | rfl | decide, by first | rfl | decide⟩,
   ⟨{ S0 with stack := { S0.stack with cfg := { S0.stack.cfg with linkE := 1, linkW := 1 }, links := upd (upd (S0.stack.links) ((0 : Fin 2)) (fun y0 => { y0 with up := true })) ((1 : Fin 2)) (fun y0 => { y0 with up := true }) } }, { hdr0 with key := 0 }, by first | rfl | decide, by first | rfl | decide, by first | rfl | decide, by first | rfl | decide, by first | rfl | decide, by first | rfl | decide⟩,
   ⟨{ S0 with stack := { S0.stack with cfg := { S0.stack.cfg with linkE := 1, linkW := 1 }, links := upd (upd (S0.stack.links) ((0 : Fin 2)) (fun y0 => { y0 with up := true })) ((1 : Fin 2)) (fun y0 => { y0 with up := true }) }, keys := { S0.keys with slots := [(40, { state := 1 }), (41, { state := 1 })] } }, { hdr0 with key := 1, seq := 0 }, by first | rfl | decide, by first | rfl | decide, by first | rfl | decide, by first | rfl | decide, by first | rfl | decide, by first | rfl | decide, by first | rfl | decide, by first | rfl | decide, by first | rfl | decide⟩,
   ⟨{ S0 with stack := { S0.stack with cfg := { S0.stack.cfg with linkE := 1, linkW := 1 }, links := upd (upd (S0.stack.links) ((0 : Fin 2)) (fun y0 => { y0 with up := true })) ((1 : Fin 2)) (fun y0 => { y0 with up := true }) }, keys := { S0.keys with slots := [(40, { state := 1 }), (41, { state := 1 })] } }, { hdr0 with key := 1, term := 1 }, by first | rfl | decide, by first | rfl | decide, by first | rfl | decide, by first | rfl | decide, by first | rfl | decide, by first | rfl | decide, by first | rfl | decide, by first | rfl | decide, by first | rfl | decide, by first | rfl | decide⟩,
   ⟨S0, { hdr0 with crcOk := false }, _, by first | rfl | decide⟩,
   ⟨S0, _, { hdr0 with crcOk := false }, by first | rfl | decide⟩,
   ⟨{ S0 with stack := { S0.stack with cfg := { S0.stack.cfg with linkE := 1, linkW := 1 }, links := upd (upd (S0.stack.links) ((0 : Fin 2)) (fun y0 => { y0 with up := true })) ((1 : Fin 2)) (fun y0 => { y0 with up := true }), paired := (true) } }, ({ S0 with stack := { S0.stack with cfg := { S0.stack.cfg with linkE := 1, linkW := 1 }, links := upd (upd (S0.stack.links) ((0 : Fin 2)) (fun y0 => { y0 with up := true })) ((1 : Fin 2)) (fun y0 => { y0 with up := true }), paired := (true) } }), (hdr0), ([] : List ConfigRecord), by first | rfl | decide, by first | rfl | decide⟩,
   ⟨{ S0 with stack := { S0.stack with cfg := { S0.stack.cfg with linkE := 1, linkW := 1 }, links := upd (upd (S0.stack.links) ((0 : Fin 2)) (fun y0 => { y0 with up := true })) ((1 : Fin 2)) (fun y0 => { y0 with up := true }), paired := (true) } }, ({ S0 with stack := { S0.stack with cfg := { S0.stack.cfg with linkE := 1, linkW := 1 }, links := upd (upd (S0.stack.links) ((0 : Fin 2)) (fun y0 => { y0 with up := true })) ((1 : Fin 2)) (fun y0 => { y0 with up := true }), paired := (true) } }), (hdr0), ([] : List Session), by first | rfl | decide, by first | rfl | decide⟩,
   ⟨{ S0 with stack := { S0.stack with cfg := { S0.stack.cfg with linkE := 1, linkW := 1 }, links := upd (upd (S0.stack.links) ((0 : Fin 2)) (fun y0 => { y0 with up := true })) ((1 : Fin 2)) (fun y0 => { y0 with up := true }), paired := (true) } }, ({ S0 with stack := { S0.stack with cfg := { S0.stack.cfg with linkE := 1, linkW := 1 }, links := upd (upd (S0.stack.links) ((0 : Fin 2)) (fun y0 => { y0 with up := true })) ((1 : Fin 2)) (fun y0 => { y0 with up := true }), paired := (true) } }), (hdr0), (⟨40, 1, 1, 1, 5, 0, [1], []⟩), by first | rfl | decide, by first | rfl | decide⟩,
   ⟨{ S0 with stack := { S0.stack with cfg := { S0.stack.cfg with linkE := 1, linkW := 1 }, links := upd (upd (S0.stack.links) ((0 : Fin 2)) (fun y0 => { y0 with up := true })) ((1 : Fin 2)) (fun y0 => { y0 with up := true }), paired := (true) }, clock := { S0.clock with form := (.counter) }, net := { S0.net with nts := { S0.net.nts with gens := upd (S0.net.nts.gens) ((0 : Fin 8)) (fun y0 => { y0 with state := (1), keyId := (5) }) } } }, ({ S0 with stack := { S0.stack with cfg := { S0.stack.cfg with linkE := 1, linkW := 1 }, links := upd (upd (S0.stack.links) ((0 : Fin 2)) (fun y0 => { y0 with up := true })) ((1 : Fin 2)) (fun y0 => { y0 with up := true }), paired := (true) }, clock := { S0.clock with form := (.counter) }, net := { S0.net with nts := { S0.net.nts with gens := upd (S0.net.nts.gens) ((0 : Fin 8)) (fun y0 => { y0 with state := (1), keyId := (5) }) } } }), (hdr0), 5, 0, 0, {}, (0 : Fin 8), by first | rfl | decide, by first | rfl | decide, by first | rfl | decide, by first | rfl | decide, by first | rfl | decide⟩,
   ⟨{ S0 with stack := { S0.stack with cfg := { S0.stack.cfg with linkE := 1, linkW := 1 }, links := upd (upd (S0.stack.links) ((0 : Fin 2)) (fun y0 => { y0 with up := true })) ((1 : Fin 2)) (fun y0 => { y0 with up := true }), paired := (true) }, clock := { S0.clock with form := (.counter) }, net := { S0.net with nts := { S0.net.nts with gens := upd (S0.net.nts.gens) ((0 : Fin 8)) (fun y0 => { y0 with state := (1), keyId := (5) }) } } }, ({ S0 with stack := { S0.stack with cfg := { S0.stack.cfg with linkE := 1, linkW := 1 }, links := upd (upd (S0.stack.links) ((0 : Fin 2)) (fun y0 => { y0 with up := true })) ((1 : Fin 2)) (fun y0 => { y0 with up := true }), paired := (true) }, clock := { S0.clock with form := (.counter) }, net := { S0.net with nts := { S0.net.nts with gens := upd (S0.net.nts.gens) ((0 : Fin 8)) (fun y0 => { y0 with state := (1), keyId := (5) }) } } }), (hdr0), 5, 0, 0, { seconds := 5 }, (0 : Fin 8), by first | rfl | decide, by first | rfl | decide, by first | rfl | decide, by first | rfl | decide, by first | rfl | decide⟩,
   ⟨{ S0 with stack := { S0.stack with cfg := { S0.stack.cfg with linkE := 1, linkW := 1 }, links := upd (upd (S0.stack.links) ((0 : Fin 2)) (fun y0 => { y0 with up := true })) ((1 : Fin 2)) (fun y0 => { y0 with up := true }) } }, ({ S0 with stack := { S0.stack with cfg := { S0.stack.cfg with linkE := 1, linkW := 1 }, links := upd (upd (S0.stack.links) ((0 : Fin 2)) (fun y0 => { y0 with up := true })) ((1 : Fin 2)) (fun y0 => { y0 with up := true }) } }), (hdr0), ([] : Bytes), by first | rfl | decide⟩,
   ⟨{ S0 with stack := { S0.stack with cfg := { S0.stack.cfg with linkE := 1, linkW := 1 }, links := upd (upd (S0.stack.links) ((0 : Fin 2)) (fun y0 => { y0 with up := true })) ((1 : Fin 2)) (fun y0 => { y0 with up := true }), paired := (true), role := (2) } }, ({ S0 with stack := { S0.stack with cfg := { S0.stack.cfg with linkE := 1, linkW := 1 }, links := upd (upd (S0.stack.links) ((0 : Fin 2)) (fun y0 => { y0 with up := true })) ((1 : Fin 2)) (fun y0 => { y0 with up := true }), paired := (true), role := (2) } }), { hdr0 with src := 0 }, 1, by first | rfl | decide, by first | rfl | decide, by first | rfl | decide, by first | rfl | decide, by first | rfl | decide⟩,
   ⟨{ S0 with stack := { S0.stack with cfg := { S0.stack.cfg with linkE := 1, linkW := 1 }, links := upd (upd (S0.stack.links) ((0 : Fin 2)) (fun y0 => { y0 with up := true })) ((1 : Fin 2)) (fun y0 => { y0 with up := true }), paired := (true), role := (1), position := (0), members := upd (S0.stack.members) ((1 : Fin 8)) (fun y0 => { y0 with state := (2) }) } }, ({ S0 with stack := { S0.stack with cfg := { S0.stack.cfg with linkE := 1, linkW := 1 }, links := upd (upd (S0.stack.links) ((0 : Fin 2)) (fun y0 => { y0 with up := true })) ((1 : Fin 2)) (fun y0 => { y0 with up := true }), paired := (true), role := (1), position := (0), members := upd (S0.stack.members) ((1 : Fin 8)) (fun y0 => { y0 with state := (2) }) } }), (hdr0), by first | rfl | decide, by first | rfl | decide, by first | rfl | decide, by first | rfl | decide⟩,
   ⟨{ S0 with stack := { S0.stack with cfg := { S0.stack.cfg with linkE := 1, linkW := 1 }, links := upd (upd (S0.stack.links) ((0 : Fin 2)) (fun y0 => { y0 with up := true })) ((1 : Fin 2)) (fun y0 => { y0 with up := true }), frames := ([⟨3, 1, .leave 2, [5]⟩]) } }, ({ S0 with stack := { S0.stack with cfg := { S0.stack.cfg with linkE := 1, linkW := 1 }, links := upd (upd (S0.stack.links) ((0 : Fin 2)) (fun y0 => { y0 with up := true })) ((1 : Fin 2)) (fun y0 => { y0 with up := true }), frames := ([⟨3, 1, .leave 2, [5]⟩]) } }), (hdr0), 0x31, 5, ⟨3, 1, .leave 2, [5]⟩, by first | rfl | decide, by first | rfl | decide⟩,
   ⟨{ S0 with stack := { S0.stack with cfg := { S0.stack.cfg with linkE := 1, linkW := 1, position := (1) }, links := upd (upd (S0.stack.links) ((0 : Fin 2)) (fun y0 => { y0 with up := true })) ((1 : Fin 2)) (fun y0 => { y0 with up := true }), pairing := (some (pairing0)) } }, ({ S0 with stack := { S0.stack with cfg := { S0.stack.cfg with linkE := 1, linkW := 1, position := (1) }, links := upd (upd (S0.stack.links) ((0 : Fin 2)) (fun y0 => { y0 with up := true })) ((1 : Fin 2)) (fun y0 => { y0 with up := true }), pairing := (some (pairing0)) } }), (hdr0), { hello0 with deviceId := 9, intent := 2, position := 0 }, pairing0, by first | rfl | decide, by first | rfl | decide, by first | rfl | decide, by first | rfl | decide⟩,
   (fun k h => ⟨pairS, pairS, hdr0, pair17, hello0, k, 1, rfl, rfl, rfl, rfl, h, rfl⟩),
   ⟨{ S0 with stack := { S0.stack with cfg := { S0.stack.cfg with linkE := 1, linkW := 1, position := (1) }, links := upd (upd (S0.stack.links) ((0 : Fin 2)) (fun y0 => { y0 with up := true })) ((1 : Fin 2)) (fun y0 => { y0 with up := true }), pairing := (some ({ pairing0 with step := .admission })) } }, ({ S0 with stack := { S0.stack with cfg := { S0.stack.cfg with linkE := 1, linkW := 1, position := (1) }, links := upd (upd (S0.stack.links) ((0 : Fin 2)) (fun y0 => { y0 with up := true })) ((1 : Fin 2)) (fun y0 => { y0 with up := true }), pairing := (some ({ pairing0 with step := .admission })) } }), (hdr0), { pairing0 with step := .admission }, by first | rfl | decide, by first | rfl | decide, by first | rfl | decide, by first | rfl | decide⟩,
   ⟨{ S0 with stack := { S0.stack with cfg := { S0.stack.cfg with linkE := 1, linkW := 1, position := (1) }, links := upd (upd (S0.stack.links) ((0 : Fin 2)) (fun y0 => { y0 with up := true })) ((1 : Fin 2)) (fun y0 => { y0 with up := true }), pairing := (some (pairing0)) } }, ({ S0 with stack := { S0.stack with cfg := { S0.stack.cfg with linkE := 1, linkW := 1, position := (1) }, links := upd (upd (S0.stack.links) ((0 : Fin 2)) (fun y0 => { y0 with up := true })) ((1 : Fin 2)) (fun y0 => { y0 with up := true }), pairing := (some (pairing0)) } }), (hdr0), pairing0, 1, by first | rfl | decide, by first | rfl | decide, by first | rfl | decide, by first | rfl | decide⟩,
   ⟨{ S0 with stack := { S0.stack with cfg := { S0.stack.cfg with linkE := 1, linkW := 1 }, links := upd (upd (S0.stack.links) ((0 : Fin 2)) (fun y0 => { y0 with up := true })) ((1 : Fin 2)) (fun y0 => { y0 with up := true }), paired := (true), fenced := (false), role := (2) } }, ({ S0 with stack := { S0.stack with cfg := { S0.stack.cfg with linkE := 1, linkW := 1 }, links := upd (upd (S0.stack.links) ((0 : Fin 2)) (fun y0 => { y0 with up := true })) ((1 : Fin 2)) (fun y0 => { y0 with up := true }), paired := (true), fenced := (false), role := (2) } }), (hdr0), 0, 0, 0, 0, 0, 0, by first | rfl | decide, by first | rfl | decide, by first | rfl | decide, by first | rfl | decide⟩,
   ⟨{ S0 with stack := { S0.stack with cfg := { S0.stack.cfg with linkE := 1, linkW := 1 }, links := upd (upd (S0.stack.links) ((0 : Fin 2)) (fun y0 => { y0 with up := true })) ((1 : Fin 2)) (fun y0 => { y0 with up := true }), paired := true, role := 1, position := 0, fenced := (false) } }, ({ S0 with stack := { S0.stack with cfg := { S0.stack.cfg with linkE := 1, linkW := 1 }, links := upd (upd (S0.stack.links) ((0 : Fin 2)) (fun y0 => { y0 with up := true })) ((1 : Fin 2)) (fun y0 => { y0 with up := true }), paired := true, role := 1, position := 0, fenced := (false) } }), { hdr0 with term := 1 }, 0, 7, 0, 0, by first | rfl | decide, by first | rfl | decide, by first | rfl | decide, by first | rfl | decide, by first | rfl | decide, by first | rfl | decide⟩,
   ⟨{ S0 with stack := { S0.stack with cfg := { S0.stack.cfg with linkE := 1, linkW := 1 }, links := upd (upd (S0.stack.links) ((0 : Fin 2)) (fun y0 => { y0 with up := true, received := ([(0, 5)]), sent := ([(0, 6)]) })) ((1 : Fin 2)) (fun y0 => { y0 with up := true }) } }, ({ S0 with stack := { S0.stack with cfg := { S0.stack.cfg with linkE := 1, linkW := 1 }, links := upd (upd (S0.stack.links) ((0 : Fin 2)) (fun y0 => { y0 with up := true, received := ([(0, 5)]), sent := ([(0, 6)]) })) ((1 : Fin 2)) (fun y0 => { y0 with up := true }) } }), (hdr0), 0, 0, 0, 0, 5, 6, {}, by first | rfl | decide, by first | rfl | decide, by first | rfl | decide⟩,
   ⟨{ S0 with stack := { S0.stack with cfg := { S0.stack.cfg with linkE := 1, linkW := 1 }, links := upd (upd (S0.stack.links) ((0 : Fin 2)) (fun y0 => { y0 with up := true })) ((1 : Fin 2)) (fun y0 => { y0 with up := true }) } }, { hdr0 with dst := 7, hops := 3 }, by first | rfl | decide, by first | rfl | decide, by first | rfl | decide, by first | rfl | decide, by first | rfl | decide, by first | rfl | decide⟩,
   ⟨{ S0 with stack := { S0.stack with cfg := { S0.stack.cfg with linkE := 1, linkW := 1 }, links := upd (upd (S0.stack.links) ((0 : Fin 2)) (fun y0 => { y0 with up := true })) ((1 : Fin 2)) (fun y0 => { y0 with up := true }) } }, { hdr0 with dst := 7, hops := 0 }, by first | rfl | decide, by first | rfl | decide, by first | rfl | decide, by first | rfl | decide, by first | rfl | decide⟩,
   ⟨{ S0 with stack := { S0.stack with cfg := { S0.stack.cfg with linkE := 1, linkW := 1 }, links := upd (upd (S0.stack.links) ((0 : Fin 2)) (fun y0 => { y0 with up := true, channels := (some (1, 2)) })) ((1 : Fin 2)) (fun y0 => { y0 with up := true }), paired := (false) }, clock := { S0.clock with form := (.counter) } }, (0 : Fin 2), 0, _, by first | rfl | decide, by first | rfl | decide, by first | rfl | decide, by first | rfl | decide⟩,
   ⟨{ S0 with stack := { S0.stack with cfg := { S0.stack.cfg with linkE := 1, linkW := 1 }, links := upd (upd (S0.stack.links) ((0 : Fin 2)) (fun y0 => { y0 with up := true, channels := (some (1, 2)) })) ((1 : Fin 2)) (fun y0 => { y0 with up := true }) }, clock := { S0.clock with form := (.counter) } }, (0 : Fin 2), 0, 0, _, by first | rfl | decide, by first | rfl | decide⟩,
   ⟨{ S0 with stack := { S0.stack with cfg := { S0.stack.cfg with linkE := 1, linkW := 1 }, links := upd (upd (S0.stack.links) ((0 : Fin 2)) (fun y0 => { y0 with up := true })) ((1 : Fin 2)) (fun y0 => { y0 with up := true }) } }, (0 : Fin 2), 0, 0, by first | rfl | decide⟩⟩

theorem witness_StackMembershipAndLinksFollowTheirRules :
    (∃ (s : State) (t : State) (r : Req) (p : Pend) (l : Fin 2) (id : Nat), r.len = 24 ∧ ready 0x0B02 r s = some p ∧ serviceState s = true ∧ s.stack.paired = false ∧ s.stack.pairing = none ∧ linkLive s l = true ∧ s.keys.drbgReady = true ∧ s.keys.entropyFail = false ∧ takeLinkChannels l s = some t) ∧
    (∃ (s : State) (r : Req) (l : Fin 2) (id : Nat), Asks 0x0B02 24 r s ∧ (serviceState s = false ∨ s.stack.paired = true ∨ linkLive s l = false)) ∧
    (∃ (s : State) (r : Req) (l : Fin 2) (id : Nat), Asks 0x0B02 24 r s ∧ serviceState s = true ∧ s.stack.paired = false ∧ s.stack.pairing = none ∧ linkLive s l = true ∧ s.keys.drbgReady = true ∧ s.keys.entropyFail = false ∧ takeLinkChannels l s = none) ∧
    (∃ (s : State) (r : Req) (p : Pend), r.len = 0 ∧ ready 0x0B03 r s = some p ∧ s.stack.paired = true ∧ s.stack.detaching = none ∧ s.stack.role ≠ 1) ∧
    (∃ (s : State) (r : Req) (p : Pend), r.len = 0 ∧ ready 0x0B03 r s = some p ∧ s.stack.paired = true ∧ s.stack.detaching = none ∧ s.stack.role = 1 ∧ twinOf s = []) ∧
    (∃ (s : State) (r : Req), Asks 0x0B03 0 r s ∧ s.stack.paired = false) ∧
    (∃ (s : State) (t : State) (r : Req) (v : Nat) (n : Nat), Asks 0x0B04 8 r s ∧ v ≤ 1 ∧ s.stack.paired = true ∧ judgeWitness v n s = .ok t) ∧
    (∃ (s : State) (r : Req) (v : Nat) (n : Nat) (e : Nat), Asks 0x0B04 8 r s ∧ v ≤ 1 ∧ s.stack.paired = true ∧ judgeWitness v n s = .error e) ∧
    (∃ (s : State) (r : Req) (v : Nat) (n : Nat), Asks 0x0B04 8 r s ∧ 1 < v) ∧
    (∃ (s : State) (v : Nat) (n : Nat), n ≤ s.stack.term) ∧
    (∃ (s : State) (v : Nat) (n : Nat), s.stack.term < n ∧ s.stack.role = 3) ∧
    (∃ (s : State) (n : Nat), s.stack.term < n ∧ s.stack.role = 2 ∧ s.stack.members[(0 : Fin 8)].state = 3) ∧
    (∃ (s : State) (l : Fin 2), s.stack.links[l].up = false ∧ linkEnabled s l = true) ∧
    (∃ (s : State) (l : Fin 2), linkEnabled s l = false) ∧
    (∃ (s : State) (l : Fin 2), s.stack.links[l].up = true) ∧
    (∃ (s : State) (l : Fin 2), s.stack.links[l].up = false) ∧
    (∃ (s : State) (l : Fin 2) (p : Fin 8), s.stack.paired = true ∧ s.stack.links[l].suspect = false ∧ s.stack.links[l].peerPos = some p ∧ s.stack.cfg.miss ≤ s.stack.links[l].missed) ∧
    (∃ (s : State) (l : Fin 2), s.stack.links[l].missed < s.stack.cfg.miss) ∧
    (∃ (s : State) (l : Fin 2) (p : Fin 8), s.stack.paired = true ∧ s.stack.links[l].suspect = false ∧ s.stack.links[l].peerPos = some p) ∧
    (∃ (s : State), s.stack.paired = true) ∧
    (∃ (s : State), s.stack.paired = false) ∧
    (∃ (s : State), s.stack.paired = true) ∧
    (∃ (s : State) (l : Fin 2) (type : Nat) (dst : Nat) (hops : Nat) (key : Nat) (b : Bytes) (x : Option ReplBody), linkLive s l = true ∧ stackKeyHeld s key dst = true) ∧
    (∃ (s : State) (id : Nat) (f : ReplFrame), s.stack.frames.find? (fun f => decide (f.id = id)) = some f ∧ f.seqs.length < 64) ∧
    (∃ (s : State) (id : Nat), s.stack.frames = []) ∧
    (∃ (s : State), s.stack.pairing = none) ∧
    (∃ (s : State), s.stack.pairing ≠ none) ∧
    (∃ (s : State), s.stack.witnessWait = true) ∧
    (∃ (s : State), s.stack.witnessWait = false ∧ isPrimary s = true) ∧
    (∃ (s : State) (b : Nat) (k : Bytes), s.stack.newKeyAt = some b ∧ s.stack.newKey = some k ∧ b ≤ nowSec s ∧ s.stack.paired = true) ∧
    (∃ (s : State), s.stack.newKeyAt = none) ∧
    (∃ (s : State), s.stack.detaching ≠ none) ∧
    (∃ (s : State), s.stack.detaching = none) ∧
    (∃ (s : State) (l : Fin 2), s.stack.upstream ≠ some l) ∧
    (∃ (s : State) (l : Fin 2), s.stack.paired = true ∧ s.stack.upstream = some l ∧ s.stack.links[l].exchanges.length < 50) ∧
    (∃ (s : State) (l : Fin 2) (e : Exchange), s.stack.paired = true ∧ s.stack.upstream = some l ∧ 50 ≤ s.stack.links[l].exchanges.length ∧ (∀ x ∈ s.stack.links[l].exchanges, x = e)) :=
  ⟨⟨hold ({ S0 with keys := { S0.keys with ladder := true, roots := upd (S0.keys.roots) ((2 : Fin 3)) (fun y0 => { y0 with present := true }), life := 2, drbgReady := (true), entropyFail := (false) }, stack := { S0.stack with paired := (false), pairing := (none), cfg := { S0.stack.cfg with linkE := 1, linkW := 1 }, links := upd (upd (S0.stack.links) ((0 : Fin 2)) (fun y0 => { y0 with up := true })) ((1 : Fin 2)) (fun y0 => { y0 with up := true }) } }) 0x0B02 (24), _, rq (24), pd 0x0B02 (24), (0 : Fin 2), 0, by first | rfl | decide, rfl, by first | rfl | decide, by first | rfl | decide, by first | rfl | decide, by first | rfl | decide, by first | rfl | decide, by first | rfl | decide, (rfl)⟩,
   ⟨hold (State.reset) 0x0B02 (24), rq (24), (0 : Fin 2), 0, ⟨rfl, _, rfl⟩, by first | rfl | decide⟩,
   ⟨hold ({ S0 with keys := { S0.keys with ladder := true, roots := upd (S0.keys.roots) ((2 : Fin 3)) (fun y0 => { y0 with present := true }), life := 2, drbgReady := (true), entropyFail := (false) }, stack := { S0.stack with paired := (false), pairing := (none), cfg := { S0.stack.cfg with linkE := 1, linkW := 1 }, links := upd (upd (S0.stack.links) ((0 : Fin 2)) (fun y0 => { y0 with up := true })) ((1 : Fin 2)) (fun y0 => { y0 with up := true }) }, nib := (tab fun _ => { degraded := true }) }) 0x0B02 (24), rq (24), (0 : Fin 2), 0, ⟨rfl, _, rfl⟩, by first | rfl | decide, by first | rfl | decide, by first | rfl | decide, by first | rfl | decide, by first | rfl | decide, by first | rfl | decide, by first | rfl | decide⟩,
   ⟨hold ({ S0 with stack := { S0.stack with paired := (true), detaching := (none), role := (2) } }) 0x0B03 (0), rq (0), pd 0x0B03 (0), by first | rfl | decide, rfl, by first | rfl | decide, by first | rfl | decide, by first | rfl | decide⟩,
   ⟨hold ({ S0 with stack := { S0.stack with paired := (true), detaching := (none), role := (1) } }) 0x0B03 (0), rq (0), pd 0x0B03 (0), by first | rfl | decide, rfl, by first | rfl | decide, by first | rfl | decide, by first | rfl | decide, by first | rfl | decide⟩,
   ⟨hold ({ S0 with stack := { S0.stack with paired := (false) } }) 0x0B03 (0), rq (0), ⟨rfl, _, rfl⟩, by first | rfl | decide⟩,
   ⟨hold ({ S0 with stack := { S0.stack with paired := (true) } }) 0x0B04 (8), _, rq (8), 1, 0, ⟨rfl, _, rfl⟩, by first | rfl | decide, by first | rfl | decide, (rfl)⟩,
   ⟨hold ({ S0 with stack := { S0.stack with paired := (true), role := (3) } }) 0x0B04 (8), rq (8), 1, 5, eStack, ⟨rfl, _, rfl⟩, by first | rfl | decide, by first | rfl | decide, (rfl)⟩,
   ⟨hold (State.reset) 0x0B04 (8), rq (8), 2, 0, ⟨rfl, _, rfl⟩, by first | rfl | decide⟩,
   ⟨State.reset, 0, 0, by first | rfl | decide⟩,
   ⟨{ S0 with stack := { S0.stack with role := (3) } }, 0, 1, by first | rfl | decide, by first | rfl | decide⟩,
   ⟨{ S0 with stack := { S0.stack with role := (2), members := upd (S0.stack.members) ((0 : Fin 8)) (fun y0 => { y0 with state := (3) }) } }, 1, by first | rfl | decide, by first | rfl | decide, by first | rfl | decide⟩,
   ⟨{ S0 with stack := { S0.stack with links := upd (S0.stack.links) (((0 : Fin 2))) (fun y0 => { y0 with up := (false) }), cfg := { S0.stack.cfg with linkE := (1) } } }, (0 : Fin 2), by first | rfl | decide, by first | rfl | decide⟩,
   ⟨State.reset, (0 : Fin 2), by first | rfl | decide⟩,
   ⟨{ S0 with stack := { S0.stack with links := upd (S0.stack.links) (((0 : Fin 2))) (fun y0 => { y0 with up := (true) }) } }, (0 : Fin 2), by first | rfl | decide⟩,
   ⟨{ S0 with stack := { S0.stack with links := upd (S0.stack.links) (((0 : Fin 2))) (fun y0 => { y0 with up := (false) }) } }, (0 : Fin 2), by first | rfl | decide⟩,
   ⟨{ S0 with stack := { S0.stack with paired := (true), links := upd (upd (S0.stack.links) (((0 : Fin 2))) (fun y0 => { y0 with suspect := (false), peerPos := (some ((1 : Fin 8))) })) ((0 : Fin 2)) (fun y0 => { y0 with missed := (20) }) } }, (0 : Fin 2), (1 : Fin 8), by first | rfl | decide, by first | rfl | decide, by first | rfl | decide, by first | rfl | decide⟩,
   ⟨State.reset, (0 : Fin 2), by first | rfl | decide⟩,
   ⟨{ S0 with stack := { S0.stack with paired := (true), links := upd (S0.stack.links) (((0 : Fin 2))) (fun y0 => { y0 with suspect := (false), peerPos := (some ((7 : Fin 8))) }) } }, (0 : Fin 2), (7 : Fin 8), by first | rfl | decide, by first | rfl | decide, by first | rfl | decide⟩,
   ⟨{ S0 with stack := { S0.stack with paired := (true) } }, by first | rfl | decide⟩,
   ⟨{ S0 with stack := { S0.stack with paired := (false) } }, by first | rfl | decide⟩,
   ⟨{ S0 with stack := { S0.stack with paired := (true) } }, by first | rfl | decide⟩,
   ⟨{ S0 with stack := { S0.stack with cfg := { S0.stack.cfg with linkE := 1, linkW := 1 }, links := upd (upd (S0.stack.links) ((0 : Fin 2)) (fun y0 => { y0 with up := true })) ((1 : Fin 2)) (fun y0 => { y0 with up := true }) }, keys := { S0.keys with slots := [(40, { state := 1 }), (41, { state := 1 })] } }, (0 : Fin 2), 0x22, 1, 0, 1, ([] : Bytes), none, by first | rfl | decide, by first | rfl | decide⟩,
   ⟨{ S0 with stack := { S0.stack with frames := ([⟨3, 1, .leave 2, List.replicate 63 0⟩]) } }, 3, ⟨3, 1, .leave 2, List.replicate 63 0⟩, by first | rfl | decide, by first | rfl | decide⟩,
   ⟨{ S0 with stack := { S0.stack with frames := ([]) } }, 0, by first | rfl | decide⟩,
   ⟨{ S0 with stack := { S0.stack with pairing := (none) } }, by first | rfl | decide⟩,
   ⟨{ S0 with stack := { S0.stack with pairing := (some pairing0) } }, by first | rfl | decide⟩,
   ⟨{ S0 with stack := { S0.stack with witnessWait := (true) } }, by first | rfl | decide⟩,
   ⟨{ S0 with stack := { S0.stack with witnessWait := (false), paired := true, role := 1, position := 0 } }, by first | rfl | decide, by first | rfl | decide⟩,
   ⟨{ S0 with stack := { S0.stack with newKeyAt := (some (0)), newKey := (some ([])), paired := (true) } }, 0, [], by first | rfl | decide, by first | rfl | decide, by first | rfl | decide, by first | rfl | decide⟩,
   ⟨{ S0 with stack := { S0.stack with newKeyAt := (none) } }, by first | rfl | decide⟩,
   ⟨{ S0 with stack := { S0.stack with detaching := (some (.mailbox 0, 0)) } }, by first | rfl | decide⟩,
   ⟨{ S0 with stack := { S0.stack with detaching := (none) } }, by first | rfl | decide⟩,
   ⟨State.reset, (0 : Fin 2), by first | rfl | decide⟩,
   ⟨{ S0 with stack := { S0.stack with paired := (true), upstream := (some ((0 : Fin 2))), links := upd (S0.stack.links) ((0 : Fin 2)) (fun y0 => { y0 with exchanges := (List.replicate 49 ⟨1, 2⟩) }) } }, (0 : Fin 2), by first | rfl | decide, by first | rfl | decide, by first | rfl | decide⟩,
   ⟨{ S0 with stack := { S0.stack with paired := (true), upstream := (some ((0 : Fin 2))), links := upd (S0.stack.links) ((0 : Fin 2)) (fun y0 => { y0 with exchanges := (List.replicate 50 ⟨1, 2⟩) }) } }, (0 : Fin 2), ⟨1, 2⟩, by first | rfl | decide, by first | rfl | decide, by first | rfl | decide, (fun x h => (List.mem_replicate.mp h).2)⟩⟩

end Sys2Proof.Tests
end

section
/-! SUPPORT. The register window (00 R19, R20; 14 R375, R391): which bits an access writes, what each kind of register
does with them, what a read latches, what the SPI port reaches, and that an unreachable host changes nothing. -/

namespace Sys2Proof.Machine

/-! ### The bits that an access writes (R375) -/

theorem accessMask_qword {a : Nat} (h : a % 8 = 0) : accessMask a 8 = some (2 ^ 64 - 1) :=
  if_pos ⟨rfl, h⟩

theorem accessMask_high_dword {a : Nat} (h : a % 8 = 4) :
    accessMask a 4 = some ((2 ^ 32 - 1) * 2 ^ 32) := by
  have hAligned : a % 4 = 0 := by omega
  simp [accessMask, h, hAligned]

theorem accessMask_eq_none {a z : Nat} (h : z ≠ 4 ∧ z ≠ 8 ∨ a % z ≠ 0) : accessMask a z = none := by
  have hQword : ¬ (z = 8 ∧ a % 8 = 0) := by
    rintro ⟨rfl, h0⟩
    omega
  have hDword : ¬ (z = 4 ∧ a % 4 = 0) := by
    rintro ⟨rfl, h0⟩
    omega
  rw [accessMask, if_neg hQword, if_neg hDword]

theorem execRegisterWrite_of_mask {a z v mask : Nat} {s : State} (hr : hostReachable s = true)
    (hm : accessMask a z = some mask) :
    execRegisterWrite a z v s = .next (regWrite .pcie (a - a % 8) mask (v * 2 ^ (8 * (a % 8))) s) := by
  simp [execRegisterWrite, hr, hm]

theorem execRegisterWrite_of_no_mask {a z v : Nat} {s : State} (hr : hostReachable s = true)
    (hm : accessMask a z = none) : execRegisterWrite a z v s = .next s := by
  simp [execRegisterWrite, hr, hm]

/-! ### What a write does (R20) -/

/-- With all lanes written nothing of the old value is left. -/
theorem merged_all_lanes (old v : Nat) : merged old (2 ^ 64 - 1) v = v % 2 ^ 64 := by
  have hMask : BitVec.ofNat 64 (2 ^ 64 - 1) = BitVec.allOnes 64 := rfl
  simp only [merged, hMask, BitVec.not_allOnes, BitVec.and_zero, BitVec.zero_or, BitVec.and_allOnes,
    BitVec.toNat_ofNat]

/-- INT_CAUSE is W1C. -/
theorem regWrite_intCause (p : Port) (s : State) {v : Nat} (h : v < 2 ^ 64) :
    regWrite p 0x1000 (2 ^ 64 - 1) v s =
      s.modHost fun h => { h with cause := h.cause &&& ~~~ BitVec.ofNat 64 v } := by
  have hBits : v % 2 ^ 64 &&& (2 ^ 64 - 1) = v := by
    rw [Nat.and_two_pow_sub_one_eq_mod, Nat.mod_mod, Nat.mod_eq_of_lt h]
  change (s.modHost fun h => { h with
    cause := h.cause &&& ~~~ BitVec.ofNat 64 (v % 2 ^ 64 &&& (2 ^ 64 - 1)) }) = _
  rw [hBits]

/-- WDT takes a value of its range. -/
theorem regWrite_wdt (p : Port) (s : State) {v : Nat} (hlo : 10 ≤ v) (hhi : v ≤ 10000) :
    regWrite p 0x1018 (2 ^ 64 - 1) v s = s.modHost fun h => { h with wdt := v } := by
  have hValue : merged s.host.wdt (2 ^ 64 - 1) v % 65536 = v := by
    rw [merged_all_lanes]
    omega
  have hRange : within 10 10000 v = true := by simp [within, hlo, hhi]
  change (if within 10 10000 (merged s.host.wdt (2 ^ 64 - 1) v % 65536) = true then
    s.modHost fun h => { h with wdt := merged s.host.wdt (2 ^ 64 - 1) v % 65536 } else s) = _
  rw [hValue, if_pos hRange]

/-- The identity block, the mirrors and the gaps of the window keep their values. -/
theorem regWrite_readOnly_block (p : Port) (s : State) {a : Nat} (mask v : Nat)
    (h : a < 0x1000 ∨ (0x5000 ≤ a ∧ a < 0x6000) ∨ (0x7000 ≤ a ∧ a < 0x10000) ∨
      (0x12000 ≤ a ∧ a < 0xF00000)) : regWrite p a mask v s = s := by
  rcases h with h | ⟨hlo, hhi⟩ | ⟨hlo, hhi⟩ | ⟨hlo, hhi⟩ <;>
    simp (disch := omega) only [regWrite, if_pos, if_neg]

/-! ### Reads with an effect (R375) -/

/-- Below DP_DATA a read has no effect of its own. -/
theorem readWord_below_dataPort {a : Nat} (s : State) (h : a < 0x4008) : readWord a s = (regRead s a, s) := by
  have hData : a ≠ 0x4008 := by omega
  have hWindow : ¬ (0x100000 ≤ a ∧ a < 0x105000 ∧ a % 0x1000 = 0) := by omega
  rw [readWord, if_neg hData, if_neg hWindow]

theorem execLowHalfRead_identity {a : Nat} {s : State} (hr : hostReachable s = true) (ha : a % 8 = 0)
    (hlt : a < 0x38) :
    execLowHalfRead a s = .next (answerRead [regRead s a % 2 ^ 32]
      (s.modHost fun h => { h with latchAddr := some (a + 4, regRead s a / 2 ^ 32) })) := by
  have hAligned : a % 4 = 0 := by omega
  have hReadOnly : isReadOnly a = true := by simp [isReadOnly, hlt]
  simp [execLowHalfRead, hr, hAligned, ha, readWord_below_dataPort s (show a < 0x4008 by omega), hReadOnly]

theorem execLowHalfRead_latched {a v : Nat} {s : State} (hr : hostReachable s = true) (ha : a % 8 = 4)
    (hl : s.host.latchAddr = some (a, v)) :
    execLowHalfRead a s =
      .next (answerRead [v] (s.modHost fun h => { h with latchAddr := none })) := by
  have hAligned : a % 4 = 0 := by omega
  simp [execLowHalfRead, hr, hAligned, ha, hl]

/-! ### The SPI management port (R391) -/

theorem spiReach_iff (a : Nat) :
    spiReach a = true ↔ a % 8 = 0 ∧ (a < 0x1000 ∨ 0x3000 ≤ a ∧ a < 0x6000) := by
  simp [spiReach]

/-- From an address that is no multiple of 8 on, every word reads 0. -/
theorem spiReads_misaligned (n : Nat) {a : Nat} (s : State) (h : a % 8 ≠ 0) :
    spiReads n a s = (List.replicate n 0, s) := by
  induction n generalizing a with
  | zero => rfl
  | succ n ih =>
    have hOut : spiReach a = false :=
      Bool.eq_false_iff.mpr fun hIn => h ((spiReach_iff a).mp hIn).1
    have hNext : (a + 8) % 8 ≠ 0 := by omega
    simp [spiReads, hOut, ih hNext, List.replicate_succ]

theorem spiReads_identity {a : Nat} (s : State) (ha : a % 8 = 0) (hlt : a < 0x1000) :
    spiReads 1 a s = ([regRead s a], s) := by
  have hIn : spiReach a = true ∧ ¬ (0x4018 ≤ a ∧ a < 0x4030) :=
    ⟨(spiReach_iff a).mpr ⟨ha, .inl hlt⟩, by omega⟩
  simp [spiReads, hIn, readWord_below_dataPort s (show a < 0x4008 by omega)]

theorem execSpiRead_out_of_reset {a n : Nat} {s : State} (h : s.power.inReset = false) :
    execSpiRead a n s = .next (answerRead (spiReads n a s).1 (spiReads n a s).2) := by
  simp [execSpiRead, h]

theorem execSpiWrite_word {a v : Nat} {s : State} (h : s.power.inReset = false) :
    execSpiWrite a [v] s = .next (if spiReach a then regWrite .spi a (2 ^ 64 - 1) v s else s) := by
  simp [execSpiWrite, spiWrites, h]

/-! ### A host that does not reach the device (R376) -/

section
variable {s : State} (h : hostReachable s = false)
include h

theorem ifReachable_unreachable (o : Out) : (if hostReachable s then o else .next s) = .next s := by
  simp [h]

theorem ifUnreachable_unreachable (o : Out) : (if !hostReachable s then .next s else o) = .next s := by
  simp [h]

theorem execRingEnable_unreachable (tx : Bool) (r : Fin 64) (v : Nat) : execRingEnable tx r v s = .next s := by
  simp [execRingEnable, h]

theorem execRingDisable_unreachable (tx : Bool) (r : Fin 64) (v : Nat) : execRingDisable tx r v s = .next s := by
  simp [execRingDisable, h]

theorem execLowHalfRead_unreachable (a : Nat) : execLowHalfRead a s = .next s := by
  simp [execLowHalfRead, h]

theorem execPanQueueDelivery_unreachable (q : Fin 5) : execPanQueueDelivery q s = .next s := by
  simp [execPanQueueDelivery, h]

theorem execCwLatch_unreachable : execCwLatch s = .next s := by
  simp [execCwLatch, h]

end

/-- Settles O22: each clause is the law of its kind of access above. -/
theorem registersActByTypeAndOnlyForAReachableHost :
    Obligations.RegistersActByTypeAndOnlyForAReachableHost := by
  refine ⟨fun s a v hr ha => ?qword, fun s a v hr ha => ?highDword, fun s a z v hr hz => ?noLanes,
    fun p s v hv => regWrite_intCause p s hv, fun p s a mask v ha => regWrite_readOnly_block p s mask v ha,
    fun p s v hlo hhi => regWrite_wdt p s hlo hhi,
    fun s a hr ha hlt => execLowHalfRead_identity hr ha hlt,
    fun s a v hr ha hl => execLowHalfRead_latched hr ha hl,
    fun s a hs ha hlt => ?spiRead, fun s a n hs ha => ?spiReadMisaligned,
    fun s a v hs ha hlo hhi => ?spiWrite, fun s a v hs ha => ?spiWriteOutside, fun s h => ?unreachable⟩
  case qword =>
    rw [exec_registerWrite, execRegisterWrite_of_mask hr (accessMask_qword ha), ha]
    simp
  case highDword => rw [exec_registerWrite, execRegisterWrite_of_mask hr (accessMask_high_dword ha), ha]
  case noLanes => exact execRegisterWrite_of_no_mask hr (accessMask_eq_none hz)
  case spiRead => rw [exec_spiRead, execSpiRead_out_of_reset hs, spiReads_identity s ha hlt]
  case spiReadMisaligned => rw [exec_spiRead, execSpiRead_out_of_reset hs, spiReads_misaligned n s ha]
  case spiWrite =>
    rw [exec_spiWrite, execSpiWrite_word hs, if_pos ((spiReach_iff a).mpr ⟨ha, .inr ⟨hlo, hhi⟩⟩)]
  case spiWriteOutside =>
    have hOut : ¬ spiReach a = true := by
      rw [spiReach_iff]
      omega
    rw [exec_spiWrite, execSpiWrite_word hs, if_neg hOut]
  case unreachable =>
    exact ⟨fun _ => ifReachable_unreachable h _, ifReachable_unreachable h _,
      execRingEnable_unreachable h, execRingDisable_unreachable h,
      fun _ _ _ => ifReachable_unreachable h _, execLowHalfRead_unreachable h,
      fun _ _ _ => ifUnreachable_unreachable h _, fun _ => ifReachable_unreachable h _,
      fun _ _ => ifReachable_unreachable h _, fun _ => ifReachable_unreachable h _,
      execPanQueueDelivery_unreachable h, ifUnreachable_unreachable h _,
      fun _ => ifReachable_unreachable h _, fun _ _ _ => ifUnreachable_unreachable h _,
      fun _ => ifReachable_unreachable h _, fun _ => ifReachable_unreachable h _,
      execCwLatch_unreachable h⟩

end Sys2Proof.Machine
end

section
/-! SUPPORT. Pace and speed modes (01 R42 to R48): what a pace-lead judgement and the begin and the end of a change
leave in the power part, and that they leave every launch as it was. -/

namespace Sys2Proof.Machine

/-! ### Parts that the shared operations leave -/

@[simp] theorem raise_power (code a b : Nat) (s : State) : (raise code a b s).power = s.power := rfl
@[simp] theorem raise_net (code a b : Nat) (s : State) : (raise code a b s).net = s.net := rfl
@[simp] theorem completeCmd_power (op q st : Nat) (src : Source) (s : State) :
    (completeCmd op q st src s).power = s.power := rfl
@[simp] theorem completeCmd_net (op q st : Nat) (src : Source) (s : State) :
    (completeCmd op q st src s).net = s.net := rfl
@[simp] theorem settleBuckets_macs (s : State) : (settleBuckets s).net.macs = s.net.macs := rfl

@[simp] theorem finish_net (src : Source) (st : Nat) (b : Bytes) (s : State) : (finish src st b s).net = s.net :=
  (finish_core src st b s).same .net (by decide)

@[simp] theorem judgePace_net (s : State) : (judgePace s).net = s.net :=
  (judgePace_core s).same .net (by decide)

/-! ### The pace-lead event (01 R44) -/

/-- The power part with the flags of the pace-lead event at other values. -/
def Power.withLeads (w : Power) (nts ptp sched : Bool) : Power :=
  { w with leadNts := nts, leadPtp := ptp, leadSched := sched }

theorem judgePath_begins {p : Path} {s : State} (hWas : pathLeads s p = false)
    (hIs : floorOf (ruleMode s) < paceLead s p) :
    judgePath p s = raise 0x0103 (pathCode p + 256) (launchLead s p) (setLead p true s) := by
  simp [judgePath, hWas, hIs]

theorem judgePath_ends {p : Path} {s : State} (hWas : pathLeads s p = true)
    (hIs : paceLead s p ≤ floorOf (ruleMode s)) :
    judgePath p s = raise 0x0103 (pathCode p) (launchLead s p) (setLead p false s) := by
  simp [judgePath, hWas, Nat.not_lt.mpr hIs]

theorem setLead_power (p : Path) (b : Bool) (s : State) :
    ∃ x y z, (setLead p b s).power = s.power.withLeads x y z := by
  cases p
  case nts => exact ⟨b, s.power.leadPtp, s.power.leadSched, rfl⟩
  case ptp => exact ⟨s.power.leadNts, b, s.power.leadSched, rfl⟩
  case sched => exact ⟨s.power.leadNts, s.power.leadPtp, b, rfl⟩

theorem judgePath_power (p : Path) (s : State) :
    ∃ x y z, (judgePath p s).power = s.power.withLeads x y z := by
  dsimp only [judgePath]
  split
  · exact ⟨s.power.leadNts, s.power.leadPtp, s.power.leadSched, rfl⟩
  · exact setLead_power p _ s

theorem judgePace_power (s : State) : ∃ x y z, (judgePace s).power = s.power.withLeads x y z := by
  obtain ⟨_, _, _, hNts⟩ := judgePath_power .nts s
  obtain ⟨_, _, _, hPtp⟩ := judgePath_power .ptp (judgePath .nts s)
  obtain ⟨x, y, z, hSched⟩ := judgePath_power .sched (judgePath .ptp (judgePath .nts s))
  exact ⟨x, y, z, by rw [judgePace, hSched, hPtp, hNts]; rfl⟩

/-! ### A change of mode (01 R47, R48) -/

theorem changeRule_power (f : Power → Power) (s : State) :
    ∃ x y z, (changeRule f s).power = (f s.power).withLeads x y z :=
  judgePace_power ((settleBuckets s).modPower f)

@[simp] theorem changeRule_macs (f : Power → Power) (s : State) : (changeRule f s).net.macs = s.net.macs := by
  rw [changeRule, judgePace_net, modPower_net, settleBuckets_macs]

theorem beginChange_power (m : SpeedMode) (g : Bool) (src : Option (Source × Nat)) (s : State) :
    ∃ x y z, (beginChange m g src s).power = { s.power with
      change := some { target := m, stage := if floorOf s.power.mode < floorOf m then .drain else .rampUp,
                       guard := g, source := src, firstNew := s.net.nextRes } }.withLeads x y z := by
  simpa [beginChange] using changeRule_power _ s

@[simp] theorem beginChange_macs (m : SpeedMode) (g : Bool) (src : Option (Source × Nat)) (s : State) :
    (beginChange m g src s).net.macs = s.net.macs :=
  changeRule_macs _ s

theorem endChange_power (c : ModeChange) (above : Bool) (s : State) :
    ∃ x y z, (endChange c above s).power =
      { s.power with mode := c.target, change := none, lastGuard := c.guard }.withLeads x y z := by
  cases h : c.source <;> simpa [endChange, h] using changeRule_power _ s

@[simp] theorem endChange_macs (c : ModeChange) (above : Bool) (s : State) :
    (endChange c above s).net.macs = s.net.macs := by
  cases h : c.source <;> simp [endChange, h]

theorem endChange_mode_change_setPointMv (c : ModeChange) (above : Bool) (s : State) :
    (endChange c above s).power.mode = c.target ∧ (endChange c above s).power.change = none ∧
      (endChange c above s).power.setPointMv = s.power.setPointMv := by
  obtain ⟨_, _, _, h⟩ := endChange_power c above s
  rw [h]
  exact ⟨rfl, rfl, rfl⟩

/-! ### The slower of two modes (01 R48) -/

theorem floorOf_ruleMode {s : State} {c : ModeChange} (h : s.power.change = some c) :
    floorOf (ruleMode s) = max (floorOf s.power.mode) (floorOf c.target) := by
  simp only [ruleMode, h]
  split
  case isTrue hSlower => exact (Nat.max_eq_right (Nat.le_of_lt hSlower)).symm
  case isFalse hFaster => exact (Nat.max_eq_left (Nat.le_of_not_lt hFaster)).symm

/-- The mode of the higher floor has the lower rate. -/
theorem ntsRate_le_of_floorOf_le {m n : SpeedMode} (h : floorOf m ≤ floorOf n) : ntsRate n ≤ ntsRate m := by
  revert h
  cases m <;> cases n <;> decide

theorem ntsRate_ruleMode {s : State} {c : ModeChange} (h : s.power.change = some c) :
    ntsRate (ruleMode s) = min (ntsRate s.power.mode) (ntsRate c.target) := by
  simp only [ruleMode, h]
  split
  case isTrue hSlower => exact (Nat.min_eq_right (ntsRate_le_of_floorOf_le (Nat.le_of_lt hSlower))).symm
  case isFalse hFaster => exact (Nat.min_eq_left (ntsRate_le_of_floorOf_le (Nat.le_of_not_lt hFaster))).symm

/-! ### SPEED_MODE (01 R46, R48; 18 R488) -/

/-- What SPEED_MODE answers to a MODE that names a mode. -/
def speedModeAnswer (r : Req) (p : Pend) (m : SpeedMode) (s : State) : State :=
  if s.power.change.isSome then finish r.src eState [] s
  else if s.power.regulatorDead then finish r.src eHw [] s
  else if m = s.power.mode then
    finish r.src stAccepted [] (completeCmd 0x0101 p.sequence stOk r.src
      (raise 0x0101 (modeArg m m false false) 0 s))
  else finish r.src stAccepted [] (beginChange m false (some (r.src, p.sequence)) s)

theorem execSpeedMode_valid {r : Req} {p : Pend} {n : Nat} {m : SpeedMode} {s : State} (hLen : r.len = 1)
    (hReady : ready 0x0101 r s = some p) (hMode : modeOf n = some m) :
    execSpeedMode r n s = .next (speedModeAnswer r p m s) := by
  rw [execSpeedMode, runCommand_ready hReady (by simp [hLen])]
  simp only [hMode, speedModeAnswer]
  by_cases hChange : s.power.change.isSome = true
  · simp only [if_pos hChange, answer]
  · by_cases hDead : s.power.regulatorDead = true
    · simp only [if_neg hChange, if_pos hDead, answer]
    · by_cases hSame : m = s.power.mode
      · simp only [if_neg hChange, if_neg hDead, if_pos hSame, answer]
      · simp only [if_neg hChange, if_neg hDead, if_neg hSame, answer]

theorem execSpeedMode_invalid {r : Req} {n : Nat} {s : State} (h : Asks 0x0101 1 r s)
    (hMode : modeOf n = none) : execSpeedMode r n s = .next (finish r.src eRange [] s) := by
  obtain ⟨hLen, p, hReady⟩ := h
  rw [execSpeedMode, runCommand_ready hReady (by simp [hLen]), hMode]
  rfl

theorem modeOf_eq_some_of_le {n : Nat} (h : n ≤ 2) : ∃ m, modeOf n = some m := by
  match n, h with
  | 0, _ => exact ⟨.sprint, rfl⟩
  | 1, _ => exact ⟨.balanced, rfl⟩
  | 2, _ => exact ⟨.quiet, rfl⟩

theorem modeOf_eq_none_of_gt {n : Nat} (h : 2 < n) : modeOf n = none := by
  match n, h with
  | _ + 3, _ => rfl

theorem execSpeedMode_during_change {r : Req} {n : Nat} {s : State} (h : Asks 0x0101 1 r s) (hn : n ≤ 2)
    (hChange : s.power.change ≠ none) : execSpeedMode r n s = .next (finish r.src eState [] s) := by
  obtain ⟨hLen, p, hReady⟩ := h
  obtain ⟨m, hMode⟩ := modeOf_eq_some_of_le hn
  rw [execSpeedMode_valid hLen hReady hMode, speedModeAnswer, if_pos (Option.isSome_iff_ne_none.mpr hChange)]

theorem execSpeedMode_regulatorDead {r : Req} {n : Nat} {s : State} (h : Asks 0x0101 1 r s) (hn : n ≤ 2)
    (hChange : s.power.change = none) (hDead : s.power.regulatorDead = true) :
    execSpeedMode r n s = .next (finish r.src eHw [] s) := by
  obtain ⟨hLen, p, hReady⟩ := h
  obtain ⟨m, hMode⟩ := modeOf_eq_some_of_le hn
  simp [execSpeedMode_valid hLen hReady hMode, speedModeAnswer, hChange, hDead]

@[simp] theorem speedModeAnswer_macs (r : Req) (p : Pend) (m : SpeedMode) (s : State) :
    (speedModeAnswer r p m s).net.macs = s.net.macs := by
  unfold speedModeAnswer
  split
  · rw [finish_net]
  · split
    · rw [finish_net]
    · split
      · rw [finish_net, completeCmd_net, raise_net]
      · rw [finish_net, beginChange_macs]

/-! ### The rows of a change keep every launch (01 R48) -/

/-- A next state has the launch calendars, their counters and the frames in transmission of `s`. -/
def MacsKept (s : State) (o : Out) : Prop := ∀ t, o = .next t → t.net.macs = s.net.macs

theorem macsKept_next {s t : State} (h : t.net.macs = s.net.macs) : MacsKept s (.next t) := by
  rintro _ ⟨⟩
  exact h

theorem execSpeedMode_macsKept (r : Req) (n : Nat) (s : State) : MacsKept s (execSpeedMode r n s) := by
  cases hReady : ready 0x0101 r s with
  | none =>
    rw [execSpeedMode, runCommand_absent hReady]
    exact macsKept_next rfl
  | some p =>
    by_cases hLen : r.len = 1
    · cases hMode : modeOf n with
      | none => exact execSpeedMode_invalid ⟨hLen, p, hReady⟩ hMode ▸ macsKept_next (by simp)
      | some m => exact execSpeedMode_valid hLen hReady hMode ▸ macsKept_next (by simp)
    · rw [execSpeedMode, runCommand_length hReady (by simp [hLen])]
      exact macsKept_next (by simp)

theorem execThermalGuard_macsKept (s : State) : MacsKept s (execThermalGuard s) := by
  unfold execThermalGuard
  split <;> exact macsKept_next (by simp)

theorem execModeReservationsDrained_macsKept (s : State) : MacsKept s (execModeReservationsDrained s) := by
  unfold execModeReservationsDrained
  split
  · split <;> exact macsKept_next rfl
  · exact macsKept_next rfl

theorem execSupplySetPointReached_macsKept (s : State) : MacsKept s (execSupplySetPointReached s) := by
  unfold execSupplySetPointReached
  split
  · split <;> exact macsKept_next (by simp)
  · exact macsKept_next rfl

theorem execPaceWithinGoverningRatio_macsKept (s : State) : MacsKept s (execPaceWithinGoverningRatio s) := by
  unfold execPaceWithinGoverningRatio
  split
  · split <;> exact macsKept_next (by simp)
  · exact macsKept_next rfl

theorem execGoverningWaitTimeout_macsKept (s : State) : MacsKept s (execGoverningWaitTimeout s) := by
  unfold execGoverningWaitTimeout
  split
  · split <;> exact macsKept_next (by simp)
  · exact macsKept_next rfl

/-- Settles O40: each row's calendars are kept, and the floor and the rate in force are those of `ruleMode`. -/
theorem speedModeChangesKeepTheLaunches : Obligations.SpeedModeChangesKeepTheLaunches := by
  refine ⟨fun s t r n => execSpeedMode_macsKept r n s t, fun s => execThermalGuard_macsKept s,
    fun s => execModeReservationsDrained_macsKept s, fun s => execSupplySetPointReached_macsKept s,
    fun s => execPaceWithinGoverningRatio_macsKept s, fun s => execGoverningWaitTimeout_macsKept s,
    fun s c p h => ?floor, fun s c h => ?rate, fun s r n h hn hc => execSpeedMode_during_change h hn hc⟩
  case floor => rw [launchLead, floorOf_ruleMode h]
  case rate => rw [ntsRateNow, ntsRate_ruleMode h]

end Sys2Proof.Machine
end

section
/-! SUPPORT. The rows of a speed-mode change, the temperature and the pace (01 R42 to R49; 18 R488, R499, R500), and
the obligation that they follow their rules. -/

namespace Sys2Proof.Machine

/-! ### The steps of a change (01 R47) -/

section
variable {s : State} {c : ModeChange} (h : s.power.change = some c)
include h

theorem execModeReservationsDrained_drained (hStage : c.stage = .drain) (hOld : oldReservation c s = false) :
    execModeReservationsDrained s = .next (s.modPower fun p =>
      { p with change := some { c with stage := .rampDown } }) := by
  simp [execModeReservationsDrained, h, hStage, hOld]

theorem execModeReservationsDrained_standing (hOld : oldReservation c s = true) :
    execModeReservationsDrained s = .next s := by
  simp [execModeReservationsDrained, h, hOld]

theorem execSupplySetPointReached_rampUp (hStage : c.stage = .rampUp) :
    execSupplySetPointReached s = .next (s.modPower fun p =>
      { p with setPointMv := supplyTarget c.target, change := some { c with stage := .governing } }) := by
  simp [execSupplySetPointReached, h, hStage]

theorem execSupplySetPointReached_rampDown (hStage : c.stage = .rampDown) :
    execSupplySetPointReached s =
      .next (endChange c false (s.modPower fun p => { p with setPointMv := supplyTarget c.target })) := by
  simp [execSupplySetPointReached, h, hStage]

theorem execPaceWithinGoverningRatio_governing (hStage : c.stage = .governing)
    (hGoverns : governs c.target s = true) :
    execPaceWithinGoverningRatio s = .next (endChange c false s) := by
  simp [execPaceWithinGoverningRatio, h, hStage, hGoverns]

theorem execGoverningWaitTimeout_governing (hStage : c.stage = .governing) :
    execGoverningWaitTimeout s = .next (endChange c (!governs c.target s) s) := by
  simp [execGoverningWaitTimeout, h, hStage]

end

/-- 18 R488: the set point and the mode stay, and no change is in progress. -/
theorem execRegulatorTimeout_power (s : State) : ∃ t x y z, execRegulatorTimeout s = .next t ∧
    t.power = { s.power with regulatorFaults := s.power.regulatorFaults + 1, regulatorDead := true,
                             change := none }.withLeads x y z := by
  cases h : s.power.change with
  | none =>
    simp only [execRegulatorTimeout, modPower_power, h]
    exact ⟨_, s.power.leadNts, s.power.leadPtp, s.power.leadSched, rfl, by simp [Power.withLeads, h]⟩
  | some c =>
    obtain ⟨x, y, z, hPower⟩ := changeRule_power (fun p => { p with regulatorDead := true, change := none })
      (s.modPower fun p => { p with regulatorFaults := p.regulatorFaults + 1 })
    simp only [execRegulatorTimeout, modPower_power, h]
    refine ⟨_, x, y, z, rfl, ?_⟩
    cases c.source <;> exact hPower

/-! ### Temperature (01 R49; 18 R499, R500) -/

theorem execThermalGuard_hot {s : State} (hMode : s.power.mode = .sprint) (hChange : s.power.change = none)
    (hHot : 103 * 128 ≤ s.power.junction) (hLive : s.power.regulatorDead = false) :
    execThermalGuard s =
      .next (beginChange .balanced true none (raise 0x0102 (toCode 16 s.power.junction) 0 s)) :=
  if_pos ⟨hMode, hChange, hHot, by simp [hLive]⟩

theorem execThermalGuard_cool {s : State} (h : s.power.junction < 103 * 128) :
    execThermalGuard s = .next s :=
  if_neg fun ⟨_, _, hHot, _⟩ => by omega

theorem execThermtrip_hot {s : State} (hHot : 115 * 128 ≤ s.power.junction) (hOut : s.power.inReset = false) :
    execThermtrip s = .next (s.modPower fun p => { p with thermtripLow := true }) :=
  if_pos ⟨hHot, by simp [hOut]⟩

theorem execThermtrip_cool {s : State} (h : s.power.junction < 115 * 128) : execThermtrip s = .next s :=
  if_neg fun ⟨hHot, _⟩ => by omega

/-- `maxInt` is the maximum of the library. -/
theorem maxInt_eq_max? (x : Int) (l : List Int) : (x :: l).max? = some (maxInt x l) := by
  induction l generalizing x with
  | nil => rfl
  | cons y ys ih => exact ih (max x y)

/-- A sensor's reading after its TEMP_OFFSET (17 R476). -/
def sensorTemp (l : List Int) (s : State) (i : Nat) : Int :=
  l.getD i 0 + ofCode 16 (calNat s (25432 + 2 * i) 2)

/-- The highest of the 16 sensors. -/
def hottest (l : List Int) (s : State) : Int :=
  maxInt (sensorTemp l s 0) ((List.range 16).map (sensorTemp l s))

theorem hottest_isMax (l : List Int) (s : State) :
    (∃ i : Fin 16, hottest l s = sensorTemp l s i) ∧ ∀ i : Fin 16, sensorTemp l s i ≤ hottest l s := by
  obtain ⟨hMem, hMax⟩ := List.max?_eq_some_iff.mp
    (maxInt_eq_max? (sensorTemp l s 0) ((List.range 16).map (sensorTemp l s)))
  constructor
  · rcases List.mem_cons.mp hMem with hFirst | hRest
    · exact ⟨0, hFirst⟩
    · obtain ⟨i, hi, hEq⟩ := List.mem_map.mp hRest
      exact ⟨⟨i, List.mem_range.mp hi⟩, hEq.symm⟩
  · exact fun i => hMax _ (List.mem_cons_of_mem _ (List.mem_map_of_mem (List.mem_range.mpr i.isLt)))

theorem execTemperatureSample_sixteen {l : List Int} (s : State) (h : l.length = 16) :
    execTemperatureSample l s = .next (s.modPower fun p => { p with
      junction := hottest l s,
      temps := (s.clock.ticks.toNat, hottest l s) :: keepSince (tempFloor s) (tempsOf s) }) :=
  if_pos h

/-! ### Pace (01 R43) -/

theorem execPaceUpdate_fitting (s : State) {a b c d e : Nat} (ha : a < 65536) (hb : b < 65536)
    (hc : c < 65536) (hd : d < 65536) (he : e < 65536) :
    execPaceUpdate a b c d e s = .next (judgePace (s.modPower fun p =>
      { p with paceNts := a, pacePtp := b, paceSched := c, paceHost := d, paceDevice := e })) := by
  simp [execPaceUpdate, paceOk, ha, hb, hc, hd, he]

theorem tab_getD_toList {n d : Nat} {l : List Nat} (h : l.length = n) :
    (tab fun i : Fin n => l.getD i.val d).toList = l := by
  subst h
  simp [tab]

theorem execPaceMirrorUpdate_fitting (s : State) {l : List Nat} (hLen : l.length = 11)
    (hFit : ∀ x ∈ l, x < 65536) :
    execPaceMirrorUpdate l s = .next (s.modPower fun p => { p with mirror := tab fun i => l.getD i.val 0 }) :=
  if_pos ⟨hLen, by simpa [paceOk] using hFit⟩

/-- Settles O41: each clause is the law of its row above. -/
theorem powerPaceAndTemperatureFollowTheirRules : Obligations.PowerPaceAndTemperatureFollowTheirRules := by
  refine ⟨fun s r p n m hLen hReady hMode hChange hLive hNew => ?newMode,
    fun s r p n m hLen hReady hMode hChange hLive hSame => ?sameMode,
    fun s r n h hn hc => execSpeedMode_during_change h hn hc,
    fun s r n h hn hc hd => execSpeedMode_regulatorDead h hn hc hd,
    fun s r n h hn => execSpeedMode_invalid h (modeOf_eq_none_of_gt hn),
    fun s m g src => ?begins,
    fun s c h hStage hOld => execModeReservationsDrained_drained h hStage hOld,
    fun s c h _ hOld => execModeReservationsDrained_standing h hOld,
    fun s c h hStage => execSupplySetPointReached_rampUp h hStage,
    fun s c h hStage => ?rampDown, fun s c h hStage hGoverns => ?governing, fun s c h hStage => ?timeout,
    fun s => ?regulator,
    fun s hMode hChange hHot hLive => execThermalGuard_hot hMode hChange hHot hLive,
    fun s h => execThermalGuard_cool h, fun s l h => ?temperature,
    fun s hHot hOut => execThermtrip_hot hHot hOut, fun s h => execThermtrip_cool h,
    fun s a b c d e ha hb hc hd he => execPaceUpdate_fitting s ha hb hc hd he,
    fun s p hWas hIs => judgePath_begins hWas hIs, fun s p hWas hIs => judgePath_ends hWas hIs,
    fun s l hLen hFit => ?mirror⟩
  case newMode =>
    rw [exec_speedMode, execSpeedMode_valid hLen hReady hMode]
    simp [speedModeAnswer, hChange, hLive, hNew]
  case sameMode =>
    rw [exec_speedMode, execSpeedMode_valid hLen hReady hMode]
    simp [speedModeAnswer, hChange, hLive, hSame]
  case begins =>
    obtain ⟨_, _, _, h⟩ := beginChange_power m g src s
    rw [h]
    exact ⟨_, rfl, rfl, rfl, rfl, rfl, rfl⟩
  case rampDown => exact ⟨_, execSupplySetPointReached_rampDown h hStage,
    endChange_mode_change_setPointMv c false _⟩
  case governing =>
    obtain ⟨hMode, hChange, -⟩ := endChange_mode_change_setPointMv c false s
    exact ⟨_, execPaceWithinGoverningRatio_governing h hStage hGoverns, hMode, hChange⟩
  case timeout =>
    obtain ⟨hMode, hChange, -⟩ := endChange_mode_change_setPointMv c (!governs c.target s) s
    exact ⟨_, execGoverningWaitTimeout_governing h hStage, hMode, hChange⟩
  case regulator =>
    obtain ⟨t, _, _, _, hNext, hPower⟩ := execRegulatorTimeout_power s
    refine ⟨t, hNext, ?_⟩
    rw [hPower]
    exact ⟨rfl, rfl, rfl, rfl, rfl⟩
  case temperature =>
    obtain ⟨hAttained, hUpper⟩ := hottest_isMax l s
    exact ⟨_, execTemperatureSample_sixteen s h, hUpper, hAttained, rfl⟩
  case mirror =>
    exact ⟨_, execPaceMirrorUpdate_fitting s hLen hFit, tab_getD_toList hLen, rfl, rfl⟩

end Sys2Proof.Machine
end

section
/-! SUPPORT. What the operations on a reference leave in its record (02 R65, R66, R73 to R77), so that no later proof
unfolds them. -/

namespace Sys2Proof.Machine

/-! ### One record among twenty -/

theorem get_upd_same {α : Type} {n : Nat} (v : Vector α n) (i : Fin n) (f : α → α) :
    (upd v i f)[i] = f v[i] := by simp [get_upd]

theorem get_upd_of_ne {α : Type} {n : Nat} (v : Vector α n) {i j : Fin n} (f : α → α) (h : i ≠ j) :
    (upd v i f)[j] = v[j] := by simp [get_upd, Fin.val_ne_of_ne h]

theorem upd_congr {α : Type} {n : Nat} (v : Vector α n) (i : Fin n) {f g : α → α} (h : f v[i] = g v[i]) :
    upd v i f = upd v i g := by
  rw [upd, upd, h]

theorem upd_upd {α : Type} {n : Nat} (v : Vector α n) (i : Fin n) (f g : α → α) :
    upd (upd v i f) i g = upd v i fun x => g (f x) := by
  simp [upd]

theorem upd_eq_self {α : Type} {n : Nat} (v : Vector α n) (i : Fin n) {f : α → α} (h : f v[i] = v[i]) :
    upd v i f = v := by
  ext j hj
  rw [get_upd]
  split
  case isTrue hij =>
    subst hij
    exact h
  case isFalse => rfl

/-- A figure of the state that each step keeps stands after all of them. -/
theorem forAll_keeps {α β : Type} (g : State → β) {f : α → State → State} (h : ∀ a t, g (f a t) = g t)
    (l : List α) (s : State) : g (forAll l f s) = g s := by
  induction l generalizing s with
  | nil => rfl
  | cons a l ih => exact (ih (f a s)).trans (h a s)

/-- The mask of reason `c` has bit `c` only (R79). -/
theorem getLsbD_reasonMask {c : Nat} (k : Nat) (h : c < 16) :
    (BitVec.ofNat 16 (2 ^ c)).getLsbD k = decide (c = k) := by
  rw [BitVec.getLsbD_ofNat, Nat.testBit_two_pow]
  by_cases hk : c = k
  · subst hk
    simp [h]
  · simp [hk]

/-! ### Contribution and reasons (R66, R74, R75) -/

theorem withContributing_self {r : Ref} {b : Bool} (h : r.contributing = b) : { r with contributing := b } = r := by
  subst h
  rfl

theorem stopContribution_refs (i : Fin 20) (s : State) :
    (stopContribution i s).refs = upd s.refs i fun r => { r with contributing := false } := by
  unfold stopContribution
  split
  case isTrue => exact forAll_keeps State.refs (fun c t => (freezeDpll_core c t).same .refs (by decide)) _ _
  case isFalse h => exact (upd_eq_self _ _ (withContributing_self (Bool.eq_false_iff.mpr h))).symm

theorem startContribution_refs (i : Fin 20) (s : State) :
    (startContribution i s).refs = upd s.refs i fun r => { r with contributing := true } := by
  unfold startContribution
  split
  case isTrue h => exact (upd_eq_self _ _ (withContributing_self h)).symm
  case isFalse => exact forAll_keeps State.refs (fun c t => (thawDpll_core c t).same .refs (by decide)) _ _

/-- The record of a reference that is not OFF once reason `c` is detected. -/
def Ref.accused (c : Nat) (r : Ref) : Ref :=
  { r with reasons := r.reasons ||| BitVec.ofNat 16 (2 ^ c), contributing := false }

/-- The record once reason `c` no longer holds. -/
def Ref.cleared (c : Nat) (r : Ref) : Ref :=
  { r with reasons := r.reasons &&& ~~~(BitVec.ofNat 16 (2 ^ c)) }

theorem accused_reason {c : Nat} (k : Nat) (r : Ref) (h : c < 16) :
    (r.accused c).reasons.getLsbD k = (r.reasons.getLsbD k || decide (c = k)) := by
  rw [Ref.accused, BitVec.getLsbD_or, getLsbD_reasonMask k h]

theorem cleared_reason {c : Nat} (k : Nat) (r : Ref) (h : c < 16) :
    (r.cleared c).reasons.getLsbD k = (r.reasons.getLsbD k && decide (c ≠ k)) := by
  rw [Ref.cleared, BitVec.getLsbD_and, BitVec.getLsbD_not, getLsbD_reasonMask k h]
  by_cases hk : k < 16
  · simp [hk]
  · simp [BitVec.getLsbD_of_ge r.reasons k (Nat.le_of_not_lt hk)]

theorem addReason_refs {i : Fin 20} (c : Nat) {s : State} (h : s.refs[i].state ≠ .off) :
    (addReason i c s).refs = upd s.refs i (Ref.accused c) := by
  rw [addReason, if_neg h, stopContribution_refs, modRef_refs, upd_upd]
  rfl

@[simp] theorem clearReason_refs (i : Fin 20) (c : Nat) (s : State) :
    (clearReason i c s).refs = upd s.refs i (Ref.cleared c) := rfl

@[simp] theorem restartTimer_refs (i : Fin 20) (s : State) :
    (restartTimer i s).refs = upd s.refs i fun r => { r with qualTimer := 0, qualDone := false } := rfl

/-! ### The mark of a disagreement (R88, R89) -/

theorem markDisagree_ref (i j : Fin 20) (v : Bool) (s : State) :
    ∃ b, (s.modRef j fun x => { x with disagree := v }).refs[i] = { s.refs[i] with disagree := b } := by
  rw [modRef_refs]
  by_cases h : j = i
  · subst h
    exact ⟨v, get_upd_same _ _ _⟩
  · exact ⟨s.refs[i].disagree, get_upd_of_ne _ _ h⟩

theorem markBoth_ref (i j k : Fin 20) (v : Bool) (s : State) :
    ∃ b, ((s.modRef j fun x => { x with disagree := v }).modRef k fun x => { x with disagree := v }).refs[i] =
      { s.refs[i] with disagree := b } := by
  obtain ⟨_, hFirst⟩ := markDisagree_ref i j v s
  obtain ⟨b, hSecond⟩ := markDisagree_ref i k v (s.modRef j fun x => { x with disagree := v })
  exact ⟨b, hSecond.trans (by rw [hFirst])⟩

theorem dropAlarm_ref (i : Fin 20) (s : State) :
    ∃ b, (dropAlarm s).refs[i] = { s.refs[i] with disagree := b } := by
  unfold dropAlarm
  split
  · exact ⟨s.refs[i].disagree, rfl⟩
  next d _ => exact markBoth_ref i d.a d.b false (s.modSel fun x => { x with alarm := none })

theorem raiseAlarm_ref (i j k : Fin 20) (s : State) :
    ∃ b, (raiseAlarm j k s).refs[i] = { s.refs[i] with disagree := b } :=
  markBoth_ref i _ _ true (s.modSel _)

theorem watchDisagreement_ref (i j : Fin 20) (s : State) :
    ∃ b, (watchDisagreement j s).refs[i] = { s.refs[i] with disagree := b } := by
  have hSame : ∃ b, s.refs[i] = { s.refs[i] with disagree := b } := ⟨s.refs[i].disagree, rfl⟩
  unfold watchDisagreement
  split
  · split
    · split
      · split
        · exact dropAlarm_ref i s
        · exact hSame
      · exact hSame
    · exact hSame
  · split
    · exact raiseAlarm_ref i _ _ s
    · exact hSame

/-! ### States (R73, R76) -/

/-- The record in the state `st`, where `b` says whether it contributes. -/
def Ref.entered (st : RefState) (b : Bool) (r : Ref) : Ref :=
  { r with state := st, pathSmall := if st = .qualified then 0 else r.pathSmall, contributing := b }

/-- A reference with no reason against it begins to contribute. -/
def startUnlessAccused (i : Fin 20) (t : State) : State :=
  if t.refs[i].reasons = 0 then startContribution i t else t

theorem startUnlessAccused_refs (i : Fin 20) (t : State) :
    ∃ b, (startUnlessAccused i t).refs = upd t.refs i fun r => { r with contributing := b } := by
  unfold startUnlessAccused
  split
  · exact ⟨true, startContribution_refs i t⟩
  · exact ⟨t.refs[i].contributing, (upd_eq_self _ _ (withContributing_self rfl)).symm⟩

theorem setRef_active {st : RefState} (i : Fin 20) (s : State) (h : st = .qualified ∨ st = .selected) :
    setRef i st s = startUnlessAccused i (s.modRef i fun r =>
      { r with state := st, pathSmall := if st = .qualified then 0 else r.pathSmall }) :=
  if_pos h

theorem setRef_inactive {st : RefState} (i : Fin 20) (s : State) (h : ¬ (st = .qualified ∨ st = .selected)) :
    setRef i st s = stopContribution i (s.modRef i fun r =>
      { r with state := st, pathSmall := if st = .qualified then 0 else r.pathSmall }) :=
  if_neg h

theorem setRef_refs (i : Fin 20) (st : RefState) (s : State) :
    ∃ b, (setRef i st s).refs = upd s.refs i (Ref.entered st b) := by
  by_cases hActive : st = .qualified ∨ st = .selected
  · obtain ⟨b, h⟩ := startUnlessAccused_refs i (s.modRef i fun r =>
      { r with state := st, pathSmall := if st = .qualified then 0 else r.pathSmall })
    exact ⟨b, by rw [setRef_active i s hActive, h, modRef_refs, upd_upd]; rfl⟩
  · exact ⟨false, by rw [setRef_inactive i s hActive, stopContribution_refs, modRef_refs, upd_upd]; rfl⟩

theorem setRef_state (i : Fin 20) (st : RefState) (s : State) : (setRef i st s).refs[i].state = st := by
  obtain ⟨b, h⟩ := setRef_refs i st s
  rw [h, get_upd_same, Ref.entered]

theorem setRef_reasons (i : Fin 20) (st : RefState) (s : State) :
    (setRef i st s).refs[i].reasons = s.refs[i].reasons := by
  obtain ⟨b, h⟩ := setRef_refs i st s
  rw [h, get_upd_same, Ref.entered]

theorem setRef_qualTimer (i : Fin 20) (st : RefState) (s : State) :
    (setRef i st s).refs[i].qualTimer = s.refs[i].qualTimer := by
  obtain ⟨b, h⟩ := setRef_refs i st s
  rw [h, get_upd_same, Ref.entered]

theorem setRef_hostLatch (i : Fin 20) (st : RefState) (s : State) :
    (setRef i st s).refs[i].hostLatch = s.refs[i].hostLatch := by
  obtain ⟨b, h⟩ := setRef_refs i st s
  rw [h, get_upd_same, Ref.entered]

end Sys2Proof.Machine
end

section
/-! SUPPORT. The activity, frequency and phase monitors and the qualification timer (02 R65 to R69, R76, R77;
04 R135), and the obligation that they move as their rules say. -/

namespace Sys2Proof.Machine

/-! ### What a monitor reads of the state -/

theorem timeBearing_of_cfg {s t : State} {i : Fin 20} (h : t.refs[i].cfg = s.refs[i].cfg) :
    timeBearing t i = timeBearing s i := by
  unfold timeBearing
  rw [h]

theorem briefActivity_of_cfg {s t : State} {i : Fin 20} (h : t.refs[i].cfg = s.refs[i].cfg) :
    briefActivity t i = briefActivity s i := by
  unfold briefActivity
  rw [h]

theorem atomicClass_of_cfg {s t : State} {i : Fin 20} (h : t.refs[i].cfg = s.refs[i].cfg) :
    atomicClass t i = atomicClass s i := by
  unfold atomicClass
  rw [h]

/-- The parameters in force are those of the record's configuration (R71). -/
theorem monOf_of_cfg {s t : State} {i : Fin 20} (hMon : t.refs[i].mon = s.refs[i].mon)
    (hSet : t.refs[i].monSet = s.refs[i].monSet) (hCfg : t.refs[i].cfg = s.refs[i].cfg) : monOf t i = monOf s i := by
  unfold monOf
  rw [hMon, hSet, timeBearing_of_cfg hCfg, briefActivity_of_cfg hCfg, atomicClass_of_cfg hCfg]

theorem nextGate_refs (i : Fin 20) (s : State) : (nextGate i s).refs = s.refs :=
  (nextGate_core i s).same .refs (by decide)

theorem nextGate_ductus (i : Fin 20) (s : State) : (nextGate i s).ductus = s.ductus :=
  (nextGate_core i s).same .ductus (by decide)

theorem monOf_nextGate (i : Fin 20) (s : State) : monOf (nextGate i s) i = monOf s i :=
  monOf_of_cfg (by rw [nextGate_refs]) (by rw [nextGate_refs]) (by rw [nextGate_refs])

theorem freqBinds_nextGate (i : Fin 20) (s : State) : freqBinds (nextGate i s) i = freqBinds s i := by
  unfold freqBinds
  rw [nextGate_ductus]

/-! ### Activity (R65, R66) -/

/-- The XO's loss reaches the APLLs and Ductus and no reference. -/
theorem loseXoIf_refs (c : Prop) [Decidable c] (t : State) : (if c then loseXo t else t).refs = t.refs := by
  split
  · exact (loseXo_core t).same .refs (by decide)
  · rfl

/-- The record after a missed deadline: it is counted, and at ACT_LOSS of them activity is lost. -/
def Ref.missed (actLoss : Nat) (r : Ref) : Ref :=
  let n := min 255 (r.missing + 1)
  let r := { r with arrivals := 0, missing := n }
  if actLoss ≤ n then { ({ r with active := false } : Ref).accused 3 with qualTimer := 0, qualDone := false } else r

theorem refMiss_refs {s : State} {i : Fin 20} (hOn : s.refs[i].state ≠ .off) :
    (refMiss i s).refs = upd s.refs i (Ref.missed (monOf s i).actLoss) := by
  have hMon (n : Nat) : monOf (s.modRef i fun x => { x with arrivals := 0, missing := n }) i = monOf s i :=
    monOf_of_cfg (by rw [modRef_refs, get_upd_same]) (by rw [modRef_refs, get_upd_same])
      (by rw [modRef_refs, get_upd_same])
  rw [refMiss]
  dsimp only
  rw [if_neg hOn, hMon]
  by_cases hLost : (monOf s i).actLoss ≤ min 255 (s.refs[i].missing + 1)
  · rw [if_pos hLost, loseXoIf_refs, restartTimer_refs,
      addReason_refs 3 (by rwa [modRef_refs, get_upd_same, modRef_refs, get_upd_same])]
    simp only [modRef_refs, upd_upd]
    refine upd_congr _ _ ?_
    rw [Ref.missed]
    exact (if_pos hLost).symm
  · rw [if_neg hLost, modRef_refs]
    refine upd_congr _ _ ?_
    rw [Ref.missed]
    exact (if_neg hLost).symm

/-- R66: what a missed deadline does, in terms of the figures of the record. -/
theorem missed_figures (n : Nat) (r : Ref) :
    (r.missed n).missing = min 255 (r.missing + 1) ∧ (r.missed n).arrivals = 0 ∧
      (n ≤ min 255 (r.missing + 1) → (r.missed n).active = false ∧ (r.missed n).reasons.getLsbD 3 = true ∧
        (r.missed n).qualTimer = 0) := by
  rw [Ref.missed]
  dsimp only
  split
  case isTrue => exact ⟨rfl, rfl, fun _ => ⟨rfl, (accused_reason 3 _ (by decide)).trans (by simp), rfl⟩⟩
  case isFalse h => exact ⟨rfl, rfl, fun hLost => absurd hLost h⟩

/-! ### Frequency gates (R67; 04 R135) -/

/-- What a frequency gate reports: the frequency, the verdict, and whether FREQ is among the reasons. -/
def Ref.gateFigures (r : Ref) : Option Int × FreqVerdict × Bool := (r.freq, r.verdict, hasReason r 4)

def gateFigures (i : Fin 20) (s : State) : Option Int × FreqVerdict × Bool := s.refs[i].gateFigures

/-- What the gate of `i` measures, where the device is `e` away from E formed without it. -/
def gateValue (s : State) (i : Fin 20) (e : Int) : Option Int :=
  (gateEstimate s i).bind fun f =>
    if !(decide (s.ductus.mode = 1) && decide (s.refs[i].state = .selected)) then some f
    else if guardAbsent s then none else some (f - e)

/-- What the gate of `i` says of a frequency. -/
def gateVerdict (s : State) (i : Fin 20) (f : Int) : FreqVerdict :=
  if freqBinds s i then verdictOf (monOf s i) f else .none

theorem gateFigures_modRef (i j : Fin 20) {f : Ref → Ref} (h : ∀ r, (f r).gateFigures = r.gateFigures) (s : State) :
    gateFigures i (s.modRef j f) = gateFigures i s := by
  by_cases hij : j = i
  · subst hij
    rw [gateFigures, modRef_refs, get_upd_same, h, gateFigures]
  · rw [gateFigures, modRef_refs, get_upd_of_ne _ _ hij, gateFigures]

/-- A disagreement is watched without touching the figures of any gate. -/
theorem gateFigures_watchDisagreement (i j : Fin 20) (s : State) :
    gateFigures i (watchDisagreement j s) = gateFigures i s := by
  obtain ⟨b, h⟩ := watchDisagreement_ref i j s
  rw [gateFigures, h, gateFigures]
  rfl

theorem cleared_gateFigures {c : Nat} (h : c < 16) (hc : c ≠ 4) (r : Ref) :
    (r.cleared c).gateFigures = r.gateFigures := by
  have hReason : hasReason (r.cleared c) 4 = hasReason r 4 := by
    rw [hasReason, cleared_reason 4 r h]
    simp [hasReason, hc]
  rw [Ref.gateFigures, hReason]
  rfl

theorem gateFigures_clearReason (i j : Fin 20) {c : Nat} (h : c < 16) (hc : c ≠ 4) (s : State) :
    gateFigures i (clearReason j c s) = gateFigures i s :=
  gateFigures_modRef i j (f := Ref.cleared c) (cleared_gateFigures h hc) s

theorem gateFigures_forgetRival (i j : Fin 20) (s : State) :
    gateFigures i (s.modRef j fun r => { r with rival := none }) = gateFigures i s :=
  gateFigures_modRef i j (f := fun r => { r with rival := none }) (fun _ => rfl) s

theorem gateFigures_clearDisagree (i : Fin 20) (s : State) : gateFigures i (clearDisagree s) = gateFigures i s := by
  refine forAll_keeps (gateFigures i) (fun j t => ?_) _ _
  split
  · split
    · split
      · rw [gateFigures_clearReason i j (by decide) (by decide), gateFigures_forgetRival]
      · rfl
    · rfl
  · rfl

theorem gateFigures_restartTimer (i j : Fin 20) (s : State) : gateFigures i (restartTimer j s) = gateFigures i s :=
  gateFigures_modRef i j (f := fun r => { r with qualTimer := 0, qualDone := false }) (fun _ => rfl) s

/-- FREQ once a gate has ended, where `old` says whether it held before (R67). -/
def freqReason (old : Bool) (o : Option Int) (v : FreqVerdict) : Bool :=
  if v = .reject then true else if o.isSome then false else old

theorem accused_freq_gateFigures (r : Ref) : (r.accused 4).gateFigures = (r.freq, r.verdict, true) := by
  rw [Ref.gateFigures, hasReason, accused_reason 4 r (by decide), decide_eq_true rfl, Bool.or_true]
  rfl

theorem cleared_freq_gateFigures (r : Ref) : (r.cleared 4).gateFigures = (r.freq, r.verdict, false) := by
  rw [Ref.gateFigures, hasReason, cleared_reason 4 r (by decide), decide_eq_false (fun h => h rfl), Bool.and_false]
  rfl

/-- The reason FREQ follows the gate that has ended. -/
theorem gateFigures_judged {i : Fin 20} {s : State} (hOn : s.refs[i].state ≠ .off) (o : Option Int)
    (v : FreqVerdict) :
    let t := s.modRef i fun r => { r with freq := o, verdict := v }
    gateFigures i (if v = .reject then addReason i 4 t else if o.isSome then clearReason i 4 t else t) =
      (o, v, freqReason (hasReason s.refs[i] 4) o v) := by
  intro t
  have hRef : t.refs[i] = { s.refs[i] with freq := o, verdict := v } := get_upd_same _ _ _
  unfold freqReason
  split
  case isTrue =>
    rw [gateFigures, addReason_refs 4 (by rwa [hRef]), get_upd_same, accused_freq_gateFigures, hRef]
  case isFalse =>
    split
    case isTrue =>
      rw [gateFigures, clearReason_refs, get_upd_same, cleared_freq_gateFigures, hRef]
    case isFalse => rw [gateFigures, hRef]; rfl

theorem gateFigures_restartUnless (i : Fin 20) (c : Prop) [Decidable c] (s : State) :
    gateFigures i (if c then s else restartTimer i s) = gateFigures i s := by
  split
  · rfl
  · exact gateFigures_restartTimer i i s

theorem execFrequencyGateEnd_figures {s : State} {i : Fin 20} (e : Int) (hOn : s.refs[i].state ≠ .off) :
    ∃ t, execFrequencyGateEnd i e s = .next t ∧
      let o := gateValue s i e
      let v := o.elim .none (gateVerdict s i)
      gateFigures i t = (o, v, freqReason (hasReason s.refs[i] 4) o v) := by
  rw [execFrequencyGateEnd, if_neg hOn]
  refine ⟨_, rfl, ?_⟩
  dsimp only
  rw [gateFigures_clearDisagree, gateFigures_watchDisagreement, gateFigures_restartUnless,
    gateFigures_judged (by rwa [nextGate_refs]), freqBinds_nextGate, monOf_nextGate, nextGate_refs, ← gateValue]
  cases gateValue s i e <;> rfl

theorem gateValue_unguarded {s : State} {i : Fin 20} {f : Int} (e : Int) (hGate : gateEstimate s i = some f)
    (hFree : s.ductus.mode = 0 ∨ s.refs[i].state ≠ .selected) : gateValue s i e = some f := by
  rw [gateValue, hGate, Option.bind_some, if_pos]
  rcases hFree with hMode | hState
  · simp [hMode]
  · rw [decide_eq_false hState, Bool.and_false, Bool.not_false]

/-- 04 R135: in SELECT mode the SELECTED reference is compared with E formed without it. -/
theorem gateValue_guarded {s : State} {i : Fin 20} {f : Int} (e : Int) (hGate : gateEstimate s i = some f)
    (hMode : s.ductus.mode = 1) (hState : s.refs[i].state = .selected) :
    gateValue s i e = if guardAbsent s then none else some (f - e) := by
  rw [gateValue, hGate, Option.bind_some, if_neg]
  rw [decide_eq_true hMode, decide_eq_true hState]
  decide

theorem gateValue_none {s : State} {i : Fin 20} (e : Int) (hGate : gateEstimate s i = none) :
    gateValue s i e = none := by
  rw [gateValue, hGate, Option.bind_none]

theorem gateVerdict_reject {s : State} {i : Fin 20} {f : Int} (hBinds : freqBinds s i = true)
    (hFar : (monOf s i).freqReject < f.natAbs) : gateVerdict s i f = .reject := by
  rw [gateVerdict, if_pos hBinds, verdictOf, if_pos hFar]

theorem gateVerdict_accept {s : State} {i : Fin 20} {f : Int} (hBinds : freqBinds s i = true)
    (hNear : f.natAbs ≤ (monOf s i).freqAccept) (hOrder : (monOf s i).freqAccept < (monOf s i).freqReject) :
    gateVerdict s i f = .accept := by
  rw [gateVerdict, if_pos hBinds, verdictOf, if_neg (by omega), if_pos hNear]

/-! ### Phase averages (R69) -/

/-- The average `a` lies beyond PHASE_STEP of the one before it. -/
def phaseJump (r : Ref) (a : Int) : Bool :=
  r.lastAvg.any fun b => qualified r && decide (r.mon.phaseStep < (a - b).natAbs)

/-- The record with the new average, before it is compared with the one before. -/
def Ref.averaged (a : Int) (r : Ref) : Ref := ({ r with lastAvg := some a, measured := some a } : Ref).cleared 5

theorem averaged_reason (a : Int) (r : Ref) : (r.averaged a).reasons.getLsbD 5 = false := by
  rw [Ref.averaged, cleared_reason 5 _ (by decide), decide_eq_false (fun h => h rfl), Bool.and_false]

theorem accused_phase_reason (r : Ref) : (r.accused 5).reasons.getLsbD 5 = true := by
  rw [accused_reason 5 r (by decide), decide_eq_true rfl, Bool.or_true]

/-- The state with the new average taken and PHASE_STEP cleared. -/
def averageTaken (i : Fin 20) (a : Int) (s : State) : State :=
  clearReason i 5 (s.modRef i fun x => { x with lastAvg := some a, measured := some a })

theorem averageTaken_ref (i : Fin 20) (a : Int) (s : State) :
    (averageTaken i a s).refs[i] = s.refs[i].averaged a := by
  rw [averageTaken, clearReason_refs, get_upd_same, modRef_refs, get_upd_same, Ref.averaged]

theorem execPhaseAverageEnd_refs {s : State} {i : Fin 20} {a : Int} (hOn : s.refs[i].state ≠ .off)
    (hTime : timeBearing s i = true) (hMean : meanOffset s i (ms16 s.refs[i].mon.phaseAvg) = some a) :
    ∃ t, execPhaseAverageEnd i s = .next t ∧ t.refs[i] =
      if phaseJump s.refs[i] a then (s.refs[i].averaged a).accused 5 else s.refs[i].averaged a := by
  have hGoes : ¬ (s.refs[i].state = .off ∨ (!timeBearing s i) = true) := fun h => h.elim hOn (by simp [hTime])
  rw [execPhaseAverageEnd]
  dsimp only
  rw [hMean]
  dsimp only
  rw [if_neg hGoes, phaseJump]
  cases s.refs[i].lastAvg with
  | none => exact ⟨averageTaken i a s, rfl, averageTaken_ref i a s⟩
  | some b =>
    by_cases hJump : qualified s.refs[i] = true ∧ s.refs[i].mon.phaseStep < (a - b).natAbs
    · obtain ⟨hQualified, hFar⟩ := hJump
      refine ⟨addReason i 5 (averageTaken i a s), if_pos ⟨hQualified, hFar⟩, ?_⟩
      rw [addReason_refs 5 (by rw [averageTaken_ref]; exact hOn), get_upd_same, averageTaken_ref, Option.any_some,
        hQualified, decide_eq_true hFar, Bool.and_self, if_pos rfl]
    · refine ⟨averageTaken i a s, if_neg hJump, ?_⟩
      rw [averageTaken_ref, if_neg]
      rwa [Option.any_some, Bool.and_eq_true, decide_eq_true_iff]

theorem execPhaseAverageEnd_figures {s : State} {i : Fin 20} {a : Int} (hOn : s.refs[i].state ≠ .off)
    (hTime : timeBearing s i = true) (hMean : meanOffset s i (ms16 s.refs[i].mon.phaseAvg) = some a) :
    ∃ t, execPhaseAverageEnd i s = .next t ∧ t.refs[i].measured = some a ∧ t.refs[i].lastAvg = some a ∧
      t.refs[i].reasons.getLsbD 5 = phaseJump s.refs[i] a := by
  obtain ⟨t, hNext, hRef⟩ := execPhaseAverageEnd_refs hOn hTime hMean
  refine ⟨t, hNext, ?_⟩
  rw [hRef]
  cases phaseJump s.refs[i] a with
  | true => exact ⟨rfl, rfl, accused_phase_reason _⟩
  | false => exact ⟨rfl, rfl, averaged_reason a _⟩

/-- Settles O2: each monitor's row leaves the figures that its lemma above states. -/
theorem monitorsMoveAsTheirRulesSay : Obligations.MonitorsMoveAsTheirRulesSay := by
  refine ⟨fun s i hOn => ?activity, fun s i e f hOn hBinds hGate hFree => ?gate,
    fun s i e f hState hMode hGate => ?guarded, fun s i e hOn hGate => ?noValue,
    fun s i a hOn hTime hMean => ?phase, fun s i hState hActive hFreq => if_pos ⟨hState, hActive, hFreq⟩⟩
  case activity =>
    refine ⟨refMiss i s, rfl, ?_⟩
    rw [refMiss_refs hOn, get_upd_same]
    exact missed_figures _ _
  case gate =>
    obtain ⟨t, hNext, hFigures⟩ := execFrequencyGateEnd_figures e hOn
    rw [gateValue_unguarded e hGate hFree] at hFigures
    obtain ⟨hValue, hJudged⟩ := Prod.mk.inj hFigures
    obtain ⟨hVerdict, hReason⟩ := Prod.mk.inj hJudged
    refine ⟨t, hNext, hValue, fun hFar => ?_, fun hNear hOrder => ?_⟩
    · have hReject := gateVerdict_reject hBinds hFar
      exact ⟨hVerdict.trans hReject, hReason.trans (by simp [freqReason, hReject])⟩
    · have hAccept := gateVerdict_accept hBinds hNear hOrder
      exact ⟨hVerdict.trans hAccept, hReason.trans (by simp [freqReason, hAccept])⟩
  case guarded =>
    obtain ⟨t, hNext, hFigures⟩ := execFrequencyGateEnd_figures e (s := s) (i := i) (by rw [hState]; decide)
    exact ⟨t, hNext, (Prod.mk.inj hFigures).1.trans (gateValue_guarded e hGate hMode hState)⟩
  case noValue =>
    obtain ⟨t, hNext, hFigures⟩ := execFrequencyGateEnd_figures e hOn
    rw [gateValue_none e hGate] at hFigures
    obtain ⟨hValue, hJudged⟩ := Prod.mk.inj hFigures
    exact ⟨t, hNext, hValue, (Prod.mk.inj hJudged).1⟩
  case phase =>
    obtain ⟨t, hNext, hMeasured, hLast, hReason⟩ := execPhaseAverageEnd_figures hOn hTime hMean
    refine ⟨t, hNext, hMeasured, hLast, fun b hb hQualified hFar => ?_, fun b hb hNear => ?_⟩
    · simp only [hReason, phaseJump, hb, Option.any_some, hQualified, decide_eq_true hFar, Bool.and_self]
    · simp only [hReason, phaseJump, hb, Option.any_some, decide_eq_false (Nat.not_lt.mpr hNear), Bool.and_false]

end Sys2Proof.Machine
end

section
/-! SUPPORT. The staged switch and the disagreement check (02 R82, R84, R89), and the obligation that they run
their stages. -/

namespace Sys2Proof.Machine

/-! ### Ductus keeps its state while a reference begins to contribute (04 R148) -/

theorem setApllIf_ductus (c : Prop) [Decidable c] (a : Fin 8) (st : ApllState) (s : State) :
    (if c then setApll a st s else s).ductus = s.ductus := by
  split
  · exact (setApll_core a st s).same .ductus (by decide)
  · rfl

theorem thawOne_ductusState (c : Fin 6) (s : State) : (thawOne c s).ductus.state = s.ductus.state := by
  rw [thawOne]
  dsimp only
  by_cases hFrozen : s.ductus.dplls[c].state ≠ .frozen
  · rw [if_pos hFrozen]
  · rw [if_neg hFrozen]
    refine (forAll_keeps (fun t => t.ductus.state) (fun a t => ?_) _ _).trans ?_
    · exact congrArg Ductus.state (setApllIf_ductus _ a .locked _)
    · split <;> rfl

theorem thawDpll_ductusState (c : Fin 6) (s : State) : (thawDpll c s).ductus.state = s.ductus.state := by
  rw [thawDpll, thawSystem]
  split
  · exact (forAll_keeps (fun t => t.ductus.state) thawOne_ductusState _ _).trans (thawOne_ductusState c s)
  · exact thawOne_ductusState c s

theorem startContribution_ductusState (i : Fin 20) (s : State) :
    (startContribution i s).ductus.state = s.ductus.state := by
  unfold startContribution
  split
  · rfl
  · exact forAll_keeps (fun t => t.ductus.state) thawDpll_ductusState _ _

theorem startUnlessAccused_ductusState (i : Fin 20) (s : State) :
    (startUnlessAccused i s).ductus.state = s.ductus.state := by
  unfold startUnlessAccused
  split
  · exact startContribution_ductusState i s
  · rfl

theorem setRef_selected_ductusState (i : Fin 20) (s : State) :
    (setRef i .selected s).ductus.state = s.ductus.state := by
  rw [setRef_active i s (.inr rfl), startUnlessAccused_ductusState, modRef_ductus]

/-! ### BUILD-OUT (R84; 04 R153) -/

theorem setAnchor_ductusState (i : Option (Fin 20)) (s : State) :
    (setAnchor i s).ductus.state = s.ductus.state := by
  unfold setAnchor
  dsimp only
  rw [modDuctus_ductus]
  dsimp only
  split <;> rfl

theorem averagedOffset_of_mean {s : State} {i : Fin 20} {o : Int}
    (h : meanOffset s i (ms16 s.sel.cfg.switchMeas) = some o) : averagedOffset i s = (o, s) := by
  simp only [averagedOffset, h]

/-- The target of a switch is SELECTED and the anchor; what follows sets the stage and B. -/
def selectAnchor (i : Fin 20) (s : State) : State := setAnchor (some i) (setRef i .selected (deselect s))

theorem selectAnchor_state (i : Fin 20) (s : State) : (selectAnchor i s).refs[i].state = .selected := by
  rw [selectAnchor, (setAnchor_core (some i) _).same .refs (by decide), setRef_state]

theorem selectAnchor_ductusState (i : Fin 20) (s : State) : (selectAnchor i s).ductus.state = s.ductus.state := by
  rw [selectAnchor, setAnchor_ductusState, setRef_selected_ductusState, (deselect_core s).same .ductus (by decide)]

theorem buildOut_running {i : Fin 20} {o : Int} {s : State} (h : s.ductus.state ≠ .coast) :
    buildOut i o s = loadB o (((selectAnchor i s).modSel fun x =>
      { x with stage := .slew, target := some i }).modDuctus fun d => { d with measuring := false }) := by
  have hRuns : (selectAnchor i s).ductus.state ≠ .coast := by rwa [selectAnchor_ductusState]
  exact if_neg (Bool.eq_false_iff.mp (decide_eq_false hRuns))

theorem buildOut_selects {i : Fin 20} (o : Int) {s : State} (h : s.ductus.state ≠ .coast) :
    (buildOut i o s).refs[i].state = .selected ∧ (buildOut i o s).sel.stage = .slew ∧
      (buildOut i o s).sel.target = some i ∧ (buildOut i o s).ductus.anchor = some i ∧
      (buildOut i o s).ductus.b = o := by
  rw [buildOut_running h, loadB]
  simp only [modDuctus_refs, modSel_refs, modDuctus_sel, modSel_sel, modDuctus_ductus, modSel_ductus]
  exact ⟨selectAnchor_state i s, trivial, trivial, rfl, trivial⟩

theorem execSwitchMeasureEnd_candidate {s : State} {i : Fin 20} {o : Int} (hStage : s.sel.stage = .measure)
    (hTarget : s.sel.target = some i) (hCandidate : candidate s i = true)
    (hMean : meanOffset s i (ms16 s.sel.cfg.switchMeas) = some o) :
    execSwitchMeasureEnd s = .next (stepEvents (changesOf s (buildOut i o s)) (buildOut i o s)) := by
  simp only [execSwitchMeasureEnd, hStage, hTarget, hCandidate, averagedOffset_of_mean hMean, if_true]

/-! ### The revertive switch and the end of the slew (R82, R84) -/

theorem startSwitch_selected {s : State} {old : Fin 20} (new : Fin 20) (h : selected s = some old) :
    startSwitch new s = s.modSel fun x => { x with stage := .measure, target := some new } := by
  simp [startSwitch, h]

/-! ### The disagreement check (R89) -/

/-- A reference is found at fault: it is rejected for DISAGREE and remembers its rival. -/
def faulted (i j : Fin 20) (s : State) : State := addReason i 8 (s.modRef i fun r => { r with rival := some j })

theorem faulted_refs {s : State} {i : Fin 20} (j : Fin 20) (hOn : s.refs[i].state ≠ .off) :
    (faulted i j s).refs = upd s.refs i fun r => ({ r with rival := some j } : Ref).accused 8 := by
  rw [faulted, addReason_refs 8 (by rwa [modRef_refs, get_upd_same]), modRef_refs, upd_upd]

theorem dropAlarm_alarm (s : State) : (dropAlarm s).sel.alarm = none := by
  unfold dropAlarm
  split
  case h_1 h => exact h
  case h_2 => rfl

theorem execDisagreementCheck_first {s : State} {d : Disagreement} {p q : Option Int} {x y : Int}
    (hAlarm : s.sel.alarm = some d) (hThird : thirdOpinion s d.a d.b ≠ none)
    (hFirst : opinionOf s d.a d.b d.a p = some x) (hSecond : opinionOf s d.a d.b d.b q = some y)
    (hFarA : (monOf s d.a).freqReject < x.natAbs) (hFarB : ¬ (monOf s d.b).freqReject < y.natAbs)
    (hNearB : y.natAbs ≤ (monOf s d.b).freqAccept) :
    execDisagreementCheck p q s = .next (dropAlarm (faulted d.a d.b s)) := by
  obtain ⟨k, hk⟩ := Option.ne_none_iff_exists'.mp hThird
  simp only [execDisagreementCheck, hAlarm, hk, hFirst, hSecond]
  simp [hFarA, hFarB, hNearB, faulted]

/-- Settles O3: the stages of the switch and the check of a disagreement, each by the equation of its row above. -/
theorem stagedSwitchRunsItsStages : Obligations.StagedSwitchRunsItsStages := by
  refine ⟨fun s old new hSel hRev hIdle hForced hCand hRank hState => ?revertive,
    fun s i o hStage hTarget hCand hState hMean => ?measured, fun s i hStage hTarget => ?complete,
    fun s d p q x y hAlarm hNe hFirst hSecond hThird hOn hFarA hFarB hNearB => ?settled⟩
  case revertive =>
    rw [exec_wtrExpiry, execWtrExpiry, hSel]
    dsimp only
    rw [if_pos ⟨hRev, hIdle, hForced, hCand, hRank⟩, decide_eq_false hState, Bool.false_and, if_neg Bool.false_ne_true,
      startSwitch_selected new hSel]
  case measured =>
    refine ⟨_, execSwitchMeasureEnd_candidate hStage hTarget hCand hMean, ?_⟩
    have hEvents := stepEvents_core (changesOf s (buildOut i o s)) (buildOut i o s)
    rw [hEvents.same .refs (by decide), hEvents.same .sel (by decide), hEvents.same .ductus (by decide)]
    exact buildOut_selects o hState
  case complete =>
    rw [exec_switchComplete, execSwitchComplete, hStage, hTarget]
  case settled =>
    refine ⟨_, execDisagreementCheck_first hAlarm hThird hFirst hSecond hFarA (Nat.not_lt.mpr hFarB) hNearB,
      dropAlarm_alarm _, ?_⟩
    obtain ⟨_, hA⟩ := dropAlarm_ref d.a (faulted d.a d.b s)
    obtain ⟨_, hB⟩ := dropAlarm_ref d.b (faulted d.a d.b s)
    rw [hA, hB, faulted_refs _ hOn, get_upd_same, get_upd_of_ne _ _ hNe]
    exact ⟨(accused_reason 8 _ (by decide)).trans (by simp), rfl, rfl⟩

end Sys2Proof.Machine
end

section
/-! SUPPORT. The commands on references and the evaluation that takes them (02 R74, R76, R78, R91), and the obligation
that they act at its first step. -/

namespace Sys2Proof.Machine

/-! ### A command that waits for the next evaluation (R78) -/

theorem asFin_val {n : Nat} (i : Fin n) : asFin n i.val = some i := dif_pos i.isLt

theorem hand_of_ready {op : Nat} {r : Req} {s : State} {p : Pend} (h : ready op r s = some p) :
    hand r.src s = some p := by
  unfold ready at h
  split at h
  case h_1 q hHand =>
    split at h
    · exact hHand.trans h
    · cases h
  case h_2 => cases h

theorem hand_modSel (src : Source) (f : Selection → Selection) (s : State) : hand src (s.modSel f) = hand src s := by
  cases src <;> rfl

/-- The act joins the list, and the request stays taken and unanswered. -/
theorem runAct_waits {op len : Nat} {r : Req} {s : State} {p : Pend} (a : RefAct) (hLen : r.len = len)
    (hReady : ready op r s = some p) :
    runAct op len r (some a) s = .next (setHand r.src (some { p with taken := true })
      (s.modSel fun x => { x with acts := x.acts ++ [⟨a, some r.src⟩] })) := by
  rw [runAct, runCommand_ready hReady (decide_eq_true hLen)]
  dsimp only [answer, addAct]
  rw [hand_modSel, hand_of_ready hReady, Option.map_some]

/-! ### The judgement of an act (R74, R76, R91) -/

theorem applyAct_reject {s : State} {i : Fin 20} (hOn : s.refs[i].state ≠ .off) :
    applyAct (.reject i) s = .ok (addReason i 1 (s.modRef i fun x => { x with hostLatch := true })) :=
  need_true (decide_eq_true hOn)

theorem applyAct_reject_off {s : State} {i : Fin 20} (hOff : s.refs[i].state = .off) :
    applyAct (.reject i) s = .error eState :=
  need_false (decide_eq_false fun h => h hOff)

theorem applyAct_disable {s : State} {i : Fin 20} (hOn : s.refs[i].state ≠ .off) (hXo : i ≠ xoRef) :
    applyAct (.enable i false) s = .ok (toOff i s) :=
  need_true (by rw [decide_eq_true hOn, decide_eq_true hXo, Bool.and_self])

theorem applyAct_disable_xo (s : State) : applyAct (.enable xoRef false) s = .error eState :=
  need_false (by rw [decide_eq_false (fun h => h rfl : ¬ xoRef ≠ xoRef), Bool.and_false])

theorem applyAct_release_notHeld {s : State} {i : Fin 20} (a : Nat) (h : s.refs[i].state ≠ .held) :
    applyAct (.release i a) s = .error eState :=
  need_false (decide_eq_false h)

theorem applyAct_release_qualify {s : State} {i : Fin 20} (h : s.refs[i].state = .held) :
    applyAct (.release i 0) s = .ok (setRef i .qualified s) :=
  need_true (decide_eq_true h)

theorem applyAct_release_reject {s : State} {i : Fin 20} (h : s.refs[i].state = .held) :
    applyAct (.release i 2) s =
      .ok (setRef i .rejected (addReason i 1 (s.modRef i fun x => { x with hostLatch := true }))) :=
  need_true (decide_eq_true h)

theorem refKind_gnssRef (p : Fin 2) : refKind (gnssRef p) = .gnss := by
  revert p
  decide

theorem applyAct_enable_gnss {s : State} {p : Fin 2} (hOff : s.refs[gnssRef p].state = .off)
    (hOwn : s.refs[gnssRef p].companion = false) :
    applyAct (.enable (gnssRef p) true) s = .ok (toMonitor (gnssRef p) s) := by
  refine (need_true (by rw [decide_eq_true hOff, hOwn]; rfl)).trans ?_
  rw [refKind_gnssRef]
  rfl

/-! ### What the accepted act leaves in the record -/

/-- The host's reason stands in the latch and among the reasons. -/
theorem latched_refs {s : State} {i : Fin 20} (hOn : s.refs[i].state ≠ .off) :
    (addReason i 1 (s.modRef i fun x => { x with hostLatch := true })).refs =
      upd s.refs i fun r => ({ r with hostLatch := true } : Ref).accused 1 := by
  rw [addReason_refs 1 (by rwa [modRef_refs, get_upd_same]), modRef_refs, upd_upd]

theorem toMonitor_ref (i : Fin 20) (s : State) : (toMonitor i s).refs[i].state = .monitor ∧
    (toMonitor i s).refs[i].reasons = 0 ∧ (toMonitor i s).refs[i].qualTimer = 0 := by
  rw [toMonitor, setRef_state, setRef_reasons, setRef_qualTimer, modRef_refs, get_upd_same]
  exact ⟨rfl, rfl, rfl⟩

/-- What of a record outlives OFF (R58, R74). -/
def Ref.turnedOff (r : Ref) : Ref :=
  { cfg := r.cfg, mon := r.mon, cfgSet := r.cfgSet, monSet := r.monSet, companion := r.companion }

theorem toOff_refs (i : Fin 20) (s : State) : (toOff i s).refs = upd s.refs i Ref.turnedOff := by
  obtain ⟨b, hSet⟩ := setRef_refs i .off s
  have hRelease (c d : Option (Fin 24)) (t : State) : (releaseOpt c (releaseOpt d t)).refs = t.refs :=
    ((releaseOpt_core c _).same .refs (by decide)).trans ((releaseOpt_core d t).same .refs (by decide))
  have hOff : (toOff i s).refs = upd (releaseOpt s.refs[i].compChannel (releaseOpt s.refs[i].channel
      (setRef i .off s))).refs i Ref.turnedOff := by
    unfold toOff
    dsimp only
    split <;> rfl
  rw [hOff, hRelease, hSet, upd_upd]
  rfl

/-! ### The evaluation (R78) -/

/-- Steps 1 to 4 of an evaluation: acts, rejections, clears and qualifications. -/
def judgedSteps (s : State) : State × List RefChange :=
  staged stepQualify (staged stepClears (staged stepRejects (stepActs
    (s.modSel fun x => { x with evalSeq := (x.evalSeq + 1) % 2 ^ 32, hookAnswer := none }, []))))

section
variable {s : State} (hIdle : s.sel.waiting = none)
include hIdle

theorem execReferenceEvaluation_unhooked (hHook : hookWaiter (judgedSteps s).1 = none) :
    execReferenceEvaluation s = .next (finishEvaluation (judgedSteps s)) := by
  rw [execReferenceEvaluation, hIdle, if_neg (by decide)]
  dsimp only
  rw [← judgedSteps, hHook]

theorem execReferenceEvaluation_hooked {task : Fin 4} {block : Nat}
    (hHook : hookWaiter (judgedSteps s).1 = some (task, block)) :
    ∃ t, execReferenceEvaluation s = .next t ∧ t.sel.waiting = some (judgedSteps s).2 ∧
      t.host.tasks[task].state = .inHook := by
  rw [execReferenceEvaluation, hIdle, if_neg (by decide)]
  dsimp only
  rw [← judgedSteps, hHook]
  refine ⟨_, rfl, rfl, ?_⟩
  rw [modSel_host, modTask_host]
  dsimp only
  rw [get_upd_same]

end

/-- Settles O1: each command waits, each act is judged, and the evaluation takes its steps by the lemmas above. -/
theorem referenceCommandsActAtTheNextEvaluation : Obligations.ReferenceCommandsActAtTheNextEvaluation := by
  refine ⟨fun s r p i e he hLen hReady => ?enable, fun s r p i a ha hLen hReady => ?release,
    fun s r p i hLen hReady => ?reject, fun s r p i hLen hReady => ?force,
    fun s r p hLen hReady => runAct_waits (.force none) hLen hReady, fun s i hOn => ?latches,
    fun s i hOff => applyAct_reject_off hOff,
    fun s p hOff hOwn => ⟨_, applyAct_enable_gnss hOff hOwn, toMonitor_ref _ s⟩,
    fun s i hOn hXo => ?disables, fun s => applyAct_disable_xo s,
    fun s i a hHeld => applyAct_release_notHeld a hHeld,
    fun s i hHeld => ⟨?qualifies, ?rejects⟩, fun s hIdle => ?evaluates⟩
  case enable =>
    rw [exec_referenceEnable, execReferenceEnable, asFin_val]
    dsimp only
    rw [if_pos he, runAct_waits _ hLen hReady]
  case release =>
    rw [exec_referenceRelease, execReferenceRelease, asFin_val]
    dsimp only
    rw [if_pos ha, runAct_waits _ hLen hReady]
  case reject =>
    rw [exec_referenceReject, execReferenceReject, asFin_val, Option.map_some, runAct_waits _ hLen hReady]
  case force =>
    rw [exec_forceSelect, execForceSelect, if_neg (by omega), asFin_val, Option.map_some, runAct_waits _ hLen hReady]
  case latches =>
    refine ⟨_, applyAct_reject hOn, ?_⟩
    rw [latched_refs hOn, get_upd_same]
    exact ⟨rfl, (accused_reason 1 _ (by decide)).trans (by simp), rfl⟩
  case disables =>
    refine ⟨_, applyAct_disable hOn hXo, ?_⟩
    rw [toOff_refs, get_upd_same]
    exact ⟨rfl, rfl, rfl⟩
  case qualifies => exact ⟨_, applyAct_release_qualify hHeld, setRef_state i .qualified s⟩
  case rejects =>
    refine ⟨_, applyAct_release_reject hHeld, setRef_state _ _ _, ?_⟩
    rw [setRef_hostLatch, latched_refs (by rw [hHeld]; decide), get_upd_same]
    rfl
  case evaluates =>
    intro begun judged
    have hJudged : judged = judgedSteps s := rfl
    clear_value judged
    subst hJudged
    rw [exec_referenceEvaluation]
    exact ⟨fun hHook => execReferenceEvaluation_unhooked hIdle hHook,
      fun task block hHook => execReferenceEvaluation_hooked hIdle hHook⟩

end Sys2Proof.Machine
end

section
/-! SUPPORT. The plain commands of the GNSS baseband (03 R100, R108, R109, R114, R121 to R124; 15 R426), and the
obligation that they act as their rules say. -/

namespace Sys2Proof.Machine

variable {s : State} {r : Req}

/-! ### Exclusions, the held position and orbit items (R100, R108, R109) -/

theorem execExclusionList_valid {l : List Sat} (h : Asks 0x0904 (4 + 2 * l.length) r s) (hMax : l.length ≤ 64)
    (hConst : ∀ e ∈ l, e.constellation ≤ 2) :
    execExclusionList r l s = .next (finish r.src stOk [] (s.modGnss fun g => { g with exclusion := l })) := by
  obtain ⟨hLen, p, hReady⟩ := h
  have hAll : (l.all fun e => decide (e.constellation ≤ 2)) = true :=
    List.all_eq_true.mpr fun e he => decide_eq_true (hConst e he)
  rw [execExclusionList, runCommand_ready hReady (decide_eq_true hLen), if_pos ⟨hMax, hAll⟩, answer]

theorem execExclusionList_tooLong {l : List Sat} (h : Asks 0x0904 (4 + 2 * l.length) r s) (hMax : 64 < l.length) :
    execExclusionList r l s = .next (finish r.src eRange [] s) := by
  obtain ⟨hLen, p, hReady⟩ := h
  rw [execExclusionList, runCommand_ready hReady (decide_eq_true hLen),
    if_neg fun hFits => absurd hFits.1 (Nat.not_le.mpr hMax), answer]

theorem execPositionSet_asked (p : Fin 2) (x y z : Int) (u : Nat) (h : Asks 0x0905 40 r s) :
    execPositionSet r p x y z u s = .next (finish r.src stOk [] (s.modPort p fun q =>
      { q with position := some ⟨x, y, z, u⟩, fix := { q.fix with mode := 2 } })) :=
  runSimple_ok h (by rw [asFin_val]; rfl)

theorem execOrbitExport_asked (h : Asks 0x0907 0 r s) :
    let o : Bytes := s.gnss.orbit.flatMap fun i => i.octets.map (BitVec.ofNat 8)
    execOrbitExport r s = .next (finish r.src stOk (le 4 o.length ++ o) s) := by
  obtain ⟨hLen, p, hReady⟩ := h
  exact runRead_ok hReady (decide_eq_true hLen) rfl

theorem execOrbitImport_asked {l : List OrbitItem}
    (h : Asks 0x0908 (4 + (l.map fun i => i.octets.length).foldl (· + ·) 0) r s) :
    execOrbitImport r l s = .next (finish r.src stOk (le 4 (l.length - (l.filter (orbitFresh s)).length))
      (s.modGnss fun g => { g with orbit := g.orbit ++ l.filter (orbitFresh s) })) := by
  obtain ⟨hLen, p, hReady⟩ := h
  rw [execOrbitImport, runCommand_ready hReady (decide_eq_true hLen), answer]

/-! ### Group delays (R114; 15 R426) -/

theorem within_of_le {a b n : Nat} (hLow : a ≤ n) (hHigh : n ≤ b) : within a b n = true := by
  simp [within, hLow, hHigh]

theorem execGroupDelayMeasure_starts {p : Fin 2} {d : Nat} {q : Pend} (hLen : r.len = 8)
    (hReady : ready 0x0909 r s = some q) (hLow : 3600 ≤ d) (hHigh : d ≤ 604800)
    (hHold : s.gnss.ports[p].fix.mode = 2) (hFree : s.gnss.ports[p].group = none) :
    execGroupDelayMeasure r p d s = .next (finish r.src stAccepted []
      (s.modPort p fun x => { x with group := some ⟨d, s.clock.ticks.toNat, r.src, q.sequence⟩ })) := by
  refine runAccepted_ok hLen hReady ?_
  rw [asFin_val]
  exact (need_true (within_of_le hLow hHigh)).trans (need_true (by rw [hHold, hFree]; rfl))

theorem runAccepted_error {op len : Nat} {f : Nat → State → Except Nat State} {e : Nat} (h : Asks op len r s)
    (hError : ∀ n, f n s = .error e) : runAccepted op len r f s = .next (finish r.src e [] s) := by
  obtain ⟨hLen, p, hReady⟩ := h
  rw [runAccepted, runCommand_ready hReady (decide_eq_true hLen), hError, answer]

theorem execGroupDelayMeasure_notHeld {p : Fin 2} {d : Nat} (h : Asks 0x0909 8 r s) (hLow : 3600 ≤ d)
    (hHigh : d ≤ 604800) (hMode : s.gnss.ports[p].fix.mode ≠ 2) :
    execGroupDelayMeasure r p d s = .next (finish r.src eState [] s) := by
  refine runAccepted_error h fun n => ?_
  rw [asFin_val]
  exact (need_true (within_of_le hLow hHigh)).trans (need_false (by rw [decide_eq_false hMode, Bool.false_and]))

theorem execGroupDelayResult_asked (p : Fin 2) (h : Asks 0x0911 1 r s) :
    execGroupDelayResult r p s = .next (finish r.src stOk ((List.range 6).flatMap fun k =>
      le 8 (toCode 64 (s.gnss.ports[p].groupMean.getD k 0)) ++ le 8 (s.gnss.ports[p].groupErr.getD k 0)) s) := by
  obtain ⟨hLen, q, hReady⟩ := h
  exact runRead_ok hReady (decide_eq_true hLen) (by rw [asFin_val])

/-! ### Snapshots (R121, R122, R124) -/

/-- The capture that a snapshot command asks for. -/
def askedCapture (trigger evin duration overwrite : Nat) (start : ZT128) : Capture :=
  { trigger := trigger, evin := evin, duration := duration, overwrite := overwrite, start := ztUnits start }

/-- Every field of a snapshot command lies in its range. -/
def CaptureInRange (trigger evin duration overwrite : Nat) (start : ZT128) : Prop :=
  trigger ≤ 2 ∧ evin ≤ 7 ∧ (1 ≤ duration ∧ duration ≤ 40) ∧ overwrite ≤ 1 ∧ ztValid start = true

section
variable {k e d o : Nat} {z : ZT128}

theorem CaptureInRange.checks (hRange : CaptureInRange k e d o z) :
    (decide (k ≤ 2) && decide (e ≤ 7) && within 1 40 d && decide (o ≤ 1) && ztValid z) = true := by
  obtain ⟨hTrigger, hEvin, ⟨hLow, hHigh⟩, hOver, hStart⟩ := hRange
  rw [decide_eq_true hTrigger, decide_eq_true hEvin, within_of_le hLow hHigh, decide_eq_true hOver, hStart]
  rfl

variable (h : Asks 0x090A 24 r s) (hRange : CaptureInRange k e d o z)
include h hRange

theorem execSnapshot_free (hFree : captureBlocked s (decide (o = 1)) = false) :
    execSnapshot r k e d o z s = .next (finish r.src stOk []
      (if k = 0 then startCapture (askedCapture k e d o z) s
       else s.modGnss fun g => { g with snap := { g.snap with armed := some (askedCapture k e d o z) } })) :=
  runSimple_ok h ((need_true hRange.checks).trans (need_true (by rw [hFree]; rfl)))

theorem execSnapshot_blocked (hBlocked : captureBlocked s (decide (o = 1)) = true) :
    execSnapshot r k e d o z s = .next (finish r.src eState [] s) :=
  runSimple_error h ((need_true hRange.checks).trans (need_false (by rw [hBlocked]; rfl)))

end

theorem execSnapshotRelease_idle (h : Asks 0x090B 0 r s) (hIdle : s.gnss.snap.exporting = none) :
    execSnapshotRelease r s = .next (finish r.src stOk [] (s.modGnss fun g =>
      { g with snap := { g.snap with held := none } })) := by
  obtain ⟨hLen, p, hReady⟩ := h
  rw [execSnapshotRelease, runCommand_ready hReady (decide_eq_true hLen), hIdle, if_neg (by decide), answer]

theorem execSnapshotExport_held {q : Pend} (a n : Nat) (hLen : r.len = 12) (hReady : ready 0x090C r s = some q)
    (hHeld : s.gnss.snap.held ≠ none) (hIdle : s.gnss.snap.exporting = none) :
    execSnapshotExport r a n s = .next (finish r.src stAccepted [] (s.modGnss fun g =>
      { g with snap := { g.snap with exporting := some (n, r.src, q.sequence) } })) := by
  refine runAccepted_ok hLen hReady (need_true ?_)
  rw [Option.isSome_iff_ne_none.mpr hHeld, hIdle]
  rfl

/-! ### The status body (15 R426) -/

/-- The body begins with FIX_MODE and the failed and unavailable checks. -/
theorem execGnssStatus_asked (p : Fin 2) (h : Asks 0x0910 1 r s) :
    ∃ body, execGnssStatus r p s = .next (finish r.src stOk body s) ∧
      body.take 12 = le 1 s.gnss.ports[p].fix.mode ++ le 3 0 ++ le 4 s.gnss.ports[p].failed.toNat ++
        le 4 s.gnss.ports[p].unavail.toNat := by
  obtain ⟨hLen, q, hReady⟩ := h
  refine ⟨?body, runRead_ok hReady (decide_eq_true hLen) ?read, ?head⟩
  case read => rw [asFin_val]
  case head => rfl

/-- Settles O31: each clause is the law of its command above. -/
theorem gnssCommandsActAsTheirRulesSay : Obligations.GnssCommandsActAsTheirRulesSay := by
  refine ⟨fun s r l h hMax hConst => execExclusionList_valid h hMax hConst,
    fun s r l h hMax => execExclusionList_tooLong h hMax,
    fun s r p x y z u h => execPositionSet_asked p x y z u h, fun s r h => execOrbitExport_asked h,
    fun s r l h => execOrbitImport_asked h,
    fun s r q p d hLen hReady hLow hHigh hHold hFree =>
      execGroupDelayMeasure_starts hLen hReady hLow hHigh hHold hFree,
    fun s r p d h hLow hHigh hMode => execGroupDelayMeasure_notHeld h hLow hHigh hMode,
    fun s r p h => execGroupDelayResult_asked p h,
    fun s r e d o z h he hLow hHigh ho hz hFree => ⟨?_, ?_⟩,
    fun s r k e d o z h hk he hLow hHigh ho hz hBlocked =>
      execSnapshot_blocked h ⟨hk, he, ⟨hLow, hHigh⟩, ho, hz⟩ hBlocked,
    fun s r h hIdle => execSnapshotRelease_idle h hIdle,
    fun s r q a n hLen hReady hHeld hIdle => execSnapshotExport_held a n hLen hReady hHeld hIdle,
    fun s r p h => execGnssStatus_asked p h⟩
  · exact execSnapshot_free h ⟨Nat.zero_le 2, he, ⟨hLow, hHigh⟩, ho, hz⟩ hFree
  · exact execSnapshot_free h ⟨Nat.le_succ 1, he, ⟨hLow, hHigh⟩, ho, hz⟩ hFree

end Sys2Proof.Machine
end

section
/-! SUPPORT. The rows of the baseband's channels, captures, surveys and exclusions (03 R96, R98, R100, R102, R104,
R109, R114, R117, R119, R121 to R124). -/

namespace Sys2Proof.Machine

variable {s : State}

/-! ### Parts that the shared operations leave -/

@[simp] theorem raise_gnss (code a b : Nat) (s : State) : (raise code a b s).gnss = s.gnss := rfl

@[simp] theorem raise_refs (code a b : Nat) (s : State) : (raise code a b s).refs = s.refs := rfl

@[simp] theorem addReason_gnss (i : Fin 20) (c : Nat) (s : State) : (addReason i c s).gnss = s.gnss :=
  (addReason_core i c s).same .gnss (by decide)

@[simp] theorem modPort_port (p : Fin 2) (f : GnssPort → GnssPort) (s : State) :
    (s.modPort p f).gnss.ports[p] = f s.gnss.ports[p] := by
  rw [modPort_gnss, get_upd_same]

@[simp] theorem modRef_ref (i : Fin 20) (f : Ref → Ref) (s : State) : (s.modRef i f).refs[i] = f s.refs[i] := by
  rw [modRef_refs, get_upd_same]

/-! ### Group delays (R114) -/

/-- The measurement ends with its command-complete event, which leaves the baseband. -/
theorem endGroupDelay_gnss {p : Fin 2} {j : GroupJob} (status : Nat) (h : s.gnss.ports[p].group = some j) :
    (endGroupDelay p status s).gnss = (s.modPort p fun x => { x with group := none }).gnss := by
  rw [endGroupDelay, h]
  rfl

theorem execGroupDelayMeasureEnd_due {p : Fin 2} {j : GroupJob} (m : List Int) (e : List Nat)
    (hJob : s.gnss.ports[p].group = some j) (hDue : j.begun + j.duration * 10 ^ 9 ≤ s.clock.ticks.toNat) :
    ∃ t, execGroupDelayMeasureEnd p m e s = .next t ∧ t.gnss.ports[p].group = none ∧
      t.gnss.ports[p].groupMean = (List.range 6).map fun k => m.getD k 0 := by
  rw [execGroupDelayMeasureEnd, hJob, if_pos (decide_eq_true hDue)]
  refine ⟨_, rfl, ?_⟩
  rw [endGroupDelay_gnss stOk (j := j) (by rw [modPort_port, hJob]), modPort_port, modPort_port]
  exact ⟨rfl, rfl⟩

theorem execGroupDelayMeasureEnd_early {p : Fin 2} {j : GroupJob} (m : List Int) (e : List Nat)
    (hJob : s.gnss.ports[p].group = some j) (hEarly : s.clock.ticks.toNat < j.begun + j.duration * 10 ^ 9) :
    execGroupDelayMeasureEnd p m e s = .next s := by
  rw [execGroupDelayMeasureEnd, hJob]
  exact if_neg fun hDue => absurd (of_decide_eq_true hDue) (Nat.not_le.mpr hEarly)

/-! ### Channels (R98, R102, R104) -/

/-- The state in which channel `c` holds `d`. -/
def setChannel (c : Fin 200) (d : GnssChannel) (s : State) : State :=
  s.modGnss fun g => { g with channels := g.channels.set c d }

theorem setChannel_same (c : Fin 200) (d : GnssChannel) (s : State) : (setChannel c d s).gnss.channels[c] = d :=
  Vector.getElem_set_self _

theorem setChannel_of_ne {c k : Fin 200} (d : GnssChannel) (s : State) (h : k ≠ c) :
    (setChannel c d s).gnss.channels[k] = s.gnss.channels[k] :=
  Vector.getElem_set_ne c.isLt k.isLt fun hEq => h (Fin.ext hEq.symm)

theorem execChannelTimeout_track {c : Fin 200} (h : s.gnss.channels[c].state = 3) :
    execChannelTimeout c s = .next (setChannel c { s.gnss.channels[c] with state := 4 } s) := by
  rw [execChannelTimeout]
  dsimp only
  rw [h]
  rfl

theorem execChannelTimeout_search {c : Fin 200} (h : s.gnss.channels[c].state = 1)
    (hTries : 1 ≤ s.gnss.channels[c].tries) : execChannelTimeout c s = .next (setChannel c {} s) := by
  rw [execChannelTimeout]
  dsimp only
  rw [h]
  exact if_pos hTries

theorem execCorrelatorDump_assigns {c : Fin 200} {p : Fin 2} (x : Sat) (k : Fin 6) (a b n cn : Nat)
    (hIdle : s.gnss.channels[c].state = 0) (hUnit : s.wear.channels[c].state = .service)
    (hOn : s.refs[gnssRef p].state ≠ .off) :
    execCorrelatorDump c a b n cn (some (p, x, k.val)) s = .next (setChannel c
      { state := 1, port := p.val, sat := x, signal := k.val, track := s.gnss.ports[p].track[k] } s) := by
  rw [execCorrelatorDump]
  dsimp only
  rw [if_pos hIdle, hUnit, if_pos (by rw [decide_eq_true hOn]; rfl), asFin_val]
  rfl

theorem execCorrelatorDump_tracks {c : Fin 200} {w : Nat × Nat} (a b cn : Nat)
    (hState : s.gnss.channels[c].state = 2) (hWord : s.gnss.channels[c].nextCode = some w) :
    ∃ d, execCorrelatorDump c a b 3 cn none s = .next (setChannel c d s) ∧ d.state = 3 ∧ d.code = w.1 ∧
      d.carrier = w.2 ∧ d.nextCode = some (a, b) := by
  rw [execCorrelatorDump]
  dsimp only
  rw [hState, hWord, if_neg (by decide), if_neg (by decide), if_neg (by decide)]
  exact ⟨_, rfl, rfl, rfl, rfl, rfl⟩

/-- R98: the channels of the port search again. -/
theorem execGnssClockFault_lost (p : Fin 2) (s : State) : ∃ t, execGnssClockFault p s = .next t ∧
    t.gnss.ports[p].clockFault = true ∧
    ∀ c : Fin 200, s.gnss.channels[c].port = p.val → s.gnss.channels[c].state ≠ 0 →
      s.gnss.channels[c].state ≠ 5 → t.gnss.channels[c].state = 4 := by
  refine ⟨_, rfl, ?_, fun c hPort hUsed hGood => ?_⟩
  · rw [addReason_gnss, modPort_port]
  · rw [addReason_gnss, modPort_gnss, modGnss_gnss]
    dsimp only
    rw [Fin.getElem_fin, get_vmap]
    exact congrArg GnssChannel.state (if_pos ⟨hPort, hUsed, hGood⟩)

theorem map_range_getD {n : Nat} {l : List Nat} (h : l.length = n) :
    ((List.range n).map fun k => l.getD k 0) = l := by
  subst h
  refine List.ext_getElem (by simp) fun k _ hk => ?_
  simp [hk]

/-! ### Surveys and captures (R109, R121 to R124) -/

theorem execSurveyComplete_done {p : Fin 2} {h v : Nat} (x y z : Int) (u : Nat)
    (hMode : s.gnss.ports[p].fix.mode = 1) (hHorizontal : h < s.gnss.ports[p].fix.target)
    (hVertical : v < s.gnss.ports[p].fix.target)
    (hMin : s.gnss.ports[p].surveyFrom + s.gnss.ports[p].fix.surveyMin * 10 ^ 9 ≤ s.clock.ticks.toNat) :
    execSurveyComplete p x y z u h v s = .next (raise 0x0908 p.val u (s.modPort p fun q =>
      { q with position := some ⟨x, y, z, u⟩, fix := { q.fix with mode := 2 } })) :=
  if_pos ⟨hMode, hHorizontal, hVertical, hMin⟩

theorem execSnapshotArmedStart_timed {c : Capture} (hArmed : s.gnss.snap.armed = some c) (hTimed : c.trigger = 1) :
    execSnapshotArmedStart s = .next (triggerCapture c s) := by
  rw [execSnapshotArmedStart, hArmed]
  exact if_pos hTimed

theorem triggerCapture_free {c : Capture} (h : captureBlocked s (decide (c.overwrite = 1)) = false) :
    triggerCapture c s = startCapture c s := by
  rw [triggerCapture, h]
  exact if_neg Bool.false_ne_true

theorem triggerCapture_blocked {c : Capture} (h : captureBlocked s (decide (c.overwrite = 1)) = true) :
    triggerCapture c s =
      raise 0x0906 c.trigger 0 (s.modGnss fun g => { g with snap := { g.snap with armed := none } }) :=
  if_pos h

theorem add_mod_period_bounds (start n : Nat) (period : Int) :
    start ≤ start + n % max 1 period.toNat ∧ start + n % max 1 period.toNat < start + (max 1 period).toNat := by
  have hMod : n % max 1 period.toNat < max 1 period.toNat := Nat.mod_lt _ (by omega)
  omega

/-- R121: each port's part starts with the first sample at or after the trigger. -/
theorem execSnapshotComplete_whole {c : Capture} (a b : Nat) (x y : Int) (o : Nat)
    (hCapturing : s.gnss.snap.capturing = some c) (hWhole : c.lost = 0) :
    ∃ t, execSnapshotComplete a b x y o s = .next t ∧ t.gnss.snap.capturing = none ∧
      ∃ h k, t.gnss.snap.held = some (h, k, o) ∧ h.samples = a ∧ k.samples = b ∧
        c.begun ≤ h.start ∧ h.start < c.begun + (max 1 x).toNat ∧ c.begun ≤ k.start ∧
        k.start < c.begun + (max 1 y).toNat := by
  rw [execSnapshotComplete, hCapturing]
  dsimp only
  obtain ⟨hFirstLow, hFirstHigh⟩ := add_mod_period_bounds c.begun (freshNat s).1 x
  obtain ⟨hSecondLow, hSecondHigh⟩ := add_mod_period_bounds c.begun (freshNat (freshNat s).2).1 y
  rw [hWhole]
  exact ⟨_, rfl, rfl, _, _, rfl, rfl, rfl, hFirstLow, hFirstHigh, hSecondLow, hSecondHigh⟩

theorem execSnapshotExportComplete_unreleased {n q : Nat} {src : Source}
    (hExporting : s.gnss.snap.exporting = some (n, src, q)) (hNone : s.gnss.snap.releases = []) :
    execSnapshotExportComplete s = .next (completeCmd 0x090C q stOk src (raise 0x0907 n 0
      (s.modGnss fun g => { g with snap := { g.snap with exporting := none, releases := [] } }))) := by
  rw [execSnapshotExportComplete, hExporting]
  dsimp only
  rw [hNone]
  rfl

/-! ### The end of an exclusion and of a failed check (R117, R119, R120) -/

/-- R117: an exclusion of `x` stays while its 600 s run, every other one in any case. -/
theorem execSatelliteExclusionEnd_excluded (p : Fin 2) (x : Sat) (s : State) :
    ∃ t, execSatelliteExclusionEnd p x s = .next t ∧ ∀ y, y ∈ t.gnss.ports[p].excluded ↔
      y ∈ s.gnss.ports[p].excluded ∧ (y.1 ≠ x ∨ s.clock.ticks.toNat < y.2 + 600 * 10 ^ 9) := by
  refine ⟨_, rfl, fun y => ?_⟩
  rw [modPort_port, List.mem_filter, Bool.or_eq_true, decide_eq_true_iff, decide_eq_true_iff]

/-- The mask of check `k` has bit `k` only (R118). -/
theorem getLsbD_andNot_checkMask (b : BitVec 8) (k : Fin 8) :
    (b &&& ~~~(BitVec.ofNat 8 (2 ^ k.val))).getLsbD k.val = false := by
  rw [BitVec.getLsbD_and, BitVec.getLsbD_not, BitVec.getLsbD_ofNat, Nat.testBit_two_pow_self]
  simp

/-- The port once check `k` no longer counts as failed. -/
def GnssPort.clearedOf (k : Fin 8) (q : GnssPort) : GnssPort :=
  let bit := BitVec.ofNat 8 (2 ^ k.val)
  { q with failed := q.failed &&& ~~~bit, clearing := q.clearing &&& ~~~bit, rejecting := q.rejecting &&& ~~~bit,
           badConsts := if k.val = 7 then 0 else q.badConsts,
           crossAlarm := q.crossAlarm && decide (k.val ≠ 6) }

theorem onlyRaise_gnss (c : Prop) [Decidable c] (code a b : Nat) (s : State) :
    (if c then raise code a b s else s).gnss = s.gnss := by
  split <;> rfl

theorem onlyClear_gnss (c : Prop) [Decidable c] (i : Fin 20) (k : Nat) (s : State) :
    (if c then clearReason i k s else s).gnss = s.gnss := by
  split <;> rfl

theorem execCheckClear_passed {p : Fin 2} {k : Fin 8} (hClearing : s.gnss.ports[p].clearing.getLsbD k.val = true)
    (hTime : s.gnss.ports[p].passSince[k] + s.gnss.ports[p].consist.clearTime * 10 ^ 9 ≤ s.clock.ticks.toNat) :
    ∃ t, execCheckClear p k s = .next t ∧ t.gnss.ports[p] = s.gnss.ports[p].clearedOf k := by
  rw [execCheckClear]
  dsimp only
  rw [if_pos ⟨hClearing, hTime⟩]
  refine ⟨_, rfl, ?_⟩
  rw [onlyClear_gnss, onlyRaise_gnss, modPort_port]
  rfl

end Sys2Proof.Machine
end

section
/-! SUPPORT. The items that a pan queue other than the event log is building (14 R400): the operations that only raise
events leave them, down to a reference that stops to contribute (02 R75; 04 R148; 06 R181 to R194). -/

namespace Sys2Proof.Machine

/-- The items that a pan queue is building. -/
def built (q : Fin 5) (s : State) : List QPayload := s.host.queues[q].building

theorem built_enqueue (q : Fin 5) (x : QPayload) (s : State) : built q (enqueue q x s) = built q s ++ [x] := by
  rw [built, enqueue, modQueue_host, get_upd_same, built]

theorem onlyIf_keeps {β : Type} (g : State → β) {f : State → State} {s : State} (c : Bool) (h : g (f s) = g s) :
    g (onlyIf c f s) = g s := by
  unfold onlyIf
  split
  · exact h
  · rfl

section
variable {q : Fin 5} (hq : q ≠ 0)
include hq

theorem built_raise (code a b : Nat) (s : State) : built q (raise code a b s) = built q s := by
  rw [built, raise, raiseAt, enqueue, modQueue_host, get_upd_of_ne _ _ hq.symm, built]

theorem built_stopOutputs (a : Fin 8) (s : State) : built q (stopOutputs a s) = built q s := by
  refine forAll_keeps (built q) (fun k t => ?_) _ s
  split
  · exact built_raise hq _ _ _ _
  · rfl

theorem built_restartOutputs (a : Fin 8) (dest : CkoutState) (s : State) :
    built q (restartOutputs a dest s) = built q s := by
  refine forAll_keeps (built q) (fun k t => ?_) _ s
  split
  · exact built_raise hq _ _ _ _
  · rfl

theorem built_setApll (a : Fin 8) (st : ApllState) (s : State) : built q (setApll a st s) = built q s := by
  unfold setApll
  dsimp only
  split
  · rfl
  · split
    · exact (built_stopOutputs hq a _).trans (built_raise hq _ _ _ _)
    · split
      · exact (built_restartOutputs hq a _ _).trans (built_raise hq _ _ _ _)
      · exact built_raise hq _ _ _ _

theorem built_holdApll (a : Fin 8) (f : Apll → Apll) (s : State) : built q (holdApll a f s) = built q s := by
  unfold holdApll
  dsimp only
  split
  · exact built_setApll hq a _ _
  · rfl

theorem built_applyOne (c : Fin 6) (a : Fin 8) (s : State) : built q (applyOne c a s) = built q s := by
  unfold applyOne
  dsimp only
  split
  · rfl
  · exact built_raise hq _ _ _ _

theorem built_freeControl (c : Fin 6) (s : State) : built q (freeControl c s) = built q s :=
  (forAll_keeps (built q) (built_applyOne hq c) _ _).trans rfl

theorem built_dropItem (kind n : Nat) (s : State) : built q (dropItem kind n s) = built q s :=
  (forAll_keeps (built q) (fun _ t => built_raise hq _ _ _ t) _ _).trans rfl

theorem built_abortRealign (c : Fin 6) (s : State) : built q (abortRealign c s) = built q s := by
  have hSettled : built q (settleSlew c s) = built q s := by
    rw [built, (settleSlew_core c s).same .host (by decide), built]
  unfold abortRealign
  dsimp only
  split
  · exact hSettled
  · split
    · exact hSettled
    · rw [built_dropItem hq, built_raise hq, built, (slewIncrement_core c _).same .host (by decide), ← hSettled]
      rfl

theorem built_freezeOne (c : Fin 6) (s : State) : built q (freezeOne c s) = built q s := by
  unfold freezeOne
  dsimp only
  split
  · exact (forAll_keeps (built q) (fun a t => built_holdApll hq a _ t) _ _).trans
      ((built_abortRealign hq c _).trans (built_freeControl hq c _))
  · rfl

theorem built_freezeDpll (c : Fin 6) (s : State) : built q (freezeDpll c s) = built q s := by
  unfold freezeDpll freezeSystem
  split
  · exact built_freezeOne hq c s
  · exact (forAll_keeps (built q) (built_freezeOne hq) _ _).trans (built_freezeOne hq c s)

theorem built_stopContribution (i : Fin 20) (s : State) : built q (stopContribution i s) = built q s := by
  unfold stopContribution
  split
  · exact forAll_keeps (built q) (built_freezeDpll hq) _ _
  · rfl

theorem built_addReason (i : Fin 20) (c : Nat) (s : State) : built q (addReason i c s) = built q s := by
  unfold addReason
  split
  · rfl
  · exact built_stopContribution hq i _

end

end Sys2Proof.Machine
end

section
/-! SUPPORT. An epoch of a GNSS port (03 R112, R115 to R120): the satellites of its solution, the verdicts of its
checks, what each of its stages leaves in the port and in the reference, and the obligation that the rows of the
baseband act as their rules say. -/

namespace Sys2Proof.Machine

variable {s : State}

/-! ### The satellites of a solution (R93, R100, R102, R117) -/

theorem usable_sat {p : Fin 2} {m : SatMeas} (h : usable s p m = true) :
    tracked s p m.sat = true ∧ m.unhealthy = false ∧ m.sat ∉ s.gnss.exclusion ∧
      bitOf s.gnss.ports[p].cfg.consts m.sat.constellation = true := by
  simp only [usable, Bool.and_eq_true, Bool.not_eq_true', decide_eq_true_eq] at h
  obtain ⟨⟨⟨⟨⟨hTracked, hHealthy⟩, hConst⟩, hAllowed⟩, -⟩, -⟩ := h
  exact ⟨hTracked, hHealthy, hAllowed, hConst⟩

theorem orbit_of_not_faulty {hold : Bool} {n : Nat} {e : GnssEpoch} {m : SatMeas} (h : faulty hold n e m = false) :
    m.orbitJump ≤ 100000 ∧ m.weekJump = false := by
  simp only [faulty, Bool.or_eq_false_iff, decide_eq_false_iff_not] at h
  obtain ⟨⟨-, hOrbit⟩, hWeek⟩ := h
  exact ⟨Nat.not_lt.mp hOrbit, hWeek⟩

theorem mem_usedSats {e : GnssEpoch} {m : SatMeas} (h : m ∈ usedSats s e) : usable s e.port m = true ∧
    faulty (decide (s.gnss.ports[e.port].fix.mode = 2)) (e.sats.filter (usable s e.port)).length e m = false := by
  obtain ⟨hIn, hKept⟩ := List.mem_filter.mp h
  obtain ⟨-, hUsable⟩ := List.mem_filter.mp hIn
  exact ⟨hUsable, Bool.eq_false_iff.mpr fun hFaulty =>
    of_decide_eq_true hKept (List.mem_filter.mpr ⟨hIn, hFaulty⟩)⟩

/-- R110: outside HOLD the uncertainty is unbounded. -/
theorem gnssUncertainty_notHeld {e : GnssEpoch} (h : s.gnss.ports[e.port].fix.mode ≠ 2) :
    gnssUncertainty s e = unbounded := by
  unfold gnssUncertainty
  dsimp only
  split
  · exact if_pos (.inl h)
  · rfl

theorem solution_of_enough {e : GnssEpoch} (h : enough s.gnss.ports[e.port].fix.mode (usedSats s e) = true) :
    solution s e = e.offset :=
  if_pos h

/-! ### The bits of the verdicts (R118) -/

/-- The number that the verdicts' bits spell, lowest first. -/
def verdictNumber (f : Option Bool → Bool) : List (Option Bool) → Nat
  | [] => 0
  | v :: l => (f v).toNat + 2 * verdictNumber f l

theorem flag_eq_mul (b : Bool) (k : Nat) : flag b k = 2 ^ k * b.toNat := by
  cases b with
  | false => exact (Nat.mul_zero _).symm
  | true => exact (Nat.mul_one _).symm

/-- The sum of the flags from bit `i` on is that number at bit `i`. -/
theorem foldl_flags_eq (f : Option Bool → Bool) (l : List (Option Bool)) (i n : Nat) :
    (l.zipIdx i).foldl (fun n x => n + flag (f x.1) x.2) n = n + 2 ^ i * verdictNumber f l := by
  induction l generalizing i n with
  | nil => rfl
  | cons v l ih =>
    rw [List.zipIdx_cons, List.foldl_cons, ih, verdictNumber, flag_eq_mul, Nat.pow_succ, Nat.mul_add, Nat.add_assoc,
      Nat.mul_assoc]

theorem testBit_verdictNumber (f : Option Bool → Bool) (l : List (Option Bool)) (k : Nat) :
    (verdictNumber f l).testBit k = l[k]?.any f := by
  induction l generalizing k with
  | nil => exact Nat.zero_testBit k
  | cons v l ih =>
    have hBit : (f v).toNat ≤ 1 := Bool.toNat_le _
    rw [verdictNumber]
    cases k with
    | zero =>
      have hLow : ((f v).toNat + 2 * verdictNumber f l) % 2 = (f v).toNat := by omega
      rw [Nat.testBit_zero, hLow, List.getElem?_cons_zero, Option.any_some]
      cases f v <;> rfl
    | succ k =>
      have hHigh : ((f v).toNat + 2 * verdictNumber f l) / 2 = verdictNumber f l := by omega
      rw [Nat.testBit_succ, hHigh, ih, List.getElem?_cons_succ]

theorem verdictBits_eq (f : Option Bool → Bool) (l : List (Option Bool)) :
    verdictBits f l = BitVec.ofNat 8 (verdictNumber f l) := by
  rw [verdictBits, foldl_flags_eq, Nat.pow_zero, Nat.one_mul, Nat.zero_add]

theorem getLsbD_verdictBits {k : Nat} (f : Option Bool → Bool) (l : List (Option Bool)) (h : k < 8) :
    (verdictBits f l).getLsbD k = l[k]?.any f := by
  rw [verdictBits_eq, BitVec.getLsbD_ofNat, testBit_verdictNumber, decide_eq_true h, Bool.true_and]

/-- A check whose verdict is none is unavailable. -/
theorem takeChecks_unavail {k : Checks} {n : Nat} (t : Nat) (q : GnssPort) (h : n < 8)
    (hNone : k.verdicts[n]? = some none) : (takeChecks k t q).unavail.getLsbD n = true := by
  rw [takeChecks, BitVec.getLsbD_not, BitVec.getLsbD_or, getLsbD_verdictBits _ _ h, getLsbD_verdictBits _ _ h, hNone,
    decide_eq_true h]
  rfl

/-- A check that fails now counts as failed. -/
theorem takeChecks_failed {k : Checks} {n : Nat} (t : Nat) (q : GnssPort) (h : n < 8)
    (hFails : k.verdicts[n]? = some (some true)) : (takeChecks k t q).failed.getLsbD n = true := by
  rw [takeChecks, BitVec.getLsbD_or, getLsbD_verdictBits _ _ h, hFails]
  exact Bool.or_true _

/-! ### The verdicts (R118; 04 R138) -/

theorem atomicGuard_of_refs {t : State} (h : t.refs = s.refs) : atomicGuard t = atomicGuard s := by
  unfold atomicGuard
  refine congrArg (List.any (fins 20)) (funext fun i => ?_)
  rw [atomicClass_of_cfg (i := i) (s := s) (by rw [h]), h]

/-- POWER fails with four satellites above CN0_HIGH. -/
theorem checksOf_power {e : GnssEpoch} {l : List SatMeas} (o : Option Int)
    (h : 4 ≤ (l.filter fun m => decide (s.gnss.ports[e.port].consist.cn0High < m.cn0)).length) :
    (checksOf s e l o).verdicts[3]? = some (some true) :=
  congrArg (fun b => some (some b)) (decide_eq_true h)

section
variable (e : GnssEpoch) (l : List SatMeas) (o : Option Int) (h : atomicGuard s = false)
include h

theorem checksOf_guard_unavailable : (checksOf s e l o).verdicts[0]? = some none := by
  have hNone : guardPrediction s e = none := by
    rw [guardPrediction, h]
    rfl
  unfold checksOf
  dsimp only
  rw [hNone]
  cases o <;> rfl

theorem checksOf_drift_unavailable : (checksOf s e l o).verdicts[1]? = some none := by
  unfold checksOf
  dsimp only
  rw [h]
  rfl

theorem guardHistory_unguarded (passed : Bool) : guardHistory s e o passed = [] := by
  unfold guardHistory
  dsimp only
  rw [h]

end

/-! ### What of a port the stages of an epoch leave (R112, R117, R120) -/

/-- A port without what the answers to an epoch may write. -/
def GnssPort.settled (q : GnssPort) : GnssPort :=
  { q with leaps := [], leapBad := false, excluded := [], rejecting := 0, badConsts := 0, crossAlarm := false }

/-- A figure that the answers do not write is that of the port before them. -/
theorem eq_of_settled {β : Type} (g : GnssPort → β) {q x : GnssPort} (h : q.settled = x.settled)
    (hKept : ∀ y : GnssPort, g y.settled = g y) : g q = g x :=
  (hKept q).symm.trans ((congrArg g h).trans (hKept x))

def settledPort (p : Fin 2) (s : State) : GnssPort := s.gnss.ports[p].settled

theorem settledPort_modPort (p : Fin 2) (f : GnssPort → GnssPort) (s : State) :
    settledPort p (s.modPort p f) = (f s.gnss.ports[p]).settled := by
  rw [settledPort, modPort_port]

theorem built_modPort (q : Fin 5) (p : Fin 2) (f : GnssPort → GnssPort) (s : State) :
    built q (s.modPort p f) = built q s := rfl

theorem settledPort_takeLeaps (p : Fin 2) (l : List (Nat × Int)) (s : State) :
    settledPort p (takeLeaps p l s) = settledPort p s := by
  refine (settledPort_modPort p _ _).trans (forAll_keeps (settledPort p) (fun x t => ?_) _ s)
  split
  · rfl
  · exact settledPort_modPort p _ t

theorem settledPort_takeExclusions (p : Fin 2) (l : List SatMeas) (s : State) :
    settledPort p (takeExclusions p l s) = settledPort p s :=
  forAll_keeps (settledPort p) (fun _ t => settledPort_modPort p _ (freshNat t).2) l s

section
variable {q : Fin 5} (hq : q ≠ 0)
include hq

theorem built_takeLeaps (p : Fin 2) (l : List (Nat × Int)) (s : State) : built q (takeLeaps p l s) = built q s := by
  rw [takeLeaps, built_modPort]
  refine forAll_keeps (built q) (fun x t => ?_) _ s
  split
  · rfl
  · rw [built_raise hq, built_modPort]

theorem built_takeExclusions (p : Fin 2) (l : List SatMeas) (s : State) :
    built q (takeExclusions p l s) = built q s := by
  refine forAll_keeps (built q) (fun m t => ?_) l s
  rw [built_raise hq, built_modPort]
  rfl

theorem built_triggerCapture (c : Capture) (s : State) : built q (triggerCapture c s) = built q s := by
  unfold triggerCapture
  split
  · exact built_raise hq _ _ _ _
  · rfl

theorem built_excludeConst (p : Fin 2) (c : Nat) (s : State) : built q (excludeConst p c s) = built q s := by
  rw [excludeConst, built_raise hq, built_modPort]

theorem built_raiseCross (p : Fin 2) (s : State) : built q (raiseCross p s) = built q s := by
  rw [raiseCross, built_raise hq, built_modPort]

theorem built_rejectPort (p : Fin 2) (bits : BitVec 8) (s : State) : built q (rejectPort p bits s) = built q s := by
  unfold rejectPort
  split
  · rfl
  · rw [built_raise hq, built_addReason hq, built_modPort]

end

/-! ### The answer to the checks that have begun to fail (R120) -/

theorem triggerCapture_ports (c : Capture) (s : State) : (triggerCapture c s).gnss.ports = s.gnss.ports := by
  unfold triggerCapture
  split <;> rfl

/-- The stages of the answer: it may exclude a constellation, raise the alarm and take a snapshot. -/
theorem answerChecks_stages (p : Fin 2) (k : Checks) (newly : BitVec 8) (s : State) :
    ∃ (x y z : Bool) (c : Capture), answerChecks p k newly s = onlyIf z (triggerCapture c)
      (rejectPort p (rejectBits s p k newly) (onlyIf y (raiseCross p) (onlyIf x (excludeConst p k.badConst) s))) := by
  rw [answerChecks]
  split
  · exact ⟨_, _, false, { trigger := 3, evin := 0, duration := 40, overwrite := 0, start := 0 }, rfl⟩
  · exact ⟨_, _, true, _, rfl⟩

/-- A figure of the state stands after the answer where each of its stages leaves it. -/
theorem answerChecks_keeps {β : Type} (g : State → β) {p : Fin 2} {k : Checks} {newly : BitVec 8} (s : State)
    (hConst : ∀ c t, g (excludeConst p c t) = g t) (hCross : ∀ t, g (raiseCross p t) = g t)
    (hReject : ∀ bits t, g (rejectPort p bits t) = g t) (hCapture : ∀ c t, g (triggerCapture c t) = g t) :
    g (answerChecks p k newly s) = g s := by
  obtain ⟨x, y, z, c, h⟩ := answerChecks_stages p k newly s
  rw [h, onlyIf_keeps g z (hCapture c _), hReject, onlyIf_keeps g y (hCross _), onlyIf_keeps g x (hConst _ _)]

theorem built_answerChecks {q : Fin 5} (hq : q ≠ 0) (p : Fin 2) (k : Checks) (newly : BitVec 8) (s : State) :
    built q (answerChecks p k newly s) = built q s :=
  answerChecks_keeps (built q) s (built_excludeConst hq p) (built_raiseCross hq p) (built_rejectPort hq p)
    (built_triggerCapture hq)

theorem rejectPort_some {bits : BitVec 8} (p : Fin 2) (s : State) (h : bits ≠ 0) :
    rejectPort p bits s = raise 0x0903 p.val bits.toNat (addReason (gnssRef p) 7
      (s.modPort p fun q => { q with rejecting := q.rejecting ||| bits })) :=
  if_neg h

theorem rejectPort_none (p : Fin 2) (s : State) : rejectPort p 0 s = s := if_pos rfl

theorem rejectPort_port (p : Fin 2) (bits : BitVec 8) (s : State) : (rejectPort p bits s).gnss.ports[p] =
    { s.gnss.ports[p] with rejecting := s.gnss.ports[p].rejecting ||| bits } := by
  by_cases h : bits = 0
  · subst h
    have hSame : s.gnss.ports[p].rejecting ||| 0 = s.gnss.ports[p].rejecting := BitVec.or_zero
    rw [rejectPort_none, hSame]
  · rw [rejectPort_some p s h, raise_gnss, addReason_gnss, modPort_port]

theorem settledPort_answerChecks (p : Fin 2) (k : Checks) (newly : BitVec 8) (s : State) :
    settledPort p (answerChecks p k newly s) = settledPort p s := by
  refine answerChecks_keeps (settledPort p) s (fun _ t => settledPort_modPort p _ t)
    (fun t => settledPort_modPort p _ t) (fun bits t => ?_) fun c t => ?_
  · rw [settledPort, rejectPort_port]
    rfl
  · rw [settledPort, triggerCapture_ports, settledPort]

theorem answerChecks_rejecting (p : Fin 2) (k : Checks) (newly : BitVec 8) (s : State) :
    (answerChecks p k newly s).gnss.ports[p].rejecting = s.gnss.ports[p].rejecting ||| rejectBits s p k newly := by
  obtain ⟨x, y, z, c, h⟩ := answerChecks_stages p k newly s
  rw [h, onlyIf_keeps (fun t => t.gnss.ports[p].rejecting) z (by rw [triggerCapture_ports]), rejectPort_port,
    onlyIf_keeps (fun t => t.gnss.ports[p].rejecting) y (by rw [raiseCross, raise_gnss, modPort_port]),
    onlyIf_keeps (fun t => t.gnss.ports[p].rejecting) x (by rw [excludeConst, raise_gnss, modPort_port])]

theorem rejectPort_refs {p : Fin 2} {bits : BitVec 8} (h : bits ≠ 0) (hOn : s.refs[gnssRef p].state ≠ .off) :
    (rejectPort p bits s).refs = upd s.refs (gnssRef p) (Ref.accused 7) := by
  rw [rejectPort_some p s h, raise_refs, addReason_refs 7 (by rwa [modPort_refs]), modPort_refs]

/-- The reference is accused of the failed checks, or nothing rejects it. -/
theorem answerChecks_refs {p : Fin 2} (k : Checks) (newly : BitVec 8) (hOn : s.refs[gnssRef p].state ≠ .off) :
    (answerChecks p k newly s).refs =
      if rejectBits s p k newly = 0 then s.refs else upd s.refs (gnssRef p) (Ref.accused 7) := by
  obtain ⟨x, y, z, c, h⟩ := answerChecks_stages p k newly s
  have hBefore : (onlyIf y (raiseCross p) (onlyIf x (excludeConst p k.badConst) s)).refs = s.refs := by
    rw [onlyIf_keeps State.refs y rfl, onlyIf_keeps State.refs x rfl]
  rw [h, onlyIf_keeps State.refs z ((triggerCapture_core c _).same .refs (by decide))]
  split
  case isTrue hNone => rw [hNone, rejectPort_none, hBefore]
  case isFalse hSome => rw [rejectPort_refs hSome (by rwa [hBefore]), hBefore]

/-- A newly failed POWER is among the bits that reject the port. -/
theorem rejectBits_power (p : Fin 2) (k : Checks) {newly : BitVec 8} (h : newly.getLsbD 3 = true) :
    (rejectBits s p k newly).getLsbD 3 = true := by
  rw [rejectBits, BitVec.getLsbD_or, BitVec.getLsbD_or, BitVec.getLsbD_and, h]
  rfl

/-! ### The solution reaches the reference (R115; 02 R65) -/

theorem takeOffset_refs (i : Fin 20) (o : Int) (t : Nat) (s : State) : (takeOffset i o t s).refs =
    upd s.refs i fun r => { r with
      measured := some o, offsets := (t, o) :: r.offsets.filter fun p => decide (t ≤ p.1 + offsetSpan s i) } := by
  unfold takeOffset
  dsimp only
  split <;> rfl

/-- The XO's return reaches the APLLs and no reference. -/
theorem restoreXoIf_refs (c : Prop) [Decidable c] (f : Fin 8 → Apll → Apll) (t : State) :
    (if c then forAll (fins 8) (fun a u => u.modApll a (f a)) t else t).refs = t.refs := by
  split
  · exact forAll_keeps State.refs (f := fun a u => u.modApll a (f a)) (fun _ _ => rfl) _ _
  · rfl

/-- The record after an arrival: it is counted, and at ACT_RESTORE of them activity returns (R65). -/
def Ref.arrived (actRestore : Nat) (r : Ref) : Ref :=
  let n := min 255 (r.arrivals + 1)
  let x := { r with arrivals := n, missing := 0 }
  if actRestore ≤ n ∧ !r.active then ({ x with active := true } : Ref).cleared 3 else x

theorem refArrival_refs {i : Fin 20} (hOn : s.refs[i].state ≠ .off) :
    (refArrival i s).refs = upd s.refs i (Ref.arrived (monOf s i).actRestore) := by
  have hMon (n : Nat) : monOf (s.modRef i fun x => { x with arrivals := n, missing := 0 }) i = monOf s i :=
    monOf_of_cfg (by rw [modRef_ref]) (by rw [modRef_ref]) (by rw [modRef_ref])
  rw [refArrival]
  dsimp only
  rw [if_neg hOn, hMon]
  by_cases hBack : (monOf s i).actRestore ≤ min 255 (s.refs[i].arrivals + 1) ∧ (!s.refs[i].active) = true
  · rw [if_pos hBack, restoreXoIf_refs _ (fun _ x => { x with causeXo := false, engaging := x.engaging || x.causeXo }),
      clearReason_refs]
    simp only [modRef_refs, upd_upd]
    refine upd_congr _ _ ?_
    rw [Ref.arrived]
    exact (if_pos hBack).symm
  · rw [if_neg hBack, modRef_refs]
    refine upd_congr _ _ ?_
    rw [Ref.arrived]
    exact (if_neg hBack).symm

/-- An arrival clears no reason but lost activity. -/
theorem arrived_reason (n : Nat) {k : Nat} (hk : 3 ≠ k) (r : Ref) :
    (r.arrived n).reasons.getLsbD k = r.reasons.getLsbD k := by
  rw [Ref.arrived]
  dsimp only
  split
  · rw [cleared_reason k _ (by decide), decide_eq_true hk, Bool.and_true]
  · rfl

/-- What a missed deadline leaves of the record. -/
theorem missed_keeps (n : Nat) (r : Ref) : (r.missed n).measured = r.measured ∧
    (r.contributing = false → (r.missed n).contributing = false) ∧
    (∀ k, r.reasons.getLsbD k = true → (r.missed n).reasons.getLsbD k = true) := by
  rw [Ref.missed]
  dsimp only
  split
  case isTrue =>
    refine ⟨rfl, fun _ => rfl, fun k hk => (accused_reason k _ (by decide)).trans ?_⟩
    rw [hk, Bool.true_or]
  case isFalse => exact ⟨rfl, id, fun _ => id⟩

theorem clearReason_reason (i : Fin 20) {c k : Nat} (hc : c < 16) (hk : c ≠ k) (s : State) :
    (clearReason i c s).refs[i].reasons.getLsbD k = s.refs[i].reasons.getLsbD k := by
  rw [clearReason_refs, get_upd_same, cleared_reason k _ hc, decide_eq_true hk, Bool.and_true]

/-- What a solution leaves in the record of its reference. -/
theorem deliver_some {p : Fin 2} (o : Int) (unc epoch : Nat) (hOn : s.refs[gnssRef p].state ≠ .off) :
    (deliver p (some o) unc epoch s).refs[gnssRef p].measured = some o ∧
      (deliver p (some o) unc epoch s).refs[gnssRef p].uncertainty = unc ∧
      (deliver p (some o) unc epoch s).refs[gnssRef p].reasons.getLsbD 7 =
        s.refs[gnssRef p].reasons.getLsbD 7 := by
  have hReason (t : State) : (if t.gnss.ports[p].clockFault then t
      else clearReason (gnssRef p) 2 t).refs[gnssRef p].reasons.getLsbD 7 = t.refs[gnssRef p].reasons.getLsbD 7 := by
    cases t.gnss.ports[p].clockFault with
    | true => rfl
    | false => exact clearReason_reason (gnssRef p) (by decide) (by decide) t
  rw [deliver, takeOffset_refs, get_upd_same, modRef_ref]
  refine ⟨rfl, rfl, (hReason _).trans ?_⟩
  rw [refArrival_refs hOn, get_upd_same, arrived_reason _ (by decide)]

/-- What a missing solution leaves in it. -/
theorem deliver_none_ref {p : Fin 2} (unc epoch : Nat) (hOn : s.refs[gnssRef p].state ≠ .off) :
    ∃ n, (deliver p none unc epoch s).refs[gnssRef p] = (s.refs[gnssRef p].accused 2).missed n := by
  have hAccused : (addReason (gnssRef p) 2 s).refs[gnssRef p] = s.refs[gnssRef p].accused 2 := by
    rw [addReason_refs 2 hOn, get_upd_same]
  refine ⟨(monOf (addReason (gnssRef p) 2 s) (gnssRef p)).actLoss, ?_⟩
  rw [deliver, refMiss_refs (by rw [hAccused]; exact hOn), get_upd_same, hAccused]

theorem deliver_gnss (p : Fin 2) (o : Option Int) (unc epoch : Nat) (s : State) :
    (deliver p o unc epoch s).gnss = s.gnss :=
  (deliver_core p o unc epoch s).same .gnss (by decide)

theorem deliver_keeps_rejection {p : Fin 2} (o : Option Int) (unc epoch : Nat)
    (hOn : s.refs[gnssRef p].state ≠ .off) (h : s.refs[gnssRef p].reasons.getLsbD 7 = true) :
    (deliver p o unc epoch s).refs[gnssRef p].reasons.getLsbD 7 = true := by
  cases o with
  | some o =>
    obtain ⟨-, -, hKept⟩ := deliver_some o unc epoch hOn
    rw [hKept, h]
  | none =>
    obtain ⟨n, hRef⟩ := deliver_none_ref unc epoch hOn
    obtain ⟨-, -, hKept⟩ := missed_keeps n (s.refs[gnssRef p].accused 2)
    rw [hRef]
    exact hKept 7 ((accused_reason 7 _ (by decide)).trans (by rw [h, Bool.true_or]))

theorem built_deliver_some (q : Fin 5) (p : Fin 2) (o : Int) (unc epoch : Nat) (s : State) :
    built q (deliver p (some o) unc epoch s) = built q s := by
  have hClear (t : State) : (if t.gnss.ports[p].clockFault then t else clearReason (gnssRef p) 2 t).host = t.host := by
    split <;> rfl
  rw [deliver, built]
  rw [(takeOffset_core _ _ _ _).same .host (by decide), modRef_host, hClear,
    (refArrival_core _ _).same .host (by decide), built]

/-! ### The epoch (R115) -/

/-- The state once the leap counts and the new exclusions of an epoch are taken. -/
def screenedEpoch (e : GnssEpoch) (s : State) : State :=
  takeExclusions e.port (newlyFaulty s e) (takeLeaps e.port e.leapCounts s)

/-- The checks of an epoch. -/
def epochChecks (e : GnssEpoch) (s : State) : Checks := checksOf (screenedEpoch e s) e (usedSats s e) (solution s e)

/-- The checks that have begun to fail. -/
def newlyFailed (e : GnssEpoch) (s : State) : BitVec 8 :=
  verdictBits (fun v => decide (v = some true)) (epochChecks e s).verdicts &&&
    ~~~(screenedEpoch e s).gnss.ports[e.port].failed

/-- What the epoch makes of its port before the answer to the checks. -/
def judgedPort (e : GnssEpoch) (s : State) (q : GnssPort) : GnssPort :=
  portEpoch (epochChecks e s) (screenedEpoch e s).clock.ticks.toNat (solution s e)
    (refConstOf s.gnss.ports[e.port] e (usedSats s e)) (usedSats s e).length
    (guardHistory (screenedEpoch e s) e (solution s e)
      ((epochChecks e s).verdicts.all fun v => decide (v ≠ some true))) e.noiseTap q

/-- The state once the checks are answered. -/
def answeredEpoch (e : GnssEpoch) (s : State) : State :=
  answerChecks e.port (epochChecks e s) (newlyFailed e s) ((screenedEpoch e s).modPort e.port (judgedPort e s))

/-- The device time of the epoch: the last multiple of the interval. -/
def epochTime (e : GnssEpoch) (s : State) : Nat :=
  now s / ms16 (max 1 s.gnss.ports[e.port].fix.interval) * ms16 (max 1 s.gnss.ports[e.port].fix.interval)

/-- The state in which the solution has reached its reference. -/
def deliveredEpoch (e : GnssEpoch) (s : State) : State :=
  deliver e.port (solution s e) (gnssUncertainty s e) (epochTime e s) (answeredEpoch e s)

/-- The state after the epoch, with the item `x` on its pan queue. -/
def epochEnd (e : GnssEpoch) (s : State) (x : QPayload) : State :=
  enqueue 4 x ((deliveredEpoch e s).modGnss fun g => { g with snapTaken := false })

theorem execGnssEpoch_idle {e : GnssEpoch} (h : s.refs[gnssRef e.port].state = .off ∨ s.clock.form = .stopped) :
    execGnssEpoch e s = .next s :=
  if_pos (h.imp_right fun hStopped => by rw [clockRuns, hStopped]; rfl)

theorem execGnssEpoch_runs {e : GnssEpoch} (hOn : s.refs[gnssRef e.port].state ≠ .off)
    (hRuns : s.clock.form ≠ .stopped) : ∃ x, execGnssEpoch e s = .next (epochEnd e s x) :=
  ⟨_, if_neg fun h => h.elim hOn fun hStopped => by simp [clockRuns, hRuns] at hStopped⟩

/-! ### What an epoch leaves (R115 to R120) -/

theorem screenedEpoch_refs (e : GnssEpoch) (s : State) : (screenedEpoch e s).refs = s.refs :=
  ((takeExclusions_core e.port (newlyFaulty s e) _).same .refs (by decide)).trans
    ((takeLeaps_core e.port e.leapCounts s).same .refs (by decide))

theorem screenedEpoch_settled (e : GnssEpoch) (s : State) :
    (screenedEpoch e s).gnss.ports[e.port].settled = s.gnss.ports[e.port].settled :=
  (settledPort_takeExclusions e.port _ _).trans (settledPort_takeLeaps e.port _ s)

theorem screenedEpoch_failed (e : GnssEpoch) (s : State) :
    (screenedEpoch e s).gnss.ports[e.port].failed = s.gnss.ports[e.port].failed :=
  eq_of_settled (fun q => q.failed) (screenedEpoch_settled e s) fun _ => rfl

theorem screenedEpoch_last (e : GnssEpoch) (s : State) :
    (screenedEpoch e s).gnss.ports[e.port].last = s.gnss.ports[e.port].last :=
  eq_of_settled (fun q => q.last) (screenedEpoch_settled e s) fun _ => rfl

theorem screenedEpoch_consist (e : GnssEpoch) (s : State) :
    (screenedEpoch e s).gnss.ports[e.port].consist = s.gnss.ports[e.port].consist :=
  eq_of_settled (fun q => q.consist) (screenedEpoch_settled e s) fun _ => rfl

theorem screenedEpoch_atomicGuard (e : GnssEpoch) (s : State) : atomicGuard (screenedEpoch e s) = atomicGuard s :=
  atomicGuard_of_refs (screenedEpoch_refs e s)

theorem epochEnd_gnss (e : GnssEpoch) (s : State) (x : QPayload) :
    (epochEnd e s x).gnss = { (answeredEpoch e s).gnss with snapTaken := false } :=
  congrArg (fun g : Gnss => { g with snapTaken := false }) (deliver_gnss _ _ _ _ _)

/-- But for what the answers may write, the port is the one that the verdicts have judged. -/
theorem epochEnd_settled (e : GnssEpoch) (s : State) (x : QPayload) : (epochEnd e s x).gnss.ports[e.port].settled =
    (judgedPort e s (screenedEpoch e s).gnss.ports[e.port]).settled := by
  rw [epochEnd_gnss]
  exact (settledPort_answerChecks e.port _ _ _).trans (settledPort_modPort e.port _ _)

theorem epochEnd_last (e : GnssEpoch) (s : State) (x : QPayload) : (epochEnd e s x).gnss.ports[e.port].last =
    if (solution s e).isSome then solution s e else s.gnss.ports[e.port].last := by
  refine (eq_of_settled (fun q => q.last) (epochEnd_settled e s x) fun _ => rfl).trans ?_
  rw [← screenedEpoch_last e s]
  rfl

theorem epochEnd_satsUsed (e : GnssEpoch) (s : State) (x : QPayload) :
    (epochEnd e s x).gnss.ports[e.port].satsUsed = (usedSats s e).length :=
  eq_of_settled (fun q => q.satsUsed) (epochEnd_settled e s x) fun _ => rfl

theorem judgedPort_failed (e : GnssEpoch) (s : State) (q : GnssPort) : (judgedPort e s q).failed =
    (takeChecks (epochChecks e s) (screenedEpoch e s).clock.ticks.toNat q).failed := rfl

theorem judgedPort_unavail (e : GnssEpoch) (s : State) (q : GnssPort) : (judgedPort e s q).unavail =
    (takeChecks (epochChecks e s) (screenedEpoch e s).clock.ticks.toNat q).unavail := rfl

theorem epochEnd_failed {e : GnssEpoch} {n : Nat} (x : QPayload) (h : n < 8)
    (hFails : (epochChecks e s).verdicts[n]? = some (some true)) :
    (epochEnd e s x).gnss.ports[e.port].failed.getLsbD n = true := by
  rw [eq_of_settled (fun q => q.failed) (epochEnd_settled e s x) fun _ => rfl, judgedPort_failed,
    takeChecks_failed _ _ h hFails]

theorem epochEnd_unavail {e : GnssEpoch} {n : Nat} (x : QPayload) (h : n < 8)
    (hNone : (epochChecks e s).verdicts[n]? = some none) :
    (epochEnd e s x).gnss.ports[e.port].unavail.getLsbD n = true := by
  rw [eq_of_settled (fun q => q.unavail) (epochEnd_settled e s x) fun _ => rfl, judgedPort_unavail,
    takeChecks_unavail _ _ h hNone]

theorem epochEnd_guardHist {e : GnssEpoch} (x : QPayload) (h : atomicGuard s = false) :
    (epochEnd e s x).gnss.ports[e.port].guardHist = [] :=
  (eq_of_settled (fun q => q.guardHist) (epochEnd_settled e s x) fun _ => rfl).trans
    (guardHistory_unguarded e _ ((screenedEpoch_atomicGuard e s).trans h) _)

theorem epochEnd_built (e : GnssEpoch) (s : State) (x : QPayload) :
    built 4 (epochEnd e s x) = built 4 (deliveredEpoch e s) ++ [x] :=
  built_enqueue 4 x _

theorem answeredEpoch_built (e : GnssEpoch) (s : State) : built 4 (answeredEpoch e s) = built 4 s := by
  have hQueue : (4 : Fin 5) ≠ 0 := by decide
  rw [answeredEpoch, built_answerChecks hQueue, built_modPort, screenedEpoch, built_takeExclusions hQueue,
    built_takeLeaps hQueue]

/-- The bits of R118 that reject the port at an epoch. -/
def epochRejects (e : GnssEpoch) (s : State) : BitVec 8 :=
  rejectBits ((screenedEpoch e s).modPort e.port (judgedPort e s)) e.port (epochChecks e s) (newlyFailed e s)

section
variable {e : GnssEpoch} (hOn : s.refs[gnssRef e.port].state ≠ .off)
include hOn

theorem answeredEpoch_refs : (answeredEpoch e s).refs =
    if epochRejects e s = 0 then s.refs else upd s.refs (gnssRef e.port) (Ref.accused 7) := by
  rw [answeredEpoch, answerChecks_refs _ _ (by rwa [modPort_refs, screenedEpoch_refs]), modPort_refs,
    screenedEpoch_refs, epochRejects]

theorem answeredEpoch_rejected (h : epochRejects e s ≠ 0) :
    (answeredEpoch e s).refs[gnssRef e.port] = s.refs[gnssRef e.port].accused 7 := by
  rw [answeredEpoch_refs hOn, if_neg h, get_upd_same]

theorem answeredEpoch_accepted (h : epochRejects e s = 0) :
    (answeredEpoch e s).refs[gnssRef e.port] = s.refs[gnssRef e.port] := by
  rw [answeredEpoch_refs hOn, if_pos h]

theorem answeredEpoch_state_measured :
    (answeredEpoch e s).refs[gnssRef e.port].state = s.refs[gnssRef e.port].state ∧
      (answeredEpoch e s).refs[gnssRef e.port].measured = s.refs[gnssRef e.port].measured := by
  by_cases h : epochRejects e s = 0
  · rw [answeredEpoch_accepted hOn h]
    exact ⟨rfl, rfl⟩
  · rw [answeredEpoch_rejected hOn h]
    exact ⟨rfl, rfl⟩

theorem answeredEpoch_on : (answeredEpoch e s).refs[gnssRef e.port].state ≠ .off := by
  obtain ⟨hState, -⟩ := answeredEpoch_state_measured hOn
  rwa [hState]

/-- With a solution the epoch reaches the reference and the pan queue. -/
theorem epochEnd_solved (x : QPayload) {o : Int} (hSolved : solution s e = some o) :
    (epochEnd e s x).refs[gnssRef e.port].measured = some o ∧
      (epochEnd e s x).refs[gnssRef e.port].uncertainty = gnssUncertainty s e ∧
      (built 4 (epochEnd e s x)).length = (built 4 s).length + 1 := by
  have hDelivered : deliveredEpoch e s =
      deliver e.port (some o) (gnssUncertainty s e) (epochTime e s) (answeredEpoch e s) := by
    rw [deliveredEpoch, hSolved]
  have hRefs : (epochEnd e s x).refs = (deliveredEpoch e s).refs := rfl
  obtain ⟨hMeasured, hUncertainty, -⟩ := deliver_some o (gnssUncertainty s e) (epochTime e s) (answeredEpoch_on hOn)
  rw [epochEnd_built, hRefs, hDelivered, built_deliver_some, answeredEpoch_built, List.length_append]
  exact ⟨hMeasured, hUncertainty, rfl⟩

/-- Without one it is NO_SOLUTION and a missing measurement. -/
theorem epochEnd_unsolved (x : QPayload) (hNone : solution s e = none) :
    (epochEnd e s x).refs[gnssRef e.port].reasons.getLsbD 2 = true ∧
      (epochEnd e s x).refs[gnssRef e.port].contributing = false ∧
      (epochEnd e s x).refs[gnssRef e.port].measured = s.refs[gnssRef e.port].measured := by
  have hRefs : (epochEnd e s x).refs =
      (deliver e.port none (gnssUncertainty s e) (epochTime e s) (answeredEpoch e s)).refs := by
    rw [← hNone]
    rfl
  obtain ⟨n, hRef⟩ := deliver_none_ref (gnssUncertainty s e) (epochTime e s) (answeredEpoch_on hOn)
  obtain ⟨hMeasured, hContributing, hReasons⟩ :=
    missed_keeps n ((answeredEpoch e s).refs[gnssRef e.port].accused 2)
  obtain ⟨-, hBefore⟩ := answeredEpoch_state_measured hOn
  rw [hRefs, hRef]
  exact ⟨hReasons 2 ((accused_reason 2 _ (by decide)).trans (by simp)), hContributing rfl, hMeasured.trans hBefore⟩

/-- R120: a check that begins to fail rejects the port, where its bit is among those that do. -/
theorem epochEnd_rejected {n : Nat} (x : QPayload) (h : (epochRejects e s).getLsbD n = true) :
    (epochEnd e s x).refs[gnssRef e.port].reasons.getLsbD 7 = true ∧
      (epochEnd e s x).gnss.ports[e.port].rejecting.getLsbD n = true := by
  have hSome : epochRejects e s ≠ 0 := fun hZero => by
    rw [hZero] at h
    simp at h
  constructor
  · refine deliver_keeps_rejection (solution s e) (gnssUncertainty s e) (epochTime e s) (answeredEpoch_on hOn) ?_
    rw [answeredEpoch_rejected hOn hSome, accused_reason 7 _ (by decide), decide_eq_true rfl, Bool.or_true]
  · rw [epochEnd_gnss]
    dsimp only
    rw [answeredEpoch, answerChecks_rejecting, BitVec.getLsbD_or, ← epochRejects, h, Bool.or_true]

end

theorem epochChecks_power {e : GnssEpoch}
    (h : 4 ≤ ((usedSats s e).filter fun m => decide (s.gnss.ports[e.port].consist.cn0High < m.cn0)).length) :
    (epochChecks e s).verdicts[3]? = some (some true) :=
  checksOf_power _ (by rwa [screenedEpoch_consist])

/-- R120: POWER is among the failures that reject the port. -/
theorem epochRejects_power {e : GnssEpoch} (hFails : (epochChecks e s).verdicts[3]? = some (some true))
    (hPassed : s.gnss.ports[e.port].failed.getLsbD 3 = false) : (epochRejects e s).getLsbD 3 = true := by
  refine rejectBits_power _ _ ?_
  rw [newlyFailed, BitVec.getLsbD_and, BitVec.getLsbD_not, screenedEpoch_failed, hPassed,
    getLsbD_verdictBits _ _ (by decide), hFails]
  rfl

/-- Settles O32: each clause is the law of its row above. -/
theorem gnssRowsActAsTheirRulesSay : Obligations.GnssRowsActAsTheirRulesSay := by
  refine ⟨fun s p m e j hJob hDue => execGroupDelayMeasureEnd_due m e hJob hDue, fun s c h => ?timeoutTrack,
    fun s c h hTries => ?timeoutSearch, fun s c p x k a b n cn hIdle hUnit hOn => ?assigns,
    fun s c a b cn w hState hWord => ?tracks, fun s p => execGnssClockFault_lost p s, fun s p h => if_pos h,
    fun s p i q hI hQ => ?histogram, fun s p m e j hJob hEarly => execGroupDelayMeasureEnd_early m e hJob hEarly,
    fun s p x y z u h v hMode hH hV hMin => execSurveyComplete_done x y z u hMode hH hV hMin,
    fun s c hArmed hTimed hFree => ?armedFree, fun s c hArmed hTimed hBlocked => ?armedBlocked,
    fun s c a b x y o hCapturing hWhole => execSnapshotComplete_whole a b x y o hCapturing hWhole,
    fun s n q src hExporting hNone => execSnapshotExportComplete_unreleased hExporting hNone,
    fun s p x => ?exclusionEnd, fun s p k hClearing hTime => ?clears, fun s e o hOn hRuns ho hEnough => ?solved,
    fun s e hOn hRuns hNone => ?unsolved, fun s e hOn hRuns hStrong => ?power, fun s e hOn hRuns hGuard => ?unguarded,
    fun s e h => execGnssEpoch_idle h, fun s e m hm => ?used, fun s e h => gnssUncertainty_notHeld h⟩
  case timeoutTrack =>
    exact ⟨_, execChannelTimeout_track h, by rw [setChannel_same], fun d hd => setChannel_of_ne _ s hd⟩
  case timeoutSearch => exact ⟨_, execChannelTimeout_search h hTries, setChannel_same c _ s⟩
  case assigns =>
    refine ⟨_, execCorrelatorDump_assigns x k a b n cn hIdle hUnit hOn, ?_⟩
    rw [setChannel_same]
    exact ⟨rfl, rfl, rfl⟩
  case tracks =>
    obtain ⟨d, hNext, hFigures⟩ := execCorrelatorDump_tracks a b cn hState hWord
    refine ⟨_, hNext, ?_⟩
    rwa [setChannel_same]
  case histogram =>
    refine ⟨_, rfl, ?_⟩
    rw [modPort_port]
    exact ⟨map_range_getD hI, map_range_getD hQ⟩
  case armedFree => rw [exec_snapshotArmedStart, execSnapshotArmedStart_timed hArmed hTimed, triggerCapture_free hFree]
  case armedBlocked =>
    rw [exec_snapshotArmedStart, execSnapshotArmedStart_timed hArmed hTimed, triggerCapture_blocked hBlocked, hTimed]
  case exclusionEnd =>
    obtain ⟨t, hNext, hMem⟩ := execSatelliteExclusionEnd_excluded p x s
    exact ⟨t, hNext, fun y hy hSat => ((hMem y).mp hy).2.resolve_left fun hNe => hNe hSat,
      fun y hy hKept => (hMem y).mpr ⟨hy, hKept⟩⟩
  case clears =>
    obtain ⟨t, hNext, hPort⟩ := execCheckClear_passed hClearing hTime
    refine ⟨t, hNext, ?_⟩
    rw [hPort]
    exact ⟨getLsbD_andNot_checkMask _ k, getLsbD_andNot_checkMask _ k⟩
  case solved =>
    have hSolved := (solution_of_enough hEnough).trans ho
    obtain ⟨x, hNext⟩ := execGnssEpoch_runs hOn hRuns
    obtain ⟨hMeasured, hUncertainty, hBuilt⟩ := epochEnd_solved hOn x hSolved
    refine ⟨_, hNext, ?_, epochEnd_satsUsed e s x, hMeasured, hUncertainty, ?_, hBuilt⟩
    · rw [epochEnd_last, hSolved]
      rfl
    · rw [epochEnd_gnss]
  case unsolved =>
    obtain ⟨x, hNext⟩ := execGnssEpoch_runs hOn hRuns
    obtain ⟨hReason, hContributing, hMeasured⟩ := epochEnd_unsolved hOn x hNone
    refine ⟨_, hNext, hReason, hContributing, hMeasured, ?_⟩
    rw [epochEnd_last, hNone]
    rfl
  case power =>
    obtain ⟨x, hNext⟩ := execGnssEpoch_runs hOn hRuns
    have hFails := epochChecks_power hStrong
    exact ⟨_, hNext, epochEnd_failed x (by decide) hFails,
      fun hPassed => epochEnd_rejected hOn x (epochRejects_power hFails hPassed)⟩
  case unguarded =>
    obtain ⟨x, hNext⟩ := execGnssEpoch_runs hOn hRuns
    have hScreened := (screenedEpoch_atomicGuard e s).trans hGuard
    exact ⟨_, hNext, epochEnd_unavail x (by decide) (checksOf_guard_unavailable e _ _ hScreened),
      epochEnd_unavail x (by decide) (checksOf_drift_unavailable e _ _ hScreened), epochEnd_guardHist x hGuard⟩
  case used =>
    obtain ⟨hUsable, hSound⟩ := mem_usedSats hm
    obtain ⟨hTracked, hHealthy, hAllowed, hConst⟩ := usable_sat hUsable
    exact ⟨hTracked, hHealthy, hAllowed, hConst, orbit_of_not_faulty hSound⟩

end Sys2Proof.Machine
end

section
/-! SUPPORT. The prediction of the ensemble and the terms of the bound that rest on it (04 R126, R137; 05 R157), and
the obligation on how it widens. -/

namespace Sys2Proof.Machine

/-! ### The integer square root (08 R248) -/

/-- The search keeps the root between `r` and `r + 2 ^ n`. -/
theorem isqrtFrom_bounds {n x r : Nat} (hLow : r * r ≤ x) (hHigh : x < (r + 2 ^ n) * (r + 2 ^ n)) :
    isqrtFrom n x r * isqrtFrom n x r ≤ x ∧ x < (isqrtFrom n x r + 1) * (isqrtFrom n x r + 1) := by
  induction n generalizing r with
  | zero => exact ⟨hLow, hHigh⟩
  | succ n ih =>
    rw [isqrtFrom]
    split
    case isTrue hFits => exact ih hFits (by rwa [Nat.add_assoc, ← Nat.two_mul, ← Nat.pow_succ'])
    case isFalse hBeyond => exact ih hLow (Nat.lt_of_not_le hBeyond)

theorem isqrt_bounds (x : Nat) : isqrt x * isqrt x ≤ x ∧ x < (isqrt x + 1) * (isqrt x + 1) := by
  refine isqrtFrom_bounds (Nat.zero_le x) ?_
  calc x < 2 ^ (Nat.log2 x + 1) := Nat.lt_log2_self
    _ ≤ 2 ^ (Nat.log2 x / 2 + 1 + (Nat.log2 x / 2 + 1)) := Nat.pow_le_pow_right (by decide) (by omega)
    _ = (0 + 2 ^ (Nat.log2 x / 2 + 1)) * (0 + 2 ^ (Nat.log2 x / 2 + 1)) := by rw [Nat.zero_add, Nat.pow_add]

/-- The least number whose square is no less. -/
theorem ceilSqrt_le_iff (n k : Nat) : ceilSqrt n ≤ k ↔ n ≤ k * k := by
  obtain ⟨hLow, hHigh⟩ := isqrt_bounds n
  rw [ceilSqrt]
  split
  case isTrue hSquare => rw [← Nat.mul_self_le_mul_self_iff, hSquare]
  case isFalse hBetween =>
    constructor
    case mp => exact fun hle => Nat.le_of_lt (Nat.lt_of_lt_of_le hHigh (Nat.mul_le_mul hle hle))
    case mpr =>
      refine fun hle => Nat.lt_of_not_le fun hBelow => hBetween (Nat.le_antisymm hLow ?_)
      exact Nat.le_trans hle (Nat.mul_le_mul hBelow hBelow)

theorem ceilSqrt_mono {m n : Nat} (h : m ≤ n) : ceilSqrt m ≤ ceilSqrt n :=
  (ceilSqrt_le_iff ..).mpr (Nat.le_trans h ((ceilSqrt_le_iff ..).mp (Nat.le_refl _)))

/-! ### The stated uncertainty of a prediction (04 R126, R137) -/

/-- A quotient rounded up is the least number that is no less. -/
theorem roundedUp_le_iff (a m : Nat) {d : Nat} (h : 0 < d) : (a + d - 1) / d ≤ m ↔ a ≤ m * d := by
  rw [← Nat.lt_succ_iff, Nat.div_lt_iff_lt_mul h, Nat.succ_mul]
  omega

/-- 6 σ is at most `n` ps where 36 σ² is at most n², over one denominator for the units of its five terms. -/
theorem sixSigmaAt_le_iff (sx varY varD q1 q2 t n : Nat) : sixSigmaAt sx varY varD q1 q2 t ≤ n ↔
    36 * 10 ^ 24 * (12 * sx ^ 2 * 86400 ^ 2 * secUnit ^ 4 * 2 ^ 132 +
      12 * varY * t ^ 2 * 86400 ^ 2 * secUnit ^ 2 * 2 ^ 100 + 3 * varD * t ^ 4 * 2 ^ 100 +
      12 * q1 * t * 86400 ^ 2 * secUnit ^ 3 + 4 * q2 * t ^ 3 * 86400 ^ 2 * secUnit)
      ≤ n ^ 2 * (12 * 86400 ^ 2 * secUnit ^ 4 * 2 ^ 252) := by
  have hUnits : 12 * 86400 ^ 2 * secUnit ^ 4 * 2 ^ 132 * 2 ^ 120 = 12 * 86400 ^ 2 * secUnit ^ 4 * 2 ^ 252 := by
    rw [Nat.mul_assoc, ← Nat.pow_add]
  have hSquare : n ^ 2 = n * n := Nat.pow_two n
  rw [sixSigmaAt, ceilSqrt_le_iff, roundedUp_le_iff _ _ (by decide), hUnits, hSquare]
  exact Iff.of_eq (by ac_rfl)

theorem mul_pow_mul_mono (a k c : Nat) {t u : Nat} (h : t ≤ u) : a * t ^ k * c ≤ a * u ^ k * c :=
  Nat.mul_le_mul_right c (Nat.mul_le_mul_left a (Nat.pow_le_pow_left h k))

theorem sixSigmaAt_mono (sx varY varD q1 q2 : Nat) {t u : Nat} (h : t ≤ u) :
    sixSigmaAt sx varY varD q1 q2 t ≤ sixSigmaAt sx varY varD q1 q2 u := by
  refine ceilSqrt_mono (Nat.div_le_div_right (Nat.sub_le_sub_right (Nat.add_le_add_right
    (Nat.mul_le_mul_left _ ?_) _) 1))
  refine Nat.add_le_add (Nat.add_le_add (Nat.add_le_add (Nat.add_le_add_left ?frequency _) ?drift) ?white) ?walk
  case frequency => exact mul_pow_mul_mono varY 2 _ h
  case drift => exact mul_pow_mul_mono varD 4 _ h
  case white => exact Nat.mul_le_mul_right _ (Nat.mul_le_mul_left q1 h)
  case walk => exact mul_pow_mul_mono q2 3 _ h

/-! ### HOLD and TEMP_HOLD (05 R157) -/

theorem termsOf_unanchored {s : State} (h : s.ductus.anchor = none) :
    (termsOf s)[2]? = some (coastHold s (horizonOf s)) := by
  simp [termsOf, h]

theorem termsOf_unanchored_tempHold {s : State} (h : s.ductus.anchor = none) (hLoss : s.margin.lossAt = none) :
    (termsOf s)[3]? = some 0 := by
  simp [termsOf, h, hLoss]

theorem termsOf_steered {s : State} (h : anchored s = true) (hRuns : s.ductus.state ≠ .coast) :
    (termsOf s)[2]? = some (predictionUnc s (horizonOf s)) ∧ (termsOf s)[3]? = some 0 := by
  obtain ⟨a, hAnchor⟩ := Option.isSome_iff_exists.mp (Bool.and_eq_true_iff.mp h).1
  simp [termsOf, h, hRuns, hAnchor]

/-- Settles O36: the least number of ps by the equivalence for 6 σ, and the cases of the prediction and of the terms. -/
theorem predictionsWidenAsTheClockModelSays : Obligations.PredictionsWidenAsTheClockModelSays :=
  ⟨fun s t n => sixSigmaAt_le_iff _ _ _ _ _ t n, fun _ _ _ h => sixSigmaAt_mono _ _ _ _ _ h, fun _ _ h => if_pos h,
    fun s t hFree hXo hMeas => if_neg (by simp [hFree, hXo, hMeas]), fun _ h => termsOf_unanchored h,
    fun _ h hRuns => termsOf_steered h hRuns, fun _ h hLoss => termsOf_unanchored_tempHold h hLoss⟩

end Sys2Proof.Machine
end

section
/-! SUPPORT. The plain commands of references and Ductus (02 R73; 04 R130, R145, R148; 14 R404, R406; 15 R417, R419),
and the obligation that they act as their rules say. -/

namespace Sys2Proof.Machine

/-! ### dpll-enable (R148) -/

/-- A channel but DPLL0 passes the checks of its body and its state. -/
theorem execDpllEnable_permitted (r : Req) {c : Fin 6} {e : Nat} (s : State) (hChannel : c.val ≠ 0)
    (hEnable : e ≤ 1) : execDpllEnable r c e s = runSimple 0x0304 2 r (fun s =>
      if e = 0 then .ok (dpllOff c s)
      else if s.ductus.dplls[c].state = .off then
        .ok (if inputPresent (s.modDpll c fun x => { x with state := .pulling }) c then
            s.modDpll c fun x => { x with state := .pulling }
          else freezeDpll c (s.modDpll c fun x => { x with state := .pulling }))
      else .ok s) s := by
  rw [execDpllEnable, asFin_val]
  dsimp only
  simp only [need_true (decide_eq_true hEnable), need_true (decide_eq_true hChannel)]
  rfl

section
variable {s : State} {r : Req} {c : Fin 6} (hAsks : Asks 0x0304 2 r s)
include hAsks

theorem execDpllEnable_dpll0 {e : Nat} (hEnable : e ≤ 1) :
    execDpllEnable r 0 e s = .next (finish r.src eState [] s) :=
  runSimple_error hAsks (need_true (decide_eq_true hEnable))

variable (hChannel : c.val ≠ 0)
include hChannel

theorem execDpllEnable_disables : execDpllEnable r c 0 s = .next (finish r.src stOk [] (dpllOff c s)) := by
  rw [execDpllEnable_permitted r s hChannel (by decide)]
  exact runSimple_ok hAsks (if_pos rfl)

theorem execDpllEnable_pulls (hOff : s.ductus.dplls[c].state = .off)
    (hInput : inputPresent (s.modDpll c fun x => { x with state := .pulling }) c = true) :
    execDpllEnable r c 1 s =
      .next (finish r.src stOk [] (s.modDpll c fun x => { x with state := .pulling })) := by
  rw [execDpllEnable_permitted r s hChannel (by decide)]
  refine runSimple_ok hAsks ?_
  rw [if_neg (by decide), if_pos hOff, if_pos hInput]

theorem execDpllEnable_enabled (hOn : s.ductus.dplls[c].state ≠ .off) :
    execDpllEnable r c 1 s = .next (finish r.src stOk [] s) := by
  rw [execDpllEnable_permitted r s hChannel (by decide)]
  refine runSimple_ok hAsks ?_
  rw [if_neg (by decide), if_neg hOn]

end

theorem dpllOff_dpll (c : Fin 6) (s : State) :
    (dpllOff c s).ductus.dplls[c].state = .off ∧ (dpllOff c s).ductus.dplls[c].realign = none := by
  unfold dpllOff
  dsimp only
  rw [(takeAplls_core c _ _).same .ductus (by decide), (dropItem_core 0 c.val _).same .ductus (by decide),
    modDpll_ductus, get_upd_same]
  exact ⟨rfl, rfl⟩

/-! ### MODEL_EXPORT and MODEL_IMPORT (R130) -/

theorem length_le (n v : Nat) : (le n v).length = n := by
  induction n generalizing v with
  | zero => rfl
  | succ n ih => rw [le, List.length_cons, ih]

theorem length_ztBytes (u : Nat) : (ztBytes u).length = 16 := by simp [ztBytes, length_le]

theorem length_flatMap_of_length {α : Type} {f : α → Bytes} {n : Nat} {l : List α} (h : ∀ a ∈ l, (f a).length = n) :
    (l.flatMap f).length = n * l.length := by
  induction l with
  | nil => rfl
  | cons a l ih =>
    rw [List.flatMap_cons, List.length_append, h a List.mem_cons_self, ih fun b hb => h b (List.mem_cons_of_mem a hb),
      List.length_cons, Nat.mul_succ, Nat.add_comm]

/-- The item of one clock member. -/
def exportItem (s : State) (i : Fin 20) : Bytes :=
  let m := s.ductus.members[i]
  let d := driftOf s i
  le 1 i.val ++ le 1 s.refs[i].cfg.atomic ++ le 1 m.drift ++ le 5 0 ++ le 8 (toCode 64 m.y) ++
  le 8 (toCode 64 d.1) ++ le 8 m.sigmaY ++ le 8 d.2 ++ ztBytes (now s)

theorem length_exportItem (s : State) (i : Fin 20) : (exportItem s i).length = 56 := by
  simp only [exportItem, List.length_append, length_le, length_ztBytes]

/-- The body of MODEL_EXPORT: a header of 8 octets and 56 for each clock member. -/
theorem execModelExport_body {s : State} {r : Req} (h : Asks 0x0305 0 r s) :
    ∃ body, execModelExport r s = .next (finish r.src stOk body s) ∧
      body.take 8 = le 4 (clockMembers s).length ++ le 4 0 ∧ body.length = 8 + 56 * (clockMembers s).length := by
  obtain ⟨hLen, p, hReady⟩ := h
  refine ⟨_, runRead_ok hReady (decide_eq_true hLen) rfl, ?_, ?_⟩
  · exact List.take_left' (by simp [length_le])
  · have hItem : ∀ i ∈ clockMembers s, (exportItem s i).length = 56 := fun i _ => length_exportItem s i
    simp only [List.length_append, length_le]
    exact congrArg (8 + ·) (length_flatMap_of_length hItem)

/-- One item of MODEL_IMPORT. -/
def importItem (it : ModelItem) (t : State) : State := match itemKept t it with
  | some i => t.modDuctus fun d =>
      { d with members := upd d.members i (importedMember (modelOf t i) (now t - ztUnits it.exportTime) it) }
  | none => t

theorem importItem_refs (it : ModelItem) (t : State) : (importItem it t).refs = t.refs := by
  unfold importItem
  split <;> rfl

theorem importItem_clock (it : ModelItem) (t : State) : (importItem it t).clock = t.clock := by
  unfold importItem
  split <;> rfl

theorem importItem_ductusState (it : ModelItem) (t : State) : (importItem it t).ductus.state = t.ductus.state := by
  unfold importItem
  split <;> rfl

theorem importItem_member {it : ModelItem} {t : State} {i : Fin 20} (h : itemKept t it = some i) :
    (importItem it t).ductus.members[i] =
      importedMember (modelOf t i) (now t - ztUnits it.exportTime) it t.ductus.members[i] := by
  simp only [importItem, h]
  exact get_upd_same _ _ _

section
variable {s : State} {r : Req} {l : List ModelItem} (hAsks : Asks 0x0306 (8 + 56 * l.length) r s)
  (hTimes : ∀ it ∈ l, ztValid it.exportTime = true)
include hAsks hTimes

theorem execModelImport_early (hState : s.ductus.state = .free ∨ s.ductus.state = .acquire) :
    execModelImport r l s = .next (finish r.src eState [] s) := by
  obtain ⟨hLen, p, hReady⟩ := hAsks
  refine (runCommand_ready hReady (decide_eq_true hLen)).trans ?_
  rcases hState with hState | hState <;> rw [List.all_eq_true.mpr hTimes, hState] <;> rfl

theorem execModelImport_keeps (hFree : s.ductus.state ≠ .free) (hAcquire : s.ductus.state ≠ .acquire) :
    execModelImport r l s = .next (finish r.src stOk (le 4 (l.filter fun it => (itemKept s it).isNone).length)
      (forAll l importItem s)) := by
  obtain ⟨hLen, p, hReady⟩ := hAsks
  refine (runCommand_ready hReady (decide_eq_true hLen)).trans ?_
  rw [List.all_eq_true.mpr hTimes]
  cases hState : s.ductus.state
  case free => exact absurd hState hFree
  case acquire => exact absurd hState hAcquire
  all_goals rfl

end

/-! ### Status reads (02 R73; 15 R417, R419) -/

theorem execDuctusStatus_record {s : State} {r : Req} (h : Asks 0x0310 0 r s) :
    execDuctusStatus r s = .next (finish r.src stOk (ductusRecord s) s) := by
  obtain ⟨hLen, p, hReady⟩ := h
  exact runRead_ok hReady (decide_eq_true hLen) rfl

theorem ductusRecord_head (s : State) : (ductusRecord s).take 4 = le 1 (ductusCode s.ductus.state) ++
    le 1 s.ductus.mode ++ le 1 (anchorCode s) ++ le 1 (flag (guardAbsent s) 0 + flag s.ductus.xoLost 1) := by
  simp [ductusRecord, le]

theorem execReferenceStatus_records {s : State} {r : Req} {a n : Nat} (h : Asks 0x0210 2 r s) (hSome : 1 ≤ n)
    (hRange : a + n ≤ 20) : execReferenceStatus r a n s = .next (finish r.src stOk
      (((fins 20).filter fun i => decide (a ≤ i.val) && decide (i.val < a + n)).flatMap (refRecord s)) s) := by
  obtain ⟨hLen, p, hReady⟩ := h
  refine runRead_ok hReady (decide_eq_true hLen) (if_pos ?_)
  rw [within_of_le hSome (by omega), decide_eq_true hRange, Bool.and_self]

/-! ### selection-hook (14 R404, R406) -/

theorem execSelectionHook_task {s : State} {r : Req} {t : Fin 4} (h : Asks 0x0209 1 r s) (hTask : r.src = .task t) :
    execSelectionHook r 1 s = .next (finish r.src stOk []
      (s.modSel fun x => { x with hookTask := some t, hookOverruns := 0 })) := by
  obtain ⟨hLen, p, hReady⟩ := h
  refine (runCommand_ready hReady (decide_eq_true hLen)).trans ?_
  rw [hTask]
  rfl

theorem execSelectionHook_mailbox {s : State} {r : Req} {m : Fin 16} (a : Nat) (h : Asks 0x0209 1 r s)
    (hBox : r.src = .mailbox m) : execSelectionHook r a s = .next (finish r.src eState [] s) := by
  obtain ⟨hLen, p, hReady⟩ := h
  refine (runCommand_ready hReady (decide_eq_true hLen)).trans ?_
  rw [hBox]
  rfl

/-- Settles O33: each command by the equation of its case above. -/
theorem ductusCommandsActAsTheirRulesSay : Obligations.DuctusCommandsActAsTheirRulesSay := by
  refine ⟨fun s r c h hChannel hOff hInput => execDpllEnable_pulls h hChannel hOff hInput,
    fun s r c h hChannel hOn => execDpllEnable_enabled h hChannel hOn,
    fun s r c h hChannel => ⟨execDpllEnable_disables h hChannel, dpllOff_dpll c s⟩,
    fun s r e h hEnable => execDpllEnable_dpll0 h hEnable, fun s r h => execModelExport_body h,
    fun s r l h hTimes hFree hAcquire =>
      ⟨_, execModelImport_keeps h hTimes hFree hAcquire, ?refs, ?clock, ?state, ?member⟩,
    fun s r l h hTimes hState => execModelImport_early h hTimes hState, fun s r h => execDuctusStatus_record h,
    ductusRecord_head, fun s r a n h hSome hRange => execReferenceStatus_records h hSome hRange,
    fun s r t h hTask => execSelectionHook_task h hTask, fun s r m a h hBox => execSelectionHook_mailbox a h hBox⟩
  case refs => exact forAll_keeps State.refs importItem_refs l s
  case clock => exact forAll_keeps State.clock importItem_clock l s
  case state => exact forAll_keeps (fun t => t.ductus.state) importItem_ductusState l s
  case member =>
    rintro it i rfl hKept
    exact importItem_member hKept

end Sys2Proof.Machine
end

section
/-! SUPPORT. The updates and states of Ductus (04 R134, R136, R140, R141, R148, R149, R151): what the operations on the
channels leave of Ductus, the stages of an update past the acquisition, and the obligation on the rows of Ductus. -/

namespace Sys2Proof.Machine

/-! ### What stands besides the channels and the members -/

/-- Ductus with its channels and members blanked: what a channel's loop and a member's estimates leave as it is. -/
def Ductus.besides (d : Ductus) : Ductus :=
  { d with members := Vector.replicate 20 {}, dplls := Vector.replicate 6 {} }

/-- A field that the blanks leave as it is can be read off an equation of what stands besides them. -/
theorem field_of_besides {α : Type} (g : Ductus → α) {d e : Ductus} (h : d.besides = e)
    (hg : ∀ d : Ductus, g d.besides = g d := by intro d; rfl) : g d = g e :=
  (hg d).symm.trans (congrArg g h)

@[simp] theorem modDpll_besides (c : Fin 6) (f : Dpll → Dpll) (s : State) :
    (s.modDpll c f).ductus.besides = s.ductus.besides := rfl

theorem freeControl_besides (c : Fin 6) (s : State) : (freeControl c s).ductus.besides = s.ductus.besides := by
  unfold freeControl
  dsimp only
  rw [(applyControl_core c _).same .ductus (by decide)]
  rfl

theorem thawOne_besides (c : Fin 6) (s : State) : (thawOne c s).ductus.besides = s.ductus.besides := by
  unfold thawOne
  dsimp only
  split
  · rfl
  · refine (forAll_keeps (fun t => t.ductus.besides) (fun a t => ?_) _ _).trans ?_
    · exact congrArg Ductus.besides (setApllIf_ductus _ a .locked _)
    · split <;> rfl

theorem thawDpll_besides (c : Fin 6) (s : State) : (thawDpll c s).ductus.besides = s.ductus.besides := by
  rw [thawDpll, thawSystem]
  split
  · exact (forAll_keeps (fun t => t.ductus.besides) thawOne_besides _ _).trans (thawOne_besides c s)
  · exact thawOne_besides c s

theorem settleSlew_besides (c : Fin 6) (s : State) : (settleSlew c s).ductus.besides = s.ductus.besides := by
  unfold settleSlew
  split <;> rfl

theorem abortRealign_besides (c : Fin 6) (s : State) : (abortRealign c s).ductus.besides = s.ductus.besides := by
  unfold abortRealign
  dsimp only
  split
  · exact settleSlew_besides c s
  · split
    · exact settleSlew_besides c s
    · rw [(dropItem_core 0 c.val _).same .ductus (by decide), (raise_core _ _ _ _).same .ductus (by decide),
        (slewIncrement_core c _).same .ductus (by decide), modDpll_besides, settleSlew_besides]

theorem freezeOne_besides (c : Fin 6) (s : State) : (freezeOne c s).ductus.besides = s.ductus.besides := by
  unfold freezeOne
  dsimp only
  split
  · refine (forAll_keeps (fun t => t.ductus.besides) (fun a t => ?_) _ _).trans ?_
    · rw [(holdApll_core a _ t).same .ductus (by decide)]
    · rw [abortRealign_besides, freeControl_besides, modDpll_besides]
  · rfl

theorem freezeDpll_besides (c : Fin 6) (s : State) : (freezeDpll c s).ductus.besides = s.ductus.besides := by
  rw [freezeDpll, freezeSystem]
  split
  · exact freezeOne_besides c s
  · exact (forAll_keeps (fun t => t.ductus.besides) freezeOne_besides _ _).trans (freezeOne_besides c s)

/-! ### Transitions (R141, R151) -/

theorem freezeDpll_ductusState (c : Fin 6) (s : State) : (freezeDpll c s).ductus.state = s.ductus.state :=
  (field_of_besides Ductus.state (freezeDpll_besides c s) :)

theorem freezeUnlessFrozen_state (s : State) :
    (if s.ductus.dplls[0].state = .frozen then s else freezeDpll 0 s).ductus.state = s.ductus.state := by
  split
  · rfl
  · exact freezeDpll_ductusState 0 s

theorem loadKIf_state (c : Prop) [Decidable c] (s : State) :
    (if c then loadK s else s).ductus.state = s.ductus.state := by
  split <;> rfl

theorem setDuctus_state (st : DuctusState) (s : State) : (setDuctus st s).ductus.state = st := by
  cases st
  case free =>
    unfold setDuctus
    dsimp only
    rw [(applyControl_core 0 _).same .ductus (by decide)]
    exact freezeUnlessFrozen_state _
  case acquire => exact thawDpll_ductusState 0 _
  case coast => exact loadKIf_state _ _
  case locked => rfl
  case rejoin => rfl

theorem execLockDwellExpiry_locks {s : State} (hState : s.ductus.state = .rejoin) (hAnchor : anchored s = true)
    (hB : s.ductus.b = 0) (hPhase : s.ductus.loopError.natAbs ≤ s.ductus.cfg.lockPhase)
    (hFreq : s.ductus.frequency.natAbs ≤ s.ductus.cfg.lockFreq) :
    execLockDwellExpiry s = .next (setDuctus .locked s) := by
  simp [execLockDwellExpiry, hState, hAnchor, hB, hPhase, hFreq]

theorem execLockDwellExpiry_elsewhere {s : State}
    (h : s.ductus.state = .free ∨ s.ductus.state = .coast ∨ s.ductus.state = .locked) :
    execLockDwellExpiry s = .next s := by
  rcases h with h | h | h <;> simp [execLockDwellExpiry, h]

theorem execXoLostClear_rejoins {s : State} (hLost : s.ductus.xoLost = true)
    (hXo : s.refs[xoRef].contributing = true) (hState : s.ductus.state = .coast) (hSelected : selected s ≠ none) :
    execXoLostClear s = .next (setDuctus .rejoin (loadB (s.ductus.b + s.ductus.loopError + s.ductus.h)
      (s.modDuctus fun d => { d with xoLost := false }))) := by
  have hBack : (s.modDuctus fun d => { d with xoLost := false }).ductus.state = .coast ∧
      (selected (s.modDuctus fun d => { d with xoLost := false })).isSome = true :=
    ⟨hState, Option.isSome_iff_ne_none.mpr hSelected⟩
  rw [execXoLostClear, if_pos ⟨hLost, hXo⟩]
  exact if_pos hBack

/-! ### Slews (R136) -/

theorem toward0_natAbs_le (x : Int) (n : Nat) : (toward0 x n).natAbs ≤ x.natAbs := by
  unfold toward0
  split <;> omega

/-- A slew moves B and K only, and only toward 0. -/
theorem slew_ductus (dt : Nat) (s : State) : ∃ b k, (slew dt s).ductus = { s.ductus with b := b, k := k } ∧
    b.natAbs ≤ s.ductus.b.natAbs ∧ k.natAbs ≤ s.ductus.k.natAbs := by
  unfold slew
  split
  · exact ⟨_, _, rfl, Nat.le_refl _, Nat.le_refl _⟩
  · exact ⟨_, _, rfl, toward0_natAbs_le _ _, toward0_natAbs_le _ _⟩

/-! ### Estimates (R128 to R131) -/

theorem setWeights_besides (s : State) : (setWeights s).ductus.besides = s.ductus.besides := rfl

theorem learnAll_besides (l : List (Nat × Int × Int × Nat × Nat)) (secs : Nat) (s : State) :
    (learnAll l secs s).ductus.besides = s.ductus.besides := by
  refine forAll_keeps (fun t => t.ductus.besides) (fun i t => ?_) _ s
  dsimp only
  split <;> rfl

/-! ### The stages of an update (R140) -/

/-- DPLL0 returns outside FREE, and B and K move over the time since the last update. -/
def beginUpdate (s : State) : State :=
  let t := if s.ductus.state = .free then s else thawDpll 0 s
  if t.ductus.updated = 0 then t else slew (now s - s.ductus.updated) t

/-- The results of the filter are taken. -/
def takeResult (f : FilterResult) (s : State) : State :=
  s.modDuctus fun d =>
    { d with ensemble := f.ensembleMinusDevice, frequency := f.frequency,
             loopError := if anchored s then f.deviceMinusAnchor - d.b - d.h else d.loopError,
             prediction := if anchored s then f.deviceMinusAnchor else f.prediction,
             predictionRate := f.predictionRate }

/-- Waiting parameters, the end of a silence, the acquisition and an ordered re-base. -/
def settleChanges (f : FilterResult) (s : State) : State :=
  let e := f.ensembleMinusDevice
  let off := f.deviceMinusAnchor
  applyRebase (settle off (acquire off f.frequency (resume e off (takeParams e off s))))

/-- With an anchor a prediction starts from the estimates. -/
def startPrediction (f : FilterResult) (s : State) : State := if anchored s then notePrediction f s else s

/-- The loops of the channels act. -/
def actLoops (s : State) : State :=
  forAll (fins 6) (fun c t =>
    if t.ductus.dplls[c].state = .pulling ∨ t.ductus.dplls[c].state = .tracking then freeControl c t else t) s

/-- The update is dated, and T_d follows from it. -/
def dateUpdate (f : FilterResult) (secs : Nat) (s : State) : State :=
  s.modDuctus fun d =>
    { d with seconds := d.seconds + max 1 secs, updated := now s,
             refTime := if anchored s then now s else d.refTime,
             target := targetIn d.mode s f.ensembleMinusDevice f.deviceMinusAnchor }

/-- In FREE, DPLL0 holds FREE_FREQ. -/
def holdFree (s : State) : State :=
  if s.ductus.state = .free then
    applyControl 0 (s.modDpll 0 fun x => { x with control := ofCode 64 s.ductus.cfg.freeFreq })
  else s

/-- The seconds since the last update. -/
def updateSecs (s : State) : Nat := if s.ductus.updated = 0 then 0 else nowSec s - s.ductus.updated / secUnit

/-- The members learn and are weighed on what the filter's results have left. -/
def estimated (f : FilterResult) (s : State) : State :=
  setWeights (learnAll f.estimates (updateSecs s) (settleChanges f (takeResult f (beginUpdate s))))

/-- An update runs its stages in this order. -/
theorem execDuctusUpdate_runs (f : FilterResult) {s : State} (hServed : s.host.supervisor = true)
    (hRuns : clockRuns s = true) : execDuctusUpdate f s = .next (countTimers (updateSecs s) (spreadPrediction
      (holdFree (dateUpdate f (updateSecs s) (actLoops (startPrediction f (estimated f s))))))) := by
  rw [execDuctusUpdate, if_neg (by simp [hServed, hRuns])]
  extract_lets dt secs back begun off taken params resumed acquired changed weighed predicted acted dated held
  have hSecs : secs = updateSecs s := rfl
  have hBegun : begun = beginUpdate s := rfl
  have hTaken : taken = takeResult f begun := rfl
  have hChanged : changed = settleChanges f taken := rfl
  have hWeighed : weighed = setWeights (learnAll f.estimates secs changed) := rfl
  have hPredicted : predicted = startPrediction f weighed := rfl
  have hActed : acted = actLoops predicted := rfl
  have hDated : dated = dateUpdate f secs acted := rfl
  have hHeld : held = holdFree dated := rfl
  rw [hHeld, hDated, hActed, hPredicted, hWeighed, hChanged, hTaken, hBegun, hSecs, estimated]

theorem execDuctusUpdate_unserved (f : FilterResult) {s : State} (h : s.host.supervisor = false) :
    execDuctusUpdate f s = .next s :=
  if_pos (.inl (by rw [h]; rfl))

/-! ### What each stage leaves outside FREE and ACQUIRE -/

theorem anchored_congr {s t : State} (hAnchor : t.ductus.anchor = s.ductus.anchor)
    (hMeasuring : t.ductus.measuring = s.ductus.measuring) : anchored t = anchored s := by
  rw [anchored, anchored, hAnchor, hMeasuring]

theorem now_of_clock {s t : State} (h : t.clock = s.clock) : now t = now s := by
  rw [now, now, stampAt, stampAt, h]

section
variable {s : State} (hFree : s.ductus.state ≠ .free)
include hFree

theorem beginUpdate_besides : ∃ b k, (beginUpdate s).ductus.besides = { s.ductus.besides with b := b, k := k } ∧
    b.natAbs ≤ s.ductus.b.natAbs ∧ k.natAbs ≤ s.ductus.k.natAbs := by
  have hThawed := thawDpll_besides 0 s
  have hB : (thawDpll 0 s).ductus.b = s.ductus.b := (field_of_besides Ductus.b hThawed :)
  have hK : (thawDpll 0 s).ductus.k = s.ductus.k := (field_of_besides Ductus.k hThawed :)
  rw [beginUpdate, if_neg hFree]
  dsimp only
  split
  · exact ⟨_, _, hThawed, Nat.le_refl _, Nat.le_refl _⟩
  · obtain ⟨b, k, hSlew, hb, hk⟩ := slew_ductus (now s - s.ductus.updated) (thawDpll 0 s)
    rw [hB] at hb
    rw [hK] at hk
    refine ⟨b, k, ?_, hb, hk⟩
    rw [hSlew, ← hThawed]
    rfl

theorem beginUpdate_clock : (beginUpdate s).clock = s.clock := by
  have hThawed := (thawDpll_core 0 s).same .clock (by decide)
  rw [beginUpdate, if_neg hFree]
  split
  · exact hThawed
  · exact ((slew_core _ _).same .clock (by decide)).trans hThawed

end

theorem takeResult_besides (f : FilterResult) (s : State) : (takeResult f s).ductus.besides =
    { s.ductus.besides with
      ensemble := f.ensembleMinusDevice, frequency := f.frequency
      loopError := if anchored s then f.deviceMinusAnchor - s.ductus.besides.b - s.ductus.besides.h
        else s.ductus.besides.loopError
      prediction := if anchored s then f.deviceMinusAnchor else f.prediction
      predictionRate := f.predictionRate } := rfl

theorem takeParams_idle {s : State} (e off : Int) (h : s.ductus.next = none) : takeParams e off s = s := by
  simp only [takeParams, h]

theorem resume_idle {s : State} (e off : Int) (h : s.ductus.silent = false) : resume e off s = s := by
  simp [resume, h]

theorem acquire_elsewhere {s : State} (off freq : Int) (h : s.ductus.state ≠ .acquire) : acquire off freq s = s :=
  if_pos (.inl h)

theorem settle_elsewhere {s : State} (off : Int) (h : s.ductus.state ≠ .acquire) : settle off s = s :=
  if_neg fun hSettles => h hSettles.1

theorem applyRebase_idle {s : State} (h : s.clock.rebase = none) : applyRebase s = s := by
  simp only [applyRebase, h]

theorem settleChanges_idle (f : FilterResult) {s : State} (hNext : s.ductus.next = none)
    (hSilent : s.ductus.silent = false) (hAcquire : s.ductus.state ≠ .acquire) (hRebase : s.clock.rebase = none) :
    settleChanges f s = s := by
  rw [settleChanges, takeParams_idle _ _ hNext, resume_idle _ _ hSilent, acquire_elsewhere _ _ hAcquire,
    settle_elsewhere _ hAcquire, applyRebase_idle hRebase]

theorem startPrediction_besides (f : FilterResult) (s : State) : ∃ x y z,
    (startPrediction f s).ductus.besides = { s.ductus.besides with sigmaX := x, varY := y, varD := z } ∧
      (anchored s = true → x = f.sigmaX) ∧
      (anchored s = false → x = s.ductus.sigmaX ∧ y = s.ductus.varY ∧ z = s.ductus.varD) := by
  unfold startPrediction
  split
  case isTrue h => exact ⟨_, _, _, rfl, fun _ => rfl, fun hNone => absurd h (Bool.eq_false_iff.mp hNone)⟩
  case isFalse h => exact ⟨_, _, _, rfl, fun hSome => absurd hSome h, fun _ => ⟨rfl, rfl, rfl⟩⟩

theorem startPrediction_clock (f : FilterResult) (s : State) : (startPrediction f s).clock = s.clock := by
  unfold startPrediction
  split <;> rfl

theorem actLoops_besides (s : State) : (actLoops s).ductus.besides = s.ductus.besides := by
  refine forAll_keeps (fun t => t.ductus.besides) (fun c t => ?_) _ s
  split
  · exact freeControl_besides c t
  · rfl

theorem actLoops_clock (s : State) : (actLoops s).clock = s.clock := by
  refine forAll_keeps State.clock (fun c t => ?_) _ s
  split
  · exact (freeControl_core c t).same .clock (by decide)
  · rfl

theorem dateUpdate_besides (f : FilterResult) (secs : Nat) (s : State) : (dateUpdate f secs s).ductus.besides =
    { s.ductus.besides with
      seconds := s.ductus.besides.seconds + max 1 secs, updated := now s
      refTime := if anchored s then now s else s.ductus.besides.refTime
      target := targetIn s.ductus.besides.mode s f.ensembleMinusDevice f.deviceMinusAnchor } := rfl

theorem dateUpdate_state (f : FilterResult) (secs : Nat) (s : State) :
    (dateUpdate f secs s).ductus.state = s.ductus.state := rfl

theorem dateUpdate_clock (f : FilterResult) (secs : Nat) (s : State) : (dateUpdate f secs s).clock = s.clock := rfl

theorem holdFree_elsewhere {s : State} (h : s.ductus.state ≠ .free) : holdFree s = s := if_neg h

/-- The last stages write to the references only. -/
theorem publish_only (secs : Nat) (s : State) : Only [.refs] s (countTimers secs (spreadPrediction s)) :=
  (spreadPrediction_core s).trans (countTimers_core secs _)

/-! ### The update outside FREE and ACQUIRE (R140) -/

section
variable {s : State} (f : FilterResult) (hFree : s.ductus.state ≠ .free) (hAcquire : s.ductus.state ≠ .acquire)
  (hSilent : s.ductus.silent = false) (hNext : s.ductus.next = none) (hRebase : s.clock.rebase = none)
include hFree hAcquire hSilent hNext hRebase

/-- B and K have moved toward 0 and the results of the filter stand. -/
theorem estimated_steady : ∃ b k, (estimated f s).ductus.besides =
      { s.ductus.besides with
        b := b, k := k, ensemble := f.ensembleMinusDevice, frequency := f.frequency
        loopError := if anchored s then f.deviceMinusAnchor - b - s.ductus.h else s.ductus.loopError
        prediction := if anchored s then f.deviceMinusAnchor else f.prediction
        predictionRate := f.predictionRate } ∧
    (estimated f s).clock = s.clock ∧ b.natAbs ≤ s.ductus.b.natAbs ∧ k.natAbs ≤ s.ductus.k.natAbs := by
  obtain ⟨b, k, hBegun, hb, hk⟩ := beginUpdate_besides hFree
  have hClock := beginUpdate_clock hFree
  have hState : (beginUpdate s).ductus.state = s.ductus.state := (field_of_besides Ductus.state hBegun :)
  have hIdle : settleChanges f (takeResult f (beginUpdate s)) = takeResult f (beginUpdate s) :=
    settleChanges_idle f ((field_of_besides Ductus.next hBegun :).trans hNext)
      ((field_of_besides Ductus.silent hBegun :).trans hSilent)
      (fun h => hAcquire (hState.symm.trans h)) ((congrArg Clock.rebase hClock).trans hRebase)
  have hAnchored : anchored (beginUpdate s) = anchored s :=
    anchored_congr (field_of_besides Ductus.anchor hBegun :) (field_of_besides Ductus.measuring hBegun :)
  refine ⟨b, k, ?_, ?_, hb, hk⟩
  · rw [estimated, hIdle, setWeights_besides, learnAll_besides, takeResult_besides, hBegun, hAnchored]
    rfl
  · rw [estimated, hIdle, (setWeights_core _).same .clock (by decide), (learnAll_core _ _ _).same .clock (by decide)]
    exact hClock

/-- An update leaves the clock, and of Ductus what its estimates and its prediction have left but the dates and T_d. -/
theorem execDuctusUpdate_steady (hServed : s.host.supervisor = true) (hRuns : clockRuns s = true) :
    ∃ t n r g, execDuctusUpdate f s = .next t ∧ t.clock = s.clock ∧ t.ductus.besides =
      { (startPrediction f (estimated f s)).ductus.besides with
        seconds := n, updated := now s, refTime := r, target := g } := by
  obtain ⟨b, k, hEstimated, hClock, -⟩ := estimated_steady f hFree hAcquire hSilent hNext hRebase
  obtain ⟨x, y, z, hStarted, -⟩ := startPrediction_besides f (estimated f s)
  have hActed := actLoops_besides (startPrediction f (estimated f s))
  have hActedClock : (actLoops (startPrediction f (estimated f s))).clock = s.clock := by
    rw [actLoops_clock, startPrediction_clock, hClock]
  have hBesides := hActed.trans hStarted
  rw [hEstimated] at hBesides
  have hActedState : (actLoops (startPrediction f (estimated f s))).ductus.state = s.ductus.state :=
    (field_of_besides Ductus.state hBesides :)
  have hState : (dateUpdate f (updateSecs s) (actLoops (startPrediction f (estimated f s)))).ductus.state ≠ .free := by
    rw [dateUpdate_state, hActedState]
    exact hFree
  have hPublished := publish_only (updateSecs s) (dateUpdate f (updateSecs s)
    (actLoops (startPrediction f (estimated f s))))
  have hUpdate := execDuctusUpdate_runs f hServed hRuns
  rw [holdFree_elsewhere hState] at hUpdate
  have hDated := dateUpdate_besides f (updateSecs s) (actLoops (startPrediction f (estimated f s)))
  rw [hActed, now_of_clock hActedClock, ← hPublished.same .ductus (by decide)] at hDated
  refine ⟨_, _, _, _, hUpdate, ?_, hDated⟩
  rw [hPublished.same .clock (by decide), dateUpdate_clock, hActedClock]

end

/-- Settles O35: the update by its stages, every other row by its equation above. -/
theorem ductusRowsActAsTheirRulesSay : Obligations.DuctusRowsActAsTheirRulesSay := by
  refine ⟨fun s f hServed hForm hRebase hSilent hNext hFree hAcquire => ?update,
    fun s f h => execDuctusUpdate_unserved f h,
    fun s hState hAnchor hB hPhase hFreq => execLockDwellExpiry_locks hState hAnchor hB hPhase hFreq,
    fun s h => execLockDwellExpiry_elsewhere h, fun s st => setDuctus_state st s,
    fun s hLost hXo hState hSelected => ?xo,
    fun s h => if_pos h, fun s c h => if_pos h, fun s c h => if_pos h⟩
  case xo => exact ⟨_, execXoLostClear_rejoins hLost hXo hState hSelected, rfl, rfl, rfl, rfl⟩
  case update =>
    have hRuns : clockRuns s = true := decide_eq_true (by rw [hForm]; decide)
    obtain ⟨b, k, hEstimated, -, hb, hk⟩ := estimated_steady f hFree hAcquire hSilent hNext hRebase
    obtain ⟨x, y, z, hStarted, hSome, hNone⟩ := startPrediction_besides f (estimated f s)
    obtain ⟨t, n, r, g, hUpdate, hClock, hEnd⟩ :=
      execDuctusUpdate_steady f hFree hAcquire hSilent hNext hRebase hServed hRuns
    have hAnchored : anchored (estimated f s) = anchored s :=
      anchored_congr (field_of_besides Ductus.anchor hEstimated :) (field_of_besides Ductus.measuring hEstimated :)
    rw [hAnchored] at hSome hNone
    rw [hStarted, hEstimated] at hEnd
    have hB : t.ductus.b = b := (field_of_besides Ductus.b hEnd :)
    have hK : t.ductus.k = k := (field_of_besides Ductus.k hEnd :)
    have hSigma : t.ductus.sigmaX = x := (field_of_besides Ductus.sigmaX hEnd :)
    rw [← hB] at hb
    rw [← hK] at hk
    refine ⟨t, hUpdate, (field_of_besides Ductus.ensemble hEnd :), (field_of_besides Ductus.frequency hEnd :),
      (field_of_besides Ductus.predictionRate hEnd :), fun h => ⟨hSigma.trans (hSome h), ?prediction⟩,
      fun h => ?variances, (field_of_besides Ductus.state hEnd :), (field_of_besides Ductus.updated hEnd :), hb, hk,
      (field_of_besides Ductus.h hEnd :), ?loopError, now_of_clock hClock⟩
    case prediction => exact (field_of_besides Ductus.prediction hEnd :).trans (if_pos h)
    case variances =>
      obtain ⟨hX, hY, hZ⟩ := hNone h
      exact ⟨hSigma.trans (hX.trans (field_of_besides Ductus.sigmaX hEstimated :)),
        (field_of_besides Ductus.varY hEnd :).trans (hY.trans (field_of_besides Ductus.varY hEstimated :)),
        (field_of_besides Ductus.varD hEnd :).trans (hZ.trans (field_of_besides Ductus.varD hEstimated :))⟩
    case loopError =>
      rw [hB]
      exact (field_of_besides Ductus.loopError hEnd :)

end Sys2Proof.Machine
end

section
/-! SUPPORT. An evaluation of Margin (05 R156, R163 to R165, R173): the state on which its terms rest, what it
publishes, and the obligation that P is the largest C of BOUND_HOLD. -/

namespace Sys2Proof.Machine

/-! ### What the judgement of the MACs and the statements owed leave -/

/-- Margin with the judgements of the MACs and the statements owed blanked: what an evaluation publishes. -/
def Margin.bound (m : Margin) : Margin :=
  { m with alarms := Vector.replicate 16 true, classes := Vector.replicate 16 {}
           sequence := 0, skipped := 0, signing := [] }

/-- A field that the blanks leave as it is can be read off an equation of what is published. -/
theorem field_of_bound {α : Type} (g : Margin → α) {m n : Margin} (h : m.bound = n.bound)
    (hg : ∀ m : Margin, g m.bound = g m := by intro m; rfl) : g m = g n := by
  rw [← hg m, h, hg n]

theorem judgeAlarm_bound (m : Fin 16) (s : State) : (judgeAlarm m s).margin.bound = s.margin.bound := rfl

theorem judgeClass_bound (m : Fin 16) (s : State) : (judgeClass m s).margin.bound = s.margin.bound := rfl

theorem judgeAll_bound (s : State) : (judgeAll s).margin.bound = s.margin.bound :=
  forAll_keeps (fun t => t.margin.bound)
    (fun m t => (judgeClass_bound m (judgeAlarm m t)).trans (judgeAlarm_bound m t)) _ s

theorem oweStatement_bound (r : BoundRecord) (s : State) : (oweStatement r s).margin.bound = s.margin.bound := by
  rw [oweStatement]
  split <;> rfl

/-! ### What an evaluation rests on (R163) -/

/-- Whole seconds since the last evaluation. -/
def evaluationSecs (s : State) : Nat :=
  if s.margin.evalTime = 0 then 0 else now s / secUnit - s.margin.evalTime / secUnit

/-- A new configuration takes effect and PATH_WIDEN ages. -/
def configured (s : State) : State :=
  ageWiden (evaluationSecs s) (s.modMargin fun x => { x with cfg := x.next.getD x.cfg, next := none })

/-- The measurements of the servo window are gathered. -/
def gatherWindows (t : Nat) (s : State) : State :=
  s.modMargin fun x =>
    { x with servoWin := ((t, s.ductus.loopError.natAbs) :: x.servoWin).filter
               fun p => decide (t - s.margin.cfg.servoWindow * secUnit ≤ p.1)
             refWin := x.refWin.filter fun p => decide (t - s.margin.cfg.servoWindow * secUnit ≤ p.1)
             asymFrozen := match s.ductus.anchor with
               | some a => if s.ductus.state = .coast then x.asymFrozen else asymOf s a
               | none => x.asymFrozen }

/-- The state of which an evaluation judges its terms. -/
def gathered (s : State) : State := gatherWindows (now s) (configured s)

/-- PATH_WIDEN and the time LOCKED are all that age. -/
theorem ageWiden_margin (secs : Nat) (s : State) : ∃ w n,
    (ageWiden secs s).margin = { s.margin with pathWiden := w, lockedFor := n } := by
  rw [ageWiden, modMargin_margin]
  dsimp only
  split <;> split <;> exact ⟨_, _, rfl⟩

theorem gathered_fields (s : State) : (gathered s).margin.cfg = s.margin.next.getD s.margin.cfg ∧
    (gathered s).margin.next = none ∧ (gathered s).margin.window = s.margin.window := by
  obtain ⟨w, n, hAged⟩ := ageWiden_margin (evaluationSecs s)
    (s.modMargin fun x => { x with cfg := x.next.getD x.cfg, next := none })
  rw [gathered, gatherWindows, modMargin_margin, configured, hAged]
  exact ⟨rfl, rfl, rfl⟩

theorem gathered_core (s : State) : Only [.margin] s (gathered s) := by
  rw [gathered, gatherWindows, configured]
  apply modMargin_only (k := by decide)
  apply ageWiden_only (k := by decide)
  exact modMargin_only (.refl _ _) (by decide)

/-! ### What an evaluation publishes (R156, R164) -/

/-- C of an evaluation. -/
def evaluatedCore (s : State) : Nat := coreBound (termsOf (gathered s)) (gathered s)

/-- The evaluations of the last BOUND_HOLD seconds. -/
def heldWindow (s : State) : List (Nat × Nat) :=
  ((now s, evaluatedCore s) :: (gathered s).margin.window).filter
    fun p => decide (now s ≤ p.1 + (gathered s).margin.cfg.boundHold * secUnit)

/-- The largest C of a window. -/
def largestCore (w : List (Nat × Nat)) : Nat := w.foldl (fun n x => max n x.2) 0

/-- The end of STALE is an event (R165). -/
def endStale (s : State) : State :=
  if (gathered s).margin.stale then raise 0x0304 0 (largestCore (heldWindow s)) (gathered s) else gathered s

theorem endStale_core (s : State) : Only [.host] (gathered s) (endStale s) :=
  .ite (raise_only (.refl _ _) (by decide)) (.refl _ _)

theorem built_of_host {s t : State} (q : Fin 5) (h : t.host = s.host) : built q t = built q s := by
  rw [built, h, built]

theorem built_endStale (s : State) : built 3 (endStale s) = built 3 s := by
  have hGathered : built 3 (gathered s) = built 3 s := built_of_host 3 ((gathered_core s).same .host (by decide))
  rw [endStale]
  split
  · rw [built_raise (by decide), hGathered]
  · exact hGathered

theorem endStale_margin (s : State) : (endStale s).margin = (gathered s).margin :=
  (endStale_core s).same .margin (by decide)

/-- Margin takes the results of an evaluation. -/
def publication (gap : Nat) (s : State) (x : Margin) : Margin :=
  { x with
    terms := termsOf (gathered s), core := evaluatedCore s, window := heldWindow s
    published := largestCore (heldWindow s), growth := growthOf gap (gathered s), horizon := now s + ms16 1100
    recordSeq := (endStale s).margin.sequence, stale := false, evalTime := now s
    sequence := (endStale s).margin.sequence + 1 }

/-- The MACs are judged on the publication, and its record is queued. -/
def recorded (gap : Nat) (r : BoundRecord) (s : State) : State :=
  (enqueue 3 (.margin r) (judgeAll ((endStale s).modMargin (publication gap s)))).modDuctus
    fun d => { d with changed := false }

theorem recorded_bound (gap : Nat) (r : BoundRecord) (s : State) :
    (recorded gap r s).margin.bound = (publication gap s (gathered s).margin).bound := by
  rw [recorded, modDuctus_margin, (enqueue_core _ _ _).same .margin (by decide), judgeAll_bound, modMargin_margin,
    endStale_margin]

theorem built_recorded (gap : Nat) (r : BoundRecord) (s : State) :
    built 3 (recorded gap r s) = built 3 s ++ [.margin r] := by
  calc built 3 (recorded gap r s)
    _ = built 3 (enqueue 3 (.margin r) (judgeAll ((endStale s).modMargin (publication gap s)))) :=
      built_of_host 3 (modDuctus_host _ _)
    _ = built 3 (judgeAll ((endStale s).modMargin (publication gap s))) ++ [.margin r] := built_enqueue ..
    _ = built 3 (endStale s) ++ [.margin r] := by
      rw [built_of_host 3 ((judgeAll_core _).same .host (by decide)), built_of_host 3 (modMargin_host _ _)]
    _ = built 3 s ++ [.margin r] := by rw [built_endStale]

/-- An evaluation publishes, queues its record and may owe a statement. -/
theorem execMarginEvaluation_runs (gap : Nat) {s : State} (hServed : s.host.supervisor = true)
    (hRuns : clockRuns s = true) : ∃ (r : BoundRecord) (due : Bool),
      execMarginEvaluation gap s = .next (onlyIf due (oweStatement r) (recorded gap r s)) := by
  rw [execMarginEvaluation, hServed, hRuns, if_neg (by decide)]
  exact ⟨_, _, rfl⟩

theorem execMarginEvaluation_publishes (gap : Nat) {s : State} (hServed : s.host.supervisor = true)
    (hRuns : clockRuns s = true) : ∃ t r, execMarginEvaluation gap s = .next t ∧
      t.margin.bound = (publication gap s (gathered s).margin).bound ∧ built 3 t = built 3 s ++ [.margin r] := by
  obtain ⟨r, due, hRun⟩ := execMarginEvaluation_runs gap hServed hRuns
  have hOwed (u : State) : built 3 (oweStatement r u) = built 3 u :=
    built_of_host 3 ((oweStatement_core r u).same .host (by decide))
  exact ⟨_, r, hRun,
    (onlyIf_keeps (fun t => t.margin.bound) due (oweStatement_bound r _)).trans (recorded_bound gap r s),
    (onlyIf_keeps (built 3) due (hOwed _)).trans (built_recorded gap r s)⟩

/-! ### C and P -/

/-- C reads the state of Ductus, the form of device time and the XO only. -/
theorem coreBound_congr (l : List Nat) {s u : State} (hDuctus : u.ductus = s.ductus) (hClock : u.clock = s.clock) :
    coreBound l u = coreBound l s := by
  rw [coreBound, coreBound, counterForm, counterForm, hDuctus, hClock]

theorem evaluatedCore_eq (s : State) : evaluatedCore s = coreBound (termsOf (gathered s)) s :=
  coreBound_congr _ ((gathered_core s).same .ductus (by decide)) ((gathered_core s).same .clock (by decide))

theorem coreBound_free (l : List Nat) {s : State} (h : s.ductus.state = .free) : coreBound l s = unbounded :=
  if_pos (.inl h)

theorem coreBound_sum {l : List Nat} {s : State} (hState : s.ductus.state ≠ .free)
    (hForm : s.clock.form = .counter) (hXo : s.ductus.xoLost = false) (hTerms : ∀ x ∈ l, x < unbounded) :
    coreBound l s = satBound (l.foldl (· + ·) 0) := by
  have hAny : l.any (fun t => decide (unbounded ≤ t)) = false :=
    List.any_eq_false.mpr fun x hx hOver => Nat.not_le.mpr (hTerms x hx) (of_decide_eq_true hOver)
  rw [coreBound, hAny]
  exact if_neg (by simp only [hState, counterForm, hForm, hXo, decide_true, Bool.not_true, Bool.false_eq_true,
    or_self, not_false_eq_true])

theorem le_foldl_max_snd (w : List (Nat × Nat)) (n : Nat) : n ≤ w.foldl (fun n x => max n x.2) n ∧
    ∀ p ∈ w, p.2 ≤ w.foldl (fun n x => max n x.2) n := by
  induction w generalizing n with
  | nil => exact ⟨Nat.le_refl n, fun _ h => absurd h List.not_mem_nil⟩
  | cons q w ih =>
    obtain ⟨hStart, hRest⟩ := ih (max n q.2)
    rw [List.foldl_cons, List.forall_mem_cons]
    exact ⟨Nat.le_trans (Nat.le_max_left ..) hStart, Nat.le_trans (Nat.le_max_right ..) hStart, hRest⟩

theorem le_largestCore {w : List (Nat × Nat)} {p : Nat × Nat} (h : p ∈ w) : p.2 ≤ largestCore w :=
  (le_foldl_max_snd w 0).2 p h

/-- The evaluation itself is the newest of its window. -/
theorem heldWindow_eq (s : State) : heldWindow s = (now s, evaluatedCore s) ::
    s.margin.window.filter fun p =>
      decide (now s ≤ p.1 + (s.margin.next.getD s.margin.cfg).boundHold * secUnit) := by
  obtain ⟨hCfg, -, hWindow⟩ := gathered_fields s
  rw [heldWindow, hCfg, hWindow]
  exact List.filter_cons_of_pos (decide_eq_true (Nat.le_add_right ..))

/-- Settles O37: what an evaluation publishes, field by field. -/
theorem anEvaluationPublishesTheLargestBound : Obligations.AnEvaluationPublishesTheLargestBound := by
  intro s gap hServed hForm
  obtain ⟨t, r, hRun, hBound, hBuilt⟩ := execMarginEvaluation_publishes gap hServed (decide_eq_true hForm)
  obtain ⟨hGatheredCfg, hGatheredNext, -⟩ := gathered_fields s
  have hCfg : t.margin.cfg = s.margin.next.getD s.margin.cfg := (field_of_bound Margin.cfg hBound :).trans hGatheredCfg
  have hTerms : t.margin.terms = termsOf (gathered s) := (field_of_bound Margin.terms hBound :)
  have hCore : t.margin.core = evaluatedCore s := (field_of_bound Margin.core hBound :)
  have hCoreBound : t.margin.core = coreBound t.margin.terms s := by rw [hCore, hTerms, evaluatedCore_eq]
  have hWindow : t.margin.window = heldWindow s := (field_of_bound Margin.window hBound :)
  have hPublished : t.margin.published = largestCore t.margin.window := by
    rw [hWindow]
    exact (field_of_bound Margin.published hBound :)
  have hHead : t.margin.window = (now s, t.margin.core) :: s.margin.window.filter fun p =>
      decide (now s ≤ p.1 + t.margin.cfg.boundHold * secUnit) := by
    rw [hWindow, heldWindow_eq, hCore, hCfg]
  refine ⟨t, hRun, hCoreBound, fun hFree => hCoreBound.trans (coreBound_free _ hFree),
    fun hState hCounter hXo hBelow => hCoreBound.trans (coreBound_sum hState hCounter hXo hBelow), ?newest,
    hPublished, ?largest, ?young, ?kept, hCfg, (field_of_bound Margin.next hBound :).trans hGatheredNext,
    (field_of_bound Margin.horizon hBound :), (field_of_bound Margin.evalTime hBound :),
    (field_of_bound Margin.stale hBound :), ?queued⟩
  case newest => rw [hHead, List.head?_cons]
  case largest =>
    rw [hPublished]
    exact le_largestCore (p := (now s, t.margin.core)) (hHead ▸ List.mem_cons_self)
  case young =>
    rw [hHead]
    exact List.forall_mem_cons.mpr ⟨Nat.le_add_right .., fun p hp => of_decide_eq_true (List.mem_filter.mp hp).2⟩
  case kept =>
    intro p hp hYoung
    rw [hHead]
    exact List.mem_cons_of_mem _ (List.mem_filter.mpr ⟨hp, decide_eq_true hYoung⟩)
  case queued => exact (congrArg List.length hBuilt).trans List.length_append

end Sys2Proof.Machine
end

section
/-! SUPPORT. The NTP root dispersion of a port (05 R174), and the obligation that it rounds the bound up. -/

namespace Sys2Proof.Machine

/-- A bounded value stays far below the 32 bits of the field. -/
theorem rootDispersion_bounded {b : Nat} (hBounded : b < unbounded) :
    rootDispersion b = (b * 65536 + 10 ^ 12 - 1) / 10 ^ 12 ∧ rootDispersion b < 2 ^ 32 := by
  have hValue : b < 2 ^ 48 - 1 := hBounded
  have hBelow : (b * 65536 + 10 ^ 12 - 1) / 10 ^ 12 < 0xFFFFFFFF := by omega
  rw [rootDispersion, if_neg (Nat.ne_of_lt hBounded), Nat.min_eq_right (Nat.le_of_lt hBelow)]
  exact ⟨rfl, by omega⟩

theorem le_rootDispersion {b : Nat} (h : b < unbounded) : b * 65536 ≤ rootDispersion b * 10 ^ 12 := by
  rw [(rootDispersion_bounded h).1]
  exact (roundedUp_le_iff _ _ (by decide)).mp (Nat.le_refl _)

theorem rootDispersion_lt {b : Nat} (h : b < unbounded) : rootDispersion b * 10 ^ 12 < b * 65536 + 10 ^ 12 := by
  rw [(rootDispersion_bounded h).1]
  omega

theorem rootDispersion_pos {b : Nat} (h : b < unbounded) (hPos : 0 < b) : 1 ≤ rootDispersion b := by
  have hUp := le_rootDispersion h
  omega

theorem ntsBase_bound (q : NtsRequest) (m : NtpMsg) (s : State) :
    (ntsBase q m s).bound = deliveryBound s q.frame.mac := rfl

theorem ntsAnswer_rootDisp (kind : Nat) (q : NtsRequest) (m : NtpMsg) (s : State) :
    (ntsAnswer kind q m s).rootDisp = rootDispersion (deliveryBound s q.frame.mac) := by
  rw [← ntsBase_bound q m, ntsAnswer]
  by_cases hRate : kind = 2
  · simp only [hRate, if_true]
  · simp only [hRate, if_false]

/-- Settles O39: the quotient rounded up from both sides, and the field of each kind of answer. -/
theorem rootDispersionRoundsTheBoundUp : Obligations.RootDispersionRoundsTheBoundUp :=
  ⟨if_pos rfl, fun _ h => ⟨(rootDispersion_bounded h).2, le_rootDispersion h, rootDispersion_lt h,
    rootDispersion_pos h⟩, ntsAnswer_rootDisp⟩

end Sys2Proof.Machine
end

section
/-! SUPPORT. Temperature reports, the status record, statements, the stale bound and the class rows of Margin (05 R160,
R165, R172, R173, R177; 15 R420), and the obligation that they act as their rules say. -/

namespace Sys2Proof.Machine

/-! ### Temperature reports (R160) -/

theorem updAt_fin {α : Type} {n : Nat} (v : Vector α n) (i : Fin n) (f : α → α) :
    updAt v i f = v.set i (f v[i]) := by
  simp only [updAt, asFin, i.isLt, dite_true, upd]

theorem keepSince_sublist (b : Nat) (l : List (Nat × Int)) : (keepSince b l).Sublist l := by
  induction l with
  | nil => exact .slnil
  | cons q l ih =>
    rw [keepSince]
    split
    · exact List.sublist_append_left [q] l
    · exact ih.cons_cons q

/-- The newest value always counts. -/
theorem head?_keepSince (b : Nat) (l : List (Nat × Int)) : (keepSince b l).head? = l.head? := by
  cases l with
  | nil => rfl
  | cons q l =>
    rw [keepSince]
    split <;> rfl

theorem execTemperatureReport_joins {s : State} {r : Req} (i : Fin 13) {x : Int} (h : Asks 0x0208 4 r s)
    (hLow : -32768 ≤ x) (hHigh : x ≤ 32767) :
    execTemperatureReport r i x s = .next (finish r.src stOk [] (s.modMargin fun m =>
      { m with hostTemps :=
                 m.hostTemps.set i ((s.clock.ticks.toNat, x) :: keepSince (tempFloor s) m.hostTemps[i]) })) := by
  have hValid : (decide (i.val ≤ 12) && withinInt (-32768) 32767 x) = true := by
    rw [withinInt, decide_eq_true (Nat.le_of_lt_succ i.isLt), decide_eq_true hLow, decide_eq_true hHigh]
    rfl
  refine runSimple_ok h ?_
  rw [need_true hValid]
  simp only [updAt_fin]
  rfl

theorem execTemperatureReport_refuses {s : State} {r : Req} {i : Nat} (x : Int) (h : Asks 0x0208 4 r s)
    (hBeyond : 12 < i) : execTemperatureReport r i x s = .next (finish r.src eRange [] s) :=
  runSimple_error h (need_false (by rw [decide_eq_false (Nat.not_le.mpr hBeyond), Bool.false_and]))

/-! ### Status (15 R420) -/

theorem execMarginStatus_reads {s : State} {r : Req} (h : Asks 0x0311 0 r s) :
    execMarginStatus r s = .next (finish r.src stOk (marginRecord s) s) := by
  obtain ⟨hLen, p, hReady⟩ := h
  exact runRead_ok hReady (decide_eq_true hLen) rfl

theorem marginRecord_take (s : State) : (marginRecord s).take 18 =
    le 8 (publishedNow s) ++ le 8 s.margin.growth ++ le 2 (flag s.margin.stale 0) := by
  simp only [marginRecord, List.append_assoc]
  rw [← List.append_assoc, ← List.append_assoc]
  exact List.take_left' (by simp only [List.length_append, length_le])

/-! ### Statements (R172, R173) -/

theorem execStatementSigned_queues {s : State} {q : BoundRecord} {rest : List BoundRecord}
    (h : s.margin.signing = q :: rest) : ∃ t g, execStatementSigned s = .next t ∧ t.margin.signing = rest ∧
      built 3 t = built 3 s ++ [.margin { q with signature := some g }] := by
  simp only [execStatementSigned, h]
  exact ⟨_, _, rfl, rfl, built_enqueue ..⟩

/-! ### The stale bound (R165) -/

theorem publishedNow_late {s : State} (hStale : s.margin.stale = true)
    (hLate : s.margin.horizon + 60 * secUnit ≤ now s) : publishedNow s = unbounded := by
  have hPast : 60 * secUnit ≤ now s - s.margin.horizon := Nat.le_sub_of_add_le' hLate
  simp only [publishedNow, hStale, hPast, Bool.not_true, Bool.false_eq_true, if_false, if_true]

/-! ### Class rows (R177) -/

theorem execClassHoldExpiry_takes {s : State} {m : Fin 16} {r : Nat} (hWaiting : s.margin.classes[m].waiting = some r)
    (hMatch : matchRow s m = r) : execClassHoldExpiry m s = .next (s.modMargin fun x =>
      { x with classes := x.classes.set m { row := r, waiting := none } }) := by
  simp only [execClassHoldExpiry, hWaiting, hMatch, if_true]

/-- Settles O38: each command and row by its equation above. -/
theorem marginRowsActAsTheirRulesSay : Obligations.MarginRowsActAsTheirRulesSay :=
  ⟨fun _ _ i _ h hLow hHigh => execTemperatureReport_joins i h hLow hHigh,
    fun b l => ⟨fun _ hp => (keepSince_sublist b l).mem hp, head?_keepSince b l⟩,
    fun _ _ _ x h hBeyond => execTemperatureReport_refuses x h hBeyond, fun _ _ h => execMarginStatus_reads h,
    marginRecord_take, fun _ _ _ h => execStatementSigned_queues h,
    fun _ hEval hPast hFresh => if_pos ⟨hEval, hPast, by rw [hFresh]; rfl⟩,
    fun _ hStale hLate => if_pos ⟨hStale, hLate⟩, fun _ hStale hLate => publishedNow_late hStale hLate,
    fun _ _ _ hWaiting hMatch => execClassHoldExpiry_takes hWaiting hMatch⟩

end Sys2Proof.Machine
end

section
/-! SUPPORT. APLLs and their limiter (06 R181, R182, R184, R188; 07 R205, R208): what the operations on an APLL leave in
its record, the rows of an APLL by its state, and the obligation that they act as their rules say. -/

namespace Sys2Proof.Machine

/-! ### The records of the APLLs -/

theorem stopOutputs_aplls (a : Fin 8) (s : State) : (stopOutputs a s).synth.aplls = s.synth.aplls :=
  forAll_keeps (fun t => t.synth.aplls) (fun _ _ => by split <;> rfl) _ s

theorem restartOutputs_aplls (a : Fin 8) (dest : CkoutState) (s : State) :
    (restartOutputs a dest s).synth.aplls = s.synth.aplls :=
  forAll_keeps (fun t => t.synth.aplls) (fun _ _ => by split <;> rfl) _ s

/-- Apart from its state no field of an APLL changes, and no other APLL. -/
theorem setApll_aplls (a : Fin 8) (st : ApllState) (s : State) :
    (setApll a st s).synth.aplls = upd s.synth.aplls a fun x => { x with state := st } := by
  unfold setApll
  dsimp only
  split
  · rfl
  · split
    · exact stopOutputs_aplls a _
    · split
      · exact restartOutputs_aplls a .waitAlign _
      · rfl

theorem setApll_clock (a : Fin 8) (st : ApllState) (s : State) : (setApll a st s).clock = s.clock :=
  (setApll_core a st s).same .clock (by decide)

/-- Only the mark of the limiter goes. -/
theorem limiterRelease_apll (a : Fin 8) (s : State) :
    (limiterRelease a s).synth.aplls[a] = { s.synth.aplls[a] with limited := false } := by
  unfold limiterRelease
  split
  case isTrue => simp only [restartOutputs_aplls, modApll_synth, get_upd_same]
  case isFalse hFree =>
    rw [← Bool.eq_false_iff.mpr hFree]

/-- A LOCKED APLL that begins to be held is FROZEN with the causes given. -/
theorem holdApll_locked {a : Fin 8} {s : State} (f : Apll → Apll) (h : s.synth.aplls[a].state = .locked) :
    ∃ temp, (holdApll a f s).synth.aplls[a] =
      { f s.synth.aplls[a] with state := .frozen, holdTemp := temp } := by
  simp only [holdApll, h, if_true, setApll_aplls, get_upd_same, modApll_synth]
  split
  · exact ⟨_, rfl⟩
  · exact ⟨_, rfl⟩

/-! ### The lock of an UNLOCKED APLL (R181, R182) -/

/-- Whether the channel that drives an APLL is FROZEN. -/
def drivenFrozen (s : State) (a : Fin 8) : Bool :=
  (dpllOf s a).any fun c => decide (s.ductus.dplls[c].state = .frozen)

theorem drivenFrozen_true {s : State} {a : Fin 8} {c : Fin 6} (hDriven : dpllOf s a = some c)
    (hFrozen : s.ductus.dplls[c].state = .frozen) : drivenFrozen s a = true := by
  rw [drivenFrozen, hDriven, Option.any_some, decide_eq_true hFrozen]

theorem drivenFrozen_false {s : State} {a : Fin 8}
    (h : ∀ c, dpllOf s a = some c → s.ductus.dplls[c].state ≠ .frozen) : drivenFrozen s a = false := by
  unfold drivenFrozen
  cases hDriver : dpllOf s a with
  | none => rfl
  | some c => exact decide_eq_false (h c hDriver)

/-- An APLL as it leaves UNLOCKED: its cause DPLL follows its channel. -/
def leaveUnlocked (a : Fin 8) (s : State) : State :=
  setApll a (if drivenFrozen s a then .frozen else .locked)
    (s.modApll a fun y => { y with causeDpll := drivenFrozen s a })

theorem leaveUnlocked_clock (a : Fin 8) (s : State) : (leaveUnlocked a s).clock = s.clock :=
  setApll_clock a _ _

theorem execApllLock_unlocked {s : State} {a : Fin 8} (hReset : s.power.inReset = false)
    (hXo : s.synth.aplls[a].causeXo = false) (hState : s.synth.aplls[a].state = .unlocked) :
    execApllLock a s = .next
      (if a.val = 0 then thawSystem (startClock (leaveUnlocked a s)) else leaveUnlocked a s) := by
  cases hDriver : dpllOf s a
  all_goals simp only [execApllLock, leaveUnlocked, drivenFrozen, hReset, hXo, hState, hDriver, Option.any_none,
    Option.any_some, Bool.false_eq_true, or_self, if_false]

theorem execApllLock_leavesUnlocked {s : State} {a : Fin 8} (ha : a.val ≠ 0) (hReset : s.power.inReset = false)
    (hXo : s.synth.aplls[a].causeXo = false) (hState : s.synth.aplls[a].state = .unlocked) :
    execApllLock a s = .next (leaveUnlocked a s) := by
  rw [execApllLock_unlocked hReset hXo hState, if_neg ha]

/-- The clock that starts with APLL0 begins at V = 0 in the virtual form (07 R205, R208). -/
theorem startClock_stopped {s : State} (hForm : s.clock.form = .stopped) (hIdle : s.clock.recovery = none) :
    (startClock s).clock.form = .virtual ∧ (startClock s).clock.ticks = 0 := by
  rw [startClock, if_pos ⟨hForm, hIdle⟩, modClock_clock]
  exact ⟨rfl, rfl⟩

theorem execApllLock_startsClock {s : State} (hReset : s.power.inReset = false)
    (hXo : s.synth.aplls[(0 : Fin 8)].causeXo = false) (hState : s.synth.aplls[(0 : Fin 8)].state = .unlocked)
    (hForm : s.clock.form = .stopped) (hIdle : s.clock.recovery = none) :
    ∃ t, execApllLock 0 s = .next t ∧ t.clock.form = .virtual ∧ t.clock.ticks = 0 := by
  refine ⟨_, execApllLock_unlocked hReset hXo hState, ?_⟩
  have hClock := leaveUnlocked_clock 0 s
  rw [if_pos (Fin.val_zero 8), (thawSystem_core _).same .clock (by decide)]
  exact startClock_stopped (hClock ▸ hForm) (hClock ▸ hIdle)

/-! ### The lock of an APLL that is not UNLOCKED (R181) -/

theorem execApllLock_locked {s : State} {a : Fin 8} (hState : s.synth.aplls[a].state = .locked) :
    execApllLock a s = .next s := by
  simp only [execApllLock, hState, ite_self]

/-- An APLL whose re-engagement meets the lock condition is LOCKED, and its limiter lets its outputs go. -/
def reengaged (a : Fin 8) (s : State) : State :=
  limiterRelease a (setApll a .locked (s.modApll a fun y => { y with causeSlip := false, engaging := false }))

theorem reengaged_apll (a : Fin 8) (s : State) : (reengaged a s).synth.aplls[a] =
    { s.synth.aplls[a] with causeSlip := false, engaging := false, state := .locked, limited := false } := by
  rw [reengaged, limiterRelease_apll, setApll_aplls, get_upd_same, modApll_synth, get_upd_same]

theorem execApllLock_frozen {s : State} {a : Fin 8} (ha : a.val ≠ 0) (hReset : s.power.inReset = false)
    (hXo : s.synth.aplls[a].causeXo = false) (hState : s.synth.aplls[a].state = .frozen)
    (hDpll : s.synth.aplls[a].causeDpll = false) : execApllLock a s = .next (reengaged a s) := by
  simp only [execApllLock, hReset, hXo, hState, hDpll, ha, modApll_synth, get_upd_same, Bool.false_eq_true, or_self,
    if_false, reengaged]

/-! ### Slip and re-engagement (R181) -/

theorem execApllSlip_unlocked {s : State} {a : Fin 8} (hState : s.synth.aplls[a].state = .unlocked) :
    execApllSlip a s = .next s := if_pos hState

theorem execApllSlip_locked {s : State} {a : Fin 8} (hState : s.synth.aplls[a].state = .locked) (ha : a.val ≠ 0) :
    execApllSlip a s = .next (holdApll a (fun x => { x with causeSlip := true, engaging := true }) s) := by
  have hRuns : s.synth.aplls[a].state ≠ .unlocked := by
    rw [hState]
    decide
  rw [execApllSlip, if_neg hRuns]
  exact congrArg _ (if_neg ha)

theorem execApllReengageTimeout_fails {s : State} {a : Fin 8} (hState : s.synth.aplls[a].state = .frozen)
    (hEngaging : s.synth.aplls[a].engaging = true) (hXo : s.synth.aplls[a].causeXo = false) :
    execApllReengageTimeout a s = .next (unlockApll a s) :=
  if_pos ⟨hState, hEngaging, by rw [hXo]; rfl⟩

theorem execApllReengageTimeout_idle {s : State} {a : Fin 8} (hIdle : s.synth.aplls[a].engaging = false) :
    execApllReengageTimeout a s = .next s :=
  if_neg fun ⟨_, hEngaging, _⟩ => Bool.false_ne_true (hIdle.symm.trans hEngaging)

/-! ### The limiter (R184, R188) -/

theorem execLimiterGate_unheld {s : State} {a : Fin 8} (e : Nat) (hRuns : analogHold s.synth.aplls[a] = false) :
    execLimiterGate a e s = .next s := by
  rw [execLimiterGate, hRuns]
  rfl

/-- Against a reference both limits of a held APLL are compared in 0.1 ppm. -/
theorem execLimiterGate_measured {s : State} {a : Fin 8} (e : Nat) (hHeld : analogHold s.synth.aplls[a] = true)
    (hRef : (excursionRef s).isSome = true) :
    execLimiterGate a e s = .next
      (if 10 * s.synth.aplls[a].cfg.ceiling - 2 ≤ e then
        if s.synth.aplls[a].limited then s
        else stopOutputs a (s.modApll a fun y => { y with limited := true })
      else if e ≤ 10 * s.synth.aplls[a].cfg.ceiling - 10 then limiterRelease a s else s) := by
  simp only [execLimiterGate, hHeld, hRef, Bool.not_true, Bool.false_eq_true, if_true, if_false,
    Nat.mul_le_mul_right_iff (by decide : 0 < 128)]
  split
  · rfl
  · split <;> rfl

theorem execLimiterGate_stops {s : State} {a : Fin 8} {e : Nat} (hHeld : analogHold s.synth.aplls[a] = true)
    (hRef : (excursionRef s).isSome = true) (hRuns : s.synth.aplls[a].limited = false)
    (hHigh : 10 * s.synth.aplls[a].cfg.ceiling ≤ e + 2) :
    execLimiterGate a e s = .next (stopOutputs a (s.modApll a fun y => { y with limited := true })) := by
  rw [execLimiterGate_measured e hHeld hRef, if_pos (Nat.sub_le_of_le_add hHigh), hRuns,
    if_neg Bool.false_ne_true]

theorem execLimiterGate_releases {s : State} {a : Fin 8} {e : Nat} (hHeld : analogHold s.synth.aplls[a] = true)
    (hRef : (excursionRef s).isSome = true) (hStopped : s.synth.aplls[a].limited = true)
    (hCeiling : 1 ≤ s.synth.aplls[a].cfg.ceiling) (hLow : e + 10 ≤ 10 * s.synth.aplls[a].cfg.ceiling) :
    execLimiterGate a e s = .next
      (restartOutputs a .running (s.modApll a fun y => { y with limited := false })) := by
  have hBelow : ¬ 10 * s.synth.aplls[a].cfg.ceiling - 2 ≤ e := by omega
  rw [execLimiterGate_measured e hHeld hRef, if_neg hBelow, if_pos (Nat.le_sub_of_add_le hLow), limiterRelease,
    if_pos hStopped]

/-! ### The aligned start of an output (R188) -/

theorem execOutputAlignedStart_ready {s : State} {k : Fin 16} (hWaits : s.synth.ckouts[k].state = .waitAlign)
    (hRuns : s.synth.aplls[apllOf k].state ≠ .unlocked) (hFree : s.synth.aplls[apllOf k].limited = false)
    (hRole : s.synth.ckouts[k].cfg.role = 0 ∨ counterForm s = true) :
    execOutputAlignedStart k s = .next (setCkout k .running s) :=
  if_pos ⟨hWaits, hRuns, by rw [hFree]; rfl, hRole⟩

theorem execOutputAlignedStart_unready {s : State} {k : Fin 16}
    (h : s.synth.ckouts[k].state ≠ .waitAlign ∨ s.synth.aplls[apllOf k].state = .unlocked ∨
      s.synth.aplls[apllOf k].limited = true) : execOutputAlignedStart k s = .next s := by
  refine if_neg fun ⟨hWaits, hRuns, hFree, _⟩ => ?_
  obtain hState | hUnlocked | hLimited := h
  · exact hState hWaits
  · exact hRuns hUnlocked
  · rw [hLimited] at hFree
    exact Bool.false_ne_true hFree

/-- Settles O45: each row by its equation above. -/
theorem apllsLockSlipAndLimitTheirOutputs : Obligations.ApllsLockSlipAndLimitTheirOutputs := by
  refine ⟨fun s a ha hReset hXo hState hRuns => ?locks, fun s a c ha hReset hXo hState hDriven hFrozen => ?freezes,
    fun _ _ hState => execApllLock_locked hState, fun s a ha hReset hXo hState hDpll => ?reengages,
    fun _ hReset hXo hState hForm hIdle => execApllLock_startsClock hReset hXo hState hForm hIdle,
    fun s a hState ha => ?slips, fun _ _ hState => execApllSlip_unlocked hState,
    fun _ _ hState hEngaging hXo => execApllReengageTimeout_fails hState hEngaging hXo,
    fun _ _ hIdle => execApllReengageTimeout_idle hIdle,
    fun _ _ _ hHeld hRef hRuns hHigh => execLimiterGate_stops hHeld hRef hRuns hHigh,
    fun _ _ _ hHeld hRef hStopped hCeiling hLow => execLimiterGate_releases hHeld hRef hStopped hCeiling hLow,
    fun _ _ e hRuns => execLimiterGate_unheld e hRuns,
    fun _ _ hWaits hRuns hFree hRole => execOutputAlignedStart_ready hWaits hRuns hFree hRole,
    fun _ _ h => execOutputAlignedStart_unready h⟩
  case locks =>
    rw [exec_apllLock, execApllLock_leavesUnlocked ha hReset hXo hState, leaveUnlocked, drivenFrozen_false hRuns,
      if_neg Bool.false_ne_true]
  case freezes =>
    rw [exec_apllLock, execApllLock_leavesUnlocked ha hReset hXo hState, leaveUnlocked,
      drivenFrozen_true hDriven hFrozen, if_pos rfl]
  case reengages =>
    refine ⟨_, execApllLock_frozen ha hReset hXo hState hDpll, ?_⟩
    rw [reengaged_apll]
    exact ⟨rfl, rfl, rfl⟩
  case slips =>
    refine ⟨_, execApllSlip_locked hState ha, ?_⟩
    obtain ⟨_, hHeld⟩ := holdApll_locked (fun x => { x with causeSlip := true, engaging := true }) hState
    rw [hHeld]
    exact ⟨rfl, rfl, rfl⟩

end Sys2Proof.Machine
end

section
/-! SUPPORT. The commands of the time counter (07 R207, R211, R213, R214, R219): what a new parameter set leaves, what
each command answers, and the obligation that they act as their rules say. -/

namespace Sys2Proof.Machine

/-! ### A new parameter set (R207) -/

theorem setVirtual_clock (v : VirtualSet) (s : State) :
    (setVirtual v s).clock = { s.clock with vset := v, vprev := s.clock.vset } := rfl

/-- What was measured moves with device time. -/
theorem setVirtual_measured (v : VirtualSet) {s : State} {i : Fin 20} {o : Int} (h : s.refs[i].measured = some o) :
    (setVirtual v s).refs[i].measured = some (o + ((now (setVirtual v s) : Int) - now s)) := by
  have hNow : now (setVirtual v s) = now (s.modClock fun c => { c with vset := v, vprev := c.vset }) :=
    now_of_clock (setVirtual_clock v s)
  have hRefs : (setVirtual v s).refs = (stepRefs ((now (setVirtual v s) : Int) - now s) s).refs := by
    rw [hNow]
    rfl
  simp only [hRefs, stepRefs, Fin.getElem_fin, get_vmap] at h ⊢
  rw [h, Option.map_some]

/-! ### time-set (R213) -/

section
variable {s : State} {r : Req} {t0 : ZT128} {setAt : Nat} (hAsks : Asks 0x0102 17 r s) (hAt : setAt ≤ 8)
  (hValid : ztValid t0 = true)
include hAsks hAt hValid

theorem execTimeSet_permitted (hForm : s.clock.form = .virtual) (hState : s.ductus.state = .free) :
    execTimeSet r t0 setAt s = .next (finish r.src stOk []
      (if setAt = 0 then
        setVirtual { t0 := ztUnits t0, v0 := s.clock.ticks.toNat, rate := s.clock.vset.rate }
          (s.modClock fun c => { c with setOnEvin := none })
      else s.modClock fun c =>
        { c with setOnEvin := (asFin 8 (setAt - 1)).map fun n => (n, ztUnits t0) })) := by
  have hPermitted : (inVirtual s && decide (s.ductus.state = .free)) = true := by
    rw [inVirtual, decide_eq_true hForm, decide_eq_true hState, Bool.and_self]
  refine runSimple_ok hAsks ?_
  rw [need_true (decide_eq_true hAt), need_true hValid, need_true hPermitted]
  split <;> rfl

theorem execTimeSet_refused (h : s.clock.form ≠ .virtual ∨ s.ductus.state ≠ .free) :
    execTimeSet r t0 setAt s = .next (finish r.src eState [] s) := by
  have hRefused : (inVirtual s && decide (s.ductus.state = .free)) = false := by
    rw [Bool.and_eq_false_iff]
    exact h.imp decide_eq_false decide_eq_false
  refine runSimple_error hAsks ?_
  rw [need_true (decide_eq_true hAt), need_true hValid, need_false hRefused]

end

/-! ### time-step, time-restart and leap-table (R214, R211, R219) -/

theorem execTimeStep_waits {s : State} {r : Req} {p : Pend} {a : Int} (hLen : r.len = 8)
    (hReady : ready 0x0103 r s = some p) (hMoves : a ≠ 0) (hRange : a.natAbs ≤ 1000 * secUnit)
    (hAfter : 0 ≤ (now s : Int) + a) (hForm : s.clock.form = .counter) (hStep : s.clock.step = none)
    (hRebase : s.clock.rebase = none) :
    execTimeStep r a s = .next (finish r.src stAccepted [] (s.modClock fun c =>
      { c with step := some { amount := a, boundary := stepBoundary s, source := r.src,
                              sequence := p.sequence } })) := by
  have hFits : (decide (a ≠ 0) && decide (a.natAbs ≤ 1000 * secUnit) && decide (0 ≤ (now s : Int) + a)) = true := by
    rw [decide_eq_true hMoves, decide_eq_true hRange, decide_eq_true hAfter]
    rfl
  have hIdle : (counterForm s && s.clock.step.isNone && s.clock.rebase.isNone) = true := by
    rw [counterForm, decide_eq_true hForm, hStep, hRebase]
    rfl
  refine runAccepted_ok hLen hReady ?_
  rw [need_true hFits, need_true hIdle]
  rfl

theorem execTimeRestart_begins {s : State} {r : Req} {p : Pend} (hLen : r.len = 0)
    (hReady : ready 0x0104 r s = some p) :
    execTimeRestart r s = .next (finish r.src stAccepted [] ((beginRecovery true s).modClock fun c =>
      { c with restarts := c.restarts ++ [(r.src, p.sequence)] })) :=
  runAccepted_ok hLen hReady rfl

theorem execLeapTable_replaces {s : State} {r : Req} {base : Int} {expiry : Nat} {es : List LeapEntry}
    (hAsks : Asks 0x0105 (24 + 16 * es.length) r s) (hFields : leapFields base expiry es = true)
    (hOrder : leapOk none base es = true)
    (hSmear : s.clock.leap.unset = true ∨ inProgress s.clock.leap (now s) =
      inProgress { base := base, expiry := expiry, entries := es, unset := false } (now s)) :
    execLeapTable r base expiry es s = .next (finish r.src stOk [] (s.modClock fun c =>
      { c with leap := { base := base, expiry := expiry, entries := es, unset := false } })) := by
  have hFits : (leapFields base expiry es && leapOk none base es) = true := by
    rw [hFields, hOrder, Bool.and_self]
  have hKeeps : (s.clock.leap.unset || decide (inProgress s.clock.leap (now s) =
      inProgress { base := base, expiry := expiry, entries := es, unset := false } (now s))) = true := by
    rw [Bool.or_eq_true, decide_eq_true_eq]
    exact hSmear
  refine runSimple_ok hAsks ?_
  rw [need_true hFits, need_true hKeeps]
  rfl

/-- Settles O8: each command by its answer above. -/
theorem timeCommandsActAsTheirRulesSay : Obligations.TimeCommandsActAsTheirRulesSay := by
  refine ⟨fun s r t0 hAsks hValid hForm hState =>
      execTimeSet_permitted hAsks (Nat.zero_le 8) hValid hForm hState,
    fun s v => ⟨setVirtual_clock v s, (setVirtual_core v s).same .ductus (by decide),
      (setVirtual_core v s).same .synth (by decide)⟩,
    fun s v i o h => setVirtual_measured v h, fun s r t0 n hAsks hValid hForm hState => ?waits,
    fun s r t0 setAt hAsks hAt hValid h => execTimeSet_refused hAsks hAt hValid h,
    fun s r p a hLen hReady hMoves hRange hAfter hForm hStep hRebase =>
      execTimeStep_waits hLen hReady hMoves hRange hAfter hForm hStep hRebase,
    fun s r p hLen hReady => execTimeRestart_begins hLen hReady,
    fun s r base expiry es hAsks hFields hOrder hSmear => execLeapTable_replaces hAsks hFields hOrder hSmear⟩
  case waits =>
    rw [exec_timeSet, execTimeSet_permitted hAsks n.isLt hValid hForm hState, if_neg n.val.succ_ne_zero,
      Nat.succ_sub_one, asFin_val, Option.map_some]

end Sys2Proof.Machine
end

section
/-! SUPPORT. What the clock keeps (06 R182, R192; 07 R206, R207, R211, R214): the present device time read off the
clock, the increment as the only field that a slew of DPLL0 moves, and the clock after a recovery, after Ductus has
entered FREE, and after a step. -/

namespace Sys2Proof.Machine

/-! ### Device time of the present tick (R206, R207) -/

theorem now_counter {s : State} (h : s.clock.form = .counter) : now s = s.clock.reg / 2 ^ 24 := by
  simp only [now, stampAt, h, Nat.zero_mul, Nat.zero_div, Nat.add_zero]

theorem now_stopped {s : State} (h : s.clock.form = .stopped) : now s = s.clock.reg / 2 ^ 24 := by
  simp only [now, stampAt, h]

theorem now_virtual {s : State} (h : s.clock.form = .virtual) :
    now s = (s.clock.setFor s.clock.ticks.toNat).time s.clock.ticks.toNat 0 := by
  simp only [now, stampAt, h]

/-- A parameter set gives T0 at V0. -/
theorem VirtualSet.time_v0 (p : VirtualSet) : p.time p.v0 0 = p.t0 := by
  have hRound : rdiv 0 (2 ^ 84) = 0 := by decide
  rw [VirtualSet.time, Int.sub_self, Int.zero_mul, Int.natCast_zero, Int.add_zero, Int.zero_mul, hRound, Int.add_zero,
    Int.toNat_natCast]

/-- The virtual form begins at T0 (R208). -/
theorem now_virtual_start {s : State} (hForm : s.clock.form = .virtual) (hTicks : s.clock.ticks = 0)
    (hSet : s.clock.vset.v0 = 0) : now s = s.clock.vset.t0 := by
  have hTime := VirtualSet.time_v0 s.clock.vset
  rw [hSet] at hTime
  have hFrom : s.clock.vset.v0 ≤ (0 : BitVec 64).toNat := Nat.le_of_eq hSet
  rw [now_virtual hForm, hTicks, Clock.setFor, if_pos hFrom]
  exact hTime

/-! ### A slew of DPLL0 moves the increment only (06 R192) -/

/-- The clock with its increment blanked. -/
def Clock.unslewed (c : Clock) : Clock := { c with increment := 0 }

/-- A field that the blank leaves as it is can be read off an equation of unslewed clocks. -/
theorem field_of_unslewed {α : Type} (g : Clock → α) {c d : Clock} (h : c.unslewed = d.unslewed)
    (hg : ∀ c : Clock, g c.unslewed = g c := by intro c; rfl) : g c = g d :=
  (hg c).symm.trans ((congrArg g h).trans (hg d))

/-- The present device time does not depend on the increment. -/
theorem now_of_unslewed {s t : State} (h : t.clock.unslewed = s.clock.unslewed) : now t = now s := by
  have hForm : t.clock.form = s.clock.form := (field_of_unslewed Clock.form h :)
  cases hOld : s.clock.form with
  | counter =>
    rw [now_counter hOld, now_counter (hForm.trans hOld), (field_of_unslewed Clock.reg h :)]
  | virtual =>
    rw [now_virtual hOld, now_virtual (hForm.trans hOld)]
    exact field_of_unslewed (fun c => (c.setFor c.ticks.toNat).time c.ticks.toNat 0) h
  | stopped =>
    rw [now_stopped hOld, now_stopped (hForm.trans hOld), (field_of_unslewed Clock.reg h :)]

theorem slewIncrement_unslewed (c : Fin 6) (s : State) :
    (slewIncrement c s).clock.unslewed = s.clock.unslewed := by
  unfold slewIncrement
  split
  · rfl
  · dsimp only
    split <;> rfl

theorem abortRealign_unslewed (c : Fin 6) (s : State) : (abortRealign c s).clock.unslewed = s.clock.unslewed := by
  have hSettled : (settleSlew c s).clock = s.clock := (settleSlew_core c s).same .clock (by decide)
  unfold abortRealign
  dsimp only
  split
  · rw [hSettled]
  · split
    · rw [hSettled]
    · rw [(dropItem_core 0 c.val _).same .clock (by decide), (raise_core _ _ _ _).same .clock (by decide),
        slewIncrement_unslewed, modDpll_clock, hSettled]

theorem freezeOne_unslewed (c : Fin 6) (s : State) : (freezeOne c s).clock.unslewed = s.clock.unslewed := by
  unfold freezeOne
  dsimp only
  split
  · refine (forAll_keeps (fun t => t.clock.unslewed) (fun a t => ?_) _ _).trans ?_
    · rw [(holdApll_core a _ t).same .clock (by decide)]
    · rw [abortRealign_unslewed, (freeControl_core c _).same .clock (by decide), modDpll_clock]
  · rfl

theorem freezeSystem_unslewed (s : State) : (freezeSystem s).clock.unslewed = s.clock.unslewed := by
  unfold freezeSystem
  split
  · rfl
  · exact forAll_keeps (fun t => t.clock.unslewed) freezeOne_unslewed _ s

theorem freezeDpll_unslewed (c : Fin 6) (s : State) : (freezeDpll c s).clock.unslewed = s.clock.unslewed :=
  (freezeSystem_unslewed _).trans (freezeOne_unslewed c s)

theorem setDuctus_free_unslewed (s : State) : (setDuctus .free s).clock.unslewed = s.clock.unslewed := by
  unfold setDuctus
  dsimp only
  rw [(applyControl_core 0 _).same .clock (by decide), modDpll_clock]
  split
  · rfl
  · exact freezeDpll_unslewed 0 _

/-! ### Ductus enters FREE (04 R141) -/

/-- Whatever Ductus gives up on its way to FREE, the clock and its own state stand until the transition. -/
theorem ductusFree_stages (s : State) : ∃ u, u.clock = s.clock ∧
    ductusFree s = if u.ductus.state = .free then u else setDuctus .free u := by
  refine ⟨_, ?_, rfl⟩
  rw [(setAnchor_core none _).same .clock (by decide), modDuctus_clock, modSel_clock]
  split
  · exact (refEvent_core _ _ _ _ _).same .clock (by decide)
  · rfl

theorem ductusFree_unslewed (s : State) : (ductusFree s).clock.unslewed = s.clock.unslewed := by
  obtain ⟨u, hClock, hFree⟩ := ductusFree_stages s
  rw [hFree, ← hClock]
  split
  · rfl
  · exact setDuctus_free_unslewed u

theorem ductusFree_state (s : State) : (ductusFree s).ductus.state = .free := by
  obtain ⟨u, -, hFree⟩ := ductusFree_stages s
  rw [hFree]
  split
  case isTrue h => exact h
  case isFalse => exact setDuctus_state .free u

/-! ### A recovery begins (R211) -/

theorem discardStep_clock (s : State) :
    (discardStep s).clock = { s.clock with step := none, rebase := none } := by
  unfold discardStep
  dsimp only
  split
  case h_1 => rw [modClock_clock, (completeCmd_core _ _ _ _ _).same .clock (by decide), modClock_clock]
  case h_2 hStep => rw [modClock_clock, ← hStep]

/-- What the recovery drops stands in other parts; `u` is the state in which the step and the programs go. -/
theorem beginRecovery_stages (b : Bool) {s : State} (h : s.clock.recovery = none) :
    ∃ last u, last / 2 ^ 24 = now s ∧ Only [.net, .host] s u ∧ beginRecovery b s =
      releaseHeld ((nibRecovery (stopFrames (killPrograms (discardStep u)))).modClock fun c =>
        { c with form := .stopped, reg := last, recovery := some ⟨b, last⟩,
                 handoverAsked := false, setOnEvin := none }) := by
  have hIdle : ¬ s.clock.recovery.isSome = true := by
    rw [h]
    decide
  rw [beginRecovery, if_neg hIdle]
  refine ⟨_, _, ?time, ?dropped, rfl⟩
  case dropped => exact modPtp_only (modNts_only (dropAll_only (.refl _ _) (by decide)) (by decide)) (by decide)
  case time =>
    split
    case h_1 hForm => exact (now_counter hForm).symm
    case h_2 => exact Nat.mul_div_cancel _ (by decide)
    case h_3 hForm => exact (now_stopped hForm).symm

/-- The clock stops at the time it had, and the host's step goes with it. -/
theorem beginRecovery_clock (b : Bool) {s : State} (h : s.clock.recovery = none) :
    ∃ last, last / 2 ^ 24 = now s ∧ (beginRecovery b s).clock =
      { s.clock with form := .stopped, reg := last, step := none, rebase := none, recovery := some ⟨b, last⟩,
                     handoverAsked := false, setOnEvin := none } := by
  obtain ⟨last, u, hTime, hDropped, hBegun⟩ := beginRecovery_stages b h
  refine ⟨last, hTime, ?_⟩
  rw [hBegun, (releaseHeld_core _).same .clock (by decide), modClock_clock,
    (nibRecovery_core _).same .clock (by decide), (stopFrames_core _).same .clock (by decide),
    (killPrograms_core _).same .clock (by decide), discardStep_clock, hDropped.same .clock (by decide)]

theorem killProgram_aplls (e : Fin 8) (periodic : Bool) (s : State) :
    (killProgram e periodic s).synth.aplls = s.synth.aplls := by
  unfold killProgram
  extract_lets v slot
  split <;> rfl

theorem killPrograms_aplls (s : State) : (killPrograms s).synth.aplls = s.synth.aplls := by
  refine forAll_keeps (fun t => t.synth.aplls) (fun e t => ?_) _ s
  rw [modEvout_synth, killProgram_aplls, killProgram_aplls]

theorem stopFrames_aplls (s : State) : (stopFrames s).synth.aplls = s.synth.aplls := rfl

theorem beginRecovery_aplls (b : Bool) {s : State} (h : s.clock.recovery = none) :
    (beginRecovery b s).synth.aplls = s.synth.aplls := by
  obtain ⟨last, u, -, hDropped, hBegun⟩ := beginRecovery_stages b h
  rw [hBegun, (releaseHeld_core _).same .synth (by decide), modClock_synth,
    (nibRecovery_core _).same .synth (by decide), stopFrames_aplls, killPrograms_aplls,
    (discardStep_core u).same .synth (by decide), hDropped.same .synth (by decide)]

/-! ### APLL0 enters UNLOCKED (06 R182) -/

/-- Whether an APLL is UNLOCKED. -/
def apllUnlocked (a : Fin 8) (s : State) : Bool := decide (s.synth.aplls[a].state = .unlocked)

theorem apllUnlocked_iff {a : Fin 8} {s : State} :
    apllUnlocked a s = true ↔ s.synth.aplls[a].state = .unlocked := decide_eq_true_iff

theorem raise_unlocked (a : Fin 8) (code x y : Nat) (s : State) :
    apllUnlocked a (raise code x y s) = apllUnlocked a s := rfl

/-- An update that leaves the state of an APLL leaves UNLOCKED as it is. -/
theorem modApll_unlocked (a b : Fin 8) {f : Apll → Apll} (hf : ∀ x, (f x).state = x.state) (s : State) :
    apllUnlocked a (s.modApll b f) = apllUnlocked a s := by
  simp only [apllUnlocked, modApll_synth, Fin.getElem_fin, get_upd]
  split
  case isTrue h => simp only [hf, h]
  case isFalse => rfl

theorem setApll_frozen_unlocked (a b : Fin 8) {s : State} (h : s.synth.aplls[b].state = .locked) :
    apllUnlocked a (setApll b .frozen s) = apllUnlocked a s := by
  simp only [apllUnlocked, setApll_aplls]
  by_cases hab : b = a
  · subst hab
    rw [get_upd_same, h]
    rfl
  · rw [get_upd_of_ne _ _ hab]

/-- A cause of FROZEN reaches the record, with the temperature of a hold, and only then the state. -/
theorem holdApll_stages (a : Fin 8) (f : Apll → Apll) (s : State) : ∃ g, (∀ x, (g x).state = (f x).state) ∧
    holdApll a f s = if s.synth.aplls[a].state = .locked then setApll a .frozen (s.modApll a g) else s.modApll a g := by
  refine ⟨_, fun x => ?_, rfl⟩
  dsimp only
  split <;> rfl

/-- A LOCKED APLL becomes FROZEN and an UNLOCKED one stays as it is (06 R181). -/
theorem holdApll_unlocked (a b : Fin 8) {f : Apll → Apll} (hf : ∀ x, (f x).state = x.state) (s : State) :
    apllUnlocked a (holdApll b f s) = apllUnlocked a s := by
  obtain ⟨g, hg, hHeld⟩ := holdApll_stages b f s
  have hTaken := modApll_unlocked a b (fun x => (hg x).trans (hf x)) s
  rw [hHeld]
  split
  case isTrue hLocked =>
    refine (setApll_frozen_unlocked a b ?_).trans hTaken
    rw [modApll_synth, get_upd_same, hg, hf, hLocked]
  case isFalse => exact hTaken

theorem applyOne_unlocked (a : Fin 8) (c : Fin 6) (b : Fin 8) (s : State) :
    apllUnlocked a (applyOne c b s) = apllUnlocked a s := by
  unfold applyOne
  dsimp only
  split
  · exact modApll_unlocked a b (fun _ => by rfl) s
  · exact (raise_unlocked a _ _ _ _).trans (modApll_unlocked a b (fun _ => by rfl) s)

theorem freeControl_unlocked (a : Fin 8) (c : Fin 6) (s : State) :
    apllUnlocked a (freeControl c s) = apllUnlocked a s :=
  forAll_keeps (apllUnlocked a) (applyOne_unlocked a c) _ _

theorem dropItem_unlocked (a : Fin 8) (kind n : Nat) (s : State) :
    apllUnlocked a (dropItem kind n s) = apllUnlocked a s := by
  refine (forAll_keeps (apllUnlocked a) (fun j t => ?_) _ _).trans rfl
  exact raise_unlocked a _ _ _ t

theorem abortRealign_unlocked (a : Fin 8) (c : Fin 6) (s : State) :
    apllUnlocked a (abortRealign c s) = apllUnlocked a s := by
  have hSettled : apllUnlocked a (settleSlew c s) = apllUnlocked a s := by
    rw [apllUnlocked, apllUnlocked, (settleSlew_core c s).same .synth (by decide)]
  unfold abortRealign
  dsimp only
  split
  · exact hSettled
  · split
    · exact hSettled
    · rw [dropItem_unlocked, raise_unlocked, apllUnlocked, (slewIncrement_core c _).same .synth (by decide)]
      exact hSettled

theorem freezeOne_unlocked (a : Fin 8) (c : Fin 6) (s : State) :
    apllUnlocked a (freezeOne c s) = apllUnlocked a s := by
  unfold freezeOne
  dsimp only
  split
  · refine (forAll_keeps (apllUnlocked a) (fun b t => ?_) _ _).trans ?_
    · exact holdApll_unlocked a b (fun _ => by rfl) t
    · exact (abortRealign_unlocked a c _).trans (freeControl_unlocked a c _)
  · rfl

theorem freezeSystem_unlocked (a : Fin 8) (s : State) : apllUnlocked a (freezeSystem s) = apllUnlocked a s := by
  unfold freezeSystem
  split
  · rfl
  · exact forAll_keeps (apllUnlocked a) (freezeOne_unlocked a) _ s

/-- The APLL as it enters UNLOCKED with its causes and its limiter clear. -/
def enterUnlocked (a : Fin 8) (s : State) : State :=
  setApll a .unlocked (s.modApll a fun x => { x with causeSlip := false, engaging := false, limited := false })

theorem enterUnlocked_unlocked (a : Fin 8) (s : State) : apllUnlocked a (enterUnlocked a s) = true := by
  rw [apllUnlocked_iff, enterUnlocked, setApll_aplls, get_upd_same]

theorem unlockApll_eq (a : Fin 8) (s : State) : unlockApll a s =
    if a.val = 0 then beginRecovery false (freezeSystem (enterUnlocked a s)) else enterUnlocked a s := rfl

theorem unlockApll_system (s : State) : unlockApll 0 s = beginRecovery false (freezeSystem (enterUnlocked 0 s)) :=
  (unlockApll_eq 0 s).trans (if_pos (Fin.val_zero 8))

/-- With APLL0 the clock stops, at the time it had. -/
theorem unlockApll_system_stops {s : State} (h : s.clock.recovery = none) :
    (unlockApll 0 s).clock.form = .stopped ∧ now (unlockApll 0 s) = now s ∧ (unlockApll 0 s).clock.step = none ∧
      (unlockApll 0 s).synth.aplls[0].state = .unlocked := by
  have hClock : (freezeSystem (enterUnlocked 0 s)).clock.unslewed = s.clock.unslewed := by
    rw [freezeSystem_unslewed, enterUnlocked, setApll_clock, modApll_clock]
  have hIdle : (freezeSystem (enterUnlocked 0 s)).clock.recovery = none :=
    (field_of_unslewed Clock.recovery hClock :).trans h
  obtain ⟨last, hTime, hBegun⟩ := beginRecovery_clock false hIdle
  have hStopped : (unlockApll 0 s).clock.form = .stopped := by rw [unlockApll_system, hBegun]
  refine ⟨hStopped, ?time, ?step, ?apll⟩
  case time => rw [now_stopped hStopped, unlockApll_system, hBegun, hTime, now_of_unslewed hClock]
  case step => rw [unlockApll_system, hBegun]
  case apll =>
    rw [unlockApll_system, beginRecovery_aplls false hIdle]
    exact apllUnlocked_iff.mp ((freezeSystem_unlocked 0 _).trans (enterUnlocked_unlocked 0 s))

/-! ### A step (R214; 06 R191) -/

/-- A step moves the phases of the channels and, with them, the increment. -/
theorem stepDplls_keeps (a : Int) (s : State) : (stepDplls a s).clock.unslewed = s.clock.unslewed ∧
    (stepDplls a s).ductus.besides = s.ductus.besides := by
  constructor
  · refine forAll_keeps (fun t => t.clock.unslewed) (fun c t => ?_) _ s
    rw [slewIncrement_unslewed, modDpll_clock, modDpll_clock, (settleSlew_core c t).same .clock (by decide)]
  · refine forAll_keeps (fun t => t.ductus.besides) (fun c t => ?_) _ s
    rw [(slewIncrement_core c _).same .ductus (by decide), modDpll_besides, modDpll_besides, settleSlew_besides]

/-- What follows the channels in a step. -/
theorem stepOthers_only (a : Int) (u : State) : Only [.refs, .synth, .nib, .net, .stack] u
    (stepMacs a (nibStep a (stepStack a (stepClient a (stepRefs a (stepEvouts a u)))))) :=
  stepMacs_only (nibStep_only (stepStack_only (stepClient_only (stepRefs_only (stepEvouts_only (.refl _ _)
    (by decide)) (by decide)) (by decide)) (by decide)) (by decide)) (by decide)

/-- The register and Ductus move first, then the channels; what follows stands in other parts. -/
theorem stepTime_stages (a : Int) (s : State) : ∃ u,
    u.clock = { s.clock with reg := ((s.clock.reg : Int) + a * 2 ^ 24).toNat, epoch := s.clock.epoch + 1 } ∧
    u.ductus.h = s.ductus.h ∧
    Only [.refs, .synth, .nib, .net, .stack, .host] (stepDplls a u) (stepTime a s) := by
  unfold stepTime
  extract_lets clock before taken reckoned shift shiftAll measured watched stepped
  refine ⟨watched, rfl, rfl, ?_⟩
  have hOthers : Only [.refs, .synth, .nib, .net, .stack, .host] (stepDplls a watched) stepped :=
    (stepOthers_only a (stepDplls a watched)).mono (by decide)
  split
  · exact stepReservations_only hOthers (by decide)
  · exact hOthers

theorem stepTime_unslewed (a : Int) (s : State) : (stepTime a s).clock.unslewed =
    { s.clock.unslewed with reg := ((s.clock.reg : Int) + a * 2 ^ 24).toNat, epoch := s.clock.epoch + 1 } := by
  obtain ⟨u, hClock, -, hMoved⟩ := stepTime_stages a s
  rw [hMoved.same .clock (by decide), (stepDplls_keeps a u).1, hClock]
  rfl

theorem stepTime_h (a : Int) (s : State) : (stepTime a s).ductus.h = s.ductus.h := by
  obtain ⟨u, -, hHost, hMoved⟩ := stepTime_stages a s
  have hKept : (stepDplls a u).ductus.h = u.ductus.h := (field_of_besides Ductus.h (stepDplls_keeps a u).2 :)
  rw [hMoved.same .ductus (by decide), hKept, hHost]

end Sys2Proof.Machine
end

section
/-! SUPPORT. The rows of the time counter (07 R205, R206, R210, R211, R214, R222, R224, R227): the handover, steps,
recoveries, latches and ticks, and the obligation that they move the counter as its rules say. -/

namespace Sys2Proof.Machine

/-! ### The handover (R210) -/

theorem completeAll_clock (l : List (Source × Nat)) (s : State) :
    (forAll l (fun x t => completeCmd 0x0104 x.2 stOk x.1 t) s).clock = s.clock :=
  forAll_keeps State.clock (fun _ t => (completeCmd_core _ _ _ _ t).same .clock (by decide)) l s

/-- The register takes the device time of the tick. -/
theorem execHandover_asked {s : State} (hAsked : s.clock.handoverAsked = true) (hForm : s.clock.form = .virtual)
    (hFirst : s.clock.handedOver = false) : ∃ t, execHandover s = .next t ∧ t.clock =
      { s.clock with reg := now s * 2 ^ 24, increment := 2 ^ 40, form := .counter, epoch := s.clock.epoch + 1,
                     handedOver := true, handoverAsked := false, estimatePoor := false, setOnEvin := none,
                     restarts := [] } := by
  refine ⟨_, if_pos ⟨hAsked, hForm, by rw [hFirst]; rfl⟩, ?_⟩
  rw [completeAll_clock, modClock_clock, (raise_core _ _ _ _).same .clock (by decide), modClock_clock]

/-! ### A step that is due (R214) -/

theorem execTimeStepApply_due {s : State} {p : PendingStep} (hStep : s.clock.step = some p)
    (hForm : s.clock.form = .counter) (hDue : p.boundary ≤ nowSec s) :
    ∃ t, execTimeStepApply s = .next t ∧
      t.clock = (stepTime p.amount (s.modClock fun c => { c with step := none })).clock ∧
      t.ductus.h = s.ductus.h + p.amount := by
  have hRuns : (counterForm s && decide (p.boundary ≤ nowSec s)) = true := by
    rw [counterForm, decide_eq_true hForm, decide_eq_true hDue, Bool.and_self]
  unfold execTimeStepApply
  rw [hStep]
  dsimp only
  rw [if_pos hRuns]
  refine ⟨_, rfl, ?clock, ?host⟩
  case clock =>
    rw [(completeCmd_core _ _ _ _ _).same .clock (by decide), (raiseAt_core _ _ _ _ _).same .clock (by decide),
      modDuctus_clock]
  case host =>
    rw [(completeCmd_core _ _ _ _ _).same .ductus (by decide), (raiseAt_core _ _ _ _ _).same .ductus (by decide),
      modDuctus_ductus, stepTime_h, modClock_ductus]

/-! ### The clock restarts (R208, R211) -/

/-- What counts in ticks starts afresh; of the clock only the last edges of the EVINs are concerned. -/
theorem restartTicks_clock (s : State) : (restartTicks s).clock =
    { s.clock with evins := vmap (fun _ e => { e with lastEdge := none }) s.clock.evins } := rfl

/-- The virtual form begins at V = 0 with the time that the register had, and the time that the XO has counted. -/
theorem execClockRestart_begins {s : State} {c : Recovery} (n : Nat) (lost : Bool) (hBegun : s.clock.recovery = some c)
    (hApll : s.synth.aplls[0].state ≠ .unlocked) : ∃ u, execClockRestart n lost s = .next (ductusFree u) ∧
      u.clock.form = .virtual ∧ u.clock.ticks = 0 ∧ u.clock.recovery = none ∧ u.clock.epoch = s.clock.epoch + 1 ∧
      u.clock.vset.v0 = 0 ∧ u.clock.vset.t0 = c.rLast / 2 ^ 24 + xoTime s (if c.byCommand then 0 else n) := by
  unfold execClockRestart
  rw [hBegun]
  dsimp only
  rw [if_neg hApll]
  refine ⟨_, rfl, ?_⟩
  rw [modClock_clock, (raiseAt_core _ _ _ _ _).same .clock (by decide), restartTicks_clock, modClock_clock]
  exact ⟨rfl, rfl, rfl, rfl, rfl, rfl⟩

/-! ### Edges of EVINs (R225, R227) -/

/-- A first edge is stamped and counted. -/
theorem latchEdge_first_count {s : State} {e : Fin 8} (rising : Bool) (sub : Nat)
    (h : s.clock.evins[e].lastEdge = none) :
    (latchEdge e rising sub s).clock.evins[e].count = (s.clock.evins[e].count + 1) % 2 ^ 64 := by
  unfold latchEdge
  dsimp only
  rw [h, if_neg Bool.false_ne_true, (enqueue_core _ _ _).same .clock (by decide), modClock_clock]
  dsimp only
  rw [get_upd_same]

theorem evin_served {s : State} {e : Fin 8} (hEnabled : s.clock.evins[e].enable = 1)
    (hRuns : s.clock.form ≠ .stopped) : ¬ (s.clock.evins[e].enable = 0 ∨ (!clockRuns s) = true) := by
  rw [hEnabled, clockRuns, decide_eq_true hRuns]
  decide

section
variable {s : State} {e : Fin 8} (sub : Nat) (hEnabled : s.clock.evins[e].enable = 1)
  (hPath : s.clock.evins[e].path ≠ 1) (hRuns : s.clock.form ≠ .stopped)
include hEnabled hPath hRuns

theorem execEvinEdge_rising (hEdge : s.clock.evins[e].edge = 0) :
    execEvinEdge e true sub s = .next (evinTrigger e.val (latchEdge e true sub (setOnEdge e sub s))) := by
  rw [execEvinEdge, if_neg (evin_served hEnabled hRuns), hEdge, decide_eq_true hPath]
  rfl

theorem execEvinEdge_falling (hEdge : s.clock.evins[e].edge = 1) :
    execEvinEdge e false sub s = .next (latchEdge e false sub s) := by
  rw [execEvinEdge, if_neg (evin_served hEnabled hRuns), hEdge, decide_eq_true hPath]
  rfl

end

/-! ### The leap table and the counter window (R222, R224) -/

theorem execLeapTableExpiry_late {s : State} (hWritten : s.clock.leap.unset = false)
    (hLate : s.clock.leap.expiry * secUnit < now s) :
    execLeapTableExpiry s = .next (s.modClock fun c => { c with leap := { c.leap with expired := true } }) :=
  if_pos (by rw [hWritten, decide_eq_true hLate]; rfl)

theorem execCwLatch_takes {s : State} (hRuns : s.clock.form ≠ .stopped) (hUp : s.host.linkUp = true)
    (hAwake : s.host.d3hot = false) :
    execCwLatch s = .next (s.modClock fun c => { c with window := snapshotOf s }) :=
  if_pos (by rw [clockRuns, hostReachable, decide_eq_true hRuns, hUp, hAwake]; rfl)

/-! ### Ticks (R205, R206) -/

theorem step_idle {s : State} (h : s.pending = []) : step s = .next (tick s) := by
  rw [step, h]

theorem tick_stopped {s : State} (h : s.clock.form = .stopped) : tick s = s := by
  rw [tick, h]

theorem tick_virtual {s : State} (h : s.clock.form = .virtual) :
    tick s = afterTick (s.modClock fun c => { c with ticks := c.ticks + 1 }) := by
  rw [tick, h]

theorem tick_counter {s : State} (h : s.clock.form = .counter) :
    tick s = afterTick (s.modClock fun c => { c with ticks := c.ticks + 1, reg := c.reg + c.increment }) := by
  rw [tick, h]

/-- What a tick brings about leaves the clock, Ductus, references and keys as they were. -/
theorem afterTick_keeps (s : State) : (afterTick s).clock = s.clock ∧ (afterTick s).ductus = s.ductus ∧
    (afterTick s).refs = s.refs ∧ (afterTick s).keys = s.keys :=
  ⟨(afterTick_core s).same .clock (by decide), (afterTick_core s).same .ductus (by decide),
    (afterTick_core s).same .refs (by decide), (afterTick_core s).same .keys (by decide)⟩

/-- Settles O9: each row by its equation above, and what it leaves in the clock. -/
theorem timeRowsMoveTheCounterAsItsRulesSay : Obligations.TimeRowsMoveTheCounterAsItsRulesSay := by
  refine ⟨fun s hAsked hForm hFirst => ?handover, fun s p hStep hForm hDue => ?steps,
    fun s hIdle hLocked => ?stops, fun s c n lost hBegun hApll => ?restarts,
    fun s hWritten hLate => execLeapTableExpiry_late hWritten hLate,
    fun s hRuns hUp hAwake => execCwLatch_takes hRuns hUp hAwake,
    fun s e sub hEnabled hEdge hPath hRuns => execEvinEdge_rising sub hEnabled hPath hRuns hEdge,
    fun s e sub hEnabled hEdge hPath hRuns hFirst =>
      ⟨execEvinEdge_falling sub hEnabled hPath hRuns hEdge, latchEdge_first_count false sub hFirst⟩,
    fun s hQueue hForm => by rw [step_idle hQueue, tick_stopped hForm],
    fun s hQueue hForm => ⟨_, by rw [step_idle hQueue, tick_counter hForm], afterTick_keeps _⟩,
    fun s hQueue hForm => ⟨_, by rw [step_idle hQueue, tick_virtual hForm], afterTick_keeps _⟩⟩
  case handover =>
    obtain ⟨t, hRow, hClock⟩ := execHandover_asked hAsked hForm hFirst
    have hCounter : t.clock.form = .counter := by rw [hClock]
    refine ⟨t, hRow, hCounter, ?_⟩
    rw [now_counter hCounter, hClock]
    exact ⟨rfl, rfl, rfl, rfl, Nat.mul_div_cancel _ (by decide)⟩
  case steps =>
    obtain ⟨t, hRow, hClock, hHost⟩ := execTimeStepApply_due hStep hForm hDue
    have hStepped := stepTime_unslewed p.amount (s.modClock fun c => { c with step := none })
    rw [← hClock] at hStepped
    exact ⟨t, hRow, congrArg Clock.step hStepped, congrArg Clock.epoch hStepped, congrArg Clock.reg hStepped, hHost⟩
  case stops =>
    have hRuns : s.synth.aplls[0].state ≠ .unlocked := by
      rw [hLocked]
      decide
    exact ⟨_, if_pos ⟨by rw [hIdle]; rfl, hRuns⟩, unlockApll_system_stops hIdle⟩
  case restarts =>
    obtain ⟨u, hRow, hForm, hTicks, hEnded, hEpoch, hV0, hT0⟩ := execClockRestart_begins n lost hBegun hApll
    have hKept := ductusFree_unslewed u
    refine ⟨_, hRow, (field_of_unslewed Clock.form hKept :).trans hForm,
      (field_of_unslewed Clock.ticks hKept :).trans hTicks, (field_of_unslewed Clock.recovery hKept :).trans hEnded,
      (field_of_unslewed Clock.epoch hKept :).trans hEpoch, ductusFree_state u, ?_⟩
    rw [now_of_unslewed hKept, now_virtual_start hForm hTicks hV0, hT0]

end Sys2Proof.Machine
end

section
/-! SUPPORT. Nib channels (08): what the shared operations leave in the record of a channel, so that no later proof
unfolds them. -/

namespace Sys2Proof.Machine

/-! ### One channel's record -/

theorem modNib_channel (c : Fin 24) (f : NibChannel → NibChannel) (s : State) : (s.modNib c f).nib[c] = f s.nib[c] :=
  get_upd_same _ _ _

theorem modNib_otherChannel {c d : Fin 24} (f : NibChannel → NibChannel) (s : State) (h : d ≠ c) :
    (s.modNib c f).nib[d] = s.nib[d] :=
  get_upd_of_ne _ _ h.symm

/-- A figure that an update keeps stands in every channel, whichever is updated. -/
theorem modNib_keeps {β : Type} {g : NibChannel → β} {f : NibChannel → NibChannel} (h : ∀ x, g (f x) = g x)
    (c d : Fin 24) (s : State) : g (s.modNib d f).nib[c] = g s.nib[c] := by
  by_cases hSame : c = d
  · subst hSame
    rw [modNib_channel, h]
  · rw [modNib_otherChannel f s hSame]

@[simp] theorem enqueue_nib (q : Fin 5) (p : QPayload) (s : State) : (enqueue q p s).nib = s.nib := rfl
@[simp] theorem raise_nib (code a b : Nat) (s : State) : (raise code a b s).nib = s.nib := rfl
@[simp] theorem ledger_nib (kind cls unit spare left w cause : Nat) (s : State) :
    (ledger kind cls unit spare left w cause s).nib = s.nib := rfl

@[simp] theorem nibResult_nib (c : Fin 24) (flags n : Nat) (e : BitVec 8) (valid : Bool) (b : NibBody) (s : State) :
    (nibResult c flags n e valid b s).nib = s.nib :=
  (nibResult_core _ _ _ _ _ _ _).same .nib (by decide)

@[simp] theorem reportPair_nib (c : Fin 24) (p : NibPair) (timeout : Bool) (s : State) :
    (reportPair c p timeout s).nib = s.nib :=
  (reportPair_core _ _ _ _).same .nib (by decide)

/-- A channel whose STREAM asks for no results queues none (R241). -/
theorem nibResult_unstreamed {c : Fin 24} {s : State} (flags n : Nat) (e : BitVec 8) (valid : Bool) (b : NibBody)
    (h : s.nib[c].cfg.stream < 2) : nibResult c flags n e valid b s = s :=
  if_pos h

/-- Where pairing with a released STOP_CHANNEL ends, only the pairs are concerned (R247). -/
theorem endPairing_keeps {β : Type} {g : NibChannel → β} (h : ∀ x, g { x with pairs := [], ended := true } = g x)
    (c k : Fin 24) (s : State) : g (endPairing k s).nib[c] = g s.nib[c] := by
  refine forAll_keeps (fun t => g t.nib[c]) (fun d t => ?_) _ s
  have hReports : (forAll t.nib[d].pairs (fun p u => reportPair d p true u) t).nib = t.nib :=
    forAll_keeps State.nib (fun p u => reportPair_nib d p true u) _ t
  dsimp only
  rw [raise_nib, modNib_keeps h, hReports]

/-! ### The pool (R240) -/

theorem length_fins (n : Nat) : (fins n).length = n := List.length_ofFn

/-- The first index that has a property is the one below which none has it. -/
theorem find?_fins {n : Nat} {p : Fin n → Bool} {c : Fin n} (hHas : p c = true) (hLowest : ∀ d < c, ¬ p d = true) :
    (fins n).find? p = some c := by
  have hGet (j : Nat) (h : j < (fins n).length) : (fins n)[j] = ⟨j, length_fins n ▸ h⟩ :=
    List.getElem_ofFn h
  refine List.find?_eq_some_iff_getElem.mpr
    ⟨hHas, c.val, (length_fins n).symm ▸ c.isLt, hGet _ _, fun j hj => ?_⟩
  rw [hGet, Bool.not_eq_true']
  exact Bool.eq_false_iff.mpr (hLowest _ hj)

/-- A channel that the pool can give. -/
def inPool (s : State) (c : Fin 24) : Bool := decide (s.nib[c].owner = ownFree) && !s.nib[c].degraded

theorem inPool_iff {s : State} {c : Fin 24} :
    inPool s c = true ↔ s.nib[c].owner = ownFree ∧ s.nib[c].degraded = false := by
  simp [inPool]

theorem not_inPool {s : State} {c : Fin 24} (h : s.nib[c].owner ≠ ownFree ∨ s.nib[c].degraded = true) :
    ¬ inPool s c = true := by
  intro hIn
  obtain ⟨hFree, hSound⟩ := inPool_iff.mp hIn
  rcases h with hOwned | hDegraded
  · exact hOwned hFree
  · exact Bool.false_ne_true (hSound.symm.trans hDegraded)

/-- A channel as its owner takes it: armed, and with its gate open for a frequency monitor. -/
def takenBy (owner index source edge : Nat) (c : Fin 24) (x : NibChannel) : NibChannel :=
  { armed { x with owner := owner, index := index, cfg := { source := source, edge := edge, stop := c.val } } 0 with
    gateOpen := decide (owner = ownReference) || decide (owner = ownXo) }

theorem takeChannel_lowest (owner index source edge : Nat) {s : State} {c : Fin 24} (hIn : inPool s c = true)
    (hLowest : ∀ d < c, ¬ inPool s d = true) :
    takeChannel owner index source edge s = some (c, s.modNib c (takenBy owner index source edge c)) := by
  have hFind : (fins 24).find? (inPool s) = some c := find?_fins hIn hLowest
  unfold inPool at hFind
  rw [takeChannel, hFind]
  rfl

theorem takeChannel_none (owner index source edge : Nat) {s : State} (h : ∀ d, ¬ inPool s d = true) :
    takeChannel owner index source edge s = none := by
  have hFind : (fins 24).find? (inPool s) = none := List.find?_eq_none.mpr fun d _ => h d
  unfold inPool at hFind
  rw [takeChannel, hFind]

/-! ### channel-allocate, channel-release and channel-status (R240; 15 R427) -/

section
variable {s : State} {r : Req}

theorem execChannelAllocate_takes {c : Fin 24} {u : State} (h : Asks 0x0A01 0 r s)
    (hTaken : takeChannel ownHost 0 0xFF 0 s = some (c, u)) :
    execChannelAllocate r s = .next (finish r.src stOk (le 1 c.val) u) := by
  obtain ⟨hLen, p, hReady⟩ := h
  refine (runCommand_ready hReady (decide_eq_true hLen)).trans ?_
  rw [hTaken]
  rfl

theorem execChannelAllocate_noSpace (h : Asks 0x0A01 0 r s) (hNone : takeChannel ownHost 0 0xFF 0 s = none) :
    execChannelAllocate r s = .next (finish r.src eNoSpace [] s) := by
  obtain ⟨hLen, p, hReady⟩ := h
  refine (runCommand_ready hReady (decide_eq_true hLen)).trans ?_
  rw [hNone]
  rfl

theorem execChannelRelease_host {c : Fin 24} (h : Asks 0x0A02 1 r s) (hOwner : s.nib[c].owner = ownHost) :
    execChannelRelease r c s = .next (finish r.src stOk [] (releaseChannel c s)) := by
  refine runSimple_ok h ?_
  rw [asFin_val]
  exact need_true (decide_eq_true hOwner)

theorem execChannelRelease_otherOwner {c : Fin 24} (h : Asks 0x0A02 1 r s) (hOwner : s.nib[c].owner ≠ ownHost) :
    execChannelRelease r c s = .next (finish r.src eState [] s) := by
  refine runSimple_error h ?_
  rw [asFin_val]
  exact need_false (decide_eq_false hOwner)

theorem execChannelStatus_records {a n : Nat} (h : Asks 0x0A10 2 r s) (hSome : 1 ≤ n) (hRange : a + n ≤ 24) :
    execChannelStatus r a n s = .next (finish r.src stOk
      (((fins 24).filter fun c => decide (a ≤ c.val) && decide (c.val < a + n)).flatMap (nibRecord s)) s) := by
  obtain ⟨hLen, p, hReady⟩ := h
  refine runRead_ok hReady (decide_eq_true hLen) (if_pos ?_)
  rw [within_of_le hSome (by omega), decide_eq_true hRange, Bool.and_self]

end

/-- A released channel's figures, but for the pairs that end with it. -/
theorem releaseChannel_keeps {β : Type} {g : NibChannel → β}
    (h : ∀ x, g { x with pairs := [], ended := true } = g x) (c : Fin 24) (s : State) : g (releaseChannel c s).nib[c] =
      g (armed { s.nib[c] with owner := if s.nib[c].degraded then ownRetired else ownFree, index := 0,
                               cfg := { stop := c.val } } 0) := by
  rw [releaseChannel, endPairing_keeps h, modNib_channel]

theorem length_nibRecord (s : State) (c : Fin 24) : (nibRecord s c).length = 32 := by
  simp only [nibRecord, List.length_append, length_le]

end Sys2Proof.Machine
end

section
/-! PROOF of O29 (08 R240; 15 R427). -/

namespace Sys2Proof.Machine

/-- Settles O29: each clause is the law of its command above. -/
theorem nibChannelsAreAllocatedAndReleased : Obligations.NibChannelsAreAllocatedAndReleased := by
  refine ⟨fun s r c hAsks hFree hSound hLowest =>
      ⟨_, execChannelAllocate_takes hAsks (takeChannel_lowest _ _ _ _ (inPool_iff.mpr ⟨hFree, hSound⟩)
        fun d hd => not_inPool (hLowest d hd)), ?taken⟩,
    fun s r hAsks hNone => execChannelAllocate_noSpace hAsks (takeChannel_none _ _ _ _ fun d => not_inPool (hNone d)),
    fun s r c hAsks hOwner => ⟨_, execChannelRelease_host hAsks hOwner, releaseChannel_keeps (fun _ => rfl) c s,
      releaseChannel_keeps (g := fun x => x.cfg.mode) (fun _ => rfl) c s,
      releaseChannel_keeps (g := NibChannel.ordinal) (fun _ => rfl) c s⟩,
    fun s r c hAsks hOwner => execChannelRelease_otherOwner hAsks hOwner,
    fun s r a n hAsks hSome hRange => execChannelStatus_records hAsks hSome hRange,
    length_nibRecord⟩
  case taken =>
    rw [modNib_channel]
    exact ⟨rfl, rfl, rfl, fun d hd => modNib_otherChannel _ s hd, rfl⟩

end Sys2Proof.Machine
end

section
/-! SUPPORT. Edges, lines, pairs and gates of Nib channels (08 R232 to R237, R242 to R249): what each stage of an edge
leaves of the figures that the edge has set, and each row of the lines and gates by its cases. -/

namespace Sys2Proof.Machine

/-! ### The stages of an edge (R242 to R248) -/

/-- What an edge sets in its channel. -/
structure EdgeFigures where
  ordinal : BitVec 64
  lastEdge : Option Nat
  deadTime : BitVec 32
  overflow : BitVec 32
  gap : Bool

def NibChannel.edgeFigures (x : NibChannel) : EdgeFigures := ⟨x.ordinal, x.lastEdge, x.deadTime, x.overflow, x.gap⟩

section
variable (c : Fin 24) (s : State)

theorem modNib_edgeFigures (d : Fin 24) {f : NibChannel → NibChannel} (h : ∀ x, (f x).edgeFigures = x.edgeFigures) :
    (s.modNib d f).nib[c].edgeFigures = s.nib[c].edgeFigures :=
  modNib_keeps h c d s

/-- A pair is reported when it is whole, and waits otherwise. -/
theorem settlePair_edgeFigures (d : Fin 24) (p : NibPair) (rest : List NibPair) (whole : Bool) :
    (if whole then reportPair d p false (s.modNib d fun x => { x with pairs := rest })
      else s.modNib d fun x => { x with pairs := rest ++ [p] }).nib[c].edgeFigures = s.nib[c].edgeFigures := by
  cases whole with
  | false => exact modNib_edgeFigures c s d fun _ => rfl
  | true =>
    rw [if_pos rfl, reportPair_nib]
    exact modNib_edgeFigures c s d fun _ => rfl

theorem pairEdge_edgeFigures (d : Fin 24) (isStart : Bool) (n : Nat) (t : Option Nat) :
    (pairEdge d isStart n t s).nib[c].edgeFigures = s.nib[c].edgeFigures := by
  unfold pairEdge
  dsimp only
  split
  case isTrue => rfl
  case isFalse =>
    split
    case isTrue => exact modNib_edgeFigures c s d fun _ => rfl
    case isFalse => exact settlePair_edgeFigures c s d _ _ _

theorem pairStops_edgeFigures (l : List (Fin 24)) (m : Fin 24 → State → Nat) (t : Option Nat) :
    (forAll l (fun d u => pairEdge d false (m d u) t u) s).nib[c].edgeFigures = s.nib[c].edgeFigures :=
  forAll_keeps (fun u => u.nib[c].edgeFigures) (fun d u => pairEdge_edgeFigures c u d false (m d u) t) l s

theorem pairEdges_edgeFigures (d : Fin 24) (n : Nat) (t : Option Nat) :
    (pairEdges d n false t s).nib[c].edgeFigures = s.nib[c].edgeFigures := by
  refine (pairStops_edgeFigures c _ _ _ t).trans ?_
  split
  case isTrue =>
    split
    case isTrue => exact pairEdge_edgeFigures c s d _ n t
    case isFalse => exact pairEdge_edgeFigures c s d _ n t
  case isFalse => rfl

theorem gateEdge_edgeFigures (d : Fin 24) (n : Nat) (t : Option Nat) :
    (gateEdge d n t s).nib[c].edgeFigures = s.nib[c].edgeFigures :=
  modNib_edgeFigures c s d fun _ => by split <;> rfl

theorem streamStamp_edgeFigures (d : Fin 24) (n : Nat) (falling : Bool) (v : Nat) :
    (streamStamp d n falling v s).nib[c].edgeFigures = s.nib[c].edgeFigures := by
  unfold streamStamp
  dsimp only
  split
  case isTrue =>
    generalize (if s.host.nibRate.1 = s.clock.ticks.toNat / 1000 then s.host.nibRate.2 else 0) = queued
    split
    case isTrue => exact modNib_edgeFigures c s d fun _ => rfl
    case isFalse => rfl
  case isFalse => rfl

end

/-- A rising edge at the line: it takes its ordinal, and is counted where it is lost. -/
def countEdge (c : Fin 24) (sub : Nat) (s : State) : State :=
  let pos := edgePos s sub
  let fate := edgeFate s.nib[c] pos
  let held := bufferedAt s.nib[c] pos
  s.modNib c fun x =>
    { x with ordinal := x.ordinal + 1, lastEdge := some pos,
             buffered := if fate = .stamped then held + 1 else held,
             deadTime := if fate = .dead then x.deadTime + 1 else x.deadTime,
             overflow := if fate = .full then x.overflow + 1 else x.overflow }

/-- The stamp that the edge of `s` is given, none where it is lost. -/
def edgeStamp (c : Fin 24) (sub : Nat) (s : State) : Option Nat :=
  if edgeFate s.nib[c] (edgePos s sub) = .stamped then some (nibStamp (countEdge c sub s) c sub) else none

/-- A stamp is streamed; a lost edge leaves a gap before the next. -/
def deliverEdge (c : Fin 24) (n : Nat) (t : Option Nat) (s : State) : State := match t with
  | some v => (streamStamp c n false v s).modNib c fun x => { x with gap := false }
  | none => s.modNib c fun x => { x with gap := true }

theorem deliverEdge_edgeFigures (c : Fin 24) (n : Nat) (t : Option Nat) (s : State) :
    (deliverEdge c n t s).nib[c].edgeFigures = { s.nib[c].edgeFigures with gap := t.isNone } := by
  cases t with
  | none => rw [deliverEdge, modNib_channel]; rfl
  | some v =>
    rw [← streamStamp_edgeFigures c s c n false v, deliverEdge, modNib_channel]
    rfl

/-- A reference whose monitor the edge serves hears of it. -/
def monitorEdge (x : NibChannel) (t : Option Nat) (s : State) : State :=
  if t.isSome ∧ gateMonitor x then
    match asFin 20 x.index with
    | some i => refArrival i (if liveLocked x then takePulse i (t.getD 0) s else s)
    | none => s
  else s

theorem monitorEdge_nib (x : NibChannel) (t : Option Nat) (s : State) : (monitorEdge x t s).nib = s.nib := by
  have hPulse (i : Fin 20) : (if liveLocked x then takePulse i (t.getD 0) s else s).nib = s.nib := by
    split
    case isTrue => exact (takePulse_core _ _ _).same .nib (by decide)
    case isFalse => rfl
  unfold monitorEdge
  split
  case isTrue =>
    split
    case h_1 i _ => exact ((refArrival_core i _).same .nib (by decide)).trans (hPulse i)
    case h_2 => rfl
  case isFalse => rfl

section
variable {s : State} {c : Fin 24}

theorem seesEdge_rising {x : NibChannel} (h : x.cfg.edge ≠ 1) : seesEdge x false = true := by
  unfold seesEdge
  split
  case h_2 hFalling => exact absurd hFalling h
  all_goals rfl

theorem execNibEdge_unseen (falling : Bool) (sub : Nat) (h : s.clock.form = .stopped ∨ s.nib[c].owner = ownFree) :
    execNibEdge c falling sub s = .next s := by
  refine if_pos ?_
  rcases h with hStopped | hFree
  · exact .inl (by rw [clockRuns, hStopped]; rfl)
  · exact .inr (.inl hFree)

/-- A lost edge is one more on the counter of its loss. -/
theorem countedIf_eq_add {p : Prop} [Decidable p] (n : BitVec 32) :
    (if p then n + 1 else n) = n + if p then 1 else 0 := by
  split <;> simp

theorem isNone_edgeStamp (sub : Nat) :
    (edgeStamp c sub s).isNone = decide (edgeFate s.nib[c] (edgePos s sub) ≠ .stamped) := by
  by_cases hStamped : edgeFate s.nib[c] (edgePos s sub) = .stamped
  · rw [edgeStamp, if_pos hStamped, decide_eq_false (not_not_intro hStamped)]
    rfl
  · rw [edgeStamp, if_neg hStamped, decide_eq_true hStamped]
    rfl

section
variable (sub : Nat) (hRuns : s.clock.form ≠ .stopped) (hOwned : s.nib[c].owner ≠ ownFree)
  (hServes : s.nib[c].owner ≠ ownRetired) (hSource : s.nib[c].cfg.source ≠ 0xFF)
  (hEdge : s.nib[c].cfg.edge ≠ 1)
include hRuns hOwned hServes hSource hEdge

theorem execNibEdge_rising :
    execNibEdge c false sub s = .next (monitorEdge s.nib[c] (edgeStamp c sub s)
      (gateEdge c s.nib[c].ordinal.toNat (edgeStamp c sub s)
        (pairEdges c s.nib[c].ordinal.toNat false (edgeStamp c sub s)
          (deliverEdge c s.nib[c].ordinal.toNat (edgeStamp c sub s) (countEdge c sub s))))) := by
  have hSeen : ¬ ((!clockRuns s) = true ∨ s.nib[c].owner = ownFree ∨ s.nib[c].owner = ownRetired ∨
      s.nib[c].cfg.source = 0xFF ∨ (!seesEdge s.nib[c] false) = true) := by
    rw [clockRuns, decide_eq_true hRuns, seesEdge_rising hEdge]
    simp only [Bool.not_true, Bool.false_eq_true, false_or, or_false, not_or]
    exact ⟨hOwned, hServes, hSource⟩
  rw [execNibEdge, if_neg hSeen, monitorEdge, apply_ite Host.Outcome.next]
  refine ite_congr rfl (fun _ => ?_) fun _ => rfl
  cases asFin 20 s.nib[c].index <;> rfl

/-- What an edge that the channel sees has set when all that it serves has been served. -/
theorem execNibEdge_figures :
    ∃ t, execNibEdge c false sub s = .next t ∧ t.nib[c].edgeFigures =
      { ordinal := s.nib[c].ordinal + 1
        lastEdge := some (edgePos s sub)
        deadTime := s.nib[c].deadTime + if edgeFate s.nib[c] (edgePos s sub) = .dead then 1 else 0
        overflow := s.nib[c].overflow + if edgeFate s.nib[c] (edgePos s sub) = .full then 1 else 0
        gap := decide (edgeFate s.nib[c] (edgePos s sub) ≠ .stamped) } := by
  refine ⟨_, execNibEdge_rising sub hRuns hOwned hServes hSource hEdge, ?_⟩
  rw [monitorEdge_nib, gateEdge_edgeFigures, pairEdges_edgeFigures, deliverEdge_edgeFigures, isNone_edgeStamp,
    countEdge, modNib_channel, ← countedIf_eq_add, ← countedIf_eq_add]
  rfl

end

end

/-! ### Lines (R232, R234, R236, R237) -/

section
variable {s : State} {c : Fin 24}

/-- The tenth update outside the condition unlocks line A. -/
theorem execNibLockUpdate_tenth (h : s.nib[c].failA = 9) : execNibLockUpdate c false false false s =
    .next (s.modNib c fun x => { x with failA := min 10 (x.failA + 1), lockedA := false }) := by
  refine congrArg Host.Outcome.next (congrArg (fun v => { s with nib := v }) (upd_congr _ _ ?_))
  rw [h]
  rfl

/-- An update within the condition locks line B. -/
theorem execNibLockUpdate_held : execNibLockUpdate c true true false s =
    .next (s.modNib c fun x => { x with failB := 0, lockedB := true }) := rfl

/-- A tap worn on a line with no spare left: the channel goes on with its other line (R237). -/
theorem retireTap_noSpare {lineB : Bool} (tap : Nat) (h : lineSpares s.nib[c] lineB = 0) :
    (retireTap c lineB tap s).nib[c] =
      { s.nib[c] with degraded := true, frozenCal := true,
                      goneA := s.nib[c].goneA || !lineB, goneB := s.nib[c].goneB || lineB,
                      owner := if s.nib[c].owner = ownFree then ownRetired else s.nib[c].owner } := by
  rw [retireTap, if_pos h, raise_nib, ledger_nib, modNib_channel]

/-- A worn tap is bypassed and the line's next spare comes into use (R236). -/
theorem retireTap_spare {lineB : Bool} (tap : Nat) (h : lineSpares s.nib[c] lineB ≠ 0) :
    (retireTap c lineB tap s).nib[c] =
      { s.nib[c] with sparesA := if lineB then s.nib[c].sparesA else s.nib[c].sparesA - 1,
                      sparesB := if lineB then s.nib[c].sparesB - 1 else s.nib[c].sparesB,
                      bypassed := s.nib[c].bypassed ++ [(lineB, tap)] } := by
  rw [retireTap, if_neg h, raise_nib, ledger_nib, modNib_channel]

section
variable (hRuns : s.clock.form ≠ .stopped) (hSound : s.nib[c].degraded = false) (hQuiet : s.nib[c].lastEdge = none)
include hRuns hSound hQuiet

theorem execNibLineSwap_completes :
    execNibLineSwap c none s = .next (s.modNib c fun x => { x with liveB := !x.liveB }) := by
  rw [execNibLineSwap, clockRuns, decide_eq_true hRuns, hSound, hQuiet]
  rfl

/-- A tap found worn on the SHADOW line is retired before the swap. -/
theorem execNibLineSwap_shadow {lineB : Bool} (tap : Nat) (hShadow : lineB ≠ s.nib[c].liveB) :
    execNibLineSwap c (some (tap, lineB)) s = .next (retireTap c lineB tap s) := by
  rw [execNibLineSwap, clockRuns, decide_eq_true hRuns, hSound, hQuiet]
  exact if_neg hShadow

end

/-! ### Ends of pairs and gates (R247, R249) -/

theorem execNibPairTimeout_oldest {p : NibPair} {ps : List NibPair} (h : s.nib[c].pairs = p :: ps) :
    execNibPairTimeout c s = .next (reportPair c p true (s.modNib c fun x =>
      { x with pairs := ps, reported := x.reported ++ [p.n] })) := by
  rw [execNibPairTimeout, h]

/-- The next gate begins with nothing in it. -/
def beginGate (c : Fin 24) (s : State) : State :=
  s.modNib c fun x => { x with gateOpen := true, gateStamps := [], gateFirst := 0, gateEdges := 0,
                               gateStep := false, gateLost := false, gateUnlocked := false }

/-- A gate that was open is queued as a result; the next begins either way. -/
theorem execNibGateEnd_begins (hRuns : s.clock.form ≠ .stopped) (hOwner : s.nib[c].owner = ownHost)
    (hMode : s.nib[c].cfg.mode = 2) : ∃ u, execNibGateEnd c s = .next (beginGate c u) ∧ u.nib = s.nib ∧
      (s.nib[c].gateOpen = false ∨ s.nib[c].cfg.stream < 2 → u = s) := by
  have hServed : ¬ (s.nib[c].owner ≠ ownHost ∨ s.nib[c].cfg.mode ≠ 2 ∨ (!clockRuns s) = true) := by
    rw [hOwner, hMode, clockRuns, decide_eq_true hRuns]
    decide
  rw [execNibGateEnd, if_neg hServed]
  cases hOpen : s.nib[c].gateOpen with
  | false => exact ⟨s, rfl, rfl, fun _ => rfl⟩
  | true =>
    exact ⟨_, rfl, nibResult_nib _ _ _ _ _ _ _,
      fun h => nibResult_unstreamed _ _ _ _ _ (h.resolve_left (by decide))⟩

end

end Sys2Proof.Machine
end

section
/-! PROOF of O30 (08 R232, R234, R236, R237, R242, R243, R247, R249). -/

namespace Sys2Proof.Machine

/-- Settles O30: each clause is the law of its row above. -/
theorem nibEdgesAndLinesFollowTheirRules : Obligations.NibEdgesAndLinesFollowTheirRules := by
  refine ⟨fun s c sub hRuns hOwned hServes hSource hEdge => ?edge,
    fun s c f sub h => execNibEdge_unseen f sub h,
    fun s c h => ⟨_, execNibLockUpdate_tenth h, ?unlocks⟩,
    fun s c => ⟨_, execNibLockUpdate_held, ?locks⟩,
    fun s c hRuns hSound hQuiet => execNibLineSwap_completes hRuns hSound hQuiet,
    fun s c tap hRuns hSound hQuiet hLive hSpares => ?degrades,
    fun s c tap n hRuns hSound hQuiet hLive hSpares => ?bypasses,
    fun s c p ps h => execNibPairTimeout_oldest h,
    fun s c hRuns hOwner hMode => ?gate⟩
  case edge =>
    obtain ⟨t, hRow, hFigures⟩ := execNibEdge_figures sub hRuns hOwned hServes hSource hEdge
    exact ⟨t, hRow, congrArg EdgeFigures.ordinal hFigures, congrArg EdgeFigures.lastEdge hFigures,
      congrArg EdgeFigures.deadTime hFigures, congrArg EdgeFigures.overflow hFigures,
      congrArg EdgeFigures.gap hFigures⟩
  case unlocks =>
    rw [modNib_channel]
    exact ⟨rfl, rfl⟩
  case locks =>
    rw [modNib_channel]
    exact ⟨rfl, rfl, rfl⟩
  case degrades =>
    refine ⟨_, execNibLineSwap_shadow hRuns hSound hQuiet tap (by rw [hLive]; decide), ?_⟩
    rw [retireTap_noSpare tap (lineB := true) hSpares]
    exact ⟨rfl, Bool.or_true _, hLive⟩
  case bypasses =>
    have hSpare : lineSpares s.nib[c] true ≠ 0 := by
      rw [lineSpares, if_pos rfl, hSpares]
      exact Nat.succ_ne_zero n
    refine ⟨_, execNibLineSwap_shadow hRuns hSound hQuiet tap (by rw [hLive]; decide), ?_⟩
    rw [retireTap_spare tap hSpare]
    exact ⟨hSound, Nat.sub_eq_of_eq_add hSpares, rfl⟩
  case gate =>
    obtain ⟨u, hRow, hNib, hUnqueued⟩ := execNibGateEnd_begins hRuns hOwner hMode
    refine ⟨_, hRow, ?_⟩
    rw [beginGate, modNib_channel, hNib]
    exact ⟨rfl, rfl, rfl, rfl, rfl, fun h => (congrArg State.host (hUnqueued h) :)⟩

end Sys2Proof.Machine
end

section
/-! SUPPORT. Ethernet ports (09 R251 to R263; 15 R422): what the shared operations leave in the record of a MAC, and
what each command and each row of the link does to it. -/

namespace Sys2Proof.Machine

/-! ### One MAC's record -/

theorem modMac_mac (m : Fin 16) (f : Mac → Mac) (s : State) : (s.modMac m f).net.macs[m] = f s.net.macs[m] :=
  get_upd_same _ _ _

theorem modMac_otherMac {m n : Fin 16} (f : Mac → Mac) (s : State) (h : n ≠ m) :
    (s.modMac m f).net.macs[n] = s.net.macs[n] :=
  get_upd_of_ne _ _ h.symm

/-- A figure that an update keeps stands in every MAC, whichever is updated. -/
theorem modMac_keeps {β : Type} {g : Mac → β} {f : Mac → Mac} (h : ∀ x, g (f x) = g x) (m n : Fin 16)
    (s : State) : g (s.modMac m f).net.macs[n] = g s.net.macs[n] := by
  by_cases hSame : n = m
  · subst hSame
    rw [modMac_mac, h]
  · rw [modMac_otherMac f s hSame]

theorem modMac_net_congr (m : Fin 16) (f : Mac → Mac) {s t : State} (h : s.net = t.net) :
    (s.modMac m f).net = (t.modMac m f).net := by
  rw [modMac_net, modMac_net, h]

theorem modMac_modMac_net (m : Fin 16) (f g : Mac → Mac) (s : State) :
    ((s.modMac m f).modMac m g).net = (s.modMac m fun x => g (f x)).net := by
  rw [modMac_net, modMac_net, modMac_net, upd_upd]

/-! ### Counters (R261, R271) -/

theorem countMac_counters (m : Fin 16) (k : Fin 18) (s : State) :
    (countMac m k s).net.macs[m].counters = upd s.net.macs[m].counters k fun n => (n + 1) % 2 ^ 64 := by
  rw [countMac, modMac_mac]

theorem countMac_otherMac {m n : Fin 16} (k : Fin 18) (s : State) (h : n ≠ m) :
    (countMac m k s).net.macs[n] = s.net.macs[n] :=
  modMac_otherMac _ s h

/-! ### Modes, lists and status (R251, R252, R262, R263; 15 R422) -/

/-- A MAC that a mode uses with some pairs split, it uses where all are. -/
theorem macPresentIn_allSplit {split : Fin 16 → Bool} {m : Fin 16} :
    ∀ {mode : Nat}, macPresentIn mode split m = true → macPresentIn mode (fun _ => true) m = true
  | 0, h | 1, h | 3, h | _ + 4, h => h
  | 2, h => by
    obtain ⟨hLow, -⟩ := (Bool.and_eq_true _ _).mp h
    rw [macPresentIn, Bool.or_true, hLow, Bool.and_self]

theorem applyMode_mac (mode : Nat) (s : State) (m : Fin 16) :
    (applyMode mode s).net.macs[m] = if macPresentIn mode (fun _ => true) m then
      { s.net.macs[m] with cfg := modeDefaults mode m s.net.macs[m].cfg } else s.net.macs[m] :=
  get_vmap _ _ _ _

theorem applyMode_macState (mode : Nat) (s : State) (m : Fin 16) :
    (applyMode mode s).net.macs[m].state = s.net.macs[m].state := by
  rw [applyMode_mac]
  split <;> rfl

/-- The MACs of the new mode hold its defaults. -/
theorem applyMode_cfg {mode : Nat} {s : State} {m : Fin 16} (h : macPresent (applyMode mode s) m = true) :
    (applyMode mode s).net.macs[m].cfg = modeDefaults mode m s.net.macs[m].cfg := by
  have hUsed : macPresentIn mode (fun _ => true) m = true := macPresentIn_allSplit h
  rw [applyMode_mac, if_pos hUsed]

section
variable {s : State} {r : Req}

theorem allOff_iff : ((fins 16).all fun m => decide (s.net.macs[m].state = .off)) = true ↔
    ∀ m : Fin 16, s.net.macs[m].state = .off := by
  simp only [fins, List.all_eq_true, List.mem_ofFn, id, exists_eq, forall_const, decide_eq_true_eq]

theorem execPortMode_applies {mode : Nat} (h : Asks 0x0501 1 r s) (hMode : mode ≤ 4)
    (hOff : ∀ m : Fin 16, s.net.macs[m].state = .off) :
    execPortMode r mode s = .next (finish r.src stOk [] (applyMode mode s)) :=
  runSimple_ok h ((need_true (decide_eq_true hMode)).trans (need_true (allOff_iff.mpr hOff)))

theorem execPortMode_range {mode : Nat} (h : Asks 0x0501 1 r s) (hMode : 4 < mode) :
    execPortMode r mode s = .next (finish r.src eRange [] s) :=
  runSimple_error h (need_false (decide_eq_false (Nat.not_le.mpr hMode)))

theorem execPortMode_state {mode : Nat} {m : Fin 16} (h : Asks 0x0501 1 r s) (hMode : mode ≤ 4)
    (hOn : s.net.macs[m].state ≠ .off) : execPortMode r mode s = .next (finish r.src eState [] s) :=
  runSimple_error h ((need_true (decide_eq_true hMode)).trans
    (need_false (Bool.eq_false_iff.mpr fun hAll => hOn (allOff_iff.mp hAll m))))

theorem execVlanList_replaces {n : Nat} {m : Fin 16} {l : List VlanEntry} (h : Asks 0x0503 (8 + 4 * l.length) r s)
    (hMac : macIndex s n = some m) (hLength : l.length ≤ 64)
    (hVids : ∀ e ∈ l, e.outer < 4096 ∧ e.inner.getD 0 < 4096) :
    execVlanList r n l s = .next (finish r.src stOk [] (s.modMac m fun c => { c with vlans := l })) := by
  refine runSimple_ok h ?_
  rw [hMac]
  refine need_true ?_
  rw [decide_eq_true hLength, Bool.true_and, List.all_eq_true]
  intro e he
  obtain ⟨hOuter, hInner⟩ := hVids e he
  rw [decide_eq_true hOuter, decide_eq_true hInner, Bool.and_self]

theorem execVlanList_noMac {n : Nat} {l : List VlanEntry} (h : Asks 0x0503 (8 + 4 * l.length) r s)
    (hMac : macIndex s n = none) : execVlanList r n l s = .next (finish r.src eRange [] s) :=
  runSimple_error h (by rw [hMac])

theorem execSteeringTable_replaces {l : List SteerRule} (h : Asks 0x0504 (8 + 16 * l.length) r s)
    (hLength : l.length ≤ 64) (hRules : l.all steerOk = true) :
    execSteeringTable r l s = .next (finish r.src stOk [] (s.modNet fun n => { n with steering := l })) :=
  runSimple_ok h (need_true (by rw [decide_eq_true hLength, hRules, Bool.and_self]))

theorem execSteeringTable_range {l : List SteerRule} (h : Asks 0x0504 (8 + 16 * l.length) r s)
    (hBad : 64 < l.length ∨ l.all steerOk = false) :
    execSteeringTable r l s = .next (finish r.src eRange [] s) := by
  refine runSimple_error h (need_false ?_)
  rcases hBad with hLong | hRule
  · rw [decide_eq_false (Nat.not_le.mpr hLong), Bool.false_and]
  · rw [hRule, Bool.and_false]

/-- A read whose rules refuse it is answered with their status. -/
theorem runRead_error {op len e : Nat} {body : State → Except Nat Bytes} (h : Asks op len r s)
    (k : body s = .error e) : runRead op (r.len = len) r body s = .next (finish r.src e [] s) := by
  obtain ⟨hLen, p, hReady⟩ := h
  refine (runCommand_ready hReady (decide_eq_true hLen)).trans ?_
  rw [k]
  rfl

theorem execPortStatus_noMac {n : Nat} (h : Asks 0x0510 1 r s) (hMac : macIndex s n = none) :
    execPortStatus r n s = .next (finish r.src eRange [] s) :=
  runRead_error h (by rw [hMac])

/-- The body of port-status: a header of 8 octets and 8 for each counter. -/
theorem execPortStatus_body {n : Nat} {m : Fin 16} (h : Asks 0x0510 1 r s) (hMac : macIndex s n = some m) :
    ∃ body, execPortStatus r n s = .next (finish r.src stOk body s) ∧ body.length = 152 ∧
      body.take 2 = le 1 (macCode s.net.macs[m].state) ++ le 1 s.net.macs[m].downReason ∧
      body.drop 8 = s.net.macs[m].counters.toList.flatMap (le 8) := by
  obtain ⟨hLen, p, hReady⟩ := h
  refine ⟨_, runRead_ok hReady (decide_eq_true hLen) (by rw [hMac]), ?_, ?_, ?_⟩
  · simp only [List.length_append, length_le, length_flatMap_of_length fun k _ => length_le 8 k, Vector.length_toList]
  · rw [List.append_assoc]
    exact List.take_left' (by simp only [List.length_append, length_le])
  · exact List.drop_left' (by simp only [List.length_append, length_le])

end

/-! ### The link comes up, and skew on it (R255, R258) -/

section
variable {s : State} {m : Fin 16}

theorem execLinkUp_comesUp (h : s.net.macs[m].state = .down) :
    execLinkUp m s = .next (raise 0x0501 m.val 0 ((freshNat s).2.modMac m fun c =>
      { c with state := .up, markers := some (freshNat s).1 })) :=
  if_pos h

theorem execLinkUp_notDown (h : s.net.macs[m].state ≠ .down) : execLinkUp m s = .next s :=
  if_neg h

theorem execLaneSkewChange_counted {lane : Nat} {skew : Int} (hUp : s.net.macs[m].state = .up) (hFirst : 0 < lane)
    (hLane : lane < lanesOf s m) (hSkew : (assoc s.net.macs[m].skew lane).getD 0 ≠ skew) :
    execLaneSkewChange m lane skew s = .next (raise 0x0503 (m.val + lane * 256) (toCode 64 skew)
      (countMac m cSkewChange (s.modMac m fun x => { x with skew := assocSet x.skew lane skew }))) :=
  if_pos ⟨hUp, hFirst, hLane, hSkew⟩

end

/-! ### The link goes down (R255, R256) -/

@[simp] theorem hostDrop_net (o : Origin) (m length committed outcome : Nat) (s : State) :
    (hostDrop o m length committed outcome s).net = s.net :=
  (hostDrop_core _ _ _ _ _ _).same .net (by decide)

theorem dropReservation_net (m : Fin 16) (r : Reservation) (outcome : Nat) (s : State) :
    (dropReservation m r outcome s).net =
      (s.modMac m fun c => { c with calendar := c.calendar.filter fun x => x.id ≠ r.id }).net :=
  hostDrop_net _ _ _ _ _ _

/-- With reservations dropped one after another, those of none of their names are left. -/
theorem dropReservations_net (m : Fin 16) (outcome : Nat) (l : List Reservation) (s : State) :
    (forAll l (fun r t => onlyIf false (countLate m) (dropReservation m r outcome t)) s).net =
      (s.modMac m fun c => { c with calendar := c.calendar.filter fun x => l.all fun r => x.id ≠ r.id }).net := by
  induction l generalizing s with
  | nil =>
    have hAll (c : List Reservation) : (c.filter fun x => [].all fun r : Reservation => x.id ≠ r.id) = c :=
      List.filter_eq_self.mpr fun _ _ => rfl
    simp only [hAll]
    rw [modMac_net, upd_eq_self _ _ rfl]
    rfl
  | cons r l ih =>
    refine (ih (dropReservation m r outcome s)).trans ?_
    rw [modMac_net_congr m _ (dropReservation_net m r outcome s), modMac_modMac_net]
    simp only [List.filter_filter, List.all_cons, Bool.and_comm]

theorem dropAllOf_net (m : Fin 16) (outcome : Nat) (s : State) :
    (dropAllOf m outcome false s).net = (s.modMac m fun c => { c with calendar := [] }).net := by
  rw [dropAllOf, dropReservations_net, modMac_net, modMac_net]
  refine congrArg (fun v => { s.net with macs := v }) (upd_congr _ _ ?_)
  have hNone : (s.net.macs[m].calendar.filter fun x => s.net.macs[m].calendar.all fun r => x.id ≠ r.id) = [] := by
    refine List.filter_eq_nil_iff.mpr fun x hx hAll => ?_
    exact of_decide_eq_true (List.all_eq_true.mp hAll x hx) rfl
  rw [hNone]

theorem cutTx_net (m : Fin 16) (outcome : Nat) (s : State) :
    (cutTx m outcome s).net = (s.modMac m fun c => { c with tx := none }).net := by
  unfold cutTx
  split <;> simp only [hostDrop_net]

/-- A queue from which every frame is gone at tick `now`. -/
def EgressQueue.emptied (now : Nat) (x : EgressQueue) : EgressQueue :=
  { x with frames := [], deficit := 0, emptyAt := if x.frames = [] then x.emptyAt else now }

theorem dropQueues_net (m : Fin 16) (outcome : Nat) (s : State) :
    (dropQueues m outcome s).net = (s.modMac m fun c =>
      { c with queues := vmap (fun _ => EgressQueue.emptied s.clock.ticks.toNat) c.queues }).net := by
  have hKept {β : Type} (g : State → β) (h : ∀ o m l c k t, g (hostDrop o m l c k t) = g t) :
      g (forAll (fins 32) (fun q t => forAll s.net.macs[m].queues[q].frames
        (fun f u => hostDrop f.origin m.val f.length 0 outcome u) t) s) = g s :=
    forAll_keeps g (fun q t => forAll_keeps g (fun f u => h _ _ _ _ _ u) _ t) _ s
  have hNet := hKept State.net hostDrop_net
  have hClock := hKept State.clock fun _ _ _ _ _ _ => (hostDrop_core _ _ _ _ _ _).same .clock (by decide)
  unfold dropQueues
  dsimp only
  rw [hClock]
  exact modMac_net_congr m _ hNet

/-- What a MAC holds when its link is lost: nothing to send, and the frames of services counted (R256). -/
def Mac.linkLost (now drops : Nat) (c : Mac) : Mac :=
  { c with counters := upd c.counters cLinkDrop fun k => (k + drops) % 2 ^ 64, calendar := [], tx := none,
           queues := vmap (fun _ => EgressQueue.emptied now) c.queues }

theorem loseLink_net (m : Fin 16) (s : State) : (loseLink m s).net =
    { s.net with
      macs := upd s.net.macs m (Mac.linkLost s.clock.ticks.toNat (linkDrops s m)),
      nts := { s.net.nts with requests := s.net.nts.requests.filter fun q => decide (q.frame.mac ≠ m) },
      ptp := { s.net.ptp with requests := s.net.ptp.requests.filter fun q => decide (q.frame.mac ≠ m) } } := by
  have hClock (t : State) : (cutTx m ocLinkDown (dropAllOf m ocLinkDown false t)).clock = t.clock :=
    ((cutTx_core _ _ _).same .clock (by decide)).trans ((dropAllOf_core _ _ _ _).same .clock (by decide))
  have hNet (t : State) : (cutTx m ocLinkDown (dropAllOf m ocLinkDown false t)).net =
      (t.modMac m fun c => { c with calendar := [], tx := none }).net := by
    rw [cutTx_net, modMac_net_congr m _ (dropAllOf_net m ocLinkDown t), modMac_modMac_net]
  unfold loseLink
  dsimp only
  rw [dropQueues_net, hClock, modMac_net_congr m _ (hNet _), modMac_modMac_net, modMac_net, modPtp_net, modNts_net]
  simp only [modMac_net, modMac_clock, modNts_clock, modPtp_clock, upd_upd]
  rfl

/-- The state in which the link of a MAC that leaves UP is lost: the event is raised, a fault is counted, and the MAC
stands in its new state (R255). -/
def leavingUp (m : Fin 16) (dest : MacState) (reason : Nat) (s : State) : State :=
  (onlyIf (decide (reason = 4)) (countMac m cLinkFault) (raise 0x0502 (m.val + reason * 256) 0 s)).modMac m fun c =>
    { c with state := dest, downReason := reason, lpi := .active, markers := none }

theorem leaveUp_eq (m : Fin 16) (dest : MacState) (reason : Nat) (s : State) :
    leaveUp m dest reason s = loseLink m (leavingUp m dest reason s) := by
  rw [leavingUp, onlyIf, ite_cond_congr (decide_eq_true_eq)]
  rfl

/-- A MAC that leaves UP has its new state and the reason, and nothing to send. -/
theorem leaveUp_mac (m : Fin 16) (dest : MacState) (reason : Nat) (s : State) :
    ∃ c : Mac, c.state = dest ∧ c.downReason = reason ∧
      (leaveUp m dest reason s).net.macs[m] = c.linkLost (leavingUp m dest reason s).clock.ticks.toNat
        (linkDrops (leavingUp m dest reason s) m) := by
  refine ⟨(leavingUp m dest reason s).net.macs[m], ?_, ?_, ?_⟩
  · rw [leavingUp, modMac_mac]
  · rw [leavingUp, modMac_mac]
  · rw [leaveUp_eq, loseLink_net, get_upd_same]

theorem linkLost_queue (now drops : Nat) (c : Mac) (q : Fin 32) : (c.linkLost now drops).queues[q].frames = [] :=
  congrArg EgressQueue.frames (get_vmap _ _ _ _)

theorem leaveUp_ntsRequests {m : Fin 16} {dest : MacState} {reason : Nat} {s : State} {q : NtsRequest}
    (h : q ∈ (leaveUp m dest reason s).net.nts.requests) : q.frame.mac ≠ m := by
  rw [leaveUp_eq, loseLink_net] at h
  exact of_decide_eq_true (List.mem_filter.mp h).2

theorem leaveUp_ptpRequests {m : Fin 16} {dest : MacState} {reason : Nat} {s : State} {q : PtpRequest}
    (h : q ∈ (leaveUp m dest reason s).net.ptp.requests) : q.frame.mac ≠ m := by
  rw [leaveUp_eq, loseLink_net] at h
  exact of_decide_eq_true (List.mem_filter.mp h).2

theorem execLinkDown_leaves {s : State} {m : Fin 16} {reason : Nat} (hUp : s.net.macs[m].state = .up)
    (hReason : reason ≤ 4) : execLinkDown m reason s = .next (leaveUp m .down reason s) :=
  if_pos ⟨hUp, hReason⟩

theorem execLinkDown_notUp {s : State} {m : Fin 16} (reason : Nat) (h : s.net.macs[m].state ≠ .up) :
    execLinkDown m reason s = .next s :=
  if_neg fun ⟨hUp, _⟩ => h hUp

end Sys2Proof.Machine
end

section
/-! PROOF of O47 (09 R251, R252, R255, R256, R258, R262, R263; 15 R422). -/

namespace Sys2Proof.Machine

/-- Settles O47: each clause is the law of its command or row above. -/
theorem portsFollowTheirLinkAndTables : Obligations.PortsFollowTheirLinkAndTables := by
  refine ⟨fun s r mode hAsks hMode hOff => ⟨_, execPortMode_applies hAsks hMode hOff, rfl,
      fun m => (applyMode_macState mode s m).trans (hOff m), fun m hUsed => ?defaults⟩,
    fun s r mode hAsks hMode => execPortMode_range hAsks hMode,
    fun s r mode m hAsks hMode hOn => execPortMode_state hAsks hMode hOn,
    fun s r m l hAsks hMac hLength hVids => execVlanList_replaces hAsks hMac hLength hVids,
    fun s r m l hAsks hMac => execVlanList_noMac hAsks hMac,
    fun s r l hAsks hLength hRules => execSteeringTable_replaces hAsks hLength hRules,
    fun s r l hAsks hBad => execSteeringTable_range hAsks hBad,
    fun s r m hAsks hMac => execPortStatus_body hAsks hMac,
    fun s r m hAsks hMac => execPortStatus_noMac hAsks hMac,
    fun s m hDown => execLinkUp_comesUp hDown,
    fun s m hOther => execLinkUp_notDown hOther,
    fun s m reason hUp hReason => ⟨_, execLinkDown_leaves hUp hReason, ?down⟩,
    fun s m reason hOther => execLinkDown_notUp reason hOther,
    fun s m lane skew hUp hFirst hLane hSkew => execLaneSkewChange_counted hUp hFirst hLane hSkew,
    fun s m k => ⟨?counted, fun j hOther => ?otherCounters, fun n hOther => countMac_otherMac k s hOther⟩⟩
  case defaults =>
    have hCfg := applyMode_cfg hUsed
    exact ⟨hCfg, congrArg MacCfg.split hCfg⟩
  case down =>
    obtain ⟨c, hState, hReasonHeld, hMac⟩ := leaveUp_mac m .down reason s
    rw [hMac]
    exact ⟨hState, hReasonHeld, rfl, rfl, fun q => leaveUp_ntsRequests, fun q => leaveUp_ptpRequests,
      linkLost_queue _ _ c⟩
  case counted => rw [countMac_counters, get_upd_same]
  case otherCounters => rw [countMac_counters, get_upd_of_ne _ _ hOther.symm]

end Sys2Proof.Machine
end

section
/-! SUPPORT. A received frame (09 R261 to R264, R266; 14 R396, R397): each check of R261 in its order, the rule that
steers a frame, and what its delivery to a ring leaves. -/

namespace Sys2Proof.Machine

/-! ### A dropped frame is counted (R261) -/

theorem flushLate_counters (m n : Fin 16) (s : State) :
    (flushLate m s).net.macs[n].counters = s.net.macs[n].counters := by
  rw [flushLate]
  by_cases hNone : s.net.macs[m].lateIn = (0, 0)
  · rw [if_pos hNone]
  · rw [if_neg hNone, raise_net]
    exact modMac_keeps (g := Mac.counters) (f := fun c => { c with lateIn := (0, 0) }) (fun _ => rfl) m n s

theorem flushSummaries_counters (n : Fin 16) (s : State) :
    (flushSummaries s).net.macs[n].counters = s.net.macs[n].counters := by
  have hRaised : (forAll s.host.summaries.masks (fun x => raise x.1 x.2.2 x.2.1) s).net = s.net :=
    forAll_keeps State.net (fun x t => raise_net _ _ _ t) s.host.summaries.masks s
  have hLate (t : State) : (forAll (fins 16) flushLate t).net.macs[n].counters = t.net.macs[n].counters :=
    forAll_keeps (fun u => u.net.macs[n].counters) (fun m u => flushLate_counters m n u) _ t
  rw [flushSummaries]
  dsimp only
  by_cases hSame : s.host.summaries.second = nowSec s
  · rw [if_pos hSame]
  · rw [if_neg hSame, modHost_net, hLate, hRaised]

theorem dropFrame_counters (m n : Fin 16) (k : Fin 13) (s : State) :
    (dropFrame m k s).net.macs[n].counters = (countMac m (k.castLE (by omega)) s).net.macs[n].counters :=
  flushSummaries_counters n _

/-! ### Checks 1 to 5 (R261) -/

section
variable {s : State} {f : Frame}

theorem execFrameReceived_notUp (h : s.net.macs[f.mac].state ≠ .up) : execFrameReceived f s = .next s :=
  if_pos h

section
variable (hUp : s.net.macs[f.mac].state = .up)
include hUp

theorem execFrameReceived_pcs (h : f.pcsError = true) :
    execFrameReceived f s = .next (dropFrame f.mac rPcs s) := by
  rw [execFrameReceived, if_neg (not_not_intro hUp), if_pos h]

variable (hPcs : f.pcsError = false)
include hPcs

theorem execFrameReceived_fcs (h : f.fcsOk = false) :
    execFrameReceived f s = .next (dropFrame f.mac rFcs s) := by
  rw [execFrameReceived, if_neg (not_not_intro hUp), if_neg (Bool.eq_false_iff.mp hPcs), if_pos (by rw [h]; rfl)]

variable (hFcs : f.fcsOk = true)
include hFcs

theorem execFrameReceived_runt (h : f.length < 64) :
    execFrameReceived f s = .next (dropFrame f.mac rRunt s) := by
  rw [execFrameReceived, if_neg (not_not_intro hUp), if_neg (Bool.eq_false_iff.mp hPcs), if_neg (by rw [hFcs]; decide),
    if_pos h]

variable (hMin : 64 ≤ f.length)
include hMin

theorem execFrameReceived_oversize (h : s.net.macs[f.mac].cfg.maxFrame < f.length) :
    execFrameReceived f s = .next (dropFrame f.mac rOversize s) := by
  rw [execFrameReceived, if_neg (not_not_intro hUp), if_neg (Bool.eq_false_iff.mp hPcs), if_neg (by rw [hFcs]; decide),
    if_neg (Nat.not_lt.mpr hMin), if_pos h]

variable (hMax : f.length ≤ s.net.macs[f.mac].cfg.maxFrame)
include hMax

theorem execFrameReceived_daMiss (h : daOk s.net.macs[f.mac].cfg f.da f.etherType = false) :
    execFrameReceived f s = .next (dropFrame f.mac rDaMiss s) := by
  rw [execFrameReceived, if_neg (not_not_intro hUp), if_neg (Bool.eq_false_iff.mp hPcs), if_neg (by rw [hFcs]; decide),
    if_neg (Nat.not_lt.mpr hMin), if_neg (Nat.not_lt.mpr hMax), if_pos (by rw [h]; rfl)]

end

end

/-! ### Checks 6 to 8 (R261, R262, R266) -/

/-- A frame that passes checks 1 to 5: it arrives whole at a MAC in UP, of a length within its bounds, and is addressed
to it. -/
structure Addressed (s : State) (f : Frame) : Prop where
  up : s.net.macs[f.mac].state = .up
  pcs : f.pcsError = false
  fcs : f.fcsOk = true
  min : 64 ≤ f.length
  max : f.length ≤ s.net.macs[f.mac].cfg.maxFrame
  da : daOk s.net.macs[f.mac].cfg f.da f.etherType = true

/-- What becomes of such a frame: a MAC control frame ends at check 6, the others are judged by their tags. -/
def execAddressed (f : Frame) (s : State) : Out :=
  if f.etherType = 0x8808 then .next (dropFrame f.mac rMacControl (takePause f.mac (asPause f) s))
  else if 2 < (realTags f).length then .next (dropFrame f.mac rTagExcess s)
  else match vlanEntry s.net.macs[f.mac] (realTags f) with
  | none => .next (dropFrame f.mac rVlanMiss s)
  | some entry => match serviceOf s f entry with
    | some (v, ip, u) => .next (rxService v f ip u s)
    | none => .next (rxHost f entry s)

section
variable {s : State} {f : Frame} (hAddressed : Addressed s f)
include hAddressed

theorem execFrameReceived_addressed : execFrameReceived f s = execAddressed f s := by
  obtain ⟨hUp, hPcs, hFcs, hMin, hMax, hDa⟩ := hAddressed
  rw [execFrameReceived, if_neg (not_not_intro hUp), if_neg (Bool.eq_false_iff.mp hPcs), if_neg (by rw [hFcs]; decide),
    if_neg (Nat.not_lt.mpr hMin), if_neg (Nat.not_lt.mpr hMax), if_neg (by rw [hDa]; decide)]
  rfl

theorem execFrameReceived_macControl (h : f.etherType = 0x8808) :
    execFrameReceived f s = .next (dropFrame f.mac rMacControl (takePause f.mac (asPause f) s)) := by
  rw [execFrameReceived_addressed hAddressed, execAddressed, if_pos h]

variable (hType : f.etherType ≠ 0x8808)
include hType

theorem execFrameReceived_tagExcess (h : 2 < (realTags f).length) :
    execFrameReceived f s = .next (dropFrame f.mac rTagExcess s) := by
  rw [execFrameReceived_addressed hAddressed, execAddressed, if_neg hType, if_pos h]

variable (hTags : (realTags f).length ≤ 2)
include hTags

theorem execFrameReceived_vlanMiss (h : vlanEntry s.net.macs[f.mac] (realTags f) = none) :
    execFrameReceived f s = .next (dropFrame f.mac rVlanMiss s) := by
  rw [execFrameReceived_addressed hAddressed, execAddressed, if_neg hType, if_neg (Nat.not_lt.mpr hTags), h]

variable {entry : Nat} (hEntry : vlanEntry s.net.macs[f.mac] (realTags f) = some entry)
include hEntry

theorem execFrameReceived_host (h : serviceOf s f entry = none) :
    execFrameReceived f s = .next (rxHost f entry s) := by
  rw [execFrameReceived_addressed hAddressed, execAddressed, if_neg hType, if_neg (Nat.not_lt.mpr hTags), hEntry]
  dsimp only
  rw [h]

theorem execFrameReceived_service {v : Service} {ip : IpHdr} {u : UdpHdr} (h : serviceOf s f entry = some (v, ip, u)) :
    execFrameReceived f s = .next (rxService v f ip u s) := by
  rw [execFrameReceived_addressed hAddressed, execAddressed, if_neg hType, if_neg (Nat.not_lt.mpr hTags), hEntry]
  dsimp only
  rw [h]

end

/-! ### Steering (R263) and the checks of a frame for the host (R261; 14 R397) -/

section
variable {s : State} {f : Frame} {entry : Nat}

theorem steer_default (h : ∀ x ∈ s.net.steering, steerMatch f entry x = false) :
    steer s f entry = (s.net.macs[f.mac].cfg.defaultRing, 0xFF) := by
  rw [steer, List.findIdx?_eq_none_iff.mpr h]

/-- The first rule that matches a frame names its ring. -/
theorem steer_first {k : Nat} {x : SteerRule} (hRule : s.net.steering[k]? = some x)
    (hMatch : steerMatch f entry x = true)
    (hFirst : ∀ j, j < k → ∀ y, s.net.steering[j]? = some y → steerMatch f entry y = false) :
    steer s f entry = (x.ring, k) := by
  obtain ⟨hIndex, hGet⟩ := List.getElem?_eq_some_iff.mp hRule
  have hFind : s.net.steering.findIdx? (steerMatch f entry) = some k :=
    List.findIdx?_eq_some_iff_getElem.mpr ⟨hIndex, by rw [hGet, hMatch], fun j hj =>
      Bool.eq_false_iff.mp (hFirst j hj _ (List.getElem?_eq_getElem (Nat.lt_trans hj hIndex)))⟩
  rw [steer, hFind]
  dsimp only
  rw [hRule]
  rfl

variable {ring rule : Nat} (hRoom : hostBufferFull s f.length = false) (hSteer : steer s f entry = (ring, rule))
include hRoom hSteer

theorem rxHost_noRule (h : 64 ≤ ring) : rxHost f entry s = dropFrame f.mac rNoRule s := by
  have hRing : asFin 64 ring = none := dif_neg (Nat.not_lt.mpr h)
  rw [rxHost, hSteer]
  dsimp only
  rw [if_neg (Bool.eq_false_iff.mp hRoom), hRing]

theorem rxHost_ringFull {r : Fin 64} (hRing : ring = r.val) (h : rxDescriptor s r = none) :
    rxHost f entry s = dropFrame f.mac rRingFull s := by
  rw [rxHost, hSteer]
  dsimp only
  rw [if_neg (Bool.eq_false_iff.mp hRoom), hRing, asFin_val]
  dsimp only
  rw [h]

theorem rxHost_delivers {r : Fin 64} {i : Nat} (hRing : ring = r.val) (h : rxDescriptor s r = some i) :
    rxHost f entry s = rxDeliver r i f rule s := by
  rw [rxHost, hSteer]
  dsimp only
  rw [if_neg (Bool.eq_false_iff.mp hRoom), hRing, asFin_val]
  dsimp only
  rw [h]

end

/-! ### Delivery to a ring (R264; 14 R396, R397) -/

theorem signalVector_rx (v : Fin 64) (s : State) : (signalVector v s).host.rx = s.host.rx := by
  unfold signalVector
  split <;> rfl

/-- The write-back of a frame for descriptor `i` of a receive ring. -/
def rxRecord (r : Fin 64) (i : Nat) (f : Frame) (rule : Nat) (s : State) : RxWriteBack :=
  let room := (Config.rxBufferSize r.val i s.host.freeCount).toNat
  { index := i, stamp := ingressStamp s f.mac (stampAt s f.sub),
    flags := stampFlags s true (portCalibrated s f.mac) false,
    epoch := s.clock.epoch, mac := f.mac.val, length := min (f.length - 4) room, csum := rxCsum f,
    truncated := decide (room < f.length - 4), rule := rule }

theorem rxRecord_stamp (r : Fin 64) (i : Nat) (f : Frame) (rule : Nat) (s : State) :
    (rxRecord r i f rule s).stamp = ingressStamp s f.mac (stampAt s f.sub) := by
  rw [rxRecord]

/-- The ring passes the descriptor, and its write-back stands last; a signal of its vector leaves the rings. -/
theorem rxDeliver_rx (r : Fin 64) (i : Nat) (f : Frame) (rule : Nat) (s : State) : (rxDeliver r i f rule s).host.rx =
    upd s.host.rx r fun k => { k with fetched := (i + 1) % 2 ^ s.host.rx[r].size,
                                      head := (i + 1) % 2 ^ s.host.rx[r].size,
                                      lastRx := some (rxRecord r i f rule s) } := by
  unfold rxDeliver
  dsimp only
  split
  case isFalse => rfl
  case isTrue =>
    split
    case h_1 => exact signalVector_rx _ _
    case h_2 => rfl

theorem rxDeliver_net (r : Fin 64) (i : Nat) (f : Frame) (rule : Nat) (s : State) :
    (rxDeliver r i f rule s).net = s.net :=
  (rxDeliver_core _ _ _ _ _).same .net (by decide)

end Sys2Proof.Machine
end

section
/-! PROOF of O51 (09 R261 to R264; 14 R397). -/

namespace Sys2Proof.Machine

/-- Settles O51: each clause is the law of its check, of the steering or of the delivery above. -/
theorem receivedFramesPassTheirChecksInOrder : Obligations.ReceivedFramesPassTheirChecksInOrder := by
  refine ⟨fun s f h => execFrameReceived_notUp h,
    fun s f hUp h => execFrameReceived_pcs hUp h,
    fun s f hUp hPcs h => execFrameReceived_fcs hUp hPcs h,
    fun s f hUp hPcs hFcs h => execFrameReceived_runt hUp hPcs hFcs h,
    fun s f hUp hPcs hFcs hMin h => execFrameReceived_oversize hUp hPcs hFcs hMin h,
    fun s f hUp hPcs hFcs hMin hMax h => execFrameReceived_daMiss hUp hPcs hFcs hMin hMax h,
    fun s f hUp hPcs hFcs hMin hMax hDa hType h =>
      execFrameReceived_tagExcess ⟨hUp, hPcs, hFcs, hMin, hMax, hDa⟩ hType h,
    fun s f hUp hPcs hFcs hMin hMax hDa hType hTags h =>
      execFrameReceived_vlanMiss ⟨hUp, hPcs, hFcs, hMin, hMax, hDa⟩ hType hTags h,
    fun s f entry hUp hPcs hFcs hMin hMax hDa hType hTags hEntry h =>
      execFrameReceived_host ⟨hUp, hPcs, hFcs, hMin, hMax, hDa⟩ hType hTags hEntry h,
    fun s f entry v ip u hUp hPcs hFcs hMin hMax hDa hType hTags hEntry h =>
      execFrameReceived_service ⟨hUp, hPcs, hFcs, hMin, hMax, hDa⟩ hType hTags hEntry h,
    fun s f entry h => steer_default h,
    fun s f entry k x hRule hMatch hFirst => steer_first hRule hMatch hFirst,
    fun s f entry ring rule r hRoom hSteer => ⟨fun h => rxHost_noRule hRoom hSteer h,
      fun hRing h => rxHost_ringFull hRoom hSteer hRing h, fun i hRing h => rxHost_delivers hRoom hSteer hRing h⟩,
    fun s r i f rule => ?delivered,
    fun s m k => ⟨_, rfl, ?counted, fun n hOther => ?otherMacs⟩,
    fun s f hUp hPcs hFcs hMin hMax hDa h => execFrameReceived_macControl ⟨hUp, hPcs, hFcs, hMin, hMax, hDa⟩ h⟩
  case delivered =>
    rw [rxDeliver_rx, get_upd_same]
    exact ⟨rxRecord r i f rule s, rfl, rfl, rfl, rfl, rxRecord_stamp r i f rule s, rfl, rfl,
      rxDeliver_net r i f rule s⟩
  case counted => rw [dropFrame_counters, countMac_counters, get_upd_same]
  case otherMacs => rw [dropFrame_counters, countMac_otherMac _ _ hOther]

end Sys2Proof.Machine
end

section
/-! SUPPORT. The launch calendar (10 R275 to R279, R287 to R289; 09 R268): the grid of a port, where an occupancy, a
pause window and a gate interval end, each stage of the search of R276, and what a grant leaves. -/

namespace Sys2Proof.Machine

/-! ### The grid (R275) -/

theorem grid_pos (s : State) (m : Fin 16) : 0 < grid s m := by
  refine Nat.mul_pos ?_ (Nat.two_pow_pos 40)
  split
  case h_3 => split <;> decide
  all_goals decide

theorem gridCeil_onGrid (g phase t : Nat) : ∃ k, gridCeil g phase t = phase + k * g := by
  rw [gridCeil]
  split
  · exact ⟨0, by rw [Nat.zero_mul, Nat.add_zero]⟩
  · exact ⟨_, rfl⟩

/-- A count rounded up to whole steps is not less, and less than one step more. -/
theorem le_roundUp {g : Nat} (h : 0 < g) (n : Nat) : n ≤ (n + g - 1) / g * g ∧ (n + g - 1) / g * g < n + g := by
  have hDiv : g * ((n + g - 1) / g) + (n + g - 1) % g = n + g - 1 := Nat.div_add_mod _ _
  have hMod : (n + g - 1) % g < g := Nat.mod_lt _ h
  rw [Nat.mul_comm] at hDiv
  omega

theorem le_gridCeil {g : Nat} (h : 0 < g) (phase t : Nat) : t ≤ gridCeil g phase t := by
  have hUp := (le_roundUp h (t - phase)).1
  rw [gridCeil]
  split <;> omega

/-! ### Occupancies and pause windows (R276; 09 R268) -/

theorem markerEnd_gt {s : State} {m : Fin 16} {a b e : Nat} (h : markerEnd s m a b = some e) : a < e := by
  unfold markerEnd at h
  split at h
  · obtain ⟨n, -, rfl⟩ := Option.map_eq_some_iff.mp h
    omega
  · cases h

/-- What a frame in transmission leaves of the occupancies: its own end, or the markers'. -/
theorem meets_of_calendar {s : State} {m : Fin 16} {a b : Nat}
    (h : (s.net.macs[m].calendar.find? fun r => decide (a < r.stop) && decide (r.start < b)) = none) :
    (∃ e, a < e ∧ meets s m a b = some e) ∨ meets s m a b = markerEnd s m a b := by
  unfold meets
  dsimp only
  rw [h]
  dsimp only
  split
  case h_1 r _ _ =>
    split
    case isTrue hMeets => exact .inl ⟨_, hMeets.1, rfl⟩
    case isFalse => exact .inr rfl
  case h_2 f st _ _ =>
    split
    case isTrue hMeets => exact .inl ⟨_, hMeets.1, rfl⟩
    case isFalse => exact .inr rfl
  case h_3 => exact .inr rfl

/-- An occupancy that meets a slot ends after the slot begins. -/
theorem meets_gt {s : State} {m : Fin 16} {a b e : Nat} (h : meets s m a b = some e) : a < e := by
  cases hFind : s.net.macs[m].calendar.find? fun r => decide (a < r.stop) && decide (r.start < b) with
  | some r =>
    have hOver := List.find?_some hFind
    have hEnd : meets s m a b = some r.stop := by
      unfold meets
      dsimp only
      rw [hFind]
    rw [hEnd] at h
    cases h
    exact of_decide_eq_true (Bool.and_eq_true_iff.mp hOver).1
  | none =>
    rcases meets_of_calendar hFind with ⟨e', hLater, hEnd⟩ | hMarker
    · rw [hEnd] at h
      cases h
      exact hLater
    · exact markerEnd_gt (hMarker ▸ h)

/-- A slot that nothing meets is clear of every reservation and of the markers. -/
theorem clear_of_meets_none {s : State} {m : Fin 16} {a b : Nat} (h : meets s m a b = none) :
    (∀ x ∈ s.net.macs[m].calendar, x.stop ≤ a ∨ b ≤ x.start) ∧ markerEnd s m a b = none := by
  cases hFind : s.net.macs[m].calendar.find? fun r => decide (a < r.stop) && decide (r.start < b) with
  | some r =>
    unfold meets at h
    dsimp only at h
    rw [hFind] at h
    cases h
  | none =>
    constructor
    · intro x hx
      have hClear := List.find?_eq_none.mp hFind x hx
      rw [Bool.and_eq_true, decide_eq_true_eq, decide_eq_true_eq] at hClear
      omega
    · rcases meets_of_calendar hFind with ⟨e, -, hEnd⟩ | hMarker
      · rw [hEnd] at h
        cases h
      · exact hMarker ▸ h

/-- A window that covers an instant closes after it. -/
theorem pausedAt_gt {s : State} {c : Mac} {q : Fin 32} {a e : Nat} (h : pausedAt s c q a = some e) : a < e := by
  obtain ⟨w, hFind, rfl⟩ := Option.map_eq_some_iff.mp h
  have hCovers := List.find?_some hFind
  exact of_decide_eq_true (Bool.and_eq_true_iff.mp hCovers).2

/-! ### Gate intervals (R287 to R289) -/

/-- The interval that holds a position of the cycle does not end before it. -/
theorem gateEntryAt_ge {cycle p : Nat} (hInside : p < cycle) (l : List GateEntry) (begun : Nat) :
    p ≤ (gateEntryAt cycle l begun p).2 := by
  induction l generalizing begun with
  | nil => exact hInside.le
  | cons e l ih =>
    cases l with
    | nil => exact hInside.le
    | cons e' l =>
      rw [gateEntryAt]
      split
      case isTrue hHere => exact le_min hInside.le hHere.le
      case isFalse => exact ih _

/-- The gates of a list with a cycle last at least to the instant at which they are asked for. -/
theorem gatesOf_ge {l : GateList} (hCycle : l.entries ≠ [] → l.cycle ≠ 0) {t e : Nat} (h : (gatesOf l t).2 = some e) :
    t ≤ e := by
  unfold gatesOf at h
  split at h
  · cases h
  · next hEntries =>
    have hPos : 0 < l.cycle * calNs := Nat.mul_pos (Nat.pos_of_ne_zero (hCycle hEntries)) (by decide)
    have hEnd := gateEntryAt_ge (Nat.mod_lt (t - l.start * calZt) hPos) l.entries 0
    have hPast : (t - l.start * calZt) % (l.cycle * calNs) ≤ t := (Nat.mod_le _ _).trans (Nat.sub_le _ _)
    cases h
    omega

/-- The list in force is the present one or a pending one, and the one after it starts later. -/
theorem governing_spec (g : GateList) (t : Nat) (l : List GateList) :
    ((governing g t l).1 = g ∨ (governing g t l).1 ∈ l) ∧ ∀ e, (governing g t l).2 = some e → t ≤ e := by
  induction l generalizing g with
  | nil => exact ⟨.inl rfl, fun e h => by cases h⟩
  | cons n l ih =>
    rw [governing]
    split
    case isTrue =>
      obtain ⟨hList, hAfter⟩ := ih n
      refine ⟨.inr (List.mem_cons.mpr hList), hAfter⟩
    case isFalse hLater =>
      refine ⟨.inl rfl, fun e h => ?_⟩
      cases h
      exact (Nat.lt_of_not_le hLater).le

/-- Every gate list of a MAC that has entries has a cycle. -/
def HasCycles (c : Mac) : Prop := ∀ l, l = c.gate ∨ l ∈ c.nextGates → l.entries ≠ [] → l.cycle ≠ 0

theorem macGates_ge {c : Mac} (hCycles : HasCycles c) {t e : Nat} (h : (macGates c t).2 = some e) : t ≤ e := by
  obtain ⟨hList, hAfter⟩ := governing_spec c.gate t c.nextGates
  have hGates : ∀ e, (gatesOf (governing c.gate t c.nextGates).1 t).2 = some e → t ≤ e :=
    fun e => gatesOf_ge (hCycles _ hList)
  unfold macGates at h
  dsimp only at h
  split at h
  case h_1 hGate hNext =>
    cases h
    exact le_min (hGates _ hGate) (hAfter _ hNext)
  case h_2 hGate _ =>
    cases h
    exact hGates _ hGate
  case h_3 => exact hAfter _ h

theorem nextFitting_ge {c : Mac} (hCycles : HasCycles c) {q d n a o : Nat} (h : nextFitting c q d n a = some o) :
    a ≤ o := by
  induction n generalizing a with
  | zero => cases h
  | succ n ih =>
    rw [nextFitting] at h
    split at h
    · cases h
      exact le_rfl
    · split at h
      case h_1 e hEnd => exact (macGates_ge hCycles hEnd).trans (ih h)
      case h_2 => cases h

/-! ### The search (R276) -/

/-- A slot of length `d` whose committed instant is `t` is within 1 ms and free of everything. -/
structure SlotFree (s : State) (m : Fin 16) (q : Fin 32) (d t : Nat) : Prop where
  near : t ≤ calNow s + 1000000 * calNs
  clear : meets s m (t - grid s m) (t - grid s m + d) = none
  gate : gateFits s.net.macs[m] q.val (t - grid s m) d = true
  pause : pausedAt s s.net.macs[m] q (t - grid s m) = none

/-- What stands in the way of a slot that begins at `a` ends at `e`, or the gate next fits there. -/
def Displaced (s : State) (m : Fin 16) (q : Fin 32) (d a e : Nat) : Prop :=
  meets s m a (a + d) = some e ∨ pausedAt s s.net.macs[m] q a = some e ∨
    nextFitting s.net.macs[m] q.val d (gateFuel s.net.macs[m]) a = some e

/-- A step of the search that succeeds grants the slot it looks at, or goes on behind what is in its way. -/
theorem findSlot_step {s : State} {m : Fin 16} {q : Fin 32} {d n t c : Nat} (h : findSlot s m q d (n + 1) t = some c) :
    (c = t ∧ SlotFree s m q d t) ∨ ∃ e, Displaced s m q d (t - grid s m) e ∧
      findSlot s m q d n (gridCeil (grid s m) s.net.macs[m].gridPhase (e + grid s m)) = some c := by
  rw [findSlot] at h
  dsimp only at h
  split at h
  case isTrue => cases h
  case isFalse hNear =>
    split at h
    case h_1 e hMeets => exact .inr ⟨e, .inl hMeets, h⟩
    case h_2 hClear =>
      split at h
      case isTrue hGate =>
        split at h
        case h_1 e hPaused => exact .inr ⟨e, .inr (.inl hPaused), h⟩
        case h_2 hOpen =>
          cases h
          exact .inl ⟨rfl, Nat.not_lt.mp hNear, hClear, hGate, hOpen⟩
      case isFalse =>
        split at h
        case h_1 e hNext => exact .inr ⟨e, .inr (.inr hNext), h⟩
        case h_2 => cases h

theorem displaced_ge {s : State} {m : Fin 16} {q : Fin 32} {d a e : Nat} (hCycles : HasCycles s.net.macs[m])
    (h : Displaced s m q d a e) : a ≤ e := by
  rcases h with hMeets | hPaused | hNext
  · exact (meets_gt hMeets).le
  · exact (pausedAt_gt hPaused).le
  · exact nextFitting_ge hCycles hNext

section
variable {s : State} {m : Fin 16} {q : Fin 32} {d n t c : Nat}

theorem findSlot_free (h : findSlot s m q d n t = some c) : SlotFree s m q d c := by
  induction n generalizing t with
  | zero => cases h
  | succ n ih =>
    rcases findSlot_step h with ⟨rfl, hFree⟩ | ⟨e, -, hRest⟩
    · exact hFree
    · exact ih hRest

theorem findSlot_onGrid (hStart : ∃ k, t = s.net.macs[m].gridPhase + k * grid s m)
    (h : findSlot s m q d n t = some c) : ∃ k, c = s.net.macs[m].gridPhase + k * grid s m := by
  induction n generalizing t with
  | zero => cases h
  | succ n ih =>
    rcases findSlot_step h with ⟨rfl, -⟩ | ⟨e, -, hRest⟩
    · exact hStart
    · exact ih (gridCeil_onGrid _ _ _) hRest

theorem findSlot_ge (hCycles : HasCycles s.net.macs[m]) (h : findSlot s m q d n t = some c) : t ≤ c := by
  induction n generalizing t with
  | zero => cases h
  | succ n ih =>
    rcases findSlot_step h with ⟨rfl, -⟩ | ⟨e, hDisplaced, hRest⟩
    · exact le_rfl
    · have hBehind : t ≤ e + grid s m := Nat.sub_le_iff_le_add.mp (displaced_ge hCycles hDisplaced)
      exact (hBehind.trans (le_gridCeil (grid_pos s m) _ _)).trans (ih hRest)

end

/-! ### The seal leaves the ports (11 R300, R301; 12 R331) -/

/-- The mode of the ports and their MACs. -/
def portsOf (s : State) : Nat × Vector Mac 16 := (s.net.portMode, s.net.macs)

theorem drawBase_ports (engine slot keyId : Nat) (s : State) :
    portsOf (drawBase engine slot keyId s).2 = portsOf s := by
  unfold drawBase
  dsimp only
  split <;> rfl

theorem takeCount_ports (engine slot keyId : Nat) (gcm : Bool) (s : State) :
    portsOf (takeCount engine slot keyId gcm s).2.2 = portsOf s := by
  have hDrawn := drawBase_ports engine slot keyId s
  unfold takeCount
  dsimp only
  split
  · split
    · exact hDrawn
    · rfl
  · exact hDrawn

theorem ntpOctets_ports (engine : Nat) (r : Reply) (s : State) : portsOf (ntpOctets engine r s).2 = portsOf s := by
  unfold ntpOctets
  dsimp only
  split
  · rfl
  · rfl
  · exact takeCount_ports engine r.keySlot r.keyId false s

theorem withAuth_ports (engine : Nat) (auth : Option AuthSeal) (b : Bytes) (s : State) :
    portsOf (withAuth engine auth b s).2 = portsOf s := by
  unfold withAuth
  split
  · rfl
  · dsimp only
    split
    · rfl
    · exact takeCount_ports engine _ _ true s

theorem placeTime_ports (engine stamp : Nat) (r : Reply) (s : State) :
    portsOf (placeTime engine stamp r s).2 = portsOf s := by
  unfold placeTime
  dsimp only
  split
  · exact ntpOctets_ports engine _ s
  · split
    · exact withAuth_ports engine _ _ s
    · rfl

theorem occupancy_congr {s t : State} (h : portsOf t = portsOf s) (m : Fin 16) (length : Nat) :
    occupancy t m length = occupancy s m length := by
  have hMode : t.net.portMode = s.net.portMode := congrArg Prod.fst h
  have hMacs : t.net.macs = s.net.macs := congrArg Prod.snd h
  have hSplit : isSplit t m = isSplit s m := by rw [isSplit, isSplit, macSplit, macSplit, hMode, hMacs]
  rw [occupancy, occupancy, cost, cost, grid, grid, hMode, hMacs, hSplit]

/-! ### The grant (R276, R280) -/

/-- A grant is the slot that the search finds, and the reservation of that slot joins the calendar. -/
theorem reserve_grants {s t : State} {a : Ask} {c : Nat} (h : reserve a s = some (c, t)) :
    slotFor s a.mac a.queue a.tReq a.length = some c ∧
      ∃ x, t.net.macs[a.mac].calendar = s.net.macs[a.mac].calendar ++ [x] ∧ x.t = c ∧ x.start = c - grid s a.mac ∧
        x.stop = c - grid s a.mac + occupancy s a.mac a.length ∧ x.queue = a.queue ∧ x.recommitted = a.recommitted := by
  unfold reserve at h
  split at h
  case h_1 => cases h
  case h_2 slot hSlot =>
    have hPorts := placeTime_ports a.requester (egressStamp s a.mac slot) a.reply s
    dsimp only at h
    generalize placeTime a.requester (egressStamp s a.mac slot) a.reply s = placed at h hPorts
    have hMacs : placed.2.net.macs = s.net.macs := congrArg Prod.snd hPorts
    obtain ⟨rfl, rfl⟩ := Prod.mk.inj (Option.some.inj h)
    refine ⟨hSlot, ?granted, ?calendar, ?_⟩
    case calendar => rw [modNet_net, modMac_mac, hMacs]
    exact ⟨rfl, rfl, congrArg _ (occupancy_congr hPorts a.mac a.length), rfl, rfl⟩

end Sys2Proof.Machine
end

section
/-! PROOF of O50 (10 R275 to R277, R279, R289; 09 R268). -/

namespace Sys2Proof.Machine

/-- Settles O50: every slot that the search answers is free, and each of its steps goes on behind what is in its way,
on the grid. -/
theorem aGrantedSlotMeetsNoOther : Obligations.AGrantedSlotMeetsNoOther := by
  intro s t a c h
  obtain ⟨hSlot, hReserved⟩ := reserve_grants h
  obtain ⟨hNear, hMeets, hGate, hPause⟩ := findSlot_free hSlot
  obtain ⟨hClear, hMarkers⟩ := clear_of_meets_none hMeets
  refine ⟨hNear, findSlot_onGrid (gridCeil_onGrid _ _ _) hSlot, hClear, hMarkers, hGate, hPause, fun hCycles => ?_,
    hReserved⟩
  have hAsked : a.tReq ≤ max (max a.tReq (grid s a.mac)) (lpiReadyAt s a.mac) := by omega
  exact (hAsked.trans (le_gridCeil (grid_pos s a.mac) _ _)).trans (findSlot_ge hCycles hSlot)

end Sys2Proof.Machine
end

section
/-! SUPPORT. Gate lists, timed and untimed frames and the frames of the host (10 R279 to R281, R286 to R293; 07 R228,
R229; 14 R395, R397): what each command and each row of a frame's life does. -/

namespace Sys2Proof.Machine

/-! ### Gate lists and status (R286 to R288, R293) -/

section
variable {s : State} {r : Req} {m : Fin 16}

theorem filter_present (h : macPresent s m = true) :
    ((asFin 16 m.val).filter fun k => macPresent s k) = some m := by
  rw [asFin_val, Option.filter_some, if_pos h]

/-- A gate list within its bounds waits for its start. -/
theorem execGateList_accepts {cycle : Nat} {base : ZT128} {l : List GateEntry}
    (h : Asks 0x0507 (24 + 8 * l.length) r s) (hMac : macPresent s m = true) (hShort : 1000 ≤ cycle)
    (hLong : cycle ≤ 1000000000) (hLength : l.length ≤ 1024) (hBase : ztValid base = true)
    (hEntries : l.all gateEntryOk = true) :
    execGateList r m.val cycle base l s = .next (finish r.src stOk [] (acceptGate m
      ⟨gateStart (ztUnits base) cycle (now s + ns16 2000), cycle, l⟩ (now s + ns16 2000) s)) := by
  refine runSimple_ok h ?_
  rw [filter_present hMac]
  exact need_true (by rw [within_of_le hShort hLong, decide_eq_true hLength, hBase, hEntries]; rfl)

/-- A list starts at its base or, where that has passed, at the first whole cycle from it that has not. -/
theorem gateStart_spec {cycle : Nat} (base from_ : Nat) (h : 0 < cycle) :
    from_ ≤ gateStart base cycle from_ ∧ (from_ ≤ base → gateStart base cycle from_ = base) ∧
      (base < from_ → gateStart base cycle from_ < from_ + ns16 cycle ∧
        (gateStart base cycle from_ - base) % ns16 cycle = 0) := by
  have hCycle : 0 < ns16 cycle := Nat.mul_pos h (by decide)
  obtain ⟨hReaches, hNoFurther⟩ := le_roundUp hCycle (from_ - base)
  rcases Nat.lt_or_ge base from_ with hPassed | hAhead
  · have hStart : gateStart base cycle from_ =
        base + (from_ - base + ns16 cycle - 1) / ns16 cycle * ns16 cycle := if_neg (Nat.not_le.mpr hPassed)
    rw [hStart, Nat.add_sub_cancel_left, Nat.mul_mod_left]
    exact ⟨by omega, fun hAhead => absurd hAhead (Nat.not_le.mpr hPassed), fun _ => ⟨by omega, rfl⟩⟩
  · have hStart : gateStart base cycle from_ = base := if_pos hAhead
    exact ⟨hStart.symm ▸ hAhead, fun _ => hStart, fun hPassed => absurd hAhead (Nat.not_le.mpr hPassed)⟩

theorem execGateListStart_starts {l : GateList} {ls : List GateList} (hNext : s.net.macs[m].nextGates = l :: ls)
    (hRuns : clockRuns s = true) (hCome : l.start * calZt ≤ calNow s) :
    execGateListStart m s = .next (raiseAt 0x0521 m.val 0 l.start
      (s.modMac m fun c => { c with gate := l, nextGates := ls })) := by
  rw [execGateListStart, hNext]
  exact if_pos ⟨hRuns, hCome⟩

theorem execGateListStart_nonePending (h : s.net.macs[m].nextGates = []) : execGateListStart m s = .next s := by
  rw [execGateListStart, h]

theorem length_queueStatus (c : Mac) (q : Fin 32) : (queueStatus s c q).length = 48 := by
  simp only [queueStatus, List.length_append, length_le]

/-- The body of egress-status: 48 octets for each queue in turn, and 72 of the MAC. -/
theorem execEgressStatus_body (h : Asks 0x0511 1 r s) (hMac : macPresent s m = true) :
    ∃ body, execEgressStatus r m.val s = .next (finish r.src stOk body s) ∧ body.length = 1608 ∧
      body.take 48 = queueStatus s s.net.macs[m] 0 := by
  obtain ⟨hLen, p, hReady⟩ := h
  have hQueues : ((fins 32).flatMap (queueStatus s s.net.macs[m])).length = 48 * 32 := by
    rw [length_flatMap_of_length fun q _ => length_queueStatus s.net.macs[m] q, length_fins]
  refine ⟨_, runRead_ok hReady (decide_eq_true hLen) (by rw [filter_present hMac]), ?_, ?_⟩
  · simp only [List.length_append, hQueues, length_le, length_ztBytes]
  · have hFirst : fins 32 = 0 :: List.ofFn fun i : Fin 31 => i.succ := List.ofFn_succ
    simp only [hFirst, List.flatMap_cons, List.append_assoc]
    exact List.take_left' (length_queueStatus _ _)

theorem execEgressStatus_noMac {n : Nat} (h : Asks 0x0511 1 r s) (hMac : 16 ≤ n) :
    execEgressStatus r n s = .next (finish r.src eRange [] s) := by
  have hNone : asFin 16 n = none := dif_neg (Nat.not_lt.mpr hMac)
  exact runRead_error h (by rw [hNone]; rfl)

end

/-! ### Timed frames (R279 to R281, R290) -/

section
variable {s : State} {m : Fin 16} {id : Nat} {x : Reservation}

theorem missSlot_again {after : Nat} {pause : Bool} (h : x.recommitted = true) :
    missSlot m x after pause s = countLate m (dropReservation m x (if pause then ocPause else ocLate) s) :=
  if_pos h

/-- A reservation as it leaves: off the calendar, in transmission with its stamp, counted in its queue. -/
def Mac.launched (x : Reservation) (l : Latched) (c : Mac) : Mac :=
  { c with
    calendar := c.calendar.filter fun y => decide (y.id ≠ x.id), tx := some (.timed x l),
    queues := upd c.queues x.queue fun q => { q with framesSent := (q.framesSent + 1) % 2 ^ 64,
                                                     bytesSent := (q.bytesSent + x.length) % 2 ^ 64 } }

/-- The stamp with which a reservation is launched. -/
def launchStamp (m : Fin 16) (x : Reservation) (s : State) : Latched :=
  latched s m (if x.reply.kind = 8 then egressStamp s m x.t else x.reply.stamp) x.recommitted

/-- The state in which a reservation has begun to leave. -/
def launching (m : Fin 16) (x : Reservation) (s : State) : State :=
  countSent m x.queue x.length (s.modMac m fun c =>
    { c with calendar := c.calendar.filter (fun y => decide (y.id ≠ x.id)),
             tx := some (.timed x (launchStamp m x s)) })

/-- A launch outside its gate is an override: it is counted and raises its event (R290). -/
theorem launch_eq (m : Fin 16) (x : Reservation) (s : State) : launch m x s =
    if !gateFits s.net.macs[m] x.queue.val x.start (x.stop - x.start) then
      raise 0x0523 m.val 0 ((launching m x s).modMac m fun c =>
        { c with gateOverride := (c.gateOverride + 1) % 2 ^ 64 })
    else launching m x s :=
  rfl

theorem launching_mac (m : Fin 16) (x : Reservation) (s : State) :
    (launching m x s).net.macs[m] = s.net.macs[m].launched x (launchStamp m x s) := by
  rw [launching, countSent, modQ, modMac_mac, modMac_mac]
  rfl

/-- Of the MAC a launch changes what stands above, and the count of overrides. -/
theorem launch_mac (m : Fin 16) (x : Reservation) (s : State) : ∃ n, (launch m x s).net.macs[m] =
    { s.net.macs[m].launched x (launchStamp m x s) with gateOverride := n } := by
  rw [launch_eq]
  by_cases hOverride : (!gateFits s.net.macs[m] x.queue.val x.start (x.stop - x.start)) = true
  · rw [if_pos hOverride, raise_net, modMac_mac, launching_mac]
    exact ⟨_, rfl⟩
  · rw [if_neg hOverride, launching_mac]
    exact ⟨_, rfl⟩

section
variable (hRes : findRes s m id = some x)
include hRes

theorem execSealDeadlineMissed_misses (hForm : counterForm s = true) (hDue : x.t ≤ calNow s + 14 * calNs) :
    execSealDeadlineMissed m id s = .next (missSlot m x 0 false s) := by
  rw [execSealDeadlineMissed, hRes]
  exact if_pos ⟨hForm, hDue⟩

theorem execSealDeadlineMissed_early (hEarly : calNow s + 14 * calNs < x.t) :
    execSealDeadlineMissed m id s = .next s := by
  rw [execSealDeadlineMissed, hRes]
  exact if_neg fun ⟨_, hDue⟩ => Nat.not_le.mpr hEarly hDue

theorem execStrokeLaunch_launches (hForm : counterForm s = true) (hIdle : s.net.macs[m].tx = none)
    (hUp : s.net.macs[m].state = .up) (hDue : x.start < calNow s + calNs)
    (hOpen : pausedAt s s.net.macs[m] x.queue x.start = none) : execStrokeLaunch m id s = .next (launch m x s) := by
  have hMay : ¬ ((!counterForm s) = true ∨ s.net.macs[m].tx ≠ none ∨ s.net.macs[m].state ≠ .up ∨
      calNow s + calNs ≤ x.start) := by
    rintro (hOther | hBusy | hDown | hEarly)
    · rw [hForm] at hOther
      cases hOther
    · exact hBusy hIdle
    · exact hDown hUp
    · exact Nat.not_le.mpr hDue hEarly
  rw [execStrokeLaunch, hRes]
  dsimp only
  rw [if_neg hMay, hOpen]

end

theorem execStrokeLaunch_busy (id : Nat) (h : s.net.macs[m].tx ≠ none) : execStrokeLaunch m id s = .next s := by
  unfold execStrokeLaunch
  split
  · rfl
  · exact if_pos (.inr (.inl h))

end

/-! ### Frames of the host (R278; 14 R395, R397) -/

section
variable {s : State} {ring : Fin 64} {d : TxDesc} {m : Fin 16}

section
variable (hEnabled : s.host.tx[ring].enabled = true) (hNotHeld : s.host.tx[ring].held = none)
  (hLeft : s.host.tx[ring].fetched ≠ s.host.tx[ring].tail % 2 ^ s.host.tx[ring].size)
  (hReach : hostReachable s = true)
include hEnabled hNotHeld hLeft hReach

/-- A ring that is enabled and holds no descriptor back gives its next one to a host that is there. -/
theorem ring_gives : ¬ ((!s.host.tx[ring].enabled) = true ∨ s.host.tx[ring].held ≠ none ∨
    s.host.tx[ring].fetched = s.host.tx[ring].tail % 2 ^ s.host.tx[ring].size ∨ (!hostReachable s) = true) := by
  rw [hEnabled, hReach]
  rintro (hOff | hHeld | hEmpty | hAway)
  · cases hOff
  · exact hHeld hNotHeld
  · exact hLeft hEmpty
  · cases hAway

theorem execTransmitDescriptor_queues {q : Fin 32} (hMac : descMac (takeDesc ring s) d = some m)
    (hUntimed : isTimed d = false) (hQueue : s.host.tx[ring].useQueue = q.val) :
    execTransmitDescriptor ring d s = .next (pushFrame m q
      { length := d.length + 4, origin := .ring ring s.host.tx[ring].fetched, data := d.octets } (takeDesc ring s)) := by
  unfold execTransmitDescriptor
  dsimp only
  rw [if_neg (ring_gives hEnabled hNotHeld hLeft hReach), hMac]
  dsimp only
  rw [if_neg (Bool.eq_false_iff.mp hUntimed), hQueue, asFin_val]

theorem execTransmitDescriptor_refuses (hMac : descMac (takeDesc ring s) d = none) :
    execTransmitDescriptor ring d s = .next (hostDrop (.ring ring s.host.tx[ring].fetched) d.mac
      (d.length + 4) 0 ocDescriptor (takeDesc ring s)) := by
  unfold execTransmitDescriptor
  dsimp only
  rw [if_neg (ring_gives hEnabled hNotHeld hLeft hReach), hMac]

end

theorem execTransmitDescriptor_disabled (d : TxDesc) (h : s.host.tx[ring].enabled = false) :
    execTransmitDescriptor ring d s = .next s :=
  if_pos (.inl (by rw [h]; rfl))

theorem execHostTimedReserve_reserves {i : Nat} {t : State} (hHeld : s.host.tx[ring].held = some (i, d))
    (hForm : counterForm s = true) (hMac : descMac s d = some m) (hSlot : reserveDesc ring i m d s = some t) :
    execHostTimedReserve ring s = .next (t.modTx ring fun k => { k with held := none }) := by
  rw [execHostTimedReserve, hHeld]
  dsimp only
  rw [if_neg (by rw [hForm]; decide), hMac]
  dsimp only
  rw [hSlot]

theorem execHostTimedReserve_noneHeld (h : s.host.tx[ring].held = none) : execHostTimedReserve ring s = .next s := by
  rw [execHostTimedReserve, h]

end

/-! ### Untimed frames (R282, R283) -/

/-- A figure of a MAC apart from its rounds stands when the turn passes on. -/
theorem passTurn_keeps {β : Type} {g : Mac → β} (hPaced : ∀ c r, g { c with paced := r } = g c)
    (hBulk : ∀ c r, g { c with bulk := r } = g c) (cls : Nat) (q : Fin 32) (m : Fin 16) (s : State) :
    g (passTurn cls q m s).net.macs[m] = g s.net.macs[m] := by
  have hRound (r : Drr) : g (setRound m cls r s).net.macs[m] = g s.net.macs[m] := by
    rw [setRound, modMac_mac]
    split
    · exact hPaced _ _
    · exact hBulk _ _
  unfold passTurn
  dsimp only
  split
  · rfl
  · split <;> exact hRound _

section
variable (m : Fin 16) (cls : Nat) (q : Fin 32) (f : QFrame) (s : State)

/-- The frame that starts is in transmission, with the stamp of one grid step after its start (07 R228). -/
theorem startFrame_tx : (startFrame m cls q f s).net.macs[m].tx =
    some (.untimed q f (startNow s m) (latched s m (egressStamp s m (startNow s m + grid s m)) false)) := by
  refine (passTurn_keeps (g := Mac.tx) (fun _ _ => rfl) (fun _ _ => rfl) cls q m _).trans ?_
  rw [countSent, modQ, modMac_mac]
  dsimp only
  rw [modMac_mac]

theorem startFrame_frames :
    (startFrame m cls q f s).net.macs[m].queues[q].frames = s.net.macs[m].queues[q].frames.drop 1 := by
  refine (passTurn_keeps (g := fun c => c.queues[q].frames) (fun _ _ => rfl) (fun _ _ => rfl) cls q m _).trans ?_
  rw [countSent, modQ, modMac_mac]
  dsimp only
  rw [get_upd_same, modMac_mac]
  dsimp only
  rw [modQ, modMac_mac]
  dsimp only
  rw [get_upd_same]
  rfl

end

section
variable {s : State} {m : Fin 16}

theorem execUntimedFrameStart_starts {u : State} {cls : Nat} {q : Fin 32} {f : QFrame} {fs : List QFrame}
    (hRuns : clockRuns s = true) (hUp : s.net.macs[m].state = .up) (hIdle : s.net.macs[m].tx = none)
    (hAwake : awake s m = true) (hChosen : chooseFrame m (dropHeads m s) = some (cls, q, u))
    (hHead : u.net.macs[m].queues[q].frames = f :: fs) :
    execUntimedFrameStart m s = .next (startFrame m cls q f u) := by
  have hMay : ¬ ((!clockRuns s) = true ∨ s.net.macs[m].state ≠ .up ∨ s.net.macs[m].tx ≠ none ∨
      (!awake s m) = true) := by
    rw [hRuns, hAwake]
    rintro (hStopped | hDown | hBusy | hAsleep)
    · cases hStopped
    · exact hDown hUp
    · exact hBusy hIdle
    · cases hAsleep
  unfold execUntimedFrameStart
  dsimp only
  rw [if_neg hMay, hChosen]
  dsimp only
  rw [hHead]

theorem execUntimedFrameStart_notUp (h : s.net.macs[m].state ≠ .up) : execUntimedFrameStart m s = .next s :=
  if_pos (.inr (.inl h))

/-! ### The end of a frame (07 R228, R229) -/

theorem noteSent_host {o : Origin} (stamp : Nat) (h : isHost o = true) : noteSent o stamp s = s := by
  cases o with
  | clientReq => cases h
  | _ => rfl

theorem execFrameTransmitted_untimed {q : Fin 32} {f : QFrame} {a : Nat} {l : Latched}
    (h : s.net.macs[m].tx = some (.untimed q f a l)) :
    execFrameTransmitted m s = .next (hostReport f.origin m.val f.length 0 ocSent l
      (s.modMac m fun c => { c with tx := none })) := by
  rw [execFrameTransmitted, h]

theorem execFrameTransmitted_timed {x : Reservation} {l : Latched} (h : s.net.macs[m].tx = some (.timed x l))
    (hHost : isHost x.origin = true) :
    execFrameTransmitted m s = .next (hostReport x.origin m.val x.length (askedOf x)
      (if x.recommitted then ocRecommitted else ocSent) l (s.modMac m fun c => { c with tx := none })) := by
  rw [execFrameTransmitted, h]
  dsimp only
  rw [noteSent_host _ hHost]

theorem execFrameTransmitted_idle (h : s.net.macs[m].tx = none) : execFrameTransmitted m s = .next s := by
  rw [execFrameTransmitted, h]

end

end Sys2Proof.Machine
end

section
/-! PROOF of O49 (10 R287 to R293; 14 R395; 07 R228, R229). -/

namespace Sys2Proof.Machine

/-- Settles O49: each clause is the law of its command or row above. -/
theorem egressActsAsItsRulesSay : Obligations.EgressActsAsItsRulesSay := by
  refine ⟨fun s r m cycle base l hAsks hMac hShort hLong hLength hBase hEntries =>
      execGateList_accepts hAsks hMac hShort hLong hLength hBase hEntries,
    fun base cycle from_ hCycle => gateStart_spec base from_ hCycle,
    fun s m l ls hNext hRuns hCome => execGateListStart_starts hNext hRuns hCome,
    fun s m hNext => execGateListStart_nonePending hNext,
    fun s m => rfl,
    fun s r m hAsks hMac => execEgressStatus_body hAsks hMac,
    fun s r m hAsks hMac => execEgressStatus_noMac hAsks hMac,
    fun s m id x hRes hForm hDue => execSealDeadlineMissed_misses hRes hForm hDue,
    fun s m id x hRes hEarly => execSealDeadlineMissed_early hRes hEarly,
    fun s m x after p hAgain => missSlot_again hAgain,
    fun s m id x hRes hForm hIdle hUp hDue hOpen =>
      ⟨_, launchStamp m x s, execStrokeLaunch_launches hRes hForm hIdle hUp hDue hOpen, rfl, ?launched⟩,
    fun s m id hBusy => execStrokeLaunch_busy id hBusy,
    fun s ring d m q hEnabled hHeld hLeft hReach hMac hUntimed hQueue =>
      execTransmitDescriptor_queues hEnabled hHeld hLeft hReach hMac hUntimed hQueue,
    fun s ring d hEnabled hHeld hLeft hReach hMac =>
      execTransmitDescriptor_refuses hEnabled hHeld hLeft hReach hMac,
    fun s ring d hOff => execTransmitDescriptor_disabled d hOff,
    fun s ring i d m t hHeld hForm hMac hSlot => execHostTimedReserve_reserves hHeld hForm hMac hSlot,
    fun s ring hHeld => execHostTimedReserve_noneHeld hHeld,
    fun s u m cls q f fs hRuns hUp hIdle hAwake hChosen hHead => ?started,
    fun s m hDown => (exec_untimedFrameStart m s).trans (execUntimedFrameStart_notUp hDown),
    fun s m q f a l hTx => execFrameTransmitted_untimed hTx,
    fun s m x l hTx hHost => execFrameTransmitted_timed hTx hHost,
    fun s m hIdle => execFrameTransmitted_idle hIdle⟩
  case launched =>
    obtain ⟨n, hMac⟩ := launch_mac m x s
    rw [hMac]
    refine ⟨rfl, rfl, fun y hy => ?_, ?_⟩
    · exact of_decide_eq_true (List.mem_filter.mp hy).2
    · exact congrArg EgressQueue.framesSent (get_upd_same _ _ _)
  case started =>
    have hStarts := execUntimedFrameStart_starts hRuns hUp hIdle hAwake hChosen hHead
    exact ⟨_, _, (exec_untimedFrameStart m s).trans hStarts, startFrame_tx m cls q f u,
      by rw [startFrame_frames, hHead]; rfl⟩

end Sys2Proof.Machine
end

section
/-! PROOF of O10 to O14 (95: each step is whole and indivisible; 14 R384, R387, R390; 17 R476; 18 R492, R495). -/

namespace Sys2Proof.Machine

/-! ### The step, the state after reset and the frames -/

/-- Settles O10: the queue's head is the command that `step` runs. -/
theorem stepRunsTheFrontCommand : Obligations.StepRunsTheFrontCommand := fun c cs s h => by
  rw [step, h]

/-- Settles O13: each field of the reset state, the arrays by their entries. -/
theorem resetLeavesTheStatedValues : Obligations.ResetLeavesTheStatedValues :=
  ⟨rfl, rfl, rfl, rfl, rfl, rfl, rfl, rfl, by decide, by decide, by decide, by decide, by decide, rfl, rfl, rfl, rfl,
    rfl, rfl, rfl, by decide, rfl⟩

/-- Settles O14: an empty memory is canonical and every address of it reads as unlisted. -/
theorem memoriesAreCanonicalAtReset : Obligations.MemoriesAreCanonicalAtReset :=
  ⟨empty_wf zeroByte, empty_wf zeroByte, empty_wf calByte, fun _ _ => rfl⟩

/-- The frame of each command (`mayWrite`), arm by arm. -/
theorem exec_only : ∀ (c : Instr) (s : State), OnlyOut (mayWrite c) s (exec c s)
  | .speedMode .., _ => execSpeedMode_core ..
  | .timeSet .., _ => execTimeSet_core ..
  | .timeStep .., _ => execTimeStep_core ..
  | .timeRestart .., _ => execTimeRestart_core ..
  | .leapTable .., _ => execLeapTable_core ..
  | .bootReport .., _ => execBootReport_core ..
  | .scribeRestart .., _ => execScribeRestart_core ..
  | .deviceReset .., _ => execDeviceReset_core ..
  | .mailboxReset .., _ => execMailboxReset_core ..
  | .firmwareWrite .., _ => execFirmwareWrite_core ..
  | .firmwareStage .., _ => execFirmwareStage_core ..
  | .firmwareConfirm .., _ => execFirmwareConfirm_core ..
  | .userLoad .., _ => execUserLoad_core ..
  | .userUnload .., _ => execUserUnload_core ..
  | .referenceConfigure .., _ => execReferenceConfigure_core ..
  | .monitorConfigure .., _ => execMonitorConfigure_core ..
  | .selectionConfigure .., _ => execSelectionConfigure_core ..
  | .referenceEnable .., _ => execReferenceEnable_core ..
  | .referenceRelease .., _ => execReferenceRelease_core ..
  | .referenceReject .., _ => execReferenceReject_core ..
  | .forceSelect .., _ => execForceSelect_core ..
  | .temperatureReport .., _ => execTemperatureReport_core ..
  | .selectionHook .., _ => execSelectionHook_core ..
  | .referenceStatus .., _ => execReferenceStatus_core ..
  | .ductusConfigure .., _ => execDuctusConfigure_core ..
  | .clockModel .., _ => execClockModel_core ..
  | .dpllConfigure .., _ => execDpllConfigure_core ..
  | .dpllEnable .., _ => execDpllEnable_core ..
  | .modelExport .., _ => execModelExport_core ..
  | .modelImport .., _ => execModelImport_core ..
  | .marginConfigure .., _ => execMarginConfigure_core ..
  | .ductusStatus .., _ => execDuctusStatus_core ..
  | .marginStatus .., _ => execMarginStatus_core ..
  | .apllConfigure .., _ => execApllConfigure_core ..
  | .outputConfigure .., _ => execOutputConfigure_core ..
  | .realign .., _ => execRealign_core ..
  | .evoutProgram .., _ => execEvoutProgram_core ..
  | .evinConfigure .., _ => execEvinConfigure_core ..
  | .loopbackCheck .., _ => execLoopbackCheck_core ..
  | .outputStatus .., _ => execOutputStatus_core ..
  | .portMode .., _ => execPortMode_core ..
  | .portConfigure .., _ => execPortConfigure_core ..
  | .vlanList .., _ => execVlanList_core ..
  | .steeringTable .., _ => execSteeringTable_core ..
  | .queueConfigure .., _ => execQueueConfigure_core ..
  | .egressConfigure .., _ => execEgressConfigure_core ..
  | .gateList .., _ => execGateList_core ..
  | .portStatus .., _ => execPortStatus_core ..
  | .egressStatus .., _ => execEgressStatus_core ..
  | .serviceAddressConfigure .., _ => execServiceAddressConfigure_core ..
  | .rotationConfigure .., _ => execRotationConfigure_core ..
  | .rotateNow .., _ => execRotateNow_core ..
  | .invalidateKey .., _ => execInvalidateKey_core ..
  | .cookieMint .., _ => execCookieMint_core ..
  | .policingProfile .., _ => execPolicingProfile_core ..
  | .ntsStatus .., _ => execNtsStatus_core ..
  | .ptpServiceConfigure .., _ => execPtpServiceConfigure_core ..
  | .ptpGlobalConfigure .., _ => execPtpGlobalConfigure_core ..
  | .sessionRead .., _ => execSessionRead_core ..
  | .saConfigure .., _ => execSaConfigure_core ..
  | .keyReplace .., _ => execKeyReplace_core ..
  | .saInvalidate .., _ => execSaInvalidate_core ..
  | .clientEntry .., _ => execClientEntry_core ..
  | .clientConfigure .., _ => execClientConfigure_core ..
  | .ptpStatus .., _ => execPtpStatus_core ..
  | .lifeCycle .., _ => execLifeCycle_core ..
  | .zeroise .., _ => execZeroise_core ..
  | .tamperConfigure .., _ => execTamperConfigure_core ..
  | .attestation .., _ => execAttestation_core ..
  | .identityRead .., _ => execIdentityRead_core ..
  | .attestRotate .., _ => execAttestRotate_core ..
  | .importRotate .., _ => execImportRotate_core ..
  | .keyImport .., _ => execKeyImport_core ..
  | .saKeyDerive .., _ => execSaKeyDerive_core ..
  | .saKeyExport .., _ => execSaKeyExport_core ..
  | .seal .., _ => execSeal_core ..
  | .unseal .., _ => execUnseal_core ..
  | .entropySample .., _ => execEntropySample_core ..
  | .keyStatus .., _ => execKeyStatus_core ..
  | .gnssPortConfigure .., _ => execGnssPortConfigure_core ..
  | .trackingConfigure .., _ => execTrackingConfigure_core ..
  | .consistencyConfigure .., _ => execConsistencyConfigure_core ..
  | .exclusionList .., _ => execExclusionList_core ..
  | .positionSet .., _ => execPositionSet_core ..
  | .fixConfigure .., _ => execFixConfigure_core ..
  | .orbitExport .., _ => execOrbitExport_core ..
  | .orbitImport .., _ => execOrbitImport_core ..
  | .groupDelayMeasure .., _ => execGroupDelayMeasure_core ..
  | .snapshot .., _ => execSnapshot_core ..
  | .snapshotRelease .., _ => execSnapshotRelease_core ..
  | .snapshotExport r hostAddr length, s => execSnapshotExport_core r hostAddr length s
  | .gnssStatus .., _ => execGnssStatus_core ..
  | .groupDelayResult .., _ => execGroupDelayResult_core ..
  | .channelAllocate .., _ => execChannelAllocate_core ..
  | .channelRelease .., _ => execChannelRelease_core ..
  | .channelConfigure .., _ => execChannelConfigure_core ..
  | .streamConfigure .., _ => execStreamConfigure_core ..
  | .channelStatus .., _ => execChannelStatus_core ..
  | .stackConfigure .., _ => execStackConfigure_core ..
  | .pair .., _ => execPair_core ..
  | .detach .., _ => execDetach_core ..
  | .witness .., _ => execWitness_core ..
  | .stackStatus .., _ => execStackStatus_core ..
  | .calibrationRead .., _ => execCalibrationRead_core ..
  | .calibrationWrite .., _ => execCalibrationWrite_core ..
  | .calibrationDigest .., _ => execCalibrationDigest_core ..
  | .counterRead .., _ => execCounterRead_core ..
  | .filterConfigure .., _ => execFilterConfigure_core ..
  | .wearLedgerRead .., _ => execWearLedgerRead_core ..
  | .persistentLog .., _ => execPersistentLog_core ..
  | .referenceConfigureReadBack .., _ => execReferenceConfigureReadBack_core ..
  | .monitorConfigureReadBack .., _ => execMonitorConfigureReadBack_core ..
  | .selectionConfigureReadBack .., _ => execSelectionConfigureReadBack_core ..
  | .ductusConfigureReadBack .., _ => execDuctusConfigureReadBack_core ..
  | .clockModelReadBack .., _ => execClockModelReadBack_core ..
  | .dpllConfigureReadBack .., _ => execDpllConfigureReadBack_core ..
  | .marginConfigureReadBack .., _ => execMarginConfigureReadBack_core ..
  | .apllConfigureReadBack .., _ => execApllConfigureReadBack_core ..
  | .outputConfigureReadBack .., _ => execOutputConfigureReadBack_core ..
  | .evoutProgramReadBack .., _ => execEvoutProgramReadBack_core ..
  | .evinConfigureReadBack .., _ => execEvinConfigureReadBack_core ..
  | .portConfigureReadBack .., _ => execPortConfigureReadBack_core ..
  | .queueConfigureReadBack .., _ => execQueueConfigureReadBack_core ..
  | .egressConfigureReadBack .., _ => execEgressConfigureReadBack_core ..
  | .serviceAddressConfigReadBack .., _ => execServiceAddressConfigReadBack_core ..
  | .rotationConfigureReadBack .., _ => execRotationConfigureReadBack_core ..
  | .policingProfileReadBack .., _ => execPolicingProfileReadBack_core ..
  | .ptpServiceConfigureReadBack .., _ => execPtpServiceConfigureReadBack_core ..
  | .ptpGlobalConfigureReadBack .., _ => execPtpGlobalConfigureReadBack_core ..
  | .saConfigureReadBack .., _ => execSaConfigureReadBack_core ..
  | .clientEntryReadBack .., _ => execClientEntryReadBack_core ..
  | .clientConfigureReadBack .., _ => execClientConfigureReadBack_core ..
  | .tamperConfigureReadBack .., _ => execTamperConfigureReadBack_core ..
  | .gnssPortConfigureReadBack .., _ => execGnssPortConfigureReadBack_core ..
  | .trackingConfigureReadBack .., _ => execTrackingConfigureReadBack_core ..
  | .consistencyConfigureReadBack .., _ => execConsistencyConfigureReadBack_core ..
  | .fixConfigureReadBack .., _ => execFixConfigureReadBack_core ..
  | .channelConfigureReadBack .., _ => execChannelConfigureReadBack_core ..
  | .streamConfigureReadBack .., _ => execStreamConfigureReadBack_core ..
  | .stackConfigureReadBack .., _ => execStackConfigureReadBack_core ..
  | .filterConfigureReadBack .., _ => execFilterConfigureReadBack_core ..
  | .commandCall .., _ => execCommandCall_core ..
  | .eventWait .., _ => execEventWait_core ..
  | .timeCall .., _ => execTimeCall_core ..
  | .sleep .., _ => execSleep_core ..
  | .hookWait .., _ => execHookWait_core ..
  | .hookAnswer .., _ => execHookAnswer_core ..
  | .signalSet .., _ => execSignalSet_core ..
  | .signalReturn .., _ => execSignalReturn_core ..
  | .exit .., _ => execExit_core ..
  | .unknownSystemCall .., _ => execUnknownSystemCall_core ..
  | .taskReturn .., _ => execTaskReturn_core ..
  | .userTaskFault .., _ => execUserTaskFault_core ..
  | .sleepExpiry .., _ => execSleepExpiry_core ..
  | .eventWaitTimeout .., _ => execEventWaitTimeout_core ..
  | .hookTimeout .., _ => execHookTimeout_core ..
  | .mailboxDoorbell .., _ => execMailboxDoorbell_core ..
  | .emergencyDoorbell .., _ => execEmergencyDoorbell_core ..
  | .emClaim .., _ => execEmClaim_core ..
  | .emRelease .., _ => execEmRelease_core ..
  | .emOwnershipTimeout .., _ => execEmOwnershipTimeout_core ..
  | .adminLock .., _ => execAdminLock_core ..
  | .cwLatch .., _ => execCwLatch_core ..
  | .dpDataRead .., _ => execDpDataRead_core ..
  | .dpDataWrite .., _ => execDpDataWrite_core ..
  | .bar2Access .., _ => execBar2Access_core ..
  | .dpDmaGo .., _ => execDpDmaGo_core ..
  | .dpDmaComplete .., _ => execDpDmaComplete_core ..
  | .dpInject .., _ => execDpInject_core ..
  | .ringEnable .., _ => execRingEnable_core ..
  | .ringDisable .., _ => execRingDisable_core ..
  | .ringTailWrite .., _ => execRingTailWrite_core ..
  | .pqFlush .., _ => execPqFlush_core ..
  | .pqConsumerWrite .., _ => execPqConsumerWrite_core ..
  | .panQueuePop .., _ => execPanQueuePop_core ..
  | .lowHalfRead .., _ => execLowHalfRead_core ..
  | .registerWrite .., _ => execRegisterWrite_core ..
  | .spiRead .., _ => execSpiRead_core ..
  | .spiWrite .., _ => execSpiWrite_core ..
  | .interruptHoldoffEnd .., _ => execInterruptHoldoffEnd_core ..
  | .watchdogExpiry .., _ => execWatchdogExpiry_core ..
  | .hostSideReset .., _ => execHostSideReset_core ..
  | .d3hotEntry .., _ => execD3hotEntry_core ..
  | .resetAssert .., _ => execResetAssert_core ..
  | .resetRelease .., _ => execResetRelease_core ..
  | .supervisorStart .., _ => execSupervisorStart_core ..
  | .scribeRestartComplete .., _ => execScribeRestartComplete_core ..
  | .tamperDetected .., _ => execTamperDetected_core ..
  | .lifeCycleComplete .., _ => execLifeCycleComplete_core ..
  | .thermtrip .., _ => execThermtrip_core ..
  | .thermalGuard .., _ => execThermalGuard_core ..
  | .temperatureSample .., _ => execTemperatureSample_core ..
  | .modeReservationsDrained .., _ => execModeReservationsDrained_core ..
  | .supplySetPointReached .., _ => execSupplySetPointReached_core ..
  | .paceWithinGoverningRatio .., _ => execPaceWithinGoverningRatio_core ..
  | .governingWaitTimeout .., _ => execGoverningWaitTimeout_core ..
  | .regulatorTimeout .., _ => execRegulatorTimeout_core ..
  | .paceUpdate .., _ => execPaceUpdate_core ..
  | .paceMirrorUpdate .., _ => execPaceMirrorUpdate_core ..
  | .wearRatioUpdate .., _ => execWearRatioUpdate_core ..
  | .bistFailure .., _ => execBistFailure_core ..
  | .wornUnitRetired .., _ => execWornUnitRetired_core ..
  | .scribeCoreTakeover .., _ => execScribeCoreTakeover_core ..
  | .eccError .., _ => execEccError_core ..
  | .sramRepairComplete .., _ => execSramRepairComplete_core ..
  | .filteredCounterWrap .., _ => execFilteredCounterWrap_core ..
  | .counterOverflowSignal .., _ => execCounterOverflowSignal_core ..
  | .frameReceived .., _ => execFrameReceived_core ..
  | .pauseFrame .., _ => execPauseFrame_core ..
  | .pauseWindowOpen .., _ => execPauseWindowOpen_core ..
  | .pauseWindowClose .., _ => execPauseWindowClose_core ..
  | .pauseBudgetExhausted .., _ => execPauseBudgetExhausted_core ..
  | .pauseBudgetRestore .., _ => execPauseBudgetRestore_core ..
  | .linkUp .., _ => execLinkUp_core ..
  | .linkDown .., _ => execLinkDown_core ..
  | .laneSkewChange .., _ => execLaneSkewChange_core ..
  | .lpiEntry .., _ => execLpiEntry_core ..
  | .lpiWake .., _ => execLpiWake_core ..
  | .ntsTransaction .., _ => execNtsTransaction_core ..
  | .ptpTransaction .., _ => execPtpTransaction_core ..
  | .negotiation .., _ => execNegotiation_core ..
  | .grantExpirySweep .., _ => execGrantExpirySweep_core ..
  | .cancellingTimeout .., _ => execCancellingTimeout_core ..
  | .scheduledMessage .., _ => execScheduledMessage_core ..
  | .ptpClientMessage .., _ => execPtpClientMessage_core ..
  | .grantRenewal .., _ => execGrantRenewal_core ..
  | .announceTimeout .., _ => execAnnounceTimeout_core ..
  | .followUpTimeout .., _ => execFollowUpTimeout_core ..
  | .measIntervalEnd .., _ => execMeasIntervalEnd_core ..
  | .pathStableExpiry .., _ => execPathStableExpiry_core ..
  | .policingBankSwap .., _ => execPolicingBankSwap_core ..
  | .sealDeadlineMissed .., _ => execSealDeadlineMissed_core ..
  | .strokeLaunch .., _ => execStrokeLaunch_core ..
  | .hostTimedReserve .., _ => execHostTimedReserve_core ..
  | .transmitDescriptor .., _ => execTransmitDescriptor_core ..
  | .untimedFrameStart .., _ => (exec_untimedFrameStart ..).symm ▸ execUntimedFrameStart_core ..
  | .frameTransmitted .., _ => execFrameTransmitted_core ..
  | .gateListStart .., _ => execGateListStart_core ..
  | .gateEntryBoundary mac, s => execGateEntryBoundary_core mac s
  | .panQueueItemCommit .., _ => execPanQueueItemCommit_core ..
  | .panQueueDelivery .., _ => execPanQueueDelivery_core ..
  | .handover .., _ => execHandover_core ..
  | .timeStepApply .., _ => execTimeStepApply_core ..
  | .recoveryStart .., _ => execRecoveryStart_core ..
  | .clockRestart .., _ => execClockRestart_core ..
  | .leapTableExpiry .., _ => execLeapTableExpiry_core ..
  | .evinEdge .., _ => execEvinEdge_core ..
  | .evoutPulse .., _ => execEvoutPulse_core ..
  | .nibEdge .., _ => execNibEdge_core ..
  | .nibLockUpdate .., _ => execNibLockUpdate_core ..
  | .nibLineSwap .., _ => execNibLineSwap_core ..
  | .nibPairTimeout .., _ => execNibPairTimeout_core ..
  | .nibGateEnd .., _ => execNibGateEnd_core ..
  | .referenceEvaluation .., _ => execReferenceEvaluation_core ..
  | .activityDeadline .., _ => execActivityDeadline_core ..
  | .frequencyGateEnd .., _ => execFrequencyGateEnd_core ..
  | .phaseAverageEnd .., _ => execPhaseAverageEnd_core ..
  | .qualTimeExpiry .., _ => execQualTimeExpiry_core ..
  | .wtrExpiry .., _ => execWtrExpiry_core ..
  | .switchMeasureEnd .., _ => execSwitchMeasureEnd_core ..
  | .switchComplete .., _ => execSwitchComplete_core ..
  | .disagreementCheck .., _ => execDisagreementCheck_core ..
  | .gnssEpoch .., _ => execGnssEpoch_core ..
  | .satelliteExclusionEnd .., _ => execSatelliteExclusionEnd_core ..
  | .checkClear .., _ => execCheckClear_core ..
  | .gnssClockFault .., _ => execGnssClockFault_core ..
  | .gnssClockRestored .., _ => execGnssClockRestored_core ..
  | .correlatorDump .., _ => execCorrelatorDump_core ..
  | .channelTimeout .., _ => execChannelTimeout_core ..
  | .gnssHistogram .., _ => execGnssHistogram_core ..
  | .surveyComplete .., _ => execSurveyComplete_core ..
  | .snapshotArmedStart .., _ => execSnapshotArmedStart_core ..
  | .snapshotComplete .., _ => execSnapshotComplete_core ..
  | .snapshotExportComplete .., _ => execSnapshotExportComplete_core ..
  | .groupDelayMeasureEnd .., _ => execGroupDelayMeasureEnd_core ..
  | .ductusUpdate .., _ => execDuctusUpdate_core ..
  | .lockDwellExpiry .., _ => execLockDwellExpiry_core ..
  | .xoLostClear .., _ => execXoLostClear_core ..
  | .updateTimeout .., _ => execUpdateTimeout_core ..
  | .dpllTracking .., _ => execDpllTracking_core ..
  | .dpllPulling .., _ => execDpllPulling_core ..
  | .marginEvaluation .., _ => execMarginEvaluation_core ..
  | .statementSigned .., _ => execStatementSigned_core ..
  | .boundStale .., _ => execBoundStale_core ..
  | .boundStaleSaturation .., _ => execBoundStaleSaturation_core ..
  | .classHoldExpiry .., _ => execClassHoldExpiry_core ..
  | .apllLock .., _ => execApllLock_core ..
  | .apllSlip .., _ => execApllSlip_core ..
  | .apllReengageTimeout .., _ => execApllReengageTimeout_core ..
  | .limiterGate .., _ => execLimiterGate_core ..
  | .outputAlignedStart .., _ => execOutputAlignedStart_core ..
  | .realignSlewEnd .., _ => execRealignSlewEnd_core ..
  | .frameStep .., _ => execFrameStep_core ..
  | .loopbackComplete .., _ => execLoopbackComplete_core ..
  | .rotationCheck .., _ => execRotationCheck_core ..
  | .keyActivation .., _ => execKeyActivation_core ..
  | .keyRetire .., _ => execKeyRetire_core ..
  | .mintComplete .., _ => execMintComplete_core ..
  | .keyWriteCommit .., _ => execKeyWriteCommit_core ..
  | .compactionComplete .., _ => execCompactionComplete_core ..
  | .drbgReseed .., _ => execDrbgReseed_core ..
  | .healthTestFailure .., _ => execHealthTestFailure_core ..
  | .attestationReady .., _ => execAttestationReady_core ..
  | .entropySampleComplete .., _ => execEntropySampleComplete_core ..
  | .firmwareWriteComplete .., _ => execFirmwareWriteComplete_core ..
  | .firmwareStageComplete .., _ => execFirmwareStageComplete_core ..
  | .stackLinkUp .., _ => execStackLinkUp_core ..
  | .stackLinkDown .., _ => execStackLinkDown_core ..
  | .markerSend .., _ => execMarkerSend_core ..
  | .markerReceived .., _ => execMarkerReceived_core ..
  | .stackTransferInterval .., _ => execStackTransferInterval_core ..
  | .hello .., _ => execHello_core ..
  | .confirm .., _ => execConfirm_core ..
  | .admission .., _ => execAdmission_core ..
  | .heartbeat .., _ => execHeartbeat_core ..
  | .tt .., _ => execTt_core ..
  | .state .., _ => execState_core ..
  | .config .., _ => execConfig_core ..
  | .session .., _ => execSession_core ..
  | .key .., _ => execKey_core ..
  | .ack .., _ => execAck_core ..
  | .activate .., _ => execActivate_core ..
  | .resign .., _ => execResign_core ..
  | .leave .., _ => execLeave_core ..
  | .stackFrameRelay .., _ => execStackFrameRelay_core ..
  | .heartbeatSend .., _ => execHeartbeatSend_core ..
  | .heartbeatMiss .., _ => execHeartbeatMiss_core ..
  | .replicationRetransmit .., _ => execReplicationRetransmit_core ..
  | .stateSend .., _ => execStateSend_core ..
  | .pairingStepTimeout .., _ => execPairingStepTimeout_core ..
  | .witnessTimeout .., _ => execWitnessTimeout_core ..
  | .stackKeySwitch .., _ => execStackKeySwitch_core ..
  | .stackOldKeyExpiry .., _ => execStackOldKeyExpiry_core ..
  | .detachAckTimeout .., _ => execDetachAckTimeout_core ..
  | .powerFailure .., _ => execPowerFailure_core ..
  | .pcieLinkReturn .., _ => execPcieLinkReturn_core ..
  | .aliveIncrement .., _ => execAliveIncrement_core ..

/-- Settles O12: the frame of each command, and no list names the queue. -/
theorem everyCommandKeepsTheOtherParts : Obligations.EveryCommandKeepsTheOtherParts := by
  refine ⟨fun c s t p hNext hOut => ((exec_only c s).next t hNext).same p hOut, fun c => ?_⟩
  cases c <;> exact of_decide_eq_true rfl

/-! ### Every command answers -/

/-- The machine goes on: a next state, neither a fault nor a refusal. -/
def Answers (o : Out) : Prop := ∃ t, o = .next t

theorem answers_ite {c : Prop} [Decidable c] {o p : Out} (ho : Answers o) (hp : Answers p) :
    Answers (if c then o else p) := by
  split
  · exact ho
  · exact hp

theorem runCommand_answers (op : Nat) (ok : Bool) (r : Req) (f : Pend → State → State × Ans) (s : State) :
    Answers (runCommand op ok r f s) := by
  unfold runCommand
  repeat' split
  all_goals exact ⟨_, rfl⟩

theorem runSimple_answers (op len : Nat) (r : Req) (f : State → Except Nat State) (s : State) :
    Answers (runSimple op len r f s) := runCommand_answers ..

theorem runAccepted_answers (op len : Nat) (r : Req) (f : Nat → State → Except Nat State) (s : State) :
    Answers (runAccepted op len r f s) := runCommand_answers ..

theorem runRead_answers (op : Nat) (ok : Bool) (r : Req) (f : State → Except Nat Bytes) (s : State) :
    Answers (runRead op ok r f s) := runCommand_answers ..

theorem runReadBack_answers (op : Nat) (flds : List Fld) (r : Req) (index : Nat) (get : State → Option Rows) (s : State) :
    Answers (runReadBack op flds r index get s) := runRead_answers ..

theorem runConfig_answers (op : Nat) (flds : List Fld) (r : Req) (g : GReq) (get : State → Option Rows)
    (put : Rows → State → Except Nat State) (s : State) : Answers (runConfig op flds r g get put s) := by
  unfold runConfig
  repeat' split
  all_goals exact ⟨_, rfl⟩

theorem runAct_answers (op len : Nat) (r : Req) (a : Option RefAct) (s : State) :
    Answers (runAct op len r a s) :=
  runCommand_answers ..

theorem systemCall_answers (t : Fin 4) (block n : Nat) (f : State → State) (s : State) :
    Answers (systemCall t block n f s) := by
  unfold systemCall
  dsimp only
  repeat' split
  all_goals exact ⟨_, rfl⟩

theorem plainCall_answers (t : Fin 4) (f : State → State) (s : State) : Answers (plainCall t f s) := by
  unfold plainCall
  split
  all_goals exact ⟨_, rfl⟩

theorem execNibEdge_answers (c : Fin 24) (falling : Bool) (sub : Nat) (s : State) :
    Answers (execNibEdge c falling sub s) := by
  refine answers_ite ⟨_, rfl⟩ (answers_ite ?_ ⟨_, rfl⟩)
  split
  all_goals exact ⟨_, rfl⟩

theorem execLifeCycleComplete_answers (s : State) : Answers (execLifeCycleComplete s) := by
  unfold execLifeCycleComplete
  split
  · exact ⟨_, rfl⟩
  · exact answers_ite ⟨_, rfl⟩ (answers_ite ⟨_, rfl⟩ ⟨_, rfl⟩)

theorem execFrameReceived_answers (f : Frame) (s : State) : Answers (execFrameReceived f s) := by
  unfold execFrameReceived
  dsimp only
  iterate 8 refine answers_ite ⟨_, rfl⟩ ?_
  split
  · exact ⟨_, rfl⟩
  · split
    all_goals exact ⟨_, rfl⟩

/-- Log entry 1: a row answers a next state, whatever the state. The rows with no case of their own
(`seal` and `unseal` among them) are commands of the plain shape `runCommand`. -/
theorem exec_answers (c : Instr) (s : State) : Answers (exec c s) := by
  cases c with
  | frequencyGateEnd | marginEvaluation | ductusUpdate =>
    dsimp only [exec]
    exact answers_ite ⟨_, rfl⟩ ⟨_, rfl⟩
  | stackTransferInterval =>
    dsimp only [exec]
    exact answers_ite ⟨_, rfl⟩ (answers_ite ⟨_, rfl⟩ (answers_ite ⟨_, rfl⟩ ⟨_, rfl⟩))
  | lifeCycleComplete => exact execLifeCycleComplete_answers s
  | frameReceived => exact execFrameReceived_answers ..
  | nibEdge => exact execNibEdge_answers ..
  | unknownSystemCall => exact answers_ite ⟨_, rfl⟩ (plainCall_answers ..)
  | timeSet | leapTable | deviceReset | mailboxReset | firmwareConfirm | userLoad | userUnload
  | temperatureReport | dpllEnable | portMode | vlanList | steeringTable | gateList | invalidateKey | keyReplace
  | saInvalidate | zeroise | attestRotate | importRotate | saKeyExport | positionSet | snapshot | channelRelease
  | witness =>
    dsimp only [exec]
    exact runSimple_answers ..
  | timeStep | timeRestart | firmwareWrite | firmwareStage | realign | loopbackCheck | rotateNow | cookieMint
  | lifeCycle | attestation | entropySample | groupDelayMeasure | snapshotExport | pair | detach =>
    dsimp only [exec]
    exact runAccepted_answers ..
  | bootReport | referenceStatus | modelExport | ductusStatus | marginStatus | outputStatus | portStatus
  | egressStatus | ntsStatus | sessionRead | ptpStatus | identityRead | keyStatus | orbitExport | gnssStatus
  | groupDelayResult | channelStatus | stackStatus | calibrationRead | calibrationDigest =>
    dsimp only [exec]
    exact runRead_answers ..
  | referenceConfigureReadBack | monitorConfigureReadBack | selectionConfigureReadBack | ductusConfigureReadBack
  | clockModelReadBack | dpllConfigureReadBack | marginConfigureReadBack | apllConfigureReadBack
  | outputConfigureReadBack | evoutProgramReadBack | evinConfigureReadBack | portConfigureReadBack
  | queueConfigureReadBack | egressConfigureReadBack | serviceAddressConfigReadBack | rotationConfigureReadBack
  | policingProfileReadBack | ptpServiceConfigureReadBack | ptpGlobalConfigureReadBack | saConfigureReadBack
  | clientEntryReadBack | clientConfigureReadBack | tamperConfigureReadBack | gnssPortConfigureReadBack
  | trackingConfigureReadBack | consistencyConfigureReadBack | fixConfigureReadBack | channelConfigureReadBack
  | streamConfigureReadBack | stackConfigureReadBack | filterConfigureReadBack =>
    dsimp only [exec]
    exact runReadBack_answers ..
  | referenceConfigure | monitorConfigure | selectionConfigure | ductusConfigure | clockModel | dpllConfigure
  | marginConfigure | apllConfigure | outputConfigure | evoutProgram | evinConfigure | portConfigure
  | queueConfigure | egressConfigure | serviceAddressConfigure | rotationConfigure | policingProfile
  | ptpServiceConfigure | ptpGlobalConfigure | saConfigure | clientEntry | clientConfigure | tamperConfigure
  | gnssPortConfigure | trackingConfigure | consistencyConfigure | fixConfigure | channelConfigure
  | streamConfigure | stackConfigure | filterConfigure =>
    dsimp only [exec]
    exact runConfig_answers ..
  | referenceEnable | referenceRelease | referenceReject | forceSelect =>
    dsimp only [exec]
    exact runAct_answers ..
  | commandCall | eventWait | timeCall | sleep | hookWait | hookAnswer | signalSet =>
    dsimp only [exec]
    exact systemCall_answers ..
  | signalReturn | exit =>
    dsimp only [exec]
    exact plainCall_answers ..
  | hostSideReset | resetAssert | pauseWindowClose | gateEntryBoundary | nibLockUpdate | activityDeadline
  | satelliteExclusionEnd | gnssHistogram | pairingStepTimeout | stackOldKeyExpiry | powerFailure
  | cancellingTimeout | policingBankSwap => exact ⟨_, rfl⟩
  | scribeRestart | taskReturn | userTaskFault | sleepExpiry | eventWaitTimeout | hookTimeout | mailboxDoorbell
  | emergencyDoorbell | emClaim | emRelease | emOwnershipTimeout | adminLock | cwLatch | dpDataRead =>
    dsimp only [exec]
    simp only [execScribeRestart, execTaskReturn, execUserTaskFault, execSleepExpiry, execEventWaitTimeout, execHookTimeout,
      execMailboxDoorbell, execEmergencyDoorbell, execEmClaim, execEmRelease, execEmOwnershipTimeout,
      execAdminLock, execCwLatch, execDpDataRead]
    repeat' split
    all_goals exact ⟨_, rfl⟩
  | dpDataWrite | bar2Access | dpDmaGo | dpDmaComplete | dpInject | ringEnable | ringDisable | ringTailWrite
  | pqFlush | pqConsumerWrite | panQueuePop | lowHalfRead | registerWrite | spiRead =>
    dsimp only [exec]
    simp only [execDpDataWrite, execBar2Access, execDpDmaGo, execDpDmaComplete, execDpInject, execRingEnable, execRingDisable,
      execRingTailWrite, execPqFlush, execPqConsumerWrite, execPanQueuePop, execLowHalfRead, execRegisterWrite,
      execSpiRead]
    repeat' split
    all_goals exact ⟨_, rfl⟩
  | spiWrite | interruptHoldoffEnd | watchdogExpiry | d3hotEntry | resetRelease | supervisorStart
  | scribeRestartComplete | tamperDetected | thermtrip | thermalGuard | temperatureSample
  | modeReservationsDrained | supplySetPointReached | paceWithinGoverningRatio =>
    dsimp only [exec]
    simp only [execSpiWrite, execInterruptHoldoffEnd, execWatchdogExpiry, execD3hotEntry, execResetRelease, execSupervisorStart,
      execScribeRestartComplete, execTamperDetected, execThermtrip, execThermalGuard, execTemperatureSample,
      execModeReservationsDrained, execSupplySetPointReached, execPaceWithinGoverningRatio]
    repeat' split
    all_goals exact ⟨_, rfl⟩
  | governingWaitTimeout | regulatorTimeout | paceUpdate | paceMirrorUpdate | wearRatioUpdate | bistFailure
  | wornUnitRetired | scribeCoreTakeover | eccError | sramRepairComplete | filteredCounterWrap
  | counterOverflowSignal | pauseFrame | pauseWindowOpen =>
    dsimp only [exec]
    simp only [execGoverningWaitTimeout, execRegulatorTimeout, execPaceUpdate, execPaceMirrorUpdate, execWearRatioUpdate,
      execBistFailure, execWornUnitRetired, execScribeCoreTakeover, execEccError, execSramRepairComplete,
      execFilteredCounterWrap, execCounterOverflowSignal, execPauseFrame, execPauseWindowOpen]
    repeat' split
    all_goals exact ⟨_, rfl⟩
  | pauseBudgetExhausted | pauseBudgetRestore | linkUp | linkDown | laneSkewChange | lpiEntry | lpiWake
  | ntsTransaction | ptpTransaction | negotiation | grantExpirySweep | scheduledMessage | ptpClientMessage
  | grantRenewal =>
    dsimp only [exec]
    simp only [execPauseBudgetExhausted, execPauseBudgetRestore, execLinkUp, execLinkDown, execLaneSkewChange, execLpiEntry,
      execLpiWake, execNtsTransaction, execPtpTransaction, execNegotiation, execGrantExpirySweep,
      execScheduledMessage, execPtpClientMessage, execGrantRenewal]
    repeat' split
    all_goals exact ⟨_, rfl⟩
  | announceTimeout | followUpTimeout | measIntervalEnd | pathStableExpiry | sealDeadlineMissed | strokeLaunch
  | hostTimedReserve | transmitDescriptor | untimedFrameStart | frameTransmitted | gateListStart
  | panQueueItemCommit | panQueueDelivery | handover =>
    dsimp only [exec]
    simp only [execAnnounceTimeout, execFollowUpTimeout, execMeasIntervalEnd, execPathStableExpiry, execSealDeadlineMissed,
      execStrokeLaunch, execHostTimedReserve, execTransmitDescriptor, execUntimedFrameStart,
      execFrameTransmitted, execGateListStart, execPanQueueItemCommit, execPanQueueDelivery, execHandover]
    repeat' split
    all_goals exact ⟨_, rfl⟩
  | timeStepApply | recoveryStart | clockRestart | leapTableExpiry | evinEdge | evoutPulse | nibLineSwap
  | nibPairTimeout | nibGateEnd | referenceEvaluation | phaseAverageEnd | qualTimeExpiry | wtrExpiry
  | switchMeasureEnd =>
    dsimp only [exec]
    simp only [execTimeStepApply, execRecoveryStart, execClockRestart, execLeapTableExpiry, execEvinEdge, execEvoutPulse,
      execNibLineSwap, execNibPairTimeout, execNibGateEnd, execReferenceEvaluation, execPhaseAverageEnd,
      execQualTimeExpiry, execWtrExpiry, execSwitchMeasureEnd]
    repeat' split
    all_goals exact ⟨_, rfl⟩
  | switchComplete | disagreementCheck | gnssEpoch | checkClear | gnssClockFault | gnssClockRestored
  | correlatorDump | channelTimeout | surveyComplete | snapshotArmedStart | snapshotComplete
  | snapshotExportComplete | groupDelayMeasureEnd | lockDwellExpiry =>
    dsimp only [exec]
    simp only [execSwitchComplete, execDisagreementCheck, execGnssEpoch, execCheckClear, execGnssClockFault,
      execGnssClockRestored, execCorrelatorDump, execChannelTimeout, execSurveyComplete, execSnapshotArmedStart,
      execSnapshotComplete, execSnapshotExportComplete, execGroupDelayMeasureEnd, execLockDwellExpiry]
    repeat' split
    all_goals exact ⟨_, rfl⟩
  | xoLostClear | updateTimeout | dpllTracking | dpllPulling | statementSigned | boundStale
  | boundStaleSaturation | classHoldExpiry | apllLock | apllSlip | apllReengageTimeout | limiterGate
  | outputAlignedStart | realignSlewEnd =>
    dsimp only [exec]
    simp only [execXoLostClear, execUpdateTimeout, execDpllTracking, execDpllPulling, execStatementSigned, execBoundStale,
      execBoundStaleSaturation, execClassHoldExpiry, execApllLock, execApllSlip, execApllReengageTimeout,
      execLimiterGate, execOutputAlignedStart, execRealignSlewEnd]
    repeat' split
    all_goals exact ⟨_, rfl⟩
  | frameStep | loopbackComplete | rotationCheck | keyActivation | keyRetire | mintComplete | keyWriteCommit
  | compactionComplete | drbgReseed | healthTestFailure | attestationReady | entropySampleComplete
  | firmwareWriteComplete | firmwareStageComplete =>
    dsimp only [exec]
    simp only [execFrameStep, execLoopbackComplete, execRotationCheck, execKeyActivation, execKeyRetire, execMintComplete,
      execKeyWriteCommit, execCompactionComplete, execDrbgReseed, execHealthTestFailure, execAttestationReady,
      execEntropySampleComplete, execFirmwareWriteComplete, execFirmwareStageComplete]
    repeat' split
    all_goals exact ⟨_, rfl⟩
  | stackLinkUp | stackLinkDown | markerSend | markerReceived | hello | confirm | admission | heartbeat | tt
  | state | config | session | key | ack =>
    dsimp only [exec]
    simp only [execStackLinkUp, execStackLinkDown, execMarkerSend, execMarkerReceived, execHello, execConfirm, execAdmission,
      execHeartbeat, execTt, execState, execConfig, execSession, execKey, execAck]
    repeat' split
    all_goals exact ⟨_, rfl⟩
  | activate | resign | leave | stackFrameRelay | heartbeatSend | heartbeatMiss | replicationRetransmit
  | stateSend | witnessTimeout | stackKeySwitch | detachAckTimeout | pcieLinkReturn | aliveIncrement =>
    dsimp only [exec]
    simp only [execActivate, execResign, execLeave, execStackFrameRelay, execHeartbeatSend, execHeartbeatMiss,
      execReplicationRetransmit, execStateSend, execWitnessTimeout, execStackKeySwitch, execDetachAckTimeout,
      execPcieLinkReturn, execAliveIncrement]
    repeat' split
    all_goals exact ⟨_, rfl⟩
  | _ =>
    dsimp only [exec]
    exact runCommand_answers ..

/-- Settles O11. -/
theorem everyCommandAnswersANextState : Obligations.EveryCommandAnswersANextState := exec_answers

end Sys2Proof.Machine
end

section
/-! PROOF of O15 (17 R476 to R478): what each operation that writes the wear leaves of the calibration record, then the
commands and the tick. -/

namespace Sys2Proof.Machine

/-! ### The record and its generation (17 R476, R478) -/

/-- The calibration record and CAL_GENERATION. -/
def calOf (s : State) : Memory × Nat := (s.wear.calRecord, s.wear.calGeneration)

/-- Whoever writes other parts of the state than the wear keeps the record. -/
theorem calOf_of_only {ws : List Part} {s t : State} (h : Only ws s t) (hWear : Part.wear ∉ ws := by decide) :
    calOf t = calOf s :=
  congrArg (fun w : Wear => (w.calRecord, w.calGeneration)) (h.same .wear hWear)

theorem calOf_forAll {α : Type} {f : α → State → State}
    (h : ∀ a t, calOf (f a t) = calOf t) (l : List α) (s : State) :
    calOf (forAll l f s) = calOf s := forAll_keeps calOf h l s

theorem calOf_ite {c : Prop} [Decidable c] {s t u : State} (ht : calOf t = calOf s) (hu : calOf u = calOf s) :
    calOf (if c then t else u) = calOf s := by
  split
  · exact ht
  · exact hu

section
variable (s : State)

@[simp] theorem calOf_modPower (f : Power → Power) : calOf (s.modPower f) = calOf s := rfl
@[simp] theorem calOf_modSel (f : Selection → Selection) : calOf (s.modSel f) = calOf s := rfl
@[simp] theorem calOf_modGnss (f : Gnss → Gnss) : calOf (s.modGnss f) = calOf s := rfl
@[simp] theorem calOf_modNts (f : Nts → Nts) : calOf (s.modNts f) = calOf s := rfl
@[simp] theorem calOf_modPtp (f : Ptp → Ptp) : calOf (s.modPtp f) = calOf s := rfl
@[simp] theorem calOf_modKeys (f : Keys → Keys) : calOf (s.modKeys f) = calOf s := rfl
@[simp] theorem calOf_modNib (c : Fin 24) (f : NibChannel → NibChannel) : calOf (s.modNib c f) = calOf s := rfl
@[simp] theorem calOf_modHost (f : HostIf → HostIf) : calOf (s.modHost f) = calOf s := rfl
@[simp] theorem calOf_modTask (t : Fin 4) (f : Task → Task) : calOf (s.modTask t f) = calOf s := rfl
@[simp] theorem calOf_modTx (r : Fin 64) (f : Ring → Ring) : calOf (s.modTx r f) = calOf s := rfl
@[simp] theorem calOf_raise (code a b : Nat) : calOf (raise code a b s) = calOf s := rfl
@[simp] theorem calOf_setCause (n : Nat) : calOf (setCause n s) = calOf s := calOf_of_only (setCause_core ..)
@[simp] theorem calOf_completeCmd (op q st : Nat) (src : Source) :
    calOf (completeCmd op q st src s) = calOf s := rfl

/-- An update of the wear that leaves the two fields keeps them. -/
theorem calOf_modWear {f : Wear → Wear} (hRecord : ∀ w, (f w).calRecord = w.calRecord)
    (hGeneration : ∀ w, (f w).calGeneration = w.calGeneration) : calOf (s.modWear f) = calOf s :=
  Prod.ext (hRecord s.wear) (hGeneration s.wear)

/-! ### Units, repairs and counters (17 R464 to R475) -/

@[simp] theorem calOf_modUnit (cls n : Nat) (f : WearUnit → WearUnit) : calOf (modUnit cls n f s) = calOf s :=
  calOf_modWear s (fun w => by split <;> rfl) (fun w => by split <;> rfl)

@[simp] theorem calOf_setUnit (cls n : Nat) (st : UnitState) :
    calOf (setUnit cls n st s) = calOf s := calOf_modUnit ..

@[simp] theorem calOf_ledger (kind cls unit spare left w cause : Nat) :
    calOf (ledger kind cls unit spare left w cause s) = calOf s := rfl

@[simp] theorem calOf_wearEvent (code cls unit spare argB : Nat) :
    calOf (wearEvent code cls unit spare argB s) = calOf s := rfl

@[simp] theorem calOf_modArray (a : Fin 256) (f : SubArray → SubArray) : calOf (modArray a f s) = calOf s := rfl

@[simp] theorem calOf_moveChannel (unit spare : Nat) : calOf (moveChannel unit spare s) = calOf s :=
  calOf_of_only (moveChannel_core ..)

@[simp] theorem calOf_bringIn (cls unit cause w : Nat) : calOf (bringIn cls unit cause w s) = calOf s := by
  unfold bringIn
  repeat' split
  all_goals simp

@[simp] theorem calOf_warnUnit (cls unit : Nat) : calOf (warnUnit cls unit s) = calOf s := by
  unfold warnUnit
  split
  · rfl
  · simp [apply_ite calOf]

@[simp] theorem calOf_unitError (cls unit : Nat) : calOf (unitError cls unit s) = calOf s := by
  unfold unitError
  dsimp only
  repeat' split
  all_goals simp

@[simp] theorem calOf_beginRepair (a : Fin 256) (column : Bool) (line cause : Nat) :
    calOf (beginRepair a column line cause s) = calOf s := by
  unfold beginRepair
  simp [apply_ite calOf]

@[simp] theorem calOf_correctedError (a : Fin 256) (row column : Nat) :
    calOf (correctedError a row column s) = calOf s := by
  unfold correctedError
  simp [apply_ite calOf]

@[simp] theorem calOf_wrapCounter (n : Fin 32) : calOf (wrapCounter n s) = calOf s := by
  unfold wrapCounter
  dsimp only
  split
  · rw [calOf_raise, calOf_setCause]
    rfl
  · rfl

@[simp] theorem calOf_countOne (n : Fin 32) : calOf (countOne n s) = calOf s := by
  unfold countOne
  split
  · rfl
  · exact calOf_wrapCounter s n

@[simp] theorem calOf_countEvent (code : Nat) (admits : FilterCfg → Bool) :
    calOf (countEvent code admits s) = calOf s :=
  calOf_forAll (fun n t => calOf_countOne t n) _ s

@[simp] theorem calOf_countAdmitted (activity : Nat) :
    calOf (countAdmitted activity s) = calOf s := calOf_countEvent ..

@[simp] theorem calOf_countEcc (code : Nat) (a : Fin 256) : calOf (countEcc code a s) = calOf s := by
  refine calOf_forAll (fun n t => ?_) _ s
  dsimp only
  split
  · rfl
  split
  · exact calOf_countOne t n
  have hChoice : calOf (freshChoice t).2 = calOf t := rfl
  split
  · exact (calOf_countOne ..).trans hChoice
  · exact hChoice

@[simp] theorem calOf_retireTap (c : Fin 24) (lineB : Bool) (tap : Nat) :
    calOf (retireTap c lineB tap s) = calOf s := by
  unfold retireTap
  simp [apply_ite calOf]

@[simp] theorem calOf_fatal : calOf (fatal s) = calOf s := calOf_of_only (fatal_core s)

@[simp] theorem calOf_dropVictim (v : Victim) :
    calOf (dropVictim v s) = calOf s := calOf_of_only (dropVictim_core ..)

/-! ### Speed modes (01 R44 to R49) -/

@[simp] theorem calOf_changeRule (f : Power → Power) : calOf (changeRule f s) = calOf s :=
  calOf_of_only (changeRule_core ..)

@[simp] theorem calOf_modeTouched (b : Bool) :
    calOf (s.modWear fun w => { w with modeTouched := b }) = calOf s := rfl

@[simp] theorem calOf_beginChange (m : SpeedMode) (guard : Bool) (source : Option (Source × Nat)) :
    calOf (beginChange m guard source s) = calOf s := by
  rw [beginChange, calOf_modeTouched, calOf_changeRule]

@[simp] theorem calOf_endChange (c : ModeChange) (above : Bool) : calOf (endChange c above s) = calOf s := by
  unfold endChange
  dsimp only
  split
  all_goals simp only [calOf_completeCmd, calOf_raise, calOf_modeTouched, calOf_changeRule]

/-! ### Frames of the host, injections and requests of the services (10 R279; 14 R392, R393; 11 R297; 12 R321) -/

theorem calOf_hostReserve {m : Fin 16} {requester launchAt length data : Nat} {o : Origin} {t : State}
    (h : hostReserve m requester launchAt length o data s = some t) : calOf t = calOf s := by
  obtain ⟨x, hSlot, rfl⟩ := Option.map_eq_some_iff.mp h
  exact (calOf_countAdmitted ..).trans (calOf_of_only ((reserve_core ..).some x hSlot))

theorem calOf_reserveDesc {r : Fin 64} {i : Nat} {m : Fin 16} {d : TxDesc} {t : State}
    (h : reserveDesc r i m d s = some t) : calOf t = calOf s := by
  unfold reserveDesc at h
  split at h
  · exact calOf_hostReserve s h
  · cases h

theorem calOf_injReserve {m : Fin 16} {slot : Fin 64} {x : InjHeader} {t : State}
    (h : injReserve m slot x s = some t) : calOf t = calOf s := by
  unfold injReserve at h
  split at h
  · exact calOf_hostReserve s h
  · cases h

@[simp] theorem calOf_hostDrop (o : Origin) (m length committed outcome : Nat) :
    calOf (hostDrop o m length committed outcome s) = calOf s := calOf_of_only (hostDrop_core ..)

@[simp] theorem calOf_pushFrame (m : Fin 16) (q : Fin 32) (f : QFrame) :
    calOf (pushFrame m q f s) = calOf s := rfl

@[simp] theorem calOf_inject (slot : Fin 64) : calOf (inject slot s) = calOf s := by
  unfold inject
  dsimp only
  split
  · exact calOf_hostDrop ..
  · split
    · split
      · exact calOf_hostDrop ..
      · split
        next hSlot => exact calOf_injReserve s hSlot
        next => rfl
    · split
      all_goals rfl

@[simp] theorem calOf_writeInject (slot : Fin 64) : calOf (writeInject slot s) = calOf s := by
  unfold writeInject
  split
  · rfl
  · exact calOf_inject ..

@[simp] theorem calOf_retryInjections : calOf (retryInjections s) = calOf s := by
  unfold retryInjections
  split
  · rfl
  · exact calOf_forAll (fun slot t => calOf_inject t slot) _ _

@[simp] theorem calOf_ntsDrop (i : Fin 64) (k : Fin 21) (row : Nat) : calOf (ntsDrop i k row s) = calOf s :=
  calOf_of_only (ntsDrop_core ..)

@[simp] theorem calOf_settleBuckets : calOf (settleBuckets s) = calOf s := rfl

theorem calOf_admitNts {q : NtsRequest} {blocks : Option Nat} {t : State} (h : admitNts q blocks s = some t) :
    calOf t = calOf s := by
  unfold admitNts at h
  dsimp only at h
  repeat' split at h
  all_goals cases h
  · rw [calOf_countAdmitted, calOf_modNts]
  · rw [calOf_countAdmitted, calOf_modNts, calOf_modNts, calOf_settleBuckets]

theorem calOf_ntsRequest (i : Fin 64) (f : Frame) (ip : IpHdr) (srcPort : Nat) (m : NtpMsg) (stamp : Nat) :
    calOf (ntsRequest i f ip srcPort m stamp s) = calOf s := by
  unfold ntsRequest
  dsimp only
  split
  · exact calOf_ntsDrop ..
  split
  · exact calOf_ntsDrop ..
  split
  · exact calOf_ntsDrop ..
  have hPoliced := calOf_of_only (policeRequest_core i ((asFin 8 s.net.nts.addresses[i].cfg.profile).getD 0) ip
    (decide (m.fields = [])) s)
  split
  next hDrop => rwa [hDrop] at hPoliced
  next hPass =>
    rw [hPass] at hPoliced
    split
    next hAdmit => exact (calOf_admitNts _ hAdmit).trans hPoliced
    next =>
      refine Eq.trans (calOf_of_only (ntsShareDrop_core ..)) (Eq.trans ?_ hPoliced)
      split
      all_goals rfl

theorem calOf_admitDelayReq (i : Fin 16) (f : Frame) (ip : IpHdr) (srcPort : Nat) (m : PtpMsg) (stamp : Nat) :
    calOf (admitDelayReq i f ip srcPort m stamp s) = calOf s := by
  have hSettled : calOf (settleCounts s) = calOf s := calOf_of_only (settleCounts_core s)
  refine Eq.trans ?_ hSettled
  unfold admitDelayReq
  dsimp only
  generalize settleCounts s = t
  split
  · exact calOf_of_only (ptpDrop_core ..)
  split
  · exact calOf_of_only (ptpDrop_core ..)
  split
  · exact (calOf_of_only (raiseOnce_core ..)).trans (calOf_of_only (countPtp_core ..))
  split
  · exact calOf_of_only (ptpShareDrop_core ..)
  · rw [calOf_countAdmitted, calOf_modPtp, modSession, calOf_modPtp]

theorem calOf_ptpRequest (i : Fin 16) (f : Frame) (ip : IpHdr) (srcPort dstPort : Nat) (m : PtpMsg) (stamp : Nat) :
    calOf (ptpRequest i f ip srcPort dstPort m stamp s) = calOf s := by
  have hDrop (k : Fin 27) : calOf (ptpDrop i k s) = calOf s := calOf_of_only (ptpDrop_core ..)
  have hShare : calOf (ptpShareDrop i s) = calOf s := calOf_of_only (ptpShareDrop_core ..)
  have hClient (e : Fin 16) : calOf (admitClient e f m stamp s) = calOf s := calOf_of_only (admitClient_core ..)
  have hMask : calOf (markMask 0x0710 i.val 0 (countPtp i pNegBacklog s)) = calOf s :=
    (calOf_of_only (markMask_core ..)).trans (calOf_of_only (countPtp_core ..))
  unfold ptpRequest
  dsimp only
  iterate 7 refine calOf_ite (hDrop _) ?_
  split
  · exact hDrop _
  split
  · exact calOf_ite hShare (hClient _)
  repeat' split
  · exact calOf_admitDelayReq ..
  · exact hShare
  · exact hMask
  · rfl

theorem calOf_rxService (v : Service) (f : Frame) (ip : IpHdr) (u : UdpHdr) :
    calOf (rxService v f ip u s) = calOf s := by
  have hDrop (k : Fin 13) : calOf (dropFrame f.mac k s) = calOf s := calOf_of_only (dropFrame_core ..)
  unfold rxService
  dsimp only
  refine calOf_ite (hDrop _) (calOf_ite (hDrop _) ?_)
  cases v with
  | nts i => exact calOf_ite (hDrop _) (calOf_ntsRequest ..)
  | ptp i => exact calOf_ite (hDrop _) (calOf_ptpRequest ..)

/-! ### User tasks (14 R404, R406) -/

@[simp] theorem calOf_releaseHook : calOf (releaseHook s) = calOf s := calOf_of_only (releaseHook_core s)

@[simp] theorem calOf_taskAnswer (t : Fin 4) (st at_ : Nat) (d : Bytes) :
    calOf (taskAnswer t st at_ d s) = calOf s := rfl

/-- 14 R404: no counter owes a signal any more. -/
@[simp] theorem calOf_forgetOwed (f : Fin 32 → Filtered → Filtered) :
    calOf (s.modWear fun w => { w with filters := vmap f w.filters }) = calOf s := rfl

@[simp] theorem calOf_stopTask (t : Fin 4) (cause : Nat) : calOf (stopTask t cause s) = calOf s := by
  unfold stopTask
  simp [apply_ite calOf]

/-! ### The register window (14 R375) -/

theorem calOf_writeDataPort (port : Port) (o mask value : Nat) :
    calOf (writeDataPort port o mask value s) = calOf s := by
  unfold writeDataPort
  dsimp only
  refine calOf_ite rfl ?_
  split
  case h_2 => exact calOf_of_only (writeDpData_core ..)
  case h_6 => exact calOf_of_only (writeDmaCtrl_core ..)
  case h_7 =>
    split
    · exact calOf_writeInject ..
    · rfl
  all_goals rfl

theorem calOf_regWrite (port : Port) (a mask value : Nat) : calOf (regWrite port a mask value s) = calOf s := by
  unfold regWrite
  refine calOf_ite rfl (calOf_ite (calOf_of_only (writeInterrupt_core ..)) (calOf_ite
    (calOf_of_only (writeMailboxes_core ..)) (calOf_ite (calOf_of_only (writeEmergency_core ..))
    (calOf_ite (calOf_writeDataPort ..) (calOf_ite rfl (calOf_ite ?queue (calOf_ite ?ring (calOf_ite rfl rfl))))))))
  case queue =>
    split
    · exact calOf_of_only (writeQueue_core ..)
    · rfl
  case ring =>
    split
    · exact calOf_of_only (writeRing_core ..)
    · rfl

theorem calOf_spiWrites (words : List Nat) :
    ∀ (a : Nat) (s : State), calOf (spiWrites a words s) = calOf s := by
  induction words with
  | nil => exact fun _ _ => rfl
  | cons v vs ih =>
    intro a s
    rw [spiWrites, ih]
    split
    · exact calOf_regWrite ..
    · rfl

theorem calOf_tick : calOf (tick s) = calOf s := by
  have hAfter (t : State) : calOf (afterTick t) = calOf t := by
    rw [afterTick, calOf_retryInjections, calOf_of_only (flushSummaries_core _), calOf_countEvent]
  unfold tick
  split
  · rfl
  all_goals exact hAfter _

end

/-! ### What each command leaves of the record -/

/-- The record is the same in every next state. -/
structure CalKept (s : State) (o : Out) : Prop where
  next : ∀ t, o = .next t → calOf t = calOf s

theorem calKept_next {s t : State} (h : calOf t = calOf s) : CalKept s (.next t) :=
  ⟨by
    rintro _ ⟨⟩
    exact h⟩

theorem calKept_ite {c : Prop} [Decidable c] {s : State} {o p : Out} (ho : CalKept s o) (hp : CalKept s p) :
    CalKept s (if c then o else p) := by
  split
  · exact ho
  · exact hp

theorem calOf_answer (src : Source) (a : Ans) (s : State) : calOf (answer src a s) = calOf s :=
  calOf_of_only (answer_core ..)

theorem calKept_runCommand {op : Nat} {ok : Bool} {r : Req} {f : Pend → State → State × Ans} {s : State}
    (h : ∀ p u, calOf (f p u).1 = calOf u) : CalKept s (runCommand op ok r f s) := by
  unfold runCommand
  split
  · exact calKept_next rfl
  · exact calKept_ite (calKept_next ((calOf_answer ..).trans (h _ _))) (calKept_next (calOf_answer ..))

theorem calOf_reply {o : Except Nat State} {s : State} (h : ∀ t, o = .ok t → calOf t = calOf s) :
    calOf (reply s o).1 = calOf s := by
  cases o with
  | error e => rfl
  | ok t => exact h t rfl

theorem ok_of_need {α : Type} {c : Bool} {e : Nat} {k : Unit → Except Nat α} {a : α}
    (h : (need c e >>= k) = .ok a) : k () = .ok a := by
  cases c with
  | false => cases h
  | true => exact h

theorem calKept_runSimple {op len : Nat} {r : Req} {f : State → Except Nat State} {s : State}
    (h : ∀ u t, f u = .ok t → calOf t = calOf u) : CalKept s (runSimple op len r f s) :=
  calKept_runCommand fun _ u => calOf_reply (h u)

theorem calKept_runConfig {op : Nat} {flds : List Fld} {r : Req} {g : GReq} {get : State → Option Rows}
    {put : Rows → State → Except Nat State} {s : State} (h : ∀ rows t, put rows s = .ok t → calOf t = calOf s) :
    CalKept s (runConfig op flds r g get put s) := by
  unfold runConfig
  split
  · exact calKept_next rfl
  refine calKept_ite (calKept_next (calOf_answer ..)) ?_
  split
  · exact calKept_next (calOf_answer ..)
  split
  · exact calKept_next (calOf_answer ..)
  refine calKept_ite (calKept_next (calOf_answer ..)) (calKept_ite (calKept_next (calOf_answer ..)) ?_)
  exact calKept_next ((calOf_answer ..).trans (calOf_reply (h _)))

theorem calKept_systemCall {t : Fin 4} {block n : Nat} {f : State → State} {s : State}
    (h : ∀ u, calOf (f u) = calOf u) : CalKept s (systemCall t block n f s) := by
  unfold systemCall
  refine calKept_ite (calKept_next rfl) (calKept_ite (calKept_next ?_) (calKept_next ?_))
  · exact (h _).trans (calOf_countEvent ..)
  · rw [calOf_stopTask, calOf_countEvent]

theorem calKept_plainCall {t : Fin 4} {f : State → State} {s : State} (h : ∀ u, calOf (f u) = calOf u) :
    CalKept s (plainCall t f s) :=
  calKept_ite (calKept_next ((h _).trans (calOf_countEvent ..))) (calKept_next rfl)

section
variable (s : State)

theorem execFilterConfigure_calKept (r : Req) (g : GReq) : CalKept s (execFilterConfigure r g s) := by
  refine calKept_runConfig fun rows t ht => ?_
  have hPut := ok_of_need ht
  split at hPut
  · rw [← Except.ok.inj hPut]
    rfl
  · cases hPut

theorem execFilteredCounterWrap_calKept (n : Fin 32) : CalKept s (execFilteredCounterWrap n s) :=
  calKept_ite (calKept_next (calOf_wrapCounter ..)) (calKept_next rfl)

theorem execCounterOverflowSignal_calKept (n : Fin 32) (resume : Nat) :
    CalKept s (execCounterOverflowSignal n resume s) := by
  refine calKept_ite (calKept_next rfl) ?_
  split
  · exact calKept_next rfl
  · exact calKept_ite (calKept_next rfl) (calKept_next rfl)

theorem execWearRatioUpdate_calKept (means : List Nat) (junctionMean : Int) :
    CalKept s (execWearRatioUpdate means junctionMean s) := by
  refine calKept_ite (calKept_next rfl) (calKept_next ?_)
  rw [calOf_modeTouched, calOf_forAll fun cls t => calOf_forAll (fun x u => calOf_bringIn ..) ..,
    calOf_forAll fun x t => calOf_warnUnit ..]
  refine calOf_ite rfl (calOf_forAll (fun x t => ?_) _ _)
  exact (calOf_modUnit ..).trans (calOf_of_only (wearRatio_core ..))

theorem execBistFailure_calKept (cls unit : Nat) : CalKept s (execBistFailure cls unit s) := by
  unfold execBistFailure
  split
  · exact calKept_next rfl
  · refine calKept_ite (calKept_next ?_) (calKept_next (calOf_bringIn ..))
    rw [calOf_ledger, calOf_setUnit]

theorem execWornUnitRetired_calKept (cls unit : Nat) : CalKept s (execWornUnitRetired cls unit s) := by
  unfold execWornUnitRetired
  split
  · exact calKept_ite (calKept_next (calOf_setUnit ..)) (calKept_next rfl)
  · exact calKept_next rfl

theorem execScribeCoreTakeover_calKept (core : Nat) : CalKept s (execScribeCoreTakeover core s) := by
  unfold execScribeCoreTakeover
  split
  · exact calKept_next rfl
  · refine calKept_ite (calKept_next rfl) ?_
    split
    all_goals exact calKept_next (by simp)

theorem execEccError_calKept (a : Fin 256) (row column : Nat) (b : Bool) (unit : Option (Nat × Nat))
    (victim : Option Victim) : CalKept s (execEccError a row column b unit victim s) := by
  unfold execEccError
  rcases unit with _ | ⟨c, n⟩
  all_goals
    cases b
    all_goals
      cases victim
      all_goals exact calKept_next (by simp [apply_ite calOf])

theorem execSramRepairComplete_calKept (a : Fin 256) : CalKept s (execSramRepairComplete a s) := by
  unfold execSramRepairComplete
  dsimp only
  split
  · exact calKept_next rfl
  · exact calKept_next (by simp)

theorem execUserUnload_calKept (r : Req) : CalKept s (execUserUnload r s) := by
  refine calKept_runSimple fun u t ht => ?_
  rw [← Except.ok.inj ht]
  exact calOf_ite ((calOf_releaseHook ..).trans rfl) rfl

theorem execCommandCall_calKept (t : Fin 4) (block op q len flags : Nat) :
    CalKept s (execCommandCall t block op q len flags s) :=
  calKept_systemCall fun u => calOf_ite ((calOf_of_only (takeUp_core ..)).trans (calOf_modTask ..)) rfl

theorem execEventWait_calKept (t : Fin 4) (block mask n : Nat) :
    CalKept s (execEventWait t block mask n s) := by
  refine calKept_systemCall fun u => ?_
  split
  next hServed => exact calOf_of_only ((serveEvent_core ..).some _ hServed)
  next => exact calOf_ite rfl rfl

theorem execTimeCall_calKept (t : Fin 4) (block : Nat) : CalKept s (execTimeCall t block s) :=
  calKept_systemCall fun u => (calOf_taskAnswer ..).trans (calOf_of_only (dpWrite_core ..))

theorem execSleep_calKept (t : Fin 4) (block us : Nat) : CalKept s (execSleep t block us s) :=
  calKept_systemCall fun _ => calOf_ite rfl rfl

theorem execHookWait_calKept (t : Fin 4) (block : Nat) : CalKept s (execHookWait t block s) :=
  calKept_systemCall fun _ => calOf_ite rfl rfl

theorem execHookAnswer_calKept (t : Fin 4) (block : Nat) (a : HookAnswer) :
    CalKept s (execHookAnswer t block a s) := by
  refine calKept_systemCall fun u => ?_
  split
  · rfl
  · exact calOf_ite rfl ((calOf_of_only (finishEvaluation_only (.refl _ _) (by decide)
      (ws := [.clock, .refs, .sel, .ductus, .margin, .synth, .net, .stack, .host]))).trans rfl)

theorem execSignalSet_calKept (t : Fin 4) (block h : Nat) : CalKept s (execSignalSet t block h s) :=
  calKept_systemCall fun _ => calOf_ite rfl rfl

theorem execSignalReturn_calKept (t : Fin 4) :
    CalKept s (execSignalReturn t s) := calKept_plainCall fun _ => rfl

theorem execExit_calKept (t : Fin 4) :
    CalKept s (execExit t s) := calKept_plainCall fun u => calOf_stopTask u t 3

theorem execUnknownSystemCall_calKept (t : Fin 4) (n : Nat) : CalKept s (execUnknownSystemCall t n s) :=
  calKept_ite (calKept_next rfl) (calKept_plainCall fun _ => rfl)

theorem execTaskReturn_calKept (t : Fin 4) : CalKept s (execTaskReturn t s) :=
  calKept_ite (calKept_next (calOf_stopTask ..)) (calKept_next rfl)

theorem execUserTaskFault_calKept (t : Fin 4) (b : Bool) : CalKept s (execUserTaskFault t b s) :=
  calKept_ite (calKept_next (calOf_stopTask ..)) (calKept_next rfl)

theorem execHookTimeout_calKept (t : Fin 4) : CalKept s (execHookTimeout t s) := by
  refine calKept_ite (calKept_next rfl) (calKept_ite (calKept_next ?_) (calKept_next ?_))
  · rw [calOf_stopTask, calOf_modSel]
  · rw [calOf_releaseHook, calOf_modSel]

theorem execDpInject_calKept (slot : Fin 64) : CalKept s (execDpInject slot s) :=
  calKept_ite (calKept_next (calOf_writeInject ..)) (calKept_next rfl)

theorem execTransmitDescriptor_calKept (ring : Fin 64) (d : TxDesc) :
    CalKept s (execTransmitDescriptor ring d s) := by
  have hTaken : calOf (takeDesc ring s) = calOf s := calOf_of_only (takeDesc_core ..)
  have hDropped (asked outcome : Nat) : calOf (hostDrop (.ring ring s.host.tx[ring].fetched) d.mac (d.length + 4) asked
      outcome (takeDesc ring s)) = calOf s := (calOf_hostDrop ..).trans hTaken
  refine calKept_ite (calKept_next rfl) ?_
  split
  · exact calKept_next (hDropped ..)
  refine calKept_ite (calKept_ite (calKept_next (hDropped ..)) ?_) ?_
  · split
    next hSlot => exact calKept_next ((calOf_reserveDesc _ hSlot).trans hTaken)
    next => exact calKept_next hTaken
  · split
    all_goals exact calKept_next hTaken

theorem execHostTimedReserve_calKept (ring : Fin 64) : CalKept s (execHostTimedReserve ring s) := by
  unfold execHostTimedReserve
  split
  · exact calKept_next rfl
  refine calKept_ite (calKept_next rfl) ?_
  split
  · exact calKept_next ((calOf_hostDrop ..).trans (calOf_modTx ..))
  split
  next hSlot => exact calKept_next ((calOf_modTx ..).trans (calOf_reserveDesc s hSlot))
  next => exact calKept_next rfl

theorem execNibLineSwap_calKept (c : Fin 24) (worn : Option (Nat × Bool)) :
    CalKept s (execNibLineSwap c worn s) := by
  refine calKept_ite (calKept_next rfl) ?_
  split
  · exact calKept_next rfl
  · exact calKept_ite (calKept_next ((calOf_retireTap ..).trans (calOf_modNib ..))) (calKept_next (calOf_retireTap ..))

theorem execSpeedMode_calKept (r : Req) (mode : Nat) : CalKept s (execSpeedMode r mode s) := by
  refine calKept_runCommand fun p u => ?_
  split
  · rfl
  split
  · rfl
  split
  · rfl
  split
  · rfl
  · exact calOf_beginChange ..

theorem execSupplySetPointReached_calKept : CalKept s (execSupplySetPointReached s) := by
  unfold execSupplySetPointReached
  split
  · split
    · exact calKept_next ((calOf_endChange ..).trans (calOf_modPower ..))
    all_goals exact calKept_next rfl
  · exact calKept_next rfl

theorem execPaceWithinGoverningRatio_calKept : CalKept s (execPaceWithinGoverningRatio s) := by
  unfold execPaceWithinGoverningRatio
  split
  · exact calKept_ite (calKept_next (calOf_endChange ..)) (calKept_next rfl)
  · exact calKept_next rfl

theorem execGoverningWaitTimeout_calKept : CalKept s (execGoverningWaitTimeout s) := by
  unfold execGoverningWaitTimeout
  split
  · exact calKept_ite (calKept_next (calOf_endChange ..)) (calKept_next rfl)
  · exact calKept_next rfl

theorem execThermalGuard_calKept : CalKept s (execThermalGuard s) :=
  calKept_ite (calKept_next ((calOf_beginChange ..).trans (calOf_raise ..))) (calKept_next rfl)

theorem execFrameReceived_calKept (f : Frame) : CalKept s (execFrameReceived f s) := by
  have hDrop (k : Fin 13) : CalKept s (.next (dropFrame f.mac k s)) := calKept_next (calOf_of_only (dropFrame_core ..))
  refine calKept_ite (calKept_next rfl) ?_
  iterate 5 refine calKept_ite (hDrop _) ?_
  refine calKept_ite (calKept_next ?_) (calKept_ite (hDrop _) ?_)
  · exact (calOf_of_only (dropFrame_core ..)).trans (calOf_of_only (takePause_core ..))
  split
  · exact hDrop _
  split
  · exact calKept_next (calOf_rxService ..)
  · exact calKept_next (calOf_of_only (rxHost_core ..))

theorem execRegisterWrite_calKept (a z v : Nat) : CalKept s (execRegisterWrite a z v s) := by
  refine calKept_ite (calKept_next rfl) ?_
  split
  · exact calKept_next (calOf_regWrite ..)
  · exact calKept_next rfl

theorem execSpiWrite_calKept (a : Nat) (words : List Nat) : CalKept s (execSpiWrite a words s) :=
  calKept_ite (calKept_next rfl) (calKept_next (calOf_spiWrites ..))

end

/-! ### Every command and every step (17 R476 to R478) -/

/-- Every command but calibration-write leaves the record and its generation. -/
theorem exec_calKept {c : Instr} (s : State) (hOther : ∀ r g o d, c ≠ .calibrationWrite r g o d) :
    CalKept s (exec c s) := by
  by_cases hWear : Part.wear ∈ mayWrite c
  case neg => exact ⟨fun t hNext => calOf_of_only ((exec_only c s).next t hNext) hWear⟩
  cases c with
  | calibrationWrite r g o d => exact absurd rfl (hOther r g o d)
  | resetAssert => exact calKept_next rfl
  | powerFailure => exact calKept_next rfl
  | speedMode => exact execSpeedMode_calKept ..
  | userUnload => exact execUserUnload_calKept ..
  | filterConfigure => exact execFilterConfigure_calKept ..
  | commandCall => exact execCommandCall_calKept ..
  | eventWait => exact execEventWait_calKept ..
  | timeCall => exact execTimeCall_calKept ..
  | sleep => exact execSleep_calKept ..
  | hookWait => exact execHookWait_calKept ..
  | hookAnswer => exact execHookAnswer_calKept ..
  | signalSet => exact execSignalSet_calKept ..
  | signalReturn => exact execSignalReturn_calKept ..
  | exit => exact execExit_calKept ..
  | unknownSystemCall => exact execUnknownSystemCall_calKept ..
  | taskReturn => exact execTaskReturn_calKept ..
  | userTaskFault => exact execUserTaskFault_calKept ..
  | hookTimeout => exact execHookTimeout_calKept ..
  | dpInject => exact execDpInject_calKept ..
  | registerWrite => exact execRegisterWrite_calKept ..
  | spiWrite => exact execSpiWrite_calKept ..
  | thermalGuard => exact execThermalGuard_calKept ..
  | supplySetPointReached => exact execSupplySetPointReached_calKept ..
  | paceWithinGoverningRatio => exact execPaceWithinGoverningRatio_calKept ..
  | governingWaitTimeout => exact execGoverningWaitTimeout_calKept ..
  | wearRatioUpdate => exact execWearRatioUpdate_calKept ..
  | bistFailure => exact execBistFailure_calKept ..
  | wornUnitRetired => exact execWornUnitRetired_calKept ..
  | scribeCoreTakeover => exact execScribeCoreTakeover_calKept ..
  | eccError => exact execEccError_calKept ..
  | sramRepairComplete => exact execSramRepairComplete_calKept ..
  | filteredCounterWrap => exact execFilteredCounterWrap_calKept ..
  | counterOverflowSignal => exact execCounterOverflowSignal_calKept ..
  | frameReceived => exact execFrameReceived_calKept ..
  | hostTimedReserve => exact execHostTimedReserve_calKept ..
  | transmitDescriptor => exact execTransmitDescriptor_calKept ..
  | nibLineSwap => exact execNibLineSwap_calKept ..
  | _ => exact absurd hWear (of_decide_eq_true rfl)

/-- 17 R478: what a write makes of the record: the octets sent, OVERWRITTEN, and the next generation. -/
theorem calOf_writeCal (offset : Nat) (data : Bytes) (s : State) : calOf (writeCal offset data s) =
    ((s.wear.calRecord.writeBytes calByte offset data).writeBytes calByte 32
      (le 4 (calNat s 32 4 ||| touched offset data.length)), (s.wear.calGeneration + 1) % 2 ^ 32) :=
  calOf_ite (s := s.modWear fun w => { w with
    calRecord := (w.calRecord.writeBytes calByte offset data).writeBytes calByte 32
      (le 4 (calNat s 32 4 ||| touched offset data.length)),
    calGeneration := (w.calGeneration + 1) % 2 ^ 32 })
    (calOf_forAll (fun _ _ => calOf_modUnit ..) _ _) rfl

/-- A write of the host stays behind the header, and OVERWRITTEN takes the octets 32 to 35. -/
theorem headerKept_write {m : Memory} {offset : Nat} {data word : Bytes} (hHeader : 64 ≤ offset)
    (hWord : word.length = 4)
    (hWf : m.wf calByte = true) {a : Nat} (ha : a < 32 ∨ (36 ≤ a ∧ a < 64)) :
    ((m.writeBytes calByte offset data).writeBytes calByte 32 word).read calByte a = m.read calByte a := by
  rw [Memory.read_writeBytes_outside word 32 a (Memory.writeBytes_wf data offset hWf) (by omega),
    Memory.read_writeBytes_outside data offset a hWf (by omega)]

theorem calRecordSound_of_calOf {s t : State} (hSound : CalRecordSound s) (h : calOf t = calOf s) :
    CalRecordSound t := by
  have hRecord : t.wear.calRecord = s.wear.calRecord := congrArg Prod.fst h
  rw [CalRecordSound, hRecord]
  exact hSound

theorem writeCal_sound {offset : Nat} {data : Bytes} {s : State} (hHeader : 64 ≤ offset)
    (hSound : CalRecordSound s) :
    CalRecordSound (writeCal offset data s) := by
  obtain ⟨hWf, hReads⟩ := hSound
  have hRecord : (writeCal offset data s).wear.calRecord = _ := congrArg Prod.fst (calOf_writeCal offset data s)
  rw [CalRecordSound, hRecord]
  exact ⟨Memory.writeBytes_wf _ _ (Memory.writeBytes_wf data offset hWf), fun a ha =>
    (headerKept_write hHeader (length_le ..) hWf ha).trans (hReads a ha)⟩

/-- A step from `s` to `t` keeps the record sound, and its generation moves by 0 or 1. -/
structure CalStep (s t : State) : Prop where
  sound : CalRecordSound s → CalRecordSound t
  generation : t.wear.calGeneration = s.wear.calGeneration ∨
    t.wear.calGeneration = (s.wear.calGeneration + 1) % 2 ^ 32

theorem calStep_of_calOf {s t : State} (h : calOf t = calOf s) : CalStep s t :=
  ⟨fun hSound => calRecordSound_of_calOf hSound h, .inl (congrArg Prod.snd h)⟩

theorem CalStep.congr {s t u : State} (h : CalStep s t) (k : calOf u = calOf t) : CalStep s u := by
  have hGeneration : u.wear.calGeneration = t.wear.calGeneration := congrArg Prod.snd k
  exact ⟨fun hSound => calRecordSound_of_calOf (h.sound hSound) k, hGeneration ▸ h.generation⟩

theorem writeCal_calStep {offset : Nat} (data : Bytes) (s : State) (hHeader : 64 ≤ offset) :
    CalStep s (writeCal offset data s) :=
  ⟨writeCal_sound hHeader, .inr (congrArg Prod.snd (calOf_writeCal offset data s))⟩

/-- R478: a write outside the record or under another generation changes nothing. -/
theorem execCalibrationWrite_calStep {r : Req} {g offset : Nat} {data : Bytes} {s t : State}
    (h : execCalibrationWrite r g offset data s = .next t) : CalStep s t := by
  unfold execCalibrationWrite runCommand at h
  dsimp only at h
  split at h
  · cases h
    exact calStep_of_calOf rfl
  split at h
  · cases h
    refine CalStep.congr ?_ (calOf_answer ..)
    split
    · exact calStep_of_calOf rfl
    next hRange =>
      split
      · exact calStep_of_calOf rfl
      · exact writeCal_calStep data s (by omega)
  · cases h
    exact calStep_of_calOf (calOf_answer ..)

theorem exec_calStep {c : Instr} {s t : State} (h : exec c s = .next t) : CalStep s t := by
  cases hWrite : c with
  | calibrationWrite r g o d =>
    rw [hWrite, exec_calibrationWrite] at h
    exact execCalibrationWrite_calStep h
  | _ => exact calStep_of_calOf ((exec_calKept s (by rintro _ _ _ _ rfl; cases hWrite)).next t h)

/-- Settles O15: only calibration-write touches the record, and it stays behind the header. -/
theorem everyStepKeepsTheCalibrationRecord : Obligations.EveryStepKeepsTheCalibrationRecord := by
  intro s t hSound hStep
  have hMoves : CalStep s t := by
    unfold step at hStep
    split at hStep
    next c cs hQueue =>
      obtain ⟨hKeeps, hMove⟩ := exec_calStep hStep
      exact ⟨hKeeps, hMove⟩
    next hIdle =>
      cases hStep
      exact calStep_of_calOf (calOf_tick s)
  exact ⟨hMoves.sound hSound, hMoves.generation⟩

end Sys2Proof.Machine
end

section
/-! PROOF of O58 (11 R301) and O34 (15 R417; 02 R73). -/

namespace Sys2Proof.Machine

/-! ### A drawn base (R301) -/

theorem avoid_lt {held : List Nat} (n : Nat) {b : Nat} (h : b < 2 ^ 48) : avoid held n b < 2 ^ 48 := by
  induction n generalizing b with
  | zero => exact h
  | succ n ih =>
    unfold avoid
    split
    · exact ih (Nat.mod_lt _ (by decide))
    · exact h

/-- When the search ends on a held value, it has met held values only. -/
theorem held_of_avoid_mem {held : List Nat} (n : Nat) {b : Nat} (hb : b < 2 ^ 48) (h : avoid held n b ∈ held) :
    ∀ k < n, (b + k) % 2 ^ 48 ∈ held := by
  induction n generalizing b with
  | zero => exact fun k hk => absurd hk k.not_lt_zero
  | succ n ih =>
    unfold avoid at h
    split at h
    next hHeld =>
      intro k hk
      cases k with
      | zero => rwa [Nat.add_zero, Nat.mod_eq_of_lt hb]
      | succ k =>
        have hRest := ih (Nat.mod_lt _ (by decide)) h k (by omega)
        rwa [Nat.mod_add_mod, Nat.add_assoc, Nat.add_comm 1 k] at hRest
    next hNew => exact absurd h hNew

theorem nodup_consecutive {n : Nat} (b : Nat) (h : n ≤ 2 ^ 48) :
    ((List.range n).map fun k => (b + k) % 2 ^ 48).Nodup := by
  refine List.nodup_range.map_on fun i hi j hj hSame => ?_
  rw [List.mem_range] at hi hj
  omega

/-- One more value than are held: one of them is new. -/
theorem avoid_not_mem {held : List Nat} {b : Nat} (hb : b < 2 ^ 48) (h : held.length < 2 ^ 48) :
    avoid held (held.length + 1) b ∉ held := by
  intro hMem
  have hAll := held_of_avoid_mem _ hb hMem
  have hSub : ((List.range (held.length + 1)).map fun k => (b + k) % 2 ^ 48) ⊆ held := by
    intro x hx
    obtain ⟨k, hk, rfl⟩ := List.mem_map.mp hx
    exact hAll k (List.mem_range.mp hk)
  have hLength := ((nodup_consecutive b h).subperm hSub).length_le
  rw [List.length_map, List.length_range] at hLength
  omega

theorem drawBase_fst (engine slot keyId : Nat) (s : State) : (drawBase engine slot keyId s).1 =
    avoid (heldBases s slot keyId) ((heldBases s slot keyId).length + 1) (Config.freeNat s.host.freeCount % 2 ^ 48) := rfl

theorem drawBase_bases (engine slot keyId : Nat) (s : State) : ∃ l, (drawBase engine slot keyId s).2.net.nts.bases =
    { engine := engine, slot := slot, keyId := keyId, base := (drawBase engine slot keyId s).1 } :: l := by
  unfold drawBase
  dsimp only
  split
  all_goals exact ⟨_, rfl⟩

theorem drawBase_held (engine slot keyId : Nat) (s : State) :
    (drawBase engine slot keyId s).1 ∈ heldBases (drawBase engine slot keyId s).2 slot keyId := by
  obtain ⟨l, hBases⟩ := drawBase_bases engine slot keyId s
  rw [heldBases, hBases]
  simp

/-- Settles O58: the search meets a value that is not held before its tries end. -/
theorem aDrawnNonceBaseIsNew : Obligations.ADrawnNonceBaseIsNew := by
  intro s engine slot keyId hFewer
  have hStart : Config.freeNat s.host.freeCount % 2 ^ 48 < 2 ^ 48 := Nat.mod_lt _ (by decide)
  exact ⟨avoid_not_mem hStart hFewer, avoid_lt _ hStart, drawBase_held engine slot keyId s⟩

/-! ### The reference-status record (R417) -/

theorem refCode_le (x : RefState) : refCode x ≤ 5 := by
  cases x <;> decide

/-- Settles O34: the fields in the order of the table, each as long as its type. -/
theorem aReferenceRecordHasItsLayout : Obligations.AReferenceRecordHasItsLayout := by
  intro s i
  refine ⟨?length, rfl, rfl, rfl, rfl, rfl, rfl, rfl, rfl, rfl, rfl, rfl, rfl, rfl, refCode_le _⟩
  case length => simp [refRecord, length_le]

end Sys2Proof.Machine
end

section

/-! PROOF of ScreeningTakesItsChecksInOrder, AResponseEndsTheCommand and EventsBecomeItemsOfTheLog (14): screening,
answers and the event log. -/

namespace Sys2Proof.Machine

/-! ### Screening -/

theorem assoc_some_mem {α : Type} {l : List (Nat × α)} {k : Nat} {v : α} (h : assoc l k = some v) :
    (k, v) ∈ l := by
  induction l with
  | nil => simp [assoc] at h
  | cons p ps ih =>
    unfold assoc at h
    split at h
    case isTrue hk => cases h; rw [← hk]; exact List.mem_cons_self
    case isFalse => exact List.mem_cons_of_mem _ (ih h)

/-- No group is above that of the admin mailboxes and of the emergency mailbox. -/
theorem opGroup_le_two {op g : Nat} (h : opGroup op = some g) : g ≤ 2 := by
  have hconfig : ∀ p ∈ configOps, p.2 ≤ 2 := by decide
  have hplain : ∀ p ∈ plainOps, p.2 ≤ 2 := by decide
  unfold opGroup at h
  split at h
  case h_1 a => cases h; exact hconfig _ (assoc_some_mem a)
  case h_2 =>
    split at h
    case h_1 a => cases h; exact hplain _ (assoc_some_mem a)
    case h_2 =>
      split at h
      · cases h; omega
      · cases h

theorem screenStatus_locked {m : Fin 16} {s : State} (p : Pend) (hm : m.val < 4)
    (hl : s.host.adminLock = true) :
    screenStatus (.mailbox m) p s = some ePriv := by
  simp [screenStatus, hm, hl]

theorem screenStatus_mailbox {m : Fin 16} {s : State} (p : Pend) (h : s.host.adminLock = false ∨ 4 ≤ m.val) :
    screenStatus (.mailbox m) p s =
      if sourceGroup (.mailbox m) < (opGroup p.opcode).getD 0 then some ePriv
      else if p.badHeader then some eLength
      else if (opGroup p.opcode).isSome then none else some eOpcode := by
  have hlock : (s.host.adminLock && decide (m.val < 4)) = false := by
    obtain h | h := h
    · simp [h]
    · simp [show ¬ m.val < 4 by omega]
  simp only [screenStatus, hlock]
  cases opGroup p.opcode <;> simp

theorem screenStatus_task {t : Fin 4} {p : Pend} {g : Nat} (s : State) (h : opGroup p.opcode = some g)
    (hg : 1 ≤ g) :
    screenStatus (.task t) p s = some ePriv := by
  simp [screenStatus, sourceGroup, h, show 0 < g by omega]

theorem screenStatus_emergency (p : Pend) (s : State) :
    screenStatus .emergency p s =
      if p.badHeader ∨ p.bulk then some eLength else if p.opcode ∈ emergencyOps then none else some eOpcode := by
  cases h : opGroup p.opcode with
  | none => simp [screenStatus, h]
  | some g => simp [screenStatus, h, sourceGroup, Nat.not_lt.mpr (opGroup_le_two h)]

/-- Settles O16: each source's screening in one equation, the group of an opcode never above 2. -/
theorem screeningTakesItsChecksInOrder : Obligations.ScreeningTakesItsChecksInOrder := by
  unfold Obligations.ScreeningTakesItsChecksInOrder
  refine ⟨?_, fun s p t g h hg => screenStatus_task s h hg, fun s p m hm hl => screenStatus_locked p hm hl, ?_, ?_,
    ?_, ?_⟩
  · intro s p m hm hg
    rw [screenStatus_mailbox p (.inr hm), hg, if_pos]
    simp [sourceGroup, show ¬ m.val < 4 by omega]
  · intro s p m g hg hle hl
    rw [screenStatus_mailbox p hl, hg]
    simp [Nat.not_lt.mpr hle]
  · intro s p m hg hl
    rw [screenStatus_mailbox p hl, hg]
    simp
  · intro s p hh hb
    simp [screenStatus_emergency, hh, hb]
  · intro s p hb
    simp [screenStatus_emergency, hb]

/-! ### What a cause and a message leave -/

theorem signalVector_signals (v : Fin 64) (s : State) : ∃ o m r,
    signalVector v s = s.modHost fun h => { h with owed := o, messages := m, running := r } := by
  unfold signalVector
  split
  · exact ⟨_, s.host.messages, s.host.running, rfl⟩
  · exact ⟨s.host.owed, _, _, rfl⟩

/-- A cause changes the causes and the message vectors, and nothing else. -/
theorem setCause_signals (b : Nat) (s : State) : ∃ c o m r,
    setCause b s = s.modHost fun h => { h with cause := c, owed := o, messages := m, running := r } := by
  have hset : (s.modHost fun h => if b = 0 then h else { h with cause := h.cause ||| BitVec.ofNat 64 (2 ^ b) }) =
      s.modHost fun h =>
        { h with cause := if b = 0 then h.cause else h.cause ||| BitVec.ofNat 64 (2 ^ b) } := by
    split <;> rfl
  unfold setCause
  rw [hset]
  extract_lets u
  obtain ⟨o, m, r, h⟩ := signalVector_signals (causeVector b) u
  by_cases hm : u.host.mask.getLsbD b
  · exact ⟨_, s.host.owed, s.host.messages, s.host.running, if_pos hm⟩
  · exact ⟨_, o, m, r, (if_neg hm).trans h⟩

section
variable (b : Nat) (m : Fin 16) (s : State)

@[simp] theorem setCause_boxes : (setCause b s).host.boxes = s.host.boxes := by
  obtain ⟨_, _, _, _, h⟩ := setCause_signals b s
  rw [h]; rfl
@[simp] theorem setCause_em : (setCause b s).host.em = s.host.em := by
  obtain ⟨_, _, _, _, h⟩ := setCause_signals b s
  rw [h]; rfl
@[simp] theorem setCause_tasks : (setCause b s).host.tasks = s.host.tasks := by
  obtain ⟨_, _, _, _, h⟩ := setCause_signals b s
  rw [h]; rfl
@[simp] theorem setCause_memory : (setCause b s).host.memory = s.host.memory := by
  obtain ⟨_, _, _, _, h⟩ := setCause_signals b s
  rw [h]; rfl
@[simp] theorem setCause_mbDone : (setCause b s).host.mbDone = s.host.mbDone := by
  obtain ⟨_, _, _, _, h⟩ := setCause_signals b s
  rw [h]; rfl
@[simp] theorem setCause_queues : (setCause b s).host.queues = s.host.queues := by
  obtain ⟨_, _, _, _, h⟩ := setCause_signals b s
  rw [h]; rfl

@[simp] theorem setMbDone_boxes : (setMbDone m s).host.boxes = s.host.boxes := setCause_boxes ..
@[simp] theorem setMbDone_memory : (setMbDone m s).host.memory = s.host.memory := setCause_memory ..
@[simp] theorem setMbDone_mbDone :
    (setMbDone m s).host.mbDone = s.host.mbDone ||| BitVec.ofNat 16 (2 ^ m.val) := setCause_mbDone ..
end

/-! ### The answer of a mailbox -/

@[simp] theorem modBox_boxes_same (m : Fin 16) (f : Mailbox → Mailbox) (s : State) :
    (modBox m f s).host.boxes[m] = f s.host.boxes[m] := get_upd_same ..

theorem modBox_boxes_of_ne {m k : Fin 16} (h : k ≠ m) (f : Mailbox → Mailbox) (s : State) :
    (modBox m f s).host.boxes[k] = s.host.boxes[k] := get_upd_of_ne _ _ h.symm

@[simp] theorem modBox_memory (m : Fin 16) (f : Mailbox → Mailbox) (s : State) :
    (modBox m f s).host.memory = s.host.memory := rfl
@[simp] theorem dpWrite_boxes (a : Nat) (bs : Bytes) (s : State) :
    (dpWrite a bs s).host.boxes = s.host.boxes := rfl
@[simp] theorem dpWrite_memory (a : Nat) (bs : Bytes) (s : State) :
    (dpWrite a bs s).host.memory = s.host.memory.writeBytes zeroByte a bs := rfl

/-- The mailbox with its answer in place. -/
def answered (p : Pend) (st : Nat) (body : Bytes) (x : Mailbox) : Mailbox :=
  { x with busy := false, done := true, inHand := none, response := responseOctets p st body }

section
variable {s : State} {m : Fin 16} {p : Pend} {st : Nat} {body : Bytes}

/-- With nothing waiting behind the request the answer is all that `finish` does. -/
theorem finish_of_nothing_behind {src : Source} (hp : hand src s = some p)
    (hb : behindOf src (respond src p st body (setHand src none s)) = []) :
    finish src st body s = respond src p st body (setHand src none s) := by
  unfold finish
  rw [hp]
  dsimp only
  rw [hb]

theorem behindOf_respond_mailbox (h : s.host.boxes[m].behind = []) :
    behindOf (.mailbox m) (respond (.mailbox m) p st body (setHand (.mailbox m) none s)) = [] := by
  unfold respond
  simp only [behindOf, setHand]
  split
  · simpa [-Fin.getElem_fin] using h
  · split <;> simpa [-Fin.getElem_fin] using h

theorem finish_mailbox (hp : s.host.boxes[m].inHand = some p) (hb : s.host.boxes[m].behind = []) :
    finish (.mailbox m) st body s = respond (.mailbox m) p st body (setHand (.mailbox m) none s) :=
  finish_of_nothing_behind hp (behindOf_respond_mailbox hb)

theorem place_short (h : body.length ≤ 56) : place p st body = (st, body, []) := if_pos h

theorem place_bulk (h : 56 < body.length) (hb : p.bulk = true) (hc : body.length ≤ p.rspCapacity) :
    place p st body = (st, [], body) := by
  simp [place, Nat.not_le.mpr h, hb, hc]

theorem place_too_long (h : 56 < body.length) (hb : p.bulk = true) (hc : p.rspCapacity < body.length) :
    place p st body = (eLength, le 4 body.length, []) := by
  simp [place, Nat.not_le.mpr h, hb, Nat.not_le.mpr hc]

/-- The answer of a request whose response stays in the payload. -/
theorem respond_mailbox {st' : Nat} {body' : Bytes} (hd : p.discard = false)
    (hpl : place p st body = (st', body', [])) :
    respond (.mailbox m) p st body (setHand (.mailbox m) none s) =
      setMbDone m (modBox m (fun x => { x with busy := false, done := true, response := responseOctets p st' body' })
        (setHand (.mailbox m) none s)) := by
  simp [respond, hd, hpl]

theorem respond_mailbox_bulk (hd : p.discard = false) (hpl : place p st body = (st, [], body)) (h : body ≠ []) :
    respond (.mailbox m) p st body (setHand (.mailbox m) none s) =
      setMbDone m (modBox m (fun x => { x with busy := false, done := true, response := responseOctets p st [] })
        (dpWrite (bulkBase m + p.rspOffset) body (setHand (.mailbox m) none s))) := by
  simp [respond, hd, hpl, h]

theorem responseOctets_of_short (h : body.length ≤ 56) :
    responseOctets p st body =
      le 2 p.opcode ++ le 2 p.sequence ++ le 2 body.length ++ le 2 st ++ body ++ le (56 - body.length) 0 := by
  simp [responseOctets, List.take_of_length_le h]

end

theorem getLsbD_or_two_pow (b : BitVec 16) (m : Fin 16) :
    (b ||| BitVec.ofNat 16 (2 ^ m.val)).getLsbD m.val = true := by
  rw [BitVec.getLsbD_or, BitVec.getLsbD_ofNat, Nat.testBit_two_pow_self]
  simp

theorem Memory.readBytes_writeBytes_same {m : Memory} {d : Nat → Byte} (a : Nat) (bs : Bytes)
    (h : m.wf d = true) :
    (m.writeBytes d a bs).readBytes d a bs.length = bs := by
  apply List.ext_getElem
  · simp [Memory.readBytes]
  · intro k hk hk'
    simpa [Memory.readBytes] using Memory.read_writeBytes_inside bs a k h hk'

/-- Settles O17: the answer by the three places of a body, the bulk region read back through the memory's law. -/
theorem aResponseEndsTheCommand : Obligations.AResponseEndsTheCommand := by
  unfold Obligations.AResponseEndsTheCommand
  refine ⟨?_, ?_, ?_, ?_⟩
  · intro s m p st body hp hb hd hl
    rw [finish_mailbox hp hb, respond_mailbox hd (place_short hl), ← responseOctets_of_short hl]
    simp only [setHand, setMbDone_boxes, setMbDone_memory, setMbDone_mbDone, modBox_boxes_same, modBox_memory,
      getLsbD_or_two_pow, true_and]
    intro k hk
    rw [modBox_boxes_of_ne hk, modBox_boxes_of_ne hk]
  · intro s m p st body hp hb hd hl hbulk hcap hwf
    have hne : body ≠ [] := by intro h; simp [h] at hl
    rw [finish_mailbox hp hb, respond_mailbox_bulk hd (place_bulk hl hbulk hcap) hne]
    refine ⟨?_, ?_, ?_⟩
    · simp [responseOctets, -Fin.getElem_fin]
    · simpa [dpRead, setHand] using Memory.readBytes_writeBytes_same _ body hwf
    · intro a ha
      simpa [setHand] using Memory.read_writeBytes_outside body _ a hwf ha
  · intro s m p st body hp hb hd hl hbulk hcap
    have hlen : (le 4 body.length).length = 4 := length_le ..
    rw [finish_mailbox hp hb, respond_mailbox hd (place_too_long hl hbulk hcap),
      responseOctets_of_short (by omega), hlen]
    simp [setHand, -Fin.getElem_fin]
  · intro s m p st body hp hb hd
    rw [finish_mailbox hp hb]
    simp [respond, hd]

/-! ### The event log -/

theorem afterCommit_queues {p : QPayload} {s : State} (n : Nat) (h : s.host.image = none) :
    (afterCommit p n s).host.queues = s.host.queues := by
  unfold afterCommit
  cases p with
  | event e =>
    dsimp only
    split <;> simp [State.modHost, h]
  | _ => rfl

theorem execPanQueueItemCommit_cons {s : State} {q : Fin 5} {p : QPayload} {rest : List QPayload}
    (hb : s.host.queues[q].building = p :: rest) (hi : s.host.image = none) :
    ∃ t, exec (.panQueueItemCommit q) s = .next t ∧
      t.host.queues[q] = placeItem q p { s.host.queues[q] with building := rest } := by
  have hq : ∀ n, (afterCommit p n (s.modQueue q fun k => placeItem q p { k with building := rest })).host.queues[q] =
      placeItem q p { s.host.queues[q] with building := rest } := fun n => by
    have h := afterCommit_queues (p := p) (s := s.modQueue q fun k => placeItem q p { k with building := rest }) n hi
    rw [h]
    exact get_upd_same ..
  simp only [exec_panQueueItemCommit, execPanQueueItemCommit, hb]
  split
  · exact ⟨_, rfl, by rw [setCause_queues, hq]⟩
  · exact ⟨_, rfl, hq _⟩

/-- Settles O18: the item of an event by definition, the commit by the place of the item. -/
theorem eventsBecomeItemsOfTheLog : Obligations.EventsBecomeItemsOfTheLog := by
  unfold Obligations.EventsBecomeItemsOfTheLog
  refine ⟨fun s code a b => rfl, ?_, ?_, ?_⟩
  · intro s q hb
    simp only [exec_panQueueItemCommit, execPanQueueItemCommit, hb]
  · intro s q p rest hb hl hi
    obtain ⟨t, ht, hq⟩ := execPanQueueItemCommit_cons hb hi
    refine ⟨t, ht, ?_⟩
    rw [hq]
    simp [placeItem, -Fin.getElem_fin, Nat.not_le.mpr hl]
  · intro s q p rest hb hl hi
    obtain ⟨t, ht, hq⟩ := execPanQueueItemCommit_cons hb hi
    refine ⟨t, ht, ?_⟩
    rw [hq]
    simp [placeItem, -Fin.getElem_fin, hl]

end Sys2Proof.Machine

end

section

/-! PROOF of TimingConfigurationsApplyTheMergedRows, SignalConfigurationsApplyTheMergedRows and
ServiceConfigurationsApplyTheMergedRows (15 R409): the configure commands, each through the shared shape. -/

namespace Sys2Proof.Machine

theorem refinIndex_of_val {n : Nat} {i : Fin 20} (h : n = i.val) (k : i.val < 12) : refinIndex n = some i := by
  rw [refinIndex, h, if_pos (by omega), asFin_val]

/-! Two or three alternatives of which one holds, as the rules write them. -/

theorem or_decide {p : Prop} [Decidable p] {b : Bool} (h : p ∨ b = true) : (decide p || b) = true := by
  simpa using h

theorem or_decide_decide {p q : Prop} [Decidable p] [Decidable q] {b : Bool} (h : p ∨ q ∨ b = true) :
    (decide p || decide q || b) = true := by
  simpa [or_assoc] using h

theorem not_and_decide {a n k : Nat} (h : a = n ∨ k < 4) : (!(decide (a ≠ n) && decide (4 ≤ k))) = true := by
  simpa [imp_iff_not_or] using h

/-- The four divided edges that a FREQ_GATE has to span (02 R56), by the kind of reference. -/
theorem gateHolds_refin {s : State} {i : Fin 20} {gate : Nat} (h : i.val ≤ 12) : gateHolds s i gate = true ↔
    4 * 1000000 * (refinOf s.refs[i]).divider ≤ gate * s.refs[i].cfg.nominal := by
  have hk : refKind i = .refin ∨ refKind i = .xo := by
    simp only [refKind]
    by_cases k : i.val < 12
    · simp [k]
    · simp [show i.val = 12 by omega]
  unfold gateHolds
  obtain hk | hk := hk <;> rw [hk] <;> simp only [decide_eq_true_eq]

theorem gateHolds_gnss {s : State} {i : Fin 20} {p : Fin 2} {gate : Nat} (h : i.val = 13 + p.val) :
    gateHolds s i gate = true ↔ 4 * s.gnss.ports[p].fix.interval ≤ gate := by
  have hk : refKind i = .gnss := by
    simp [refKind, show ¬ i.val < 12 by omega, show i.val ≠ 12 by omega, show i.val < 15 by omega]
  have hp : asFin 2 (i.val - 13) = some p := by rw [h, Nat.add_sub_cancel_left, asFin_val]
  simp only [gateHolds, hk, hp, decide_eq_true_eq]

theorem gateHolds_ptpu {s : State} {i : Fin 20} {gate : Nat} (h : 15 ≤ i.val) (k : i.val ≤ 18) :
    gateHolds s i gate = true ↔ 4 * s.net.ptp.client.measInterval ≤ gate := by
  have hk : refKind i = .ptpu := by
    simp [refKind, show ¬ i.val < 12 by omega, show i.val ≠ 12 by omega, show ¬ i.val < 15 by omega,
      show i.val < 19 by omega]
  simp only [gateHolds, hk, decide_eq_true_eq]

/-- Settles O4: each command's rules pass in their order, and the state it puts is the stated one. -/
theorem timingConfigurationsApplyTheMergedRows : Obligations.TimingConfigurationsApplyTheMergedRows := by
  unfold Obligations.TimingConfigurationsApplyTheMergedRows
  refine ⟨?_, ?_, ?_, fun s i gate h => gateHolds_refin h, fun s i p gate h => gateHolds_gnss h,
    fun s i gate h k => gateHolds_ptpu h k, fun s gate => decide_eq_true_iff, ?_, ?_, ?_, ?_, ?_⟩
  · intro s r g rows i hi hlt hf set c hv hx hc ha
    have hidx := refinIndex_of_val hi hlt
    have hne : i ≠ xoRef := fun h => by simp [h, xoRef] at hlt
    rw [exec_referenceConfigure]
    refine runConfig_ok hf (by simp [hidx]) ?_
    rw [hidx]
    refine (need_true hv).trans ((need_true (decide_eq_true hne)).trans ((need_true ?_).trans
      ((need_true ?_).trans ((need_true ?_).trans rfl))))
    · exact or_decide hx
    · exact or_decide_decide hc
    · exact not_and_decide ha
  · intro s r g rows i hi hf hv hg
    rw [exec_monitorConfigure]
    refine runConfig_ok hf (by simp [hi, asFin_val]) ?_
    rw [hi, asFin_val]
    exact need_true (by rw [hv, hg]; rfl)
  · intro s r g rows i hi hf hg
    rw [exec_monitorConfigure]
    refine runConfig_error hf (by simp [hi, asFin_val]) ?_
    rw [hi, asFin_val]
    exact need_false (by rw [hg, Bool.and_false])
  · intro s r g rows hi hf hv
    rw [exec_selectionConfigure]
    exact runConfig_ok hf (by simp [wide, hi]) (need_true hv)
  · intro s r g rows hi hf hv
    rw [exec_ductusConfigure]
    exact runConfig_ok hf (by simp [wide, hi]) (need_true hv)
  · intro s r g rows k i hk hi hf hv
    have hrows : modelRows g.index s = some (modelTable.rows (modelOf s i)) := by
      rw [modelRows, hk, ← hi, if_pos (by omega), asFin_val]
      rfl
    rw [exec_clockModel]
    refine runConfig_ok hf hrows ?_
    rw [hk, asFin_val]
    exact need_true hv
  · intro s r g rows c hc hf h0 hv
    rw [exec_dpllConfigure]
    refine runConfig_ok hf (by simp [hc, asFin_val]) ?_
    rw [hc, asFin_val]
    refine (need_true ?_).trans (need_true hv)
    by_cases h : c = 0
    · simp [h0 h]
    · simp [Fin.val_ne_zero_iff.mpr h]
  · intro s r g rows hf hv
    rw [exec_marginConfigure]
    exact runConfig_ok hf rfl (need_true hv)

/-! ### Synthesis, GNSS and Nib: the survey -/

/-- A request in hand of mailbox 0, ready for the supervisor to serve. -/
def holding (op len : Nat) (s : State) : State :=
  s.modHost fun h => { h with
    supervisor := true
    boxes := upd h.boxes 0 fun b => { b with
      inHand := some { opcode := op, sequence := 0, length := len, bulk := false, rspOffset := 0, rspCapacity := 0,
                       screened := true } } }

/-- One tick after reset, a fix-configure in hand and port 0 with fix mode NONE. -/
def surveyAsked : State :=
  holding 0x0906 9 ((State.reset.modClock fun c => { c with ticks := 1 }).modPort 0 fun x =>
    { x with fix := { x.fix with mode := 0 } })

/-- The rows of the request: MODE alone, which becomes SURVEY. -/
def surveyRows : GReq := ⟨0, 1, [[1]]⟩

/-- When a survey was begun, of the state that an outcome answers. -/
def surveyFromOf : Out → Option Nat
  | .next t => some t.gnss.ports[(0 : Fin 2)].surveyFrom
  | _ => none

/-- Refutes O5: a fix-configure that puts a port to survey also notes when the survey began (03 R109, `surveyFrom`),
which the stated next state leaves as it was. -/
theorem not_signalConfigurationsApplyTheMergedRows : ¬ Obligations.SignalConfigurationsApplyTheMergedRows := by
  unfold Obligations.SignalConfigurationsApplyTheMergedRows
  rintro ⟨-, -, -, -, -, -, -, hfix, -⟩
  have h := hfix surveyAsked ⟨.mailbox 0, 9⟩ surveyRows [[1], [500], [7200], [1], [1000]] 0 rfl
    ⟨_, 1, rfl, by decide, rfl, rfl, rfl⟩ (by decide)
  have hmodel : surveyFromOf (exec (.fixConfigure ⟨.mailbox 0, 9⟩ surveyRows) surveyAsked) = some 1 := by decide
  rw [h] at hmodel
  exact absurd hmodel (by decide)

/-! ### Ports, queues, services, the stack and counters -/

theorem macIndex_of_present {s : State} {m : Fin 16} {n : Nat} (h : n = m.val) (hm : macPresent s m = true) :
    macIndex s n = some m := by
  simp [macIndex, h, asFin_val, Option.filter, hm]

theorem queueIndex_of_present {s : State} {m : Fin 16} {q : Fin 32} {n : Nat} (h : n = 32 * m.val + q.val)
    (hm : macPresent s m = true) : queueIndex s n = some (m, q) := by
  have hdiv : n / 32 = m.val := by omega
  have hmod : n % 32 = q.val := by omega
  simp [queueIndex, hdiv, hmod, asFin_val, Option.filter, hm]

theorem egressRows_of_present {s : State} {m : Fin 16} {n : Nat} (b : Bool) (h : n = m.val)
    (hm : macPresent s m = true) : egressRows n b s = some [[s.net.macs[m].overhead], [s.net.guardNs]] := by
  simp only [egressRows, h, asFin_val, Option.filter, hm, if_true]

/-- Settles O6: each command's rules pass in their order, and the state it puts is the stated one. -/
theorem serviceConfigurationsApplyTheMergedRows : Obligations.ServiceConfigurationsApplyTheMergedRows := by
  unfold Obligations.ServiceConfigurationsApplyTheMergedRows
  refine ⟨?_, ?_, ?_, ?_, ?_, ?_, ?_, ?_, ?_, ?_, ?_, ?_, ?_, ?_⟩
  · intro s r g rows m hi hm hf c hv hs hx s1
    have hidx := macIndex_of_present hi hm
    rw [exec_portConfigure]
    refine runConfig_ok hf (by simp [hidx]) ?_
    rw [hidx]
    refine (need_true hv).trans ((need_true (or_decide (hs.imp_right fun ⟨a, b⟩ => ?_))).trans
      ((need_true (or_decide hx)).trans rfl))
    rw [a, b]
    rfl
  · intro s r g rows m q hi hm hf hv
    have hidx := queueIndex_of_present hi hm
    rw [exec_queueConfigure]
    refine runConfig_ok hf (by simp [hidx]) ?_
    rw [hidx]
    exact need_true hv
  · intro s r g rows m hi hm hsel hf h20 h255 hguard
    rw [exec_egressConfigure]
    refine runConfig_ok hf (egressRows_of_present _ hi hm) ?_
    refine (need_true ?_).trans ?_
    · rw [within_of_le h20 h255, decide_eq_true hguard]
      rfl
    · rw [hi, asFin_val, hsel]
      rfl
  · intro s r g old rows hsel hold hf h20 h255 hguard
    rw [exec_egressConfigure]
    refine runConfig_ok hf (by rw [hsel]; exact hold) ?_
    refine (need_true ?_).trans ?_
    · rw [within_of_le h20 h255, decide_eq_true hguard]
      rfl
    · rw [hsel]
      cases asFin 16 g.index <;> rfl
  · intro s r g rows i hi hf hv hc
    rw [exec_serviceAddressConfigure]
    refine runConfig_ok hf (by simp [hi, asFin_val]) ?_
    rw [hi, asFin_val]
    exact (need_true hv).trans (need_true (by rw [hc]; rfl))
  · intro s r g rows hi hf hv
    rw [exec_rotationConfigure]
    exact runConfig_ok hf (if_pos hi) (need_true hv)
  · intro s r g rows p hi hf hv
    rw [exec_policingProfile]
    refine runConfig_ok hf (by simp [hi, asFin_val]) ?_
    rw [hi, asFin_val]
    exact need_true hv
  · intro s r g rows i hi hf hv hx hc
    rw [exec_ptpServiceConfigure]
    refine runConfig_ok hf (by simp [hi, asFin_val]) ?_
    rw [hi, asFin_val]
    exact (need_true hv).trans ((need_true (or_decide hx)).trans (need_true (by rw [hc]; rfl)))
  · intro s r g rows hi hf h1 h100 hoff
    rw [exec_ptpGlobalConfigure]
    refine runConfig_ok hf (by simp [wide, hi]) ?_
    exact (need_true (within_of_le h1 h100)).trans (need_true (by simpa using fun i _ => hoff i))
  · intro s r g rows hi hf a halg hover hpol hcur hprev hnext hspp
    rw [exec_saConfigure]
    refine runConfig_ok hf (if_pos hi) ?_
    refine (need_true ?_).trans ((need_true ?_).trans (need_true hspp))
    · rw [decide_eq_true hi, decide_eq_true halg, decide_eq_true hover, decide_eq_true hpol]
      rfl
    · rw [hcur, hprev, hnext]
      rfl
  · intro s r g rows e hi hf hv
    rw [exec_clientEntry]
    refine runConfig_ok hf (by simp [hi, asFin_val]) ?_
    rw [hi, asFin_val]
    exact need_true hv
  · intro s r g rows hi hf c h1 h4 h2 h10 h100 h10000 hfil
    rw [exec_clientConfigure]
    refine runConfig_ok hf (by simp [wide, hi]) (need_true ?_)
    rw [within_of_le h1 h4, within_of_le h2 h10, within_of_le h100 h10000, decide_eq_true hfil]
    rfl
  · intro s r g rows hi hf hv hp hn
    rw [exec_stackConfigure]
    refine runConfig_ok hf (if_pos hi) ((need_true hv).trans (need_true ?_))
    rw [hp, hn]
    rfl
  · intro s r g rows n hi hf hv
    rw [exec_filterConfigure]
    refine runConfig_ok hf (by simp [hi, asFin_val]) ((need_true hv).trans ?_)
    rw [hi, asFin_val]
    rfl

end Sys2Proof.Machine

end

section

/-! PROOF of CounterAndRecordCommandsActAsTheirRulesSay (17; 14 R404): counters, ledgers and the calibration record. -/

namespace Sys2Proof.Machine

/-! ### Commands asked for, once for all -/

section
variable {op len : Nat} {r : Req} {s : State}

theorem runCommand_asked {f : State → State × Ans} (h : Asks op len r s) :
    runCommand op (r.len = len) r (fun _ s => f s) s = .next (answer r.src (f s).2 (f s).1) := by
  obtain ⟨hl, p, hp⟩ := h
  exact runCommand_ready hp (decide_eq_true hl)

theorem runCommand_ok {f : State → State × Ans} {t : State} {b : Bytes}
    (h : Asks op len r s) (k : f s = (t, .ok b)) :
    runCommand op (r.len = len) r (fun _ s => f s) s = .next (finish r.src stOk b t) := by
  rw [runCommand_asked h, k]
  rfl

theorem runCommand_error {f : State → State × Ans} {t : State} {e : Nat}
    (h : Asks op len r s) (k : f s = (t, .err e)) :
    runCommand op (r.len = len) r (fun _ s => f s) s = .next (finish r.src e [] t) := by
  rw [runCommand_asked h, k]
  rfl

theorem runRead_asked {f : State → Except Nat Bytes} {b : Bytes} (h : Asks op len r s) (k : f s = .ok b) :
    runRead op (r.len = len) r f s = .next (finish r.src stOk b s) := by
  obtain ⟨hl, p, hp⟩ := h
  exact runRead_ok hp (decide_eq_true hl) k

end

/-! ### Counters -/

theorem counterNumber_filter (s : State) (n : Fin 32) : counterNumber s (0x0D000000 + n.val * 256) =
    some (s.wear.filters[n].count + if s.wear.filters[n].ovf then 2 ^ 48 else 0) := by
  have harea : (0x0D000000 + n.val * 256) / 2 ^ 24 = 13 := by omega
  have hinst : (0x0D000000 + n.val * 256) / 256 % 65536 = n.val := by omega
  have hindex : (0x0D000000 + n.val * 256) % 256 = 0 := by omega
  rw [counterNumber, harea, hinst, hindex]
  simp [counterAt, asFin_val]

theorem hiddenCounter_filter (s : State) (n : Fin 32) : hiddenCounter s (0x0D000000 + n.val * 256) =
    decide (s.wear.filters[n].cfg.userRead = 0) := by
  have harea : (0x0D000000 + n.val * 256) / 2 ^ 24 = 13 := by omega
  have hinst : (0x0D000000 + n.val * 256) / 256 % 65536 = n.val := by omega
  rw [hiddenCounter, harea, hinst, counterNumber_filter, asFin_val]
  simp

/-! ### Reads of entries -/

theorem readEntries_all {held : List Bytes} {size first count : Nat} {s : State}
    (h : first + count ≤ held.length) :
    readEntries held size first count s = (((held.drop first).take count).flatten, s) := by
  have hl : ((held.drop first).take count).length = count := by
    rw [List.length_take, List.length_drop]
    omega
  simp [readEntries, hl]

/-- Beyond the entries held the body is filled with octets that mean nothing. -/
theorem readEntries_beyond {held : List Bytes} {size first count : Nat} {s : State}
    (h : held.length < first + count)
    (hc : 1 ≤ count) : ∃ o : Bytes, o.length = size * (count - (held.length - first)) ∧
    readEntries held size first count s =
      ((held.drop first).flatten ++ o, s.modHost fun h => { h with freeCount := h.freeCount + 1 }) := by
  have hl : (held.drop first).take count = held.drop first :=
    List.take_of_length_le (by rw [List.length_drop]; omega)
  have hm : count - (held.length - first) ≠ 0 := by omega
  refine ⟨(List.range (size * (count - (held.length - first)))).map (Config.freeByte s.host.freeCount), by simp, ?_⟩
  simp [readEntries, hl, hm, freeOctets]

theorem ledgerBytes_length (e : LedgerEntry) : (ledgerBytes e).length = 32 := by
  simp [ledgerBytes, length_le]

/-- Settles O42: each command's branch, with the layout of the counters of the filters and of a ledger's entries. -/
theorem counterAndRecordCommandsActAsTheirRulesSay : Obligations.CounterAndRecordCommandsActAsTheirRulesSay := by
  unfold Obligations.CounterAndRecordCommandsActAsTheirRulesSay
  refine ⟨rfl, ?_, ?_, ?_, ?_, ?_, ?_, ?_, ?_, ?_, ?_, ?_, ?_, ?_, ?_, ?_⟩
  · intro s r first count h hfirst hopen
    have hhidden : (isTask r.src && (List.range count).any fun k => hiddenCounter s (first + k)) = false := by
      obtain hopen | hopen := hopen
      · rw [hopen]; rfl
      · simpa using fun _ => hopen
    rw [exec_counterRead]
    exact runCommand_ok h (by
      rw [if_neg (by simpa [← Option.isSome_iff_ne_none] using hfirst), hhidden, if_neg Bool.false_ne_true])
  · intro s r first count h hfirst
    rw [exec_counterRead]
    exact runCommand_error h (by rw [hfirst]; rfl)
  · intro s r first count k h hfirst htask hk hhid
    have hhidden : (isTask r.src && (List.range count).any fun k => hiddenCounter s (first + k)) = true := by
      simpa [htask] using ⟨k, hk, hhid⟩
    rw [exec_counterRead]
    exact runCommand_error h (by
      rw [if_neg (by simpa [← Option.isSome_iff_ne_none] using hfirst), hhidden, if_pos rfl])
  · intro s n
    refine ⟨fun h => ?_, fun h => ?_, hiddenCounter_filter s n⟩
    · rw [counterNumber_filter, h]; rfl
    · rw [counterNumber_filter, h]; rfl
  · intro s r first count h h1 h511 hheld
    rw [exec_wearLedgerRead]
    refine runCommand_ok h ?_
    rw [if_pos (within_of_le h1 h511), readEntries_all (by simpa using hheld)]
    simp [List.flatMap_def, List.map_take, List.map_drop]
  · intro s r first count h h1 h511 hheld
    obtain ⟨o, ho, hread⟩ := readEntries_beyond (size := 32) (s := s) (held := s.wear.ledger.map ledgerBytes)
      (by simpa using hheld) h1
    have hknown : ((s.wear.ledger.drop first).flatMap ledgerBytes).length = 32 * (s.wear.ledger.length - first) := by
      rw [length_flatMap_of_length fun e _ => ledgerBytes_length e]
      simp [Nat.mul_comm]
    rw [← List.map_drop, ← List.flatMap_def] at hread
    refine ⟨(s.wear.ledger.drop first).flatMap ledgerBytes ++ o, _, ?_, ?_, ?_, rfl⟩
    · rw [exec_wearLedgerRead]
      refine runCommand_ok h ?_
      rw [if_pos (within_of_le h1 h511), hread]
    · rw [List.length_append, hknown, ho, List.length_map]
      omega
    · rw [← hknown]
      exact List.take_left
  · intro s r first count h hc
    rw [exec_wearLedgerRead]
    refine runCommand_error h (if_neg ?_)
    simp only [within, Bool.and_eq_true, decide_eq_true_eq]
    omega
  · intro s r offset len h hl ho
    rw [exec_calibrationRead]
    exact runRead_asked h (if_pos ⟨hl, ho⟩)
  · intro s r offset len h ho
    rw [exec_calibrationRead]
    exact runRead_error h (if_neg (by omega))
  · intro s r h
    rw [exec_calibrationDigest]
    exact runRead_asked h rfl
  · intro s r offset data h h64 hend hlen
    have hcal := calOf_writeCal offset data s
    have honly := writeCal_core offset data s
    refine ⟨writeCal offset data s, ?_, congrArg Prod.snd hcal, congrArg Prod.fst hcal, ?_, ?_, ?_, ?_⟩
    · rw [exec_calibrationWrite]
      refine runCommand_ok h ?_
      rw [if_neg (by omega), if_neg (by simp)]
    · exact honly.same .power (by decide)
    · exact honly.same .refs (by decide)
    · exact honly.same .net (by decide)
    · exact honly.same .ductus (by decide)
  · intro s r g offset data h h64 hend hlen hg
    rw [exec_calibrationWrite]
    refine runCommand_error h ?_
    rw [if_neg (by omega), if_pos hg]
  · intro s r g offset data h hbad
    rw [exec_calibrationWrite]
    exact runCommand_error h (if_pos hbad)
  · intro s r first count h h1 h511 hheld
    rw [exec_persistentLog]
    refine runCommand_ok h ?_
    rw [if_pos (within_of_le h1 h511), readEntries_all (by simpa using hheld)]
    simp [List.flatMap_def, List.map_take, List.map_drop]
  · intro s r first count h hc
    rw [exec_persistentLog]
    refine runCommand_error h (if_neg ?_)
    simp only [within, Bool.and_eq_true, decide_eq_true_eq]
    omega

end Sys2Proof.Machine

end

section

/-! PROOF of FirmwareMovesThroughItsStages and SystemCommandsActAsTheirRulesSay (13 R371 to R373; 14 R389, R390;
15 R414, R430). -/

namespace Sys2Proof.Machine

/-! ### What an answer may change -/

/-- The host interface with all that an answer writes blanked: mailboxes, tasks, memory, causes and messages. -/
def HostIf.unanswered (h : HostIf) : HostIf :=
  { h with boxes := Vector.replicate 16 {}, em := { h.em with mb := {} }, tasks := Vector.replicate 4 {}, memory := {},
           cause := 0, owed := Vector.replicate 64 false, messages := Vector.replicate 64 0,
           running := Vector.replicate 64 false, mbDone := 0, refused := 0 }

/-- A field that the blank leaves as it is can be read off an equation of unanswered interfaces. -/
theorem field_of_unanswered {α : Type} (g : HostIf → α) {h k : HostIf} (e : h.unanswered = k.unanswered)
    (hg : ∀ h : HostIf, g h.unanswered = g h := by intro h; rfl) : g h = g k :=
  (hg h).symm.trans ((congrArg g e).trans (hg k))

theorem setCause_unanswered (b : Nat) (s : State) : (setCause b s).host.unanswered = s.host.unanswered := by
  obtain ⟨_, _, _, _, h⟩ := setCause_signals b s
  rw [h]
  rfl

theorem setHand_unanswered (src : Source) (p : Option Pend) (s : State) :
    (setHand src p s).host.unanswered = s.host.unanswered := by
  cases src <;> rfl

theorem setBehind_unanswered (src : Source) (l : List Pend) (s : State) :
    (setBehind src l s).host.unanswered = s.host.unanswered := by
  cases src <;> rfl

theorem countRefusal_unanswered (src : Source) (e : Nat) (s : State) :
    (countRefusal src e s).host.unanswered = s.host.unanswered := by
  cases src with
  | task t =>
    unfold countRefusal
    dsimp only
    split <;> rfl
  | mailbox m => rfl
  | emergency => rfl

theorem respond_unanswered (src : Source) (p : Pend) (st : Nat) (body : Bytes) (s : State) :
    (respond src p st body s).host.unanswered = s.host.unanswered := by
  unfold respond
  dsimp only
  split
  · rfl
  · cases src with
    | mailbox m =>
      refine (setCause_unanswered ..).trans ?_
      split <;> rfl
    | emergency => exact setCause_unanswered ..
    | task t => rfl

theorem takeUp_unanswered (src : Source) (l : List Pend) (s : State) :
    (takeUp src l s).host.unanswered = s.host.unanswered := by
  induction l generalizing s with
  | nil => exact (setBehind_unanswered ..).trans (setHand_unanswered ..)
  | cons p ps ih =>
    unfold takeUp
    split
    · exact (setBehind_unanswered ..).trans (setHand_unanswered ..)
    · exact (ih _).trans ((respond_unanswered ..).trans (countRefusal_unanswered ..))

theorem finish_unanswered (src : Source) (st : Nat) (body : Bytes) (s : State) :
    (finish src st body s).host.unanswered = s.host.unanswered := by
  unfold finish
  split
  · rfl
  · dsimp only
    split
    · exact (respond_unanswered ..).trans (setHand_unanswered ..)
    · exact (takeUp_unanswered ..).trans ((respond_unanswered ..).trans (setHand_unanswered ..))

/-! ### Firmware -/

@[simp] theorem completeCmd_keys (op q st : Nat) (src : Source) (s : State) :
    (completeCmd op q st src s).keys = s.keys :=
  rfl

@[simp] theorem modFw_fw_same (i : Fin 2) (f : FwSlot → FwSlot) (s : State) :
    (modFw i f s).keys.fw[i] = f s.keys.fw[i] := get_upd_same ..

theorem modFw_fw_of_ne {i k : Fin 2} (h : k ≠ i) (f : FwSlot → FwSlot) (s : State) :
    (modFw i f s).keys.fw[k] = s.keys.fw[k] := get_upd_of_ne _ _ h.symm

theorem idleSlot_of_ne {s : State} {i : Fin 2} (h : s.keys.running ≠ some i) :
    idleSlot s i = true := decide_eq_true h

/-- The state in which the trial image of slot `i` is accepted. -/
def confirmed (i : Fin 2) (s : State) : State :=
  (modFw i (fun f => { f with trial := false }) s).modKeys fun k =>
    { k with onTrial := false,
             fuseCount := max k.fuseCount (imageSecurity (modFw i (fun f => { f with trial := false }) s) i) }

/-- Settles O26: the two jobs and their ends through the slots' update laws. -/
theorem firmwareMovesThroughItsStages : Obligations.FirmwareMovesThroughItsStages := by
  unfold Obligations.FirmwareMovesThroughItsStages
  refine ⟨?_, ?_, ?_, ?_, ?_, ?_, ?_, ?_⟩
  · intro s r p i o n hl hp hn ho hidle hjob
    rw [exec_firmwareWrite]
    refine runAccepted_ok hl hp ?_
    rw [asFin_val]
    refine (need_true ?_).trans ((need_true ?_).trans rfl)
    · rw [decide_eq_true hn, decide_eq_true ho]; rfl
    · rw [idleSlot_of_ne hidle, hjob]; rfl
  · intro s r o n i h hn ho hrun
    rw [exec_firmwareWrite]
    refine runAccepted_error h fun q => ?_
    rw [asFin_val]
    refine (need_true ?_).trans (need_false ?_)
    · rw [decide_eq_true hn, decide_eq_true ho]; rfl
    · simp [idleSlot, hrun]
  · intro s j hj hst
    refine ⟨completeCmd 0x010A j.seq stOk j.source ((modFw j.slot (fun f =>
      { f with image := f.image.writeBytes (Config.imageByte j.slot.val) j.offset (dpRead s stagingArea j.length),
               written := true, trial := false }) s).modKeys fun k => { k with fwJob := none }), ?_, ?_⟩
    · rw [exec_firmwareWriteComplete, execFirmwareWriteComplete, hj]
      exact if_neg (by simp [hst])
    · simp only [completeCmd_keys]
      refine ⟨rfl, ?_, ?_, ?_, fun k hk => modFw_fw_of_ne hk _ s⟩
      · exact congrArg FwSlot.image (modFw_fw_same j.slot _ s)
      · exact congrArg FwSlot.written (modFw_fw_same j.slot _ s)
      · exact congrArg FwSlot.trial (modFw_fw_same j.slot _ s)
  · intro s r p i hl hp hidle hw hjob
    rw [exec_firmwareStage]
    refine runAccepted_ok hl hp ?_
    rw [asFin_val]
    refine (need_true ?_).trans rfl
    rw [idleSlot_of_ne hidle, hw, hjob]; rfl
  · intro s j hj hst
    refine ⟨completeCmd 0x010B j.seq (stageStatus 0) j.source ((modFw j.slot (fun f =>
      { f with trial := true, trialFailed := false, written := false }) s).modKeys fun k => { k with fwJob := none }),
      ?_, ?_⟩
    · rw [exec_firmwareStageComplete, execFirmwareStageComplete, hj]
      exact if_neg (by simp [hst])
    · simp only [completeCmd_keys]
      refine ⟨rfl, ?_, ?_, ?_⟩
      · exact congrArg FwSlot.trial (modFw_fw_same j.slot _ s)
      · exact congrArg FwSlot.trialFailed (modFw_fw_same j.slot _ s)
      · exact (congrArg FwSlot.image (modFw_fw_same j.slot _ s) :)
  · intro s j result hj hst hres
    refine ⟨completeCmd 0x010B j.seq (stageStatus result) j.source (s.modKeys fun k => { k with fwJob := none }),
      ?_, rfl, rfl⟩
    rw [exec_firmwareStageComplete, execFirmwareStageComplete, hj]
    refine (if_neg (by simp [hst])).trans ?_
    rw [if_neg hres]
  · intro s r i h htrial hrun
    have himage : imageSecurity (modFw i (fun f => { f with trial := false }) s) i = imageSecurity s i := by
      simp only [imageSecurity, imageOctets, modFw_fw_same]
    refine ⟨confirmed i s, ?_, ?_⟩
    · rw [exec_firmwareConfirm]
      refine runSimple_ok h ((need_true htrial).trans ?_)
      rw [hrun]
      rfl
    · refine ⟨rfl, ?_, le_max_left .., ?_⟩
      · exact congrArg FwSlot.trial (modFw_fw_same i _ s)
      · rw [← himage]
        exact le_max_right ..
  · intro s r h htrial
    rw [exec_firmwareConfirm]
    exact runSimple_error h (need_false htrial)

/-! ### The system commands -/

theorem bootReportBytes_length (s : State) : (bootReportBytes s).length = 24 := by
  simp [bootReportBytes, length_le]

theorem dropUntaken_boxes (s : State) (m : Fin 16) :
    (s.modHost fun h => { h with boxes := vmap dropUntaken h.boxes }).host.boxes[m] = dropUntaken m s.host.boxes[m] :=
  get_vmap ..

/-! What a restart stops: the step that runs, the jobs of the outputs and the firmware job. -/

theorem dropItem_jobs_nil (kind n : Nat) (s : State) (h : s.synth.jobs = []) :
    (dropItem kind n s).synth.jobs = [] := by
  simp [dropItem, h, forAll]

theorem abortRealign_jobs {c : Fin 6} {s : State} (h : s.synth.jobs = []) :
    (abortRealign c s).synth.jobs = [] := by
  have hSettled : (settleSlew c s).synth = s.synth := (settleSlew_core c s).same .synth (by decide)
  unfold abortRealign
  dsimp only
  split
  · rw [hSettled, h]
  · split
    · rw [hSettled, h]
    · refine dropItem_jobs_nil _ _ _ ?_
      rw [(raise_core _ _ _ _).same .synth (by decide), (slewIncrement_core _ _).same .synth (by decide)]
      exact (congrArg Synth.jobs hSettled).trans h

/-- A property that each round keeps holds after all rounds. -/
theorem forAll_induction {α : Type} {P : State → Prop} {f : α → State → State} (h : ∀ a t, P t → P (f a t))
    (l : List α) {s : State} (hs : P s) : P (forAll l f s) := by
  induction l generalizing s with
  | nil => exact hs
  | cons a l ih => exact ih (h a s hs)

/-- The keys with the slots, their records and their writes blanked. -/
def Keys.unslotted (k : Keys) : Keys := { k with slots := [], journal := [], flash := [], writes := [] }

/-- A field that the blank leaves as it is can be read off an equation of unslotted keys. -/
theorem field_of_unslotted {α : Type} (g : Keys → α) {j k : Keys} (e : j.unslotted = k.unslotted)
    (hg : ∀ k : Keys, g k.unslotted = g k := by intro k; rfl) : g j = g k :=
  (hg j).symm.trans ((congrArg g e).trans (hg k))

theorem zeroSlot_unslotted (n : Nat) (s : State) : (zeroSlot n s).keys.unslotted = s.keys.unslotted := by
  unfold zeroSlot
  dsimp only
  split <;> rfl

theorem zeroStackSlot_unslotted (n : Nat) (s : State) :
    (zeroStackSlot n s).keys.unslotted = s.keys.unslotted := by
  unfold zeroStackSlot
  rw [(dropBases_core _ _ _).same .keys (by decide), zeroSlot_unslotted]

theorem clearStack_unslotted (s : State) : (clearStack s).keys.unslotted = s.keys.unslotted := by
  unfold clearStack
  dsimp only
  rw [(addAct_core _ _ _).same .keys (by decide), modStack_keys, (freeLinkChannels_core _ _).same .keys (by decide),
    (freeLinkChannels_core _ _).same .keys (by decide)]
  refine (congrArg Keys.unslotted ((dropReplicas_core _).same .keys (by decide))).trans ?_
  exact forAll_keeps (fun t => t.keys.unslotted) zeroStackSlot_unslotted _ _

theorem forgetMember_unslotted (p : Fin 8) (s : State) : (forgetMember p s).keys.unslotted = s.keys.unslotted :=
  zeroStackSlot_unslotted ..

theorem failPairing_unslotted (s : State) : (failPairing s).keys.unslotted = s.keys.unslotted := by
  unfold failPairing
  split
  · rfl
  next p hp =>
    extract_lets j slot s1 s2 keep s3 s4
    have h1 : s1.keys = s.keys := (violation_core _ _ _ _ _).same .keys (by decide)
    have h3 : s3.keys.unslotted = s.keys.unslotted := (congrArg Keys.unslotted h1 :)
    have h4 : s4.keys.unslotted = s.keys.unslotted := by
      rw [← h3]
      simp only [s4]
      split
      · split
        · split
          · rfl
          · exact forgetMember_unslotted ..
        · rfl
      · exact clearStack_unslotted ..
    split
    · exact h4
    · exact h4

theorem failPairing_clock (s : State) :
    (failPairing s).clock = s.clock := (failPairing_core s).same .clock (by decide)
theorem clearStack_clock (s : State) :
    (clearStack s).clock = s.clock := (clearStack_core s).same .clock (by decide)
theorem failPairing_synth (s : State) :
    (failPairing s).synth = s.synth := (failPairing_core s).same .synth (by decide)
theorem clearStack_synth (s : State) :
    (clearStack s).synth = s.synth := (clearStack_core s).same .synth (by decide)

theorem releaseAll_clock (l : List Loopback) (s : State) :
    (forAll l (fun k => releaseChannel k.channel) s).clock = s.clock :=
  forAll_keeps State.clock (fun (k : Loopback) t => (releaseChannel_core k.channel t).same .clock (by decide)) l s

theorem releaseAll_keys (l : List Loopback) (s : State) :
    (forAll l (fun k => releaseChannel k.channel) s).keys = s.keys :=
  forAll_keeps State.keys (fun (k : Loopback) t => (releaseChannel_core k.channel t).same .keys (by decide)) l s

theorem releaseAll_synth (l : List Loopback) (s : State) :
    (forAll l (fun k => releaseChannel k.channel) s).synth = s.synth :=
  forAll_keeps State.synth (fun (k : Loopback) t => (releaseChannel_core k.channel t).same .synth (by decide)) l s

/-- What `stopRunning` leaves of the commands that ran, and what it keeps of the life cycle. -/
structure RunningStopped (s t : State) : Prop where
  step : t.clock.step = none
  jobs : t.synth.jobs = []
  fwJob : t.keys.fwJob = none
  life : t.keys.life = s.keys.life

/-- The end of a pairing keeps what was stopped. -/
theorem pairingStopped {s t u : State} (h : RunningStopped s t) (hclock : u.clock = t.clock)
    (hsynth : u.synth = t.synth)
    (hkeys : u.keys.unslotted = t.keys.unslotted) : RunningStopped s u :=
  ⟨(congrArg Clock.step hclock).trans h.step, (congrArg Synth.jobs hsynth).trans h.jobs,
    (field_of_unslotted Keys.fwJob hkeys :).trans h.fwJob, (field_of_unslotted Keys.life hkeys :).trans h.life⟩

theorem stopRunning_stops (s : State) : RunningStopped s (stopRunning s) := by
  unfold stopRunning
  extract_lets s1 s2 jobs s3 s4 ck ev s5 s6 s7 s8 s9 port s10 s11
  obtain ⟨hstep4, hjobs4, hkeys4⟩ : s4.clock.step = none ∧ s4.synth.jobs = [] ∧ s4.keys = s.keys := by
    refine iteInduction (motive := fun t : State => t.clock.step = none ∧ t.synth.jobs = [] ∧ t.keys = s.keys)
      (fun _ => forAll_induction (P := fun t => t.clock.step = none ∧ t.synth.jobs = [] ∧ t.keys = s.keys)
        (fun c t h => ?_) _ ⟨rfl, rfl, rfl⟩) fun _ => ⟨rfl, rfl, rfl⟩
    obtain ⟨hstep, hjobs, hkeys⟩ := h
    exact ⟨(field_of_unslewed Clock.step (abortRealign_unslewed c t) :).trans hstep, abortRealign_jobs hjobs,
      ((abortRealign_core c t).same .keys (by decide)).trans hkeys⟩
  clear_value s4
  have hstep6 : s6.clock.step = none := (congrArg Clock.step (releaseAll_clock s5.synth.checks s5)).trans hstep4
  have hjobs6 : s6.synth.jobs = [] := (congrArg Synth.jobs (releaseAll_synth s5.synth.checks s5)).trans hjobs4
  have hkeys6 : s6.keys = s.keys := (releaseAll_keys s5.synth.checks s5).trans hkeys4
  clear_value s6
  have h10 : RunningStopped s s10 := ⟨hstep6, hjobs6, rfl, (congrArg Keys.life hkeys6 :)⟩
  clear_value s10
  have h11 : RunningStopped s s11 := by
    simp only [s11]
    split
    · split
      · exact pairingStopped h10 (failPairing_clock _) (failPairing_synth _) (failPairing_unslotted _)
      · exact pairingStopped h10 (clearStack_clock _) (clearStack_synth _) (clearStack_unslotted _)
    · exact h10
  exact ⟨h11.step, h11.jobs, h11.fwJob, h11.life⟩

theorem beginRestart_stops (s : State) : RunningStopped s (beginRestart s) := by
  obtain ⟨hs, hj, hf, hl⟩ := stopRunning_stops s
  exact ⟨hs, hj, hf, hl⟩

/-- The supervisor runs again and has answered what the restart ended. -/
def restarted (regions : Nat) (s : State) : State :=
  forAll s.host.deferred (fun x => completeCmd x.1 x.2.1 eTimeout x.2.2)
    (raise 0x0107 regions 0 ((resetRegions regions s).modHost fun h =>
      { h with supervisor := true, restarting := false, stalled := false, alive := h.alive + 1, deferred := [] }))

/-- What of the supervisor's state a restart sets. -/
def supervisorState (s : State) : Bool × Bool × List (Nat × Nat × Source) × BitVec 32 :=
  (s.host.supervisor, s.host.restarting, s.host.deferred, s.host.alive)

theorem completeCmd_supervisor (op q st : Nat) (src : Source) (s : State) :
    supervisorState (completeCmd op q st src s) = supervisorState s := rfl

theorem restarted_supervisor (regions : Nat) (s : State) :
    supervisorState (restarted regions s) = (true, false, [], s.host.alive + 1) := by
  have hhost : (resetRegions regions s).host = s.host := (resetRegions_core regions s).same .host (by decide)
  unfold restarted
  rw [forAll_keeps supervisorState fun _ _ => completeCmd_supervisor ..]
  rw [← hhost]
  rfl

/-- Settles O27: the boxes by the law of `vmap`, a restart by what it stops. -/
theorem systemCommandsActAsTheirRulesSay : Obligations.SystemCommandsActAsTheirRulesSay := by
  unfold Obligations.SystemCommandsActAsTheirRulesSay
  refine ⟨?_, bootReportBytes_length, ?_, ?_, ?_, ?_, ?_, ?_⟩
  · intro s r h
    rw [exec_bootReport]
    exact runRead_asked h rfl
  · intro s r h
    rw [exec_deviceReset]
    exact runSimple_ok h (need_true (decide_eq_true rfl))
  · intro s r d h hd
    rw [exec_deviceReset]
    exact runSimple_error h (need_false (decide_eq_false hd))
  · intro s r h
    refine ⟨s.modHost fun h => { h with boxes := vmap dropUntaken h.boxes }, ?_, fun m => ?_, rfl, rfl⟩
    · rw [exec_mailboxReset]
      exact runSimple_ok h rfl
    rw [dropUntaken_boxes]
    refine ⟨rfl, rfl, fun p hp ht => ?_, fun p hp ht => ?_⟩
    · simp only [dropUntaken, hp, ht, Bool.false_eq_true, if_false]
    · simp only [dropUntaken, hp, ht, if_true]
  · intro s r h hsup
    obtain ⟨hl, p, hp⟩ := h
    have hrun : (answer r.src (.ok []) s).host.supervisor = true :=
      (field_of_unanswered HostIf.supervisor (finish_unanswered r.src stOk [] s) :).trans hsup
    rw [exec_scribeRestart, execScribeRestart, hp]
    dsimp only
    rw [if_neg (by simp [hl]), if_pos hrun]
    rfl
  · intro s
    obtain ⟨hs, hj, hf, -⟩ := beginRestart_stops s
    exact ⟨rfl, rfl, fun m => ⟨congrArg Mailbox.inHand (get_vmap ..), congrArg Mailbox.busy (get_vmap ..)⟩, hs, hj, hf⟩
  · intro s regions hr
    have h := restarted_supervisor regions s
    refine ⟨restarted regions s, ?_, congrArg Prod.fst h, congrArg (fun x => x.2.1) h, congrArg (fun x => x.2.2.1) h,
      congrArg (fun x => x.2.2.2) h⟩
    rw [exec_scribeRestartComplete, execScribeRestartComplete, hr]
    rfl

end Sys2Proof.Machine

end

section

/-! PROOF of ResetsKeepWhatTheManualKeeps (18 R487, R492, R495; 13 R340, R361). -/

namespace Sys2Proof.Machine

/-! ### What the life-cycle step of the boot leaves of the firmware (18 R495) -/

/-- The firmware's side of the keys: slots, trial mark, running slot and count of boots. -/
def Keys.firmware (k : Keys) : Vector FwSlot 2 × Bool × Option (Fin 2) × Nat :=
  (k.fw, k.onTrial, k.running, k.bootCount)

theorem raise_keys (code a b : Nat) (s : State) : (raise code a b s).keys = s.keys := rfl

theorem recordLatched_firmware (b : Bool) (s : State) :
    (recordLatched b s).keys.firmware = s.keys.firmware := by
  refine forAll_keeps (fun t => t.keys.firmware) (fun d t => ?_) _ s
  rw [raise_keys]
  unfold addTamper
  rw [State.modKeys]
  dsimp only
  split <;> rfl

theorem settleTampers_firmware (s : State) : (settleTampers s).keys.firmware = s.keys.firmware := by
  unfold settleTampers
  dsimp only
  split
  · exact recordLatched_firmware ..
  · exact recordLatched_firmware ..

theorem settleWipe_firmware (s : State) : (settleWipe s).keys.firmware = s.keys.firmware := by
  unfold settleWipe
  split <;> rfl

theorem bootLife_firmware (b : BootInputs) (s : State) : (bootLife b s).keys.firmware = s.keys.firmware := by
  have hcells : (settleCells (settleWipe s)).keys.firmware = s.keys.firmware := settleWipe_firmware s
  unfold bootLife
  dsimp only
  split
  · exact (settleTampers_firmware _).trans hcells
  · split
    · exact (settleTampers_firmware _).trans hcells
    · exact hcells

/-! ### The slots after the trial mark and the judgement -/

theorem failTrial_none {s : State} (h : s.keys.onTrial = false) : failTrial s = s := by
  simp [failTrial, h]

theorem modFw_bootCount (i : Fin 2) (f : FwSlot → FwSlot) (s : State) :
    (modFw i f s).keys.bootCount = s.keys.bootCount := rfl

theorem failTrial_bootCount (s : State) : (failTrial s).keys.bootCount = s.keys.bootCount := by
  unfold failTrial
  split
  · rfl
  · refine (forAll_keeps (fun t : State => t.keys.bootCount) ?_ _ _).trans rfl
    intro i t
    rfl

/-- Every slot is marked TRIAL_FAILED. -/
def AllFailed (s : State) : Prop := ∀ i : Fin 2, s.keys.fw[i].trialFailed = true

theorem modFw_allFailed {i : Fin 2} {f : FwSlot → FwSlot} {s : State} (h : AllFailed s)
    (hf : (f s.keys.fw[i]).trialFailed = true) : AllFailed (modFw i f s) := by
  intro k
  by_cases hk : k = i
  · subst hk
    rw [modFw_fw_same]
    exact hf
  · rw [modFw_fw_of_ne hk]
    exact h k

theorem failTrial_allFailed {s : State} (h : AllFailed s) : AllFailed (failTrial s) := by
  unfold failTrial
  split
  · exact h
  · refine forAll_induction (P := AllFailed) ?_ _ h
    intro i t ht
    exact modFw_allFailed ht rfl

/-- What the judgement of R372 says of a slot. -/
def judged (b : BootInputs) (i : Fin 2) (f : FwSlot) : FwSlot :=
  { f with result := if f.trialFailed then 7 else if i.val = 0 then b.slot0Result else b.slot1Result }

theorem judged_failed (b : BootInputs) (i : Fin 2) {f : FwSlot} (h : f.trialFailed = true) :
    (judged b i f).result = 7 := if_pos h

theorem judgeSlots_fw (b : BootInputs) (s : State) (i : Fin 2) :
    (judgeSlots b s).keys.fw[i] = judged b i s.keys.fw[i] := by
  have htwo : judgeSlots b s = modFw 1 (judged b 1) (modFw 0 (judged b 0) s) := rfl
  rw [htwo]
  match i with
  | 0 => rw [modFw_fw_of_ne (by decide), modFw_fw_same]
  | 1 => rw [modFw_fw_same, modFw_fw_of_ne (by decide)]

theorem judgeSlots_bootCount (b : BootInputs) (s : State) :
    (judgeSlots b s).keys.bootCount = s.keys.bootCount := rfl

/-! ### The choice of the image -/

theorem chooseImage_none {s : State} (h : ∀ i : Fin 2, s.keys.fw[i].result ≠ 0) :
    chooseImage s = (none, s) := by
  have hfind : (fins 2).find? (fun i => decide (s.keys.fw[i].result = 0) && s.keys.fw[i].trial) = none := by
    rw [List.find?_eq_none]
    intro i _
    simp [-Fin.getElem_fin, h i]
  simp only [chooseImage, hfind, decide_eq_false (h 0), decide_eq_false (h 1), Bool.false_and, Bool.false_eq_true,
    if_false]

theorem chooseImage_zero {s : State} (h0 : s.keys.fw[(0 : Fin 2)].result = 0)
    (h1 : s.keys.fw[(1 : Fin 2)].result ≠ 0) : chooseImage s = (some 0, s) := by
  have hfind : (fins 2).find? (fun i => decide (s.keys.fw[i].result = 0) && s.keys.fw[i].trial) =
      if s.keys.fw[(0 : Fin 2)].trial then some 0 else none := by
    have hfins : fins 2 = [0, 1] := by decide
    rw [hfins]
    cases h : s.keys.fw[(0 : Fin 2)].trial <;> simp [-Fin.getElem_fin, List.find?, h0, h1, h]
  simp only [chooseImage, hfind, decide_eq_true h0, decide_eq_false h1, Bool.and_false, Bool.false_eq_true, if_false,
    if_true]
  split
  next i hi =>
    split at hi
    · cases hi; rfl
    · cases hi
  · rfl

/-! ### The running slot through the start of the keys -/

theorem setSlot_running (n : Nat) (k : KeySlot) (s : State) :
    (setSlot n k s).keys.running = s.keys.running := rfl

theorem restoreSlot_running (damaged : List Nat) (x : Nat × JournalWord) (s : State) :
    (restoreSlot damaged x s).keys.running = s.keys.running := by
  unfold restoreSlot
  dsimp only
  split
  · rfl
  · split <;> rfl

theorem makeRoot_running (i : Fin 3) (s : State) : (makeRoot i s).keys.running = s.keys.running := rfl

theorem bootKeys_running (b : BootInputs) (s : State) : (bootKeys b s).keys.running = s.keys.running := by
  unfold bootKeys
  extract_lets s1 s2 s3 s4 s5
  have h2 : s2.keys.running = s.keys.running := by
    simp only [s2]
    split <;> rfl
  clear_value s2
  have h3 : s3.keys.running = s.keys.running := by
    simp only [s3]
    split
    · split
      · split <;> exact h2
      · exact h2
    · exact h2
  clear_value s3
  have h5 : s5.keys.running = s.keys.running := by
    simp only [s5]
    split
    · exact (forAll_keeps (fun t => t.keys.running) (restoreSlot_running b.damaged) _ _).trans h3
    · exact h3
  exact h5

/-! ### The start-up -/

/-- The state with both slots judged (R372). -/
def slotsJudged (b : BootInputs) (s : State) : State := judgeSlots b (failTrial (bootLife b (bootStraps b s)))

section
variable {b : BootInputs} {s : State}

theorem execResetRelease_halts (hr : s.power.inReset = true)
    (h : chooseImage (slotsJudged b s) = (none, slotsJudged b s)) :
    execResetRelease b s = .next (setStage 0x04 0x10 ((slotsJudged b s).modHost fun h => { h with halted := true })) := by
  rw [slotsJudged] at h ⊢
  simp only [execResetRelease, hr, Bool.not_true, Bool.false_eq_true, if_false, h]

theorem execResetRelease_boots {i : Fin 2} (hr : s.power.inReset = true)
    (h : chooseImage (slotsJudged b s) = (some i, slotsJudged b s)) :
    execResetRelease b s = .next (setStage 0x08 0 (bootKeys b ((slotsJudged b s).modKeys fun k =>
      { k with running := some i, onTrial := k.fw[i].trial }))) := by
  rw [slotsJudged] at h ⊢
  simp only [execResetRelease, hr, Bool.not_true, Bool.false_eq_true, if_false, h]

theorem bootLife_fw : (bootLife b (bootStraps b s)).keys.fw = s.keys.fw :=
  congrArg Prod.fst (bootLife_firmware b (bootStraps b s))

theorem bootLife_onTrial : (bootLife b (bootStraps b s)).keys.onTrial = s.keys.onTrial :=
  congrArg (fun x => x.2.1) (bootLife_firmware b (bootStraps b s))

theorem bootLife_bootCount : (bootLife b (bootStraps b s)).keys.bootCount = (s.keys.bootCount + 1) % 2 ^ 32 :=
  congrArg (fun x => x.2.2.2) (bootLife_firmware b (bootStraps b s))

theorem slotsJudged_bootCount : (slotsJudged b s).keys.bootCount = (s.keys.bootCount + 1) % 2 ^ 32 := by
  rw [slotsJudged, judgeSlots_bootCount, failTrial_bootCount, bootLife_bootCount]

theorem slotsJudged_failed (h : AllFailed s) (i : Fin 2) : (slotsJudged b s).keys.fw[i].result ≠ 0 := by
  have hboot : AllFailed (bootLife b (bootStraps b s)) := by
    intro k
    rw [bootLife_fw]
    exact h k
  rw [slotsJudged, judgeSlots_fw, judged_failed b i (failTrial_allFailed hboot i)]
  decide

theorem slotsJudged_fw (h : s.keys.onTrial = false) (i : Fin 2) :
    (slotsJudged b s).keys.fw[i] = judged b i s.keys.fw[i] := by
  rw [slotsJudged, judgeSlots_fw, failTrial_none (bootLife_onTrial.trans h), bootLife_fw]

theorem slotsJudged_power : (slotsJudged b s).power = (bootStraps b s).power := by
  rw [slotsJudged, (judgeSlots_core _ _).same .power (by decide), (failTrial_core _).same .power (by decide),
    (bootLife_core _ _).same .power (by decide)]

theorem slotsJudged_refs : (slotsJudged b s).refs = (bootStraps b s).refs := by
  rw [slotsJudged, (judgeSlots_core _ _).same .refs (by decide), (failTrial_core _).same .refs (by decide),
    (bootLife_core _ _).same .refs (by decide)]

end

section
variable (stage cause : Nat) (s : State)

@[simp] theorem setStage_stage : (setStage stage cause s).host.em.stage = stage := rfl
@[simp] theorem setStage_halted : (setStage stage cause s).host.halted = s.host.halted := rfl
@[simp] theorem setStage_keys : (setStage stage cause s).keys = s.keys := rfl
@[simp] theorem setStage_power : (setStage stage cause s).power = s.power := rfl
@[simp] theorem setStage_refs : (setStage stage cause s).refs = s.refs := rfl
end

/-- The supervisor's start: stage 0x09, ALIVE and the boot event. -/
def supervisorStarted (s : State) : State :=
  let t := setStage 0x09 0 (s.modHost fun h => { h with supervisor := true, alive := h.alive + 1 })
  raise 0x0108 t.keys.bootCount (fwVersion t + (match t.keys.running with
    | some i => i.val
    | none => 0) * 2 ^ 32) t

/-- Settles O28: what a reset keeps by definition, the boot through the slots as judged. -/
theorem resetsKeepWhatTheManualKeeps : Obligations.ResetsKeepWhatTheManualKeeps := by
  unfold Obligations.ResetsKeepWhatTheManualKeeps
  refine ⟨?_, ?_, ?_, ?_, ?_, ?_, ?_⟩
  · intro s
    rw [exec_resetAssert, execResetAssert]
  · intro s
    rw [exec_powerFailure, execPowerFailure]
  · intro b s t
    exact ⟨rfl, rfl, rfl, rfl, rfl, rfl, rfl, rfl, rfl, rfl, rfl, rfl, rfl, rfl, rfl, rfl, rfl, rfl, rfl, rfl, rfl⟩
  · intro b s hr
    simp only [exec_resetRelease, execResetRelease, hr, Bool.not_false, if_true]
  · intro b s hr hfail
    rw [exec_resetRelease, execResetRelease_halts hr (chooseImage_none (slotsJudged_failed hfail))]
    refine ⟨_, rfl, ?_, setStage_stage .., ?_⟩
    · rw [setStage_halted]; rfl
    · rw [setStage_keys, modHost_keys]
      exact slotsJudged_bootCount
  · intro b s hr h0 h1 hfail htrial
    have hfail : s.keys.fw[(0 : Fin 2)].trialFailed = false := hfail
    have hzero : (slotsJudged b s).keys.fw[(0 : Fin 2)].result = 0 := by
      rw [slotsJudged_fw htrial, judged, hfail, h0]
      rfl
    have hone : (slotsJudged b s).keys.fw[(1 : Fin 2)].result ≠ 0 := by
      rw [slotsJudged_fw htrial, judged]
      dsimp only
      split
      · decide
      · exact h1
    rw [exec_resetRelease, execResetRelease_boots hr (chooseImage_zero hzero hone)]
    refine ⟨_, rfl, setStage_stage .., ?_, ?_, ?_⟩
    · rw [setStage_keys, bootKeys_running]
      rfl
    · rw [setStage_power, (bootKeys_core b _).same .power (by decide), modKeys_power, slotsJudged_power]
      rfl
    · rw [setStage_refs, (bootKeys_core b _).same .refs (by decide), modKeys_refs, slotsJudged_refs]
      exact congrArg (fun r : Ref => r.cfg.nominal) (get_upd_same ..)
  · intro s hr hh hst
    refine ⟨supervisorStarted s, ?_, rfl, rfl, rfl⟩
    rw [exec_supervisorStart, execSupervisorStart, if_neg (by simp [hr, hh, hst])]
    rfl

end Sys2Proof.Machine

end

section

/-! PROOF of SystemCallsActAsTheirRulesSay (14 R406). -/

namespace Sys2Proof.Machine

/-! ### What an event and the filtered counters leave of the host interface -/

/-- The host interface with the causes, the messages and the pan queues blanked: all that a cause, an event or a
filtered counter writes there. -/
def HostIf.unsignalled (h : HostIf) : HostIf :=
  { h with cause := 0, owed := Vector.replicate 64 false, messages := Vector.replicate 64 0,
           running := Vector.replicate 64 false, queues := Vector.replicate 5 {} }

/-- A field that the blank leaves as it is can be read off an equation of unsignalled interfaces. -/
theorem field_of_unsignalled {α : Type} (g : HostIf → α) {h k : HostIf} (e : h.unsignalled = k.unsignalled)
    (hg : ∀ h : HostIf, g h.unsignalled = g h := by intro h; rfl) : g h = g k :=
  (hg h).symm.trans ((congrArg g e).trans (hg k))

theorem setCause_unsignalled (b : Nat) (s : State) : (setCause b s).host.unsignalled = s.host.unsignalled := by
  obtain ⟨_, _, _, _, h⟩ := setCause_signals b s
  rw [h]
  rfl

theorem raise_unsignalled (code a b : Nat) (s : State) :
    (raise code a b s).host.unsignalled = s.host.unsignalled := rfl

theorem wrapCounter_unsignalled (n : Fin 32) (s : State) :
    (wrapCounter n s).host.unsignalled = s.host.unsignalled := by
  unfold wrapCounter
  dsimp only
  split
  · exact (raise_unsignalled ..).trans (setCause_unsignalled ..)
  · rfl

theorem countOne_unsignalled (n : Fin 32) (s : State) :
    (countOne n s).host.unsignalled = s.host.unsignalled := by
  unfold countOne
  split
  · rfl
  · exact wrapCounter_unsignalled ..

theorem countEvent_unsignalled (code : Nat) (f : FilterCfg → Bool) (s : State) :
    (countEvent code f s).host.unsignalled = s.host.unsignalled :=
  forAll_keeps (fun t => t.host.unsignalled) countOne_unsignalled _ s

section
variable (s : State)

theorem counted_unsignalled : (counted s).host.unsignalled = s.host.unsignalled := countEvent_unsignalled ..

@[simp] theorem counted_image : (counted s).host.image = s.host.image :=
  field_of_unsignalled HostIf.image (counted_unsignalled s)
@[simp] theorem counted_supervisor : (counted s).host.supervisor = s.host.supervisor :=
  field_of_unsignalled HostIf.supervisor (counted_unsignalled s)
@[simp] theorem counted_refused : (counted s).host.refused = s.host.refused :=
  field_of_unsignalled HostIf.refused (counted_unsignalled s)
@[simp] theorem counted_sel : (counted s).sel = s.sel := (countEvent_core _ _ s).same .sel (by decide)
@[simp] theorem counted_clock : (counted s).clock = s.clock := (countEvent_core _ _ s).same .clock (by decide)

theorem counted_blockOk (block n : Nat) : blockOk (counted s) block n = blockOk s block n := by
  simp only [blockOk, counted_image]

end

/-! ### The shape of a system call -/

section
variable {s : State} {t : Fin 4} {block n : Nat}

theorem systemCall_ok {f : State → State} (hc : canCall s t = true) (hb : blockOk s block n = true) :
    systemCall t block n f s = .next (f (counted s)) := by
  have hb' := (counted_blockOk s block n).trans hb
  unfold systemCall
  rw [hc]
  exact if_pos hb'

theorem systemCall_fault {f : State → State} (hc : canCall s t = true) (hb : blockOk s block n = false) :
    systemCall t block n f s = .next (stopTask t 1 (counted s)) := by
  have hb' := (counted_blockOk s block n).trans hb
  unfold systemCall
  rw [hc]
  exact if_neg (ne_true_of_eq_false hb')

theorem plainCall_ok {f : State → State} (hc : canCall s t = true) : plainCall t f s = .next (f (counted s)) :=
  if_pos hc

end

/-! ### The command of a block -/

@[simp] theorem modTask_tasks_same (s : State) (t : Fin 4) (f : Task → Task) :
    (s.modTask t f).host.tasks[t] = f s.host.tasks[t] := get_upd_same ..

theorem modTask_tasks_of_ne (s : State) {t k : Fin 4} (h : k ≠ t) (f : Task → Task) :
    (s.modTask t f).host.tasks[k] = s.host.tasks[k] := get_upd_of_ne _ _ h.symm

theorem takeUp_of_passed {src : Source} {p : Pend} {l : List Pend} {s : State}
    (h : screenStatus src p s = none) :
    takeUp src (p :: l) s = setBehind src l (setHand src (some { p with screened := true }) s) := by
  rw [takeUp, h]

theorem takeUp_of_refused {src : Source} {p : Pend} {l : List Pend} {s : State} {e : Nat}
    (h : screenStatus src p s = some e) :
    takeUp src (p :: l) s = takeUp src l (respond src p e [] (countRefusal src e s)) := by
  rw [takeUp, h]

theorem screenStatus_task_user {t : Fin 4} {p : Pend} (s : State) (h : opGroup p.opcode = some 0)
    (hh : p.badHeader = false) (hb : p.bulk = false) : screenStatus (.task t) p s = none := by
  simp [screenStatus, sourceGroup, h, hh, hb]

/-- The request of a command block with no flags. -/
def blockRequest (op q len : Nat) : Pend :=
  { opcode := op, sequence := q, length := len, badHeader := decide (56 < len) || decide ((0 : Nat) ≠ 0),
    bulk := bitOf 0 0, rspOffset := 0, rspCapacity := 0 }

theorem blockRequest_short {op q len : Nat} (h : len ≤ 56) : blockRequest op q len =
    { opcode := op, sequence := q, length := len, bulk := false, rspOffset := 0, rspCapacity := 0 } := by
  simp [blockRequest, bitOf, h]

/-- The state in which that request is judged. -/
def blockAsked (t : Fin 4) (block op q len : Nat) (s : State) : State :=
  (counted s).modTask t fun k => { k with block := block, result := none, inHand := some (blockRequest op q len) }

theorem execCommandCall_taken {s : State} {t : Fin 4} {block op q len : Nat} (hc : canCall s t = true)
    (hb : blockOk s block 128 = true) (hs : s.host.supervisor = true) :
    execCommandCall t block op q len 0 s =
      .next (takeUp (.task t) [blockRequest op q len] (blockAsked t block op q len s)) := by
  refine (systemCall_ok hc hb).trans (congrArg _ (if_pos ?_))
  exact (counted_supervisor s).trans hs

@[simp] theorem dpWrite_tasks (a : Nat) (bs : Bytes) (s : State) :
    (dpWrite a bs s).host.tasks = s.host.tasks := rfl

/-- A request of a group above user is answered at once and counted. -/
theorem taskRefused (t : Fin 4) (p : Pend) (hd : p.discard = false) (s : State) :
    let u := takeUp (.task t) [] (respond (.task t) p ePriv [] (countRefusal (.task t) ePriv s))
    u.host.tasks[t].inHand = none ∧ u.host.tasks[t].state = .ready ∧
    (∃ x, u.host.tasks[t].result = some x ∧ x.status = ePriv) ∧ u.host.refused = s.host.refused + 1 := by
  have hrespond : respond (.task t) p ePriv [] (countRefusal (.task t) ePriv s) =
      taskAnswer t ePriv (s.host.tasks[t].block + 64) (responseOctets p ePriv [])
        (dpWrite (0x04000000 + s.host.tasks[t].block + 64) (responseOctets p ePriv [])
          (s.modHost fun h => { h with refused := h.refused + 1 })) := by
    rw [respond, place_short (by decide), hd]
    rfl
  rw [hrespond]
  simp only [takeUp, setBehind, setHand, taskAnswer, modTask_tasks_same]
  exact ⟨trivial, trivial, ⟨_, rfl, rfl⟩, rfl⟩

theorem timeArea_of_clock {s u : State} (h : u.clock = s.clock) : timeArea u = timeArea s := by
  rw [timeArea, timeArea, now_of_clock h, windowFlags, windowFlags, tableExpired, tableExpired, h, now_of_clock h]

/-- Settles O24: every call runs on the state in which it is counted, and then by its own branch. -/
theorem systemCallsActAsTheirRulesSay : Obligations.SystemCallsActAsTheirRulesSay := by
  unfold Obligations.SystemCallsActAsTheirRulesSay
  refine ⟨?_, ?_, ?_, ?_, ?_, ?_, ?_, ?_, ?_, ?_, ?_, ?_, ?_, ?_⟩
  · intro s t block op q len hc hb hs hl hg
    rw [exec_commandCall, execCommandCall_taken hc hb hs]
    rw [takeUp_of_passed (screenStatus_task_user _ hg (by simp [blockRequest, hl]) rfl)]
    refine ⟨_, rfl, ?_⟩
    simp only [setBehind, setHand, modTask_tasks_same, blockAsked, blockRequest_short hl, and_self]
  · intro s t block op q len g hc hb hs hg h1
    rw [exec_commandCall, execCommandCall_taken hc hb hs, takeUp_of_refused (screenStatus_task _ hg h1)]
    obtain ⟨hhand, hstate, hresult, hcount⟩ := taskRefused t (blockRequest op q len) rfl (blockAsked t block op q len s)
    exact ⟨_, rfl, hhand, hstate, hresult, hcount.trans (congrArg (· + 1) (counted_refused s))⟩
  · intro s t block mask n hc hb hev hn
    rw [exec_eventWait, execEventWait, systemCall_ok hc hb, hev]
    exact congrArg _ (if_neg hn)
  · intro s u t block mask n hc hb hev
    rw [exec_eventWait, execEventWait, systemCall_ok hc hb, hev]
  · intro s t block hc hb
    rw [exec_timeCall, execTimeCall, systemCall_ok hc hb, timeArea_of_clock (counted_clock s)]
  · intro s t block us hc hb h1 h2
    rw [exec_sleep, execSleep, systemCall_ok hc hb, if_pos (within_of_le h1 h2)]
  · intro s t block us hc hb hbad
    have hout : ¬ within 1 10000000 us = true := by
      simp only [within, Bool.and_eq_true, decide_eq_true_eq]
      omega
    rw [exec_sleep, execSleep, systemCall_ok hc hb, if_neg hout]
  · intro s t block hc hb hh
    rw [exec_hookWait, execHookWait, systemCall_ok hc hb, if_pos (by rw [counted_sel, hh])]
  · intro s t block log hc hb hw hh
    rw [exec_hookAnswer, execHookAnswer, systemCall_ok hc hb]
    simp only [counted_sel, hw, hh, hookActs]
    rw [if_neg (by simp)]
    rfl
  · intro s t block a log hc hb hw ha
    rw [exec_hookAnswer, execHookAnswer, systemCall_ok hc hb]
    simp only [counted_sel, hw]
    rw [if_pos (.inl ha)]
  · intro s t block h i hc hb hi hh
    rw [exec_signalSet, execSignalSet, systemCall_ok hc hb, counted_image, hi]
    exact congrArg _ (if_pos (.inr (decide_eq_true hh)))
  · intro s t hc
    rw [exec_signalReturn, execSignalReturn, plainCall_ok hc]
  · intro s t n hc hn
    have hout : ¬ within 1 9 n = true := by
      simp only [within, Bool.and_eq_true, decide_eq_true_eq]
      omega
    rw [exec_unknownSystemCall, execUnknownSystemCall, if_neg hout, plainCall_ok hc]
  · intro s t block hc hb
    rw [exec_timeCall, execTimeCall, systemCall_fault hc hb]

end Sys2Proof.Machine

end

section

/-! PROOF of TasksStartStopAndWakeAsTheirRulesSay (14 R403 to R407). -/

namespace Sys2Proof.Machine

/-! ### The start of an image -/

@[simp] theorem dpWrite_image (a : Nat) (bs : Bytes) (s : State) :
    (dpWrite a bs s).host.image = s.host.image := rfl

theorem placeContext_host (i : TaskImage) (t : Fin 4) (s : State) :
    ((placeContext i t s).host.image, (placeContext i t s).host.tasks) = (s.host.image, s.host.tasks) := by
  unfold placeContext
  dsimp only
  split
  · rw [dpWrite_image, dpWrite_tasks]
  · rfl

theorem startTasks_host (i : TaskImage) (s : State) : ((startTasks i s).host.image, (startTasks i s).host.tasks) =
    (some i, vmap (fun (t : Fin 4) (_ : Task) => if t.val < i.tasks then
      { state := .ready, position := s.host.queues[(0 : Fin 5)].sequence } else {}) s.host.tasks) :=
  (forAll_keeps (fun u => (u.host.image, u.host.tasks)) (placeContext_host i) _ _).trans rfl

theorem startTasks_state (i : TaskImage) (s : State) (t : Fin 4) :
    (startTasks i s).host.tasks[t].state = if t.val < i.tasks then .ready else .absent := by
  have htasks := congrArg (fun x => x.2[t].state) (startTasks_host i s)
  refine htasks.trans ?_
  simp only [Fin.getElem_fin, get_vmap]
  split <;> rfl

/-! ### The stop of a task -/

/-- The state of a stop, where the selection waits for no answer of that task. -/
theorem stopTask_tasks {s : State} {t : Fin 4} (c : Nat) (h : s.sel.hookTask ≠ some t) :
    (stopTask t c s).host.tasks =
      upd s.host.tasks t fun k => { k with state := .stopped c, inHand := none, frames := [] } := by
  unfold stopTask
  extract_lets clear s1 s2 s3
  obtain ⟨hhost, hsel⟩ : s1.host = s.host ∧ s1.sel = s.sel :=
    iteInduction (motive := fun u : State => u.host = s.host ∧ u.sel = s.sel) (fun _ => ⟨rfl, rfl⟩) fun _ => ⟨rfl, rfl⟩
  clear_value s1
  have hwaits : ¬ s3.sel.hookTask = some t := by
    show ¬ s1.sel.hookTask = some t
    rw [hsel]
    exact h
  rw [if_neg hwaits]
  exact congrArg (fun h : HostIf => upd h.tasks t fun k => { k with state := .stopped c, inHand := none, frames := [] })
    hhost

/-- The device after user-unload, where no task answers the selection. -/
def unloaded (s : State) : State :=
  (((s.modWear fun w => { w with filters := vmap (fun _ f => { f with owed := false }) w.filters }).modHost fun h =>
    { h with tasks := Vector.replicate 4 {}, image := none, eventLog := [] }).modKeys fun k =>
    { k with userHash := none })

/-- Settles O25: each row by its own branch, the start and the stop by what they leave of the tasks. -/
theorem tasksStartStopAndWakeAsTheirRulesSay : Obligations.TasksStartStopAndWakeAsTheirRulesSay := by
  unfold Obligations.TasksStartStopAndWakeAsTheirRulesSay
  refine ⟨?_, ?_, ?_, ?_, ?_, ?_, ?_, ?_, ?_, ?_, ?_, ?_, ?_⟩
  · intro s r len h i hasks hi hnone
    refine ⟨?_, congrArg Prod.fst (startTasks_host i s), startTasks_state i s⟩
    rw [exec_userLoad]
    refine runSimple_ok hasks ?_
    rw [hi]
    exact need_true (by rw [hnone]; rfl)
  · intro s r len h hasks hi
    rw [exec_userLoad]
    exact runSimple_error hasks (by rw [hi])
  · intro s r len h i hasks hi hany
    rw [exec_userLoad]
    refine runSimple_error hasks ?_
    rw [hi]
    exact need_false (by rw [hany]; rfl)
  · intro s r hasks hh
    refine ⟨unloaded s, ?_, rfl, rfl, rfl, rfl, rfl⟩
    rw [exec_userUnload]
    exact runSimple_ok hasks (congrArg _ (if_neg (by simp [hh])))
  · intro s t c h
    rw [stopTask_tasks c h]
    refine ⟨?_, ?_, fun k hk => get_upd_of_ne _ _ hk.symm⟩
    · exact congrArg Task.state (get_upd_same ..)
    · exact congrArg Task.inHand (get_upd_same ..)
  · intro s t hc
    rw [exec_exit, execExit, plainCall_ok hc]
  · intro s t hc
    rw [exec_taskReturn, execTaskReturn, if_pos hc]
  · intro s t b hc
    rw [exec_userTaskFault, execUserTaskFault, if_pos hc]
  · intro s t block h
    rw [exec_sleepExpiry, execSleepExpiry, h]
  · intro s t block mask h
    rw [exec_eventWaitTimeout, execEventWaitTimeout, h]
  · intro s t log hw hh ho
    rw [exec_hookTimeout, execHookTimeout, if_neg (by simp [hw, hh])]
    exact if_neg (by simp; omega)
  · intro s t log hw hh ho
    rw [exec_hookTimeout, execHookTimeout, if_neg (by simp [hw, hh])]
    exact if_pos (by simp; omega)
  · intro s t st at_ d
    exact modTask_tasks_same ..

end Sys2Proof.Machine

end

section

/-! PROOF of DoorbellsSubmitTheRequestOfThePayload and RingsAndPanQueuesAnswerTheirRegisters (14 R385, R387 to R389,
R394, R397, R401, R402). -/

namespace Sys2Proof.Machine

/-! ### Doorbells -/

theorem modBox_modBox (m : Fin 16) (f g : Mailbox → Mailbox) (s : State) :
    modBox m g (modBox m f s) = modBox m (fun b => g (f b)) s := by
  simp only [modBox, State.modHost, upd_upd]

/-- Two changes of a mailbox that agree on its present content are one. -/
theorem modBox_congr {m : Fin 16} {f g : Mailbox → Mailbox} {s : State}
    (h : f s.host.boxes[m] = g s.host.boxes[m]) :
    modBox m f s = modBox m g s := by
  simp only [modBox, State.modHost]
  rw [upd_congr _ _ h]

/-- Screening reads the admin lock only. -/
theorem screenStatus_of_lock {src : Source} {p : Pend} {s u : State} (h : u.host.adminLock = s.host.adminLock) :
    screenStatus src p u = screenStatus src p s := by
  unfold screenStatus
  rw [h]

theorem screenStatus_modBox (src : Source) (p : Pend) (m : Fin 16) (f : Mailbox → Mailbox) (s : State) :
    screenStatus src p (modBox m f s) = screenStatus src p s := screenStatus_of_lock rfl

theorem screenStatus_modEm (src : Source) (p : Pend) (f : Mailbox → Mailbox) (s : State) :
    screenStatus src p (modEm f s) = screenStatus src p s := screenStatus_of_lock rfl

section
variable {s : State} {m : Fin 16}

/-- The mailbox right after GO. -/
def gone (b : Mailbox) : Mailbox := { b with busy := true, done := false }

theorem mailboxGo_idle (hb : s.host.boxes[m].busy = false) (hh : s.host.boxes[m].inHand = none) :
    mailboxGo m s = if s.host.supervisor
      then takeUp (.mailbox m) [parseRequest s.host.boxes[m].request] (modBox m gone s)
      else setHand (.mailbox m) (some (parseRequest s.host.boxes[m].request)) (modBox m gone s) := by
  have hnone : hand (.mailbox m) (modBox m gone s) = none :=
    (congrArg Mailbox.inHand (modBox_boxes_same m gone s)).trans hh
  unfold mailboxGo
  rw [hb, if_neg Bool.false_ne_true]
  unfold submit
  dsimp only
  rw [show modBox m (fun b => { b with busy := true, done := false }) s = modBox m gone s from rfl, hnone]
  rfl

theorem execMailboxDoorbell_reached (h : hostReachable s = true) :
    execMailboxDoorbell m s = .next (mailboxGo m s) :=
  if_pos h

end

/-- Settles O19: GO by what stands in the mailbox, ownership by its owner. -/
theorem doorbellsSubmitTheRequestOfThePayload : Obligations.DoorbellsSubmitTheRequestOfThePayload := by
  unfold Obligations.DoorbellsSubmitTheRequestOfThePayload
  refine ⟨?_, ?_, ?_, ?_, ?_, ?_, ?_, ?_, ?_, ?_, ?_⟩
  · intro s m hr hb
    rw [exec_mailboxDoorbell, execMailboxDoorbell_reached hr, mailboxGo, if_pos hb]
  · intro s m hr hb hh hs hscreen
    rw [exec_mailboxDoorbell, execMailboxDoorbell_reached hr, mailboxGo_idle hb hh, if_pos hs,
      takeUp_of_passed ((screenStatus_modBox ..).trans hscreen)]
    simp only [setBehind, setHand, modBox_modBox]
    rfl
  · intro s m e hr hb hh hs hscreen
    rw [exec_mailboxDoorbell, execMailboxDoorbell_reached hr, mailboxGo_idle hb hh, if_pos hs,
      takeUp_of_refused ((screenStatus_modBox ..).trans hscreen)]
    refine ⟨_, rfl, ?_⟩
    have hrespond : respond (.mailbox m) (parseRequest s.host.boxes[m].request) e []
        (countRefusal (.mailbox m) e (modBox m gone s)) =
        setMbDone m (modBox m (fun x => { x with
          busy := false, done := true, response := responseOctets (parseRequest s.host.boxes[m].request) e [] })
          (modBox m gone s)) := rfl
    rw [hrespond]
    simp only [takeUp, setBehind, setHand, modBox_boxes_same, setMbDone_boxes, and_self]
  · intro s m hr hb hh hs
    rw [exec_mailboxDoorbell, execMailboxDoorbell_reached hr, mailboxGo_idle hb hh, hs, if_neg Bool.false_ne_true]
    simp only [setHand, modBox_modBox]
    rfl
  · intro s p hp ho
    rw [exec_emergencyDoorbell, execEmergencyDoorbell, if_pos hp, emergencyGo, if_pos ho]
  · intro s p hp hr ho hb hh hscreen
    have hnone : hand .emergency (modEm (fun b => { b with busy := true, done := false }) s) = none := hh
    have hserved : served .emergency (modEm (fun b => { b with busy := true, done := false }) s) = true := by
      show (!s.power.inReset) = true
      rw [hr]; rfl
    rw [exec_emergencyDoorbell, execEmergencyDoorbell, if_pos hp, emergencyGo, if_neg (not_not.mpr ho), hb,
      if_neg Bool.false_ne_true, submit, hnone]
    dsimp only
    rw [if_pos hserved, takeUp_of_passed ((screenStatus_modEm ..).trans hscreen)]
    rfl
  · intro s p hp ho
    rw [exec_emClaim, execEmClaim, if_pos hp]
    simp only [claimEm, State.modHost, ho, if_true]
  · intro s p hp h0 hne
    rw [exec_emClaim, execEmClaim, if_pos hp]
    simp only [claimEm, State.modHost, if_neg h0, if_neg hne]
  · intro s p hp ho
    rw [exec_emRelease, execEmRelease, if_pos hp, releaseEm, if_pos ho]
    simp only [loseEm, State.modHost, ho]
  · intro s h0
    rw [exec_emOwnershipTimeout, execEmOwnershipTimeout, if_pos h0]
    rfl
  · intro s hr
    rw [exec_adminLock, execAdminLock, if_pos hr]
    rfl

/-! ### Rings -/

theorem ringAt_modRing (s : State) (tx : Bool) (r : Fin 64) (f : Ring → Ring) :
    ringAt (modRing tx r f s) tx r = f (ringAt s tx r) := by
  cases tx
  · exact get_upd_same ..
  · exact get_upd_same ..

section
variable {v : Nat} {k : Ring}

/-- The fields that the register's other bits set in a ring that is off. -/
def ringSet (v : Nat) (k : Ring) : Ring :=
  { k with vector := if 8 ≤ bits v 8 14 then bits v 8 14 else k.vector, wbIrq := bitOf v 18, sizeLog2 := bits v 1 5,
           queue := if 4 ≤ bits v 24 29 then bits v 24 29 else k.queue }

theorem ringFields_off (he : k.enabled = false) : ringFields v k = ringSet v k := by
  simp only [ringFields, he, Bool.false_eq_true, if_false, ringSet]

theorem enableRing_fits (he : k.enabled = false) (h6 : 6 ≤ bits v 1 5)
    (h15 : bits v 1 5 ≤ 15) : enableRing v k =
    { ringSet v k with enabled := true, size := bits v 1 5, useBase := k.base, useQueue := (ringSet v k).queue } := by
  have hoff : ¬ (ringSet v k).enabled = true := ne_true_of_eq_false he
  have hfits : within 6 15 (ringSet v k).sizeLog2 = true := within_of_le h6 h15
  unfold enableRing
  dsimp only
  rw [ringFields_off he, if_neg hoff, if_pos hfits]
  rfl

theorem enableRing_misfits (he : k.enabled = false) (h : bits v 1 5 < 6 ∨ 15 < bits v 1 5) :
    enableRing v k = ringSet v k := by
  have hoff : ¬ (ringSet v k).enabled = true := ne_true_of_eq_false he
  have hmisfits : ¬ within 6 15 (ringSet v k).sizeLog2 = true := by
    show ¬ within 6 15 (bits v 1 5) = true
    simp only [within, Bool.and_eq_true, decide_eq_true_eq]
    omega
  unfold enableRing
  dsimp only
  rw [ringFields_off he, if_neg hoff, if_neg hmisfits]

theorem ringFields_head : (ringFields v k).head = k.head := by
  unfold ringFields
  dsimp only
  split <;> rfl

theorem disableRing_stops : (disableRing v k).enabled = false ∧ (disableRing v k).held = none ∧
    (disableRing v k).head = k.head := by
  unfold disableRing
  dsimp only
  split
  · exact ⟨rfl, rfl, ringFields_head⟩
  next h => exact ⟨rfl, h, ringFields_head⟩

end

/-! ### Pan queues -/

@[simp] theorem modQueue_queues_same (s : State) (q : Fin 5) (f : PanQueue → PanQueue) :
    (s.modQueue q f).host.queues[q] = f s.host.queues[q] := get_upd_same ..

theorem headItem_cons {k : PanQueue} {i : QItem} {rest : List QItem} (h : k.items = i :: rest) :
    headItem k = some ({ i with lossBefore := k.lossNext }, { k with items := rest, lossNext := false }) := by
  rw [headItem, h]

/-- Settles O20: the rings through the law of their update, the queues by their head item and their counts. -/
theorem ringsAndPanQueuesAnswerTheirRegisters : Obligations.RingsAndPanQueuesAnswerTheirRegisters := by
  unfold Obligations.RingsAndPanQueuesAnswerTheirRegisters
  refine ⟨?_, ?_, ?_, ?_, ?_, ?_, ?_, ?_, ?_, ?_, ?_⟩
  · intro s tx r v hr hv he h6 h15
    refine ⟨_, by rw [exec_ringEnable, execRingEnable, hr, hv]; rfl, ?_⟩
    rw [ringAt_modRing, enableRing_fits he h6 h15]
    exact ⟨rfl, rfl, rfl, rfl, rfl⟩
  · intro s tx r v hr hv he hbad
    refine ⟨_, by rw [exec_ringEnable, execRingEnable, hr, hv]; rfl, ?_⟩
    rw [ringAt_modRing, enableRing_misfits he hbad]
    exact he
  · intro s tx r v hr hv
    refine ⟨_, by rw [exec_ringDisable, execRingDisable, hr, hv]; rfl, ?_⟩
    rw [ringAt_modRing]
    exact disableRing_stops
  · intro s tx r v hr
    rw [exec_ringTailWrite, execRingTailWrite, if_pos hr, writeTail]
  · intro s q hr
    rw [exec_pqFlush, execPqFlush, if_pos hr, flushQueue]
  · intro s q v hr hok hv
    refine ⟨_, by rw [exec_pqConsumerWrite, execPqConsumerWrite, if_pos hr], ?_⟩
    have hc : consumerOk s.host.queues[q] v = true := decide_eq_true hok
    rw [writeConsumer, modQueue_queues_same]
    dsimp only
    rw [Nat.mod_eq_of_lt hv, if_pos hc]
  · intro s q v hr hv hbad
    refine ⟨_, by rw [exec_pqConsumerWrite, execPqConsumerWrite, if_pos hr], ?_⟩
    have hc : consumerOk s.host.queues[q] v = false := decide_eq_false (Nat.not_le.mpr hbad)
    rw [writeConsumer, modQueue_queues_same]
    dsimp only
    rw [Nat.mod_eq_of_lt hv, hc, if_neg Bool.false_ne_true]
  · intro s q i rest hr hd hi
    rw [exec_panQueuePop, execPanQueuePop, if_pos hr, popQueue, hd]
    simp only [Bool.false_eq_true, if_false, headItem_cons hi]
    refine ⟨_, rfl, ?_⟩
    rw [show ∀ ws u, (answerRead ws u).host.queues = u.host.queues from fun _ _ => rfl, modQueue_queues_same]
    exact ⟨rfl, rfl, rfl, rfl, rfl⟩
  · intro s q hr hd hi
    have hnone : headItem s.host.queues[q] = none := by rw [headItem, hi]
    rw [exec_panQueuePop, execPanQueuePop, if_pos hr, popQueue, hd]
    simp only [Bool.false_eq_true, if_false, hnone]
    exact ⟨_, rfl, modQueue_queues_same ..⟩
  · intro s q hr hd
    rw [exec_panQueuePop, execPanQueuePop, if_pos hr, popQueue, if_pos hd]
  · intro s q i rest hr hd hi hroom
    have hgo : ¬ ((!s.host.queues[q].dma) = true ∨ (!hostReachable s) = true ∨ bufferSlots s.host.queues[q] ≤
        (s.host.queues[q].producer + 2 ^ 32 - s.host.queues[q].consumer) % 2 ^ 32) := by
      rw [hd, hr]
      simpa using hroom
    rw [exec_panQueueDelivery, execPanQueueDelivery, if_neg hgo, headItem_cons hi]
    refine ⟨_, rfl, ?_⟩
    rw [modQueue_queues_same]
    exact ⟨rfl, rfl, rfl⟩

end Sys2Proof.Machine

end

section

/-! PROOF of SecurityCommandsActAsTheirRulesSay (13 R344, R346 to R353, R358, R364, R365; 15 R425). -/

namespace Sys2Proof.Machine

/-- A command that waits for its write keeps its request, marked as taken. -/
theorem runCommand_hold {op len : Nat} {r : Req} {s t : State} {p : Pend} {f : State → State × Ans}
    (hl : r.len = len)
    (hp : ready op r s = some p) (k : f s = (t, .hold)) (hh : hand r.src t = hand r.src s) :
    runCommand op (r.len = len) r (fun _ s => f s) s = .next (setHand r.src (some { p with taken := true }) t) := by
  rw [runCommand_asked ⟨hl, p, hp⟩, k]
  simp only [answer, hh, hand_of_ready hp, Option.map_some]

theorem hand_beginWrite (src : Source) (w : KeyWrite) (s : State) : hand src (beginWrite w s) = hand src s := by
  cases src <;> rfl

theorem take_pad {l : Bytes} {n : Nat} (h : l.length = n) : l.take n ++ zeroBytes (n - l.length) = l := by
  rw [h, Nat.sub_self, List.take_of_length_le (Nat.le_of_eq h)]
  exact List.append_nil l

/-! ### The change of the life cycle -/

/-- The service stops for the change to state `t`, which command `src`, `q` asked for. -/
def changeBegun (t : Fin 4) (src : Source) (q : Nat) (s : State) : State :=
  (stopService (endRunning s)).modKeys fun k => { k with change := some ⟨t, false, some (src, q)⟩ }

theorem endRunning_life (s : State) : (endRunning s).keys.life = s.keys.life := by
  unfold endRunning
  rw [forAll_keeps State.keys fun _ _ => completeCmd_keys ..]
  exact (stopRunning_stops s).life

theorem stopService_keys (s : State) :
    (stopService s).keys = s.keys := (stopService_core s).same .keys (by decide)

theorem changeBegun_life (t : Fin 4) (src : Source) (q : Nat) (s : State) :
    (changeBegun t src q s).keys.life = s.keys.life := by
  unfold changeBegun
  rw [State.modKeys, ← endRunning_life s, ← stopService_keys (endRunning s)]

theorem stopService_requests (s : State) :
    (stopService s).net.nts.requests = [] ∧ (stopService s).net.ptp.requests = [] :=
  ⟨rfl, rfl⟩

section
variable {r : Req} {s : State} {f t d : Nat}

theorem execLifeCycle_misaddressed (h : Asks 0x0801 20 r s) (hd : d ≠ Config.deviceId) :
    execLifeCycle r f t d s = .next (finish r.src eRange [] s) :=
  runAccepted_error h fun _ => need_false (decide_eq_false hd)

theorem execLifeCycle_refused (h : Asks 0x0801 20 r s) (hbad : f ≠ s.keys.life.val ∨ lifeAllowed f t = false) :
    execLifeCycle r f t Config.deviceId s = .next (finish r.src eState [] s) := by
  refine runAccepted_error h fun _ => (need_true (decide_eq_true rfl)).trans (need_false ?_)
  obtain hf | ht := hbad
  · simp [hf]
  · simp [ht]

end

/-! ### Descriptors -/

theorem descriptor_length (s : State) (n : Nat) : (descriptor s n).length = 16 := by
  unfold descriptor
  dsimp only
  split <;> simp [length_le]

/-- The blob that `saKeyExport` writes, with the free value `e` as its ephemeral key. -/
def exportBlob (s : State) (e z : Bytes) (n : Nat) : Bytes :=
  le 4 0x31494B5A ++ le 4 s.keys.importGen ++ (le 1 4 ++ Config.publicKey 0 e) ++
    Config.keyWrap (wrapKey z (le 1 4 ++ Config.publicKey 0 e)) ((material (slotAt s n)).take 32)

/-- Settles O56: each command's rules in their order, the lengths of what it writes. -/
theorem securityCommandsActAsTheirRulesSay : Obligations.SecurityCommandsActAsTheirRulesSay := by
  unfold Obligations.SecurityCommandsActAsTheirRulesSay
  refine ⟨?_, ?_, ?_, ?_, ?_, ?_, ?_, by decide, ?_, ?_, ?_, ?_, ?_, ?_, ?_, ?_, ?_, ?_, ?_, ?_, ?_, ?_, ?_, ?_, ?_, ?_,
    ?_, ?_, ?_, ?_, ?_, ?_⟩
  · intro s r g rows i hi hf h0 h1 hlife
    rw [exec_tamperConfigure]
    refine runConfig_ok hf (by simp [hi, asFin_val]) ?_
    rw [hi, asFin_val]
    refine (need_true ?_).trans (need_true (decide_eq_true hlife))
    rw [decide_eq_true h0, decide_eq_true h1]; rfl
  · intro s r g rows i hi hf h0 h1 hlife
    have hout : ¬ s.keys.life.val < 2 := by
      obtain h | h := hlife <;> simp [h]
    rw [exec_tamperConfigure]
    refine runConfig_error hf (by simp [hi, asFin_val]) ?_
    rw [hi, asFin_val]
    refine (need_true ?_).trans (need_false (decide_eq_false hout))
    rw [decide_eq_true h0, decide_eq_true h1]; rfl
  · intro i
    show (Vector.replicate 2 ((0, 0) : Nat × Nat))[i] = (0, 0)
    simp
  · intro s r p t hl hp hallow hnone hroot
    refine ⟨changeBegun t r.src p.sequence s, ?_, rfl, changeBegun_life .., rfl, rfl⟩
    rw [exec_lifeCycle]
    refine runAccepted_ok hl hp ?_
    refine (need_true (decide_eq_true rfl)).trans ((need_true ?_).trans ((need_true ?_).trans ?_))
    · rw [decide_eq_true rfl, hallow, hnone]; rfl
    · refine or_decide (hroot.imp_left fun h => ?_)
      rw [h]; rfl
    · rw [asFin_val]; rfl
  · intro s r f t d h hd
    rw [exec_lifeCycle, execLifeCycle_misaddressed h hd]
  · intro s r f t h hbad
    rw [exec_lifeCycle, execLifeCycle_refused h hbad]
  · intro s r t h hallow hnone ht hroot
    rw [exec_lifeCycle]
    refine runAccepted_error h fun _ => ?_
    refine (need_true (decide_eq_true rfl)).trans ((need_true ?_).trans (need_false ?_))
    · rw [decide_eq_true rfl, hallow, hnone]; rfl
    · have ht3 : t.val ≠ 3 := Fin.val_ne_of_ne ht
      rw [hroot, decide_eq_false ht3]; rfl
  · intro s r h
    rw [exec_zeroise]
    exact runSimple_ok h (need_true (decide_eq_true rfl))
  · intro s r d h hd
    rw [exec_zeroise]
    exact runSimple_error h (need_false (decide_eq_false hd))
  · intro s r p nonce alg hl hp hn ha
    refine ⟨s.modKeys fun k => { k with attests := k.attests ++ [⟨nonce, alg, r.src, p.sequence⟩] }, ?_, rfl, rfl⟩
    rw [exec_attestation]
    refine runAccepted_ok hl hp ((need_true (decide_eq_true ha)).trans ?_)
    rw [take_pad hn]
    rfl
  · intro s r nonce alg h ha
    rw [exec_attestation]
    exact runAccepted_error h fun _ => need_false (decide_eq_false (Nat.not_le.mpr ha))
  · intro s r h
    rw [exec_identityRead]
    exact runRead_asked h rfl
  · intro s r h hlife hladder hnone
    refine ⟨_, ?_, rfl⟩
    rw [exec_attestRotate]
    refine runSimple_ok h (need_true ?_)
    rw [decide_eq_true hlife, hladder, hnone]; rfl
  · intro s r h hladder
    rw [exec_attestRotate]
    refine runSimple_error h (need_false ?_)
    rw [hladder, Bool.and_false]; rfl
  · intro s r h hs
    rw [exec_importRotate]
    exact runSimple_ok h (need_true hs)
  · intro s r h hs
    rw [exec_importRotate]
    exact runSimple_error h (need_false hs)
  · intro s r p sa w alg id n k hl hp hsa hw ha halg hs hk hn
    refine ⟨_, ?_, rfl⟩
    rw [exec_keyImport]
    refine runCommand_hold hl hp ?_ (hand_beginWrite ..)
    rw [if_neg (by omega), hs, if_neg (by simp), hk]
    simp only [takeSaKey, hn]
  · intro s r sa w alg id h hbad
    rw [exec_keyImport]
    exact runCommand_error h (if_pos (by omega))
  · intro s r sa w alg id e h hsa hw ha halg hs hk
    rw [exec_keyImport]
    refine runCommand_error h ?_
    rw [if_neg (by omega), hs, if_neg (by simp), hk]
  · intro s r p sa w id n c hl hp hsa hw hs hn hc
    rw [exec_saKeyDerive]
    refine runCommand_hold hl hp ?_ (hand_beginWrite ..)
    rw [if_neg (by omega), hs, if_neg (by simp), take_pad hc]
    simp only [takeSaKey, hn]
  · intro s r sa w id c h hsa hw hs hn
    rw [exec_saKeyDerive]
    refine runCommand_error h ?_
    rw [if_neg (by omega), hs, if_neg (by simp)]
    simp only [takeSaKey, hn]
  · intro s r sa n z h hsa hs hder hslot hroot hz
    refine ⟨exportBlob (freshBytes 48 s).2 (freshBytes 48 s).1 z n, _, ?_, rfl, rfl⟩
    rw [exec_saKeyExport]
    refine runSimple_ok h ((need_true (decide_eq_true hsa)).trans ((need_true ?_).trans ?_))
    · rw [hs, hder]; rfl
    · rw [hslot]
      refine (need_true hroot).trans ?_
      generalize freshBytes 48 s = x at hz ⊢
      obtain ⟨e, u⟩ := x
      dsimp only at hz ⊢
      rw [hz]
      rfl
  · intro s r sa h hsa hder
    rw [exec_saKeyExport]
    refine runSimple_error h ((need_true (decide_eq_true hsa)).trans (need_false ?_))
    rw [hder, Bool.and_false]
  · intro s r n l h hn hs hl
    refine ⟨_, ?_, rfl⟩
    rw [exec_seal]
    refine runCommand_ok h ?_
    rw [if_neg (Nat.not_lt.mpr hn), hs, if_neg (by simp), take_pad hl]
  · intro s r n l h hn hs
    rw [exec_seal]
    refine runCommand_error h ?_
    rw [if_neg (Nat.not_lt.mpr hn), hs, if_pos (by simp)]
  · intro s r n b p h h32 hn hs hb hopen
    subst hb
    rw [exec_unseal]
    refine runCommand_ok h ?_
    rw [if_neg (Nat.not_lt.mpr hn), hs, if_neg (by simp), if_neg (Nat.not_lt.mpr h32), hopen]
  · intro s r n b h h32 hn hs hb hopen
    subst hb
    rw [exec_unseal]
    refine runCommand_error h ?_
    rw [if_neg (Nat.not_lt.mpr hn), hs, if_neg (by simp), if_neg (Nat.not_lt.mpr h32), hopen]
  · intro s r p n hl hp h1 hn hlife
    rw [exec_entropySample]
    exact runAccepted_ok hl hp ((need_true (within_of_le h1 hn)).trans (need_true (decide_eq_true hlife)))
  · intro s r n h h1 hn hlife
    rw [exec_entropySample]
    exact runAccepted_error h fun _ =>
      (need_true (within_of_le h1 hn)).trans (need_false (decide_eq_false (Nat.not_lt.mpr hlife)))
  · intro s r first count h h1 hc hend
    refine ⟨_, ?_, rfl, ?_⟩
    · rw [exec_keyStatus]
      refine runRead_asked h (if_pos ?_)
      rw [within_of_le h1 hc, decide_eq_true hend]; rfl
    · rw [length_flatMap_of_length fun i _ => descriptor_length s (first + i)]
      simp [Nat.mul_comm]
  · intro s r first count h hbad
    rw [exec_keyStatus]
    refine runRead_error h (if_neg ?_)
    simp only [within, Bool.and_eq_true, decide_eq_true_eq]
    omega

end Sys2Proof.Machine

end

section

/-! PROOF of CookieKeysFollowTheirLife (11 R302 to R307, R313). -/

namespace Sys2Proof.Machine

/-! ### Generations -/

@[simp] theorem dropBases_nts (slot id : Nat) (s : State) : (dropBases slot id s).net.nts =
    { s.net.nts with bases := s.net.nts.bases.filter fun b => decide (b.slot ≠ slot) || decide (b.keyId ≠ id) } := rfl

theorem zeroSlot_net (n : Nat) (s : State) :
    (zeroSlot n s).net = s.net := (zeroSlot_core n s).same .net (by decide)

theorem dropGen_gens (g : Fin 8) (s : State) : (dropGen g s).net.nts.gens[g] = {} := by
  unfold dropGen
  rw [dropBases_nts, zeroSlot_net]
  exact get_upd_same ..

theorem dropGen_bases (g : Fin 8) (s : State) : ∀ b ∈ (dropGen g s).net.nts.bases, b.slot = genSlot g →
    b.keyId ≠ s.net.nts.gens[g].keyId := by
  intro b hb hslot
  unfold dropGen at hb
  rw [dropBases_nts] at hb
  have hkept := (List.mem_filter.mp hb).2
  simpa [-Fin.getElem_fin, hslot] using hkept

theorem discardReaders_calendar (id : Nat) (s : State) (m : Fin 16) : (discardReaders id s).net.macs[m].calendar =
    s.net.macs[m].calendar.filter fun r => !readsKey id r :=
  congrArg Mac.calendar (get_vmap ..)

/-! ### Status -/

theorem genRecord_length (s : State) (g : Fin 8) : (genRecord s g).length = 16 := by
  unfold genRecord
  dsimp only
  split <;> simp [length_le]

theorem ntsCounters_length (s : State) (i : Fin 64) : (ntsCounters s i).length = 22 := by
  simp [ntsCounters]

theorem length_flatMap_genRecord (s : State) : ((fins 8).flatMap (genRecord s)).length = 128 := by
  rw [length_flatMap_of_length fun g _ => genRecord_length s g, length_fins]

/-! ### The rotation -/

@[simp] theorem modRotation_clock (f : Rotation → Rotation) (s : State) :
    (modRotation f s).clock = s.clock := rfl

theorem nowSec_of_clock {s t : State} (h : t.clock = s.clock) : nowSec t = nowSec s := by
  rw [nowSec, nowSec, now_of_clock h]

theorem newKey_clock (st : Nat) (s : State) : (newKey st s).clock = s.clock :=
  (newKey_core st s).same .clock (by decide)

/-- The state in which a check has noted its instant. -/
def instantNoted (s : State) : State := modRotation (fun x => { x with instant := some (instantNow s) }) s

/-- Whether the device draws and activates the keys itself. -/
def rotates (s : State) : Bool := ownsRotation s && serviceState s

/-- The state of a check after its draw of a key ahead of the instant. -/
def drawnAhead (s : State) : State :=
  if rotates (instantNoted s) ∧ instantNow s ≤ nowSec s + (instantNoted s).net.nts.rotation.cfg.lead ∧
    !hasPending (instantNoted s) then newKey 1 (instantNoted s) else instantNoted s

theorem drawnAhead_clock (s : State) : (drawnAhead s).clock = s.clock := by
  unfold drawnAhead
  split
  · exact newKey_clock ..
  · rfl

/-- Before its instant a check draws a key ahead of it and settles what is due. -/
theorem execRotationCheck_before {s : State} (hs : s.host.supervisor = true) (hc : counterForm s = true)
    (hne : instantNow s ≠ nowSec s) : execRotationCheck s =
      if rotates (instantNoted s) then .next (settleDue (reachAsked (drawnAhead s))) else .next (drawnAhead s) := by
  have hnot : ¬ nowSec (drawnAhead s) = instantNow s := by
    rw [nowSec_of_clock (drawnAhead_clock s)]
    exact fun h => hne h.symm
  have hdrawn : (if (ownsRotation (instantNoted s) && serviceState (instantNoted s)) = true ∧
      instantNow s ≤ nowSec (instantNoted s) + (instantNoted s).net.nts.rotation.cfg.lead ∧
      (!hasPending (instantNoted s)) = true then newKey 1 (instantNoted s) else instantNoted s) = drawnAhead s := rfl
  unfold execRotationCheck
  rw [hs, hc]
  simp only [Bool.not_true, Bool.false_eq_true, if_false]
  rw [show modRotation (fun x => { x with instant := some (instantNow s) }) s = instantNoted s from rfl, hdrawn,
    if_neg hnot]
  rfl

/-! ### Retirement -/

/-- Generation `h` is to be zeroised now. -/
def retireDue (s : State) (h : Fin 8) : Bool :=
  decide (genState s h = 3) && decide (s.net.nts.gens[h].retireAt ≤ now s)

theorem filter_fins_eq (g : Fin 8) : (fins 8).filter (fun h => decide (h = g)) = [g] := by
  revert g
  decide

theorem execKeyRetire_running {s : State} (hs : s.host.supervisor = true) (hc : clockRuns s = true) :
    execKeyRetire s = .next (forAll ((fins 8).filter (retireDue s)) (fun g t =>
      raise 0x0603 t.net.nts.gens[g].keyId 0 (dropGen g t)) s) := by
  unfold execKeyRetire
  rw [hs, hc]
  rfl

/-- Settles O52: each command's rules in their order; a check of the rotation by what it draws ahead. -/
theorem cookieKeysFollowTheirLife : Obligations.CookieKeysFollowTheirLife := by
  unfold Obligations.CookieKeysFollowTheirLife
  refine ⟨?_, ?_, ?_, ?_, ?_, ?_, ?_, ?_, ?_, ?_, ?_, ?_, ?_, ?_, ?_, ?_, ?_, ?_, ?_, ?_, ?_, ?_, ?_, ?_⟩
  · intro s r p hl hp hs ho hpend
    rw [exec_rotateNow]
    refine runAccepted_ok hl hp ?_
    refine (need_true hs).trans ((need_true ho).trans ((need_true (by rw [hpend]; rfl)).trans ?_))
    rw [if_pos hpend]
    rfl
  · intro s r p hl hp hs ho hpend hent
    refine ⟨_, ?_, rfl⟩
    rw [exec_rotateNow]
    refine runAccepted_ok hl hp ?_
    refine (need_true hs).trans ((need_true ho).trans ((need_true (by rw [hent, hpend]; rfl)).trans ?_))
    rw [if_neg (ne_true_of_eq_false hpend)]
    rfl
  · intro s r h hs
    rw [exec_rotateNow]
    exact runAccepted_error h fun _ => need_false hs
  · intro s r h hs ho
    rw [exec_rotateNow]
    exact runAccepted_error h fun _ => (need_true hs).trans (need_false ho)
  · intro s r h hs ho hpend hent
    rw [exec_rotateNow]
    exact runAccepted_error h fun _ =>
      (need_true hs).trans ((need_true ho).trans (need_false (by rw [hent, hpend]; rfl)))
  · intro s r id g h ho hg
    rw [exec_invalidateKey]
    refine runSimple_ok h ((need_true ho).trans ?_)
    rw [hg]
    rfl
  · intro s r id h ho hg
    rw [exec_invalidateKey]
    refine runSimple_error h ((need_true ho).trans ?_)
    rw [hg]
  · intro s id m
    refine ⟨fun x hx => ?_, rfl⟩
    rw [discardReaders_calendar] at hx
    simpa using (List.mem_filter.mp hx).2
  · intro s g
    exact ⟨dropGen_gens g s, dropGen_bases g s⟩
  · intro s r p n hl hp h1 hn hs hnone
    rw [exec_cookieMint]
    refine runAccepted_ok hl hp ((need_true (within_of_le h1 hn)).trans (need_true ?_))
    rw [hs, hnone]; rfl
  · intro s r n h hbad
    rw [exec_cookieMint]
    refine runAccepted_error h fun _ => need_false ?_
    rw [← Bool.not_eq_true]
    simp only [within, Bool.and_eq_true, decide_eq_true_eq]
    omega
  · intro s r n h h1 hn hmint
    rw [exec_cookieMint]
    refine runAccepted_error h fun _ => (need_true (within_of_le h1 hn)).trans (need_false ?_)
    rw [Option.isNone_eq_false_iff.mpr (Option.ne_none_iff_isSome.mp hmint), Bool.and_false]
  · intro s n q src hmint
    refine ⟨_, _, ?_, rfl⟩
    rw [exec_mintComplete, execMintComplete, hmint]
  · intro s hmint
    rw [exec_mintComplete, execMintComplete, hmint]
  · intro s r i h
    have hrecords := length_flatMap_genRecord s
    refine ⟨(fins 8).flatMap (genRecord s) ++ (ntsCounters s i).flatMap (le 8), ?_, ?_, ?_, ?_⟩
    · rw [exec_ntsStatus]
      refine runRead_asked h ?_
      rw [asFin_val]
    · rw [List.length_append, hrecords, length_flatMap_of_length fun v _ => length_le 8 v, ntsCounters_length]
    · rw [← hrecords]
      exact List.take_left
    · rw [← hrecords]
      exact List.drop_left
  · intro s r a h ha
    have hnone : asFin 64 a = none := dif_neg (Nat.not_lt.mpr ha)
    rw [exec_ntsStatus]
    exact runRead_error h (by rw [hnone])
  · intro s
    refine ⟨_, by rw [exec_policingBankSwap]; rfl, rfl, rfl, fun p => ?_⟩
    exact ⟨congrArg Profile.kods (get_vmap ..), congrArg Profile.naks (get_vmap ..), (congrArg Profile.cfg (get_vmap ..) :)⟩
  · intro s hs hc
    rw [exec_rotationCheck, execRotationCheck, hs, hc]
    rfl
  · intro s hs hc hne howns
    have hquiet : ¬ rotates (instantNoted s) = true := ne_true_of_eq_false howns
    rw [exec_rotationCheck, execRotationCheck_before hs hc hne, if_neg hquiet, drawnAhead,
      if_neg fun h => hquiet h.1]
    rfl
  · intro s t hs hc hlt ht ho hserv hpend hlead
    obtain rfl : t = instantNoted s := ht
    have hrot : rotates (instantNoted s) = true := by rw [rotates, ho, hserv]; rfl
    rw [exec_rotationCheck, execRotationCheck_before hs hc (by omega), if_pos hrot, drawnAhead,
      if_pos ⟨hrot, hlead, by rw [hpend]; rfl⟩]
  · intro s x g hx hs hc ha hg hstate
    have hgo : ¬ ((!s.host.supervisor) = true ∨ (!counterForm s) = true ∨ now s < x.a) := by
      rw [hs, hc]
      simpa using ha
    rw [exec_keyActivation, execKeyActivation, hx]
    dsimp only
    rw [if_neg hgo, hg]
    exact if_pos hstate
  · intro s hx
    rw [exec_keyActivation, execKeyActivation, hx]
  · intro s g hs hc hg hdue hothers
    have honly : (fins 8).filter (retireDue s) = [g] := by
      rw [← filter_fins_eq g]
      refine List.filter_congr fun h _ => ?_
      by_cases hh : h = g
      · rw [hh, retireDue, decide_eq_true hg, decide_eq_true hdue, decide_eq_true rfl]; rfl
      · rw [decide_eq_false hh, retireDue, ← Bool.not_eq_true, Bool.and_eq_true, decide_eq_true_eq, decide_eq_true_eq]
        exact fun ⟨hthree, hnow⟩ => absurd (hothers h hh hthree) (Nat.not_lt.mpr hnow)
    rw [exec_keyRetire, execKeyRetire_running hs hc, honly]
    rfl
  · intro s hnone
    have hempty : (fins 8).filter (retireDue s) = [] := by
      refine List.filter_eq_nil_iff.mpr fun h _ => ?_
      rw [retireDue, Bool.and_eq_true, decide_eq_true_eq, decide_eq_true_eq]
      exact fun ⟨hthree, hnow⟩ => absurd (hnone h hthree) (Nat.not_lt.mpr hnow)
    rw [exec_keyRetire]
    by_cases hrun : s.host.supervisor = true ∧ clockRuns s = true
    · rw [execKeyRetire_running hrun.1 hrun.2, hempty]
      rfl
    · refine if_pos ?_
      rw [not_and_or] at hrun
      simpa using hrun

end Sys2Proof.Machine

end

section

/-! PROOF of SaKeysAndTheClientRoleFollowTheirRules (12 R330 to R337; 02 R63, R70). -/

namespace Sys2Proof.Machine

/-! ### What a frame to another member leaves of the network part (16 R441) -/

/-- The network part with the nonce bases blanked. -/
def Net.unbased (n : Net) : Net := { n with nts := { n.nts with bases := [] } }

/-- A field that the blank leaves as it is can be read off an equation of unbased network parts. -/
theorem field_of_unbased {α : Type} (g : Net → α) {m n : Net} (e : m.unbased = n.unbased)
    (hg : ∀ n : Net, g n.unbased = g n := by intro n; rfl) : g m = g n :=
  (hg m).symm.trans ((congrArg g e).trans (hg n))

theorem drawBase_unbased (engine slot keyId : Nat) (s : State) :
    (drawBase engine slot keyId s).2.net.unbased = s.net.unbased := by
  unfold drawBase
  dsimp only
  split <;> rfl

theorem takeCount_unbased (engine slot keyId : Nat) (gcm : Bool) (s : State) :
    (takeCount engine slot keyId gcm s).2.2.net.unbased = s.net.unbased := by
  have hDrawn := drawBase_unbased engine slot keyId s
  unfold takeCount
  dsimp only
  split
  · split
    · exact hDrawn
    · rfl
  · exact hDrawn

theorem sendOn_unbased (l : Fin 2) (type dst hops key : Nat) (b : Bytes) (x : Option ReplBody) (s : State) :
    (sendOn l type dst hops key b x s).net.unbased = s.net.unbased := by
  unfold sendOn
  split
  · rfl
  · dsimp only
    split
    · rfl
    · exact takeCount_unbased ..

theorem sendTo_unbased (type dst key : Nat) (b : Bytes) (x : Option ReplBody) (s : State) :
    (sendTo type dst key b x s).net.unbased = s.net.unbased := by
  unfold sendTo
  split
  · exact sendOn_unbased ..
  · rfl

theorem sendRepl_unbased (x : ReplBody) (dst : Fin 8) (s : State) :
    (sendRepl x dst s).net.unbased = s.net.unbased := sendTo_unbased ..

theorem replicate_unbased (dest : List (Fin 8)) (x : ReplBody) (s : State) :
    (replicate dest x s).net.unbased = s.net.unbased :=
  forAll_keeps (fun t => t.net.unbased) (fun p t => sendRepl_unbased x p t) dest s

theorem replicateSaKey_unbased (a : Sa) (k : SaKey) (s : State) :
    (replicateSaKey a k s).net.unbased = s.net.unbased := by
  unfold replicateSaKey
  split
  · split
    · exact replicate_unbased ..
    · rfl
  · rfl

/-! ### Security associations -/

theorem assoc_assocSet_same {α : Type} (l : List (Nat × α)) (k : Nat) (v : α) :
    assoc (assocSet l k v) k = some v := by
  induction l with
  | nil => exact if_pos rfl
  | cons p ps ih =>
    unfold assocSet
    split
    next hlt => exact (if_neg (Nat.ne_of_lt hlt)).trans ih
    · split
      · exact if_pos rfl
      · exact if_pos rfl

theorem saAt_setSa (n : Nat) (a : Sa) (s : State) : saAt (setSa n a s) n = some a := assoc_assocSet_same ..

theorem saAt_of_net {s t : State} {n : Nat} (h : t.net.unbased = s.net.unbased) : saAt t n = saAt s n :=
  congrArg (assoc · n) (field_of_unbased (fun x => x.ptp.sas) h)

theorem saAt_freeHandle (h n : Nat) (s : State) : saAt (freeHandle h s) n = saAt s n :=
  saAt_of_net (congrArg Net.unbased ((freeHandle_core h s).same .net (by decide)))

theorem saAt_raise (code a b n : Nat) (s : State) : saAt (raise code a b s) n = saAt s n := rfl

theorem saAt_replicateSaKey (a : Sa) (k : SaKey) (n : Nat) (s : State) :
    saAt (replicateSaKey a k s) n = saAt s n :=
  saAt_of_net (replicateSaKey_unbased a k s)

/-! ### An interval's measurement -/

theorem addReason_measured (i : Fin 20) (c : Nat) (s : State) :
    (addReason i c s).refs[i].measured = s.refs[i].measured := by
  by_cases h : s.refs[i].state = .off
  · rw [addReason, if_pos h]
  · rw [addReason_refs c h, get_upd_same]
    rfl

theorem modRef_measured {i : Fin 20} {f : Ref → Ref} {s : State}
    (h : (f s.refs[i]).measured = s.refs[i].measured) :
    (s.modRef i f).refs[i].measured = s.refs[i].measured :=
  (congrArg Ref.measured (get_upd_same ..)).trans h

theorem Ref.arrived_measured (n : Nat) (r : Ref) : (r.arrived n).measured = r.measured := by
  unfold Ref.arrived
  dsimp only
  split <;> rfl

theorem watchPath_measured (i : Fin 20) (d : Int) (s : State) :
    (watchPath i d s).refs[i].measured = s.refs[i].measured := by
  unfold watchPath
  extract_lets r t kept l s1 again margin
  have h1 : s1.refs[i].measured = s.refs[i].measured := modRef_measured rfl
  clear_value s1
  split
  · exact h1
  · extract_lets n largest s2 s3 s4
    split
    · exact (modRef_measured rfl).trans h1
    · have h2 : s2.refs[i].measured = s.refs[i].measured := (modRef_measured rfl).trans h1
      clear_value s2
      have h3 : s3.refs[i].measured = s.refs[i].measured :=
        iteInduction (motive := fun u : State => u.refs[i].measured = s.refs[i].measured) (fun _ => h2) fun _ => h2
      clear_value s3
      have h4 : s4.refs[i].measured = s.refs[i].measured :=
        iteInduction (motive := fun u : State => u.refs[i].measured = s.refs[i].measured) (fun _ => h3) fun _ => h3
      clear_value s4
      split
      · exact h4
      · exact (modRef_measured rfl).trans ((addReason_measured ..).trans h4)

/-- The state in which the mean `o` of an interval is taken: the entry `e` of unit `u`. -/
def intervalTaken (u : Fin 4) (e : Fin 16) (o : Int) (s : State) : State :=
  let x := s.net.ptp.ptpus[u]
  let offs := (o :: x.offsets).take 16
  let t := modPtpu u (fun y => { y with exchanges := [] }) s
  let unc := satBound (parentUnc t.net.ptp.entries[e].announce + sixSigma offs)
  let t := modPtpu u (fun y => { y with offsets := offs }) t
  watchPath (ptpuRef u) (rdiv ((x.exchanges.map (·.2)).foldl (· + ·) 0) x.exchanges.length)
    (refArrival (ptpuRef u) (takeOffset (ptpuRef u) o (now t) (t.modRef (ptpuRef u) fun r => { r with uncertainty := unc })))

theorem intervalTaken_net (u : Fin 4) (e : Fin 16) (o : Int) (s : State) : (intervalTaken u e o s).net.ptp.ptpus[u] =
    { s.net.ptp.ptpus[u] with exchanges := [], offsets := (o :: s.net.ptp.ptpus[u].offsets).take 16 } := by
  unfold intervalTaken
  dsimp only
  rw [(watchPath_core _ _ _).same .net (by decide), (refArrival_core _ _).same .net (by decide),
    (takeOffset_core _ _ _ _).same .net (by decide), modRef_net]
  refine (get_upd_same ..).trans ?_
  exact congrArg (fun y : Ptpu => { y with offsets := (o :: s.net.ptp.ptpus[u].offsets).take 16 }) (get_upd_same ..)

theorem refArrival_measured {i : Fin 20} {s : State} : (refArrival i s).refs[i].measured = s.refs[i].measured := by
  by_cases h : s.refs[i].state = .off
  · rw [refArrival, if_pos h]
  · rw [refArrival_refs h, get_upd_same, Ref.arrived_measured]

theorem intervalTaken_measured (u : Fin 4) (e : Fin 16) (o : Int) (s : State) :
    (intervalTaken u e o s).refs[ptpuRef u].measured = some o := by
  unfold intervalTaken
  dsimp only
  rw [watchPath_measured, refArrival_measured, takeOffset_refs, get_upd_same]

section
variable {s : State} {u : Fin 4} {e : Fin 16}

theorem execMeasIntervalEnd_taken (he : s.net.ptp.ptpus[u].entry = some e)
    (hx : s.net.ptp.ptpus[u].exchanges ≠ [])
    (hon : s.refs[ptpuRef u].state ≠ .off) : execMeasIntervalEnd u s =
      .next (intervalTaken u e (intervalOffset s.net.ptp.client.filter s.net.ptp.ptpus[u].exchanges) s) := by
  unfold execMeasIntervalEnd
  dsimp only
  rw [he]
  dsimp only
  rw [if_neg hx, modPtpu, modPtp_refs, if_neg hon]
  rfl

end

/-- The association with a key that replaces CURRENT in second `sec` (12 R333). -/
def saReplaced (k : SaKey) (derived : Bool) (sec : Nat) (a : Sa) : Sa :=
  { a with current := k, previous := a.current, overlapEnd := sec + a.overlap, dropping := false, derived := derived }

/-- The association after an invalidation (12 R335). -/
def saInvalidated (a : Sa) : Sa :=
  if a.policy = 0 ∧ a.next ≠ {} then { a with current := a.next, next := {}, derived := false }
  else { a with current := {}, dropping := true, derived := false }

theorem execSaInvalidate_valid {r : Req} {s : State} {sa : Nat} (h : Asks 0x0706 2 r s) (hsa : sa < 2048)
    (hs : serviceState s = true) : ∃ t, execSaInvalidate r sa s = .next (finish r.src stOk [] t) ∧
      saAt t sa = some (saInvalidated (saOrNone s sa)) := by
  by_cases hnext : (saOrNone s sa).policy = 0 ∧ (saOrNone s sa).next ≠ {}
  · refine ⟨_, runSimple_ok h ((need_true (decide_eq_true hsa)).trans ((need_true hs).trans (if_pos hnext))), ?_⟩
    rw [saAt_freeHandle, saAt_raise, saAt_replicateSaKey, saAt_setSa, saInvalidated, if_pos hnext]
  · refine ⟨_, runSimple_ok h ((need_true (decide_eq_true hsa)).trans ((need_true hs).trans (if_neg hnext))), ?_⟩
    rw [saAt_freeHandle, saAt_raise, saAt_setSa, saInvalidated, if_neg hnext]

/-- Settles O55: the associations by the law of their list, the client role by its rows. -/
theorem saKeysAndTheClientRoleFollowTheirRules : Obligations.SaKeysAndTheClientRoleFollowTheirRules := by
  unfold Obligations.SaKeysAndTheClientRoleFollowTheirRules
  refine ⟨?_, ?_, ?_, ?_, ?_, ?_, ?_, ?_, ?_, ?_, ?_, ?_, ?_, ?_, ?_, ?_, ?_, ?_, ?_, ?_, ?_, ?_, fun l => rfl, ?_, ?_⟩
  · intro s r sa which id h hasks hsa hw hs h0 hok
    rw [exec_keyReplace]
    refine runSimple_ok hasks ((need_true ?_).trans ((need_true hs).trans (need_true ?_)))
    · rw [decide_eq_true hsa, decide_eq_true hw]; rfl
    · rw [decide_eq_true h0, hok]; rfl
  · intro s r sa which id hasks hsa hw hs
    rw [exec_keyReplace]
    refine runSimple_error hasks ((need_true ?_).trans ((need_true hs).trans (need_false rfl)))
    rw [decide_eq_true hsa, decide_eq_true hw]; rfl
  · intro s r sa which id h hasks hsa hw hs
    rw [exec_keyReplace]
    refine runSimple_error hasks ((need_true ?_).trans (need_false hs))
    rw [decide_eq_true hsa, decide_eq_true hw]; rfl
  · intro s r sa which id h hasks hbad
    rw [exec_keyReplace]
    refine runSimple_error hasks (need_false ?_)
    rw [← Bool.not_eq_true, Bool.and_eq_true, decide_eq_true_eq, decide_eq_true_eq]
    omega
  · intro s sa k d
    refine ⟨saReplaced k d (nowSec s) (saOrNone s sa), ?_, rfl, rfl, rfl, rfl, rfl, rfl⟩
    unfold replaceKey
    simp only [if_true]
    rw [saAt_freeHandle, saAt_raise, saAt_replicateSaKey, saAt_setSa]
    rfl
  · intro s r sa hasks hsa hs
    obtain ⟨t, ht, ha⟩ := execSaInvalidate_valid hasks hsa hs
    refine ⟨t, _, ht, ha, fun hpol hnext => ?_, fun hbad => ?_⟩
    · rw [saInvalidated, if_pos ⟨hpol, hnext⟩]
      exact ⟨rfl, rfl, rfl⟩
    · rw [saInvalidated, if_neg fun h => hbad.elim (absurd h.1) h.2]
      exact ⟨rfl, rfl⟩
  · intro s r sa hasks hsa
    rw [exec_saInvalidate]
    exact runSimple_error hasks (need_false (decide_eq_false (Nat.not_lt.mpr hsa)))
  · intro s m hm
    rw [exec_ptpClientMessage, execPtpClientMessage, if_pos hm]
  · intro s u m hm hty hicv
    rw [exec_ptpClientMessage, execPtpClientMessage, if_neg (not_not.mpr hm)]
    dsimp only
    rw [hicv, hty]
    rfl
  · intro s u m hm hty hicv
    rw [exec_ptpClientMessage, execPtpClientMessage, if_neg (not_not.mpr hm)]
    dsimp only
    rw [hicv, hty]
    rfl
  · intro s e ty hoff
    rw [exec_grantRenewal, execGrantRenewal]
    exact if_pos (.inr (by rw [decide_eq_false hoff]; rfl))
  · intro s e hs hen hden hdue
    rw [exec_grantRenewal, execGrantRenewal, hs, hen, hden]
    exact if_pos hdue
  · intro s e u hs hen hden hpar hend
    have hlost : s.net.ptp.entries[e].denied = true ∧ s.net.ptp.entries[e].ptpu.isSome = true ∧
        clientGrant s.net.ptp.entries[e] 0xB ≤ nowSec s := ⟨hden, by rw [hpar]; rfl, hend⟩
    rw [exec_grantRenewal, execGrantRenewal, if_neg (by simp [-Fin.getElem_fin, hs, hen]), if_pos hlost]
  · intro s e h hfind
    rw [exec_followUpTimeout, execFollowUpTimeout, hfind]
  · intro s e hnone
    rw [exec_followUpTimeout, execFollowUpTimeout, hnone]
    rfl
  · intro s e hnone
    rw [exec_announceTimeout, execAnnounceTimeout, hnone]
    rfl
  · intro s e hann hpar
    rw [exec_announceTimeout, execAnnounceTimeout, if_neg (by simpa using hann), if_pos (Option.ne_none_iff_isSome.mp hpar)]
  · intro s e u hpar
    exact ⟨_, by rw [loseParent, hpar], rfl⟩
  · intro s e hann hpar
    rw [exec_announceTimeout, execAnnounceTimeout, if_neg (by simpa using hann), hpar]
    rfl
  · intro s u hnone
    rw [exec_measIntervalEnd, execMeasIntervalEnd, hnone]
  · intro s u e he hx
    refine ⟨_, ?_, rfl⟩
    rw [exec_measIntervalEnd, execMeasIntervalEnd, he]
    exact if_pos hx
  · intro s u e he hx hon
    have hnet := intervalTaken_net u e (intervalOffset s.net.ptp.client.filter s.net.ptp.ptpus[u].exchanges) s
    refine ⟨_, by rw [exec_measIntervalEnd, execMeasIntervalEnd_taken he hx hon], ?_, ?_, intervalTaken_measured ..⟩
    · exact congrArg Ptpu.exchanges hnet
    · exact congrArg Ptpu.offsets hnet
  · intro s u hreason hsince
    rw [exec_pathStableExpiry, execPathStableExpiry]
    exact if_pos ⟨hreason, hsince⟩
  · intro s u hreason
    rw [exec_pathStableExpiry, execPathStableExpiry]
    exact if_neg fun h => ne_true_of_eq_false hreason h.1

end Sys2Proof.Machine

end

section

/-! PROOF of StackMembershipAndLinksFollowTheirRules (16 R433 to R460; 15 R428). -/

namespace Sys2Proof.Machine

/-! ### What the draw of a nonce leaves of the stack part -/

/-- The stack part with the list of drawn nonce bases blanked. -/
def Stack.undrawn (t : Stack) : Stack := { t with drawn := [] }

/-- A field that the blank leaves as it is can be read off an equation of undrawn stack parts. -/
theorem field_of_undrawn {α : Type} (g : Stack → α) {m n : Stack} (e : m.undrawn = n.undrawn)
    (hg : ∀ t : Stack, g t.undrawn = g t := by intro t; rfl) : g m = g n :=
  (hg m).symm.trans ((congrArg g e).trans (hg n))

theorem drawBase_undrawn (engine slot keyId : Nat) (s : State) :
    (drawBase engine slot keyId s).2.stack.undrawn = s.stack.undrawn := by
  unfold drawBase
  dsimp only
  split <;> rfl

theorem takeCount_undrawn (engine slot keyId : Nat) (gcm : Bool) (s : State) :
    (takeCount engine slot keyId gcm s).2.2.stack.undrawn = s.stack.undrawn := by
  have hDrawn := drawBase_undrawn engine slot keyId s
  unfold takeCount
  dsimp only
  split
  · split
    · exact hDrawn
    · rfl
  · exact hDrawn

theorem takeIv_undrawn (engine slot keyId : Nat) (s : State) :
    (takeIv engine slot keyId s).2.stack.undrawn = s.stack.undrawn := takeCount_undrawn ..

/-! ### A frame that leaves on a link (16 R441) -/

/-- The initialisation vector of a frame and the state after it was drawn. -/
def frameIv (key dst : Nat) (s : State) : Bytes × State :=
  if key = 0 then (le 12 0, s) else takeIv 0xFF (stackSlot key (ownPos s) dst) 0 s

theorem frameIv_undrawn (key dst : Nat) (s : State) :
    (frameIv key dst s).2.stack.undrawn = s.stack.undrawn := by
  unfold frameIv
  split
  · rfl
  · exact takeIv_undrawn ..

theorem frameIv_clear (dst : Nat) (s : State) : frameIv 0 dst s = (le 12 0, s) := if_pos rfl

/-- The state with the sequence number of (key, dst) taken. -/
def seqTaken (key dst : Nat) (s : State) : State :=
  s.modStack fun t => { t with seqOut := upd t.seqOut (seqIndex key dst) (· + 1) }

/-- The frame that `sendOn` puts on a link: `s` is the state before it. -/
def frameSent (type dst hops key : Nat) (payload : Bytes) (repl : Option ReplBody) (s : State) : StackFrame :=
  let v := frameIv key dst (seqTaken key dst s)
  { type := type, src := ownPos v.2, dst := dst, hops := hops, key := key, term := v.2.stack.term,
    seq := s.stack.seqOut[seqIndex key dst], iv := v.1, payload := payload, repl := repl }

theorem sendOn_sends {l : Fin 2} {type dst hops key : Nat} {b : Bytes} {x : Option ReplBody} {s : State}
    (hLive : linkLive s l = true) (hHeld : stackKeyHeld s key dst = true) :
    sendOn l type dst hops key b x s = (frameIv key dst (seqTaken key dst s)).2.modLink l
      fun k => { k with lastOut := some (frameSent type dst hops key b x s) } := by
  rw [sendOn, if_neg (by rw [hLive, hHeld]; decide)]
  rfl

theorem sendOn_drops {l : Fin 2} {type dst hops key : Nat} {b : Bytes} {x : Option ReplBody} {s : State}
    (h : ¬ (linkLive s l = true ∧ stackKeyHeld s key dst = true)) : sendOn l type dst hops key b x s = s := by
  rw [sendOn, if_pos]
  rw [Bool.not_eq_true', Bool.not_eq_true']
  exact (not_and_or.mp h).imp Bool.eq_false_of_not_eq_true Bool.eq_false_of_not_eq_true

/-- An unencrypted frame touches the sequence number and the link only. -/
theorem sendOn_clear_pairing (l : Fin 2) (type dst hops : Nat) (b : Bytes) (x : Option ReplBody) (s : State) :
    (sendOn l type dst hops 0 b x s).stack.pairing = s.stack.pairing ∧
    (sendOn l type dst hops 0 b x s).stack.paired = s.stack.paired ∧
    (sendOn l type dst hops 0 b x s).host = s.host := by
  by_cases h : linkLive s l = true ∧ stackKeyHeld s 0 dst = true
  · rw [sendOn_sends h.1 h.2, frameIv_clear]
    exact ⟨rfl, rfl, rfl⟩
  · rw [sendOn_drops h]
    exact ⟨rfl, rfl, rfl⟩

/-! ### Pairing and its failure (16 R442 to R445) -/

/-- The ceremony that `pair` begins on link `l` with the device `id`. -/
def pairingBegun (l : Fin 2) (id : Nat) (src : Source) (q : Nat) (s : State) : Pairing :=
  let intent : Nat := if s.stack.cfg.position ≤ 1 then 0 else 1
  { step := .hello, link := l, peerId := id, intent := intent, source := some (src, q),
    nonce := s.host.freeCount, own := helloPayload s intent id s.host.freeCount }

/-- The state in which the first HELLO of the ceremony leaves; `s` has the link's channels. -/
def pairAsked (l : Fin 2) (id : Nat) (src : Source) (q : Nat) (s : State) : State :=
  (s.modHost fun h => { h with freeCount := s.host.freeCount + 1 }).modStack
    fun t => { t with pairing := some (pairingBegun l id src q s) }

/-- What `pair` leaves: the ceremony begun and its first HELLO sent. -/
def pairStarted (l : Fin 2) (id : Nat) (src : Source) (q : Nat) (s : State) : State :=
  sendOn l 0x01 (pairPeer (pairAsked l id src q s) (pairingBegun l id src q s)) 7 0
    (pairingBegun l id src q s).own none (pairAsked l id src q s)

theorem zeroStackSlot_pairing (n : Nat) (s : State) : (zeroStackSlot n s).stack.pairing = s.stack.pairing :=
  have hKept : (zeroSlot n s).stack = s.stack := (zeroSlot_core n s).same .stack (by decide)
  (congrArg Stack.pairing hKept :)

theorem forgetMember_pairing (p : Fin 8) (s : State) : (forgetMember p s).stack.pairing = s.stack.pairing :=
  zeroStackSlot_pairing ..

theorem clearStack_pairing (s : State) : (clearStack s).stack.pairing = none :=
  congrArg Stack.pairing ((addAct_core _ _ _).same .stack (by decide))

theorem failPairing_ends (s : State) : (failPairing s).stack.pairing = none := by
  unfold failPairing
  split
  next hnone => exact hnone
  next p _ =>
    extract_lets j slot s1 s2 keep s3 s4
    have h3 : s3.stack.pairing = none := rfl
    clear_value s3
    have h4 : s4.stack.pairing = none := by
      unfold s4
      split
      · split
        next q _ =>
          split
          · exact h3
          · exact (forgetMember_pairing q s3).trans h3
        · exact h3
      · exact clearStack_pairing s3
    clear_value s4
    cases p.source with
    | none => exact h4
    | some a => exact h4

/-! ### Links and members (16 R455 to R459) -/

theorem markLost_links (p : Fin 8) (s : State) : (markLost p s).stack.links = s.stack.links := by
  unfold markLost
  dsimp only
  split <;> rfl

theorem addReason_stack (i : Fin 20) (c : Nat) (s : State) : (addReason i c s).stack = s.stack :=
  (addReason_core i c s).same .stack (by decide)

theorem suspectLink_suspect {l : Fin 2} {p : Fin 8} {s : State} (hPaired : s.stack.paired = true)
    (hClear : s.stack.links[l].suspect = false) (hPeer : s.stack.links[l].peerPos = some p) :
    (suspectLink l s).stack.links[l].suspect = true := by
  have hLost : (markLost p (s.modLink l fun k => { k with suspect := true })).stack.links[l].suspect = true := by
    rw [markLost_links]
    exact congrArg StackLink.suspect (get_upd_same ..)
  rw [suspectLink, hPeer]
  dsimp only
  rw [if_neg (by rw [hClear, hPaired]; decide)]
  refine iteInduction (motive := fun u : State => u.stack.links[l].suspect = true) (fun _ => ?_) fun _ => hLost
  rw [addReason_stack]
  exact hLost

/-- A link whose heartbeat of this interval is counted: missed in succession, or heard (16 R456). -/
def StackLink.heartbeatCounted (k : StackLink) : StackLink :=
  { k with missed := if k.fresh then 0 else k.missed + 1, fresh := false }

/-- The state in which the heartbeats of both links are counted. -/
def heartbeatsCounted (s : State) : State :=
  s.modStack fun t => { t with links := vmap (fun _ => StackLink.heartbeatCounted) t.links }

theorem heartbeatsCounted_link (l : Fin 2) (s : State) :
    (heartbeatsCounted s).stack.links[l] = s.stack.links[l].heartbeatCounted := get_vmap ..

theorem stackStatusBytes_length (s : State) : (stackStatusBytes s).length = 264 := by
  have hMembers : (s.stack.members.toList.flatMap fun m => le 16 m.deviceId ++ le 4 m.bootCount ++ le 1 m.state ++
      le 3 0 ++ le 8 m.linkUnc).length = 256 := by
    rw [length_flatMap_of_length (n := 32) fun m _ => by simp only [List.length_append, length_le],
      Vector.length_toList]
  unfold stackStatusBytes
  rw [List.length_append, hMembers]
  simp only [List.length_append, length_le]

/-! ### The time transfer of a link (16 R433, R438) -/

theorem mem_of_mem_insertInt {a x : Int} {l : List Int} (h : x ∈ insertInt a l) : x = a ∨ x ∈ l := by
  induction l with
  | nil => exact .inl (List.mem_singleton.mp h)
  | cons b bs ih =>
    rw [insertInt] at h
    split at h
    · exact List.mem_cons.mp h
    · rcases List.mem_cons.mp h with rfl | hin
      · exact .inr List.mem_cons_self
      · exact (ih hin).imp_right (List.mem_cons_of_mem b)

theorem length_insertInt (a : Int) (l : List Int) : (insertInt a l).length = l.length + 1 := by
  induction l with
  | nil => rfl
  | cons b bs ih =>
    rw [insertInt]
    split
    · rfl
    · rw [List.length_cons, ih, List.length_cons]

theorem mem_of_mem_sorted {x : Int} {l : List Int} (h : x ∈ l.foldr insertInt []) : x ∈ l := by
  induction l with
  | nil => exact h
  | cons a as ih =>
    rcases mem_of_mem_insertInt h with rfl | hin
    · exact List.mem_cons_self
    · exact List.mem_cons_of_mem _ (ih hin)

theorem length_sorted (l : List Int) : (l.foldr insertInt []).length = l.length := by
  induction l with
  | nil => rfl
  | cons a as ih => rw [List.foldr_cons, length_insertInt, ih, List.length_cons]

/-- The median of values that are all `a` is `a`. -/
theorem median2_of_constant {a : Int} {l : List Int} (hLen : 0 < l.length) (h : ∀ x ∈ l, x = a) :
    median2 l = 2 * a := by
  have hAt : ∀ i, i < l.length → (l.foldr insertInt []).getD i 0 = a := by
    intro i hi
    have hi' : i < (l.foldr insertInt []).length := (length_sorted l).symm ▸ hi
    rw [List.getD_eq_getElem _ _ hi']
    exact h _ (mem_of_mem_sorted (List.getElem_mem hi'))
  unfold median2
  dsimp only
  rw [length_sorted, hAt _ (by omega), hAt _ (by omega), Int.two_mul]

/-- The exchanges of an interval whose round trip is near the median: those that its mean is of. -/
def usedExchanges (l : List Exchange) : List Exchange :=
  l.filter fun e => decide ((2 * e.trip - median2 (l.map (·.trip))).natAbs * 1000 ≤ 2 * 100 * 65536)

theorem usedExchanges_of_constant {e : Exchange} {l : List Exchange} (hLen : 0 < l.length)
    (h : ∀ x ∈ l, x = e) :
    usedExchanges l = l := by
  have hMedian : median2 (l.map (·.trip)) = 2 * e.trip :=
    median2_of_constant (by rwa [List.length_map]) fun x hx => by
      obtain ⟨y, hy, rfl⟩ := List.mem_map.mp hx
      rw [h y hy]
  refine List.filter_eq_self.mpr fun x hx => ?_
  rw [h x hx, hMedian, Int.sub_self]
  decide

/-- The state in which the outliers of link `l` are counted and its exchanges taken. -/
def outliersCounted (l : Fin 2) (s : State) : State :=
  countLink l (fun c => { c with rttOutlier := c.rttOutlier +
    (s.stack.links[l].exchanges.length - (usedExchanges s.stack.links[l].exchanges).length) })
    (s.modLink l fun x => { x with exchanges := [] })

theorem outliersCounted_link (l : Fin 2) (s : State) : (outliersCounted l s).stack.links[l] =
    { s.stack.links[l] with
        exchanges := []
        counters := { s.stack.links[l].counters with rttOutlier := s.stack.links[l].counters.rttOutlier +
          (s.stack.links[l].exchanges.length - (usedExchanges s.stack.links[l].exchanges).length) } } := by
  refine (get_upd_same ..).trans ?_
  rw [modLink_stack]
  dsimp only
  rw [get_upd_same]

/-- The state with the link uncertainty `lu` in the device's own member record. -/
def ownUncSet (lu : Nat) (s : State) : State :=
  match asFin 8 s.stack.position with
  | some p => s.modMember p fun x => { x with linkUnc := lu }
  | none => s

theorem ownUncSet_kept (lu : Nat) (s : State) : (ownUncSet lu s).refs = s.refs ∧
    (ownUncSet lu s).stack.links = s.stack.links ∧ now (ownUncSet lu s) = now s := by
  unfold ownUncSet
  split <;> exact ⟨rfl, rfl, rfl⟩

theorem execStackTransferInterval_measures {l : Fin 2} {s : State} (hPaired : s.stack.paired = true)
    (hUp : s.stack.upstream = some l) (hMany : 50 ≤ s.stack.links[l].exchanges.length)
    (hUsed : usedExchanges s.stack.links[l].exchanges = s.stack.links[l].exchanges) :
    ∃ (lu w : Nat), execStackTransferInterval l s = .next (refArrival stackRef (takeOffset stackRef
      (rdiv ((s.stack.links[l].exchanges.map (·.theta)).foldl (· + ·) 0) s.stack.links[l].exchanges.length) (now s)
      ((ownUncSet lu (outliersCounted l s)).modRef stackRef fun x => { x with uncertainty := w }))) := by
  unfold execStackTransferInterval
  extract_lets k s0 m used s1 th u a lu bn s2 s3
  rw [if_neg (by rw [modLink_stack, hPaired, hUp]; simp), if_neg (Nat.not_lt.mpr hMany)]
  have hAll : used = s.stack.links[l].exchanges := hUsed
  have hOffsets : th = s.stack.links[l].exchanges.map (·.theta) := congrArg (List.map (·.theta)) hAll
  have hNow : now s3 = now s := (ownUncSet_kept lu (outliersCounted l s)).2.2
  rw [if_neg (hAll ▸ List.ne_nil_of_length_pos (Nat.lt_of_lt_of_le (by decide) hMany)), hNow, hOffsets, List.length_map]
  exact ⟨lu, if lu = unbounded ∨ bn = unbounded then unbounded else satBound (bn + lu), rfl⟩

/-- Settles O60: `sendOn` by its frame, the links by the reads of their record, the interval by its median. -/
theorem stackMembershipAndLinksFollowTheirRules : Obligations.StackMembershipAndLinksFollowTheirRules := by
  unfold Obligations.StackMembershipAndLinksFollowTheirRules
  refine ⟨?_, ?_, ?_, ?_, ?_, ?_, ?_, ?_, ?_, ?_, ?_, ?_, ?_, ?_, ?_, ?_, ?_, ?_, ?_,
    fun s l p => suspectLink_suspect, ?_, ?_, ?_, ?_, ?_, ?_, fun s => exec_pairingStepTimeout s, ?_, ?_, ?_, ?_, ?_, ?_,
    ?_, ?_, ?_, ?_, ?_, ?_⟩
  · intro s t r p l id hLen hReady hService hPaired hNone hLive hDrbg hEntropy hTake
    obtain ⟨hPairing, hKept, hHost⟩ := sendOn_clear_pairing l 0x01
      (pairPeer (pairAsked l id r.src p.sequence t) (pairingBegun l id r.src p.sequence t)) 7
      (pairingBegun l id r.src p.sequence t).own none (pairAsked l id r.src p.sequence t)
    refine ⟨pairStarted l id r.src p.sequence t, pairingBegun l id r.src p.sequence t, ?_, hPairing, rfl, rfl, rfl, rfl,
      congrArg (·.freeCount) hHost, hKept⟩
    rw [exec_pair, execPair]
    refine runAccepted_ok hLen hReady ?_
    rw [asFin_val]
    refine (need_true ?_).trans ((need_true ?_).trans ?_)
    · rw [hService, hPaired, hNone, hLive]
      rfl
    · rw [hDrbg, hEntropy]
      rfl
    · rw [hTake]
      rfl
  · intro s r l id hAsks hBad
    rw [exec_pair, execPair]
    refine runAccepted_error hAsks fun q => ?_
    rw [asFin_val]
    refine need_false ?_
    rcases hBad with h | h | h <;> rw [h] <;> simp
  · intro s r l id hAsks hService hPaired hNone hLive hDrbg hEntropy hTake
    rw [exec_pair, execPair]
    refine runAccepted_error hAsks fun q => ?_
    rw [asFin_val]
    refine (need_true ?_).trans ((need_true ?_).trans ?_)
    · rw [hService, hPaired, hNone, hLive]
      rfl
    · rw [hDrbg, hEntropy]
      rfl
    · rw [hTake]
  · intro s r p hLen hReady hPaired hNone hRole
    rw [exec_detach, execDetach]
    refine runAccepted_ok hLen hReady ((need_true ?_).trans (if_neg hRole))
    rw [hPaired, hNone]
    rfl
  · intro s r p hLen hReady hPaired hNone hRole hTwin
    rw [exec_detach, execDetach]
    refine runAccepted_ok hLen hReady ((need_true ?_).trans ((if_pos hRole).trans (if_pos hTwin)))
    rw [hPaired, hNone]
    rfl
  · intro s r hAsks hPaired
    rw [exec_detach, execDetach]
    refine runAccepted_error hAsks fun q => need_false ?_
    rw [hPaired]
    rfl
  · intro s t r v n hAsks hv hPaired hJudge
    rw [exec_witness, execWitness]
    exact runSimple_ok hAsks ((need_true (decide_eq_true hv)).trans ((need_true hPaired).trans hJudge))
  · intro s r v n e hAsks hv hPaired hJudge
    rw [exec_witness, execWitness]
    exact runSimple_error hAsks ((need_true (decide_eq_true hv)).trans ((need_true hPaired).trans hJudge))
  · intro s r v n hAsks hv
    rw [exec_witness, execWitness]
    exact runSimple_error hAsks (need_false (decide_eq_false (Nat.not_le.mpr hv)))
  · intro s v n hOld
    exact if_pos hOld
  · intro s v n hNew hRole
    rw [judgeWitness]
    exact (if_neg (Nat.not_le.mpr hNew)).trans (if_pos hRole)
  · intro s n hNew hRole hLost
    rw [judgeWitness, if_neg (Nat.not_le.mpr hNew), if_neg (by rw [hRole]; decide), if_pos hRole,
      if_neg Nat.one_ne_zero]
    exact if_pos (decide_eq_true hLost)
  · intro s r hAsks
    rw [exec_stackStatus, execStackStatus]
    exact ⟨runRead_asked hAsks rfl, stackStatusBytes_length s, rfl⟩
  · intro s l hDown hOn
    rw [exec_stackLinkUp, execStackLinkUp, if_neg (by rw [hDown, hOn]; decide)]
  · intro s l hOff
    rw [exec_stackLinkUp, execStackLinkUp, if_pos (.inr (by rw [hOff]; rfl))]
  · intro s l hUp
    rw [exec_stackLinkDown, execStackLinkDown, if_neg (by rw [hUp]; decide)]
  · intro s l hDown
    rw [exec_stackLinkDown, execStackLinkDown, if_pos (by rw [hDown]; rfl)]
  · intro s l p hPaired hClear hPeer hMissed
    rw [exec_heartbeatMiss, execHeartbeatMiss]
    refine if_neg ?_
    rw [hPaired, hClear, hPeer]
    simpa [-Fin.getElem_fin] using hMissed
  · intro s l hFew
    rw [exec_heartbeatMiss, execHeartbeatMiss]
    exact if_pos (.inr (.inr (.inr hFew)))
  · intro s hPaired
    refine ⟨_, heartbeatsCounted s, ?_, fun l => ?_, rfl, rfl⟩
    · rw [exec_heartbeatSend, execHeartbeatSend, if_neg (by rw [hPaired]; decide)]
      rfl
    · rw [heartbeatsCounted_link]
      exact ⟨rfl, rfl⟩
  · intro s hAlone
    rw [exec_heartbeatSend, exec_stateSend, execHeartbeatSend, execStateSend, hAlone]
    exact ⟨rfl, rfl⟩
  · intro s hPaired
    rw [exec_stateSend, execStateSend, if_neg (by rw [hPaired]; decide)]
  · intro s l type dst hops key b x hLive hHeld
    have hIv := frameIv_undrawn key dst (seqTaken key dst s)
    refine ⟨frameSent type dst hops key b x s, ?_, rfl, rfl, rfl, rfl, rfl, rfl, rfl,
      (field_of_undrawn Stack.term hIv :), ?_⟩
    · rw [sendOn_sends hLive hHeld]
      exact congrArg StackLink.lastOut (get_upd_same ..)
    · rw [sendOn_sends hLive hHeld]
      refine (congrArg (·[seqIndex key dst]) (field_of_undrawn Stack.seqOut hIv)).trans ?_
      exact get_upd_same ..
  · intro s id f hFind hFew
    refine ⟨_, ?_, rfl⟩
    rw [exec_replicationRetransmit, execReplicationRetransmit, hFind]
    exact if_neg (Nat.not_le.mpr hFew)
  · intro s id hNone
    rw [exec_replicationRetransmit, execReplicationRetransmit, hNone]
    rfl
  · intro s hNone
    rw [failPairing, hNone]
  · intro s _
    exact ⟨_, exec_pairingStepTimeout s, failPairing_ends s⟩
  · intro s hWait
    rw [exec_witnessTimeout, execWitnessTimeout, if_pos hWait]
  · intro s hWait hPrimary
    rw [exec_witnessTimeout, execWitnessTimeout, if_neg (ne_true_of_eq_false hWait), if_neg (by rw [hPrimary]; decide)]
  · intro s b k hAt hKey hDue hPaired
    rw [exec_stackKeySwitch, execStackKeySwitch, hAt, hKey]
    refine if_neg ?_
    rw [hPaired]
    simpa using hDue
  · intro s hNone
    rw [exec_stackKeySwitch, execStackKeySwitch, hNone]
  · intro s
    rw [exec_stackOldKeyExpiry, execStackOldKeyExpiry]
  · intro s hSome
    rw [exec_detachAckTimeout, execDetachAckTimeout, if_neg (by simpa using hSome)]
  · intro s hNone
    rw [exec_detachAckTimeout, execDetachAckTimeout, if_pos (by rw [hNone]; rfl)]
  · intro s l hOther
    rw [exec_stackTransferInterval, execStackTransferInterval]
    exact if_pos (.inr hOther)
  · intro s l hPaired hUp hFew
    rw [exec_stackTransferInterval, execStackTransferInterval]
    refine (if_neg ?_).trans (if_pos hFew)
    simp [hPaired, hUp]
  · intro s l e hPaired hUp hMany hSame
    have hUsed := usedExchanges_of_constant (by omega) hSame
    obtain ⟨lu, w, hExec⟩ := execStackTransferInterval_measures hPaired hUp hMany hUsed
    obtain ⟨hRefs, hLinks, _⟩ := ownUncSet_kept lu (outliersCounted l s)
    have hLink : (ownUncSet lu (outliersCounted l s)).stack.links[l] = (outliersCounted l s).stack.links[l] :=
      congrArg (·[l]) hLinks
    refine ⟨ownUncSet lu (outliersCounted l s), _, w, (exec_stackTransferInterval l s).trans hExec, rfl,
      hRefs.trans rfl, ?_, ?_⟩
    · rw [hLink, outliersCounted_link]
    · rw [hLink, outliersCounted_link, hUsed, Nat.sub_self]
      rfl

end Sys2Proof.Machine

end
